-- ==== Sys2Proof/Word.lean ====
section
/-! DEFINITION. The word types of the module and their plainest arithmetic (R7, R8). -/
namespace Sys2Proof

/-- One byte (R7). -/
abbrev Byte := BitVec 8

/-- One 64-bit word: a flit of the signal network, a count, a module time (R8). -/
abbrev Word := BitVec 64

end Sys2Proof
end

