-- ==== Sys2Proof/Syntax.lean ====
section
/-! DEFINITION. The commands of the block: one constructor of `Instr` for each row of the opcode table, and
the packets, records and messages that stand in their operands. -/
namespace Sys2Proof

/-- A mesh or slot flit: 64 B of payload and its POISON sideband bit (R77). -/
structure Flit where
  data : List Byte
  poison : Bool
deriving DecidableEq, Repr

/-- A die-mesh packet (R79 Table 3): nodes 0 to 63 are tiles, 64 + k the adapter of port k. -/
structure MeshPacket where
  dst : BitVec 7
  src : BitVec 7
  vc : BitVec 2
  kind : BitVec 4
  len : BitVec 5
  fields : BitVec 39
  flits : List Flit
deriving DecidableEq, Repr

/-- A signal-network packet (R91 Table 7). -/
structure SigPacket where
  dst : BitVec 7
  src : BitVec 7
  vc : BitVec 2
  ptype : BitVec 4
  len : BitVec 3
  poison : Bool
  fields : BitVec 40
  payload : List Word
deriving DecidableEq, Repr

/-- A fault message (R347 Table 1). -/
structure FaultMsg where
  site : BitVec 7
  block : BitVec 5
  kind : BitVec 8
  severity : BitVec 3
  poison : Bool
  detail : BitVec 40
deriving DecidableEq, Repr

/-- A load or store request of a compute die (R91 Table 8, R171). -/
structure Request where
  src : BitVec 7
  tile : BitVec 6
  tag : BitVec 10
  flow : BitVec 16
  linesM1 : BitVec 16
  addr : BitVec 44
deriving DecidableEq, Repr

/-- An operation record (R183 Table 8); `res3` is its reserved byte 3. -/
structure OpRecord where
  op : BitVec 8
  fmt : BitVec 8
  lines : BitVec 8
  res3 : BitVec 8
  id : BitVec 32
  addr : Word
  operand : Word
  compare : Word
deriving DecidableEq, Repr

/-- A slot header (R110 Table 4); `more` is word 2 [63:17], reserved but in a FABRIC slot (R233). -/
structure SlotHeader where
  srcSite : BitVec 7
  srcPort : BitVec 4
  dstSite : BitVec 7
  dstPort : BitVec 4
  kind : BitVec 3
  flits : BitVec 5
  last : Bool
  flow : BitVec 16
  gen : BitVec 8
  service : BitVec 4
  poison : BitVec 26
  offset : BitVec 32
  tile : BitVec 6
  tag : BitVec 10
  req : Bool
  more : BitVec 47
  frame : BitVec 32
deriving DecidableEq, Repr

/-- A slot's burst: its MARK, its header and the payload flits it carries (R109), and the lines that carry PRBS-15 in all its bit periods
instead of a lane (R149, R153, R443). -/
structure Burst where
  mark : BitVec 8
  head : SlotHeader
  flits : List Flit
  prbs : List Nat := []
deriving DecidableEq, Repr

/-- The kinds of common arbiter (R100 Table 10, R121, R188, and the fabric die arbiters). -/
inductive ArbKind where
  | engine   -- engine port of tile `64 * cd + t`
  | mesh     -- router output: `(64 * cd + router) * 8 + output`
  | signal   -- a signal-network interface, hub output or ring injection
  | stack    -- channel: `4 * md + channel`
  | fabric   -- a fabric die arbiter
  | house    -- the house-slot choice of a die, by site
deriving DecidableEq, Repr

/-- A request raised at an arbiter: the requester's place in requester order, the virtual channel of its packet (mesh and signal
network; at a stack channel 1 is a read-modify-write), and its length: LEN of a packet, cycles of an engine access. -/
structure ArbReq where
  requester : Fin 32
  vc : Fin 16
  len : Fin 32
deriving DecidableEq, Repr

/-- What a grant in use was carrying when it is cut off (R99, R100). -/
inductive CutItem where
  | nothing
  | bank (b : Fin 16)   -- the bank a stack channel's access waits for
  | mesh (p : MeshPacket) (got : Fin 17)   -- flits already forwarded
  | sig (p : SigPacket)
deriving DecidableEq, Repr


/-- A fabric packet: its header's fields, the remaining header words and the payload flits (R239 Table 2).
`w4` to `w7` are words 4 to 7 as the operation uses them; `headPoison` is the POISON bit of the header flit. -/
structure FabPacket where
  opc : BitVec 8
  vc : BitVec 2
  len : BitVec 5
  attempt : BitVec 2
  origFd : BitVec 3
  dst : BitVec 12
  src : BitVec 12
  tag : BitVec 12
  status : BitVec 4
  dlc : Bool
  addr : BitVec 56
  hops : BitVec 8
  key : BitVec 32
  tmo : BitVec 10
  group : BitVec 10
  flag : BitVec 12
  handle : BitVec 16
  sent : Word
  w4 : Word
  w5 : Word
  w6 : Word
  w7 : Word
  headPoison : Bool
  data : List Flit
deriving DecidableEq, Repr

/-- An Ethernet frame as the MAC of a host port receives it (R278): its port, its length, whether its frame check sequence holds, the ID of
its 802.1Q tag if it has one, and its priority. -/
structure HostFrame where
  port : Fin 2
  bytes : Nat
  fcsOk : Bool := true
  vlan : Option (Fin 4096) := none
  prio : Fin 8 := 3
deriving DecidableEq, Repr

/-- The sender of an IEEE 1588 message: its domain and its port identity (R293). -/
structure PtpSender where
  domain : BitVec 8
  ident : BitVec 80
deriving DecidableEq, Repr

/-- The cage of a host port as read in step 1 of a bring-up (R277, R279): a direct-attach copper cable or an optical module, the modes of
Table 1 that it supports, mode m at bit m, and what its CMIS power class needs, in W (R464). -/
structure Cage where
  port : Fin 2
  copper : Bool
  modes : BitVec 4
  watts : BitVec 8
deriving DecidableEq, Repr

/-- How a Punel unit came (R408, R409): spoiled on the way; over UDP as a fragment, its frame's length, the ID of its tag, and the UDP port it was
sent to. -/
structure UnitFrame where
  spoiled : Bool := false
  fragment : Bool := false
  bytes : Nat := 0
  vlan : Option (Fin 4096) := none
  dport : BitVec 16 := 45390
deriving DecidableEq, Repr

/-- One packet of an RDMA WRITE message (R280): its place in the message, the RETH fields of a first packet. -/
structure WritePkt where
  psn : BitVec 24
  first : Bool
  last : Bool
  va : Word
  rkey : BitVec 32
  len : BitVec 32
  data : List Byte
deriving DecidableEq, Repr

/-- What a peer answers to a request of the module (R281). -/
inductive AckKind where
  | ack | rnr | sequence | error
deriving DecidableEq, Repr

/-- The data set of an IEEE 1588 Announce message (R293), with the identity of the port that sent it. -/
structure AnnounceMsg where
  domain : BitVec 8
  priority1 : BitVec 8
  clockClass : BitVec 8
  accuracy : BitVec 8
  variance : BitVec 16
  priority2 : BitVec 8
  identity : BitVec 64
  steps : BitVec 16
  sender : BitVec 80
deriving DecidableEq, Repr

/-- A ring: its port, its side and its line (R139). -/
structure RingId where
  port : Fin 366
  rx : Bool
  line : Fin 36
deriving DecidableEq, Repr

/-- A ring's tone window (R144, R145): whether it ended a whole pass of a sweep, and the amplitude at each of the 36 identity tones, in
0.01 % of modulation depth. -/
structure RingWindow where
  ring : RingId
  pass : Bool
  tones : List (BitVec 16)
deriving DecidableEq, Repr

/-- What a monitor sees (R140, R142, R143, R145, R150, R299): the power at a comb's output tap, at a port's tap and at a ring; the code and the drop
power of the peak that a ring's search came to, or none; the extinction ratio of a line under calibration at a transmitter, in 0.01 dB; what
a receiver took from a line under calibration in a burst; the eye edge's and the phase detector's ask for a step up or down; what receivers measure of a
port's bursts from their preamble: that they arrive late or early (R299). -/
inductive Monitor where
  | comb (c : Fin 10) (line : Fin 36) (power : BitVec 16)
  | tap (port : Fin 366) (line : Fin 36) (power : BitVec 16)
  | drop (ring : RingId) (power : BitVec 16)
  | peak (ring : RingId) (found : Option (BitVec 16 × BitVec 16))
  | extinction (ring : RingId) (ratio : BitVec 16)
  | prbs (ring : RingId) (bits : BitVec 448)
  | eye (ring : RingId) (up : Bool)
  | phase (ring : RingId) (up : Bool)
  | arrival (port : Fin 366) (late : Bool)
deriving DecidableEq, Repr

/-- What a barista's check of itself finds (R383 checks 2, 3 and 5): its cores' answers match or differ; a double error in its working
SRAM; a unit of its carafe, by its offset, whose write failed twice (R389). -/
inductive SelfCheck where
  | right
  | wrong
  | sramDouble
  | badUnit (offset : BitVec 29)
deriving DecidableEq, Repr

/-- What a record of the factory area describes (R397): the module's identity, a port's calibration baseline, a port's tap baselines, a comb's factory
values, the model of a stack. -/
inductive FactoryItem where
  | identity
  | baseline (port : Fin 366)
  | taps (port : Fin 366)
  | comb (c : Fin 10)
  | model (n : Fin 16)
deriving DecidableEq, Repr

/-- A client of the dictionary (R413): its MAC on the field network, or host port, address and UDP port. -/
inductive ClientId where
  | field (mac : BitVec 48)
  | udp (port : Fin 2) (addr : BitVec 128) (uport : BitVec 16)
deriving DecidableEq, Repr

/-- What a vertical joint group carries (R445 Table 3). -/
inductive JointCarries where
  | lines (port : Fin 366) (rx : Bool) (mask : BitVec 36)
  | deepData (tile : Fin 64)
  | deepBank (tile : Fin 64) (bank : Fin 16)
  | control
deriving DecidableEq, Repr

/-- What start-up meets, by step (R439 to R449): the input reaches 45 V; the stages' self-test; a boot ROM's results; a carafe's
recovery, with the units that fail their internal check and the factory records that fail CHECK, by copy; a die's report; a die's self-test; a joint group's failed joints and the end of that test; a comb; a stack's training;
a line's errors in link qualification; the end of a step. -/
inductive StartEvent where
  | input (slotId : BitVec 6)
  | stages (bad : List (Fin 12))
  | rom (n : Fin 2) (pass plate : Bool)
  | carafe (n : Fin 2) (erased : List (BitVec 24)) (lost : List (Fin 2 × FactoryItem))
  | report (site : Fin 100) (kind rev level : BitVec 8) (id : Word)
  | selfTest (site : Fin 100) (pass : Bool)
  | joints (site : Fin 100) (group : BitVec 16) (carries : JointCarries) (failed : List (Fin 34))
  | jointsTested
  | comb (c : Fin 10) (locked : Bool)
  | stack (m : Fin 24) (trained : Bool) (badDie : Option (Fin 18))
  | line (port : Fin 366) (rx : Bool) (line : Fin 36) (uncorrected : Bool) (corrected : BitVec 32)
  | ended
deriving DecidableEq, Repr

/-- Lines that fail the march and how many (R447): in a tile store, in a deep store, or in the other buffers of a die. -/
inductive MarchFail where
  | store (cd : Fin 16) (t : Fin 64) (deep : Bool) (lines : BitVec 32)
  | buffer (site : Fin 100) (lines : BitVec 32)
deriving DecidableEq, Repr

/-- The commands of the block: one constructor per row of the opcode table. -/
inductive Instr where
  /-- NOP (R42). The matrix engine starts a NOP descriptor, which retires in order and has no effect. -/
  | nop (cd : Fin 16) (t : Fin 64)
  /-- MMA (R35). The matrix engine starts an MMA descriptor, which adds A times B into the named accumulator in increasing k. -/
  | mma (cd : Fin 16) (t : Fin 64)
  /-- ACC_LOAD (R42). The transfer path widens M by N elements from the tile store exactly into an accumulator and zeroes its other cells. -/
  | accLoad (cd : Fin 16) (t : Fin 64)
  /-- ACC_STORE (R55). The transfer path converts ALPHA times each accumulator cell to OFMT with the chosen rounding and writes it to the tile store. -/
  | accStore (cd : Fin 16) (t : Fin 64)
  /-- ACC_ZERO (R42). The transfer path clears all 2,048 cells of an accumulator and makes it empty. -/
  | accZero (cd : Fin 16) (t : Fin 64)
  /-- MARK (R42). A MARK descriptor retires once every earlier descriptor has retired, and serves as a completion point. -/
  | mark (cd : Fin 16) (t : Fin 64)
  /-- DESCRIPTOR_RETIRE (R47). A completed descriptor retires in queue order, MQ_DONE advances and its tile-store writes become visible. -/
  | descriptorRetire (cd : Fin 16) (t : Fin 64)
  /-- MQ_TAIL (R45). A core write to MQ_TAIL publishes descriptors and orders earlier stores before the engine reads them. -/
  | mqTail (cd : Fin 16) (t : Fin 64) (v : Word)
  /-- MQ_CLEAR (R49). Writing MQ_CTRL.CLEAR discards the faulting descriptor and later descriptors, sets MQ_HEAD and MQ_DONE to MQ_TAIL, and clears HALTED, ERROR and ABORTED. -/
  | mqClear (cd : Fin 16) (t : Fin 64) (v : Word)
  /-- MQ_ABORT (R49). Writing MQ_CTRL.ABORT discards every descriptor not yet started and waits for started descriptors to complete. -/
  | mqAbort (cd : Fin 16) (t : Fin 64) (v : Word)
  /-- MQ_ABORTED (R49). Once the started descriptors complete after an abort, MQ_HEAD and MQ_DONE are set to MQ_TAIL and ABORTED is set. -/
  | mqAborted (cd : Fin 16) (t : Fin 64)
  /-- MQ_BASE (R44). A write to MQ_BASE moves the command ring, and is ignored unless MQ_DONE equals MQ_TAIL. -/
  | mqBase (cd : Fin 16) (t : Fin 64) (v : Word)
  /-- SR_SEED (R58). A write to SR_SEED sets the stochastic-rounding state, and a written 0 is stored as 1. -/
  | srSeed (cd : Fin 16) (t : Fin 64) (v : Word)
  /-- DMA_LEN (R29). A write to DMA_LEN starts a copy between the tile's own stores, and stalls the core when eight copies are already outstanding. -/
  | dmaLen (cd : Fin 16) (t : Fin 64) (v : Word)
  /-- DMA_COPY_DONE (R29). A copy completes in start order and increments DMA_DONE. -/
  | dmaCopyDone (cd : Fin 16) (t : Fin 64)
  /-- DMA_FLOW (R203). A write to DMA_FLOW starts the tile's next transfer of the named flow and issues its request. -/
  | dmaFlow (cd : Fin 16) (t : Fin 64) (v : Word)
  /-- CORE_INSTRUCTION (R26). The control core executes one RV64GC instruction in machine mode against its tile-store and deep-store address space. -/
  | coreInstruction (cd : Fin 16) (t : Fin 64)
  /-- VECTOR_INSTRUCTION (R28). The vector unit executes one RISC-V V 1.0 instruction. -/
  | vectorInstruction (cd : Fin 16) (t : Fin 64)
  /-- CSR_WRITE (R44). A write to a tile CSR that has no behaviour of its own stores the value, or clears the written bits of a write-1-to-clear CSR. -/
  | csrWrite (cd : Fin 16) (t : Fin 64) (csr : Fin 32) (v : Word)
  /-- PACKED_UNIT (R61). A whole 4 KiB packed unit arrives at a port inflater, which decodes and expands it into quads or pairs. -/
  | packedUnit (p : Fin 192)
  /-- UNIT_CHECK_DONE (R64). The unit's CRC check completes, and either UNIT_CHECKED progress is signalled or the output range is rewritten poison-marked. -/
  | unitCheckDone (p : Fin 192)
  /-- ENGINE_GUARD (R71). After 16 consecutive engine waits the tile store refuses the network port for one cycle and serves the engine. -/
  | engineGuard (cd : Fin 16) (t : Fin 64)
  /-- DEEP_STORE_WAKE (R76). A cache die finishes waking from Off, clearing every line in clear-on-wake mode, and reports On. -/
  | deepStoreWake (n : Fin 16)
  /-- WRITE (R82). A mesh WRITE packet reaches its destination tile's network port and its flits are written to the named lines. -/
  | write (cd : Fin 16) (p : MeshPacket) (eng : List (Nat × Byte))
  /-- READ_REQ (R79). A mesh READ_REQ reaches its target, which reads the lines and answers with READ_RSP. -/
  | readReq (cd : Fin 16) (p : MeshPacket)
  /-- READ_RSP (R79). A mesh READ_RSP reaches the requester and its lines are written at RLINE. -/
  | readRsp (cd : Fin 16) (p : MeshPacket) (eng : List (Nat × Byte))
  /-- REDUCE (R86). A REDUCE packet reaches the head of a router input and waits for a partner to combine with. -/
  | reduce (cd : Fin 16) (r : Fin 64) (p : MeshPacket)
  /-- COMBINE_WAIT_EXPIRY (R86). The combine wait of a REDUCE packet ends, or the combining buffer is full, and the packet goes on unchanged. -/
  | combineWaitExpiry (cd : Fin 16) (r : Fin 64) (n : Fin 32)
  /-- COMBINE_FLIT (R88). The destination combining unit writes or adds a REDUCE flit into its line and updates the line's count. -/
  | combineFlit (cd : Fin 16) (p : MeshPacket) (n : Fin 16) (eng : List (Nat × Byte))
  /-- NOTICE (R79). A NOTICE packet with a collision, fenced, cut or overcount code reaches its source node. -/
  | notice (cd : Fin 16) (p : MeshPacket)
  /-- UNIT_CHECKED (R205). A PROGRESS packet with EVENT UNIT_CHECKED reaches a tile and adds the unit's output lines to the flow's checked count. -/
  | unitChecked (cd : Fin 16) (p : MeshPacket)
  /-- REDUCE_DONE (R205). A PROGRESS packet with EVENT REDUCE_DONE reaches the destination tile and completes its mesh reduction transfer. -/
  | reduceDone (cd : Fin 16) (p : MeshPacket)
  /-- MESH_HOP (R78). A mesh packet reaches an intermediate router, which forwards it by dimension order, or discards it when its destination tile is fenced. -/
  | meshHop (cd : Fin 16) (r : Fin 64) (p : MeshPacket)
  /-- MESH_DISCARD (R79). A packet with an unlisted KIND, or with a line range past line 16,383, is discarded and a fault message is raised. -/
  | meshDiscard (cd : Fin 16) (r : Fin 64) (p : MeshPacket)
  /-- SIG_FLIT (R90). A signal-network flit is received and CRC-checked, and a failed check is answered with a negative acknowledgement and a repeat. -/
  | sigFlit (l : Fin 144) (w : Word) (crc : BitVec 8)
  /-- SIG_LINK_FAIL (R90). A fourth consecutive failure of one flit takes the link out of service, so a ring segment is rerouted or a hub link fences its die. -/
  | sigLinkFail (l : Fin 144)
  /-- SIG_DISCARD (R91). A signal-network packet of an unlisted TYPE is discarded and a fault message is raised. -/
  | sigDiscard (site : Fin 100) (p : SigPacket)
  /-- BARRIER_ARRIVE (R208). A barrier group's home die records a die's arrival for an epoch and releases the epoch once every member die has arrived. -/
  | barrierArrive (cd : Fin 16) (src : BitVec 7) (g : BitVec 8) (e : BitVec 32)
  /-- BARRIER_RELEASE (R208). A member die receives the release of an epoch and increments SYNC_EPOCH of its member tiles. -/
  | barrierRelease (cd : Fin 16) (src : BitVec 7) (g : BitVec 8) (e : BitVec 32)
  /-- FLAG_WRITE (R209). A flag's home die applies a store or add, and sends FLAG_NOTIFY to every die that carries subscribers. -/
  | flagWrite (cd : Fin 16) (src : BitVec 7) (f : BitVec 12) (op : BitVec 4) (v : Word)
  /-- FLAG_NOTIFY (R209). A die updates its copy of a flag from its home's notify. -/
  | flagNotify (cd : Fin 16) (src : BitVec 7) (f : BitVec 12) (v : Word)
  /-- LOAD_REQ (R172). A memory base die reads its share of the requested lines and sends them in the flow's job slots, followed by REQ_DONE. -/
  | loadReq (md : Fin 24) (r : Request)
  /-- STORE_REQ (R172). A memory base die accepts a store request and writes, reduces or executes each line or record as it arrives. -/
  | storeReq (md : Fin 24) (r : Request)
  /-- REQ_DONE (R171). A requesting die collects a REQ_DONE answer, and reports the request complete with the worst status once all dies have answered. -/
  | reqDone (cd : Fin 16) (md : Fin 24) (tile : BitVec 6) (tag : BitVec 10) (status : BitVec 2)
  /-- TIME (R307). Each die compares the module time carried by TIME with its count at the named boundary, and loads it if they differ. -/
  | time (src : BitVec 7) (v : Word)
  /-- ARBITER_DECISION (R97). A common arbiter grants its free resource to the forced, or otherwise the next eligible, requester and updates the wait counters. -/
  | arbiterDecision (kind : ArbKind) (n : Fin 100000) (rs : List ArbReq)
  /-- HOLD_CUT (R99). A requester still holding a resource at its hold limit has its grant ended, with the instance's cut-off effect and a fault message. -/
  | holdCut (kind : ArbKind) (n : Fin 100000) (item : CutItem)
  /-- ARBITER_WINDOW_END (R97). An arbiter window of 1,024 resource cycles ends, grant counts and fall-back are reset, and written settings take effect. -/
  | arbiterWindowEnd (kind : ArbKind) (n : Fin 100000)
  /-- FRAME_BOUNDARY (R115). A frame boundary arrives, and the table swaps, exclusions, switch-ins, failures and bypasses named for it take effect. -/
  | frameBoundary
  /-- SLOT_START (R108). A slot begins, and each port sends its burst by the house blend or the active table, or stays dark. -/
  | slotStart (sl : Fin 64) (short : List (Nat × Nat))
  /-- SLOT_BURST (R113). A receiving port decodes a burst, checks the acceptance conditions, and delivers or discards the slot. -/
  | slotBurst (q : Fin 366) (bits : BitVec 14336)
  /-- TABLE_HEADER_SLOT (R125). A base tile takes a PART 0 TABLE slot, which claims or restarts the shadow, or is refused with RESULT 3. -/
  | tableHeaderSlot (bt : Fin 8) (src : BitVec 7) (fs : List Flit)
  /-- TABLE_ROWS_SLOT (R125). A base tile takes a PART 1 TABLE slot and stores its rows in the shadow. -/
  | tableRowsSlot (bt : Fin 8) (src : BitVec 7) (fs : List Flit)
  /-- TABLE_CHECKED (R124). A base tile finishes the rejection checks on a loaded set and sends TABLE_VERDICT. -/
  | tableChecked (bt : Fin 8)
  /-- TABLE_VERDICT (R126). The owner job engine receives a base tile's accepted, rejected, late or busy verdict. -/
  | tableVerdict (hd : Fin 2) (bt : Fin 8) (seq : BitVec 32) (gen : BitVec 8) (result : BitVec 8) (cause : Word)
  /-- TABLE_SWAP (R127). A base tile arms a swap to the accepted shadow at T, or answers that the swap is late or unaccepted. -/
  | tableSwap (bt : Fin 8) (src : BitVec 7) (gen : BitVec 8) (t : Word)
  /-- TABLE_CLEAR (R128). Base tiles empty the owner's shadow and release its claim. -/
  | tableClear (src : BitVec 7) (seq : BitVec 32) (gen : BitVec 8) (owner : BitVec 7)
  /-- PORT_FAILED (R133). Each base tile handles the named port as failed at Tf, keeping, promoting or dropping the active set. -/
  | portFailed (src : BitVec 7) (seq : BitVec 32) (p : Fin 366) (t : Word)
  /-- LANE_EXCLUDE (R107). Each base tile adds a line to a port's exclusion set at the named boundary. -/
  | laneExclude (src : BitVec 7) (seq : BitVec 32) (p : Fin 366) (rx : Bool) (line : Fin 36) (t : Word)
  /-- LANE_EXCLUDE_CLEAR (R107). A write names a port whose exclusion sets are cleared at the next start-up, subject to the start-up tests. -/
  | laneExcludeClear (p : Fin 366)
  /-- HOUSE_BLEND_CHANGE (R118). A written house blend mode takes effect at the first frame boundary with no job, and sets compiled for the reduced blend are discarded. -/
  | houseBlendChange
  /-- LINE_MARGINAL (R130). Corrected symbols on one line exceed LANE_ERR_LIMIT within 1,024 frames, and the line is excluded. -/
  | lineMarginal (q : Fin 366) (line : Fin 36)
  /-- UNCORR_FRAME_LIMIT (R130). UNCORR_FRAME_LIMIT consecutive frames with an uncorrectable slot fail the port. -/
  | uncorrFrameLimit (q : Fin 366)
  /-- CELL_FAILURE (R134). A base tile detects a failed switch cell and bypasses it over its group's spare route, or fails the group's ports. -/
  | cellFailure (bt : Fin 8) (n : Fin 512)
  /-- LOAD_REQ_TIMEOUT (R132). 20 µs after a LOAD_REQ, the requesting die writes the missing lines poison-marked and completes it with STATUS 01. -/
  | loadReqTimeout (cd : Fin 16) (tag : BitVec 10)
  /-- STORE_REQ_TIMEOUT (R132). 20 µs after a STORE_REQ, the memory base die writes the missing granules poison-marked and returns STATUS 01. -/
  | storeReqTimeout (md : Fin 24) (src : BitVec 7) (tile : BitVec 6) (tag : BitVec 10)
  /-- FLOW_TRANSFER_TIMEOUT (R132). 20 µs after its last scheduled slot, an incomplete flow transfer has its missing lines written poison-marked and its progress signalled. -/
  | flowTransferTimeout (cd : Fin 16) (t : Fin 64) (flow : BitVec 16)
  /-- MONITOR_SAMPLE (R140). The ring and tap monitors are sampled at their 16 ns tick. -/
  | monitorSample (ms : List Monitor)
  /-- COMB_LOSS (R143). A serving comb's output tap stays below 25 % of baseline for two samples, and the rings on its tile enter HOLD. -/
  | combLoss (c : Fin 10)
  /-- PORT_LINE_LOSS (R143). A port tap below 25 % of baseline for two samples excludes the line, or fails the port on λ32. -/
  | portLineLoss (p : Fin 366) (line : Fin 36)
  /-- RING_UNLOCKED (R143). Drop power below 25 % of the ring's locked level for two samples triggers level 3 for a line in service, or reacquisition otherwise. -/
  | ringUnlocked (r : RingId)
  /-- RING_INPUT_DARK (R143). A hub that sees no light from a neighbouring hub for 32 ns raises a fault message. -/
  | ringInputDark (bt : Fin 8) (cw : Bool)
  /-- HEATER_UPDATE (R141). Each ring's heater takes a 1 µs update within the rate for its line's state. -/
  | heaterUpdate (asks : List (RingId × BitVec 16))
  /-- TONE_WINDOW_END (R144). A 256-frame tone window ends, and each ring's state machine judges the window as passing, identifying or failing. -/
  | toneWindowEnd (ws : List RingWindow)
  /-- HOLD_TIMEOUT (R145). A ring in HOLD without light for 100 µs is handled as unlocked. -/
  | holdTimeout (r : RingId)
  /-- CAL_CYCLE_START (R148). The CAL_INTERVAL timer starts a calibration cycle of a transmit phase and a receive phase. -/
  | calCycleStart
  /-- CAL_STEP (R149). From T, every port that is not excepted has the step's line under calibration, with its lane on λ33. -/
  | calStep (src : BitVec 7) (seq : BitVec 32) (stp : Fin 35) (rx : Bool) (t : Word)
  /-- CAL_STEP_END (R150). A calibration step ends after 1,024 frames and its result is accepted, or its values step back. -/
  | calStepEnd (last : List Monitor)
  /-- SWING_HOLD (R151). A port keeps a lane on λ33 past the step end while its ring re-sweeps. -/
  | swingHold (src : BitVec 7) (seq : BitVec 32) (p : Fin 366) (rx : Bool) (line : Fin 36) (t : Word)
  /-- SWING_RELEASE (R151). At the named boundary the held lane returns to its line, or moves to a repair spare. -/
  | swingRelease (src : BitVec 7) (seq : BitVec 32) (p : Fin 366) (rx : Bool) (t : Word)
  /-- RESWEEP_END (R151). A ring's re-sweep ends, accepted or failed, and the barista sends SWING_RELEASE. -/
  | resweepEnd (p : Fin 366) (rx : Bool)
  /-- CAL_LIVE (R155). A write of a port's live-value blob is refused whole or applied record by record as targets. -/
  | calLive (p : Fin 366) (bs : List Byte)
  /-- FADE_EVALUATION (R156). Once a second the barista computes each comb's fade ratios, raises drive, and starts a planned switch-in or retirement. -/
  | fadeEvaluation (c : Fin 10) (lanes others : List (BitVec 16))
  /-- SPARE_READY (R157). A lighting spare reaches full drive and grid, and the barista sends COMB_SWITCH. -/
  | spareReady (c : Fin 10)
  /-- COMB_SWITCH_PLANNED (R157). At Tc, in the dark guard of S0, BTn's distribution is switched to the spare with no burst lost. -/
  | combSwitchPlanned (src : BitVec 7) (seq : BitVec 32) (c : Fin 10) (bt : Fin 8) (t : Word)
  /-- COMB_SWITCH_SUDDEN (R158). At Tc the spare is routed into BTn at its present drive and the rings leave HOLD. -/
  | combSwitchSudden (src : BitVec 7) (seq : BitVec 32) (c : Fin 10) (bt : Fin 8) (t : Word)
  /-- ADD (R184). The atomic unit adds OPERAND to the 8-byte word modulo 2⁶⁴ and returns the old value. -/
  | add (md : Fin 24) (site : Fin 100) (r : OpRecord) (poison : Bool)
  /-- SWAP (R184). The atomic unit replaces the word by OPERAND and returns the old value. -/
  | swap (md : Fin 24) (site : Fin 100) (r : OpRecord) (poison : Bool)
  /-- CAS (R184). The atomic unit writes OPERAND only if the word equals COMPARE, and returns the old value. -/
  | cas (md : Fin 24) (site : Fin 100) (r : OpRecord) (poison : Bool)
  /-- MIN (R184). The atomic unit stores the signed minimum of the word and OPERAND. -/
  | min (md : Fin 24) (site : Fin 100) (r : OpRecord) (poison : Bool)
  /-- MAX (R184). The atomic unit stores the signed maximum of the word and OPERAND. -/
  | max (md : Fin 24) (site : Fin 100) (r : OpRecord) (poison : Bool)
  /-- MINU (R184). The atomic unit stores the unsigned minimum of the word and OPERAND. -/
  | minu (md : Fin 24) (site : Fin 100) (r : OpRecord) (poison : Bool)
  /-- MAXU (R184). The atomic unit stores the unsigned maximum of the word and OPERAND. -/
  | maxu (md : Fin 24) (site : Fin 100) (r : OpRecord) (poison : Bool)
  /-- AND (R184). The atomic unit stores the bitwise and of the word and OPERAND. -/
  | and (md : Fin 24) (site : Fin 100) (r : OpRecord) (poison : Bool)
  /-- OR (R184). The atomic unit stores the bitwise or of the word and OPERAND. -/
  | or (md : Fin 24) (site : Fin 100) (r : OpRecord) (poison : Bool)
  /-- XOR (R184). The atomic unit stores the bitwise exclusive-or of the word and OPERAND. -/
  | xor (md : Fin 24) (site : Fin 100) (r : OpRecord) (poison : Bool)
  /-- REDUCE_ADD (R181). The reduce unit adds incoming elements into the stored line in the given format. -/
  | reduceAdd (md : Fin 24) (site : Fin 100) (r : OpRecord) (data : List Flit)
  /-- REDUCE_MIN (R181). The reduce unit stores the element-wise minimum of the stored and incoming data. -/
  | reduceMin (md : Fin 24) (site : Fin 100) (r : OpRecord) (data : List Flit)
  /-- REDUCE_MAX (R181). The reduce unit stores the element-wise maximum of the stored and incoming data. -/
  | reduceMax (md : Fin 24) (site : Fin 100) (r : OpRecord) (data : List Flit)
  /-- INVALID_RECORD (R185). An operation record with a reserved OP, a bad field or a foreign address returns STATUS 2 and changes nothing. -/
  | invalidRecord (md : Fin 24) (site : Fin 100) (r : OpRecord)
  /-- REFRESH (R190). A per-bank refresh command falls due, is postponed up to eight times, and is forced at the ninth. -/
  | refresh (md : Fin 24) (bank : Fin 64) (busy : Bool)
  /-- PATROL_SCRUB (R192). Scrub reads the next access unit, writes back corrected lines, and poison-marks uncorrectable ones. -/
  | patrolScrub (md : Fin 24)
  /-- SOFT_REPAIR (R193). A repair candidate row's bank is taken, and the row is copied onto its die's spare row with fresh check. -/
  | softRepair (md : Fin 24) (die : Fin 18) (row : Fin 8388608)
  /-- SOFT_REPAIR_DONE (R193). The soft repair finishes, the bank is released, and a repair record is queued for the carafe. -/
  | softRepairDone (md : Fin 24)
  /-- STACK_LOCK_LOSS (R195). The stack interface loses lock in service, and the stack fails. -/
  | stackLockLoss (md : Fin 24)
  /-- SET_LOST (R196). From T every die completes requests to the lost set locally, and the set leaves mapped DRAM. -/
  | setLost (src : BitVec 7) (seq : BitVec 32) (set : Fin 4) (stack : Fin 24) (t : Word)
  /-- FLOW_TRANSFER_COMPLETE (R204). A flow transfer completes at a tile in transfer order, FLOW_COUNT advances, and its ending sets FLOW_STATUS. -/
  | flowTransferComplete (cd : Fin 16) (t : Fin 64) (flow : BitVec 16)
  /-- SYNC_ARRIVE (R208). A tile's write to SYNC_ARRIVE is its barrier arrival, and stalls the core if it runs two epochs ahead. -/
  | syncArrive (cd : Fin 16) (t : Fin 64) (v : Word)
  /-- FLAG_VALUE (R209). A write to FLAG_VALUE sends FLAG_WRITE with OP store for the selected flag. -/
  | flagValue (cd : Fin 16) (t : Fin 64) (v : Word)
  /-- FLAG_ADD_WRITE (R209). A write to the FLAG_ADD CSR sends FLAG_WRITE with OP add for the selected flag. -/
  | flagAddWrite (cd : Fin 16) (t : Fin 64) (v : Word)
  /-- JOB_EXIT (R217). A virtual tile reports its exit code, which leads to draining or, for a non-zero code, to stopping with EXIT. -/
  | jobExit (cd : Fin 16) (t : Fin 64) (v : Word)
  /-- JOB_TAKE (R214). With no job beyond QUEUED, a job engine takes the next ring entry in ring order and starts checking it. -/
  | jobTake
  /-- IMAGE_CHECKED (R212). The engine finishes reading and checking the image, and rejects it with IMAGE or moves to LOADING. -/
  | imageChecked
  /-- JOB_START (R218). At the boot boundary T, the dies of the variant load their die records and tiles boot over BOOT_FLOW. -/
  | jobStart (hd : Fin 2) (seq : BitVec 32) (variant : BitVec 8) (gen : BitVec 8) (restarts : BitVec 16) (t : Word) (scratch : Word)
  /-- TILE_BOOT (R213). A tile has loaded its boot record, program and part table, sets JOB_INFO and starts its core at address 0. -/
  | tileBoot (cd : Fin 16) (t : Fin 64)
  /-- JOB_RUNNING (R215). Every bound core has started, the job is RUNNING, and the STANDBY set is loaded into the shadow. -/
  | jobRunning
  /-- JOB_STOP (R220). Each compute and fabric die halts its bound cores, aborts their queues, stops issuing requests and sends JOB_STOPPED. -/
  | jobStop (hd : Fin 2) (seq : BitVec 32) (reason : BitVec 8)
  /-- JOB_STOPPED (R218). The owner engine counts a die's stop report, and acts on the stop once every die not fenced has answered. -/
  | jobStopped (hd : Fin 2) (seq : BitVec 32) (site : Fin 100)
  /-- JOB_STOP_TIMEOUT (R220). 25 µs after JOB_STOP, the engine proceeds as though every die had answered, ending or restarting the job. -/
  | jobStopTimeout
  /-- JOB_DRAINED (R222). Every request and transfer of the job has ended, and the job becomes ENDED. -/
  | jobDrained
  /-- RECORD_WRITE_ACK (R292). In MODE 1, the acknowledgement of the record body lets the engine write the SEQ bytes and set SEQ. -/
  | recordWriteAck (ring : Fin 16)
  /-- RUN_LIMIT_EXPIRY (R216). A job passes its ring entry's run limit and ends with RUN_LIMIT through STOPPING. -/
  | runLimitExpiry
  /-- REMOTE_UNIT (R246). A fabric die takes a compute die's remote request unit as origin, allocates a tag and routes the request. -/
  | remoteUnit (fd : Fin 8) (cd : Fin 16)
  /-- FAB_LOAD (R244). A fabric LOAD is checked at its executing die and served from the memory base die. -/
  | fabLoad (l : Fin 16) (p : FabPacket)
  /-- FAB_STORE (R244). A fabric STORE is checked at its executing die and written at the memory base die. -/
  | fabStore (l : Fin 16) (p : FabPacket)
  /-- FAB_ATOMIC (R244). A fabric ATOMIC goes to its home die and is deduplicated, checked and applied at most once. -/
  | fabAtomic (l : Fin 16) (p : FabPacket)
  /-- FAB_REDUCE (R244). A fabric REDUCE goes to its home die and is deduplicated, checked and applied at most once. -/
  | fabReduce (l : Fin 16) (p : FabPacket)
  /-- MCAST_STORE (R256). A multicast store is copied to the group's links and executed locally at each member. -/
  | mcastStore (l : Fin 16) (p : FabPacket)
  /-- RSP (R265). An origin takes or discards an answer by its tag and FIRST, and ends the operation once. -/
  | rsp (l : Fin 16) (p : FabPacket)
  /-- BAR_ARRIVE (R259). The barrier home records a module's arrival, and releases the epoch when EXPECT modules have arrived. -/
  | barArrive (l : Fin 16) (p : FabPacket)
  /-- BAR_RELEASE (R259). A taking-part sync die announces the release, and FAB_EPOCH advances. -/
  | barRelease (l : Fin 16) (p : FabPacket)
  /-- FLAG_STORE (R260). A flag's home module stores the value in arrival order and notifies the group when notify is on. -/
  | flagStore (l : Fin 16) (p : FabPacket)
  /-- FLAG_ADD (R260). A flag's home module adds the value, returns the old value, and notifies the group when notify is on. -/
  | flagAdd (l : Fin 16) (p : FabPacket)
  /-- FLAG_READ (R260). A flag's home module returns the flag's value. -/
  | flagRead (l : Fin 16) (p : FabPacket)
  /-- FAB_FLAG_NOTIFY (R260). A sync die keeps a notified flag value only when its change count is newer. -/
  | fabFlagNotify (l : Fin 16) (p : FabPacket)
  /-- FAB_TIME (R311). A fabric TIME message gives the receiver its link offset and delay to the far end. -/
  | fabTime (l : Fin 16) (p : FabPacket) (ps : Fin 1000)
  /-- HELLO (R235). A HELLO from the neighbour is recorded, and the link becomes UP once both ends have acknowledged. -/
  | hello (l : Fin 16) (p : FabPacket)
  /-- LEAVE (R272). A neighbour receiving LEAVE drains its routes and sends DRAINED. -/
  | leave (l : Fin 16) (p : FabPacket)
  /-- DRAINED (R272). The leaving module counts the DRAINED answers of its up links. -/
  | drained (l : Fin 16) (p : FabPacket)
  /-- LINK_EXCLUDE (R236). A neighbour's exclusion change is applied to the link's line map from frame F. -/
  | linkExclude (l : Fin 16) (p : FabPacket)
  /-- LINK_CAL (R237). A neighbour announces a calibration step on a link, and the module serves it on λ33 or skips its own clashing step. -/
  | linkCal (l : Fin 16) (p : FabPacket)
  /-- FABRIC_DISCARD (R240). A fabric packet with an unknown OPC, or a wrong VC or LEN, is discarded and counted. -/
  | fabricDiscard (l : Fin 16) (p : FabPacket)
  /-- ATTEMPT_TIMEOUT (R265). A request's attempt window passes without an answer, and the origin retries or ends it unanswered. -/
  | attemptTimeout (fd : Fin 8) (tag : BitVec 12)
  /-- DEDUPE_EXPIRY (R266). A dedupe entry reaches its lifetime L and is removed. -/
  | dedupeExpiry
  /-- MEMORY_ANSWER_TIMEOUT (R247). A memory base die silent for 20 µs is answered for by the executing fabric die, with poison or UNKNOWN. -/
  | memoryAnswerTimeout (fd : Fin 8)
  /-- THROTTLE_REVIEW (R264). Every 1 µs a fabric die sets its origination throttle from its egress queue fill. -/
  | throttleReview (fd : Fin 8)
  /-- LINK_SILENCE (R235). 32 slots without an accepted burst, or the loss of λ32, take the link DOWN and dark. -/
  | linkSilence (l : Fin 16) (dark : Bool)
  /-- LINK_TRAINING_RETRY (R235). A link not UP within 4 s of both ends being ready starts training again every second. -/
  | linkTrainingRetry (l : Fin 16)
  /-- ROUTE_SWAP (R271). A write of 1 starts a drain that makes the routing shadow active, and is ignored while a drain runs. -/
  | routeSwap (v : BitVec 8)
  /-- DRAIN_FLUSH_END (R271). 185 µs into a drain, packets still queued for affected destinations are discarded, and the switch is named at a frame boundary. -/
  | drainFlushEnd
  /-- FABRIC_LEAVE (R272). A write of 1 makes the module send LEAVE, answer CLOSING to new requests and stop originating. -/
  | fabricLeave (v : BitVec 8)
  /-- LEAVE_TIMEOUT (R272). Once every up link has answered DRAINED, or 250 µs have passed, the module empties its queues and darkens its links. -/
  | leaveTimeout
  /-- REGION (R243). A write of a region entry is refused whole, or takes effect at every fabric die within 10 µs. -/
  | region (r : Fin 4096) (bs : List Byte)
  /-- ROUTE_SHADOW (R257). A write of the routing set is checked and stored as the shadow. -/
  | routeShadow (bs : List Byte)
  /-- BARRIER_TABLE (R259). A write of barrier entries resets their epochs and arrival maps. -/
  | barrierTable (bs : List Byte)
  /-- FLAG_TABLE (R260). A write of flag entries sets each home flag to INITIAL. -/
  | flagTable (bs : List Byte)
  /-- FAB_ARRIVE (R259). A tile's arrival at a fabric barrier is sent to the sync die, and stalls the core if the epoch is already pending. -/
  | fabArrive (cd : Fin 16) (t : Fin 64) (v : Word)
  /-- FAB_FLAG_VALUE (R261). A write to FAB_FLAG_VALUE issues a fabric FLAG_STORE. -/
  | fabFlagValue (cd : Fin 16) (t : Fin 64) (v : Word)
  /-- FAB_FLAG_ADD (R261). A write to FAB_FLAG_ADD issues a fabric FLAG_ADD. -/
  | fabFlagAdd (cd : Fin 16) (t : Fin 64) (v : Word)
  /-- FAB_SYNC_ARRIVE (R262). The sync die counts a compute die's fabric barrier arrivals and sends BAR_ARRIVE once all LOCAL arrivals are in. -/
  | fabSyncArrive (cd : Fin 16) (seq : BitVec 32) (g : BitVec 12) (e : Word)
  /-- FAB_SYNC_FLAG_STORE (R262). The sync die originates a FLAG_STORE for a compute die. -/
  | fabSyncFlagStore (cd : Fin 16) (seq : BitVec 32) (f : BitVec 12) (v : Word)
  /-- FAB_SYNC_FLAG_ADD (R262). The sync die originates a FLAG_ADD for a compute die. -/
  | fabSyncFlagAdd (cd : Fin 16) (seq : BitVec 32) (f : BitVec 12) (v : Word)
  /-- FAB_SYNC_RELEASE (R262). Dies update FAB_EPOCH from the sync die's release announcement. -/
  | fabSyncRelease (fd : Fin 8) (seq : BitVec 32) (g : BitVec 12) (e : Word)
  /-- FAB_SYNC_FLAG (R262). Dies update their copy of a fabric flag from the sync die. -/
  | fabSyncFlag (fd : Fin 8) (seq : BitVec 32) (f : BitVec 12) (v : Word)
  /-- BARRIER_RESEND (R259). A sync die with no release within FABRIC_TIMEOUT sends BAR_ARRIVE again. -/
  | barrierResend (g : Fin 1024)
  /-- SYNC_DIE_TAKEOVER (R263). After the sync die is fenced, the next fabric die in service takes the role with empty state. -/
  | syncDieTakeover
  /-- RDMA_WRITE (R282). A host RDMA WRITE is checked against its window and written to DRAM, then acknowledged after its order point. -/
  | rdmaWrite (f : HostFrame) (q : Fin 4096) (p : WritePkt) (ce : Bool)
  /-- RDMA_READ (R282). A host RDMA READ is checked and answered from DRAM after earlier writes. -/
  | rdmaRead (f : HostFrame) (q : Fin 4096) (psn : BitVec 24) (va : Word) (rkey : BitVec 32) (len : BitVec 32) (ce : Bool)
  /-- SEND (R289). A 64 B SEND writes a ring entry and advances TAIL, or is answered with an RNR or Invalid Request NAK. -/
  | send (f : HostFrame) (q : Fin 4096) (psn : BitVec 24) (data : List Byte) (ce : Bool)
  /-- FETCH_ADD (R285). A host FETCH_ADD is executed as an atomic ADD, with byte-order conversion and replay protection. -/
  | fetchAdd (f : HostFrame) (q : Fin 4096) (psn : BitVec 24) (va : Word) (rkey : BitVec 32) (addend : Word) (ce : Bool)
  /-- CMP_SWAP (R285). A host CMP_SWAP is executed as an atomic CAS, with byte-order conversion and replay protection. -/
  | cmpSwap (f : HostFrame) (q : Fin 4096) (psn : BitVec 24) (va : Word) (rkey : BitVec 32) (cmp : Word) (swap : Word) (ce : Bool)
  /-- INVALID_REQUEST (R280). An unsupported transport, opcode or header is answered with a NAK of Invalid Request, or discarded. -/
  | invalidRequest (f : HostFrame) (q : Fin 4096) (psn : BitVec 24) (answerable : Bool) (writeImm : Bool)
  /-- ROCE_ACK (R281). An ACK or NAK reaches the module as requester for its record writes. -/
  | roceAck (f : HostFrame) (q : Fin 4096) (psn : BitVec 24) (k : AckKind)
  /-- CNP (R280). A congestion notification slows the module's own requests. -/
  | cnp (f : HostFrame) (q : Fin 4096)
  /-- ARP (R279). The host port answers ARP for its IPv4 address. -/
  | arp (f : HostFrame) (senderMac : BitVec 48) (senderIp : BitVec 32) (targetIp : BitVec 32)
  /-- NEIGHBOUR_DISCOVERY (R279). The host port answers IPv6 neighbour discovery. -/
  | neighbourDiscovery (f : HostFrame) (source : List Byte) (target : List Byte)
  /-- ICMP_ECHO (R279). The host port answers ICMP echo. -/
  | icmpEcho (f : HostFrame) (source : List Byte) (dst : List Byte) (payload : List Byte)
  /-- PFC_FRAME (R278). A priority flow control frame pauses or resumes sending on HOST_PFC_PRIORITY. -/
  | pfcFrame (f : HostFrame) (prio : Fin 8) (pause : Bool)
  /-- PAUSE_FRAME (R278). A global PAUSE frame is ignored. -/
  | pauseFrame (f : HostFrame)
  /-- HOST_MEMORY_TIMEOUT (R284). A memory base die silent for 20 µs makes the host die send NAK Remote Operational Error. -/
  | hostMemoryTimeout (q : Fin 4096)
  /-- QP (R281). A write of a queue-pair entry readies or resets the pair, or is refused. -/
  | qp (q : Fin 4096) (bs : List Byte)
  /-- QP_ACK_TIMEOUT (R281). A requester's local ACK timeout expires, and it retries or puts the pair into STATE 2. -/
  | qpAckTimeout (q : Fin 4096)
  /-- WINDOW (R283). A write of a memory window entry is refused, or takes effect within 10 µs. -/
  | window (w : Fin 256) (bs : List Byte)
  /-- RING_CONFIG (R287). A write of a ring entry sets the ring up and zeroes TAIL, HEAD and SEQ, and is refused while the ring has a job beyond QUEUED. -/
  | ringConfig (r : Fin 16) (bs : List Byte)
  /-- TAIL (R289). A doorbell write of TAIL publishes ring entries, or is refused and counted. -/
  | tail (r : Fin 16) (v : Word)
  /-- ABORT (R290). A doorbell write of ABORT ends every entry below A with ABORTED, in entry order. -/
  | abort (r : Fin 16) (a : Word)
  /-- HOST_LINK_BRINGUP (R279). A host port starts bring-up at start-up, or 1 s after going down or failing a step. -/
  | hostLinkBringup (cage : Cage)
  /-- HOST_LINK_UP (R279). PCS alignment and FEC lock complete, and the port carries traffic. -/
  | hostLinkUp (port : Fin 2) (modes : BitVec 4)
  /-- FEC_LOCK_LOSS (R279). A port without FEC lock for 10 ms goes down. -/
  | fecLockLoss (port : Fin 2)
  /-- PTP_SYNC (R293). An IEEE 1588 Sync from the followed grandmaster is stamped and yields an offset. -/
  | ptpSync (f : HostFrame) (sender : PtpSender) (seq : BitVec 16) (origin : Word) (twoStep : Bool) (err : Fin 9)
  /-- PTP_FOLLOW_UP (R293). A two-step Follow_Up completes a Sync's time stamp. -/
  | ptpFollowUp (f : HostFrame) (sender : PtpSender) (seq : BitVec 16) (origin : Word)
  /-- PTP_DELAY_RESP (R293). A Delay_Resp completes a delay measurement. -/
  | ptpDelayResp (f : HostFrame) (sender : PtpSender) (seq : BitVec 16) (receive : Word)
  /-- PTP_ANNOUNCE (R293). An Announce message feeds the best master clock algorithm across both ports. -/
  | ptpAnnounce (f : HostFrame) (a : AnnounceMsg)
  /-- HOLDOVER_ENTRY (R300). A timing receiver that sees no edge for 3 ns enters holdover and generates its own markers. -/
  | holdoverEntry (bt : Fin 8)
  /-- FRAME_MARKER (R306). A frame marker arrives, counters are corrected to a multiple of 1,024, and holdover is left when the phase agrees. -/
  | frameMarker (site : Fin 100) (phase : Int)
  /-- BROADCAST_ABSENT (R300). A broadcast absent for 1 ms darkens every port, ends the job DOUBLE, and takes the module down. -/
  | broadcastAbsent
  /-- TREE_TRIM (R299). Every 1,024 frames the barista measures the timing trees again and steps the tile delays. -/
  | treeTrim (tree : Fin 2) (bt : Fin 8) (late : Int)
  /-- DROOP (R303). A tile's droop detector suppresses one clock edge. -/
  | droop (cd : Fin 16) (t : Fin 64)
  /-- TIME_SOURCE_REVIEW (R310). Every 64 frames the barista reviews its time source and updates the servo. -/
  | timeSourceReview
  /-- SOURCE_LOST (R310). A lost time source triggers an immediate new choice, or HOLDOVER. -/
  | sourceLost
  /-- TIME_STEP_DUE (R314). Once a due step finds no job beyond QUEUED, the barista sends TIME_STEP. -/
  | timeStepDue
  /-- TIME_STEP (R314). At F every die adds D to its count and the module's originated fabric requests end unanswered. -/
  | timeStep (src : BitVec 7) (seq : BitVec 32) (f : Word) (d : Word)
  /-- INPUT_READING (R319). Every 1 µs the power stages measure the hold-up bank voltage. -/
  | inputReading (rs : List (BitVec 16)) (bus : BitVec 16)
  /-- INPUT_DISCONNECT (R318). Input above 64 V for 1 µs opens the input disconnect. -/
  | inputDisconnect
  /-- INPUT_RECONNECT (R318). Input at or below 62 V for 10 µs closes the disconnect. -/
  | inputReconnect
  /-- OVERVOLTAGE_NOTICE (R317). While the input is in 58–64 V, a fault message is raised once per second. -/
  | overvoltageNotice
  /-- SHED_FALLING (R326). Four readings below a threshold apply that shedding level's actions. -/
  | shedFalling
  /-- SHED_RISING (R326). Input held at the threshold plus 1.5 V for 1 ms undoes the level's actions in reverse order. -/
  | shedRising
  /-- POWER_LIMIT_REVIEW (R325). Each 1 ms of mean input above 4.5 kW adds a supply pause step. -/
  | powerLimitReview (w : BitVec 16)
  /-- POWER_LIMIT_RELEASE (R325). Each 10 ms of mean input below 4.3 kW removes a supply pause step. -/
  | powerLimitRelease (w : BitVec 16)
  /-- STAGE_FAIL (R321). A failed power stage is isolated, and shedding by stage count applies when needed. -/
  | stageFail (stage : Fin 12)
  /-- DOMAIN_FAULT (R324). A regulator fault turns its domain off, with the outcome for the die it feeds. -/
  | domainFault (d : Fin 92)
  /-- POWER_FAIL (R330). The input or the bus stays low long enough, power-fail is declared, domains go off, and the baristas commit. -/
  | powerFail
  /-- SENSOR_SAMPLE (R335). Each die sensor is converted every 50 µs, and the die is checked against its thermal thresholds. -/
  | sensorSample (site : Fin 100) (v : Option (BitVec 16)) (power pc : BitVec 32)
  /-- THERMAL_REVIEW (R338). At each 1 ms review, pause counts rise while Act or Limit holds. -/
  | thermalReview (site : Fin 100)
  /-- THERMAL_RELEASE (R338). At each 10 ms review, a cool die's pause count falls by 1. -/
  | thermalRelease (site : Fin 100)
  /-- DRAM_TEMP_READ (R340). Every 1 ms each DRAM die's readout is read, setting the stack's die value and refresh window. -/
  | dramTempRead (md : Fin 24) (ts : List (BitVec 16))
  /-- SENSOR_BROKEN (R342). A sensor found out of range, stuck or unresponsive is treated as too hot until start-up. -/
  | sensorBroken (site : Fin 100) (how : Fin 3)
  /-- COOLANT_READ (R344). Every 100 ms the barista reads the coolant sensors and reports coolant out of range. -/
  | coolantRead (inlet outlet flow : BitVec 16)
  /-- LOW_FLOW (R345). Flow below 2 L/min for 1 s holds every compute die at pause 8 or above. -/
  | lowFlow
  /-- FAULT (R350). The collector logs a fault message, forms its action and acknowledges repeating kinds, losing messages that overrun. -/
  | fault (n : Fin 2) (m : FaultMsg) (rep : Bool)
  /-- FAULT_ACK (R352). A source receives the acknowledgement of its message and stops repeating it. -/
  | faultAck (src : BitVec 7) (seq : BitVec 32) (m : FaultMsg)
  /-- FAULT_REPEAT (R349). Every 2 µs without acknowledgement, a repeating message is sent again with REPEAT set. -/
  | faultRepeat (m : FaultMsg)
  /-- KEPT_MESSAGE_EXPIRY (R349). The collector drops a kept repeating message 100 µs after acknowledging it. -/
  | keptMessageExpiry
  /-- FAULT_FORCE (R353). A write makes the named die send a forced fault message, or is refused. -/
  | faultForce (site : Fin 100) (v : Word)
  /-- ALERT_PULSE_END (R354). The ALERT_N pulse ends, and the line is released or held by ALERT_MODE. -/
  | alertPulseEnd
  /-- ALERT_CLEAR (R354). A write of 1 releases a held ALERT_N. -/
  | alertClear (v : BitVec 8)
  /-- FENCE (R363). At T the named tile or die leaves service and its ports are handled as failed. -/
  | fence (src : BitVec 7) (seq : BitVec 32) (site : Fin 100) (tile : Option (Fin 64)) (cause : BitVec 4) (t : Word)
  /-- RECOVERY_END (R358). A recovery's last step takes effect, and the next waiting recovery starts. -/
  | recoveryEnd
  /-- CUPPING_PERIOD (R366). The next cupping period falls due, and the barista sends CUP_START. -/
  | cuppingPeriod
  /-- CUP_START (R366). Dies take the period's M, seed and start boundary T. -/
  | cupStart (src : BitVec 7) (seq : BitVec 32) (m : BitVec 4) (period : BitVec 16) (t seed : Word)
  /-- CUP_TEST (R367). At its first point between descriptors after T, a tile's engine runs the cupping test. -/
  | cupTest (cd : Fin 16) (t : Fin 64)
  /-- CUP_TEST_END (R367). A tile's test finishes with its checksum. -/
  | cupTestEnd (cd : Fin 16) (t : Fin 64) (wrong : Word)
  /-- CUP_HUNG (R368). A test with no progress for 10,000 issue cycles is declared hung. -/
  | cupHung (cd : Fin 16) (t : Fin 64)
  /-- CUP_RESULT (R368). The barista collects a compute die's checksums and judges once every expected die has reported. -/
  | cupResult (cd : Fin 16) (j : Fin 11) (seq : BitVec 32) (period : BitVec 16) (fin : BitVec 6) (sums : List Word)
  /-- CUP_JUDGEMENT_TIMEOUT (R368). 50 ms after T the judgement closes, and unreported tiles are unsettled. -/
  | cupJudgementTimeout
  /-- HEARTBEAT_TICK (R384). Every 1 µs each barista sends HEARTBEAT to its partner. -/
  | heartbeatTick (n : Fin 2)
  /-- HEARTBEAT (R384). A barista receives its partner's heartbeat. -/
  | heartbeat (n : Fin 2) (role : Fin 2) (seq : Word)
  /-- HEARTBEAT_LOSS (R384). 6 µs without a heartbeat makes the standby take over. -/
  | heartbeatLoss (n : Fin 2)
  /-- STANDBY_LOSS (R388). 6 µs without the standby's heartbeat makes the active log TAKEOVER and work alone. -/
  | standbyLoss
  /-- BARISTA_ACTIVE (R376). Dies address fault messages to the new active, and the base tiles move to its tree. -/
  | baristaActive (src : BitVec 7) (seq : BitVec 32) (site : BitVec 7) (epoch : BitVec 32)
  /-- HANDBACK_DUE (R387). BA1 sends HANDBACK once no recovery, swing hold, shedding or time step is in force. -/
  | handbackDue
  /-- HANDBACK (R387). At Th, BA0 becomes active and lights tree A. -/
  | handback (src : BitVec 7) (seq : BitVec 32) (th : Word) (first epoch : BitVec 32)
  /-- WATCHDOG (R383). A core missing its refresh for 2 µs sets the silence latch. -/
  | watchdog (n : Fin 2)
  /-- KNOWN_ANSWER_TEST (R383). Every 10 ms each core runs its test program, and a mismatch silences the barista. -/
  | knownAnswerTest (n : Fin 2) (found : SelfCheck)
  /-- OSCILLATOR_CHECK (R383). Each 1 ms count of the oscillator against the light clock silences the barista when they differ by more than 100 ppm. -/
  | oscillatorCheck (n : Fin 2) (cycles : BitVec 32)
  /-- SILENCE_RESET (R386). 1 ms after silence, the barista resets its cores, re-verifies and recovers its carafe. -/
  | silenceReset (n : Fin 2)
  /-- REMIRROR_DONE (R386). Re-mirroring completes and the barista becomes standby. -/
  | remirrorDone (n : Fin 2)
  /-- BARISTA_SLOT (R381). A BARISTA house slot carries journal, log, dictionary and acknowledgement flits to the partner. -/
  | baristaSlot (n : Fin 2)
  /-- PERIODIC_COMMIT (R392). Every 1 s the pending records and the class C records are committed as one batch. -/
  | periodicCommit
  /-- EARLY_COMMIT (R392). 1,024 pending records trigger a commit. -/
  | earlyCommit
  /-- COMPACTION (R393). 65,536 journal records start a compaction into the older generation area. -/
  | compaction (n : Fin 2)
  /-- COMPACTION_DONE (R393). The new generation header is written and the compaction completes. -/
  | compactionDone (n : Fin 2)
  /-- CARAFE_COMMIT_NOW (R392). A write of 1 requests an immediate commit. -/
  | carafeCommitNow (v : BitVec 8)
  /-- PUNEL_READ (R411). A READ unit returns an object's value, or a blob segment from the client's snapshot. -/
  | punelRead (id : ClientId) (bcast : Bool) (f : UnitFrame) (unit : List Byte)
  /-- PUNEL_WRITE (R411). A WRITE unit applies a value, or stages a blob segment, under the privilege and range checks. -/
  | punelWrite (id : ClientId) (bcast : Bool) (f : UnitFrame) (unit : List Byte)
  /-- PUNEL_ABORT (R411). An ABORT unit drops the client's staged write to the object. -/
  | punelAbort (id : ClientId) (bcast : Bool) (f : UnitFrame) (unit : List Byte)
  /-- SNAPSHOT_EXPIRY (R414). A blob snapshot unused for 1 s is freed. -/
  | snapshotExpiry
  /-- STAGING_EXPIRY (R414). A staging buffer idle for 1 s is dropped. -/
  | stagingExpiry
  /-- REPLY_CACHE_EXPIRY (R415). A kept answer is dropped after 2 s. -/
  | replyCacheExpiry
  /-- PLCA_BEACON (R407). A PLCA beacon is heard, and the module sends in its transmit opportunity. -/
  | plcaBeacon
  /-- PLCA_BEACON_LOSS (R407). 4 ms without a beacon makes the module send under CSMA/CD. -/
  | plcaBeaconLoss
  /-- NODE_ID_CONFLICT (R407). Sixteen collisions in its own opportunity within 1 s make the module send only under CSMA/CD until start-up. -/
  | nodeIdConflict
  /-- LC_REQUEST (R427). A signed life-cycle request is checked, and refused or committed as a LIFECYCLE record. -/
  | lcRequest (bs : List Byte)
  /-- TAMPER (R429). A tamper event wipes sealed SRAM, sets the tamper latch and is counted. -/
  | tamper (source : Fin 3)
  /-- ATTEST_REPORT (R430). A read builds and signs the attestation report for the client's nonce. -/
  | attestReport (id : ClientId) (f : UnitFrame) (unit : List Byte)
  /-- VENDOR_RESPONSE (R432). A signature that answers the challenge grants vendor privilege to the client entry. -/
  | vendorResponse (id : ClientId) (sig : List Byte)
  /-- UPDATE_IMAGE (R434). A firmware image segment is written to the inactive slot, and the last segment starts verification. -/
  | updateImage (id : ClientId) (first : Bool) (last : Bool) (offset : BitVec 32) (total : BitVec 32) (data : List Byte)
  /-- IMAGE_VERIFIED (R434). Verification ends, and the image is copied to the partner or rejected. -/
  | imageVerified
  /-- IMAGE_COPIED (R434). The copy to the partner ends, and the slot is marked staged. -/
  | imageCopied
  /-- UPDATE_ACTIVATE (R434). A write of 1 arms the staged slot as the trial for the next start-up. -/
  | updateActivate (v : BitVec 8)
  /-- UPDATE_CONFIRM (R436). A write of 1 confirms the trial image and raises the rollback counter. -/
  | updateConfirm (v : BitVec 8)
  /-- CONFIRM_TIMER (R436). UPDATE_CONFIRM_TIME seconds of readiness without a reset confirm the trial image. -/
  | confirmTimer
  /-- START_UP (R439). The input reaching 45 V starts the twelve-step start-up sequence, which ends ready or failed. -/
  | startUp (e : StartEvent)
  /-- STARTUP_STEP_LIMIT (R442). A start-up step reaches its limit, and each unfinished unit takes its outcome. -/
  | startupStepLimit
  /-- RESET_N (R460). RESET_N held low for 6 µs commits pending records and turns every domain off. -/
  | resetN (held : BitVec 32)
  /-- RESET_RELEASE (R460). The release of RESET_N starts start-up at step 2. -/
  | resetRelease (slotId : BitVec 6)
  /-- GRINDER_RUN (R448). A write runs the grinder in the named mode, and is refused while a job is beyond QUEUED. -/
  | grinderRun (v : BitVec 8)
  /-- GRINDER_DONE (R447). The march ends, and failed lines fence their tiles or dies. -/
  | grinderDone (fails : List MarchFail)
  /-- JOINT_FAIL (R445). An in-service joint failure is spared at a frame boundary, or its group takes its beyond-spares outcome. -/
  | jointFail (site : Fin 100) (group : BitVec 16) (carries : JointCarries) (joint : Fin 34)
  /-- PTP_DELAY_REQ (R293). As a slave under the delay request-response profile, each following port sends a time-stamped Delay_Req to the grandmaster at its own interval. -/
  | ptpDelayReq (port : Fin 2) (err : Fin 9)
  /-- DOMAIN_ON (R322). A switched domain finishes its turn-on within its Table 2 time and reaches On. Its die then starts: fabric links train, host bring-up begins, combs are lit and locked, and port-bank lines acquire. -/
  | domainOn (d : Fin 92)
  /-- BARISTA_SUPPLY_OUT_OF_RANGE (R383). The supply of a barista's regulators on BT0 or BT7 stays out of range for 1 µs, and self-check 7 sets the barista's silence latch. -/
  | baristaSupplyOutOfRange (n : Fin 2)
deriving DecidableEq, Repr

end Sys2Proof
end

