-- ==== Sys2Proof/Machine/Bits.lean ====
section
/-! DEFINITION. Byte order (R7: least significant byte first), bit strings, checks and small list helpers. -/
namespace Sys2Proof.Machine

/-- The number whose bytes, least significant first, are given. -/
def leNat : List Byte → Nat
  | [] => 0
  | b :: bs => b.toNat + 256 * leNat bs

/-- `n` as `k` bytes, least significant first. -/
def toLe : Nat → Nat → List Byte
  | 0, _ => []
  | k + 1, n => BitVec.ofNat 8 n :: toLe k (n / 256)

/-- The number whose bytes, most significant first, are given. -/
def beNat (bs : List Byte) : Nat := leNat bs.reverse

/-- `n` as `k` bytes, most significant first. -/
def toBe (k n : Nat) : List Byte := (toLe k n).reverse

/-- Field of `len` bits at bit `lo` of a number. -/
def fld (w lo len : Nat) : Nat := (w >>> lo) % 2 ^ len

/-- Bit `i` of a number. -/
def bitAt (w i : Nat) : Bool := (w >>> i) % 2 == 1

/-- A number of `len` bits read as two's complement. -/
def sint (len n : Nat) : Int :=
  let m := n % 2 ^ len
  if m < 2 ^ (len - 1) then (m : Int) else (m : Int) - (2 ^ len : Nat)

/-- An integer as `len` bits of two's complement. -/
def ofInt (len : Nat) (i : Int) : Nat := (i % ((2 ^ len : Nat) : Int)).toNat

/-- 1 for true. -/
def b2n (b : Bool) : Nat := if b then 1 else 0

/-- Bytes `[lo, lo + len)` of a byte string; bytes past its end read as zero. -/
def slice (bs : List Byte) (lo len : Nat) : List Byte :=
  let r := (bs.drop lo).take len
  r ++ List.replicate (len - r.length) 0

/-- The little-endian number at byte `lo` of `len` bytes. -/
def leAt (bs : List Byte) (lo len : Nat) : Nat := leNat (slice bs lo len)

/-- Overwrite bytes `[lo, lo + v.length)`. -/
def splice (bs : List Byte) (lo : Nat) (v : List Byte) : List Byte :=
  bs.take lo ++ v ++ bs.drop (lo + v.length)

/-- Element `i` of width `w` of a little-endian bit string (R31 packing). -/
def packedElem (bs : List Byte) (w i : Nat) : Nat :=
  fld (leNat ((bs.drop (w * i / 8)).take 4)) (w * i % 8) w

/-- `⌈a / b⌉`. -/
def cdiv (a b : Nat) : Nat := (a + b - 1) / b

/-- 64-bit little-endian words of a byte string. -/
def wordsOf : Nat → List Byte → List Word
  | 0, _ => []
  | k + 1, bs => BitVec.ofNat 64 (leNat (bs.take 8)) :: wordsOf k (bs.drop 8)

/-- Bytes of a list of words. -/
def bytesOf (ws : List Word) : List Byte := ws.flatMap (fun w => toLe 8 w.toNat)

/-- One step of a reflected CRC of width at most 64 with reflected polynomial `poly`. -/
def crcBits (poly : Nat) : Nat → Nat → Nat
  | 0, c => c
  | k + 1, c => crcBits poly k (if c % 2 == 1 then (c >>> 1) ^^^ poly else c >>> 1)

/-- CRC-32C (Castagnoli) of a byte string (R61). -/
def crc32c (bs : List Byte) : Nat :=
  (bs.foldl (fun c b => crcBits 0x82F63B78 8 (c ^^^ b.toNat)) 0xFFFFFFFF) ^^^ 0xFFFFFFFF

/-- One bit of a most-significant-bit-first CRC-8. -/
def crc8Bits : Nat → Nat → Nat
  | 0, c => c
  | k + 1, c => crc8Bits k (if c ≥ 128 then ((c * 2) % 256) ^^^ 0x07 else c * 2)

/-- CRC-8, polynomial x^8 + x^2 + x + 1, initial value 0 (R90), over the bytes most significant first. -/
def crc8 (bs : List Byte) : Nat := bs.foldl (fun c b => crc8Bits 8 (c ^^^ b.toNat)) 0

/-- Update of the element at an index of a list. -/
def lset {α : Type} : List α → Nat → α → List α
  | [], _, _ => []
  | _ :: t, 0, v => v :: t
  | h :: t, n + 1, v => h :: lset t n v

/-- `[0, 1, …, n-1]` filtered. -/
def upto (n : Nat) (p : Nat → Bool) : List Nat := (List.range n).filter p

/-- Fold a function over a list of numbers; a plain `foldl` with the accumulator last. -/
def overNats {σ : Type} (ns : List Nat) (f : Nat → σ → σ) (s : σ) : σ := ns.foldl (fun s n => f n s) s

/-- Set or clear bit `i` of a number. -/
def putBit (w i : Nat) (b : Bool) : Nat :=
  if b then w ||| (1 <<< i) else w - (if bitAt w i then 1 <<< i else 0)

/-- The number of one bits among the low `n`. -/
def popc (n w : Nat) : Nat := (upto n (bitAt w)).length

end Sys2Proof.Machine
end

