-- ==== Sys2Proof/Machine/RvCompressed.lean ====
section
/-! DEFINITION. The compressed instructions of RV64GC, each as the 32-bit instruction it stands for (R26; PRESUMED from the RISC-V
standard). -/
namespace Sys2Proof.Machine

def encR (op f3 f7 rd rs1 rs2 : Nat) : Nat := op + rd * 2 ^ 7 + f3 * 2 ^ 12 + rs1 * 2 ^ 15 + rs2 * 2 ^ 20 + f7 * 2 ^ 25
def encI (op f3 rd rs1 imm : Nat) : Nat := op + rd * 2 ^ 7 + f3 * 2 ^ 12 + rs1 * 2 ^ 15 + imm % 4096 * 2 ^ 20
def encS (op f3 rs1 rs2 imm : Nat) : Nat :=
  op + fld imm 0 5 * 2 ^ 7 + f3 * 2 ^ 12 + rs1 * 2 ^ 15 + rs2 * 2 ^ 20 + fld imm 5 7 * 2 ^ 25
def encB (f3 rs1 rs2 imm : Nat) : Nat :=
  0x63 + fld imm 11 1 * 2 ^ 7 + fld imm 1 4 * 2 ^ 8 + f3 * 2 ^ 12 + rs1 * 2 ^ 15 + rs2 * 2 ^ 20 + fld imm 5 6 * 2 ^ 25 + fld imm 12 1 * 2 ^ 31
def encJ (rd imm : Nat) : Nat :=
  0x6F + rd * 2 ^ 7 + fld imm 12 8 * 2 ^ 12 + fld imm 11 1 * 2 ^ 20 + fld imm 1 10 * 2 ^ 21 + fld imm 20 1 * 2 ^ 31

/-- Fields of a compressed word gathered into an immediate: (place, length, place in the immediate). -/
def gather (w : Nat) (fs : List (Nat × Nat × Nat)) : Nat := fs.foldl (fun a f => a + fld w f.1 f.2.1 * 2 ^ f.2.2) 0

/-- A gathered immediate of `n` bits, sign-extended to 32. -/
def sxImm (n v : Nat) : Nat := ofInt 32 (sint n v)

/-- Quadrant 0. -/
def expand0 (w : Nat) : Option Nat :=
  let a := 8 + fld w 7 3
  let b := 8 + fld w 2 3
  let dw := gather w [(10, 3, 3), (5, 2, 6)]
  let sw := gather w [(10, 3, 3), (6, 1, 2), (5, 1, 6)]
  match fld w 13 3 with
  | 0 =>
    let i := gather w [(11, 2, 4), (7, 4, 6), (6, 1, 2), (5, 1, 3)]
    if i = 0 then none else some (encI 0x13 0 b 2 i)
  | 1 => some (encI 0x07 3 b a dw)
  | 2 => some (encI 0x03 2 b a sw)
  | 3 => some (encI 0x03 3 b a dw)
  | 5 => some (encS 0x27 3 a b dw)
  | 6 => some (encS 0x23 2 a b sw)
  | 7 => some (encS 0x23 3 a b dw)
  | _ => none

/-- Quadrant 1: arithmetic on the eight registers x8 to x15. -/
def expandAlu (w : Nat) : Option Nat :=
  let a := 8 + fld w 7 3
  let b := 8 + fld w 2 3
  let sh := gather w [(2, 5, 0), (12, 1, 5)]
  match fld w 10 2 with
  | 0 => some (encI 0x13 5 a a sh)
  | 1 => some (encI 0x13 5 a a (sh + 1024))
  | 2 => some (encI 0x13 7 a a (sxImm 6 sh))
  | _ =>
    match fld w 12 1 * 4 + fld w 5 2 with
    | 0 => some (encR 0x33 0 0x20 a a b)
    | 1 => some (encR 0x33 4 0 a a b)
    | 2 => some (encR 0x33 6 0 a a b)
    | 3 => some (encR 0x33 7 0 a a b)
    | 4 => some (encR 0x3B 0 0x20 a a b)
    | 5 => some (encR 0x3B 0 0 a a b)
    | _ => none

/-- Quadrant 1. -/
def expand1 (w : Nat) : Option Nat :=
  let r := fld w 7 5
  let i6 := gather w [(2, 5, 0), (12, 1, 5)]
  let br := sxImm 9 (gather w [(12, 1, 8), (10, 2, 3), (5, 2, 6), (3, 2, 1), (2, 1, 5)])
  match fld w 13 3 with
  | 0 => some (encI 0x13 0 r r (sxImm 6 i6))
  | 1 => if r = 0 then none else some (encI 0x1B 0 r r (sxImm 6 i6))
  | 2 => some (encI 0x13 0 r 0 (sxImm 6 i6))
  | 3 =>
    if r = 2 then
      let i := gather w [(12, 1, 9), (6, 1, 4), (5, 1, 6), (3, 2, 7), (2, 1, 5)]
      if i = 0 then none else some (encI 0x13 0 2 2 (sxImm 10 i))
    else if i6 = 0 then none
    else some (0x37 + r * 2 ^ 7 + sxImm 6 i6 % 2 ^ 20 * 2 ^ 12)
  | 4 => expandAlu w
  | 5 => some (encJ 0 (sxImm 12 (gather w [(12, 1, 11), (11, 1, 4), (9, 2, 8), (8, 1, 10), (7, 1, 6), (6, 1, 7), (3, 3, 1), (2, 1, 5)])))
  | 6 => some (encB 0 (8 + fld w 7 3) 0 br)
  | _ => some (encB 1 (8 + fld w 7 3) 0 br)

/-- Quadrant 2. -/
def expand2 (w : Nat) : Option Nat :=
  let r := fld w 7 5
  let b := fld w 2 5
  let dw := gather w [(12, 1, 5), (5, 2, 3), (2, 3, 6)]
  let lw := gather w [(12, 1, 5), (4, 3, 2), (2, 2, 6)]
  let sd := gather w [(10, 3, 3), (7, 3, 6)]
  let sw := gather w [(9, 4, 2), (7, 2, 6)]
  match fld w 13 3 with
  | 0 => some (encI 0x13 1 r r (gather w [(2, 5, 0), (12, 1, 5)]))
  | 1 => some (encI 0x07 3 r 2 dw)
  | 2 => if r = 0 then none else some (encI 0x03 2 r 2 lw)
  | 3 => if r = 0 then none else some (encI 0x03 3 r 2 dw)
  | 4 =>
    if bitAt w 12 then
      if b = 0 then (if r = 0 then some 0x00100073 else some (encI 0x67 0 1 r 0))
      else some (encR 0x33 0 0 r r b)
    else if b = 0 then (if r = 0 then none else some (encI 0x67 0 0 r 0))
    else some (encR 0x33 0 0 r 0 b)
  | 5 => some (encS 0x27 3 2 b sd)
  | 6 => some (encS 0x23 2 2 b sw)
  | _ => some (encS 0x23 3 2 b sd)

/-- The 32-bit instruction of a 16-bit word; none where it is illegal. -/
def expandC (w : Nat) : Option Nat :=
  match w % 4 with
  | 0 => expand0 w
  | 1 => expand1 w
  | 2 => expand2 w
  | _ => none

end Sys2Proof.Machine
end

