-- ==== Sys2Proof/Machine/DictTable.lean ====
section
/-! DEFINITION. The directory of the dictionary: what each object's table gives of type, access and privilege (R401,
R402, R420 DICT_LIST), and the lengths of blobs that can be written. -/
namespace Sys2Proof.Machine

/-- A row of the directory: the code `256 * index + subindex` of the first of `count` objects that lie `step` apart, type
code (R401 Table 1), access (0 RO, 1 RW, 2 WO, 3 RWP), privilege (0 observer to 3 vendor), and the length of a
writable blob. -/
structure DictEntry where
  code : Nat
  step : Nat
  count : Nat
  type : Nat
  access : Nat
  priv : Nat
  len : Nat
deriving DecidableEq, Repr

/-- Rows of the directory, part 1. -/
def dictRows1 : List DictEntry := [
  ⟨0x100001, 1, 1, 8, 0, 0, 0⟩,
  ⟨0x100002, 1, 1, 8, 0, 0, 0⟩,
  ⟨0x100003, 1, 1, 8, 0, 0, 0⟩,
  ⟨0x100004, 1, 1, 8, 0, 0, 0⟩,
  ⟨0x100005, 1, 1, 2, 0, 0, 0⟩,
  ⟨0x100006, 1, 1, 10, 0, 0, 0⟩,
  ⟨0x100007, 1, 1, 4, 0, 0, 0⟩,
  ⟨0x100008, 1, 1, 1, 0, 0, 0⟩,
  ⟨0x101001, 1, 1, 3, 0, 0, 0⟩,
  ⟨0x101002, 1, 1, 3, 0, 0, 0⟩,
  ⟨0x101003, 1, 1, 1, 0, 0, 0⟩,
  ⟨0x101004, 1, 1, 1, 0, 0, 0⟩,
  ⟨0x101005, 1, 1, 1, 0, 0, 0⟩,
  ⟨0x101006, 1, 1, 1, 0, 0, 0⟩,
  ⟨0x101007, 1, 1, 10, 0, 0, 0⟩,
  ⟨0x101008, 1, 1, 1, 0, 0, 0⟩,
  ⟨0x101009, 1, 1, 3, 0, 0, 0⟩,
  ⟨0x110001, 1, 1, 1, 3, 2, 0⟩,
  ⟨0x110002, 1, 1, 1, 3, 2, 0⟩,
  ⟨0x110003, 1, 1, 1, 0, 0, 0⟩,
  ⟨0x110004, 1, 1, 1, 3, 2, 0⟩,
  ⟨0x110005, 1, 1, 1, 3, 2, 0⟩,
  ⟨0x110006, 1, 1, 1, 0, 0, 0⟩,
  ⟨0x111001, 1, 1, 4, 0, 0, 0⟩,
  ⟨0x111002, 1, 1, 4, 0, 0, 0⟩,
  ⟨0x111003, 1, 1, 4, 0, 0, 0⟩,
  ⟨0x111004, 1, 1, 4, 0, 0, 0⟩,
  ⟨0x111005, 1, 1, 4, 0, 0, 0⟩,
  ⟨0x111006, 1, 1, 4, 0, 0, 0⟩,
  ⟨0x120001, 1, 1, 9, 0, 0, 0⟩,
  ⟨0x120002, 1, 1, 1, 0, 0, 0⟩,
  ⟨0x140001, 256, 100, 1, 0, 0, 0⟩,
  ⟨0x140002, 256, 100, 1, 0, 0, 0⟩,
  ⟨0x140003, 256, 100, 1, 0, 0, 0⟩,
  ⟨0x140004, 256, 100, 4, 0, 0, 0⟩,
  ⟨0x140005, 256, 100, 3, 0, 0, 0⟩,
  ⟨0x140006, 256, 100, 9, 0, 0, 0⟩,
  ⟨0x210001, 1, 1, 2, 0, 0, 0⟩,
  ⟨0x210002, 1, 1, 2, 0, 0, 0⟩,
  ⟨0x210003, 1, 1, 1, 0, 0, 0⟩]

/-- Rows of the directory, part 2. -/
def dictRows2 : List DictEntry := [
  ⟨0x210004, 1, 1, 1, 0, 0, 0⟩,
  ⟨0x210005, 1, 1, 2, 0, 0, 0⟩,
  ⟨0x210006, 1, 1, 2, 0, 0, 0⟩,
  ⟨0x210007, 1, 1, 2, 0, 0, 0⟩,
  ⟨0x211001, 1, 1, 4, 0, 0, 0⟩,
  ⟨0x211002, 1, 1, 4, 0, 0, 0⟩,
  ⟨0x211003, 1, 1, 4, 0, 0, 0⟩,
  ⟨0x211004, 1, 1, 4, 0, 0, 0⟩,
  ⟨0x211005, 1, 1, 4, 0, 0, 0⟩,
  ⟨0x240001, 256, 92, 1, 0, 0, 0⟩,
  ⟨0x240002, 256, 92, 2, 0, 0, 0⟩,
  ⟨0x260001, 256, 12, 1, 0, 0, 0⟩,
  ⟨0x260002, 256, 12, 2, 0, 0, 0⟩,
  ⟨0x310001, 1, 1, 2, 3, 1, 0⟩,
  ⟨0x310002, 1, 1, 2, 3, 1, 0⟩,
  ⟨0x310003, 1, 1, 2, 3, 1, 0⟩,
  ⟨0x310004, 1, 1, 2, 3, 1, 0⟩,
  ⟨0x311001, 1, 1, 4, 0, 0, 0⟩,
  ⟨0x311002, 1, 1, 4, 0, 0, 0⟩,
  ⟨0x311003, 1, 1, 4, 0, 0, 0⟩,
  ⟨0x311004, 1, 1, 4, 0, 0, 0⟩,
  ⟨0x311005, 1, 1, 4, 0, 0, 0⟩,
  ⟨0x312001, 1, 1, 5, 0, 0, 0⟩,
  ⟨0x312002, 1, 1, 5, 0, 0, 0⟩,
  ⟨0x312003, 1, 1, 2, 0, 0, 0⟩,
  ⟨0x340001, 256, 100, 5, 0, 0, 0⟩,
  ⟨0x340002, 256, 100, 5, 0, 0, 0⟩,
  ⟨0x340003, 256, 100, 1, 0, 0, 0⟩,
  ⟨0x340004, 256, 100, 1, 0, 0, 0⟩,
  ⟨0x340005, 256, 100, 5, 0, 0, 0⟩,
  ⟨0x340006, 256, 100, 5, 0, 0, 0⟩,
  ⟨0x340007, 256, 100, 5, 0, 0, 0⟩,
  ⟨0x340008, 256, 100, 9, 0, 0, 0⟩,
  ⟨0x410001, 1, 1, 1, 3, 2, 0⟩,
  ⟨0x410002, 1, 1, 2, 1, 1, 0⟩,
  ⟨0x410003, 1, 1, 1, 1, 1, 0⟩,
  ⟨0x410004, 1, 1, 2, 2, 2, 0⟩,
  ⟨0x411001, 1, 1, 1, 0, 0, 0⟩,
  ⟨0x411002, 1, 1, 1, 0, 0, 0⟩,
  ⟨0x411003, 1, 1, 1, 0, 0, 0⟩]

/-- Rows of the directory, part 3. -/
def dictRows3 : List DictEntry := [
  ⟨0x411004, 1, 1, 1, 0, 0, 0⟩,
  ⟨0x411005, 1, 1, 3, 0, 0, 0⟩,
  ⟨0x411006, 1, 1, 10, 0, 0, 0⟩,
  ⟨0x411007, 1, 1, 9, 0, 0, 0⟩,
  ⟨0x412001, 1, 1, 4, 0, 0, 0⟩,
  ⟨0x412002, 1, 1, 4, 0, 0, 0⟩,
  ⟨0x412003, 1, 1, 4, 0, 0, 0⟩,
  ⟨0x412004, 1, 1, 4, 0, 0, 0⟩,
  ⟨0x412005, 1, 1, 4, 0, 0, 0⟩,
  ⟨0x412006, 1, 1, 4, 0, 0, 0⟩,
  ⟨0x412007, 1, 1, 4, 0, 0, 0⟩,
  ⟨0x413001, 256, 8, 9, 0, 0, 0⟩,
  ⟨0x420001, 1, 1, 3, 3, 1, 0⟩,
  ⟨0x420002, 1, 1, 1, 1, 2, 0⟩,
  ⟨0x420003, 1, 1, 1, 0, 0, 0⟩,
  ⟨0x421001, 1, 1, 4, 0, 0, 0⟩,
  ⟨0x421002, 1, 1, 4, 0, 0, 0⟩,
  ⟨0x421003, 1, 1, 4, 0, 0, 0⟩,
  ⟨0x421004, 1, 1, 4, 0, 0, 0⟩,
  ⟨0x421005, 1, 1, 4, 0, 0, 0⟩,
  ⟨0x421006, 1, 1, 4, 0, 0, 0⟩,
  ⟨0x440001, 256, 366, 1, 0, 0, 0⟩,
  ⟨0x440002, 256, 366, 4, 0, 0, 0⟩,
  ⟨0x440003, 256, 366, 4, 0, 0, 0⟩,
  ⟨0x440004, 256, 366, 4, 0, 0, 0⟩,
  ⟨0x440005, 256, 366, 4, 0, 0, 0⟩,
  ⟨0x440006, 256, 366, 9, 0, 0, 0⟩,
  ⟨0x440007, 256, 366, 9, 1, 2, 304⟩,
  ⟨0x440008, 256, 366, 9, 0, 0, 0⟩,
  ⟨0x440009, 256, 366, 9, 0, 0, 0⟩,
  ⟨0x460001, 256, 10, 1, 0, 0, 0⟩,
  ⟨0x460002, 256, 10, 1, 0, 0, 0⟩,
  ⟨0x460003, 256, 10, 2, 0, 0, 0⟩,
  ⟨0x460004, 256, 10, 2, 0, 0, 0⟩,
  ⟨0x460005, 256, 10, 9, 0, 0, 0⟩,
  ⟨0x460006, 256, 10, 3, 0, 0, 0⟩,
  ⟨0x510001, 1, 1, 2, 3, 1, 0⟩,
  ⟨0x510002, 1, 1, 1, 1, 1, 0⟩,
  ⟨0x510003, 1, 1, 2, 1, 1, 0⟩,
  ⟨0x510004, 1, 1, 2, 1, 2, 0⟩]

/-- Rows of the directory, part 4. -/
def dictRows4 : List DictEntry := [
  ⟨0x510005, 1, 1, 2, 1, 2, 0⟩,
  ⟨0x511001, 1, 1, 4, 0, 0, 0⟩,
  ⟨0x511002, 1, 1, 1, 0, 0, 0⟩,
  ⟨0x511003, 1, 1, 9, 0, 0, 0⟩,
  ⟨0x512001, 1, 1, 4, 0, 0, 0⟩,
  ⟨0x512002, 1, 1, 4, 0, 0, 0⟩,
  ⟨0x512003, 1, 1, 4, 0, 0, 0⟩,
  ⟨0x512004, 1, 1, 4, 0, 0, 0⟩,
  ⟨0x512005, 1, 1, 4, 0, 0, 0⟩,
  ⟨0x512006, 1, 1, 4, 0, 0, 0⟩,
  ⟨0x512007, 1, 1, 4, 0, 0, 0⟩,
  ⟨0x512008, 1, 1, 4, 0, 0, 0⟩,
  ⟨0x512009, 1, 1, 4, 0, 0, 0⟩,
  ⟨0x51200A, 1, 1, 4, 0, 0, 0⟩,
  ⟨0x540001, 256, 24, 1, 0, 0, 0⟩,
  ⟨0x540002, 256, 24, 1, 0, 0, 0⟩,
  ⟨0x540003, 256, 24, 9, 0, 0, 0⟩,
  ⟨0x540004, 256, 24, 4, 0, 0, 0⟩,
  ⟨0x540005, 256, 24, 9, 0, 0, 0⟩,
  ⟨0x540006, 256, 24, 3, 0, 0, 0⟩,
  ⟨0x610001, 1, 1, 2, 3, 2, 0⟩,
  ⟨0x611001, 1, 1, 3, 3, 1, 0⟩,
  ⟨0x611002, 1, 1, 2, 3, 1, 0⟩,
  ⟨0x611003, 1, 1, 1, 1, 1, 0⟩,
  ⟨0x611004, 1, 1, 2, 1, 1, 0⟩,
  ⟨0x611005, 1, 1, 2, 0, 0, 0⟩,
  ⟨0x612001, 1, 1, 4, 0, 0, 0⟩,
  ⟨0x612002, 1, 1, 4, 0, 0, 0⟩,
  ⟨0x612003, 1, 1, 4, 0, 0, 0⟩,
  ⟨0x612004, 1, 1, 4, 0, 0, 0⟩,
  ⟨0x612005, 1, 1, 4, 0, 0, 0⟩,
  ⟨0x612006, 1, 1, 4, 0, 0, 0⟩,
  ⟨0x612007, 1, 1, 4, 0, 0, 0⟩,
  ⟨0x612008, 1, 1, 4, 0, 0, 0⟩,
  ⟨0x612009, 1, 1, 4, 0, 0, 0⟩,
  ⟨0x61200A, 1, 1, 4, 0, 0, 0⟩,
  ⟨0x61200B, 1, 1, 4, 0, 0, 0⟩,
  ⟨0x61200C, 1, 1, 4, 0, 0, 0⟩,
  ⟨0x61200D, 1, 1, 4, 0, 0, 0⟩,
  ⟨0x630001, 1, 1, 9, 1, 1, 9232⟩]

/-- Rows of the directory, part 5. -/
def dictRows5 : List DictEntry := [
  ⟨0x630002, 1, 1, 9, 0, 0, 0⟩,
  ⟨0x630003, 1, 1, 1, 2, 1, 0⟩,
  ⟨0x630004, 1, 1, 1, 0, 0, 0⟩,
  ⟨0x630005, 1, 1, 1, 2, 2, 0⟩,
  ⟨0x632001, 1, 1, 9, 1, 1, 8192⟩,
  ⟨0x632002, 1, 1, 9, 0, 0, 0⟩,
  ⟨0x633001, 1, 1, 9, 1, 1, 65536⟩,
  ⟨0x640001, 256, 16, 1, 0, 0, 0⟩,
  ⟨0x640002, 256, 16, 3, 0, 0, 0⟩,
  ⟨0x640003, 256, 16, 4, 0, 0, 0⟩,
  ⟨0x640004, 256, 16, 4, 0, 0, 0⟩,
  ⟨0x680000, 1, 4096, 9, 1, 1, 32⟩,
  ⟨0x710001, 1, 1, 1, 0, 0, 0⟩,
  ⟨0x710002, 1, 1, 1, 0, 0, 0⟩,
  ⟨0x710003, 1, 1, 1, 0, 0, 0⟩,
  ⟨0x710004, 1, 1, 2, 0, 0, 0⟩,
  ⟨0x710005, 1, 1, 10, 0, 0, 0⟩,
  ⟨0x710006, 1, 1, 4, 0, 0, 0⟩,
  ⟨0x711001, 1, 1, 4, 0, 0, 0⟩,
  ⟨0x711002, 1, 1, 4, 0, 0, 0⟩,
  ⟨0x711003, 1, 1, 4, 0, 0, 0⟩,
  ⟨0x711004, 1, 1, 4, 0, 0, 0⟩,
  ⟨0x730001, 1, 1, 1, 1, 1, 0⟩,
  ⟨0x730002, 1, 1, 2, 1, 1, 0⟩,
  ⟨0x730003, 1, 1, 1, 1, 2, 0⟩,
  ⟨0x730004, 1, 1, 1, 1, 1, 0⟩,
  ⟨0x730005, 1, 1, 1, 1, 1, 0⟩,
  ⟨0x730006, 1, 1, 2, 1, 1, 0⟩,
  ⟨0x731001, 1, 1, 4, 0, 0, 0⟩,
  ⟨0x731002, 1, 1, 4, 0, 0, 0⟩,
  ⟨0x731003, 1, 1, 4, 0, 0, 0⟩,
  ⟨0x731004, 1, 1, 4, 0, 0, 0⟩,
  ⟨0x731005, 1, 1, 4, 0, 0, 0⟩,
  ⟨0x731006, 1, 1, 4, 0, 0, 0⟩,
  ⟨0x731007, 1, 1, 4, 0, 0, 0⟩,
  ⟨0x732001, 1, 1, 4, 0, 0, 0⟩,
  ⟨0x732002, 1, 1, 2, 0, 0, 0⟩,
  ⟨0x732003, 1, 1, 3, 0, 0, 0⟩,
  ⟨0x733001, 1, 1, 1, 3, 2, 0⟩,
  ⟨0x733002, 1, 1, 1, 3, 2, 0⟩]

/-- Rows of the directory, part 6. -/
def dictRows6 : List DictEntry := [
  ⟨0x733003, 1, 1, 1, 2, 2, 0⟩,
  ⟨0x733004, 1, 1, 1, 0, 0, 0⟩,
  ⟨0x733005, 1, 1, 4, 0, 0, 0⟩,
  ⟨0x810001, 1, 1, 1, 3, 1, 0⟩,
  ⟨0x810002, 1, 1, 1, 3, 1, 0⟩,
  ⟨0x810003, 1, 1, 1, 2, 1, 0⟩,
  ⟨0x810004, 1, 1, 1, 0, 0, 0⟩,
  ⟨0x811001, 1, 1, 4, 0, 0, 0⟩,
  ⟨0x811002, 1, 1, 4, 0, 0, 0⟩,
  ⟨0x811003, 1, 1, 4, 0, 0, 0⟩,
  ⟨0x811004, 1, 1, 4, 0, 0, 0⟩,
  ⟨0x811005, 1, 1, 4, 0, 0, 0⟩,
  ⟨0x811006, 1, 1, 3, 0, 0, 0⟩,
  ⟨0x820001, 1, 1, 4, 0, 0, 0⟩,
  ⟨0x820002, 1, 1, 4, 1, 0, 0⟩,
  ⟨0x820003, 1, 1, 9, 0, 0, 0⟩,
  ⟨0x830001, 1, 1, 3, 3, 1, 0⟩,
  ⟨0x830002, 1, 1, 1, 1, 2, 0⟩,
  ⟨0x830003, 1, 1, 1, 3, 2, 0⟩,
  ⟨0x831001, 1, 1, 4, 0, 0, 0⟩,
  ⟨0x831002, 1, 1, 4, 0, 0, 0⟩,
  ⟨0x831003, 1, 1, 4, 0, 0, 0⟩,
  ⟨0x831004, 1, 1, 4, 0, 0, 0⟩,
  ⟨0x831005, 1, 1, 2, 0, 0, 0⟩,
  ⟨0x832001, 1, 1, 9, 0, 0, 0⟩,
  ⟨0x840001, 256, 100, 4, 2, 2, 0⟩,
  ⟨0x840002, 256, 100, 1, 0, 0, 0⟩,
  ⟨0x850001, 256, 16, 9, 0, 0, 0⟩,
  ⟨0x850002, 256, 16, 9, 0, 0, 0⟩,
  ⟨0x910001, 1, 1, 1, 0, 0, 0⟩,
  ⟨0x910002, 1, 1, 3, 0, 0, 0⟩,
  ⟨0x910003, 1, 1, 9, 2, 2, 202⟩,
  ⟨0x910004, 1, 1, 1, 0, 0, 0⟩,
  ⟨0x910005, 1, 1, 9, 0, 0, 0⟩,
  ⟨0x911001, 1, 1, 3, 0, 0, 0⟩,
  ⟨0x911002, 1, 1, 10, 0, 0, 0⟩,
  ⟨0x911003, 1, 1, 1, 0, 0, 0⟩,
  ⟨0x912001, 1, 1, 9, 0, 0, 0⟩,
  ⟨0x912002, 1, 1, 9, 1, 0, 32⟩,
  ⟨0x912003, 1, 1, 9, 0, 0, 0⟩]

/-- Rows of the directory, part 7. -/
def dictRows7 : List DictEntry := [
  ⟨0x913001, 1, 1, 9, 0, 0, 0⟩,
  ⟨0x913002, 1, 1, 9, 2, 0, 114⟩,
  ⟨0xA10001, 1, 1, 9, 2, 2, 0⟩,
  ⟨0xA10002, 1, 1, 1, 2, 2, 0⟩,
  ⟨0xA10003, 1, 1, 1, 2, 2, 0⟩,
  ⟨0xA10004, 1, 1, 2, 3, 2, 0⟩,
  ⟨0xA11001, 1, 1, 1, 0, 0, 0⟩,
  ⟨0xA11002, 1, 1, 1, 0, 0, 0⟩,
  ⟨0xA11003, 1, 1, 9, 0, 0, 0⟩,
  ⟨0xA11004, 1, 1, 3, 0, 0, 0⟩,
  ⟨0xB10001, 1, 1, 1, 0, 0, 0⟩,
  ⟨0xB10002, 1, 1, 1, 0, 0, 0⟩,
  ⟨0xB10003, 1, 1, 1, 0, 0, 0⟩,
  ⟨0xB10004, 1, 1, 1, 0, 0, 0⟩,
  ⟨0xB10005, 1, 1, 2, 0, 0, 0⟩,
  ⟨0xB10006, 1, 1, 6, 0, 0, 0⟩,
  ⟨0xB10007, 1, 1, 6, 0, 0, 0⟩,
  ⟨0xB10008, 1, 1, 1, 0, 0, 0⟩,
  ⟨0xB11001, 1, 1, 3, 3, 1, 0⟩,
  ⟨0xB11002, 1, 1, 1, 3, 1, 0⟩,
  ⟨0xB11003, 1, 1, 1, 3, 1, 0⟩,
  ⟨0xB11004, 1, 1, 9, 3, 2, 32⟩,
  ⟨0xB12001, 1, 1, 4, 0, 0, 0⟩,
  ⟨0xB12002, 1, 1, 4, 0, 0, 0⟩,
  ⟨0xB12003, 1, 1, 4, 0, 0, 0⟩,
  ⟨0xB12004, 1, 1, 4, 0, 0, 0⟩,
  ⟨0xC10001, 1, 1, 1, 0, 0, 0⟩,
  ⟨0xC10002, 1, 1, 3, 0, 0, 0⟩,
  ⟨0xC10003, 1, 1, 3, 0, 0, 0⟩,
  ⟨0xC10004, 1, 1, 4, 0, 0, 0⟩,
  ⟨0xC11001, 256, 2, 1, 0, 0, 0⟩,
  ⟨0xC11002, 256, 2, 4, 0, 0, 0⟩,
  ⟨0xC11003, 256, 2, 1, 0, 0, 0⟩,
  ⟨0xC12001, 1, 1, 4, 0, 0, 0⟩,
  ⟨0xC12002, 1, 1, 10, 0, 0, 0⟩,
  ⟨0xC12003, 1, 1, 4, 0, 0, 0⟩,
  ⟨0xC12004, 1, 1, 3, 0, 0, 0⟩,
  ⟨0xC12005, 1, 1, 2, 0, 0, 0⟩,
  ⟨0xC12006, 1, 1, 4, 0, 0, 0⟩,
  ⟨0xC12007, 1, 1, 2, 0, 0, 0⟩]

/-- Rows of the directory, part 8. -/
def dictRows8 : List DictEntry := [
  ⟨0xC12008, 1, 1, 1, 2, 2, 0⟩,
  ⟨0xC20001, 1, 1, 3, 0, 0, 0⟩,
  ⟨0xC20002, 1, 1, 9, 0, 0, 0⟩,
  ⟨0xC20003, 1, 1, 9, 0, 0, 0⟩,
  ⟨0xC20004, 1, 1, 9, 0, 0, 0⟩,
  ⟨0xD10001, 1, 1, 1, 3, 1, 0⟩,
  ⟨0xD10002, 1, 1, 1, 3, 1, 0⟩,
  ⟨0xD10003, 1, 1, 2, 3, 2, 0⟩,
  ⟨0xD10004, 1, 1, 1, 3, 1, 0⟩,
  ⟨0xD10005, 1, 1, 9, 3, 2, 320⟩,
  ⟨0xD11001, 1, 1, 4, 0, 0, 0⟩,
  ⟨0xD11002, 1, 1, 4, 0, 0, 0⟩,
  ⟨0xD11003, 1, 1, 4, 0, 0, 0⟩,
  ⟨0xD11004, 1, 1, 4, 0, 0, 0⟩,
  ⟨0xD40001, 256, 2, 1, 3, 1, 0⟩,
  ⟨0xD40002, 256, 2, 1, 0, 0, 0⟩,
  ⟨0xD40003, 256, 2, 2, 0, 0, 0⟩,
  ⟨0xD40004, 256, 2, 4, 0, 0, 0⟩,
  ⟨0xD40005, 256, 2, 4, 3, 1, 0⟩,
  ⟨0xD40006, 256, 2, 9, 3, 1, 17⟩,
  ⟨0xD40007, 256, 2, 2, 3, 1, 0⟩,
  ⟨0xD40008, 256, 2, 1, 0, 0, 0⟩,
  ⟨0xD60001, 256, 16, 9, 1, 1, 32⟩,
  ⟨0xD70000, 1, 256, 9, 1, 1, 32⟩,
  ⟨0xD80000, 1, 4096, 9, 1, 1, 64⟩]

/-- The whole directory, in increasing index (R420). -/
def dictRows : List DictEntry :=
  dictRows1 ++ dictRows2 ++ dictRows3 ++ dictRows4 ++ dictRows5 ++ dictRows6 ++ dictRows7 ++ dictRows8

/-- Does a row cover an object? -/
def DictEntry.covers (e : DictEntry) (code : Nat) : Bool :=
  decide (e.code ≤ code) && decide (code < e.code + e.step * e.count) && decide ((code - e.code) % e.step = 0)

/-- The row of an object. -/
def dictFind (code : Nat) : Option DictEntry := dictRows.find? (fun e => e.covers code)

/-- Is an object of class RWP (R402)? -/
def isRwp (code : Nat) : Bool := match dictFind code with | some e => e.access == 3 | none => false

/-- Is an object of class RW (R402)? -/
def isRw (code : Nat) : Bool := match dictFind code with | some e => e.access == 1 | none => false

/-- Bytes of a fixed-size type (R401 Table 1); 0 for STRING and BLOB. -/
def typeSize (t : Nat) : Nat :=
  match t with
  | 1 => 1 | 2 => 2 | 3 => 4 | 4 => 8 | 5 => 2 | 6 => 4 | 7 => 4 | 10 => 8 | _ => 0

end Sys2Proof.Machine
end

