-- ==== Sys2Proof/Config.lean ====
section
/-! DEFINITION. What an implementation fixes and the spec leaves open. Every constant here is opaque and has no
body: nothing can be proved of its value, so a statement holds for every value. -/
namespace Sys2Proof

/-- A free byte: content the spec calls undefined (R29, R72, R76). Arguments: the free-value counter, a place. -/
opaque Config.freeByte : Nat → Nat → Byte

/-- A free choice: an outcome the spec lets fall either way. Arguments: the free-value counter, a place. -/
opaque Config.freeBool : Nat → Nat → Bool

/-- A free 64-bit value. -/
opaque Config.freeWord : Nat → Nat → Word

/-- Is a port attached to a switch-cell group of a base tile (R134)? The factory fixes it. -/
opaque Config.attached : Nat → Nat → Nat → Bool

/-- Factory baseline of a ring (R154): ring, then 0 HEATER, 1 DRIVE, 2 THRESHOLD, 3 DELAY. -/
opaque Config.ringBase : Nat → Nat → Nat

/-- Factory values of a comb (R156, R137): comb, then 0 nominal drive, 1 threshold current, 2 maximum drive, 3 idle drive, in 0.1 mA. -/
opaque Config.combFactory : Nat → Nat → Nat

/-- Baseline of a tap monitor, measured at the factory and kept in the carafe (R138): line k of comb c at 36 c + k, line k of port p at
1000 + 36 p + k. -/
opaque Config.tapBase : Nat → Nat

/-- Gains of the time servo (R312 gives its time constant only): 0 the proportional one, 1 the integral one, each relative to the time constant. -/
opaque Config.servoGain : Nat → Int

/-- The highest interface level the firmware knows (R441). -/
opaque Config.topLevel : Nat

/-- The vendor root public key of the boot ROM (R423), 57 bytes. -/
opaque Config.vendorRoot : Nat → Byte

/-- The secret fused into a barista (R423): barista, byte. -/
opaque Config.fusedSecret : Nat → Nat → Byte

/-- What the cupping test of a working engine writes back, by the words its generator yields (R367): the spec gives no order of the descriptors. -/
opaque Config.cupWritten : (Nat → BitVec 64) → List (BitVec 8)

/-- The firmware image the factory leaves in slot A (R451). -/
opaque Config.factoryImage : List Byte

/-- A factory byte of a dictionary object kept in the carafe: the object's code, the place of the byte. -/
opaque Config.factoryByte : Nat → Nat → Byte

/-- Does a misaligned load or store of the control core or vector unit trap (R26 leaves it to the implementation)? -/
opaque Config.misalignedTraps : Bool

/-- Does a trap of a cause write `mtval`, or leave it zero (R26)? -/
opaque Config.tvalWritten : Nat → Bool

/-- The choice of a vector length between half the application length and VLMAX (R28): the length, VLMAX. -/
opaque Config.vlChoice : Nat → Nat → Nat

/-- Identity CSRs of a tile's core (R26): CSR number, tile. -/
opaque Config.coreId : Nat → Nat → Word

/-- The flits beyond one that a VC1 egress queue of an external link holds (R264 measures its fill and does not give its size). -/
opaque Config.egressMore : Nat

end Sys2Proof
end

