-- ==== Sys2Proof/Machine/TileTypes.lean ====
section
/-! DEFINITION. State of a tile: control core, vector unit, matrix engine, DMA unit, stores and job CSRs
(R25 to R66, R67 to R76, R203 to R209, R259 to R261). -/
namespace Sys2Proof.Machine

/-- A tile store or deep store. Bytes are listed at strictly rising addresses; in a store that was cleared
(R76, R446) an unlisted byte reads as zero and no listed byte is zero; otherwise an unlisted byte has not been
written since the store was switched on and reads as a free value (R72). `marks` are the poison marks of
lines, `errs` the stored bit errors of 8 B words (1 single, 2 double) that the check code meets. -/
structure Store where
  seed : Nat := 0
  bytes : List Host.Cell := []
  cleared : Bool := false
  marks : Tbl Bool := []
  errs : Tbl Nat := []
deriving DecidableEq, Repr

/-- Type of an accumulator (R36). -/
inductive AccKind where
  | empty | float | int
deriving DecidableEq, Repr

/-- An accumulator: its type and its 32 by 64 cells, cell (m, n) at `64 * m + n` (R35, R36). -/
structure Acc where
  kind : AccKind := .empty
  cells : Tbl (BitVec 32) := []
deriving DecidableEq, Repr

/-- A started descriptor that has not retired (R46, R47): its number, NOTIFY, its OP, the accumulator it names, whether it is
known to be complete, and the tile-store writes of an ACC_STORE that become visible when it completes. -/
structure Started where
  number : Word
  notify : Bool
  op : Nat
  acc : Option Nat
  complete : Bool
  writes : List Host.Cell
  seed : Nat := 0
deriving DecidableEq, Repr

/-- The matrix engine and its queue registers (R44 Table 11). -/
structure Mq where
  base : BitVec 20 := 0
  tail : Word := 0
  head : Word := 0
  done : Word := 0
  halted : Bool := false
  aborted : Bool := false
  error : BitVec 8 := 0
  tag : BitVec 32 := 0
  enable : Bool := false
  notifyIe : Bool := false
  errorIe : Bool := false
  intSat : Bool := false
  overflow : Bool := false
  nanOut : Bool := false
  specialIn : Bool := false
  srSeed : Word := 1
  srPos : Fin 4 := 0
  accs : Tbl Acc := []
  started : List Started := []
  aborting : Bool := false
  haltPending : Option (BitVec 8 × BitVec 32) := none
  published : Tbl (List Word) := []
deriving DecidableEq, Repr

/-- The DMA unit: the copy registers and the outstanding copies in start order, `none` for one that moves no
data (R29). -/
structure Dma where
  src : BitVec 32 := 0
  dst : BitVec 32 := 0
  done : Word := 0
  bad : Bool := false
  queue : List (Option (Nat × Nat × Nat)) := []
deriving DecidableEq, Repr

/-- The control core (R26, R27): program counter, integer and floating-point registers, machine CSRs, the
load reservation, pending local interrupts. `cycle` is what the count of core clocks is offset by, or the count itself while it is
inhibited. -/
structure CoreSt where
  running : Bool := false
  pc : Word := 0
  x : Tbl Word := []
  f : Tbl Word := []
  mstatus : Word := 0x6600
  mie : Word := 0
  mip : Word := 0
  mtvec : Word := 0
  mscratch : Word := 0
  mepc : Word := 0
  mcause : Word := 0
  mtval : Word := 0
  fcsr : BitVec 8 := 0
  cycle : Word := 0
  instret : Word := 0
  countInhibit : BitVec 3 := 0
  reservation : Option Nat := none
deriving DecidableEq, Repr

/-- The vector unit (R28). -/
structure VecSt where
  v : Tbl (BitVec 2048) := []
  vl : Word := 0
  vtype : Word := 0x8000000000000000
  vstart : Word := 0
  vxrm : BitVec 2 := 0
  vxsat : Bool := false
deriving DecidableEq, Repr

/-- A transfer of a flow outstanding at a tile (R203, R204): its number, the lines written, the lines
reported checked, whether every request answer has arrived, whether REDUCE_DONE arrived, and its ending bits
(POISON, REFUSED, UNKNOWN, FENCED as FLOW_STATUS has them), when its last slot came and, for a packed load, the
output lines of each unit whose header has arrived, and for a remote transfer its units that have not ended. -/
structure Transfer where
  n : Nat
  got : List Nat
  checked : Nat
  reqDone : Bool
  left : Bool
  reduced : Bool
  expect : Nat
  status : BitVec 4
  lastSlot : Option Nat
  units : Tbl Nat
  remote : Nat
deriving DecidableEq, Repr

/-- A flow at a tile: transfers completed, FLOW_STATUS, transfers begun, transfers a receiver of a SEND has started, transfers outstanding
(R201, R204, R206). -/
structure FlowSt where
  count : Word := 0
  status : BitVec 4 := 0
  begun : Nat := 0
  asked : Nat := 0
  open_ : List Transfer := []
deriving DecidableEq, Repr

/-- A reduction flow in a tile's combining unit (R88). -/
structure CombFlow where
  flow : BitVec 16
  first : Nat
  lines : Nat
  contributors : Nat
  bf16 : Bool
deriving DecidableEq, Repr

/-- State of a tile's cupping test (R367). -/
inductive CupState where
  | idle | waiting | running | finished | hung
deriving DecidableEq, Repr

/-- A tile. `icache` is the control core's instruction cache, by 64 B line of the core's address space (R25), `combIn` the REDUCE
packets its combining unit is taking in, each with its next flit (R88), `banksOut` are banks of its deep store mapped out and `half` a
vertical path at half width (R445). -/
structure Tile where
  core : CoreSt := {}
  icache : Tbl (List Byte) := []
  vec : VecSt := {}
  mq : Mq := {}
  dma : Dma := {}
  store : Store := {}
  deep : Store := {}
  combCounts : Tbl Nat := []
  combFlows : List CombFlow := []
  combIn : List (MeshPacket × Nat) := []
  flows : Tbl FlowSt := []
  flowSel : BitVec 16 := 0
  syncSel : BitVec 8 := 0
  flagSel : BitVec 12 := 0
  jobInfo : Word := 0
  jobIe : BitVec 3 := 0
  arrivals : Tbl Nat := []
  epochs : Tbl Nat := []
  fabArr : Tbl Nat := []
  fabBsel : Word := 0
  fabFsel : Word := 0
  cup : CupState := .idle
  cupSum : Word := 0
  cupFrom : Nat := 0
  cupPassed : Option Word := none
  halted : Bool := false
  bootGot : Nat := 0
  bootWant : Nat := 0
  bootBad : Bool := false
  droopAt : Option Nat := none
  banksOut : BitVec 16 := 0
  half : Bool := false
  stretched : Nat := 0
deriving DecidableEq, Repr

/-- A unit held by a port inflater between its expansion and its check (R64). -/
structure UnitInCheck where
  flow : Nat
  tile : Nat
  transfer : Nat
  firstLine : Nat
  lines : Nat
  good : Bool
deriving DecidableEq, Repr

/-- A flit held in a port inflater's 16 KiB buffer (R64): the transfer it belongs to and its position in it. -/
structure InflFlit where
  flow : Nat
  tile : Nat
  transfer : Nat
  offset : Nat
  flit : Flit
deriving DecidableEq, Repr

/-- A compute-die port inflater: its 16 KiB buffer, the units whose bytes it discards since they overflowed, those of them whose
output range is not yet written since an earlier unit's length is not known, and the units in check (R64, R65). -/
structure Inflater where
  buf : List InflFlit := []
  owed : List (Nat × Nat × Nat × Nat) := []
  dropped : List (Nat × Nat × Nat × Nat) := []
  check : List UnitInCheck := []
deriving DecidableEq, Repr

/-- A REDUCE packet waiting at a router for a partner (R86): its output, and the cycle of the die's clock at which its head flit came. -/
structure CombWait where
  packet : MeshPacket
  out : Nat
  since : Nat
deriving DecidableEq, Repr

/-- The skew buffer of a tile-to-tile link (R302 to R304): entries of the packet on it that the sender has not written, entries written and
not read, the sender cycles until each credit on its way is back, the cycle of the die's clock it stands at, and the edges that the sender's
and the receiver's region suppress from there. -/
structure SkewBuf where
  left : Nat := 0
  held : Nat := 0
  back : List Nat := []
  at_ : Nat := 0
  sCut : Nat := 0
  rCut : Nat := 0
deriving DecidableEq, Repr

/-- Whom a request's lines are for: a transfer of a tile, a tile's boot from a tile-store line on, the die's own die record (R213), or
nobody since a later job has started. -/
inductive ReqFor where
  | transfer
  | boot (line : Nat)
  | dieRecord
  | nobody
deriving DecidableEq, Repr

/-- A request a compute die has issued (R171): which transfer of which tile it serves, the memory base dies
whose answers are awaited, those not yet sent to (R93), the worst status so far, the positions received and
when it was sent. -/
structure DieReq where
  for_ : ReqFor := .transfer
  tile : BitVec 6
  tag : BitVec 10
  flow : BitVec 16
  transfer : Nat
  load : Bool
  addr : Nat
  lines : Nat
  waiting : List Nat
  unsent : List Nat
  worst : BitVec 2
  got : List Nat
  sentAt : Nat
  late : Option (Nat × List Byte) := none
deriving DecidableEq, Repr

/-- A flit queued for a flow's slots at a die (R114, R172): the receiving site, the slot header's fields and, of a SEND, the transfer. -/
structure TxFlit where
  dstSite : Nat
  req : Bool
  tile : BitVec 6
  tag : BitVec 10
  offset : Nat
  flit : Flit
  last : Bool
  xfer : Nat := 0
deriving DecidableEq, Repr

/-- The mesh side and the synchronisation homes of a compute die (R171, R208, R209): `txMeta` says, by adapter, tile and flow, whom the
lines of WRITE packets on their way to an adapter are for (R82), `unitMeta`, by inflater, tile and flow, which transfers the UNIT_CHECKED
packets on their way belong to (R205), `heads` when the head flit of a REDUCE came to a router (R86), `lastReq` when the last request packet left (R93), `clockFrom` the tick
at which its clock started. -/
structure ComputeDie where
  waits : Tbl (List CombWait) := []
  reqs : List DieReq := []
  txq : Tbl (List TxFlit) := []
  txMeta : Tbl (List TxFlit) := []
  unitMeta : Tbl (List Nat) := []
  heads : List (Nat × MeshPacket × Nat) := []
  lastReq : Option Nat := none
  arrived : Tbl (List Nat) := []
  sent : Tbl Nat := []
  homeFlag : Tbl Word := []
  flagCopy : Tbl Word := []
  fabCopy : Tbl Word := []
  fabEpoch : Tbl Nat := []
  clockFrom : Nat := 0
  skews : Tbl SkewBuf := []
  dieRec : Option Bool := none
deriving DecidableEq, Repr

end Sys2Proof.Machine
end

