-- ==== Sys2Proof/Machine/LightTypes.lean ====
section
/-! DEFINITION. State of the light side: ports, slot tables, base tiles, switch cells, arbiters and the changes
named for a frame boundary (R97 to R135). -/
namespace Sys2Proof.Machine

/-- Corrected symbols of one frame on one line, from one sender (R131). -/
structure LineErrs where
  frame : Nat
  line : Nat
  sender : Nat
  count : Nat
deriving DecidableEq, Repr

/-- A light port or external link end, by port index (R103): exclusion sets, failure, error counts and what the error ladder looks back
on (R105, R130, R131, R135): the corrected symbols of the last 1,024 frames, and the frames of the last 64 with an uncorrectable slot, each
with the sender it was due from. `acquiring` says that its bank came on and its rings have not all locked
since (R329). `launch` is the launch delay in steps of 1 ps and `launchAsk` the step it is to make (R299). `jointTx` and `jointRx` are the lines that joint
groups beyond their spares put into the sets until the next start-up (R445). `due` is the sending tile and the transfer whose stream data the port's slot carries. -/
structure PortSt where
  failed : Bool := false
  unpowered : Bool := false
  txSet : BitVec 36 := 0
  rxSet : BitVec 36 := 0
  jointTx : BitVec 36 := 0
  jointRx : BitVec 36 := 0
  clearAtStart : Bool := false
  corrected : Word := 0
  uncorr : Word := 0
  lineErr : Tbl (BitVec 32) := []
  errLog : List LineErrs := []
  badLog : List (Nat × Option Nat) := []
  acquiring : Bool := false
  launch : Int := 0
  launchAsk : Option Bool := none
  due : Option (Nat × Nat) := none
  calTx : Option (Fin 36) := none
  calRx : Option (Fin 36) := none
deriving DecidableEq, Repr

/-- A slot-table set (R122, R123): entry of port `p` in slot `s` at `64 * p + s`. -/
structure TabSet where
  gen : BitVec 8
  blend : Nat
  covers : List Nat
  entries : Tbl (BitVec 32)
deriving DecidableEq, Repr

/-- States of a shadow (R135 SHADOW_STATE). -/
inductive ShadowState where
  | empty | loading | accepted | rejected | armed
deriving DecidableEq, Repr

/-- A base tile's shadow table (R125 to R128). -/
structure Shadow where
  state : ShadowState := .empty
  gen : BitVec 8 := 0
  owner : BitVec 7 := 0x7F
  header : List Byte := []
  entries : Tbl (BitVec 32) := []
  rows : List Nat := []
  badCheck : Bool := false
  swapAt : Word := 0
deriving DecidableEq, Repr

/-- A base tile's timing receiver (R13, R299, R300): the tree it follows, holdover, the phase it still pulls in, and for each tree the receive
delay, the delay it is stepping to and the frame of the last measurement. -/
structure Timing where
  tree : Fin 2 := 0
  holdover : Bool := false
  lastEdge : Nat := 0
  absentSince : Option Nat := none
  phasePull : Nat := 0
  delayA : Nat := 0
  delayB : Nat := 0
  targetA : Nat := 0
  targetB : Nat := 0
  measuredA : Option Nat := none
  measuredB : Option Nat := none
deriving DecidableEq, Repr

/-- A base tile. `unswapped` is the boundary of a swap this tile could not carry out (R128). -/
structure BaseTile where
  active : Option TabSet := none
  shadow : Shadow := {}
  unswapped : Option Word := none
  failedByRule : Bool := false
  spareUsed : List Nat := []
  cellDown : List Nat := []
  timing : Timing := {}
deriving DecidableEq, Repr

/-- A change named for a frame boundary (R107, R115, R129, R133, R134, R157, R158, R196, R237, R271, R314,
R363, R387). -/
inductive Change where
  | laneExclude (p : Nat) (rx : Bool) (line : Nat)
  | portFailed (p : Nat)
  | cellBypass (bt cell : Nat)
  | fence (site : Nat) (tile : Option Nat) (cause : Nat) (forced : Bool)
  | setLost (set stack : Nat)
  | combSwitch (bt comb : Nat) (sudden : Bool)
  | calStart (rx : Bool) (step : Nat)
  | swingRelease (p : Nat) (rx : Bool) (line : Nat) (toSpare : Bool)
  | linkExclude (link : Nat) (rx : Bool) (line : Nat)
  | routeSwitch
  | timeStep (d : Word)
  | epoch (v : Word)
  | handback
  | lightTree (n : Nat)
  | darkTree (n : Nat)
  | jobStart
  | cupStart
  | joint (site group joint : Nat) (carries : JointCarries)
  | blendStart
deriving DecidableEq, Repr

/-- State of one common arbiter (R97): wait counters and grants of the window by requester, the last grant, fall-back, the grant in use
with the time it began and its declared burst (R99), when the window began, and the settings in force, a WAIT_LIMIT of 0 standing for the
defaults (R100). -/
structure ArbSt where
  wait : Tbl Nat := []
  used : Tbl Nat := []
  last : Nat := 31
  fallback : Bool := false
  holder : Option Nat := none
  since : Nat := 0
  burst : Nat := 0
  winStart : Nat := 0
  waitLimit : Nat := 0
  quota : Nat := 0
  holdFactor : Nat := 2
deriving DecidableEq, Repr

end Sys2Proof.Machine
end

