-- ==== Sys2Proof/Machine/MemTypes.lean ====
section
/-! DEFINITION. State of the memory stacks (R164 to R198). -/
namespace Sys2Proof.Machine

/-- State of a repair record (R193, R194). -/
inductive RepairState where
  | soft | fusing | fused
deriving DecidableEq, Repr

/-- A row of one DRAM die: `row = (channel * 16 + bank) * 131072 + row number`. -/
structure DieRow where
  die : Nat
  row : Nat
deriving DecidableEq, Repr

/-- A repair record (R193). -/
structure RepairRec where
  at_ : DieRow
  state : RepairState
  committed : Bool
deriving DecidableEq, Repr

/-- Corrections in a die's row: the lines corrected in this scrub pass, whether an earlier pass had any, and whether the row has become
a repair candidate (R193). -/
structure RowHits where
  at_ : DieRow
  lines : List Nat
  earlier : Bool
  judged : Bool
deriving DecidableEq, Repr

/-- A request a memory base die holds (R172): positions of its share, those already served, whether a poisoned
line was sent, when it was accepted, and of an ATOMIC flow the result records of the flit being filled and the flits already queued
(R183). -/
structure Held where
  req : Request
  load : Bool
  need : List Nat
  got : List Nat
  poisoned : Bool
  at_ : Nat
  part : List Byte := []
  flitsOut : Nat := 0
deriving DecidableEq, Repr

/-- A line of the atomic unit's write-back buffer (R187). -/
structure BufLine where
  line : Nat
  data : List Byte
  poison : Bool
deriving DecidableEq, Repr

/-- What waits for a bank that a soft repair holds (R193 Table 13): a LOAD_REQ, a flit of a STORE_REQ, a carrier's record, a unit of a fabric
die or a host die. -/
inductive BankItem where
  | load (r : Request)
  | flit (src : Nat) (tile : BitVec 6) (tag : BitVec 10) (pos : Nat) (fl : Flit)
  | record (site : Nat) (r : OpRecord) (data : List Flit) (poison : Bool)
  | unit (site : Nat) (p : FabPacket)
deriving DecidableEq, Repr

/-- What a flow does at a memory base die (R174). -/
inductive FlowKind where
  | copy
  | reduce (op fmt : BitVec 8)
  | atomic (returnFlow : BitVec 16)
deriving DecidableEq, Repr

/-- A memory stack and its base die. `bytes` are the data bytes by stack offset, an unlisted byte reading as zero
(R179); `check` the stored check symbols of a line, P in bits 31:0 and Q in bits 63:32, an unlisted line reading
as the valid check of a zero line, which is zero. `lineBuf` is the write-back buffer, the line used last first (R187); `scrubbed` says that
a scrub pass has ended since the stack reported ready (R178); `closing` that it finishes what it holds before self-refresh (R191); `busyTo` the tick until which a bank is busy with refresh or repair (R188). -/
structure Stack where
  bytes : List Host.Cell := []
  check : Tbl Word := []
  failed : Bool := false
  failRow : Nat := 0
  selfRefresh : Bool := false
  closing : Bool := false
  off : Bool := true
  marked : Option (Fin 18) := none
  dieCorrected : Tbl (BitVec 32) := []
  uncorrectable : Word := 0
  scrubPos : Nat := 0
  passRows : List DieRow := []
  rowHits : List RowHits := []
  badLines : Tbl Nat := []
  candidates : List DieRow := []
  spareUsed : List Nat := []
  repairing : Option DieRow := none
  records : List RepairRec := []
  fuses : List DieRow := []
  softSincePower : Nat := 0
  lineBuf : List BufLine := []
  scrubbed : Bool := false
  bankWait : List BankItem := []
  postponed : Tbl Nat := []
  busyTo : Tbl Nat := []
  window16 : Bool := false
  held : List Held := []
  txq : Tbl (List TxFlit) := []
  temps : Tbl (BitVec 16) := []
deriving DecidableEq, Repr

end Sys2Proof.Machine
end

