-- ==== Sys2Proof/Machine/JobTypes.lean ====
section
/-! DEFINITION. Job images as parsed data, and the job (R199 to R227). -/
namespace Sys2Proof.Machine

/-- A part entry of a flow (R202 Table 4). -/
structure Part where
  vtile : Nat
  peer : Nat
  tsLine : Nat
  tsRing : Nat
  lines : Nat
  outLines : Nat
  offset : Nat
  step : Nat
  wrap : Nat
deriving DecidableEq, Repr

/-- A flow descriptor (R202 Table 3) with its part entries. -/
structure FlowDesc where
  flow : Nat
  kind : Nat
  region : Nat
  op : Nat
  fmt : Nat
  returnFlow : Nat
  destVtile : Nat
  count : Nat
  parts : List Part
deriving DecidableEq, Repr

/-- A region entry (R207 Table 7). -/
structure RegionE where
  region : Nat
  remote : Bool
  access : Nat
  arg : Nat
  base : Nat
  size : Nat
  key : Nat
deriving DecidableEq, Repr

/-- A region as resolved at a start (R207). -/
structure Resolved where
  region : Nat
  remote : Bool
  base : Nat
  size : Nat
  key : Nat
deriving DecidableEq, Repr

structure BarrierE where
  group : Nat
  members : List Nat
deriving DecidableEq, Repr

structure FlagE where
  flag : Nat
  initial : Word
  subs : List Nat
deriving DecidableEq, Repr

/-- A code table (R62): its KIND and the code length of each symbol. -/
structure CodeTable where
  index : Nat
  kind : Nat
  lens : List Nat
deriving DecidableEq, Repr

/-- A virtual tile's program number and part-table line (R210 Table 8c). -/
structure VtileE where
  program : Nat
  partsLine : Nat
deriving DecidableEq, Repr

/-- A section of an image: type, index, byte offset and length. -/
structure Section where
  type : Nat
  index : Nat
  off : Nat
  len : Nat
deriving DecidableEq, Repr

/-- A variant (R211 Table 9): binding entry `v` is `64 * die + tile`. -/
structure VariantE where
  variant : Nat
  kind : Nat
  dieMask : Nat
  setMask : Nat
  standby : Nat
  bootFlow : Nat
  fabric : List Nat
  binding : List Nat
  tableOff : Nat
deriving DecidableEq, Repr

/-- A checked image (R210 to R212). -/
structure Image where
  size : Nat
  scratchBytes : Nat
  vtiles : List VtileE
  programs : List Section
  regions : List RegionE
  flows : List FlowDesc
  barriers : List BarrierE
  flags : List FlagE
  codes : List CodeTable
  variants : List VariantE
deriving DecidableEq, Repr

/-- Job states beyond QUEUED (R215 Table 11). -/
inductive JobPhase where
  | checking | loading | starting | running | stopping | draining
deriving DecidableEq, Repr

/-- A ring entry (R288): what the host wrote, as the engine took it. -/
structure RingEntry where
  image : Nat := 0
  args : Nat := 0
  argBytes : Nat := 0
  scratch : Nat := 0
  scratchBytes : Nat := 0
  restartLimit : Nat := 0
  runLimit : Nat := 0
  tag : Word := 0
  reservedOk : Bool := true
deriving DecidableEq, Repr

/-- A stop being carried out (R220): the reason code, the end it leads to (`none` for a loss, judged when every
die has answered; a status and detail, and whether the job drains first, otherwise), the loss, the dies awaited,
when JOB_STOP was sent and the module time at which the end was decided. -/
structure Stop where
  reason : Nat
  ending : Option (Nat × Nat × Bool)
  lossKind : Nat
  lossUnit : Nat
  awaiting : List Nat
  at_ : Nat
  decided : Word
deriving DecidableEq, Repr

/-- The job beyond QUEUED (R214, R215). `tableBuf` is the set in the engine's table buffer, header and entries, and `busy` lists the base
tiles that answered its PART 0 slot with RESULT 3 (R125). -/
structure Job where
  phase : JobPhase
  ring : Nat
  entryNo : Nat
  owner : Nat
  entry : RingEntry
  image : Option Image := none
  resolved : List Resolved := []
  variant : Option Nat := none
  binding : List Nat := []
  restarts : Nat := 0
  bootT : Word := 0
  gen : BitVec 8 := 0
  loadGen : BitVec 8 := 0
  verdicts : Tbl Nat := []
  loading : Option Nat := none
  booted : List Nat := []
  exits : Tbl Nat := []
  status : Option (Nat × Nat) := none
  decided : Word := 0
  stop : Option Stop := none
  takenAt : Nat := 0
  bootSent : Bool := false
  tablesHeld : Bool := false
  tableBuf : List Byte × Tbl (BitVec 32) := ([], [])
  busy : List Nat := []
deriving DecidableEq, Repr

end Sys2Proof.Machine
end

