-- ==== Sys2Proof/Machine/FaultTypes.lean ====
section
/-! DEFINITION. State of the collector, the fault log, ALERT_N, recoveries, fences and cupping (R347 to R374). -/
namespace Sys2Proof.Machine

/-- A fault log entry (R351 Table 5). -/
structure LogEntry where
  message : Word
  time : Word
  number : Word
  flags : BitVec 8
  ring : BitVec 8
  seq : BitVec 48
deriving DecidableEq, Repr

/-- A repeating message at its source, with the time of its last copy (R349). -/
structure Repeater where
  site : Nat
  msg : FaultMsg
  sentAt : Nat
deriving DecidableEq, Repr

/-- A message kept by the collector, with the time of its acknowledgement (R349). -/
structure Kept where
  site : Nat
  msg : FaultMsg
  ackAt : Nat
deriving DecidableEq, Repr

/-- ALERT_N (R354). -/
inductive AlertSt where
  | released | pulsing | held
deriving DecidableEq, Repr

/-- A fence of a site or tile (R363). -/
structure FenceSt where
  cause : Nat
  forced : Bool
deriving DecidableEq, Repr

/-- A recovery (R358): the message and the boundary at which its last step takes effect. -/
structure Recovery where
  msg : FaultMsg
  from_ : Nat
  until_ : Option Word
deriving DecidableEq, Repr

/-- A cupping report (R373 Table 11). -/
structure CupReport where
  from_ : Word
  to_ : Word
  site : Nat
  tile : Nat
  hung : Bool
  fences : Nat
  ring : BitVec 8
  seq : Word
  endedFrom : Word
  endedTo : Word
deriving DecidableEq, Repr

/-- The cupping judge (R366 to R371): `k` periods have started, the last at `t`; `named` is a start that has been sent, its M
and seed; `expect` the compute dies awaited and `reported` the packets received, at `16 * cd + j`. `sums` holds the checksum of
a finished tile at `64 * cd + t`, `sent` the dies that have sent their results, `ended` JOBS_ENDED at the starts of
periods, by start. -/
structure Cupping where
  k : Nat := 0
  open_ : Bool := false
  t : Word := 0
  startAt : Nat := 0
  m : Nat := 0
  seed : Word := 0
  named : Option (Word × Nat × Word) := none
  expect : List Nat := []
  reported : List Nat := []
  sent : List Nat := []
  sums : Tbl Word := []
  ended : Tbl Word := []
deriving DecidableEq, Repr

/-- The collector and what follows from its messages. -/
structure Faults where
  busyUntil : Nat := 0
  internal : List FaultMsg := []
  repeaters : List Repeater := []
  kept : List Kept := []
  logCount : Word := 0
  alert : AlertSt := .released
  alertSince : Nat := 0
  alertByPower : Bool := false
  clearPending : Bool := false
  recovery : Option Recovery := none
  waitingRec : List (FaultMsg × Bool) := []
  forcedMsgs : List FaultMsg := []
  siteFence : Tbl (Option FenceSt) := []
  tileFence : Tbl (Option FenceSt) := []
  retired : List Nat := []
  tileFences : Tbl Nat := []
  cup : Cupping := {}
  reports : List CupReport := []
deriving DecidableEq, Repr

end Sys2Proof.Machine
end

