-- ==== Sys2Proof/Machine/PowerTypes.lean ====
section
/-! DEFINITION. State of power domains, stages and supply (R316 to R334). -/
namespace Sys2Proof.Machine

/-- The lower state a domain comes from on its way to On. -/
inductive DomFrom where
  | off | retention | selfRefresh | ringKeep
deriving DecidableEq, Repr

/-- State of a switched domain (R322, R334 DOMAIN_STATE); `turningOn` has been switched on and is not yet On. -/
inductive DomSt where
  | off | turningOn (from_ : DomFrom) | on | retention | selfRefresh | ringKeep | faulted
deriving DecidableEq, Repr

/-- The input, the bus, shedding and the supply pause count (R317 to R330). Voltages in 10 mV, the bus in mV. `below` holds
consecutive readings below the threshold of level n at n; `above` the tick since which the input has stayed at or above the
rising threshold of level n; `readAt` is the tick of the last reading, `level` is the level in force and `inputLevel` the level the input calls for. -/
structure Supply where
  input : Nat := 0
  inputMin : Option Nat := none
  bus : Nat := 0
  busLow : Option Nat := none
  below : Tbl Nat := []
  above : Tbl Nat := []
  readAt : Option Nat := none
  overAt : Option Nat := none
  under : Option Nat := none
  disconnected : Bool := false
  noticeAt : Option Nat := none
  good : Option Nat := none
  level : Nat := 0
  inputLevel : Nat := 0
  pause : Nat := 0
  reviewAt : Nat := 0
  releaseAt : Nat := 0
  power : Nat := 0
  stagesFailed : List Nat := []
  stagesRetired : List Nat := []
  failed : Bool := false
deriving DecidableEq, Repr

/-- The thermal state of a die (R335 to R343), temperatures in 0.1 degrees. `hist` holds the die values of the latest samples,
newest first; `reviewFrom` is the tick of the first pause step since the count was last 0; `sensor` is SENSOR_STATE; `still`
the tick since which the code has not changed, once there is one; `sampledAt` the tick of the latest sample, `dramAt` that of the latest
readouts of its DRAM dies; `power` the rail power at the latest
change by a quarter of the domain's peak, and `steps` when such changes came and the reading then, while the reading has moved by less
than 1 degree since; `bumped` is when the count last rose and by how much. -/
structure Therm where
  sampledAt : Option Nat := none
  dramAt : Option Nat := none
  power : Option Nat := none
  steps : List (Nat × Int) := []
  reading : Option Int := none
  value : Option Int := none
  hist : List Int := []
  rate : Option Int := none
  high : Option Int := none
  estimate : Option Int := none
  dram : Option Int := none
  pk : Int := 0
  pc : Int := 0
  bad : Nat := 0
  still : Option Nat := none
  warnN : Nat := 0
  warnAt : Option Nat := none
  actN : Nat := 0
  act : Bool := false
  limit : Bool := false
  tripN : Nat := 0
  p : Nat := 0
  reviewFrom : Option Nat := none
  reviews : Nat := 0
  releases : Nat := 0
  bumped : Option (Nat × Nat) := none
  sensor : Nat := 0
  minuteAt : Option Nat := none
  low : Option Int := none
  peak : Option Int := none
deriving DecidableEq, Repr

/-- A barista beside its role (R376 to R388): when it last sent and last received a HEARTBEAT, when it fell silent and why,
the module times of its latest silences, whether its partner is known lost, the ticks of its last known-answer test and its last
oscillator count, and the epoch it became active with. -/
structure Barista where
  sentAt : Nat := 0
  beatAt : Nat := 0
  silentAt : Option Nat := none
  cause : Nat := 0
  silences : List Nat := []
  partnerLost : Bool := false
  testAt : Nat := 0
  countAt : Nat := 0
  epoch : BitVec 32 := 0
deriving DecidableEq, Repr

/-- Coolant (R344, R345): inlet and outlet in 0.1 degrees, flow in 0.01 L/min, since when the flow is below 2 L/min and at or
above 4 L/min, whether the low-flow hold is on, when coolant was last reported, and when it was last read. -/
structure Coolant where
  readAt : Option Nat := none
  inlet : Int := 0
  outlet : Int := 0
  flow : Nat := 0
  lowSince : Option Nat := none
  okSince : Option Nat := none
  hold : Bool := false
  saidAt : Option Nat := none
deriving DecidableEq, Repr

/-- A record of the carafe (R391). -/
structure Rec where
  type : Nat
  part : Nat
  key : Nat
  seq : Word
  data : List Byte
deriving DecidableEq, Repr

/-- The units the factory ships (R395, R451): in area 0 the header of generation 1, with JOURNAL_FROM 1 and no record. -/
def shippedUnits : Tbl (List Byte) :=
  [(0x40000, [2, 0, 0, 0, 0, 0, 0, 0, 0, 0, 0, 0, 0, 0, 0, 0, 1, 0, 0, 0, 0, 0, 0, 0, 1, 0, 0, 0, 0, 0, 0, 0]),
   (0x40001, [0, 0, 0, 0, 0, 0, 0, 0, 0, 0, 0, 0, 0, 0, 0, 0, 0, 0, 0, 0, 0, 0, 0, 0, 0, 0, 0, 0, 4, 210, 225, 226])]

/-- A carafe (R389 to R397). Its memory: `units` by offset / 32 in the layout of R390 Table 6, where a unit that is not listed is erased; `logq` the
write queue of the fault log, with the time at which each entry is written (R396); `spares` the spare map, the blocks replaced and the reserve blocks
that replace them, in order; `lost` the factory records that fail CHECK, by copy (R397); and the firmware slots, where `none` is the image the factory
left. What its barista knows of it: the area and GEN of the newest generation, JOURNAL_FROM, the SEQ and TIME of the last COMMIT, a compaction in
progress (the commit it copies), and CARAFE_TORN. -/
structure Carafe where
  units : Tbl (List Byte) := shippedUnits
  logq : List (Nat × LogEntry) := []
  spares : List (Nat × Nat) := []
  lost : List (Fin 2 × FactoryItem) := []
  fwA : Option (List Byte) := none
  fwB : Option (List Byte) := some []
  area : Nat := 0
  gen : Word := 1
  journalFrom : Word := 1
  lastCommit : Word := 0
  lastTime : Word := 0
  compacting : Option Word := none
  torn : Word := 0
deriving DecidableEq, Repr

/-- The journal the active barista keeps (R392): pending records, records that wait for room, class C records since the last
periodic commit, the next SEQ, whether an immediate commit is due, the cause of a commit that waits for the standby, the
highest SEQ the standby has acknowledged (R381), and when the last periodic commit was made. -/
structure Journal where
  pending : List Rec := []
  held : List Rec := []
  classC : List Rec := []
  next : Word := 1
  immediate : Bool := false
  due : Option Nat := none
  acked : Word := 0
  periodicAt : Nat := 0
deriving DecidableEq, Repr

/-- What the standby holds of the active's state beside its carafe (R381): pending records, the highest SEQ held without a
gap, the cupping count; `undo` and `undoBlobs` are values that writes replaced and whose mirror has not arrived. -/
structure Mirror where
  pending : List Rec := []
  held : Word := 0
  cupK : Nat := 0
  undo : List (Nat × Word) := []
  undoBlobs : List (Nat × List Byte) := []
deriving DecidableEq, Repr

end Sys2Proof.Machine
end

