-- ==== Sys2Proof/Machine/Carafe.lean ====
section
/-! DEFINITION. The carafe's memory: units, records, generations, the journal's ring and the fault log (R389 to R397). -/
namespace Sys2Proof.Machine

/-! Units (R389) in the layout of R390 Table 6, numbered by offset / 32. -/

/-- First unit of record `i` of generation area `a`. -/
def genUnit (a i : Nat) : Nat := 0x40000 * (a + 1) + 2 * i

/-- First unit of the journal slot of a SEQ. -/
def slotUnit (seq : Nat) : Nat := 0xC0000 + 2 * (seq % 131072)

/-- Unit of a fault log entry by its NUMBER. -/
def logUnit (n : Nat) : Nat := 0x100000 + n % 1048576

def inJournal (u : Nat) : Bool := decide (0xC0000 ≤ u ∧ u < 0x100000 ∧ u % 2 = 0)
def inLog (u : Nat) : Bool := decide (0x100000 ≤ u ∧ u < 0x200000)

/-- An erased unit, and an invalid one, reads as zero. -/
def erasedUnit : List Byte := List.replicate 32 0

def unitAt (c : Carafe) (u : Nat) : List Byte := tget (fun _ => erasedUnit) c.units u
def setUnit (c : Carafe) (u : Nat) (bs : List Byte) : Carafe := { c with units := tset (fun _ => erasedUnit) c.units u (slice bs 0 32) }

/-- Units whose internal check fails read as erased. -/
def eraseUnits (c : Carafe) (us : List Nat) : Carafe := us.foldl (fun c u => setUnit c u erasedUnit) c

/-- A unit failed twice: its 64 KiB block is replaced by the next block of the reserve, with its content; `none` when no block is left beside the
top one, which holds the spare map. -/
def replaceBlock (c : Carafe) (block : Nat) : Option Carafe :=
  if c.spares.length < 3071 then some { c with spares := c.spares ++ [(block, 5120 + c.spares.length)] } else none

/-- CARAFE_SPARE_BLOCKS (R400). -/
def spareBlocks (c : Carafe) : Nat := 3072 - c.spares.length

/-! Records (R391 Table 7). -/

/-- A record's 64 bytes. -/
def recBytes (r : Rec) : List Byte :=
  let body := toLe 2 r.type ++ toLe 2 r.part ++ toLe 4 r.key ++ toLe 8 r.seq.toNat ++ (r.data ++ List.replicate 40 0).take 40 ++ [0, 0, 0, 0]
  body ++ toLe 4 (crc32c body)

/-- A record from its bytes. -/
def recOf (bs : List Byte) : Rec :=
  { type := leAt bs 0 2, part := leAt bs 2 2, key := leAt bs 4 4, seq := BitVec.ofNat 64 (leAt bs 8 8), data := slice bs 16 40 }

/-- Do 64 bytes pass CHECK? -/
def recGood (bs : List Byte) : Bool := leAt bs 60 4 == crc32c (bs.take 60)

/-- The record at a unit, unless the slot is empty or fails CHECK. -/
def recAt (c : Carafe) (u : Nat) : Option Rec :=
  let bs := unitAt c u ++ unitAt c (u + 1)
  if leAt bs 0 2 = 0 ∨ !recGood bs then none else some (recOf bs)

def putRec (c : Carafe) (u : Nat) (r : Rec) : Carafe := setUnit (setUnit c u ((recBytes r).take 32)) (u + 1) ((recBytes r).drop 32)
def eraseRec (c : Carafe) (u : Nat) : Carafe := eraseUnits c [u, u + 1]

/-- CRC-32C of the CHECK fields of records in order: BATCH_CHECK and GEN_CHECK (R392, R393). -/
def checksOf (rs : List Rec) : Nat := crc32c (rs.flatMap (fun r => (recBytes r).drop 60))

/-! Batches (R392). -/

/-- The COMMIT record of a batch. -/
def commitFor (batch : List Rec) (seq time : Word) (cause : Nat) : Rec :=
  { type := 1, part := 0, key := 0, seq := seq, data := toLe 4 batch.length ++ toLe 4 (checksOf batch) ++ toLe 8 time.toNat ++ toLe 1 cause }

/-- A record in the journal: SEQ s lies at slot s mod 131,072. -/
def putJournal (c : Carafe) (r : Rec) : Carafe := putRec c (slotUnit r.seq.toNat) r

/-- Does a COMMIT record match the batch it closes? -/
def batchGood (batch : List Rec) (cr : Rec) : Bool := leAt cr.data 0 4 == batch.length && leAt cr.data 4 4 == checksOf batch

/-- A batch and its COMMIT are written to a carafe. -/
def writeBatch (c : Carafe) (batch : List Rec) (cr : Rec) : Carafe :=
  { (batch ++ [cr]).foldl putJournal c with lastCommit := cr.seq, lastTime := BitVec.ofNat 64 (leAt cr.data 8 8) }

/-- Records of a journal, without their COMMITs, applied to a state: one record for each TYPE, KEY and PART. A
LIFECYCLE record that erases takes the DICT_VALUE records before it. -/
def applyRecs (state : List Rec) (rs : List Rec) : List Rec :=
  rs.foldl (fun st r => if r.type = 1 then st
    else
      let st := if r.type = 0x0070 ∧ r.part = 0 ∧ leAt r.data 1 1 = 1 then st.filter (fun x => x.type != 0x0010) else st
      st.filter (fun x => !(x.type == r.type && x.key == r.key && x.part == r.part)) ++ [r]) state

/-- The batch that starts at SEQ s: the first COMMIT from there closes it, and every record passes CHECK and BATCH_CHECK. -/
def batchFrom (c : Carafe) (s : Nat) : Option (List Rec × Rec) :=
  match (List.range 2049).findSome? (fun i => (recAt c (slotUnit (s + i))).filter (fun r => r.type == 1 && decide (s ≤ r.seq.toNat))) with
  | none => none
  | some r =>
    let n := leAt r.data 0 4
    if r.seq.toNat ≠ s + n then none
    else
      let rs := (List.range n).filterMap (fun i => (recAt c (slotUnit (s + i))).filter (fun x => x.seq.toNat == s + i))
      if rs.length = n ∧ leAt r.data 4 4 = checksOf rs then some (rs, r) else none

/-! Generations (R393). -/

/-- A valid generation: GEN, JOURNAL_FROM and its records. -/
structure Generation where
  gen : Nat
  from_ : Nat
  recs : List Rec
deriving DecidableEq, Repr

/-- The generation of an area, if its header and every record pass CHECK and GEN_CHECK matches. -/
def genOf (c : Carafe) (a : Nat) : Option Generation :=
  match recAt c (genUnit a 0) with
  | none => none
  | some h =>
    let n := leAt h.data 16 4
    if h.type ≠ 2 ∨ 131072 ≤ n then none
    else
      let rs := (List.range n).filterMap (fun i => recAt c (genUnit a (i + 1)))
      if rs.length = n ∧ leAt h.data 20 4 = checksOf rs then some { gen := leAt h.data 0 8, from_ := leAt h.data 8 8, recs := rs } else none

/-- The area of the valid generation with the highest GEN. -/
def newestGen (c : Carafe) : Option (Nat × Generation) :=
  match genOf c 0, genOf c 1 with
  | some a, some b => if a.gen < b.gen then some (1, b) else some (0, a)
  | some a, none => some (0, a)
  | none, some b => some (1, b)
  | none, none => none

/-- GEN_HEADER of a generation. -/
def genHeader (gen from_ : Word) (rs : List Rec) : Rec :=
  { type := 2, part := 0, key := 0, seq := 0, data := toLe 8 gen.toNat ++ toLe 8 from_.toNat ++ toLe 4 rs.length ++ toLe 4 (checksOf rs) }

/-- Journal records of a range of SEQs. -/
def journalRecs (c : Carafe) (from_ upTo : Nat) : List Rec :=
  (List.range (upTo + 1 - from_)).filterMap (fun i => recAt c (slotUnit (from_ + i)))

/-- A compaction starts in the older area: its header is written empty. -/
def startCompact (c : Carafe) : Carafe := { eraseRec c (genUnit (1 - c.area) 0) with compacting := some c.lastCommit }

/-- It ends: the state as of the commit it copies, then the header with GEN one higher and JOURNAL_FROM after that commit. -/
def endCompact (c : Carafe) (last : Word) : Carafe :=
  let rs := applyRecs (((genOf c c.area).map (·.recs)).getD []) (journalRecs c c.journalFrom.toNat last.toNat)
  let a := 1 - c.area
  let c := (rs.foldl (fun (p : Nat × Carafe) r => (p.1 + 1, putRec p.2 (genUnit a p.1) r)) (1, c)).2
  let c := putRec c (genUnit a 0) (genHeader (c.gen + 1) (last + 1) rs)
  { c with area := a, gen := c.gen + 1, journalFrom := last + 1, compacting := none }

/-! Recovery (R394). -/

/-- Batches applied in turn from SEQ s until one is missing or fails: the state, and the SEQ that comes next. -/
def replay (c : Carafe) : Nat → Nat → List Rec → List Rec × Nat
  | 0, s, st => (st, s)
  | k + 1, s, st =>
    match batchFrom c s with
    | none => (st, s)
    | some (rs, r) => replay c k (r.seq.toNat + 1) (applyRecs st rs)

/-- The state a carafe commits to, by its newest generation and the batches after it, and the next SEQ. -/
def recovered (c : Carafe) : Option (List Rec × Nat) :=
  (newestGen c).map (fun g => replay c 131072 g.2.from_ g.2.recs)

/-- Does a slot hold a record from SEQ s on? -/
def tornFrom (c : Carafe) (s : Nat) : Bool :=
  c.units.any (fun e => inJournal e.1 && ((recAt c e.1).filter (fun r => decide (s ≤ r.seq.toNat))).isSome)

def carafeState (c : Carafe) : List Rec := ((recovered c).map (·.1)).getD []

/-- A barista recovers its carafe: what it then knows of it, a torn batch counted. -/
def recoverCarafe (c : Carafe) : Carafe :=
  match newestGen c with
  | none => { c with compacting := none }
  | some (a, g) =>
    let s := (replay c 131072 g.from_ g.recs).2
    { c with
      area := a, gen := BitVec.ofNat 64 g.gen, journalFrom := BitVec.ofNat 64 g.from_, lastCommit := BitVec.ofNat 64 (s - 1), compacting := none
      lastTime := BitVec.ofNat 64 (((recAt c (slotUnit (s - 1))).map (fun r => leAt r.data 8 8)).getD 0)
      torn := if tornFrom c s then c.torn + 1 else c.torn }

/-! The fault log (R351 Table 5, R396). -/

/-- A log entry's 32 bytes (R351 Table 5). -/
def logEntryBytes (e : LogEntry) : List Byte :=
  toLe 8 e.message.toNat ++ toLe 8 e.time.toNat ++ toLe 8 e.number.toNat ++ toLe 1 e.flags.toNat ++ toLe 1 e.ring.toNat ++ toLe 6 e.seq.toNat

/-- A log entry from its bytes. -/
def logEntryOf (bs : List Byte) : LogEntry :=
  { message := BitVec.ofNat 64 (leAt bs 0 8), time := BitVec.ofNat 64 (leAt bs 8 8), number := BitVec.ofNat 64 (leAt bs 16 8),
    flags := BitVec.ofNat 8 (leAt bs 24 1), ring := BitVec.ofNat 8 (leAt bs 25 1), seq := BitVec.ofNat 48 (leAt bs 26 6) }

/-- NUMBER of the entry in a log unit, if it holds one. -/
def logNumber (c : Carafe) (u : Nat) : Option Nat :=
  let bs := unitAt c u
  if bs = erasedUnit ∨ logUnit (leAt bs 16 8) ≠ u then none else some (leAt bs 16 8)

/-- An entry by its NUMBER, in the write queue or in the log. -/
def logFind (c : Carafe) (n : Nat) : Option (List Byte) :=
  match c.logq.find? (fun e => e.2.number.toNat == n) with
  | some e => some (logEntryBytes e.2)
  | none => if logNumber c (logUnit n) = some n then some (unitAt c (logUnit n)) else none

/-- The highest NUMBER a carafe holds. -/
def logHigh (c : Carafe) : Option Nat :=
  let ns := c.units.filterMap (fun e => if inLog e.1 then logNumber c e.1 else none) ++ c.logq.map (·.2.number.toNat)
  ns.foldl (fun m n => some (match m with | some k => max k n | none => n)) none

def putLog (c : Carafe) (e : LogEntry) : Carafe := setUnit c (logUnit e.number.toNat) (logEntryBytes e)

/-- The write queue empties at 320 MB/s, an entry in 100 ns. -/
def drainLog (c : Carafe) (now : Nat) : Carafe :=
  let done := c.logq.takeWhile (fun e => decide (e.1 ≤ now))
  done.foldl (fun c e => putLog c e.2) { c with logq := c.logq.drop done.length }

/-- All of the queue is written. -/
def flushLog (c : Carafe) : Carafe := c.logq.foldl (fun c e => putLog c e.2) { c with logq := [] }

/-- An entry joins the write queue of 256. -/
def pushLog (c : Carafe) (now : Nat) (e : LogEntry) : Carafe :=
  let c := drainLog c now
  let c := match c.logq with | x :: xs => (if xs.length < 255 then c else putLog { c with logq := xs } x.2) | [] => c
  { c with logq := c.logq ++ [((match c.logq.getLast? with | some x => max now x.1 | none => now) + 100, e)] }

/-! Two carafes compared (R395). -/

/-- The lowest SEQ committed in both under which they hold different records. -/
def conflictSeq (a b : Carafe) : Option Nat :=
  a.units.foldl (fun m e =>
    if !inJournal e.1 then m
    else match recAt a e.1, recAt b e.1 with
      | some r, some q =>
        if r.seq = q.seq ∧ r ≠ q ∧ r.seq.toNat ≤ min a.lastCommit.toNat b.lastCommit.toNat then
          some (match m with | some k => min k r.seq.toNat | none => r.seq.toNat)
        else m
      | _, _ => m) none

/-- The carafe that prevails when both have recovered. -/
def prevails (a b : Carafe) : Nat :=
  if (conflictSeq a b).isSome then (if a.lastTime.toNat < b.lastTime.toNat then 1 else 0)
  else if a.lastCommit.toNat < b.lastCommit.toNat then 1 else 0

/-- A carafe receives the records of another that it lacks, from the first SEQ at which they differ. Where its own generation copies a batch that
gave way, or the other's ring no longer holds what it lacks, it receives the generations too. -/
def receiveRecords (w l : Carafe) : Carafe :=
  let first := (conflictSeq w l).getD (l.lastCommit.toNat + 1)
  let l := l.units.foldl (fun c e => if inJournal e.1 && ((recAt l e.1).filter (fun r => decide (first ≤ r.seq.toNat))).isSome then eraseRec c e.1 else c) l
  let l := w.units.foldl (fun c e => if !inJournal e.1 then c
    else match recAt w e.1 with
      | some r => if first ≤ r.seq.toNat ∧ r.seq.toNat ≤ w.lastCommit.toNat then putJournal c r else c
      | none => c) l
  let l := if first < l.journalFrom.toNat ∨ first + 131072 ≤ w.lastCommit.toNat then
      { l with area := w.area, gen := w.gen, journalFrom := w.journalFrom
               units := l.units.filter (fun e => decide (e.1 < 0x40000)) ++ w.units.filter (fun e => decide (0x40000 ≤ e.1 ∧ e.1 < 0xC0000)) ++
                 l.units.filter (fun e => decide (0xC0000 ≤ e.1)) }
    else l
  { l with lastCommit := w.lastCommit, lastTime := w.lastTime }

/-- A fault log receives the entries of another that it lacks. -/
def receiveLog (w l : Carafe) : Carafe :=
  w.units.foldl (fun c e => if !inLog e.1 then c
    else match logNumber w e.1 with
      | some n => if (logNumber c e.1).all (fun k => decide (k < n)) then setUnit c e.1 e.2 else c
      | none => c) l

end Sys2Proof.Machine
end

