-- ==== Sys2Proof/Machine/Obj.lean ====
section
/-! DEFINITION. Codes of the dictionary objects: `256 * index + subindex` (chapters 3 to 17); an object with one
instance per unit is coded by its first instance, later ones 256 further each (R401). -/
namespace Sys2Proof.Machine

/-- `0x7300.01 MESH_WAIT_LIMIT` (chapter 3). -/
def Obj.meshWaitLimit : Nat := 0x730001
/-- `0x7300.02 MESH_QUOTA` (chapter 3). -/
def Obj.meshQuota : Nat := 0x730002
/-- `0x7300.03 MESH_HOLD_FACTOR` (chapter 3). -/
def Obj.meshHoldFactor : Nat := 0x730003
/-- `0x7300.04 MESH_COMBINE_WAIT` (chapter 3). -/
def Obj.meshCombineWait : Nat := 0x730004
/-- `0x7300.05 ENGINE_WAIT_LIMIT` (chapter 3). -/
def Obj.engineWaitLimit : Nat := 0x730005
/-- `0x7300.06 ENGINE_QUOTA` (chapter 3). -/
def Obj.engineQuota : Nat := 0x730006
/-- `0x7310.01 MESH_HOLD_CUTS` (chapter 3). -/
def Obj.meshHoldCuts : Nat := 0x731001
/-- `0x7310.02 MESH_FORCED_WINS` (chapter 3). -/
def Obj.meshForcedWins : Nat := 0x731002
/-- `0x7310.03 MESH_FALLBACK_WINDOWS` (chapter 3). -/
def Obj.meshFallbackWindows : Nat := 0x731003
/-- `0x7310.04 TS_COLLISIONS` (chapter 3). -/
def Obj.tsCollisions : Nat := 0x731004
/-- `0x7310.05 TS_ENGINE_GUARD` (chapter 3). -/
def Obj.tsEngineGuard : Nat := 0x731005
/-- `0x7310.06 STORE_CORRECTED` (chapter 3). -/
def Obj.storeCorrected : Nat := 0x731006
/-- `0x7310.07 REDUCE_OVERCOUNT` (chapter 3). -/
def Obj.reduceOvercount : Nat := 0x731007
/-- `0x7320.01 SIG_RETRIES` (chapter 3). -/
def Obj.sigRetries : Nat := 0x732001
/-- `0x7320.02 SIG_SEGMENTS_DOWN` (chapter 3). -/
def Obj.sigSegmentsDown : Nat := 0x732002
/-- `0x7320.03 SIG_LATENCY_MAX` (chapter 3). -/
def Obj.sigLatencyMax : Nat := 0x732003
/-- `0x7330.01 DEEP_STORE_MODE` (chapter 3). -/
def Obj.deepStoreMode : Nat := 0x733001
/-- `0x4100.01 HOUSE_BLEND_MODE` (chapter 4). -/
def Obj.houseBlendMode : Nat := 0x410001
/-- `0x4100.02 LANE_ERR_LIMIT` (chapter 4). -/
def Obj.laneErrLimit : Nat := 0x410002
/-- `0x4100.03 UNCORR_FRAME_LIMIT` (chapter 4). -/
def Obj.uncorrFrameLimit : Nat := 0x410003
/-- `0x4100.04 LANE_EXCLUDE_CLEAR` (chapter 4). -/
def Obj.laneExcludeClear : Nat := 0x410004
/-- `0x4110.01 ACTIVE_GEN` (chapter 4). -/
def Obj.activeGen : Nat := 0x411001
/-- `0x4110.02 SHADOW_GEN` (chapter 4). -/
def Obj.shadowGen : Nat := 0x411002
/-- `0x4110.03 SHADOW_STATE` (chapter 4). -/
def Obj.shadowState : Nat := 0x411003
/-- `0x4110.04 SHADOW_OWNER` (chapter 4). -/
def Obj.shadowOwner : Nat := 0x411004
/-- `0x4110.05 REJECT_CAUSE` (chapter 4). -/
def Obj.rejectCause : Nat := 0x411005
/-- `0x4110.06 LAST_SWAP` (chapter 4). -/
def Obj.lastSwap : Nat := 0x411006
/-- `0x4110.07 TILE_GENS` (chapter 4). -/
def Obj.tileGens : Nat := 0x411007
/-- `0x4120.01 SYMBOLS_CORRECTED` (chapter 4). -/
def Obj.symbolsCorrected : Nat := 0x412001
/-- `0x4120.02 SLOTS_UNCORRECTABLE` (chapter 4). -/
def Obj.slotsUncorrectable : Nat := 0x412002
/-- `0x4120.03 SLOTS_MISDELIVERED` (chapter 4). -/
def Obj.slotsMisdelivered : Nat := 0x412003
/-- `0x4120.04 LINES_EXCLUDED` (chapter 4). -/
def Obj.linesExcluded : Nat := 0x412004
/-- `0x4120.05 PORTS_FAILED` (chapter 4). -/
def Obj.portsFailed : Nat := 0x412005
/-- `0x4120.06 TABLE_REJECTS` (chapter 4). -/
def Obj.tableRejects : Nat := 0x412006
/-- `0x4120.07 CELL_BYPASSES` (chapter 4). -/
def Obj.cellBypasses : Nat := 0x412007
/-- `0x4130 + n .01 CELL_GROUPS` (chapter 4). -/
def Obj.cellGroups : Nat := 0x413001
/-- `0x4400 + p .01 PORT_STATE` (chapter 4). -/
def Obj.portState : Nat := 0x440001
/-- `0x4400 + p .02 TX_EXCLUDED` (chapter 4). -/
def Obj.txExcluded : Nat := 0x440002
/-- `0x4400 + p .03 RX_EXCLUDED` (chapter 4). -/
def Obj.rxExcluded : Nat := 0x440003
/-- `0x4400 + p .04 PORT_SYMBOLS_CORRECTED` (chapter 4). -/
def Obj.portSymbolsCorrected : Nat := 0x440004
/-- `0x4400 + p .05 PORT_SLOTS_UNCORRECTABLE` (chapter 4). -/
def Obj.portSlotsUncorrectable : Nat := 0x440005
/-- `0x4400 + p .06 PORT_LINE_ERRORS` (chapter 4). -/
def Obj.portLineErrors : Nat := 0x440006
/-- `0x4200.01 CAL_INTERVAL` (chapter 5). -/
def Obj.calInterval : Nat := 0x420001
/-- `0x4200.02 CAL_ENABLE` (chapter 5). -/
def Obj.calEnable : Nat := 0x420002
/-- `0x4200.03 CAL_STATE` (chapter 5). -/
def Obj.calState : Nat := 0x420003
/-- `0x4210.01 CAL_STEPS` (chapter 5). -/
def Obj.calSteps : Nat := 0x421001
/-- `0x4210.02 CAL_FAILURES` (chapter 5). -/
def Obj.calFailures : Nat := 0x421002
/-- `0x4210.03 WRONG_LINE` (chapter 5). -/
def Obj.wrongLine : Nat := 0x421003
/-- `0x4210.04 RESWEEPS_FAILED` (chapter 5). -/
def Obj.resweepsFailed : Nat := 0x421004
/-- `0x4210.05 COMB_SWITCHES` (chapter 5). -/
def Obj.combSwitches : Nat := 0x421005
/-- `0x4210.06 RESTORE_SKIPPED` (chapter 5). -/
def Obj.restoreSkipped : Nat := 0x421006
/-- `0x4400 + p .07 CAL_LIVE` (chapter 5). -/
def Obj.calLive : Nat := 0x440007
/-- `0x4400 + p .08 CAL_BASELINE` (chapter 5). -/
def Obj.calBaseline : Nat := 0x440008
/-- `0x4400 + p .09 RING_STATE` (chapter 5). -/
def Obj.ringState : Nat := 0x440009
/-- `0x4600 + n .01 COMB_STATE` (chapter 5). -/
def Obj.combState : Nat := 0x460001
/-- `0x4600 + n .02 COMB_SERVES` (chapter 5). -/
def Obj.combServes : Nat := 0x460002
/-- `0x4600 + n .03 COMB_DRIVE` (chapter 5). -/
def Obj.combDrive : Nat := 0x460003
/-- `0x4600 + n .04 COMB_FADE` (chapter 5). -/
def Obj.combFade : Nat := 0x460004
/-- `0x4600 + n .05 COMB_LINE_POWER` (chapter 5). -/
def Obj.combLinePower : Nat := 0x460005
/-- `0x4600 + n .06 COMB_HOURS` (chapter 5). -/
def Obj.combHours : Nat := 0x460006
/-- `0x5100.01 MEM_SCRUB_PERIOD` (chapter 6). -/
def Obj.memScrubPeriod : Nat := 0x510001
/-- `0x5100.02 MEM_WAIT_LIMIT` (chapter 6). -/
def Obj.memWaitLimit : Nat := 0x510002
/-- `0x5100.03 MEM_QUOTA` (chapter 6). -/
def Obj.memQuota : Nat := 0x510003
/-- `0x5100.04 MEM_MARK_LIMIT` (chapter 6). -/
def Obj.memMarkLimit : Nat := 0x510004
/-- `0x5100.05 MEM_STACK_FAIL_LIMIT` (chapter 6). -/
def Obj.memStackFailLimit : Nat := 0x510005
/-- `0x5110.01 MEM_CAPACITY` (chapter 6). -/
def Obj.memCapacity : Nat := 0x511001
/-- `0x5110.02 MEM_SETS_LOST` (chapter 6). -/
def Obj.memSetsLost : Nat := 0x511002
/-- `0x5110.03 MEM_SET_BASE` (chapter 6). -/
def Obj.memSetBase : Nat := 0x511003
/-- `0x5120.01 LINES_CORRECTED` (chapter 6). -/
def Obj.linesCorrected : Nat := 0x512001
/-- `0x5120.02 LINES_UNCORRECTABLE` (chapter 6). -/
def Obj.linesUncorrectable : Nat := 0x512002
/-- `0x5120.03 POISON_WRITES` (chapter 6). -/
def Obj.poisonWrites : Nat := 0x512003
/-- `0x5120.04 SCRUB_PASSES` (chapter 6). -/
def Obj.scrubPasses : Nat := 0x512004
/-- `0x5120.05 REPAIRS_SOFT` (chapter 6). -/
def Obj.repairsSoft : Nat := 0x512005
/-- `0x5120.06 REPAIR_EXHAUSTED` (chapter 6). -/
def Obj.repairExhausted : Nat := 0x512006
/-- `0x5120.07 MEM_HOLD_CUTS` (chapter 6). -/
def Obj.memHoldCuts : Nat := 0x512007
/-- `0x5120.08 SLOT_UNDERRUNS` (chapter 6). -/
def Obj.slotUnderruns : Nat := 0x512008
/-- `0x5120.09 ATOMICS` (chapter 6). -/
def Obj.atomics : Nat := 0x512009
/-- `0x5120.0A REDUCE_LINES` (chapter 6). -/
def Obj.reduceLines : Nat := 0x51200A
/-- `0x5400 + n .01 STACK_STATE` (chapter 6). -/
def Obj.stackState : Nat := 0x540001
/-- `0x5400 + n .02 STACK_MARKED_DIE` (chapter 6). -/
def Obj.stackMarkedDie : Nat := 0x540002
/-- `0x5400 + n .03 STACK_DIE_CORRECTED` (chapter 6). -/
def Obj.stackDieCorrected : Nat := 0x540003
/-- `0x5400 + n .04 STACK_UNCORRECTABLE` (chapter 6). -/
def Obj.stackUncorrectable : Nat := 0x540004
/-- `0x5400 + n .05 STACK_REPAIRS` (chapter 6). -/
def Obj.stackRepairs : Nat := 0x540005
/-- `0x5400 + n .06 STACK_SCRUB_POS` (chapter 6). -/
def Obj.stackScrubPos : Nat := 0x540006
/-- `0x7100.01 JOB_STATE` (chapter 7). -/
def Obj.jobState : Nat := 0x710001
/-- `0x7100.02 JOB_RING` (chapter 7). -/
def Obj.jobRing : Nat := 0x710002
/-- `0x7100.03 JOB_VARIANT` (chapter 7). -/
def Obj.jobVariant : Nat := 0x710003
/-- `0x7100.04 JOB_RESTARTS` (chapter 7). -/
def Obj.jobRestarts : Nat := 0x710004
/-- `0x7100.05 JOB_STARTED` (chapter 7). -/
def Obj.jobStarted : Nat := 0x710005
/-- `0x7100.06 JOB_LAST_END` (chapter 7). -/
def Obj.jobLastEnd : Nat := 0x710006
/-- `0x7110.01 JOBS_ENDED` (chapter 7). -/
def Obj.jobsEnded : Nat := 0x711001
/-- `0x7110.02 JOB_RESTARTS_TOTAL` (chapter 7). -/
def Obj.jobRestartsTotal : Nat := 0x711002
/-- `0x7110.03 IMAGES_REJECTED` (chapter 7). -/
def Obj.imagesRejected : Nat := 0x711003
/-- `0x7110.04 NO_VARIANT_ENDS` (chapter 7). -/
def Obj.noVariantEnds : Nat := 0x711004
/-- `0x6100.01 FABRIC_MODULE` (chapter 8). -/
def Obj.fabricModule : Nat := 0x610001
/-- `0x6110.01 FABRIC_DEDUPE_LIFETIME` (chapter 8). -/
def Obj.fabricDedupeLifetime : Nat := 0x611001
/-- `0x6110.02 FABRIC_TIMEOUT` (chapter 8). -/
def Obj.fabricTimeout : Nat := 0x611002
/-- `0x6110.03 FABRIC_WAIT_LIMIT` (chapter 8). -/
def Obj.fabricWaitLimit : Nat := 0x611003
/-- `0x6110.04 FABRIC_QUOTA` (chapter 8). -/
def Obj.fabricQuota : Nat := 0x611004
/-- `0x6110.05 FABRIC_THROTTLE` (chapter 8). -/
def Obj.fabricThrottle : Nat := 0x611005
/-- `0x6120.01 FABRIC_REQUESTS` (chapter 8). -/
def Obj.fabricRequests : Nat := 0x612001
/-- `0x6120.02 FABRIC_RETRIES` (chapter 8). -/
def Obj.fabricRetries : Nat := 0x612002
/-- `0x6120.03 FABRIC_UNANSWERED` (chapter 8). -/
def Obj.fabricUnanswered : Nat := 0x612003
/-- `0x6120.04 FABRIC_DEDUPE_HITS` (chapter 8). -/
def Obj.fabricDedupeHits : Nat := 0x612004
/-- `0x6120.05 FABRIC_BUSY` (chapter 8). -/
def Obj.fabricBusy : Nat := 0x612005
/-- `0x6120.06 FABRIC_STALE` (chapter 8). -/
def Obj.fabricStale : Nat := 0x612006
/-- `0x6120.07 FABRIC_KEY_FAULTS` (chapter 8). -/
def Obj.fabricKeyFaults : Nat := 0x612007
/-- `0x6120.08 FABRIC_SERVED` (chapter 8). -/
def Obj.fabricServed : Nat := 0x612008
/-- `0x6120.09 FABRIC_LATE_ANSWERS` (chapter 8). -/
def Obj.fabricLateAnswers : Nat := 0x612009
/-- `0x6120.0A FABRIC_DISCARDS` (chapter 8). -/
def Obj.fabricDiscards : Nat := 0x61200A
/-- `0x6120.0B FABRIC_ROUTE_DISCARDS` (chapter 8). -/
def Obj.fabricRouteDiscards : Nat := 0x61200B
/-- `0x6120.0C FABRIC_DRAIN_DISCARDS` (chapter 8). -/
def Obj.fabricDrainDiscards : Nat := 0x61200C
/-- `0x6120.0D FABRIC_HOLD_CUTS` (chapter 8). -/
def Obj.fabricHoldCuts : Nat := 0x61200D
/-- `0x6300.01 ROUTE_SHADOW` (chapter 8). -/
def Obj.routeShadow : Nat := 0x630001
/-- `0x6300.02 ROUTE_ACTIVE` (chapter 8). -/
def Obj.routeActive : Nat := 0x630002
/-- `0x6300.03 ROUTE_SWAP` (chapter 8). -/
def Obj.routeSwap : Nat := 0x630003
/-- `0x6300.04 ROUTE_STATE` (chapter 8). -/
def Obj.routeState : Nat := 0x630004
/-- `0x6300.05 FABRIC_LEAVE` (chapter 8). -/
def Obj.fabricLeave : Nat := 0x630005
/-- `0x6320.01 BARRIER_TABLE` (chapter 8). -/
def Obj.barrierTable : Nat := 0x632001
/-- `0x6320.02 BARRIER_EPOCHS` (chapter 8). -/
def Obj.barrierEpochs : Nat := 0x632002
/-- `0x6330.01 FLAG_TABLE` (chapter 8). -/
def Obj.flagTable : Nat := 0x633001
/-- `0x6400 + l .01 LINK_STATE` (chapter 8). -/
def Obj.linkState : Nat := 0x640001
/-- `0x6400 + l .02 LINK_NEIGHBOUR` (chapter 8). -/
def Obj.linkNeighbour : Nat := 0x640002
/-- `0x6400 + l .03 LINK_FLITS_SENT` (chapter 8). -/
def Obj.linkFlitsSent : Nat := 0x640003
/-- `0x6400 + l .04 LINK_DOWNS` (chapter 8). -/
def Obj.linkDowns : Nat := 0x640004
/-- `0xD100.01 HOST_PFC_PRIORITY` (chapter 9). -/
def Obj.hostPfcPriority : Nat := 0xD10001
/-- `0xD100.02 HOST_ROCE_DSCP` (chapter 9). -/
def Obj.hostRoceDscp : Nat := 0xD10002
/-- `0xD100.03 HOST_PUNEL_PORT` (chapter 9). -/
def Obj.hostPunelPort : Nat := 0xD10003
/-- `0xD100.04 HOST_PTP_DOMAIN` (chapter 9). -/
def Obj.hostPtpDomain : Nat := 0xD10004
/-- `0xD100.05 HOST_ACCESS_LIST` (chapter 9). -/
def Obj.hostAccessList : Nat := 0xD10005
/-- `0xD110.01 HOST_DOORBELL_REFUSED` (chapter 9). -/
def Obj.hostDoorbellRefused : Nat := 0xD11001
/-- `0xD110.02 HOST_NAKS_SENT` (chapter 9). -/
def Obj.hostNaksSent : Nat := 0xD11002
/-- `0xD110.03 HOST_PAUSE_SENT` (chapter 9). -/
def Obj.hostPauseSent : Nat := 0xD11003
/-- `0xD110.04 HOST_CNPS_SENT` (chapter 9). -/
def Obj.hostCnpsSent : Nat := 0xD11004
/-- `0xD400 + n .01 HOST_PORT_MODE` (chapter 9). -/
def Obj.hostPortMode : Nat := 0xD40001
/-- `0xD400 + n .02 HOST_LINK_STATE` (chapter 9). -/
def Obj.hostLinkState : Nat := 0xD40002
/-- `0xD400 + n .03 HOST_LINK_SPEED` (chapter 9). -/
def Obj.hostLinkSpeed : Nat := 0xD40003
/-- `0xD400 + n .04 HOST_MAC` (chapter 9). -/
def Obj.hostMac : Nat := 0xD40004
/-- `0xD400 + n .05 HOST_IPV4` (chapter 9). -/
def Obj.hostIpv4 : Nat := 0xD40005
/-- `0xD400 + n .06 HOST_IPV6` (chapter 9). -/
def Obj.hostIpv6 : Nat := 0xD40006
/-- `0xD400 + n .07 HOST_VLAN` (chapter 9). -/
def Obj.hostVlan : Nat := 0xD40007
/-- `0xD400 + n .08 HOST_PTP_STATE` (chapter 9). -/
def Obj.hostPtpState : Nat := 0xD40008
/-- `0xD600 + r .01 RING_CONFIG` (chapter 9). -/
def Obj.ringConfig : Nat := 0xD60001
/-- `0xB100.01 TIME_STATE` (chapter 10). -/
def Obj.timeState : Nat := 0xB10001
/-- `0xB100.02 TIME_SOURCE` (chapter 10). -/
def Obj.timeSource : Nat := 0xB10002
/-- `0xB100.03 TIME_SOURCE_LINK` (chapter 10). -/
def Obj.timeSourceLink : Nat := 0xB10003
/-- `0xB100.04 TIME_HOPS` (chapter 10). -/
def Obj.timeHops : Nat := 0xB10004
/-- `0xB100.05 TIME_ROOT` (chapter 10). -/
def Obj.timeRoot : Nat := 0xB10005
/-- `0xB100.06 TIME_OFFSET` (chapter 10). -/
def Obj.timeOffset : Nat := 0xB10006
/-- `0xB100.07 TIME_FREQ_ADJ` (chapter 10). -/
def Obj.timeFreqAdj : Nat := 0xB10007
/-- `0xB100.08 TIME_ACTIVE_TREE` (chapter 10). -/
def Obj.timeActiveTree : Nat := 0xB10008
/-- `0xB110.01 TIME_STEP_LIMIT` (chapter 10). -/
def Obj.timeStepLimit : Nat := 0xB11001
/-- `0xB110.02 TIME_STEP_MODE` (chapter 10). -/
def Obj.timeStepMode : Nat := 0xB11002
/-- `0xB110.03 TIME_FABRIC_ENABLE` (chapter 10). -/
def Obj.timeFabricEnable : Nat := 0xB11003
/-- `0xB110.04 TIME_LINK_ASYM` (chapter 10). -/
def Obj.timeLinkAsym : Nat := 0xB11004
/-- `0xB120.01 TIME_STEPS` (chapter 10). -/
def Obj.timeSteps : Nat := 0xB12001
/-- `0xB120.02 TIME_MARKER_CORRECTIONS` (chapter 10). -/
def Obj.timeMarkerCorrections : Nat := 0xB12002
/-- `0xB120.03 TIME_HOLDOVERS` (chapter 10). -/
def Obj.timeHoldovers : Nat := 0xB12003
/-- `0xB120.04 TIME_EPOCH_FAULTS` (chapter 10). -/
def Obj.timeEpochFaults : Nat := 0xB12004
/-- `0x2100.01 INPUT_VOLTAGE` (chapter 11). -/
def Obj.inputVoltage : Nat := 0x210001
/-- `0x2100.02 INPUT_POWER` (chapter 11). -/
def Obj.inputPower : Nat := 0x210002
/-- `0x2100.03 SHED_LEVEL` (chapter 11). -/
def Obj.shedLevel : Nat := 0x210003
/-- `0x2100.04 SHED_CAUSE` (chapter 11). -/
def Obj.shedCause : Nat := 0x210004
/-- `0x2100.05 INPUT_MIN` (chapter 11). -/
def Obj.inputMin : Nat := 0x210005
/-- `0x2100.06 BUS_VOLTAGE` (chapter 11). -/
def Obj.busVoltage : Nat := 0x210006
/-- `0x2100.07 STAGES_IN_SERVICE` (chapter 11). -/
def Obj.stagesInService : Nat := 0x210007
/-- `0x2110.01 SHED_EVENTS` (chapter 11). -/
def Obj.shedEvents : Nat := 0x211001
/-- `0x2110.02 POWER_FAILS` (chapter 11). -/
def Obj.powerFails : Nat := 0x211002
/-- `0x2110.03 STAGE_FAULTS` (chapter 11). -/
def Obj.stageFaults : Nat := 0x211003
/-- `0x2110.04 POWER_LIMIT_STEPS` (chapter 11). -/
def Obj.powerLimitSteps : Nat := 0x211004
/-- `0x2110.05 INPUT_OVER_EVENTS` (chapter 11). -/
def Obj.inputOverEvents : Nat := 0x211005
/-- `0x2400 + d .01 DOMAIN_STATE` (chapter 11). -/
def Obj.domainState : Nat := 0x240001
/-- `0x2400 + d .02 DOMAIN_POWER` (chapter 11). -/
def Obj.domainPower : Nat := 0x240002
/-- `0x2600 + s .01 STAGE_STATE` (chapter 11). -/
def Obj.stageState : Nat := 0x260001
/-- `0x2600 + s .02 STAGE_OUTPUT` (chapter 11). -/
def Obj.stageOutput : Nat := 0x260002
/-- `0x3100.01 THERM_WARN_RATE` (chapter 12). -/
def Obj.thermWarnRate : Nat := 0x310001
/-- `0x3100.02 THERM_WARN_TIME` (chapter 12). -/
def Obj.thermWarnTime : Nat := 0x310002
/-- `0x3100.03 THERM_ACT_RATE` (chapter 12). -/
def Obj.thermActRate : Nat := 0x310003
/-- `0x3100.04 THERM_ACT_TIME` (chapter 12). -/
def Obj.thermActTime : Nat := 0x310004
/-- `0x3110.01 THERM_WARNINGS` (chapter 12). -/
def Obj.thermWarnings : Nat := 0x311001
/-- `0x3110.02 THERM_ACTS` (chapter 12). -/
def Obj.thermActs : Nat := 0x311002
/-- `0x3110.03 THERM_STEPS` (chapter 12). -/
def Obj.thermSteps : Nat := 0x311003
/-- `0x3110.04 THERM_TRIPS` (chapter 12). -/
def Obj.thermTrips : Nat := 0x311004
/-- `0x3110.05 SENSORS_BROKEN` (chapter 12). -/
def Obj.sensorsBroken : Nat := 0x311005
/-- `0x3120.01 COOLANT_INLET` (chapter 12). -/
def Obj.coolantInlet : Nat := 0x312001
/-- `0x3120.02 COOLANT_OUTLET` (chapter 12). -/
def Obj.coolantOutlet : Nat := 0x312002
/-- `0x3120.03 COOLANT_FLOW` (chapter 12). -/
def Obj.coolantFlow : Nat := 0x312003
/-- `0x3400 + s .01 DIE_TEMP` (chapter 12). -/
def Obj.dieTemp : Nat := 0x340001
/-- `0x3400 + s .02 DIE_RATE` (chapter 12). -/
def Obj.dieRate : Nat := 0x340002
/-- `0x3400 + s .03 THERM_PAUSE` (chapter 12). -/
def Obj.thermPause : Nat := 0x340003
/-- `0x3400 + s .04 SENSOR_STATE` (chapter 12). -/
def Obj.sensorState : Nat := 0x340004
/-- `0x3400 + s .05 DIE_TEMP_MAX` (chapter 12). -/
def Obj.dieTempMax : Nat := 0x340005
/-- `0x3400 + s .06 DIE_VALUE` (chapter 12). -/
def Obj.dieValue : Nat := 0x340006
/-- `0x3400 + s .07 KD_ESTIMATE` (chapter 12). -/
def Obj.kdEstimate : Nat := 0x340007
/-- `0x3400 + s .08 KD_MODEL` (chapter 12). -/
def Obj.kdModel : Nat := 0x340008
/-- `0x8100.01 ALERT_LEVEL` (chapter 13). -/
def Obj.alertLevel : Nat := 0x810001
/-- `0x8100.02 ALERT_MODE` (chapter 13). -/
def Obj.alertMode : Nat := 0x810002
/-- `0x8100.03 ALERT_CLEAR` (chapter 13). -/
def Obj.alertClear : Nat := 0x810003
/-- `0x8100.04 ALERT_STATE` (chapter 13). -/
def Obj.alertState : Nat := 0x810004
/-- `0x8110.01 FAULTS_ACCEPTED` (chapter 13). -/
def Obj.faultsAccepted : Nat := 0x811001
/-- `0x8110.02 FAULT_OVERRUNS` (chapter 13). -/
def Obj.faultOverruns : Nat := 0x811002
/-- `0x8110.03 FAULT_REPEATS` (chapter 13). -/
def Obj.faultRepeats : Nat := 0x811003
/-- `0x8110.04 DOUBLE_FAULTS` (chapter 13). -/
def Obj.doubleFaults : Nat := 0x811004
/-- `0x8110.05 POISON_CONSUMED` (chapter 13). -/
def Obj.poisonConsumed : Nat := 0x811005
/-- `0x8110.06 RECOVERY_MAX` (chapter 13). -/
def Obj.recoveryMax : Nat := 0x811006
/-- `0x8200.01 FAULT_LOG_COUNT` (chapter 13). -/
def Obj.faultLogCount : Nat := 0x820001
/-- `0x8200.02 FAULT_LOG_SEL` (chapter 13). -/
def Obj.faultLogSel : Nat := 0x820002
/-- `0x8200.03 FAULT_LOG_READ` (chapter 13). -/
def Obj.faultLogRead : Nat := 0x820003
/-- `0x8300.01 CUP_PERIOD` (chapter 13). -/
def Obj.cupPeriod : Nat := 0x830001
/-- `0x8300.02 CUP_ENABLE` (chapter 13). -/
def Obj.cupEnable : Nat := 0x830002
/-- `0x8300.03 CUP_DIE_LIMIT` (chapter 13). -/
def Obj.cupDieLimit : Nat := 0x830003
/-- `0x8310.01 CUP_PERIODS` (chapter 13). -/
def Obj.cupPeriods : Nat := 0x831001
/-- `0x8310.02 CUP_DISAGREEMENTS` (chapter 13). -/
def Obj.cupDisagreements : Nat := 0x831002
/-- `0x8310.03 CUP_FENCES` (chapter 13). -/
def Obj.cupFences : Nat := 0x831003
/-- `0x8310.04 CUP_UNSETTLED` (chapter 13). -/
def Obj.cupUnsettled : Nat := 0x831004
/-- `0x8310.05 TILES_RETIRED` (chapter 13). -/
def Obj.tilesRetired : Nat := 0x831005
/-- `0x8320.01 CUP_REPORT` (chapter 13). -/
def Obj.cupReport : Nat := 0x832001
/-- `0x8400 + s .01 FAULT_FORCE` (chapter 13). -/
def Obj.faultForce : Nat := 0x840001
/-- `0x8400 + s .02 FENCE_STATE` (chapter 13). -/
def Obj.fenceState : Nat := 0x840002
/-- `0x8500 + n .01 TILE_STATE` (chapter 13). -/
def Obj.tileState : Nat := 0x850001
/-- `0x8500 + n .02 TILE_FENCES` (chapter 13). -/
def Obj.tileFences : Nat := 0x850002
/-- `0xC100.01 BARISTA_ACTIVE` (chapter 14). -/
def Obj.baristaActive : Nat := 0xC10001
/-- `0xC100.02 BARISTA_EPOCH` (chapter 14). -/
def Obj.baristaEpoch : Nat := 0xC10002
/-- `0xC100.03 CTRL_SEQ` (chapter 14). -/
def Obj.ctrlSeq : Nat := 0xC10003
/-- `0xC100.04 CTRL_DUPLICATES` (chapter 14). -/
def Obj.ctrlDuplicates : Nat := 0xC10004
/-- `0xC110 + n .01 BARISTA_ROLE` (chapter 14). -/
def Obj.baristaRole : Nat := 0xC11001
/-- `0xC110 + n .02 BARISTA_SILENCES` (chapter 14). -/
def Obj.baristaSilences : Nat := 0xC11002
/-- `0xC110 + n .03 BARISTA_SILENCE_CAUSE` (chapter 14). -/
def Obj.baristaSilenceCause : Nat := 0xC11003
/-- `0xC120.01 CARAFE_COMMIT_SEQ` (chapter 14). -/
def Obj.carafeCommitSeq : Nat := 0xC12001
/-- `0xC120.02 CARAFE_COMMIT_TIME` (chapter 14). -/
def Obj.carafeCommitTime : Nat := 0xC12002
/-- `0xC120.03 CARAFE_GEN` (chapter 14). -/
def Obj.carafeGen : Nat := 0xC12003
/-- `0xC120.04 CARAFE_JOURNAL_FILL` (chapter 14). -/
def Obj.carafeJournalFill : Nat := 0xC12004
/-- `0xC120.05 CARAFE_PENDING` (chapter 14). -/
def Obj.carafePending : Nat := 0xC12005
/-- `0xC120.06 CARAFE_TORN` (chapter 14). -/
def Obj.carafeTorn : Nat := 0xC12006
/-- `0xC120.07 CARAFE_SPARE_BLOCKS` (chapter 14). -/
def Obj.carafeSpareBlocks : Nat := 0xC12007
/-- `0xC120.08 CARAFE_COMMIT_NOW` (chapter 14). -/
def Obj.carafeCommitNow : Nat := 0xC12008
/-- `0xC200.01 POWER_ON_HOURS` (chapter 14). -/
def Obj.powerOnHours : Nat := 0xC20001
/-- `0xC200.02 THERMAL_CYCLES` (chapter 14). -/
def Obj.thermalCycles : Nat := 0xC20002
/-- `0xC200.03 HEATER_STRESS` (chapter 14). -/
def Obj.heaterStress : Nat := 0xC20003
/-- `0xC200.04 COMB_DRIVE_HISTORY` (chapter 14). -/
def Obj.combDriveHistory : Nat := 0xC20004
/-- `0x1000.01 VENDOR` (chapter 15). -/
def Obj.vendor : Nat := 0x100001
/-- `0x1000.02 PRODUCT` (chapter 15). -/
def Obj.product : Nat := 0x100002
/-- `0x1000.03 ORDERING_CODE` (chapter 15). -/
def Obj.orderingCode : Nat := 0x100003
/-- `0x1000.04 SERIAL` (chapter 15). -/
def Obj.serial : Nat := 0x100004
/-- `0x1000.05 MODULE_REVISION` (chapter 15). -/
def Obj.moduleRevision : Nat := 0x100005
/-- `0x1000.06 MANUFACTURED` (chapter 15). -/
def Obj.manufactured : Nat := 0x100006
/-- `0x1000.07 MAC_BASE` (chapter 15). -/
def Obj.macBase : Nat := 0x100007
/-- `0x1000.08 SLOT_ID` (chapter 15). -/
def Obj.slotId : Nat := 0x100008
/-- `0x1010.01 FW_VERSION` (chapter 15). -/
def Obj.fwVersion : Nat := 0x101001
/-- `0x1010.02 ROM_VERSION` (chapter 15). -/
def Obj.romVersion : Nat := 0x101002
/-- `0x1010.03 CONTRACT_LEVEL` (chapter 15). -/
def Obj.contractLevel : Nat := 0x101003
/-- `0x1010.04 INTERFACE_LEVEL` (chapter 15). -/
def Obj.interfaceLevel : Nat := 0x101004
/-- `0x1010.05 MODULE_STATE` (chapter 15). -/
def Obj.moduleState : Nat := 0x101005
/-- `0x1100.01 FIELD_ENABLE` (chapter 15). -/
def Obj.fieldEnable : Nat := 0x110001
/-- `0x1100.02 FIELD_NODE_COUNT` (chapter 15). -/
def Obj.fieldNodeCount : Nat := 0x110002
/-- `0x1100.03 FIELD_NODE_ID` (chapter 15). -/
def Obj.fieldNodeId : Nat := 0x110003
/-- `0x1100.04 FIELD_COORDINATOR` (chapter 15). -/
def Obj.fieldCoordinator : Nat := 0x110004
/-- `0x1100.05 FIELD_PRIVILEGE` (chapter 15). -/
def Obj.fieldPrivilege : Nat := 0x110005
/-- `0x1100.06 FIELD_STATE` (chapter 15). -/
def Obj.fieldState : Nat := 0x110006
/-- `0x1110.01 PUNEL_REQUESTS` (chapter 15). -/
def Obj.punelRequests : Nat := 0x111001
/-- `0x1110.02 PUNEL_ERRORS` (chapter 15). -/
def Obj.punelErrors : Nat := 0x111002
/-- `0x1110.03 PUNEL_DROPPED` (chapter 15). -/
def Obj.punelDropped : Nat := 0x111003
/-- `0x1110.04 PUNEL_DUPLICATES` (chapter 15). -/
def Obj.punelDuplicates : Nat := 0x111004
/-- `0x1110.05 FIELD_FRAMES_BAD` (chapter 15). -/
def Obj.fieldFramesBad : Nat := 0x111005
/-- `0x1110.06 FIELD_COLLISIONS` (chapter 15). -/
def Obj.fieldCollisions : Nat := 0x111006
/-- `0x1200.01 DICT_LIST` (chapter 15). -/
def Obj.dictList : Nat := 0x120001
/-- `0x1200.02 DICT_CLIENTS` (chapter 15). -/
def Obj.dictClients : Nat := 0x120002
/-- `0x1400 + s .01 DIE_KIND` (chapter 15). -/
def Obj.dieKind : Nat := 0x140001
/-- `0x1400 + s .02 DIE_REVISION` (chapter 15). -/
def Obj.dieRevision : Nat := 0x140002
/-- `0x1400 + s .03 DIE_LEVEL` (chapter 15). -/
def Obj.dieLevel : Nat := 0x140003
/-- `0x1400 + s .04 DIE_ID` (chapter 15). -/
def Obj.dieId : Nat := 0x140004
/-- `0x9100.01 LC_STATE` (chapter 16). -/
def Obj.lcState : Nat := 0x910001
/-- `0x9100.02 LC_COUNTER` (chapter 16). -/
def Obj.lcCounter : Nat := 0x910002
/-- `0x9100.03 LC_REQUEST` (chapter 16). -/
def Obj.lcRequest : Nat := 0x910003
/-- `0x9100.04 LC_RESULT` (chapter 16). -/
def Obj.lcResult : Nat := 0x910004
/-- `0x9100.05 OWNER_KEY` (chapter 16). -/
def Obj.ownerKey : Nat := 0x910005
/-- `0x9110.01 TAMPER_COUNT` (chapter 16). -/
def Obj.tamperCount : Nat := 0x911001
/-- `0x9110.02 TAMPER_LAST` (chapter 16). -/
def Obj.tamperLast : Nat := 0x911002
/-- `0x9110.03 TAMPER_STATE` (chapter 16). -/
def Obj.tamperState : Nat := 0x911003
/-- `0x9120.01 IDENTITY_CERT` (chapter 16). -/
def Obj.identityCert : Nat := 0x912001
/-- `0x9120.02 ATTEST_NONCE` (chapter 16). -/
def Obj.attestNonce : Nat := 0x912002
/-- `0x9120.03 ATTEST_REPORT` (chapter 16). -/
def Obj.attestReport : Nat := 0x912003
/-- `0x9130.01 VENDOR_CHALLENGE` (chapter 16). -/
def Obj.vendorChallenge : Nat := 0x913001
/-- `0x9130.02 VENDOR_RESPONSE` (chapter 16). -/
def Obj.vendorResponse : Nat := 0x913002
/-- `0xA100.01 UPDATE_IMAGE` (chapter 16). -/
def Obj.updateImage : Nat := 0xA10001
/-- `0xA100.02 UPDATE_ACTIVATE` (chapter 16). -/
def Obj.updateActivate : Nat := 0xA10002
/-- `0xA100.03 UPDATE_CONFIRM` (chapter 16). -/
def Obj.updateConfirm : Nat := 0xA10003
/-- `0xA100.04 UPDATE_CONFIRM_TIME` (chapter 16). -/
def Obj.updateConfirmTime : Nat := 0xA10004
/-- `0xA110.01 UPDATE_STATE` (chapter 16). -/
def Obj.updateState : Nat := 0xA11001
/-- `0xA110.02 UPDATE_RESULT` (chapter 16). -/
def Obj.updateResult : Nat := 0xA11002
/-- `0xA110.03 FW_SLOTS` (chapter 16). -/
def Obj.fwSlots : Nat := 0xA11003
/-- `0xA110.04 ROLLBACK_SVN` (chapter 16). -/
def Obj.rollbackSvn : Nat := 0xA11004
/-- `0x1010.06 START_STEP` (chapter 17). -/
def Obj.startStep : Nat := 0x101006
/-- `0x1010.07 READY_TIME` (chapter 17). -/
def Obj.readyTime : Nat := 0x101007
/-- `0x1010.08 START_FAILURE` (chapter 17). -/
def Obj.startFailure : Nat := 0x101008
/-- `0x1010.09 START_DURATION` (chapter 17). -/
def Obj.startDuration : Nat := 0x101009
/-- `0x1400 + s .05 JOINT_SPARES` (chapter 17). -/
def Obj.jointSpares : Nat := 0x140005
/-- `0x1400 + s .06 JOINT_LOSS` (chapter 17). -/
def Obj.jointLoss : Nat := 0x140006
/-- `0x7330.02 GRINDER_START_MODE` (chapter 17). -/
def Obj.grinderStartMode : Nat := 0x733002
/-- `0x7330.03 GRINDER_RUN` (chapter 17). -/
def Obj.grinderRun : Nat := 0x733003
/-- `0x7330.04 GRINDER_STATE` (chapter 17). -/
def Obj.grinderState : Nat := 0x733004
/-- `0x7330.05 GRINDER_FAILURES` (chapter 17). -/
def Obj.grinderFailures : Nat := 0x733005
/-- `0x6800 .00 REGION` (chapter 8). -/
def Obj.region : Nat := 0x680000
/-- `0xD700 .00 WINDOW` (chapter 9). -/
def Obj.window : Nat := 0xD70000
/-- `0xD800 .00 QP` (chapter 9). -/
def Obj.qp : Nat := 0xD80000

/-- Default of an object held once for the module (the Default column of each chapter's table); every other
value defaults to zero. -/
def dictDefault (code : Nat) : Word :=
  match code with
  | 0x730001 => 32  -- MESH_WAIT_LIMIT
  | 0x730002 => 256  -- MESH_QUOTA
  | 0x730003 => 2  -- MESH_HOLD_FACTOR
  | 0x730004 => 8  -- MESH_COMBINE_WAIT
  | 0x730005 => 32  -- ENGINE_WAIT_LIMIT
  | 0x730006 => 256  -- ENGINE_QUOTA
  | 0x410002 => 64  -- LANE_ERR_LIMIT
  | 0x410003 => 8  -- UNCORR_FRAME_LIMIT
  | 0x411004 => 127  -- SHADOW_OWNER
  | 0x420001 => 10000  -- CAL_INTERVAL
  | 0x420002 => 1  -- CAL_ENABLE
  | 0x510001 => 24  -- MEM_SCRUB_PERIOD
  | 0x510002 => 32  -- MEM_WAIT_LIMIT
  | 0x510003 => 256  -- MEM_QUOTA
  | 0x510004 => 64  -- MEM_MARK_LIMIT
  | 0x510005 => 4096  -- MEM_STACK_FAIL_LIMIT
  | 0x511001 => 3298534883328  -- MEM_CAPACITY
  | 0x710002 => 255  -- JOB_RING
  | 0x710003 => 255  -- JOB_VARIANT
  | 0x610001 => 65535  -- FABRIC_MODULE
  | 0x611001 => 400  -- FABRIC_DEDUPE_LIFETIME
  | 0x611002 => 40  -- FABRIC_TIMEOUT
  | 0x611003 => 32  -- FABRIC_WAIT_LIMIT
  | 0x611004 => 256  -- FABRIC_QUOTA
  | 0xD10001 => 3  -- HOST_PFC_PRIORITY
  | 0xD10002 => 26  -- HOST_ROCE_DSCP
  | 0xD10003 => 45390  -- HOST_PUNEL_PORT
  | 0xB10003 => 255  -- TIME_SOURCE_LINK
  | 0xB10005 => 65535  -- TIME_ROOT
  | 0xB11001 => 1000  -- TIME_STEP_LIMIT
  | 0xB11002 => 1  -- TIME_STEP_MODE
  | 0xB11003 => 1  -- TIME_FABRIC_ENABLE
  | 0x210007 => 4095  -- STAGES_IN_SERVICE
  | 0x310001 => 150  -- THERM_WARN_RATE
  | 0x310002 => 2000  -- THERM_WARN_TIME
  | 0x310003 => 300  -- THERM_ACT_RATE
  | 0x310004 => 1000  -- THERM_ACT_TIME
  | 0x810001 => 5  -- ALERT_LEVEL
  | 0x810002 => 1  -- ALERT_MODE
  | 0x830001 => 20000  -- CUP_PERIOD
  | 0x830002 => 1  -- CUP_ENABLE
  | 0x830003 => 5  -- CUP_DIE_LIMIT
  | 0xC10001 => 74  -- BARISTA_ACTIVE
  | 0xC12007 => 3072  -- CARAFE_SPARE_BLOCKS
  | 0x101003 => 1  -- CONTRACT_LEVEL
  | 0x110001 => 1  -- FIELD_ENABLE
  | 0x110002 => 9  -- FIELD_NODE_COUNT
  | 0x110005 => 3  -- FIELD_PRIVILEGE
  | 0xA10004 => 600  -- UPDATE_CONFIRM_TIME
  | _ => 0

end Sys2Proof.Machine
end

