-- ==== Sys2Proof/Machine/TimeTypes.lean ====
section
/-! DEFINITION. State of module time and its sources (R293, R306 to R316). -/
namespace Sys2Proof.Machine

/-- A neighbour's latest TIME offer on a link (R310, R311): what it announced, the offset and the one-way delay in
picoseconds, known once it echoes a TIME of this end, and when it came. -/
structure Offer where
  cls : Nat
  hops : Nat
  root : Nat
  state : Nat
  theta : Option Int
  delay : Option Int
  at_ : Nat
deriving DecidableEq, Repr

/-- A choice of time source (R310): TIME_SOURCE, its link, and the class, root and hops it gives. -/
structure Source where
  kind : Nat
  link : Nat
  cls : Nat
  root : Nat
  hops : Nat
deriving DecidableEq, Repr

/-- An Announce data set (R293), by its rank number, and the port identity that sent it. -/
structure Master where
  rank : Nat
  port : BitVec 80
deriving DecidableEq, Repr

/-- The IEEE 1588 slave of a host port (R293): the best foreign master heard, the two-step Sync that waits for its
Follow_Up, the latest offset of the master from this module and its delay in picoseconds, the latest Delay_Req; `heardAt` is when `best` was last
heard. -/
structure PtpPort where
  best : Option Master := none
  heardAt : Nat := 0
  syncSeq : Nat := 0
  syncRx : Int := 0
  waiting : Bool := false
  t1 : Int := 0
  t2 : Int := 0
  t3 : Int := 0
  reqSeq : Nat := 0
  reqOut : Bool := false
  delay : Int := 0
  offset : Option Int := none
deriving DecidableEq, Repr

/-- Module time and its steering. `skew` is a die's count minus module time; `unset` the dies with no valid time;
`held` the number of reviews a new source has
ranked first; `known` says the source has given an offset, `sum` is the servo's integral of it; `lit` are the timing trees that are lit (R301); `reviewed` the frame of the last review; `stepD` the step that is due; `stepAt` its F. -/
structure ModTime where
  skew : Tbl Int := []
  unset : List Nat := List.range 100
  state : Nat := 0
  holdSince : Option Nat := none
  leftFree : Bool := false
  source : Source := { kind := 0, link := 0xFF, cls := 0, root := 0, hops := 0 }
  cand : Option Source := none
  held : Nat := 0
  reviewed : Option Nat := none
  offset : Int := 0
  known : Bool := false
  sum : Int := 0
  freq : Int := 0
  stepD : Option Int := none
  stepAt : Option Word := none
  untrustedUntil : Nat := 0
  offers : Tbl Offer := []
  ptp : Tbl PtpPort := []
  master : Option (Nat × Master) := none
  tree : Fin 2 := 0
  lit : List Nat := []
deriving DecidableEq, Repr

end Sys2Proof.Machine
end

