-- ==== Sys2Proof/Machine/CombTypes.lean ====
section
/-! DEFINITION. State of the combs, the rings and calibration (R136 to R163). -/
namespace Sys2Proof.Machine

/-- A ring (R139, R145): its state as RING_STATE numbers them, its live values with the values they move to (`none`: the
factory baseline), consecutive failed tone windows, the line its last window identified, whether it acquires once out
of service, when it entered HOLD, the passes of a sweep, whether it stands where a guided move took it, the drop power at its lock, the
window last judged, the module time from which its tone windows run, and its state and code at the last frame boundary (R154). -/
structure Ring where
  state : Nat := 0
  heater : Option Nat := none
  heaterTo : Option Nat := none
  drive : Option Nat := none
  driveTo : Option Nat := none
  threshold : Option Nat := none
  thresholdTo : Option Nat := none
  delay : Option Nat := none
  delayTo : Option Nat := none
  fails : Nat := 0
  seen : Option Nat := none
  reacquire : Bool := false
  holdAt : Nat := 0
  passes : Nat := 0
  moved : Bool := false
  level : Nat := 0
  judgedAt : Option Nat := none
  from_ : Nat := 0
  capState : Nat := 0
  capHeater : Option Nat := none
deriving DecidableEq, Repr

/-- A comb source (R156 to R161): its state as COMB_STATE numbers them, the tile it serves, drive in 0.1 mA, the lowest
fade ratio in 0.1 % and the tap powers, consecutive evaluations that met each condition, the tile a spare lights for,
the module time at which its hours began, the state it had before shedding took it to Ring-keep or off (R161), and when its second was last evaluated. DESIGN CHOICE (log 95): before the first evaluation
`fade` is 1000, which COMB_FADE reads. -/
structure Comb where
  state : Nat := 0
  serves : Option Nat := none
  drive : Option Nat := none
  fade : Nat := 1000
  power : List Nat := []
  hours : Nat := 0
  lightN : Nat := 0
  retireN : Nat := 0
  target : Option Nat := none
  litAt : Option Nat := none
  parked : Option Nat := none
  evalAt : Option Nat := none
deriving DecidableEq, Repr

/-- A ring's step of calibration (R150): whether it takes part in the running step, whether a peak was found and the step was rejected or ended without result, its values before the
step (HEATER, DRIVE or THRESHOLD, DELAY), the last extinction ratio, and what the scan points gave: an extinction ratio, or 1 for bursts
free of error and 2 for an error. -/
structure CalPort where
  open_ : Bool := false
  peak : Bool := false
  rejected : Bool := false
  ended : Bool := false
  heater : Nat := 0
  first : Nat := 0
  second : Nat := 0
  ratio : Nat := 0
  points : Tbl Nat := []
  points2 : Tbl Nat := []
deriving DecidableEq, Repr

/-- Calibration (R148 to R151): the running or last step, T while one runs, when the cycle began, swing holds by port, side and line,
consecutive failures by port, side and line, a step that waits for a hold to end, for a working barista or for a time step (R151, R314, R385),
whether the next cycle follows without a pause, the step that is named with its T, and start-up calibration (R153): 0 not begun, 1 running, 2 over. `ports` holds
the step of each ring, `train` the ports whose lines are calibrated all at once (R153, R235): the side, 1 transmit or 2 receive, and the module time it began. -/
structure Cal where
  side : Nat := 0
  step : Nat := 0
  running : Option Word := none
  cycleAt : Option Nat := none
  active : Bool := false
  waiting : Option (Nat × Nat) := none
  again : Bool := false
  ports : Tbl CalPort := []
  holds : List (Nat × Bool × Nat) := []
  fails : Tbl Nat := []
  named : Option (Nat × Nat × Word) := none
  phase : Nat := 0
  train : Tbl (Nat × Nat) := []
  blendRuns : Bool := false
deriving DecidableEq, Repr

/-- Comb, ring and calibration state. `low` is the tick of the first of a run of samples below 25 %: comb line `36 * c + k`, port tap
`1000 + 36 * p + k`, ring `20000 + 72 * p + 36 * rx + k`; `drops` is the last drop power of a ring, `lossAt` when a tile's comb was lost,
`raised` the conditions reported in the last 64 ns (R143), as tick, port, side and line, `unlocked` the rings out of service that lost their lock then, `heatAt` the last heater update (R141), `toneVoid` says a time step fell into the running tone window (R314). -/
structure Light where
  combs : Tbl Comb := []
  rings : Tbl Ring := []
  cal : Cal := {}
  low : Tbl (Option Nat) := []
  lossAt : Tbl Nat := []
  drops : Tbl Nat := []
  raised : List (Nat × Nat × Bool × Nat) := []
  unlocked : List (Nat × Nat) := []
  heatAt : Option Nat := none
  toneVoid : Bool := false
deriving DecidableEq, Repr

end Sys2Proof.Machine
end

