-- ==== Sys2Proof/Machine/FabTypes.lean ====
section
/-! DEFINITION. State of the Dundom fabric (R228 to R275). -/
namespace Sys2Proof.Machine

/-- A remote request unit of a compute die (R246): the transfer it serves, the position of its first line, the packet's own fields, and
where it stands: 0 on its way to its fabric die, 1 in that die's unit queue, 2 an operation there; a multicast store's group. -/
structure RemoteUnit where
  cd : Nat
  handle : Nat
  fd : Nat
  tile : Nat
  flow : Nat
  transfer : Nat
  pos : Nat
  opc : Nat
  addr : Nat
  key : Nat
  size : Nat
  record : List Word
  recPoison : Bool
  data : List Flit
  stage : Nat := 0
  group : Nat := 0
deriving DecidableEq, Repr

/-- Who asked an origin fabric die for an operation: a compute die's unit, or the sync die for a tile's flag
operation (R246, R263). -/
inductive OpOwner where
  | unit (u : RemoteUnit)
  | sync (flag : Nat)
deriving DecidableEq, Repr

/-- An operation open at its origin (R265, R269): the packet as sent, when attempt 0 left and, for a multicast
store, the members that answered DONE and the first other status. -/
structure FabOp where
  fd : Nat
  tag : Nat
  packet : FabPacket
  first : Nat
  attempt : Nat
  owner : OpOwner
  members : Nat
  done : List Nat
  other : Option Nat
deriving DecidableEq, Repr

/-- A dedupe entry (R266): its key, its home die, when it was made, and its outcome once decided. -/
structure Dedupe where
  home : Nat
  src : Nat
  origFd : Nat
  tag : Nat
  first : Nat
  madeAt : Nat
  outcome : Option (Nat × Word)
  waiters : List FabPacket
deriving DecidableEq, Repr

/-- A request passed to a memory base die that has not answered (R247). -/
structure MemWait where
  fd : Nat
  packet : FabPacket
  at_ : Nat
deriving DecidableEq, Repr

/-- States of an external link (R235). -/
inductive LinkMode where
  | down | training | up
deriving DecidableEq, Repr

/-- An external link FDn.Ek, l = 2n + k (R231 to R237), or a die's end of its house pairs with another die, of which the queues, the
credits and the stream are used (R234). `heard` says a HELLO from the far end was received; the
neighbour's sets come from HELLO and LINK_EXCLUDE; `rxChanges` lists the changes of this receiver's map: the frame, whether the line joins
this end's own set, the line; `queue` holds packets for egress, `out` the flits of the packet
being sent, each marked when it is a header, and `outKey` that packet's class. Credits are counted by virtual channel and dateline class: flits sent,
flits freed at this end's input, those the far end was told of, the latest running count received (R233, R234); `vc0Out` holds the dateline
classes of the VC0 flits sent that the far end has not freed. `stream` holds the flits of a packet
being received; `trained` says its port has been calibrated in this training (R235); `skip` drops flits until the next HEAD, their credit returned to `skipVc`. `predict` is the slot count
of the last accepted burst and when it came; `lastTime` the latest TIME received: TX, RX and picoseconds; `txs` the
TX of the latest eight TIMEs sent, the newest first. -/
structure LinkSt where
  mode : LinkMode := .down
  since : Nat := 0
  retried : Bool := false
  trained : Bool := false
  neighbour : Option (Nat × Nat × Nat) := none
  heard : Bool := false
  farTx : BitVec 36 := 0
  farRx : BitVec 36 := 0
  rxChanges : List (Nat × Bool × Nat) := []
  queue : List FabPacket := []
  out : List (Flit × Bool) := []
  outKey : Nat := 0
  vc0Out : List Bool := []
  sent : Tbl Nat := []
  freed : Tbl Nat := []
  told : Tbl Nat := []
  got : Tbl Nat := []
  stream : List Flit := []
  skip : Bool := true
  skipVc : Option Nat := none
  predict : Option (Nat × Nat) := none
  lastTime : Option (Word × Word × Nat) := none
  txs : List Word := []
  calFrames : List (Nat × Nat × Bool) := []
deriving DecidableEq, Repr

/-- A region entry (R243 Table 5), with the entry before it while fabric dies may still hold that one. -/
structure FabRegion where
  base : Nat := 0
  sizeLog2 : Nat := 0
  perm : BitVec 8 := 0
  state : Nat := 0
  key : BitVec 32 := 0
deriving DecidableEq, Repr

structure RegionSlot where
  cur : FabRegion := {}
  prev : FabRegion := {}
  at_ : Option Nat := none
deriving DecidableEq, Repr

/-- A drain (R271): when it started, the modules and groups affected, the links whose LEAVE started it, and the affected
packets that were queued; `shadow` is the set it makes active. -/
structure Drain where
  at_ : Nat
  modules : List Nat
  groups : List Nat
  leavers : List Nat
  queued : List FabPacket
  flushed : Bool
  shadow : Tbl Nat
deriving DecidableEq, Repr

/-- A fabric barrier group at this module (R259): local arrivals of the epoch, the epoch, whether its BAR_ARRIVE is
out and since when, and at the home the epochs released and the maps of the next ones. -/
structure FabBar where
  entry : Word := 0
  arrived : Nat := 0
  epoch : Nat := 0
  sentAt : Option Nat := none
  homeEpoch : Nat := 0
  maps : Tbl (List Nat) := []
deriving DecidableEq, Repr

/-- A fabric flag at this module (R260): its table entry, the home's value and change count, the copy and its count. -/
structure FabFlag where
  home : Nat := 0
  notify : Nat := 0
  notifyOn : Bool := false
  initial : Word := 0
  value : Word := 0
  changes : Nat := 0
  copy : Word := 0
  copyCount : Nat := 0
deriving DecidableEq, Repr

/-- A result record of a remote atomic of a transfer (R183, R242), by the place of its record. -/
structure RemoteResult where
  tile : Nat
  flow : Nat
  transfer : Nat
  pos : Nat
  bytes : List Byte
deriving DecidableEq, Repr

/-- The fabric. `links` holds external links and path ends; `pathIn` packets received whole over a path and not taken yet; `own` is the module number in force, 0xFFFF when unset (R229); `active` and `shadow` hold routing
entries by module, at 4096 + g multicast entries by group; `paced` holds the VC0 packets the sync die has to originate, each with when it was queued (R250);
`deadShares` the tick until which a fenced die's dedupe share is UNKNOWN (R270); `throttleFree` the tick at which a
throttled die may originate again (R264); `multiIn` multicast packets whose input is held until their copies are sent: the end they came
in on, the packet, the copies left (R256); `vanished` modules all of whose links went down (R273); `leaveEnd` when the queues of a
leaving module began to empty (R272). -/
structure Fabric where
  own : Nat := 0xFFFF
  units : List RemoteUnit := []
  nextHandle : Tbl Nat := []
  results : List RemoteResult := []
  ops : List FabOp := []
  dedupe : List Dedupe := []
  memWaits : List MemWait := []
  links : Tbl LinkSt := []
  pathIn : List (Nat × FabPacket) := []
  active : Tbl Nat := []
  shadow : Tbl Nat := []
  drain : Option Drain := none
  leaving : Option Nat := none
  left : Bool := false
  drainedFrom : List Nat := []
  regions : Tbl RegionSlot := []
  bars : Tbl FabBar := []
  flags : Tbl FabFlag := []
  syncDie : Nat := 0
  syncLost : Option Nat := none
  throttle : Tbl Nat := []
  throttleSince : Tbl Nat := []
  throttleFree : Tbl Nat := []
  keyFaultAt : Option Nat := none
  deadShares : Tbl Nat := []
  lastVc0 : Tbl Nat := []
  multiIn : List (Nat × FabPacket × Nat) := []
  vanished : List Nat := []
  leaveEnd : Option Nat := none
  paced : List (Nat × FabPacket) := []
deriving DecidableEq, Repr

end Sys2Proof.Machine
end

