-- ==== Sys2Proof/Machine/HostTypes.lean ====
section
/-! DEFINITION. State of the host ports (R276 to R295). -/
namespace Sys2Proof.Machine

/-- What a queue pair sends (R280 to R284, R289). -/
inductive RoceKind where
  | ack | readResponse | atomicAck | nakSequence | nakInvalid | nakAccess | nakOperational | rnrNak | writeRequest | cnp
deriving DecidableEq, Repr

/-- Other frames of a host port. -/
inductive EthKind where
  | arpReply | neighbourAdvert | echoReply | pfcXoff | pfcXon | ptpDelayReq | punelAnswer
deriving DecidableEq, Repr

/-- A frame that a host port has ready: of queue pair `q` with its DSCP, or another; each with the ID of its tag, if it has one (R278, R295). -/
inductive HostOut where
  | roce (q : Nat) (kind : RoceKind) (psn : BitVec 24) (data : List Byte) (dscp : Nat) (vlan : Option Nat)
  | eth (kind : EthKind) (data : List Byte) (vlan : Option Nat)
deriving DecidableEq, Repr

/-- A request a queue pair has outstanding as requester (R292): a record write of setup `setup` of its ring. `seqPart` marks the write of bytes
0 to 7, `held` one that waits for the end of a pause, or of a congestion notification's delay; `tries` and `rnr` count its retries of
each kind. -/
structure QpReq where
  psn : Nat
  ring : Nat
  setup : Nat
  n : Nat
  va : Nat
  rkey : Nat
  data : List Byte
  seqPart : Bool
  sentAt : Nat
  tries : Nat
  rnr : Nat := 0
  held : Bool := false
deriving DecidableEq, Repr

/-- What a request asks of the responder (R282, R284, R289): a part of a WRITE, a READ, an atomic, a SEND's ring entry, a doorbell access; or
the answer it is to get when those before it are done: a refusal, or NAK Sequence for a gap in the PSNs. -/
inductive HostOp where
  | write | read | atomic | entry | bell | gap
  | nak (kind : RoceKind) (counted : Bool)
deriving DecidableEq, Repr

/-- A request that a queue pair's responder has taken and not ended, in PSN order (R282). `id` marks its units; `addr` and `len` are what is left
of a READ, whose response packets go out one after the other; `at_` is when the units in hand were sent, `got` their answers by place. -/
structure HostReq where
  id : Nat
  op : HostOp
  psn : BitVec 24
  addr : Nat := 0
  len : Nat := 0
  data : List Byte := []
  code : Nat := 0
  operand : Word := 0
  compare : Word := 0
  at_ : Option Nat := none
  got : List (Nat × FabPacket) := []
deriving DecidableEq, Repr

/-- A queue pair (R281 Table 4). `entry` is the entry as written; `msg` the WRITE message in progress: next address,
bytes left and key; `replay` the results of the latest atomics by PSN; `reqs` what it has taken as responder, `out` and `queue` its own
requests, `slowTo` the tick until which a congestion notification holds them. -/
structure QpSt where
  entry : List Byte := []
  state : Nat := 0
  port : Nat := 0
  mtu : Nat := 5
  ring : Nat := 255
  sPsn : BitVec 24 := 0
  ePsn : BitVec 24 := 0
  timeout : Nat := 14
  retry : Nat := 7
  rnrRetry : Nat := 7
  msg : Option (Nat × Nat × BitVec 32) := none
  replay : List (Nat × Word) := []
  out : Option QpReq := none
  queue : List QpReq := []
  reqs : List HostReq := []
  slowTo : Nat := 0
deriving DecidableEq, Repr

/-- A memory window (R283 Table 5). -/
structure WinE where
  base : Nat := 0
  size : Nat := 0
  perm : BitVec 8 := 0
  on : Bool := false
  key : BitVec 32 := 0
deriving DecidableEq, Repr

/-- A window's entry, and the one before it while a request may still be checked against that. -/
structure WinSlot where
  cur : WinE := {}
  prev : WinE := {}
  at_ : Option Nat := none
deriving DecidableEq, Repr

/-- A job ring (R287 Table 7) and its doorbell page (R289 Table 9). `ended` counts the ring's ended jobs; `recs` are
records not yet delivered to the host, their number and their 64 bytes; `acked` says the first one's body is
acknowledged; `reach` is an accepted ABORT that HEAD has not reached; `setup` counts the ring's configurations. -/
structure RingSt where
  entry : List Byte := []
  base : Nat := 0
  entries : Nat := 0
  mode : Nat := 0
  qp : Nat := 0
  recBase : Nat := 0
  recKey : Nat := 0
  tail : Nat := 0
  head : Nat := 0
  seq : Nat := 0
  abort : Nat := 0
  ended : Nat := 0
  recs : List (Nat × List Byte) := []
  acked : Bool := false
  reach : Option Nat := none
  setup : Nat := 0
deriving DecidableEq, Repr

/-- A host port (R277 to R279, R286, R293): link state, the last bring-up step reached, 0 before the first; since when; the cage as read, whether
its module stays in low power (R464), the mode and the addresses taken at that bring-up; receive buffer fill; pauses, and the frames one holds. -/
structure HostPort where
  link : Nat := 0
  step : Nat := 0
  since : Nat := 0
  speed : Nat := 0
  mode : Nat := 0
  copper : Bool := false
  modes : BitVec 4 := 0
  lowPower : Bool := false
  fill : Nat := 0
  xoff : Bool := false
  pausedTx : Bool := false
  heldTx : List HostOut := []
  ptp : Nat := 0
  ipv4 : Nat := 0
  ipv6 : List Byte := []
deriving DecidableEq, Repr

/-- The host side. `paths` holds the units a host die and a memory base die have for each other's HOST slots, by path; `slotIn` those received
and not taken yet; `nextId` numbers the requests of host dies. -/
structure Hosts where
  qps : Tbl QpSt := []
  wins : Tbl WinSlot := []
  rings : Tbl RingSt := []
  ports : Tbl HostPort := []
  paths : Tbl (List FabPacket) := []
  slotIn : List (Nat × FabPacket) := []
  nextId : Nat := 0
deriving DecidableEq, Repr

end Sys2Proof.Machine
end

