-- ==== Sys2Proof/Machine/OutTypes.lean ====
section
/-! DEFINITION. What the block sends: packets, bursts, answers and frames on their way. A command that delivers
one takes it from the list. -/
namespace Sys2Proof.Machine

inductive Output where
  /-- A signal-network packet (R91). -/
  | sig (p : SigPacket)
  /-- A mesh packet of die `cd` on its way to node `at_` (R77). -/
  | mesh (cd at_ : Nat) (p : MeshPacket)
  /-- A burst sent from port `p` to port `q` (R109). -/
  | slot (p q : Nat) (b : Burst)
  /-- A result record a memory base die answers to a carrier at `site` (R183). -/
  | result (md site : Nat) (bytes : List Byte)
  /-- A signal-network negative acknowledgement on a link (R90). -/
  | nak (link : Nat)
  /-- A flit a signal link sends again from its replay buffer (R90). -/
  | sigRepeat (link : Nat) (flit : Word)
  /-- A burst sent on external link `l` (R231): its MARK, its header bits [223:0], its flits and the lines that carry PRBS-15 (R235, R237). -/
  | ext (l : Nat) (mark : BitVec 8) (head : Nat) (flits : List Flit) (prbs : List Nat)
  /-- A fabric packet received whole on external link `l`, whose command has not run (R238). -/
  | fabIn (l : Nat) (p : FabPacket)
  /-- A frame a host port sends: RoCEv2 (R280), an address or echo answer, a pause (R278, R279). -/
  | host (port : Nat) (frame : HostOut)
  /-- An answer of the dictionary to a client (R408 to R411). -/
  | punel (client : ClientId) (unit : List Byte)
deriving DecidableEq, Repr

/-- A repeat on a signal link (R90). -/
def Output.isRepeat (l : Nat) (o : Output) : Bool := match o with | .sigRepeat k _ => k == l | _ => false

end Sys2Proof.Machine
end

