-- ==== Sys2Proof/Machine/PunelTypes.lean ====
section
/-! DEFINITION. State of the dictionary's clients, the field network, security and start-up (R404 to R452). -/
namespace Sys2Proof.Machine

/-- A client entry (R413): who, when it was last heard, its selector values by object (R404), its nonces, vendor privilege and
failed responses (R430, R432), and its latest answers with when they were sent (R415). -/
structure Client where
  id : ClientId
  last : Nat
  sel : Tbl Word := []
  nonce : List Byte := List.replicate 32 0
  challenge : List Byte := []
  vendor : Bool := false
  fails : Nat := 0
  replies : List (Nat × List Byte × Nat) := []
deriving DecidableEq, Repr

/-- A snapshot or a staged write of a blob (R414). -/
structure Held_ where
  id : ClientId
  index : Nat
  sub : Nat
  total : Nat
  data : List Byte
  last : Nat
deriving DecidableEq, Repr

/-- An answer that waits: for the standby's acknowledgement of a record, or for its commit (R382, R405). -/
structure Waiting where
  id : ClientId
  answer : List Byte
  seq : Word
  commit : Bool
deriving DecidableEq, Repr

/-- The dictionary server and the field network (R406 to R417). `state` is FIELD_STATE; `rateAt` and `rateN` count the requests
of the running second; `collisions` the ticks of the latest collisions in the module's own opportunity. `settings` are the
communication settings in force since start-up; `fieldOut` the units that wait for a transmit opportunity of the field network. -/
structure Punel where
  clients : List Client := []
  snaps : List Held_ := []
  staged : List Held_ := []
  expired : List (ClientId × Nat × Nat) := []
  waiting : List Waiting := []
  rateAt : Nat := 0
  rateN : Nat := 0
  state : Nat := 0
  phyAt : Nat := 0
  fieldOut : List (ClientId × List Byte) := []
  beaconAt : Option Nat := none
  collisions : List Nat := []
  enable : Bool := true
  nodeCount : Nat := 9
  nodeId : Nat := 1
  coordinator : Bool := false
  privilege : Nat := 3
deriving DecidableEq, Repr

/-- Life cycle, tamper and update (R422 to R437). `pendingLc` holds LIFECYCLE records that have not committed: SEQ, new state,
owner key, counter, tamper count, whether DICT_VALUE is erased; `pendingFw` FW_SLOT and ROLLBACK records: SEQ, states of slots A
and B, a new rollback counter. `slotA` and `slotB` are slot states as FW_SLOTS numbers them, `booted` and `booted1` the slots that BA0 and BA1
run; `updBuf` the segments of the image being received. `owed` counts tamper events not yet recorded, `meshSeen` whether a broken mesh has been
counted. -/
structure Security where
  pendingLc : List (Word × Nat × List Byte × Nat × Nat × Nat) := []
  latch : Tbl Bool := []
  meshBroken : Bool := false
  meshSeen : Bool := false
  owed : Nat := 0
  lastSource : Nat := 0
  sealed_ : Tbl Bool := []
  slotA : Nat := 2
  slotB : Nat := 0
  booted : Option (Fin 2) := none
  booted1 : Option (Fin 2) := none
  trial : Bool := false
  updState : Nat := 0
  updTotal : Nat := 0
  updBuf : List Byte := []
  updClient : Option ClientId := none
  pendingFw : List (Word × Nat × Nat × Option Nat) := []
  recovery : Bool := false
deriving DecidableEq, Repr

/-- A joint group (R444, R445): joints spared, whether it went beyond its spares. -/
structure JointGroup where
  spared : List Nat := []
  beyond : Bool := false
deriving DecidableEq, Repr

/-- Start-up (R439 to R450). `step` is START_STEP; `ended` the last step that has ended, `began` and `stepAt` are the ticks at which start-up and its running step began,
`finished` the units of that step that have finished, `reports` what dies reported of kind, revision, level and number, `badLines`
the lines with errors in link qualification, `combsOut` the combs that are out, `jointsNew` the joint
groups whose map this start-up has changed; `grinder` is GRINDER_STATE. `resetLow` is when RESET_N was asserted. `slotId` are the
SLOT_ID pins as read at reset. -/
structure Startup where
  step : Nat := 0
  ended : Nat := 0
  began : Nat := 0
  stepAt : Nat := 0
  finished : List Nat := []
  readyTick : Nat := 0
  reports : Tbl (Option (BitVec 8 × BitVec 8 × BitVec 8 × Word)) := []
  badLines : List Nat := []
  combsOut : List Nat := []
  resetLow : Nat := 0
  inReset : Bool := false
  slotId : BitVec 6 := 0
  joints : Tbl JointGroup := []
  jointsNew : List Nat := []
  grinder : Nat := 0
  grinderMode : Nat := 0
deriving DecidableEq, Repr

end Sys2Proof.Machine
end

