-- ==== Sys2Proof/Machine/State.lean ====
section
/-! DEFINITION. The state of the module, the reasons a step can stop, and the state after reset. -/
namespace Sys2Proof.Machine

/-- A die's window for CONTROL packets of the baristas (R379): the highest SEQ accepted, and the numbers of its
map that have been seen. -/
structure CtrlWin where
  h : BitVec 32
  seen : List Nat
deriving DecidableEq, Repr

/-- Role of a barista (BARISTA_ROLE, R376). -/
inductive BaristaRole where
  | active | standby | silent | remirroring | dead
deriving DecidableEq, Repr

/-- The module. -/
structure State where
  /-- Commands that wait, first in, first out. -/
  pending : List Instr := []
  /-- Nanoseconds of the module's clock since it was reset; never stepped (R306). -/
  ticks : Nat := 0
  /-- Module time (R8, R306). -/
  now : Word := 0
  /-- The model's own counter of free values. -/
  freeCtr : Nat := 0
  /-- What the block has sent and no command has yet delivered. -/
  sent : List Output := []
  /-- Dictionary values and counters by object code (R401). -/
  dict : Tbl Word := []
  /-- Dictionary values of BLOB type, by object code (R401). -/
  blobs : Tbl (List Byte) := []
  /-- The active barista (R376). -/
  active : Fin 2 := 0
  /-- Roles of the baristas (R376, C110 BARISTA_ROLE). -/
  role0 : BaristaRole := .silent
  role1 : BaristaRole := .silent
  /-- The baristas beside their roles (R376 to R388), ROLE_EPOCH, and a named return of BA0: its first SEQ and epoch. -/
  bars : Tbl Barista := []
  roleEpoch : BitVec 32 := 0
  /-- The barista the dies address their fault messages to (R376). -/
  named : Fin 2 := 0
  handback : Option (BitVec 32 × BitVec 32) := none
  /-- Last CONTROL SEQ of the active barista (R378). -/
  ctrlSeq : BitVec 32 := 0
  /-- Last CONTROL SEQ of every other source, by site (R379). -/
  srcSeq : Tbl (BitVec 32) := []
  /-- CONTROL windows by site (R379). -/
  ctrlWin : Tbl (Option CtrlWin) := []
  /-- Tiles, at `64 * cd + t`. -/
  tiles : Tbl Tile := []
  /-- Compute dies. -/
  dies : Tbl ComputeDie := []
  /-- Port inflaters, by port index 0 to 191. -/
  infl : Tbl Inflater := []
  /-- Consecutive failures of the flit in hand on a signal link (R90): hub link of site s at s, ring segment
  from BTi clockwise at 128 + 2i, anticlockwise at 129 + 2i. -/
  sigFails : Tbl Nat := []
  /-- Replay buffer of a signal link's sender: the last sixteen flits it sent, the newest first (R90). -/
  sigReplay : Tbl (List Word) := []
  /-- Signal links out of service. -/
  sigDown : List Nat := []
  /-- Base tiles whose comb is dark, and with it the ring segments they send on (R158). -/
  sigDark : List Nat := []
  /-- Ports by port index (R103). -/
  ports : Tbl PortSt := []
  /-- Base tiles. -/
  bts : Tbl BaseTile := []
  /-- House blend in force (R118). -/
  blend : Nat := 0
  /-- Common arbiters, at `1000000 * kind + instance`. -/
  arbs : Tbl ArbSt := []
  /-- The last frame boundary that arrived (R115). -/
  boundary : Word := 0
  /-- Changes named for frame boundaries, in the order named. -/
  changes : List (Word × Change) := []
  /-- Data waiting for the house slots of a die, at `16 * site + service` (R121): the receiving site and the flits. -/
  houseq : Tbl (List (Nat × List Flit)) := []
  /-- The latest house slot a service of a die received, at `16 * site + service`: the sending site and its flits (R114). -/
  houseIn : Tbl (List (Nat × List Flit)) := []
  /-- The slot that runs (R108). -/
  slotNow : Fin 64 := 0
  /-- The tick at which it began. -/
  slotAt : Option Nat := none
  /-- The fabric (R228 to R275). -/
  fab : Fabric := {}
  /-- Combs, rings and calibration (R136 to R163). -/
  light : Light := {}
  /-- Module time and its sources (R306 to R316). -/
  mt : ModTime := {}
  /-- The host ports (R276 to R295). -/
  host : Hosts := {}
  /-- Memory stacks. -/
  dramStacks : Tbl Stack := []
  /-- Sets lost (R196), and the base of each mapped set (R166, R197). -/
  setsLost : BitVec 4 := 0
  setBase : List (Option Nat) := [some 0, some 0x0C000000000, some 0x18000000000, some 0x24000000000]
  /-- Memory-side kinds of the running job's flows (R174). -/
  flowKinds : Tbl FlowKind := []
  /-- The job beyond QUEUED (R214), and the ring that last started a job. -/
  job : Option Job := none
  lastRing : Nat := 15
  /-- The code tables the inflaters hold from job start (R62). -/
  codes : List CodeTable := []
  /-- The collector, fences and cupping. -/
  faults : Faults := {}
  /-- The journal and the two carafes (R381, R389 to R399). -/
  journal : Journal := {}
  carafe0 : Carafe := {}
  carafe1 : Carafe := {}
  mirror : Mirror := {}
  /-- Wear counters (R400): seconds with the baristas running at 0, thermal cycles at 1000 + site, heater code-seconds at
  2000 + port, seconds of comb c in drive band b at 3000 + 8 c + b. -/
  wear : Tbl Nat := []
  /-- The dictionary server and the field network (R401 to R420). -/
  punel : Punel := {}
  /-- Life cycle, tamper and update (R422 to R438). -/
  sec : Security := {}
  /-- Start-up, joints and the grinder (R439 to R452). -/
  startup : Startup := {}
  /-- Cache dies whose last wake from Off began in clear-on-wake mode (R76). -/
  wakeClears : List Nat := []
  /-- Switched domains (R322). -/
  domains : Tbl DomSt := []
  /-- The power input and shedding (R317 to R330). -/
  pow : Supply := {}
  /-- Thermal state of the dies, by site, and the coolant (R335 to R345). -/
  therm : Tbl Therm := []
  coolant : Coolant := {}
deriving DecidableEq, Repr

/-- Reasons a command stops the block. No command of this model stops with one: every command has an effect
or changes nothing. -/
inductive Fault where
  /-- No command raises it; kept so that the type is inhabited. Safe: a run that stopped here would prove
  nothing about later states. -/
  | unreachable
deriving DecidableEq, Repr

/-- Reasons a command has no meaning. -/
inductive Refusal where
  /-- Raised by an arm of `exec` whose command has no meaning yet. Safe: nothing is claimed of it. -/
  | notModelled (mnemonic : String)
deriving DecidableEq, Repr

/-- The module after reset, before start-up. -/
def State.reset : State := {}

end Sys2Proof.Machine
end

