-- ==== Sys2Proof/Machine/Ops.lean ====
section
/-! DEFINITION. The operations every family shares: dictionary values, unit tables, sending, fault messages,
CONTROL functions and changes named for a frame boundary. -/
namespace Sys2Proof.Machine

/-! Sites (R15). -/

def siteCD (n : Nat) : Nat := 8 + n
def siteKD (n : Nat) : Nat := 24 + n
def siteMD (n : Nat) : Nat := 40 + n
def siteFD (n : Nat) : Nat := 64 + n
def siteHD (n : Nat) : Nat := 72 + n
def siteBA (n : Nat) : Nat := 74 + n
def siteLC (n : Nat) : Nat := 76 + n
def siteOS (n : Nat) : Nat := 86 + n
def sitePS (n : Nat) : Nat := 88 + n

/-- The kinds of die a site can call for (R15 Table 3). -/
inductive DieKind where
  | bt | cd | kd | md | fd | hd | ba | lc | os | ps
deriving DecidableEq, Repr

/-- The kind and the number of the die at a site. -/
def siteKind (s : Nat) : Option (DieKind × Nat) :=
  if s < 8 then some (.bt, s)
  else if s < 24 then some (.cd, s - 8)
  else if s < 40 then some (.kd, s - 24)
  else if s < 64 then some (.md, s - 40)
  else if s < 72 then some (.fd, s - 64)
  else if s < 74 then some (.hd, s - 72)
  else if s < 76 then some (.ba, s - 74)
  else if s < 86 then some (.lc, s - 76)
  else if s < 88 then some (.os, s - 86)
  else if s < 100 then some (.ps, s - 88)
  else none

/-- The base tile a site stands on (R14 Table 2, R15 Table 3). -/
def siteTile (s : Nat) : Nat :=
  match siteKind s with
  | some (.bt, n) => n
  | some (.cd, n) => n / 2
  | some (.kd, n) => n / 2
  | some (.md, n) => n / 3
  | some (.fd, n) => n
  | some (.hd, n) => if n = 0 then 3 else 4
  | some (.ba, n) => if n = 0 then 0 else 7
  | some (.lc, n) => if n < 8 then n else if n = 8 then 0 else 7
  | some (.os, n) => if n = 0 then 0 else 7
  | some (.ps, n) =>
    if n = 0 then 0 else if n = 1 ∨ n = 2 then 1 else if n = 3 ∨ n = 4 then 2 else if n = 5 then 3
    else if n = 6 then 4 else if n = 7 ∨ n = 8 then 5 else if n = 9 ∨ n = 10 then 6 else 7
  | none => 0

/-- The site of the die that holds an internal port or external link end, and the port's number there (R103). -/
def portSite (p : Nat) : Nat × Nat :=
  if p < 192 then (siteCD (p / 12), p % 12)
  else if p < 312 then (siteMD ((p - 192) / 5), (p - 192) % 5)
  else if p < 344 then (siteFD ((p - 312) / 4), (p - 312) % 4)
  else if p < 348 then (siteHD ((p - 344) / 2), (p - 344) % 2)
  else if p < 350 then (siteBA (p - 348), 0)
  else (siteFD ((p - 350) / 2), (p - 350) % 2)

/-- The base tile of a port. -/
def portTile (p : Nat) : Nat := siteTile (portSite p).1

/-- The internal ports of a site (R9, R103). -/
def sitePorts (s : Nat) : List Nat := (List.range 350).filter (fun p => (portSite p).1 == s)

/-! Dictionary values (R401). -/

/-- Value of a dictionary object or counter. -/
def dval (s : State) (code : Nat) : Nat := (tget dictDefault s.dict code).toNat

/-- Set a dictionary value. -/
def dset (s : State) (code : Nat) (v : Nat) : State :=
  { s with dict := tset dictDefault s.dict code (BitVec.ofNat 64 v) }

/-- Add to a counter, which wraps at 2^64. -/
def bump (s : State) (code : Nat) (n : Nat := 1) : State :=
  { s with dict := tset dictDefault s.dict code (tget dictDefault s.dict code + BitVec.ofNat 64 n) }

/-- A value of BLOB type kept in the dictionary, of a known length; none listed is all zero. -/
def blobAt (s : State) (code len : Nat) : List Byte := slice (tget (fun _ => []) s.blobs code) 0 len

def setBlob (s : State) (code : Nat) (bs : List Byte) : State :=
  { s with blobs := tset (fun _ => []) s.blobs code (if bs.all (· == 0) then [] else bs) }

/-- Raise a high-water mark. -/
def raiseMax (s : State) (code : Nat) (v : Nat) : State := if dval s code < v then dset s code v else s

/-! Unit tables. -/

/-- A tile at reset: SR_SEED is 64 n + t + 1 for CDn.Tt (R44). -/
def tileReset (k : Nat) : Tile :=
  { mq := { srSeed := BitVec.ofNat 64 (k + 1) }, store := { seed := k }, deep := { seed := 1024 + k } }

/-- A store whose contents are lost anew: its undefined bytes are free again (R72, R74). -/
def lostStore (ctr place : Nat) : Store := { seed := 2048 * (ctr + 1) + place }

def tileAt (s : State) (k : Nat) : Tile := tget tileReset s.tiles k
def setTile (s : State) (k : Nat) (t : Tile) : State := { s with tiles := tset tileReset s.tiles k t }
def updTile (s : State) (k : Nat) (f : Tile → Tile) : State := setTile s k (f (tileAt s k))

/-- Key of tile CDn.Tt. -/
def tkey (cd : Fin 16) (t : Fin 64) : Nat := 64 * cd.val + t.val

def dieAt (s : State) (n : Nat) : ComputeDie := tget (fun _ => {}) s.dies n
def setDie (s : State) (n : Nat) (d : ComputeDie) : State := { s with dies := tset (fun _ => {}) s.dies n d }
def inflAt (s : State) (p : Nat) : Inflater := tget (fun _ => {}) s.infl p
def setInfl (s : State) (p : Nat) (i : Inflater) : State := { s with infl := tset (fun _ => {}) s.infl p i }
def portAt (s : State) (p : Nat) : PortSt := tget (fun _ => {}) s.ports p
def setPort (s : State) (p : Nat) (v : PortSt) : State := { s with ports := tset (fun _ => {}) s.ports p v }
def updPort (s : State) (p : Nat) (f : PortSt → PortSt) : State := setPort s p (f (portAt s p))
def btAt (s : State) (n : Nat) : BaseTile := tget (fun _ => {}) s.bts n
def setBt (s : State) (n : Nat) (v : BaseTile) : State := { s with bts := tset (fun _ => {}) s.bts n v }
def updBt (s : State) (n : Nat) (f : BaseTile → BaseTile) : State := setBt s n (f (btAt s n))
def stackAt (s : State) (n : Nat) : Stack := tget (fun _ => {}) s.dramStacks n
def setStack (s : State) (n : Nat) (v : Stack) : State := { s with dramStacks := tset (fun _ => {}) s.dramStacks n v }
def updStack (s : State) (n : Nat) (f : Stack → Stack) : State := setStack s n (f (stackAt s n))

/-- Domain of a state table (R322 Table 2). -/
def domAt (s : State) (d : Nat) : DomSt := tget (fun _ => .off) s.domains d
def setDom (s : State) (d : Nat) (v : DomSt) : State := { s with domains := tset (fun _ => .off) s.domains d v }
/-- Add a position to those received. -/
def addPos (ps : List Nat) (p : Nat) : List Nat := if ps.contains p then ps else ps ++ [p]

/-- The site of the die a domain feeds; of a port bank, its base tile. -/
def domSite (d : Nat) : Nat :=
  if d < 16 then siteCD d else if d < 32 then siteKD (d - 16) else if d < 56 then siteMD (d - 32)
  else if d < 72 then (d - 56) / 2 else if d < 80 then siteFD (d - 72) else if d < 82 then siteHD (d - 80) else siteLC (d - 82)

/-- A domain begins to wake from Off. Its die has no valid time (R307). A wake of a cache die takes DEEP_STORE_MODE as it stands
now (R76). -/
def wakeFromOff (s : State) (d : Nat) : State :=
  let s := setDom s d (.turningOn .off)
  let s := if 56 ≤ d ∧ d < 72 then s else { s with mt := { s.mt with unset := addPos s.mt.unset (domSite d) } }
  if 16 ≤ d ∧ d < 32 then
    { s with wakeClears := s.wakeClears.filter (· != d - 16) ++ (if dval s Obj.deepStoreMode = 1 then [d - 16] else []) }
  else s
def domCD (n : Nat) : Nat := n
def domKD (n : Nat) : Nat := 16 + n
def domMD (n : Nat) : Nat := 32 + n
def domBank (bt b : Nat) : Nat := 56 + 2 * bt + b
def domFD (n : Nat) : Nat := 72 + n
def domHD (n : Nat) : Nat := 80 + n
def domLC (n : Nat) : Nat := 82 + n

/-! Sending and receiving. -/

/-- Put something on its way. -/
def emit (s : State) (o : Output) : State := { s with sent := s.sent ++ [o] }

/-- Take a delivered message from what is on its way. -/
def deliver (s : State) (o : Output) : State := { s with sent := s.sent.erase o }

/-! The signal network's paths (R89, R90, R94, R95). -/

/-- The hub link of a site is in service; a base tile holds its hub. -/
def hubUp (s : State) (site : Nat) : Bool := decide (site < 8) || !s.sigDown.contains site

/-- A ring segment is out of service: clockwise from BTi at 2i, anticlockwise at 2i + 1; it failed, or its base tile's comb is dark. -/
def segmentOut (s : State) (i : Nat) : Bool := s.sigDown.contains (128 + i) || s.sigDark.contains (i / 2)

/-- Are the ring segments of one direction in service from one hub to another, `n` segments on? -/
def ringUp (s : State) (cw : Bool) (from_ n : Nat) : Bool :=
  (List.range n).all (fun i => !segmentOut s (if cw then 2 * ((from_ + i) % 8) else 2 * ((from_ + 8 - i) % 8) + 1))

/-- A packet can pass from one site to another: both hub links are in service, and the ring in one of its directions. -/
def sigPath (s : State) (a b : Nat) : Bool :=
  let x := siteTile a
  let y := siteTile b
  hubUp s a && hubUp s b && (ringUp s true x ((y + 8 - x) % 8) || ringUp s false x ((x + 8 - y) % 8))

/-- Packets of one type from one site to another arrive in the order they were sent (R209): of those on their way, this is the first. A
packet that none of them is may come (DESIGN CHOICE, log 106). -/
def sigNext (s : State) (p : SigPacket) : Bool :=
  match s.sent.find? (fun o => match o with | .sig q => q.src == p.src && q.dst == p.dst && q.ptype == p.ptype | _ => false) with
  | some (.sig q) => q == p || !s.sent.contains (.sig p)
  | _ => true

/-- A packet reaches a die and its latency joins the high-water mark of R94: how long it took is free, within the bound of R94. -/
def sigArrive (s : State) (p : SigPacket) : State :=
  let bound := if (List.range 16).any (segmentOut s) then 580 else 400
  let s' := deliver s (.sig p)
  { raiseMax s' Obj.sigLatencyMax (1 + (Config.freeWord s.freeCtr 0x732003).toNat % bound) with freeCtr := s.freeCtr + 1 }

/-! Fault messages. -/

/-- The 64 bits of a fault message (R347 Table 1). -/
def faultEnc (m : FaultMsg) : Word :=
  m.site ++ m.block ++ m.kind ++ m.severity ++ BitVec.ofBool m.poison ++ m.detail

/-- A fault message from its 64 bits. -/
def faultDec (w : Word) : FaultMsg :=
  { site := w.extractLsb' 57 7, block := w.extractLsb' 52 5, kind := w.extractLsb' 44 8,
    severity := w.extractLsb' 41 3, poison := w.getLsbD 40, detail := w.extractLsb' 0 40 }

/-- Does a kind repeat (R349 Table 4)? -/
def kindRepeats (k : Nat) : Bool :=
  [0x02, 0x10, 0x19, 0x1A, 0x1B, 0x1D, 0x20, 0x2B, 0x40, 0x49].contains k

/-- Site of the active barista. -/
def activeSite (s : State) : Nat := siteBA s.active.val

/-- The FAULT packet that carries a message (R91 Table 8 type 0x9). -/
def faultPacket (dst : Nat) (m : FaultMsg) (rep : Bool) : SigPacket :=
  { dst := BitVec.ofNat 7 dst, src := m.site, vc := 2, ptype := 9, len := 1, poison := false,
    fields := BitVec.ofNat 40 (b2n rep), payload := [faultEnc m] }

/-- A block raises a message: it leaves in a FAULT packet for the active barista, and a repeating kind is kept at
its source (R347, R349); a message the active barista raises itself waits in its own queue (R350). -/
def raiseMsg (s : State) (m : FaultMsg) : State :=
  let s := if kindRepeats m.kind.toNat then
      { s with faults := { s.faults with
          repeaters := s.faults.repeaters ++ [{ site := m.site.toNat, msg := m, sentAt := s.ticks }] } }
    else s
  if m.site.toNat = activeSite s ∧ (m.block = 0x11 ∨ m.block = 0x12) then
    { s with faults := { s.faults with internal := s.faults.internal ++ [m] } }
  else emit s (.sig (faultPacket (siteBA s.named.val) m false))

/-- Raise a message given by its fields. -/
def raise (s : State) (site block kind sev : Nat) (poison : Bool) (detail : Nat) : State :=
  raiseMsg s { site := BitVec.ofNat 7 site, block := BitVec.ofNat 5 block, kind := BitVec.ofNat 8 kind,
               severity := BitVec.ofNat 3 sev, poison := poison, detail := BitVec.ofNat 40 detail }

/-- DETAIL in port form (R349 Table 4): port index, line, slot. -/
def portForm (p line slot : Nat) : Nat := p % 512 + (line % 64) * 512 + (slot % 64) * 32768

/-! CONTROL functions. -/

/-- A CONTROL packet (R126: flit 1 carries SEQ and the function field). -/
def ctrlPacket (src dst func : Nat) (seq : BitVec 32) (field : Nat) (later : List Word) : SigPacket :=
  { dst := BitVec.ofNat 7 dst, src := BitVec.ofNat 7 src, vc := 2, ptype := 8,
    len := BitVec.ofNat 3 (1 + later.length), poison := false, fields := BitVec.ofNat 40 (func * 2 ^ 32),
    payload := (BitVec.ofNat 32 field ++ seq) :: later }

def roleOf (s : State) (n : Nat) : BaristaRole := if n = 0 then s.role0 else s.role1
def setRole (s : State) (n : Nat) (r : BaristaRole) : State :=
  if n = 0 then { s with role0 := r } else { s with role1 := r }
/-- A barista is heard: its silence latch is open (R375). -/
def outputsOpen (s : State) (n : Nat) : Bool := roleOf s n != .silent && roleOf s n != .dead

/-- The active barista sends a CONTROL function: numbered consecutively, copied first to the standby when it is
for one site, and sent again by a standby in role 1 (R378). -/
def ctrlSend (s : State) (dst func field : Nat) (later : List Word := []) : State :=
  if roleOf s s.active.val ≠ .active then s else
  let seq := s.ctrlSeq + 1
  let s := { s with ctrlSeq := seq }
  let me := activeSite s
  let other := siteBA (1 - s.active.val)
  let p := ctrlPacket me dst func seq field later
  let copy : SigPacket := { p with dst := BitVec.ofNat 7 other,
                                   fields := BitVec.ofNat 40 (func * 2 ^ 32 + 128 + dst) }
  let s := if dst = 0x7F then s else emit s (.sig copy)
  let s := emit s (.sig p)
  if roleOf s (1 - s.active.val) = .standby then emit s (.sig (ctrlPacket other dst func seq field later)) else s

/-- Any other die sends a CONTROL function, numbered by its own count (R379). -/
def ctrlSendFrom (s : State) (src dst func field : Nat) (later : List Word := []) : State :=
  let seq := tget (fun _ => 0) s.srcSeq src + 1
  emit { s with srcSeq := tset (fun _ => 0) s.srcSeq src seq } (.sig (ctrlPacket src dst func seq field later))

/-- The switched domain that feeds a die, if one does (R322 Table 2). -/
def siteDomain (site : Nat) : Option Nat :=
  match siteKind site with
  | some (.cd, n) => some (domCD n)
  | some (.kd, n) => some (domKD n)
  | some (.md, n) => some (domMD n)
  | some (.fd, n) => some (domFD n)
  | some (.hd, n) => some (domHD n)
  | some (.lc, n) => some (domLC n)
  | _ => none

/-- A die hears the signal network: its domain has power. -/
def dieHears (s : State) (site : Nat) : Bool :=
  match siteDomain site with
  | some d => domAt s d == .on || domAt s d == .selfRefresh || domAt s d == .ringKeep
  | none => true

/-- A die's window takes or discards a CONTROL number (R379). -/
def winAccept (w : Option CtrlWin) (seq : BitVec 32) : Bool × Option CtrlWin :=
  match w with
  | none => (true, some { h := seq, seen := [seq.toNat] })
  | some w =>
    let d := (seq - w.h).toNat
    if 1 ≤ d ∧ d < 2 ^ 31 then
      (true, some { h := seq, seen := seq.toNat :: w.seen.filter (fun n => decide ((seq - BitVec.ofNat 32 n).toNat < 1024)) })
    else if (w.h - seq).toNat < 1024 ∧ !w.seen.contains seq.toNat then
      (true, some { w with seen := seq.toNat :: w.seen })
    else (false, some w)

/-- A site that has power and that the sender's signal path reaches receives a CONTROL packet: accepted, or discarded and counted (R90, R379). Packets
whose SRC is not a barista are not checked. -/
def ctrlTake (s : State) (site : Nat) (src : BitVec 7) (seq : BitVec 32) : Bool × State :=
  if !sigPath s src.toNat site ∨ !dieHears s site then (false, s)
  else if src = 74 ∨ src = 75 then
    let r := winAccept (tget (fun _ => none) s.ctrlWin site) seq
    let s := { s with ctrlWin := tset (fun _ => none) s.ctrlWin site r.2 }
    if r.1 then (true, s) else (false, bump s Obj.ctrlDuplicates)
  else (true, s)

/-- Has a die accepted a packet of a barista since its reset or power-up? -/
def winKnown (s : State) (site : Nat) : Bool := (tget (fun _ => none) s.ctrlWin site).isSome

/-- Every die receives a broadcast CONTROL packet (R379). It acts unless every die that has heard the baristas before discards it: a die just
powered up accepts its first packet whatever its number, and a repeat that it alone accepts changes nothing. -/
def ctrlTakeAll (s : State) (src : BitVec 7) (seq : BitVec 32) : Bool × State :=
  let any := (List.range 100).any (winKnown s) && (src == 74 || src == 75)
  (List.range 100).foldl (fun r site => let q := ctrlTake r.2 site src seq; (r.1 || (q.1 && (!any || winKnown s site)), q.2)) (false, s)

/-! Frame boundaries (R115). -/

/-- The first frame boundary at least `d` nanoseconds after now. -/
def boundaryAfter (s : State) (d : Nat) : Word :=
  BitVec.ofNat 64 (cdiv (s.now.toNat + d) 1024 * 1024)

/-- Name a change for a boundary. -/
def schedule (s : State) (t : Word) (c : Change) : State := { s with changes := s.changes ++ [(t, c)] }

/-- Number of the running frame (R115). -/
def frameNo (s : State) : Nat := s.now.toNat / 1024

/-- Advance the model's counter of free values. -/
def bumpFree (s : State) : State := { s with freeCtr := s.freeCtr + 1 }

/-! Fences (R363). -/

def siteFenceAt (s : State) (site : Nat) : Option FenceSt := tget (fun _ => none) s.faults.siteFence site
def fencedSite (s : State) (site : Nat) : Bool := (siteFenceAt s site).isSome
def tileFenceAt (s : State) (k : Nat) : Option FenceSt := tget (fun _ => none) s.faults.tileFence k

/-- A tile is out of service: fenced, retired, or out with its die. -/
def tileOut (s : State) (k : Nat) : Bool :=
  (tileFenceAt s k).isSome || s.faults.retired.contains k || fencedSite s (siteCD (k / 64)) ||
  fencedSite s (siteKD (k / 64))

/-- The domain of the bank that powers a port (R322): bank 0 feeds the ports of a tile's compute dies, bank 1 the rest. -/
def portBank (p : Nat) : Nat :=
  domBank (portTile p) (match siteKind (portSite p).1 with | some (.cd, _) => 0 | _ => 1)

/-- A port has power: its bank is On, and its die is On, or a stack in self-refresh. -/
def portPowered (s : State) (p : Nat) : Bool :=
  domAt s (portBank p) == .on &&
  (match siteDomain (portSite p).1 with
   | some d => domAt s d == .on || domAt s d == .selfRefresh
   | none => true)

/-- PORT_STATE (R135 Table 16). -/
def portState (s : State) (p : Nat) : Nat :=
  if fencedSite s (portSite p).1 || (decide (p < 192) && fencedSite s (siteKD (p / 12))) then 3
  else if (portAt s p).failed then 1
  else if (portAt s p).unpowered || !portPowered s p then 2
  else 0

/-- A port carries light. -/
def portUp (s : State) (p : Nat) : Bool := portState s p == 0

/-- Core clocks since a tile's compute die started its clock: five in four nanoseconds, less those suppressed (R25, R303). -/
def tileClocks (s : State) (k : Nat) : Nat := 5 * (s.ticks - (dieAt s (k / 64)).clockFrom) / 4 - (tileAt s k).stretched

/-! Records for the carafe (R392, R398) and their mirror (R381). -/

/-- The standby is in role 1 and its partner has not lost it (R382, R388). -/
def standbyHere (s : State) : Bool :=
  roleOf s (1 - s.active.val) == .standby && !(tget (fun _ => {}) s.bars s.active.val : Barista).partnerLost

def carafeOf (s : State) (n : Nat) : Carafe := if n = 0 then s.carafe0 else s.carafe1
def setCarafe (s : State) (n : Nat) (c : Carafe) : State := if n = 0 then { s with carafe0 := c } else { s with carafe1 := c }

/-- The highest log NUMBER a barista holds. -/
def logHeld (s : State) (n : Nat) : Nat := (logHigh (carafeOf s n)).getD 0

/-- An acknowledgement flit: the highest journal SEQ and the highest log NUMBER held (R381). -/
def ackBytes (s : State) (n : Nat) : List Byte :=
  toLe 8 (if n = s.active.val then s.journal.next.toNat - 1 else s.mirror.held.toNat) ++ toLe 8 (logHeld s n)

/-- Put an item of some KIND into the BARISTA slots a barista sends its partner: flit 0 is their directory (R381 Table 3). Each of the
active's slots begins with its acknowledgement; the standby's hold nothing else. -/
def slotItem (s : State) (n kind : Nat) (bytes : List Byte) : State :=
  let key := 16 * siteBA n + 3
  let q := tget (fun _ => []) s.houseq key
  let flit := fun (bs : List Byte) => ({ data := (bs ++ List.replicate 64 0).take 64, poison := false } : Flit)
  let item := flit bytes
  let fresh := q ++ [(siteBA (1 - n), if kind = 3 then [flit [3], item] else [flit [3, BitVec.ofNat 8 kind], flit (ackBytes s n), item])]
  let q' := match q.getLast? with
    | none => fresh
    | some e =>
      match e.2 with
      | d :: fs => if fs.length < 25 then q.dropLast ++ [(e.1, { d with data := splice d.data fs.length [BitVec.ofNat 8 kind] } :: (fs ++ [item]))] else fresh
      | [] => fresh
  { s with houseq := tset (fun _ => []) s.houseq key q' }

/-- The active mirrors an item to the standby. -/
def mirrorItem (s : State) (kind : Nat) (bytes : List Byte) : State :=
  if standbyHere s then slotItem s s.active.val kind bytes else s

/-- A record joins the pending set, or waits for room when 2,048 are pending (R392). -/
def addRecord (s : State) (r : Rec) : State :=
  let j := s.journal
  if j.pending.length ≥ 2048 then { s with journal := { j with held := j.held ++ [r] } }
  else
    let r := { r with seq := j.next }
    mirrorItem { s with journal := { j with pending := j.pending ++ [r], next := j.next + 1 } } 1 (recBytes r)

/-- A class P or I record is created and mirrored at once; class I asks for a commit within 5 ms. -/
def queueRecord (s : State) (type key : Nat) (data : List Byte) (immediate : Bool := false) (part : Nat := 0) : State :=
  let s := addRecord s { type := type, part := part, key := key, seq := 0, data := data }
  if immediate then { s with journal := { s.journal with immediate := true } } else s

/-- A class C record waits for the next periodic commit; a newer value of one key replaces an older. -/
def queueClassC (s : State) (type key : Nat) (data : List Byte) (part : Nat := 0) : State :=
  let j := s.journal
  { s with journal := { j with classC := j.classC.filter (fun r => !(r.type == type && r.key == key && r.part == part)) ++
                                 [{ type := type, part := part, key := key, seq := 0, data := data }] } }

end Sys2Proof.Machine
end

