-- ==== Sys2Proof/Machine/Store.lean ====
section
/-! DEFINITION. Reading and writing tile stores and deep stores (R67, R72, R73, R76). -/
namespace Sys2Proof.Machine

def storeSize (deep : Bool) : Nat := if deep then 0x2000000 else 0x100000

/-- A byte as a read finds it: as last written; zero in a cleared store; otherwise undefined (R72), a free value that stands until the
store loses its contents again (R225). -/
def storeByte (st : Store) (a : Nat) : Byte :=
  match tfind st.bytes a with
  | some b => b
  | none => if st.cleared then 0 else Config.freeByte st.seed a

/-- Write one byte. A stored bit error of its word is gone (R72). -/
def storePut (st : Store) (a : Nat) (b : Byte) : Store :=
  { st with bytes := (if st.cleared ∧ b = 0 then tdel st.bytes a else tput st.bytes a b),
            errs := tdel st.errs (a / 8) }

/-- Write bytes from an address on. -/
def storePuts (st : Store) (a : Nat) : List Byte → Store
  | [] => st
  | b :: bs => storePuts (storePut st a b) (a + 1) bs

/-- Write listed bytes. -/
def storePutCells (st : Store) (cs : List Host.Cell) : Store := cs.foldl (fun st c => storePut st c.1 c.2) st

def markAt (st : Store) (line : Nat) : Bool := tget (fun _ => false) st.marks line
def setMark (st : Store) (line : Nat) (b : Bool) : Store :=
  { st with marks := tset (fun _ => false) st.marks line b }

/-- The lines a range of bytes touches. -/
def linesOf (a len : Nat) : List Nat :=
  if len = 0 then [] else (List.range ((a + len - 1) / 64 - a / 64 + 1)).map (· + a / 64)

/-- The 8 B words a range of bytes touches. -/
def wordsIn (a len : Nat) : List Nat :=
  if len = 0 then [] else (List.range ((a + len - 1) / 8 - a / 8 + 1)).map (· + a / 8)

/-- Marks after a write of a range (R72): data with poison marks its lines; a clean write of all 64 B of a line
clears the mark; a partial write leaves it. -/
def markWrite (st : Store) (a len : Nat) (poison : Bool) : Store :=
  (linesOf a len).foldl (fun st l =>
    if poison then setMark st l true
    else if a ≤ 64 * l ∧ 64 * l + 64 ≤ a + len then setMark st l false
    else st) st

/-- Write a range with its poison. -/
def storeWrite (st : Store) (a : Nat) (bs : List Byte) (poison : Bool) : Store :=
  markWrite (storePuts st a bs) a bs.length poison

/-- Has a word bytes that nothing has written since the store was switched on (R72)? -/
def wordUndef (st : Store) (w : Nat) : Bool :=
  !st.cleared && (List.range 8).any (fun i => (tfind st.bytes (8 * w + i)).isNone)

def errAt (st : Store) (w : Nat) : Nat := tget (fun _ => 0) st.errs w

/-- Does a read of a range consume poison (R60, R72)? Its line is marked, a word of it fails its check, or a word of
it is undefined and reads marked, which is free. -/
def storePoison (st : Store) (a len : Nat) : Bool :=
  (linesOf a len).any (markAt st) ||
  (wordsIn a len).any (fun w => decide (errAt st w ≥ 2) || (wordUndef st w && Config.freeBool st.seed (8 * w)))

/-- The bytes of a range. -/
def storeRead (st : Store) (a len : Nat) : List Byte :=
  (List.range len).map (fun i => storeByte st (a + i))

/-- The store of a tile. -/
def storeOf (t : Tile) (deep : Bool) : Store := if deep then t.deep else t.store
def withStore (t : Tile) (deep : Bool) (st : Store) : Tile := if deep then { t with deep := st } else { t with store := st }

/-- Core address of a byte of a store (Table 2 of chapter 2). -/
def coreAddr (deep : Bool) (a : Nat) : Nat := (if deep then 0x10000000 else 0) + a

/-- The store and the place in it that a core address names, for a range of `len` bytes; none outside Table 2. -/
def coreRange (a len : Nat) : Option (Bool × Nat) :=
  if a + len ≤ 0x100000 then some (false, a)
  else if 0x10000000 ≤ a ∧ a + len ≤ 0x12000000 then some (true, a - 0x10000000)
  else none

/-- The range of a core address as the vector unit reaches it: the tile store alone (R73). -/
def vecRange (a len : Nat) : Option (Bool × Nat) :=
  if a + len ≤ 0x100000 then some (false, a) else none

/-- A write to a tile's store; a reservation on a written 64 B line is lost (R26). -/
def tileWrite (t : Tile) (deep : Bool) (a : Nat) (bs : List Byte) (poison : Bool) : Tile :=
  let t := withStore t deep (storeWrite (storeOf t deep) a bs poison)
  match t.core.reservation with
  | some r =>
    if (linesOf (coreAddr deep a) bs.length).contains (r / 64) then { t with core := { t.core with reservation := none } }
    else t
  | none => t

/-- What a read does besides answering data (R72): single errors are corrected and counted, a double error
poison-marks its line and raises STORE_UNCORR. -/
def readEffects (s : State) (k : Nat) (deep : Bool) (a len : Nat) : State :=
  let st := storeOf (tileAt s k) deep
  let singles := (wordsIn a len).filter (fun w => errAt st w == 1)
  let doubles := (linesOf a len).filter (fun l =>
    !markAt st l && (List.range 8).any (fun i => decide (errAt st (8 * l + i) ≥ 2) && (wordsIn a len).contains (8 * l + i)))
  let s := if singles.isEmpty then s else bump s Obj.storeCorrected singles.length
  doubles.foldl (fun s l =>
    let s := updTile s k (fun t => withStore t deep (setMark (storeOf t deep) l true))
    raise s (siteCD (k / 64)) 0x01 0x08 3 true ((k % 64) * 2 ^ 34 + coreAddr deep (64 * l))) s

/-- The tile-store bytes that descriptors not known to be complete have written but not made visible (R46, R47). -/
def pendingWrites (t : Tile) : List (Nat × Host.Cell) := t.mq.started.flatMap (fun x => x.writes.map (fun c => (x.seed, c)))

/-- A tile-store byte read while such writes are outstanding: old or new, freely (R46). -/
def seenByte (now : Nat) (t : Tile) (a : Nat) : Byte :=
  match (pendingWrites t).reverse.find? (fun c => c.2.1 == a && decide ((Config.freeWord c.1 (0x40000000 + a)).toNat ≤ now)) with
  | some c => c.2.2
  | none => storeByte t.store a

/-- Bytes of a range of a tile's store as a reader other than the transfer path finds them. -/
def tileRead (now : Nat) (t : Tile) (deep : Bool) (a len : Nat) : List Byte :=
  if deep then storeRead t.deep a len else (List.range len).map (fun i => seenByte now t (a + i))

/-- A tile consumes poison (R60): TILE_POISON names the tile and the core address read. -/
def consumePoison (s : State) (k addr : Nat) : State :=
  raise s (siteCD (k / 64)) 0x01 0x01 6 true ((k % 64) * 2 ^ 34 + addr % 2 ^ 32)

end Sys2Proof.Machine
end

