-- ==== Sys2Proof/Machine/Dram.lean ====
section
/-! DEFINITION. Module DRAM: the local address map (R166 to R170, R197), the check code (R175 to R178), and reading
and writing lines of a stack. -/
namespace Sys2Proof.Machine

/-! The address map. -/

/-- Set of a stack (R167). -/
def setOf (m : Nat) : Nat := (m / 3 + m % 3) % 4

/-- Members of a set, by increasing stack number (R167 Table 3). -/
def setMembers (n : Nat) : List Nat := (List.range 24).filter (fun m => setOf m == n)

/-- 768 GiB. -/
def setSize : Nat := 0xC000000000

/-- Base of a set, if it is mapped (R166, R197). -/
def setBaseOf (s : State) (n : Nat) : Option Nat := (s.setBase.getD n none)

/-- The set an address lies in, mapped at this start-up. -/
def addrSet (s : State) (a : Nat) : Option Nat :=
  (List.range 4).find? (fun n => match setBaseOf s n with
    | some b => decide (b ≤ a ∧ a < b + setSize)
    | none => false)

/-- Number of one bits. -/
def popcount (n : Nat) : Nat := popc 64 n

/-- The stack and the offset in it that an address names (R168). -/
def mapAddr (s : State) (a : Nat) : Option (Nat × Nat) :=
  match addrSet s a with
  | none => none
  | some n =>
    let x := a - (setBaseOf s n).getD 0
    let g := x / 4096
    let q := g / 6
    let j := (g % 6 + popcount q % 6) % 6
    some ((setMembers n).getD j 0, q * 4096 + x % 4096)

/-- Is a set lost (R196)? -/
def setLostNow (s : State) (n : Nat) : Bool := s.setsLost.getLsbD n

/-- Follow a range from set to set: every set it enters is mapped and in service. -/
def inMappedGo (s : State) : Nat → Nat → Nat → Bool
  | 0, _, _ => false
  | fuel + 1, a, stop =>
    match addrSet s a with
    | none => false
    | some n =>
      !setLostNow s n && (decide (stop ≤ (setBaseOf s n).getD 0 + setSize) || inMappedGo s fuel ((setBaseOf s n).getD 0 + setSize) stop)

/-- A range lies wholly in mapped DRAM (R166, R197). -/
def inMapped (s : State) (a len : Nat) : Bool := inMappedGo s 4 a (a + len)

/-- A range touches addresses that hold nothing, or a deep-store name (R170). -/
def rangeRefused (s : State) (a len : Nat) : Bool :=
  let base := a / 4096 * 4096
  (List.range (cdiv (a - base + len) 4096)).any (fun i => (addrSet s (base + i * 4096)).isNone)

/-- A range touches a lost set (R196). -/
def rangeLost (s : State) (a len : Nat) : Bool :=
  let base := a / 4096 * 4096
  (List.range (cdiv (a - base + len) 4096)).any (fun i =>
    match addrSet s (base + i * 4096) with | some n => setLostNow s n | none => false)

/-- The stacks that hold a granule of a range, by increasing number. -/
def rangeStacks (s : State) (a len : Nat) : List Nat :=
  let base := a / 4096 * 4096
  let hit := (List.range (cdiv (a - base + len) 4096)).filterMap (fun i => (mapAddr s (base + i * 4096)).map (·.1))
  (List.range 24).filter (fun m => hit.contains m)

/-- Positions (in lines) of a range that lie on a stack. -/
def sharePositions (s : State) (m a lines : Nat) : List Nat :=
  (List.range lines).filter (fun i => match mapAddr s (a + 64 * i) with | some (k, _) => k == m | none => false)

/-! Offset decode (R169 Table 4). -/

def offChannel (o : Nat) : Nat := fld o 8 2
def offBank (o : Nat) : Nat := fld o 10 4 ^^^ fld o 20 4
def offRow (o : Nat) : Nat := fld o 20 17

/-- A physical row of a die: channel, bank and row together (R178). -/
def offRowKey (o : Nat) : Nat := (offChannel o * 16 + offBank o) * 131072 + offRow o

/-! The check code (R175): GF(2^32) with x^32 + x^22 + x^2 + x + 1. -/

/-- Multiplication by alpha. -/
def gfAlpha (x : BitVec 32) : BitVec 32 := (x <<< 1) ^^^ (if x.getLsbD 31 then 0x00400007 else 0)

/-- Multiplication by a power of alpha. -/
def gfAlphaPow : Nat → BitVec 32 → BitVec 32
  | 0, x => x
  | n + 1, x => gfAlphaPow n (gfAlpha x)

/-- Alpha to the power 40. -/
def alpha40 : BitVec 32 := gfAlphaPow 40 1

/-- Data symbol `i` of a line: bytes 4i to 4i + 3, the first least significant (R165). -/
def symbol (data : List Byte) (i : Nat) : BitVec 32 := BitVec.ofNat 32 (leAt data (4 * i) 4)

def checkP (data : List Byte) : BitVec 32 := (List.range 16).foldl (fun x i => x ^^^ symbol data i) 0
def checkQ (data : List Byte) : BitVec 32 := (List.range 16).foldl (fun x i => x ^^^ gfAlphaPow i (symbol data i)) 0

/-- What a line decodes to (R176 Table 6). -/
inductive LineState where
  | clean
  | poison
  | corrected (die : Fin 18)
  | uncorrectable (fits : Option (Fin 18))
deriving DecidableEq, Repr

/-- The die whose single error a pair of syndromes fits. -/
def fitDie (s0 s1 : BitVec 32) : Option (Fin 18) :=
  if s0 ≠ 0 ∧ s1 ≠ 0 then
    match (List.finRange 16).find? (fun i => gfAlphaPow i.val s0 == s1) with
    | some i => some (i.castLE (by omega))
    | none => none
  else if s0 ≠ 0 then some 16
  else if s1 ≠ 0 then some 17
  else none

/-- Decode by syndromes, with at most one die marked (R176 Table 6). -/
def decodeSyn (marked : Option (Fin 18)) (s0 s1 : BitVec 32) : LineState :=
  if s0 = 0 ∧ s1 = 0 then .clean
  else if s0 = 1 ∧ s1 = alpha40 then .poison
  else match fitDie s0 s1 with
    | some i => match marked with
      | none => .corrected i
      | some m => if i = m then .corrected i else .uncorrectable (some i)
    | none => .uncorrectable none

/-- A line in the write-back buffer of the atomic unit: every access to it is served from there (R187). -/
def bufLineAt (st : Stack) (l : Nat) : Option BufLine := st.lineBuf.find? (fun b => b.line == l)

/-- Stored data of a line of a stack; an unlisted byte is zero (R179). -/
def lineBytes (st : Stack) (l : Nat) : List Byte :=
  match bufLineAt st l with
  | some b => b.data
  | none => (List.range 64).map (fun i => (tfind st.bytes (64 * l + i)).getD 0)

def lineCheck (st : Stack) (l : Nat) : Word := tget (fun _ => 0) st.check l

/-- The syndromes of a stored line (R175). -/
def lineSyn (st : Stack) (l : Nat) : BitVec 32 × BitVec 32 :=
  let d := lineBytes st l
  let c := lineCheck st l
  (c.extractLsb' 0 32 ^^^ checkP d, c.extractLsb' 32 32 ^^^ checkQ d)

def lineState (st : Stack) (l : Nat) : LineState :=
  match bufLineAt st l with
  | some b => if b.poison then .poison else .clean
  | none =>
    let y := lineSyn st l
    decodeSyn (st.marked) y.1 y.2

/-- Correct a data symbol. -/
def fixSymbol (data : List Byte) (die : Nat) (s0 : BitVec 32) : List Byte :=
  if die < 16 then splice data (4 * die) (toLe 4 (symbol data die ^^^ s0).toNat) else data

/-- What a read delivers: the data, corrected where the line is, and whether it is poison-marked (R176). -/
def lineRead (st : Stack) (l : Nat) : List Byte × Bool :=
  match lineState st l with
  | .clean => (lineBytes st l, false)
  | .poison => (lineBytes st l, true)
  | .corrected i => (fixSymbol (lineBytes st l) i.val (lineSyn st l).1, false)
  | .uncorrectable _ => (lineBytes st l, true)

/-- Store one byte, keeping zero bytes unlisted. -/
def cellPut (cs : List Host.Cell) (a : Nat) (b : Byte) : List Host.Cell := tset (fun _ => (0 : Byte)) cs a b

/-- Store bytes from an address on. -/
def cellPuts (cs : List Host.Cell) (a : Nat) : List Byte → List Host.Cell
  | [] => cs
  | b :: bs => cellPuts (cellPut cs a b) (a + 1) bs

/-- Store a whole line in the stack's DRAM with its check symbols; poison-marked lines store P xor 1 and Q xor alpha^40 (R175). -/
def lineStore (st : Stack) (l : Nat) (data : List Byte) (poison : Bool) : Stack :=
  let d := slice data 0 64
  let p := if poison then checkP d ^^^ 1 else checkP d
  let q := if poison then checkQ d ^^^ alpha40 else checkQ d
  { st with bytes := cellPuts st.bytes (64 * l) d, check := tset (fun _ => 0) st.check l (q ++ p) }

/-- Write a whole line: into the write-back buffer where it is there, else into the DRAM (R187). -/
def lineWrite (st : Stack) (l : Nat) (data : List Byte) (poison : Bool) : Stack :=
  match bufLineAt st l with
  | some _ => { st with lineBuf := st.lineBuf.map (fun b => if b.line = l then { b with data := slice data 0 64, poison := poison } else b) }
  | none => lineStore st l data poison

/-- Buffered lines go back to the DRAM (R187). -/
def bufBack (st : Stack) (bs : List BufLine) : Stack := bs.foldl (fun st b => lineStore st b.line b.data b.poison) st

/-- The atomic unit takes a line into its buffer; past 256 lines the one longest unused is written back (R187). DESIGN CHOICE (log 109):
which line is evicted is not stated. -/
def bufTake (st : Stack) (b : BufLine) : Stack :=
  let bs := b :: st.lineBuf.filter (fun x => x.line != b.line)
  { bufBack st (bs.drop 256) with lineBuf := bs.take 256 }

/-- The whole buffer is written back (R187, R191). -/
def bufFlush (st : Stack) : Stack := { bufBack st st.lineBuf with lineBuf := [] }

/-! Effects of reading and writing at a memory base die. -/

/-- A stack works: powered, not failed, not in self-refresh (R191, R195). -/
def stackWorks (s : State) (m : Nat) : Bool :=
  let st := stackAt s m
  !st.failed && !st.selfRefresh && !st.off && !fencedSite s (siteMD m)

/-- A stack takes requests: it works, is not on its way to self-refresh, and its set is not lost (R191, R195, R196). -/
def stackServes (s : State) (m : Nat) : Bool := stackWorks s m && !(stackAt s m).closing && !setLostNow s (setOf m)

/-- A stack that finishes its requests before self-refresh enters it when none is left, its line buffer written back (R191). -/
def settleStack (s : State) (m : Nat) : State :=
  if (stackAt s m).closing && (stackAt s m).held.isEmpty && (stackAt s m).bankWait.isEmpty then
    updStack s m (fun st => { bufFlush st with selfRefresh := true, closing := false, txq := [] })
  else s

/-- A stack that has failed by a row of Table 14 serves and answers nothing: what it holds and has queued is gone (R195). -/
def stackOut (row : Nat) (st : Stack) : Stack :=
  { st with failed := true, failRow := row, held := [], txq := [], lineBuf := [], bankWait := [], repairing := none }

/-- A stack fails (R195): the condition is a row of Table 14, 1 to 5. -/
def stackFail (s : State) (m row : Nat) : State :=
  if (stackAt s m).failed then s
  else
    let s := updStack s m (stackOut row)
    raise s (siteMD m) 0x05 0x2B 5 false (m + row * 32)

/-- The local address of a line of a stack (R168 inverted), for fault messages. -/
def stackAddr (s : State) (m o : Nat) : Nat :=
  let n := setOf m
  let q := o / 4096
  let j := (setMembers n).idxOf m
  let r := (j + 6 - popcount q % 6) % 6
  (setBaseOf s n).getD 0 + (6 * q + r) * 4096 + o % 4096

/-- DETAIL with a line address (R348). -/
def lineDetail (a : Nat) : Nat := a / 64 % 2 ^ 38

/-- Rows of a die counted in this pass. -/
def passCount (st : Stack) (die : Nat) : Nat := (st.passRows.filter (fun r => r.die == die)).length

/-- A corrected line counts toward its row's repair: corrections in two scrub passes, or on 16 lines of one, make the row a candidate,
once (R193). -/
def creditRow (st : Stack) (row : DieRow) (l : Nat) : Stack :=
  let hits := (st.rowHits.find? (fun h => h.at_ == row)).getD { at_ := row, lines := [], earlier := false, judged := false }
  let hits := if hits.lines.contains l then hits else { hits with lines := hits.lines ++ [l] }
  let cand := (hits.earlier || decide (hits.lines.length ≥ 16)) && !hits.judged && st.repairing != some row
  { st with rowHits := st.rowHits.filter (fun h => h.at_ != row) ++ [{ hits with judged := hits.judged || cand }]
            candidates := if cand then st.candidates ++ [row] else st.candidates }

/-- A line is attributed to a die and counts toward the die's mark condition (R178). A `corrected` line counts for STACK_DIE_CORRECTED and
toward the row's repair (R193); one that only the mark makes uncorrectable does not. -/
def creditDie (s : State) (m l : Nat) (die : Fin 18) (corrected : Bool) : State :=
  let st := stackAt s m
  let row : DieRow := { die := die.val, row := offRowKey (64 * l) }
  let c := tget (fun _ => 0) st.dieCorrected die.val
  let st := if corrected then
      creditRow { st with dieCorrected := tset (fun _ => 0) st.dieCorrected die.val (if c = 0xFFFFFFFF then c else c + 1) } row l
    else st
  let fresh := !st.passRows.contains row
  let st := if fresh then { st with passRows := st.passRows ++ [row] } else st
  let s := setStack s m st
  let limit := dval s Obj.memMarkLimit
  if fresh ∧ passCount st die.val ≥ limit then
    match st.marked with
    | none =>
      queueRecord (raise (setStack s m { st with marked := some die }) (siteMD m) 0x05 0x29 4 false
        (die.val + offChannel (64 * l) * 32)) 0x0031 m [BitVec.ofNat 8 die.val]
    | some d => if d = die then s else stackFail s m 3
  else s

/-- An uncorrectable line is counted (R176), and toward the stack's failure (R195 Table 14). -/
def countUncorr (s : State) (m l : Nat) : State :=
  let s := bump s Obj.linesUncorrectable
  let st := stackAt s m
  let recent := (st.badLines.filter (fun e => decide (s.ticks < e.2 + 10000000000)))
  let st := { st with uncorrectable := st.uncorrectable + 1, badLines := tput recent l s.ticks }
  let s := setStack s m st
  let s := raise s (siteMD m) 0x05 0x28 3 true (lineDetail (stackAddr s m (64 * l)))
  if st.badLines.length ≥ dval s Obj.memStackFailLimit then stackFail s m 4 else s

/-- What a read of a line does besides delivering it (R176, R178). A line whose syndromes fit another die than the
marked one is uncorrectable and still attributed. -/
def lineReadEffects (s : State) (m l : Nat) : State :=
  match lineState (stackAt s m) l with
  | .corrected i => creditDie (bump s Obj.linesCorrected) m l i true
  | .uncorrectable f =>
    let s := countUncorr s m l
    match f with | some i => creditDie s m l i false | none => s
  | _ => s

/-- A line is written at a stack's order point; poison-marked writes are counted (R177). -/
def memWriteLine (s : State) (m l : Nat) (data : List Byte) (poison : Bool) : State :=
  let s := updStack s m (fun st => lineWrite st l data poison)
  if poison then bump s Obj.poisonWrites else s

/-- A partial write merges into the line as read; the result is poison-marked when the line was, or the data is
(R177). -/
def memMerge (s : State) (m l at_ : Nat) (data : List Byte) (poison : Bool) : State :=
  if data.length = 64 then memWriteLine s m l data poison
  else
    let r := lineRead (stackAt s m) l
    memWriteLine (lineReadEffects s m l) m l (splice r.1 at_ data) (poison || r.2)

/-- Bytes of module DRAM at an address, as a read delivers them, with poison; unmapped bytes read as poison. -/
def dramLine (s : State) (a : Nat) : List Byte × Bool :=
  match mapAddr s a with
  | some (m, o) => lineRead (stackAt s m) (o / 64)
  | none => (List.replicate 64 0, true)

/-- Read `n` lines of module DRAM from a 64 B-aligned address. -/
def dramLines (s : State) (a n : Nat) : List (List Byte × Bool) := (List.range n).map (fun i => dramLine s (a + 64 * i))

/-- Read a byte range of module DRAM. -/
def dramBytes (s : State) (a len : Nat) : List Byte :=
  let base := a / 64 * 64
  slice ((dramLines s base (cdiv (a - base + len) 64)).flatMap (·.1)) (a - base) len

/-- Write a byte range of module DRAM, line by line, each part merged into its line, on the stacks that `takes` allows. -/
def dramWriteGo (takes : State → Nat → Bool) : Nat → State → Nat → List Byte → Bool → State
  | 0, s, _, _, _ => s
  | k + 1, s, a, bs, poison =>
    if bs.isEmpty then s
    else
      let n := min bs.length (64 - a % 64)
      let s := match mapAddr s a with
        | some (m, o) => if takes s m then memMerge s m (o / 64) (a % 64) (bs.take n) poison else s
        | none => s
      dramWriteGo takes k s (a + n) (bs.drop n) poison

def dramWrite (s : State) (a : Nat) (bs : List Byte) (poison : Bool) : State :=
  dramWriteGo stackServes (bs.length / 64 + 2) s a bs poison

/-- Reading a range has the effects of reading each of its lines (R176, R178). -/
def rangeReadEffects (s : State) (a len : Nat) : State :=
  (linesOf a len).foldl (fun s l => match mapAddr s (64 * l) with
    | some (m, o) => lineReadEffects s m (o / 64)
    | none => s) s

/-- Lines of a range that poison stops: poison-marked, uncorrectable or lost (R284). -/
def rangePoison (s : State) (a len : Nat) : Bool :=
  rangeLost s a len || (linesOf a len).any (fun l => (dramLine s (64 * l)).2)

end Sys2Proof.Machine
end

