-- ==== Sys2Proof/Machine/Float.lean ====
section
/-! DEFINITION. Exact binary floating point: values as sign, magnitude and power of two; one rounding at the
end. Used by the matrix engine (R52 to R57), the mesh and memory adders (R87, R181) and the control core
and vector unit (R26, R28: IEEE 754). -/
namespace Sys2Proof.Machine

/-- A decoded value. `fin neg m e` is `(-1)^neg * m * 2^e`; zero keeps its sign. -/
inductive FV where
  | nan
  | inf (neg : Bool)
  | fin (neg : Bool) (m : Nat) (e : Int)
deriving DecidableEq, Repr

/-- How a format spends its largest exponent (R31 Table 4). -/
inductive Special where
  | ieee   -- infinities and NaNs
  | one    -- E4M3: a single NaN pattern, no infinity
  | none   -- no infinity, no NaN
deriving DecidableEq, Repr

/-- A binary format: exponent bits, mantissa bits, bias. -/
structure Fmt where
  ebits : Nat
  mbits : Nat
  bias : Nat
  special : Special
deriving DecidableEq, Repr

def fmtF64 : Fmt := ⟨11, 52, 1023, .ieee⟩
def fmtF32 : Fmt := ⟨8, 23, 127, .ieee⟩
def fmtBF16 : Fmt := ⟨8, 7, 127, .ieee⟩
def fmtF16 : Fmt := ⟨5, 10, 15, .ieee⟩
def fmtE4M3 : Fmt := ⟨4, 3, 7, .one⟩
def fmtE5M2 : Fmt := ⟨5, 2, 15, .ieee⟩
def fmtE2M3 : Fmt := ⟨2, 3, 1, .none⟩
def fmtE3M2 : Fmt := ⟨3, 2, 3, .none⟩
def fmtE2M1 : Fmt := ⟨2, 1, 1, .none⟩

/-- Width of a format in bits, sign included. -/
def Fmt.width (f : Fmt) : Nat := 1 + f.ebits + f.mbits

/-- Decode the bits of a value (R31): exponent field 0 is subnormal, exponent `1 - bias`, no leading one. -/
def decodeF (f : Fmt) (w : Nat) : FV :=
  let neg := bitAt w (f.ebits + f.mbits)
  let ex := fld w f.mbits f.ebits
  let man := fld w 0 f.mbits
  let top := 2 ^ f.ebits - 1
  let isNan := match f.special with
    | .ieee => ex == top && man != 0
    | .one => ex == top && man == 2 ^ f.mbits - 1
    | .none => false
  let isInf := match f.special with
    | .ieee => ex == top && man == 0
    | _ => false
  if isNan then .nan
  else if isInf then .inf neg
  else if ex == 0 then .fin neg man (1 - (f.bias : Int) - f.mbits)
  else .fin neg (man + 2 ^ f.mbits) ((ex : Int) - f.bias - f.mbits)

/-- Rounding rules: the five of IEEE 754 and stochastic rounding with generator value `r` (R56, R57). -/
inductive Rm where
  | rne | rtz | rdn | rup | rmm
  | stoch (r : Nat)
deriving DecidableEq, Repr

/-- Does a magnitude with kept part `q` and discarded fraction `rem / 2^d` round away from zero? -/
def roundsUp (rm : Rm) (neg : Bool) (q rem d : Nat) : Bool :=
  match rm with
  | .rne => decide (2 * rem > 2 ^ d) || (decide (2 * rem = 2 ^ d) && q % 2 == 1)
  | .rtz => false
  | .rdn => neg && decide (rem > 0)
  | .rup => !neg && decide (rem > 0)
  | .rmm => decide (rem > 0) && decide (2 * rem ≥ 2 ^ d)
  | .stoch r => decide (rem * 65536 / 2 ^ d + r ≥ 65536)

/-- Magnitude `m * 2^e` rounded to a multiple of `2^u`: the quotient and whether it was inexact. -/
def quantise (rm : Rm) (neg : Bool) (m : Nat) (e u : Int) : Nat × Bool :=
  if u ≤ e then (m * 2 ^ (e - u).toNat, false)
  else
    let d := (u - e).toNat
    let q := m / 2 ^ d
    let rem := m % 2 ^ d
    ((if roundsUp rm neg q rem d then q + 1 else q), decide (rem ≠ 0))

/-- Least exponent of a normal value. -/
def Fmt.emin (f : Fmt) : Int := 1 - (f.bias : Int)

/-- The pattern of the largest finite magnitude. -/
def Fmt.maxFin (f : Fmt) : Nat :=
  match f.special with
  | .ieee => (2 ^ f.ebits - 1) * 2 ^ f.mbits - 1
  | .one => 2 ^ (f.ebits + f.mbits) - 2
  | .none => 2 ^ (f.ebits + f.mbits) - 1

/-- A rounded finite value: the magnitude pattern (which may exceed `maxFin`), and whether it was
inexact and whether it was tiny after rounding. -/
structure Rounded where
  pat : Nat
  inexact : Bool
  tiny : Bool
deriving DecidableEq, Repr

/-- Round the magnitude `m * 2^e` once to a format's spacing. -/
def roundMag (f : Fmt) (rm : Rm) (neg : Bool) (m : Nat) (e : Int) : Rounded :=
  if m = 0 then ⟨0, false, false⟩
  else
    let top : Int := e + Nat.log2 m
    let u := (if top < f.emin then f.emin else top) - f.mbits
    let (q, inx) := quantise rm neg m e u
    let pat := (u - (f.emin - f.mbits)).toNat * 2 ^ f.mbits + q
    let (q', _) := quantise rm neg m e (top - f.mbits)
    let tiny := decide (top < f.emin) && !(decide (top + 1 = f.emin) && q' == 2 ^ (f.mbits + 1))
    ⟨pat, inx, tiny⟩

/-- Place of the sign bit. -/
def Fmt.signBit (f : Fmt) (neg : Bool) : Nat := if neg then 2 ^ (f.ebits + f.mbits) else 0

/-- The pattern of an infinity of an IEEE format. -/
def Fmt.infPat (f : Fmt) : Nat := (2 ^ f.ebits - 1) * 2 ^ f.mbits

/-- The canonical quiet NaN of an IEEE format. -/
def Fmt.qnan (f : Fmt) : Nat := (2 ^ f.ebits - 1) * 2 ^ f.mbits + 2 ^ (f.mbits - 1)

/-- Exact product (R52): NaN absorbs; infinity times zero is NaN. -/
def fvMul (a b : FV) : FV :=
  match a, b with
  | .nan, _ => .nan
  | _, .nan => .nan
  | .inf s, .inf t => .inf (s != t)
  | .inf s, .fin t m _ => if m = 0 then .nan else .inf (s != t)
  | .fin s m _, .inf t => if m = 0 then .nan else .inf (s != t)
  | .fin s m e, .fin t n g => .fin (s != t) (m * n) (e + g)

def fvNeg : FV → FV
  | .nan => .nan
  | .inf s => .inf (!s)
  | .fin s m e => .fin (!s) m e

def FV.isNan : FV → Bool
  | .nan => true
  | _ => false

def FV.isInf : FV → Bool
  | .inf _ => true
  | _ => false

def FV.isZero : FV → Bool
  | .fin _ m _ => m == 0
  | _ => false

def FV.neg? : FV → Bool
  | .nan => false
  | .inf s => s
  | .fin s _ _ => s

/-- A finite value as an integer multiple of `2^u`, for `u` at most its exponent. -/
def fvScaled (u : Int) : FV → Int
  | .fin s m e => let v : Int := (m * 2 ^ (e - u).toNat : Nat); if s then -v else v
  | _ => 0

/-- The least exponent among finite values. -/
def minExp : List FV → Int → Int
  | [], u => u
  | .fin _ _ e :: t, u => minExp t (if e < u then e else u)
  | _ :: t, u => minExp t u

def FV.exp : FV → Int
  | .fin _ _ e => e
  | _ => 0

/-- Exact sum of a list of values. An exact zero takes its sign by the IEEE 754 rule: negative only when every
term is negative, or under rounding down when any term is. -/
def fvSum (rdn : Bool) (vs : List FV) : FV :=
  if vs.any FV.isNan then .nan
  else
    let infs := vs.filter FV.isInf
    match infs with
    | i :: rest => if rest.any (fun j => j.neg? != i.neg?) then .nan else .inf i.neg?
    | [] =>
      let u := minExp vs (match vs with | v :: _ => v.exp | [] => 0)
      let t : Int := vs.foldl (fun a v => a + fvScaled u v) 0
      if t = 0 then .fin (vs.all FV.neg? || (rdn && vs.any FV.neg?)) 0 u
      else .fin (decide (t < 0)) t.natAbs u

/-- Order of two values that are not NaN. -/
def fvCmp (a b : FV) : Ordering :=
  match a, b with
  | .inf s, .inf t => if s == t then .eq else if s then .lt else .gt
  | .inf s, _ => if s then .lt else .gt
  | _, .inf t => if t then .gt else .lt
  | _, _ =>
    let u := if a.exp < b.exp then a.exp else b.exp
    compare (fvScaled u a) (fvScaled u b)

/-- Round to an IEEE format where an overflow gives what the rounding direction asks (infinity for R53's
round-to-nearest). Answers the pattern and the flags overflow, inexact, tiny. -/
structure FRes where
  bits : Nat
  ovf : Bool := false
  inexact : Bool := false
  unf : Bool := false
deriving DecidableEq, Repr

def toIeee (f : Fmt) (rm : Rm) (v : FV) : FRes :=
  match v with
  | .nan => ⟨f.qnan, false, false, false⟩
  | .inf s => ⟨f.signBit s + f.infPat, false, false, false⟩
  | .fin s m e =>
    let r := roundMag f rm s m e
    if r.pat > f.maxFin then
      let toInf := match rm with
        | .rtz => false
        | .rdn => s
        | .rup => !s
        | _ => true
      ⟨f.signBit s + (if toInf then f.infPat else f.maxFin), true, true, false⟩
    else ⟨f.signBit s + r.pat, false, r.inexact, r.tiny && r.inexact⟩

/-- Binary digits of the integer square root, from bit `k` down. -/
def isqrtGo (n : Nat) : Nat → Nat → Nat
  | 0, r => if (r + 1) * (r + 1) ≤ n then r + 1 else r
  | k + 1, r =>
    let r' := r + 2 ^ (k + 1)
    isqrtGo n k (if r' * r' ≤ n then r' else r)

/-- `⌊√n⌋`. -/
def isqrt (n : Nat) : Nat := isqrtGo n (Nat.log2 n / 2 + 1) 0

/-- Quotient carried to more bits than any format keeps, its last bit sticky. -/
def fvDiv (a b : FV) : FV :=
  match a, b with
  | .nan, _ => .nan
  | _, .nan => .nan
  | .inf _, .inf _ => .nan
  | .inf s, .fin t _ _ => .inf (s != t)
  | .fin s _ e, .inf t => .fin (s != t) 0 e
  | .fin s m e, .fin t n g =>
    if n = 0 then (if m = 0 then .nan else .inf (s != t))
    else
      let k := Nat.log2 n + 130
      let q := m * 2 ^ k / n
      let sticky := if m * 2 ^ k % n = 0 then 0 else 1
      .fin (s != t) (2 * q + sticky) (e - g - k - 1)

/-- Square root carried to more bits than any format keeps, its last bit sticky. -/
def fvSqrt (a : FV) : FV :=
  match a with
  | .nan => .nan
  | .inf s => if s then .nan else .inf false
  | .fin s m e =>
    if m = 0 then .fin s 0 e
    else if s then .nan
    else
      let j : Nat := 260 + (if (e % 2) = 0 then 0 else 1)
      let n := m * 2 ^ j
      let q := isqrt n
      let sticky := if q * q = n then 0 else 1
      .fin false (2 * q + sticky) ((e - j) / 2 - 1)

/-- A value of an integer. -/
def fvOfInt (i : Int) : FV := .fin (decide (i < 0)) i.natAbs 0

/-- Round a finite value to an integer; also whether it was inexact. -/
def fvToInt (rm : Rm) (s : Bool) (m : Nat) (e : Int) : Int × Bool :=
  let (q, inx) := quantise rm s m e 0
  ((if s then -(q : Int) else q), inx)

end Sys2Proof.Machine
end

