-- ==== Sys2Proof/Machine/Operands.lean ====
section
/-! DEFINITION. Operand forms of the matrix engine: the descriptor (R41 to R43), its checks (R39, R40, R48), and
where each operand element lies and what it means (R31 to R38). -/
namespace Sys2Proof.Machine

/-- A matrix descriptor (R41 Table 8). `m` and `n` are MM1 + 1 and NM1 + 1. -/
structure Desc where
  op : Nat
  acc : Nat
  zero : Bool
  sync : Bool
  notify : Bool
  sat : Bool
  rnd : Nat
  afmt : Nat
  bfmt : Nat
  ofmt : Nat
  cbe : Bool
  k : Nat
  m : Nat
  n : Nat
  aBase : Nat
  aStride : Nat
  aScale : Nat
  bBase : Nat
  bStride : Nat
  bScale : Nat
  oAddr : Nat
  oStride : Nat
  alpha : Nat
  tag : BitVec 32
  reserved : Bool
deriving DecidableEq, Repr

/-- Word `i` of a descriptor's eight. -/
def dword (ws : List Word) (i : Nat) : Nat := (ws.getD i 0).toNat

/-- Read a descriptor from its eight words; `reserved` says that a reserved field is not zero. -/
def decodeDesc (ws : List Word) : Desc :=
  let w0 := dword ws 0
  let w1 := dword ws 1
  let w2 := dword ws 2
  let w3 := dword ws 3
  let w4 := dword ws 4
  { op := fld w0 0 8, acc := fld w0 8 2, zero := bitAt w0 10, sync := bitAt w0 11, notify := bitAt w0 12,
    sat := bitAt w0 13, rnd := fld w0 14 2, afmt := fld w0 16 4, bfmt := fld w0 20 4, ofmt := fld w0 24 4,
    cbe := bitAt w0 28, k := fld w0 32 16, m := fld w0 48 5 + 1, n := fld w0 53 6 + 1,
    aBase := fld w1 0 20, aStride := fld w1 20 20, aScale := fld w1 40 20,
    bBase := fld w2 0 20, bStride := fld w2 20 20, bScale := fld w2 40 20,
    oAddr := fld w3 0 20, oStride := fld w3 20 20,
    alpha := fld w4 0 32, tag := BitVec.ofNat 32 (fld w4 32 32),
    reserved := fld w0 29 3 != 0 || fld w0 59 5 != 0 || fld w1 60 4 != 0 || fld w2 60 4 != 0 ||
      fld w3 40 24 != 0 || dword ws 5 != 0 || dword ws 6 != 0 || dword ws 7 != 0 }

/-! Formats by code (R43 Table 10). -/

def isMx (c : Nat) : Bool := decide (8 ≤ c ∧ c ≤ 12)
def isCb (c : Nat) : Bool := decide (c = 14 ∨ c = 15)

/-- Bits of an element of a format code. -/
def codeBits (c : Nat) : Nat :=
  match c with
  | 1 => 32 | 2 => 16 | 3 => 16 | 4 => 8 | 5 => 8 | 6 => 8 | 7 => 32
  | 8 => 8 | 9 => 8 | 10 => 6 | 11 => 6 | 12 => 4 | 13 => 4 | _ => 0

/-- Float format of an element code. -/
def codeFmt (c : Nat) : Fmt :=
  match c with
  | 1 => fmtF32 | 2 => fmtBF16 | 3 => fmtF16 | 4 => fmtE4M3 | 5 => fmtE5M2
  | 8 => fmtE4M3 | 9 => fmtE5M2 | 10 => fmtE2M3 | 11 => fmtE3M2 | _ => fmtE2M1

/-- Codes allowed as AFMT, BFMT, OFMT. -/
def aAllowed (c : Nat) : Bool := [2, 3, 4, 5, 6, 8, 9, 10, 11, 12, 13].contains c
def bAllowed (c : Nat) : Bool := [2, 3, 4, 5, 6, 8, 9, 10, 11, 12, 13, 14, 15].contains c
def oAllowed (c : Nat) : Bool := [1, 2, 3, 4, 5, 6, 7].contains c

/-- The 8-bit and 6-bit float formats of the fourth and fifth rows of Table 7. -/
def eightBit (c : Nat) : Bool := [4, 5, 8, 9, 10, 11].contains c
def fourBit (c : Nat) : Bool := [12, 13].contains c

/-- Is an operand pair legal (R40 Table 7)? -/
def pairLegal (a b : Nat) : Bool :=
  (a == 2 && (b == 2 || isCb b)) || (a == 3 && (b == 3 || isCb b)) || (a == 6 && b == 6) ||
  (eightBit a && (eightBit b || isCb b || fourBit b)) ||
  (fourBit a && (eightBit b || fourBit b || isCb b))

/-- Values of k a step consumes (R40 Table 7). -/
def kPerStep (a b : Nat) : Nat :=
  if a == 2 || a == 3 || a == 6 then 1 else if eightBit a && eightBit b then 1 else 2

/-- Bytes from the start of a row that `count` elements of `bits` bits touch. -/
def rowBytes (bits count : Nat) : Nat := cdiv (bits * count) 8

/-- Least stride of B (R39). -/
def bFull (b : Nat) : Nat := if b = 14 then 3072 else if b = 15 then 2048 else rowBytes (codeBits b) 64

/-- Byte past the last one read of B by an MMA (R38, R39). -/
def bEnd (d : Desc) : Nat :=
  if d.bfmt = 14 then
    d.bBase + (d.k / 64 - 1) * d.bStride + (d.n - 1) / 4 * 192 + 64 + 32 * ((d.n - 1) % 4) + 32
  else if d.bfmt = 15 then
    d.bBase + (d.k / 64 - 1) * d.bStride + (d.n - 1) / 2 * 64 + 40 + 24 * ((d.n - 1) % 2)
  else d.bBase + (d.k - 1) * d.bStride + rowBytes (codeBits d.bfmt) d.n

/-- The errors of a descriptor, by number (R48 Table 13); one with a reserved OP has only that. DEDUCED (log 104): A_SCALE and B_SCALE
are checked for alignment and range where their operand is an MX format only, since a field not used is ignored (R41). -/
def descErrors (d : Desc) (acc : AccKind) : List Nat :=
  let io := d.op == 2 || d.op == 3
  let mma := d.op == 1
  if d.op > 5 then [0x01]
  else
    (if (mma && (!aAllowed d.afmt || !bAllowed d.bfmt || !pairLegal d.afmt d.bfmt)) || (io && !oAllowed d.ofmt) then [0x02] else []) ++
    (if mma && (d.k == 0 || ((isCb d.afmt || isCb d.bfmt) && d.k % 64 != 0) ||
        ((isMx d.afmt || isMx d.bfmt) && d.k % 32 != 0) || ((d.afmt == 13 || d.bfmt == 13) && d.k % 2 != 0)) then [0x03] else []) ++
    (if (mma && (d.aBase % 16 != 0 || d.aStride % 16 != 0 || d.bBase % 16 != 0 || d.bStride % 16 != 0 ||
        (isMx d.afmt && d.aScale % 16 != 0) || (isMx d.bfmt && d.bScale % 16 != 0) ||
        (isCb d.bfmt && (d.bBase % 64 != 0 || d.bStride % 64 != 0)))) ||
        (io && (d.oAddr % 16 != 0 || d.oStride % 16 != 0)) then [0x04] else []) ++
    (if (mma && (decide (d.aStride < rowBytes (codeBits d.afmt) 32) || decide (d.bStride < bFull d.bfmt) ||
        decide (d.aBase + (d.k - 1) * d.aStride + rowBytes (codeBits d.afmt) d.m > 0x100000) ||
        decide (bEnd d > 0x100000) ||
        (isMx d.afmt && decide (d.aScale + (d.k / 32 - 1) * 32 + d.m > 0x100000)) ||
        (isMx d.bfmt && decide (d.bScale + (d.k / 32 - 1) * 64 + d.n > 0x100000)))) ||
        (io && (decide (d.oStride < rowBytes (codeBits d.ofmt) d.n) ||
          decide (d.oAddr + (d.m - 1) * d.oStride + rowBytes (codeBits d.ofmt) d.n > 0x100000))) then [0x05] else []) ++
    (if d.reserved || (d.op == 3 && decide (d.rnd ≥ 2)) then [0x06] else []) ++
    (if mma && !d.zero && ((acc == .int && d.afmt != 6) || (acc == .float && d.afmt == 6)) then [0x07] else [])

/-- The error a queue reports: the spec names no order among several, so any one of them, freely. -/
def descError (free : Nat) (d : Desc) (acc : AccKind) : Option Nat :=
  match descErrors d acc with
  | [] => none
  | e :: es => some ((e :: es).getD ((Config.freeWord free 0x48).toNat % (es.length + 1)) e)

/-- A field of `bits` bits at bit `off` from byte address `a`. -/
def bitsAt (rd : Nat → Byte) (a off bits : Nat) : Nat :=
  let b0 := a + off / 8
  fld (leNat ((List.range (cdiv (off % 8 + bits) 8)).map (fun i => rd (b0 + i)))) (off % 8) bits

/-- A float element scaled by an MX scale byte (R32). -/
def mxScale (v : FV) (scale : Nat) : FV :=
  if scale = 255 then .nan
  else match v with
    | .fin s m e => .fin s m (e + (scale : Int) - 127)
    | v => v

/-- A decoded operand element, and whether the input (element, codebook entry or scale) is a NaN or an infinity. -/
structure Elem where
  v : FV
  special : Bool

def mkElem (v : FV) (scale : Option Nat) : Elem :=
  let sp := match scale with | some 255 => true | _ => false
  { v := (match scale with | some c => mxScale v c | none => v), special := v.isNan || v.isInf || sp }

/-- Element (m, k) of A (R37). -/
def aElem (rd : Nat → Byte) (d : Desc) (m k : Nat) : Elem :=
  let w := bitsAt rd (d.aBase + k * d.aStride) (codeBits d.afmt * m) (codeBits d.afmt)
  mkElem (decodeF (codeFmt d.afmt) w)
    (if isMx d.afmt then some (rd (d.aScale + k / 32 * 32 + m)).toNat else none)

/-- Element (k, n) of B (R33, R34, R38). DESIGN CHOICE (log 104): a codebook entry is an input where an index picks it. -/
def bElem (rd : Nat → Byte) (d : Desc) (k n : Nat) : Elem :=
  if d.bfmt = 14 then
    let q := d.bBase + k / 64 * d.bStride + n / 4 * 192
    let i := bitsAt rd (q + 64 + 32 * (n % 4)) (4 * (k % 64)) 4
    mkElem (decodeF (if d.cbe then fmtE5M2 else fmtE4M3) (rd (q + 16 * (n % 4) + i)).toNat) none
  else if d.bfmt = 15 then
    let q := d.bBase + k / 64 * d.bStride + n / 2 * 64
    let i := bitsAt rd (q + 16 + 24 * (n % 2)) (3 * (k % 64)) 3
    mkElem (decodeF (if d.cbe then fmtE5M2 else fmtE4M3) (rd (q + 8 * (n % 2) + i)).toNat) none
  else
    let w := bitsAt rd (d.bBase + k * d.bStride) (codeBits d.bfmt * n) (codeBits d.bfmt)
    mkElem (decodeF (codeFmt d.bfmt) w)
      (if isMx d.bfmt then some (rd (d.bScale + k / 32 * 64 + n)).toNat else none)

/-- INT8 elements of A and B. -/
def aInt (rd : Nat → Byte) (d : Desc) (m k : Nat) : Int := (rd (d.aBase + k * d.aStride + m)).toInt
def bInt (rd : Nat → Byte) (d : Desc) (k n : Nat) : Int := (rd (d.bBase + k * d.bStride + n)).toInt

/-- The byte ranges of the tile store an MMA reads, row by row. -/
def mmaRanges (d : Desc) : List (Nat × Nat) :=
  (List.range d.k).flatMap (fun k => [(d.aBase + k * d.aStride, rowBytes (codeBits d.afmt) d.m)]) ++
  (if isMx d.afmt then (List.range (d.k / 32)).map (fun j => (d.aScale + 32 * j, d.m)) else []) ++
  (if d.bfmt = 14 then
    (List.range (d.k / 64)).flatMap (fun c => (List.range (cdiv d.n 4)).flatMap (fun q =>
      let base := d.bBase + c * d.bStride + 192 * q
      let w := min 4 (d.n - 4 * q)
      [(base, 16 * w), (base + 64, 32 * w)]))
  else if d.bfmt = 15 then
    (List.range (d.k / 64)).flatMap (fun c => (List.range (cdiv d.n 2)).flatMap (fun q =>
      let base := d.bBase + c * d.bStride + 64 * q
      let w := min 2 (d.n - 2 * q)
      [(base, 8 * w), (base + 16, 24 * w)]))
  else (List.range d.k).map (fun k => (d.bBase + k * d.bStride, rowBytes (codeBits d.bfmt) d.n))) ++
  (if isMx d.bfmt then (List.range (d.k / 32)).map (fun j => (d.bScale + 64 * j, d.n)) else [])

/-- The rows of an ACC_LOAD or ACC_STORE. -/
def ioRanges (d : Desc) : List (Nat × Nat) :=
  (List.range d.m).map (fun m => (d.oAddr + m * d.oStride, rowBytes (codeBits d.ofmt) d.n))

end Sys2Proof.Machine
end

