-- ==== Sys2Proof/Machine/Flags.lean ====
section
/-! DEFINITION. The sticky flags of the matrix queue (R44 MQ_FLAGS): when each is set, and conversion at write-back
(R55 to R58). -/
namespace Sys2Proof.Machine

/-- The four sticky bits. -/
structure QFlags where
  intSat : Bool := false
  overflow : Bool := false
  nanOut : Bool := false
  specialIn : Bool := false
deriving DecidableEq, Repr

def QFlags.or (a b : QFlags) : QFlags :=
  ⟨a.intSat || b.intSat, a.overflow || b.overflow, a.nanOut || b.nanOut, a.specialIn || b.specialIn⟩

/-- Set flags in a queue; they stay until software clears them. -/
def setFlags (q : Mq) (f : QFlags) : Mq :=
  { q with intSat := q.intSat || f.intSat, overflow := q.overflow || f.overflow,
           nanOut := q.nanOut || f.nanOut, specialIn := q.specialIn || f.specialIn }

/-- One step of the generator (R58). -/
def xorshift (s : Word) : Word :=
  let s := s ^^^ (s <<< 13)
  let s := s ^^^ (s >>> 7)
  s ^^^ (s <<< 17)

/-- The next 16-bit value: four from each step, low bits first (R58). -/
def srNext (seed : Word) (pos : Fin 4) : Nat × Word × Fin 4 :=
  let seed := if pos = 0 then xorshift seed else seed
  ((seed >>> (16 * pos.val)).toNat % 65536, seed, pos + 1)

/-- A step of a float cell (R53): the exact sum of the cell and the products, rounded once to FP32. -/
def stepFloat (acc : BitVec 32) (prods : List FV) : BitVec 32 × QFlags :=
  let r := toIeee fmtF32 .rne (fvSum false (decodeF fmtF32 acc.toNat :: prods))
  (BitVec.ofNat 32 r.bits, { overflow := r.ovf, nanOut := r.bits == fmtF32.qnan })

/-- A step of an integer cell (R54): the sum saturates to the INT32 range. -/
def stepInt (acc : BitVec 32) (p : Int) : BitVec 32 × QFlags :=
  let x := acc.toInt + p
  if x > 2147483647 then (0x7FFFFFFF, { intSat := true })
  else if x < -2147483648 then (0x80000000, { intSat := true })
  else (BitVec.ofInt 32 x, {})

/-- Rounding of write-back (R55 Table 12): the target bits and the flags it sets. DESIGN CHOICE (log 104): an infinity that becomes an
integer bound counts as saturation. -/
def writeBack (code : Nat) (rm : Rm) (sat : Bool) (v : FV) : Nat × QFlags :=
  if code = 6 ∨ code = 7 then
    let hi : Int := if code = 6 then 127 else 2147483647
    let lo : Int := if code = 6 then -128 else -2147483648
    let w := if code = 6 then 8 else 32
    match v with
    | .nan => (0, {})
    | .inf s => (ofInt w (if s then lo else hi), { intSat := true })
    | .fin s m e =>
      let x := (fvToInt rm s m e).1
      if x > hi then (ofInt w hi, { intSat := true })
      else if x < lo then (ofInt w lo, { intSat := true })
      else (ofInt w x, {})
  else
    let f := codeFmt code
    let nanPat := if code = 4 then 0x7F else f.qnan
    let signedInf := fun s => if code = 4 then 0x7F + f.signBit s else f.infPat + f.signBit s
    match v with
    | .nan => (nanPat, { nanOut := true })
    | .inf s =>
      if code = 4 ∧ sat then (f.maxFin + f.signBit s, {})
      else (signedInf s, { nanOut := code == 4 })
    | .fin s m e =>
      let r := roundMag f rm s m e
      if r.pat > f.maxFin then
        if sat then (f.maxFin + f.signBit s, { overflow := true })
        else (signedInf s, { overflow := true, nanOut := code == 4 })
      else (r.pat + f.signBit s, {})

end Sys2Proof.Machine
end

