-- ==== Sys2Proof/Machine/Engine.lean ====
section
/-! DEFINITION. The matrix engine (R35 to R60): fetching, starting and retiring descriptors, and its queue
registers. -/
namespace Sys2Proof.Machine

/-- A tile runs: its compute die's domain is on and the tile is in service (R75, R363). -/
def tileLive (s : State) (k : Nat) : Bool := domAt s (domCD (k / 64)) == .on && !tileOut s k

def thermAt (s : State) (site : Nat) : Therm := tget (fun _ => {}) s.therm site
def setTherm (s : State) (site : Nat) (t : Therm) : State := { s with therm := tset (fun _ => {}) s.therm site t }

/-! Pauses (R337 to R340). -/

/-- The supply pause count that tiles apply (R325, R326 level 1). -/
def supplyPause (s : State) : Nat := if s.pow.level ≥ 1 then max s.pow.pause 8 else s.pow.pause

/-- The pause level that the tiles of CDn apply (R339). -/
def pauseOf (s : State) (n : Nat) : Nat :=
  max (max (thermAt s (siteCD n)).p (thermAt s (siteKD n)).p) (max (thermAt s (siteTile (siteCD n))).p (supplyPause s))

/-- Is cycle `c` one of the `k` of every 16 that a pause level leaves idle? DESIGN CHOICE (log 114): the positions, fixed and evenly
spread. -/
def idleCycle (k c : Nat) : Bool := decide (16 ≤ c * k % 16 + k)

/-- A tile's control core, vector unit and matrix engine may issue work in the present cycle of their clock (R337). -/
def tileIssues (s : State) (k : Nat) : Bool := tileLive s k && !idleCycle (pauseOf s (k / 64)) (s.ticks * 5 / 4)

/-- Raise a local interrupt of a tile's core. -/
def localIrq (t : Tile) (n : Nat) : Tile := { t with core := { t.core with mip := t.core.mip ||| (1 <<< n) } }

def accOf (q : Mq) (i : Nat) : Acc := tget (fun _ => {}) q.accs i
def setAcc (q : Mq) (i : Nat) (a : Acc) : Mq := { q with accs := tset (fun _ => {}) q.accs i a }
def cellAt (a : Acc) (i : Nat) : BitVec 32 := tget (fun _ => 0) a.cells i
def setCell (a : Acc) (i : Nat) (v : BitVec 32) : Acc := { a with cells := tset (fun _ => 0) a.cells i v }

/-- Cells of an M by N shape, in order of m, then n. -/
def shape (m n : Nat) : List (Nat × Nat) :=
  (List.range m).flatMap (fun i => (List.range n).map (fun j => (i, j)))

/-- One float cell of an MMA, step by step in increasing k (R53). -/
def mmaFloat (rd : Nat → Byte) (d : Desc) (m n : Nat) (c0 : BitVec 32) : BitVec 32 × QFlags :=
  let g := kPerStep d.afmt d.bfmt
  (List.range (d.k / g)).foldl (fun (c, f) i =>
    let ps := (List.range g).map (fun j =>
      let a := aElem rd d m (g * i + j)
      let b := bElem rd d (g * i + j) n
      (fvMul a.v b.v, a.special || b.special))
    let r := stepFloat c (ps.map (·.1))
    (r.1, (f.or r.2).or { specialIn := ps.any (·.2) })) (c0, {})

/-- One integer cell of an MMA (R54). -/
def mmaInt (rd : Nat → Byte) (d : Desc) (m n : Nat) (c0 : BitVec 32) : BitVec 32 × QFlags :=
  (List.range d.k).foldl (fun (c, f) k =>
    let r := stepInt c (aInt rd d m k * bInt rd d k n)
    (r.1, f.or r.2)) (c0, {})

/-- An MMA on its accumulator (R35, R36). -/
def mmaAcc (rd : Nat → Byte) (d : Desc) (a : Acc) : Acc × QFlags :=
  let int := d.afmt == 6
  let a := if d.zero || a.kind == .empty then { kind := (if int then .int else .float), cells := [] } else a
  (shape d.m d.n).foldl (fun (a, f) (m, n) =>
    let i := 64 * m + n
    let r := if int then mmaInt rd d m n (cellAt a i) else mmaFloat rd d m n (cellAt a i)
    (setCell a i r.1, f.or r.2)) (a, {})

/-- The cell an ACC_LOAD element widens to (R36, R55): integers are copied with their sign, floats are exact in
FP32; FP32 and BF16 patterns keep their bits. DESIGN CHOICE (log 104): a NaN of FP16, E4M3 or E5M2 becomes 0x7FC00000, and NaNs of FP32
and BF16 keep sign and payload. -/
def widen (code w : Nat) : BitVec 32 :=
  if code = 6 then BitVec.ofInt 32 (sint 8 w)
  else if code = 7 ∨ code = 1 then BitVec.ofNat 32 w
  else if code = 2 then BitVec.ofNat 32 (w * 65536)
  else BitVec.ofNat 32 (toIeee fmtF32 .rne (decodeF (codeFmt code) w)).bits

/-- An ACC_LOAD (R42): M by N elements, every other cell zero. -/
def accLoad (rd : Nat → Byte) (d : Desc) : Acc × QFlags :=
  let bits := codeBits d.ofmt
  let int := d.ofmt == 6 || d.ofmt == 7
  (shape d.m d.n).foldl (fun (a, f) (m, n) =>
    let w := bitsAt rd (d.oAddr + m * d.oStride) (bits * n) bits
    let v := decodeF (codeFmt d.ofmt) w
    (setCell a (64 * m + n) (widen d.ofmt w), f.or { specialIn := !int && (v.isNan || v.isInf) }))
    ({ kind := if int then .int else .float, cells := [] }, {})

/-- The value of an accumulator cell. -/
def cellValue (a : Acc) (i : Nat) : FV :=
  match a.kind with
  | .int => fvOfInt (cellAt a i).toInt
  | _ => decodeF fmtF32 (cellAt a i).toNat

/-- What an ACC_STORE produces: the bytes to write, the flags, the generator's state. -/
structure StoreOut where
  writes : List Host.Cell
  flags : QFlags
  seed : Word
  pos : Fin 4

/-- An ACC_STORE (R42, R55 to R58): ALPHA times each cell, rounded once; one generator value for each element
when RND is stochastic. -/
def accStore (d : Desc) (a : Acc) (seed : Word) (pos : Fin 4) : StoreOut :=
  let al := decodeF fmtF32 d.alpha
  let size := codeBits d.ofmt / 8
  (shape d.m d.n).foldl (fun o (m, n) =>
    let (r, seed, pos) := if d.rnd = 1 then srNext o.seed o.pos else (0, o.seed, o.pos)
    let w := writeBack d.ofmt (if d.rnd = 1 then .stoch r else .rne) d.sat (fvMul al (cellValue a (64 * m + n)))
    let at_ := d.oAddr + m * d.oStride + n * size
    { writes := o.writes ++ (List.range size).map (fun i => (at_ + i, (toLe size w.1).getD i 0)),
      flags := o.flags.or w.2, seed := seed, pos := pos })
    { writes := [], flags := { specialIn := al.isNan || al.isInf }, seed := seed, pos := pos }

/-- HALTED is set once every started descriptor has retired (R45, R48); interrupt 17 follows if enabled. -/
def settleHalt (t : Tile) : Tile :=
  match t.mq.haltPending with
  | some (e, tag) =>
    if t.mq.started.isEmpty then
      let t := { t with mq := { t.mq with halted := true, error := e, tag := tag, haltPending := none } }
      if t.mq.errorIe then localIrq t 17 else t
    else t
  | none => t

/-- The queue stops at its next descriptor with an error (R48). -/
def haltQueue (t : Tile) (e : Nat) (tag : BitVec 32) : Tile :=
  settleHalt { t with mq := { t.mq with head := t.mq.head + 1, haltPending := some (BitVec.ofNat 8 e, tag) } }

/-- The eight words of the ring entry at the head. A word that software wrote again after it was published is the
old or the new one, freely (R45). -/
def fetchDesc (ctr : Nat) (t : Tile) : List Word :=
  let i := t.mq.head.toNat % 64
  let a := t.mq.base.toNat + 64 * i
  let cur := wordsOf 8 (storeRead t.store a 64)
  match tfind t.mq.published i with
  | some old => (List.range 8).map (fun j =>
      let o := old.getD j 0
      let n := cur.getD j 0
      if o = n then n else if Config.freeBool ctr (0x50000000 + j) then n else o)
  | none => cur

/-- May the engine start another descriptor (R45, R48, R49, R367, R368)? -/
def mayStart (t : Tile) : Bool :=
  t.mq.enable && !t.mq.halted && !t.mq.aborted && !t.mq.aborting && t.mq.haltPending.isNone &&
  !(t.mq.head == t.mq.tail) && !t.halted && !(t.cup == .waiting || t.cup == .running || t.cup == .hung)

/-- The accumulator a descriptor names (R42). -/
def accNamed (d : Desc) : Option Nat := if 1 ≤ d.op ∧ d.op ≤ 4 then some d.acc else none

/-- The operations of the transfer path (R46). -/
def onTransferPath (op : Nat) : Bool := decide (2 ≤ op ∧ op ≤ 4)

/-- Must an earlier descriptor be complete before this one starts (R46)? On the transfer path every earlier one of that path; of one
accumulator every earlier one, but that an MMA follows an MMA without waiting. -/
def mustEnd (d : Desc) (x : Started) : Bool :=
  (onTransferPath d.op && onTransferPath x.op) ||
  ((accNamed d).isSome && x.acc == accNamed d && !(d.op == 1 && x.op == 1))

/-- Some started descriptors are complete: their tile-store writes are done (R46, R47). -/
def completeWhere (sel : Started → Bool) (t : Tile) : Tile :=
  let t' := ((t.mq.started.filter sel).flatMap (·.writes)).foldl (fun t c => tileWrite t false c.1 [c.2] false) t
  { t' with mq := { t'.mq with started := t'.mq.started.map (fun x => if sel x then { x with complete := true, writes := [] } else x) } }

/-- The effect of a descriptor that passed its checks and reads no poison; its writes wait for its completion. DESIGN CHOICE (log
104): a descriptor is fetched as it starts, so MQ_HEAD counts the descriptors started or found faulty. -/
def runDesc (ctr now : Nat) (t : Tile) (d : Desc) : Tile :=
  let q := t.mq
  let st0 : Started := { number := q.head, notify := d.notify, op := d.op, acc := accNamed d, complete := false, writes := [], seed := ctr }
  let q' := match d.op with
    | 1 =>
      let r := mmaAcc (seenByte now t) d (accOf q d.acc)
      setFlags (setAcc q d.acc r.1) r.2
    | 2 =>
      let r := accLoad (storeByte t.store) d
      setFlags (setAcc q d.acc r.1) r.2
    | 4 => setAcc q d.acc {}
    | _ => q
  if d.op = 3 then
    let o := accStore d (accOf q d.acc) q.srSeed q.srPos
    { t with mq := { setFlags q o.flags with srSeed := o.seed, srPos := o.pos, head := q.head + 1,
                                             started := q.started ++ [{ st0 with writes := o.writes }] } }
  else { t with mq := { q' with head := q.head + 1, started := q.started ++ [st0] } }

/-- The first poisoned range among some. -/
def firstPoison (ctr : Nat) (st : Store) (rs : List (Nat × Nat)) : Option Nat :=
  (rs.find? (fun r => storePoison st r.1 r.2)).map (·.1)

/-- The engine comes to its next descriptor. It starts the one this command names (any command finds a reserved
OP); a waiting descriptor, or another operation, leaves the state as it is (R46, R48, R60). Its ring entry is read as every line is (R72). That a descriptor starts says that those
it waits for are complete: an ACC_LOAD finds the bytes and marks that every earlier ACC_STORE left. DESIGN CHOICE (log 104): a ring
entry that is itself poison-marked cannot be read, and its TAG is reported as 0. -/
def startDesc (op : Nat) (k : Nat) (s : State) : State :=
  let t := tileAt s k
  if !tileIssues s k || !mayStart t then s
  else
    let a := t.mq.base.toNat + 64 * (t.mq.head.toNat % 64)
    let f := readEffects s k false a 64
    if storePoison t.store a 64 then
      bumpFree (consumePoison (setTile f k (haltQueue (tileAt f k) 0x08 0)) k a)
    else
      let d := decodeDesc (fetchDesc s.freeCtr t)
      if d.op ≤ 5 ∧ d.op ≠ op then s
      else if d.sync ∧ !t.mq.started.isEmpty then s
      else
        match descError s.freeCtr d (accOf t.mq d.acc).kind with
        | some e => bumpFree (setTile f k (haltQueue (tileAt f k) e d.tag))
        | none =>
          let rs := if d.op = 1 then mmaRanges d else if d.op = 2 then ioRanges d else []
          let s' := rs.foldl (fun s r => readEffects s k false r.1 r.2) f
          match firstPoison s.freeCtr (completeWhere (mustEnd d) t).store rs with
          | some p => bumpFree (consumePoison (setTile s' k (haltQueue (tileAt s' k) 0x08 d.tag)) k p)
          | none => bumpFree (setTile s' k (runDesc s.freeCtr s.ticks (completeWhere (mustEnd d) (tileAt s' k)) d))

/-- The oldest started descriptor is complete and retires (R47). Its writes never clear a poison mark (R60). -/
def retireDesc (t : Tile) : Tile :=
  match t.mq.started with
  | [] => t
  | d :: rest =>
    let t := { t with mq := { t.mq with started := rest, done := t.mq.done + 1 } }
    let t := d.writes.foldl (fun t c => tileWrite t false c.1 [c.2] false) t
    let t := if d.notify && t.mq.notifyIe then localIrq t 16 else t
    settleHalt t

/-- Retirement at a tile in service. -/
def doRetire (k : Nat) (s : State) : State :=
  if !tileLive s k then s else updTile s k retireDesc

/-- A write of MQ_TAIL (R45). DESIGN CHOICE (log 104): an illegal write while the queue is halted, or halting, is ignored and leaves
ERROR and TAG as they are. -/
def writeTail (ctr : Nat) (t : Tile) (v : Word) : Tile :=
  let q := t.mq
  if q.tail ≤ v ∧ v.toNat ≤ q.head.toNat + 64 then
    let new := (List.range (v - q.tail).toNat).map (fun j => (q.tail.toNat + j) % 64)
    let entry := fun i => wordsOf 8 (storeRead t.store (q.base.toNat + 64 * i) 64)
    { t with mq := { q with tail := v, published := new.foldl (fun p i => tput p i (entry i)) q.published } }
  else if q.halted || q.haltPending.isSome then t
  else settleHalt { t with mq := { q with haltPending := some (0x09, 0) } }

/-- A write of MQ_BASE, ignored unless MQ_DONE equals MQ_TAIL (R44). -/
def writeBase (t : Tile) (v : Word) : Tile :=
  if t.mq.done = t.mq.tail then { t with mq := { t.mq with base := BitVec.ofNat 20 (fld v.toNat 12 8 * 4096) } } else t

/-- A write of SR_SEED; 0 is stored as 1 (R44). -/
def writeSeed (t : Tile) (v : Word) : Tile :=
  { t with mq := { t.mq with srSeed := if v = 0 then 1 else v, srPos := 0 } }

/-- MQ_CTRL.CLEAR (R49). -/
def clearQueue (t : Tile) : Tile :=
  let q := t.mq
  if q.halted then
    { t with mq := { q with head := q.tail, done := q.tail, halted := false, error := 0, aborted := false } }
  else { t with mq := { q with aborted := false } }

/-- A write of MQ_CTRL: the enables are stored, CLEAR and ABORT act (R44, R49). -/
def writeCtrl (t : Tile) (v : Word) : Tile :=
  let t := { t with mq := { t.mq with enable := v.getLsbD 0, notifyIe := v.getLsbD 3, errorIe := v.getLsbD 4 } }
  let t := if v.getLsbD 1 then clearQueue t else t
  if v.getLsbD 2 then { t with mq := { t.mq with aborting := true } } else t

/-- An abort completes once the started descriptors have (R49). -/
def finishAbort (t : Tile) : Tile :=
  let q := t.mq
  if q.aborting && q.started.isEmpty then
    { t with mq := { q with head := q.tail, done := q.tail, aborted := true, aborting := false } }
  else t

/-- A tile effect that needs the tile in service. -/
def onTile (k : Nat) (f : Tile → Tile) (s : State) : State :=
  if tileLive s k then updTile s k f else s

def execNop (cd : Fin 16) (t : Fin 64) (s : State) : Host.Outcome State Fault Refusal := .next (startDesc 0 (tkey cd t) s)
def execMma (cd : Fin 16) (t : Fin 64) (s : State) : Host.Outcome State Fault Refusal := .next (startDesc 1 (tkey cd t) s)
def execAccLoad (cd : Fin 16) (t : Fin 64) (s : State) : Host.Outcome State Fault Refusal := .next (startDesc 2 (tkey cd t) s)
def execAccStore (cd : Fin 16) (t : Fin 64) (s : State) : Host.Outcome State Fault Refusal := .next (startDesc 3 (tkey cd t) s)
def execAccZero (cd : Fin 16) (t : Fin 64) (s : State) : Host.Outcome State Fault Refusal := .next (startDesc 4 (tkey cd t) s)
def execMark (cd : Fin 16) (t : Fin 64) (s : State) : Host.Outcome State Fault Refusal := .next (startDesc 5 (tkey cd t) s)
def execDescriptorRetire (cd : Fin 16) (t : Fin 64) (s : State) : Host.Outcome State Fault Refusal :=
  .next (doRetire (tkey cd t) s)
def execMqTail (cd : Fin 16) (t : Fin 64) (v : Word) (s : State) : Host.Outcome State Fault Refusal :=
  .next (bumpFree (onTile (tkey cd t) (fun x => writeTail s.freeCtr x v) s))
def execMqClear (cd : Fin 16) (t : Fin 64) (v : Word) (s : State) : Host.Outcome State Fault Refusal :=
  .next (onTile (tkey cd t) (fun x => writeCtrl x (v ||| 2)) s)
def execMqAbort (cd : Fin 16) (t : Fin 64) (v : Word) (s : State) : Host.Outcome State Fault Refusal :=
  .next (onTile (tkey cd t) (fun x => writeCtrl x (v ||| 4)) s)
def execMqAborted (cd : Fin 16) (t : Fin 64) (s : State) : Host.Outcome State Fault Refusal :=
  .next (onTile (tkey cd t) finishAbort s)
def execMqBase (cd : Fin 16) (t : Fin 64) (v : Word) (s : State) : Host.Outcome State Fault Refusal :=
  .next (onTile (tkey cd t) (fun x => writeBase x v) s)
def execSrSeed (cd : Fin 16) (t : Fin 64) (v : Word) (s : State) : Host.Outcome State Fault Refusal :=
  .next (onTile (tkey cd t) (fun x => writeSeed x v) s)

end Sys2Proof.Machine
end

