-- ==== Sys2Proof/Machine/Flow.lean ====
section
/-! DEFINITION. Flows at a tile and requests at a compute die (R171, R201 to R205): looking up a flow's descriptor
and a tile's part in it, the transfers outstanding, and what each packet or answer adds to them. -/
namespace Sys2Proof.Machine

def jobImage (s : State) : Option Image := s.job.bind (·.image)

/-- A flow of the running image. -/
def flowDesc (s : State) (flow : Nat) : Option FlowDesc :=
  (jobImage s).bind (fun im => im.flows.find? (fun f => f.flow == flow))

/-- The virtual tile bound to a physical tile. -/
def vtileOf (s : State) (k : Nat) : Option Nat :=
  s.job.bind (fun j => (j.binding.findIdx? (fun b => b == k)))

/-- The physical tile of a virtual tile. -/
def physOf (s : State) (v : Nat) : Option Nat := s.job.bind (fun j => j.binding[v]?)

/-- Running variant's header. -/
def runVariant (s : State) : Option VariantE :=
  s.job.bind (fun j => j.variant.bind (fun v => (j.image.bind (fun im => im.variants.find? (fun e => e.variant == v)))))

/-- A tile's part entry in a flow. -/
def partOf (s : State) (k flow : Nat) : Option (FlowDesc × Part) :=
  (vtileOf s k).bind (fun v => (flowDesc s flow).bind (fun f => (f.parts.find? (fun p => p.vtile == v)).map (fun p => (f, p))))

/-- First tile-store line of the buffer transfer `n` uses (R202 TS_RING). -/
def bufLine (p : Part) (n : Nat) : Nat := p.tsLine + n % (max p.tsRing 1) * p.outLines

/-- Region byte offset of transfer `n` (R202 WRAP). -/
def xferOffset (p : Part) (n : Nat) : Nat :=
  let o := p.offset + n * p.step
  if p.wrap = 0 then o else o % p.wrap

def flowSt (t : Tile) (flow : Nat) : FlowSt := tget (fun _ => {}) t.flows flow
def setFlow (t : Tile) (flow : Nat) (f : FlowSt) : Tile := { t with flows := tset (fun _ => {}) t.flows flow f }

/-- Change one outstanding transfer of a flow at a tile. -/
def updXfer (t : Tile) (flow n : Nat) (g : Transfer → Transfer) : Tile :=
  let f := flowSt t flow
  setFlow t flow { f with open_ := f.open_.map (fun x => if x.n = n then g x else x) }

/-- The ATOMIC flow whose results a return flow brings (R202 RETURN_FLOW). -/
def parentAtomic (s : State) (flow : Nat) : Option FlowDesc :=
  (jobImage s).bind (fun im => im.flows.find? (fun f => f.kind == 7 && f.returnFlow == flow))

/-- Result records in a line of a tile store: those whose OP is not zero (R183 Table 9). -/
def resultsIn (t : Tile) (line : Nat) : Nat :=
  ((List.range 4).filter (fun i => (tfind t.store.bytes (64 * line + 16 * i + 1)).getD 0 != 0)).length

/-- A line of a tile store was written by a packet of a flow: the oldest outstanding transfer whose buffer holds
the line, and has not got it, counts it (R205). Lines of a return flow count their result records for the ATOMIC
flow they belong to (R201). -/
def flowLine (s : State) (k flow line : Nat) (poison : Bool) : State :=
  match partOf s k flow with
  | none => s
  | some (d, p) =>
    let t := tileAt s k
    let owner := if d.kind = 8 then ((parentAtomic s flow).map (·.flow)).getD flow else flow
    match (flowSt t owner).open_.find? (fun x => decide (bufLine p x.n ≤ line ∧ line < bufLine p x.n + p.outLines) &&
        !x.got.contains (line - bufLine p x.n)) with
    | none => s
    | some x =>
      setTile s k (updXfer t owner x.n (fun y => { y with
        got := y.got ++ [line - bufLine p x.n],
        checked := if d.kind = 8 then y.checked + resultsIn t line else y.checked,
        status := if poison then y.status ||| 1 else y.status }))

/-- Is a transfer the one that checked lines are for: the one named, or else the oldest short of its output lines? -/
def takesCheck (n : Option Nat) (outLines : Nat) (x : Transfer) : Bool := n.elim (decide (x.checked < outLines)) (fun n => x.n == n)

/-- A unit's output lines are reported checked (R205): its transfer takes them; the oldest still short of them where that is not known. -/
def flowChecked (s : State) (k flow : Nat) (n : Option Nat) (lines : Nat) : State :=
  match partOf s k flow with
  | none => s
  | some (_, p) =>
    let t := tileAt s k
    match (flowSt t flow).open_.find? (takesCheck n p.outLines) with
    | none => s
    | some x => setTile s k (updXfer t flow x.n (fun y => { y with checked := y.checked + lines }))

/-- Transfer `n` at a receiver of a SEND flow, open from its start or, when data for it are scheduled earlier, from then (R201, R204). -/
def openRecv (t : Tile) (flow lines n : Nat) : Tile :=
  let f := flowSt t flow
  if n < f.begun then t
  else setFlow t flow { f with begun := n + 1,
                               open_ := f.open_ ++ [{ n := n, got := [], checked := 0, reqDone := true, left := true, reduced := true,
                                                      expect := lines, status := 0, lastSlot := none, units := [], remote := 0 }] }

/-- The oldest outstanding transfer of a flow at a tile. -/
def oldest (t : Tile) (flow : Nat) : Option Transfer := (flowSt t flow).open_.head?

/-- A mesh reduction's destination learns that every line is complete (R88, R205). -/
def flowReduced (s : State) (k flow : Nat) : State :=
  let t := tileAt s k
  match (flowSt t flow).open_.find? (fun x => !x.reduced) with
  | none => s
  | some x => setTile s k (updXfer t flow x.n (fun y => { y with reduced := true }))

/-- The buffer a contributor's transfer of a mesh reduction is sent to: the destination's (R201); its own otherwise. -/
def sentTo (d : FlowDesc) (p : Part) : Part :=
  if d.kind = 5 then (d.parts.find? (fun q => q.vtile == d.destVtile)).getD p else p

/-- A transfer ends fenced (R204): a NOTICE with code 0x2 came back about a line of it. -/
def flowFenced (s : State) (k flow line : Nat) : State :=
  let t := tileAt s k
  let named := (partOf s k flow).bind (fun e =>
    let b := sentTo e.1 e.2
    (flowSt t flow).open_.find? (fun x => decide (bufLine b x.n ≤ line ∧ line < bufLine b x.n + b.outLines)))
  match named.orElse (fun _ => oldest t flow) with
  | none => s
  | some x => setTile s k (updXfer t flow x.n (fun y => { y with status := y.status ||| 8, reqDone := true, left := true }))

/-! Requests (R93, R171). -/

/-- Request packets a die has outstanding. -/
def reqsOut (d : ComputeDie) : Nat := (d.reqs.map (fun r => r.waiting.length)).sum

/-- The packet of a request (R91 Table 8). -/
def reqPacket (cd md : Nat) (r : DieReq) : SigPacket :=
  { dst := BitVec.ofNat 7 (siteMD md), src := BitVec.ofNat 7 (siteCD cd), vc := 1,
    ptype := if r.load then 5 else 6, len := 1, poison := false,
    fields := r.tile ++ r.tag ++ r.flow ++ (0 : BitVec 8),
    payload := [BitVec.ofNat 64 ((r.lines - 1) % 65536 * 2 ^ 48 + r.addr % 2 ^ 44)] }

/-- The die may send a request packet: fewer than sixteen are outstanding, and 16 ns have passed since the last (R93). -/
def mayRequest (s : State) (d : ComputeDie) : Bool :=
  decide (reqsOut d < 16) && (match d.lastReq with | some t0 => decide (t0 + 16 ≤ s.ticks) | none => true)

/-- Send the next request packet, if the die may (R93). -/
def pumpReqs (cd : Nat) (s : State) : State :=
  let d := dieAt s cd
  if !mayRequest s d then s
  else match d.reqs.find? (fun r => !r.unsent.isEmpty) with
    | none => s
    | some r =>
      let md := r.unsent.headD 0
      let r' := { r with unsent := r.unsent.tail, waiting := r.waiting ++ [md], sentAt := s.ticks }
      emit (setDie s cd { d with reqs := d.reqs.map (fun x => if x.tag = r.tag then r' else x), lastReq := some s.ticks })
        (.sig (reqPacket cd md r))

/-- Time has passed: every die sends a request packet it may. -/
def pumpAll (s : State) : State := (s.dies.map (·.1)).foldl (fun s cd => pumpReqs cd s) s

/-- The lowest TAG no request of the die uses. -/
def freeTag (d : ComputeDie) : BitVec 10 :=
  BitVec.ofNat 10 (((List.range 1024).find? (fun n => !d.reqs.any (fun r => r.tag.toNat == n))).getD 0)

/-- A request enters its die, and its packets are sent as R93 lets them (R171). -/
def issueReqFor (s : State) (f : ReqFor) (cd t flow n : Nat) (load : Bool) (addr lines : Nat) (mds : List Nat) : State :=
  let d := dieAt s cd
  let r : DieReq := { for_ := f, tile := BitVec.ofNat 6 t, tag := freeTag d, flow := BitVec.ofNat 16 flow, transfer := n,
                      load := load, addr := addr, lines := lines, waiting := [], unsent := mds, worst := 0,
                      got := [], sentAt := s.ticks }
  pumpReqs cd (setDie s cd { d with reqs := d.reqs ++ [r] })

def issueReq (s : State) (cd t flow n : Nat) (load : Bool) (addr lines : Nat) (mds : List Nat) : State :=
  issueReqFor s .transfer cd t flow n load addr lines mds

/-- The worse of two answers: 10 above 01 above 00 (R171). -/
def worseStatus (a b : BitVec 2) : BitVec 2 := if a.toNat < b.toNat then b else a

/-- FLOW_STATUS bits of an answer: 01 poison, 10 refused (R204, R206). -/
def statusBits (st : BitVec 2) : BitVec 4 := if st = 1 then 1 else if st = 2 then 2 else 0

/-- Results of an ATOMIC transfer are still to come in the slots of its return flow, addressed by the request's TAG (R183, R201). -/
def awaitsResults (s : State) (cd : Nat) (r : DieReq) : Bool :=
  r.for_ == .transfer && (match flowDesc s r.flow.toNat with | some d => d.kind == 7 | none => false) &&
  (flowSt (tileAt s (64 * cd + r.tile.toNat)) r.flow.toNat).open_.any (fun x => x.n == r.transfer && decide (x.checked < x.expect))

/-- A request has its answers and waits for result records only. -/
def answered (r : DieReq) : Bool := r.waiting.isEmpty && r.unsent.isEmpty

/-- A request is finished: its transfer has every answer (R171), and the request's TAG is free, but of an ATOMIC request whose results are
still to come, which ends with its transfer. -/
def finishReq (s : State) (cd : Nat) (r : DieReq) : State :=
  let k := 64 * cd + r.tile.toNat
  let s := match r.for_ with
    | .transfer => updTile s k (fun t => updXfer t r.flow.toNat r.transfer (fun x =>
        { x with reqDone := true, status := x.status ||| statusBits r.worst }))
    | .dieRecord => setDie s cd { dieAt s cd with dieRec := some (r.worst != 0) }
    | _ => s
  let d := dieAt s cd
  pumpReqs cd (setDie s cd { d with
    reqs := if awaitsResults s cd r then d.reqs.map (fun x => if x.tag = r.tag then { r with waiting := [], unsent := [] } else x)
            else d.reqs.filter (fun x => x.tag != r.tag) })

/-- Has a request every answer, and every line that its answers promise? -/
def reqComplete (r : DieReq) : Bool :=
  r.waiting.isEmpty && r.unsent.isEmpty && (!r.load || r.worst == 2 || decide (r.got.length ≥ r.lines))

/-- REQ_DONE from a memory base die (R171). -/
def reqDone (s : State) (cd md : Nat) (tag : BitVec 10) (status : BitVec 2) : State :=
  let d := dieAt s cd
  match d.reqs.find? (fun r => r.tag == tag && r.waiting.contains md) with
  | none => s
  | some r =>
    let r' := { r with waiting := r.waiting.erase md, worst := worseStatus r.worst status }
    let s := setDie s cd { d with reqs := d.reqs.map (fun x => if x.tag = r.tag then r' else x) }
    if reqComplete r' then finishReq s cd r' else pumpReqs cd s

/-! Booting over BOOT_FLOW (R213). -/

/-- ADDR_REFUSED at a compute die (R170, R349). -/
def refuseAddr (s : State) (cd a : Nat) : State := raise s (siteCD cd) 0x01 0x2C 1 false (lineDetail a)

/-- A load that its die refuses, or that touches a lost set, whose lines are then delivered poison-marked (R170, R196), during boot. -/
def bootRefused (s : State) (f : ReqFor) (cd t addr lines : Nat) : State :=
  let s := refuseAddr s cd addr
  match f with
  | .dieRecord => setDie s cd { dieAt s cd with dieRec := some true }
  | .boot line =>
    let marks := if rangeRefused s addr (64 * lines) then [] else List.range lines
    bumpFree (updTile s (64 * cd + t) (fun x =>
      { marks.foldl (fun x i => tileWrite x false (64 * (line + i)) ((List.range 64).map (fun b => Config.freeByte s.freeCtr (64 * i + b))) true) x with bootBad := true }))
  | _ => s

/-- A load over BOOT_FLOW of the running variant. -/
def bootLoad (s : State) (f : ReqFor) (cd t addr lines : Nat) : State :=
  if rangeRefused s addr (64 * lines) || rangeLost s addr (64 * lines) then bootRefused s f cd t addr lines
  else issueReqFor s f cd t (((runVariant s).map (·.bootFlow)).getD 0) 0 true addr lines (rangeStacks s addr (64 * lines))

/-- The boot record as a tile holds it in tile-store line 16,383. -/
def heldBootRecord (t : Tile) : List Byte := storeRead t.store (64 * 16383) 64

/-- Lines a tile's boot takes after its boot record: its program's and its part table's; none for an unused tile. -/
def bootLines (t : Tile) : Nat × Nat :=
  let r := heldBootRecord t
  if leAt r 0 2 = 0xFFFF then (0, 0) else (leAt r 16 4, leAt r 6 2)

/-- The next load of a tile's boot, when what it asked for has arrived. DESIGN CHOICE (log 110): the program is loaded in requests of at
most 256 lines, one after the other. -/
def bootNext (s : State) (k : Nat) : State :=
  let t := tileAt s k
  let r := heldBootRecord t
  let n := bootLines t
  let done := t.bootWant - 1
  if t.bootGot < t.bootWant ∨ t.bootBad ∨ n.1 + n.2 ≤ done then s
  else
    let lines := if done < n.1 then min 256 (n.1 - done) else n.1 + n.2 - done
    let line := if done < n.1 then done else leAt r 4 2 + (done - n.1)
    let addr := if done < n.1 then leAt r 8 8 + 64 * done else leAt r 24 8 + 64 * (done - n.1)
    bootLoad (setTile s k { t with bootWant := t.bootWant + lines }) (.boot line) (k / 64) (k % 64) addr lines

/-- A line of a booting tile has been written over BOOT_FLOW. -/
def bootLine (s : State) (k flow : Nat) (poison : Bool) : State :=
  match s.job, runVariant s with
  | some j, some v =>
    if j.phase ≠ .starting ∨ !j.bootSent ∨ j.booted.contains k ∨ v.bootFlow ≠ flow then s
    else bootNext (updTile s k (fun t => { t with bootGot := t.bootGot + 1, bootBad := t.bootBad || poison })) k
  | _, _ => s

end Sys2Proof.Machine
end

