-- ==== Sys2Proof/Machine/Mesh.lean ====
section
/-! DEFINITION. The die mesh (R77 to R88): routing, delivery at a tile's network port, combining on the way and at the
destination. -/
namespace Sys2Proof.Machine

/-- The router an adapter joins (R17 Table 4). -/
def adapterRouter (k : Nat) : Nat :=
  match k with
  | 0 => 1 | 1 => 4 | 2 => 6 | 3 => 15 | 4 => 39 | 5 => 55
  | 6 => 62 | 7 => 59 | 8 => 57 | 9 => 48 | 10 => 24 | _ => 8

/-- The router of a mesh node (R79). -/
def nodeRouter (n : Nat) : Nat := if n < 64 then n else adapterRouter (n - 64)

/-- A router output: 0 east, 1 west, 2 north, 3 south, 4 the local or adapter port. -/
def routeOut (r dst : Nat) : Nat :=
  let d := nodeRouter dst
  if r % 8 < d % 8 then 0 else if d % 8 < r % 8 then 1
  else if r / 8 < d / 8 then 2 else if d / 8 < r / 8 then 3 else 4

/-- Where a packet at router `r` goes: the next router, x before y (R78), or `128 + dst`, its destination node. -/
def nextHop (r dst : Nat) : Nat :=
  match routeOut r dst with
  | 0 => r + 1 | 1 => r - 1 | 2 => r + 8 | 3 => r - 8 | _ => 128 + dst

/-- The head flit of a REDUCE comes to a router: its wait counts from now (R86). -/
def noteHead (s : State) (cd r : Nat) (p : MeshPacket) : State :=
  if p.kind = 4 ∧ r < 64 then
    let d := dieAt s cd
    setDie s cd { d with heads := d.heads.filter (fun e => !(e.1 == r && e.2.1 == p)) ++ [(r, p, tileClocks s (64 * cd + r))] }
  else s

/-- It leaves the head of the router's input. -/
def dropHead (s : State) (cd r : Nat) (p : MeshPacket) : State :=
  let d := dieAt s cd
  setDie s cd { d with heads := d.heads.filter (fun e => !(e.1 == r && e.2.1 == p)) }

/-- When the head flit of a packet came to a router. -/
def headSince (s : State) (cd r : Nat) (p : MeshPacket) : Nat :=
  ((dieAt s cd).heads.find? (fun e => e.1 == r && e.2.1 == p)).elim (tileClocks s (64 * cd + r)) (·.2.2)

/-- A packet comes to a node of a die's mesh, a router below 64. -/
def meshPut (s : State) (cd n : Nat) (p : MeshPacket) : State := emit (noteHead s cd n p) (.mesh cd n p)

/-- A packet enters the mesh at a node's router. -/
def meshSend (s : State) (cd : Nat) (p : MeshPacket) : State := meshPut s cd (nodeRouter p.src.toNat) p

/-- The router from which a packet's route comes to a router: 64 where it enters the mesh there (R78). -/
def prevRouter (src n : Nat) : Nat :=
  let r := nodeRouter src
  if r / 8 < n / 8 then n - 8 else if n / 8 < r / 8 then n + 8
  else if r % 8 < n % 8 then n - 1 else if n % 8 < r % 8 then n + 1 else 64

/-- The packet that a node takes next among those of one source, destination and virtual channel: they keep their order, and behind a
REDUCE that waits at the head of its input the later ones wait too (R78, R86). -/
def meshOrder (s : State) (cd n : Nat) (p : MeshPacket) : Bool :=
  (match s.sent.find? (fun o => match o with
      | .mesh c m q => c == cd && m == n && q.src == p.src && q.dst == p.dst && q.vc == p.vc
      | _ => false) with
    | some (.mesh _ _ q) => q == p
    | _ => true) &&
  (p.vc != 3 || !(tget (fun _ => []) (dieAt s cd).waits n).any (fun w => w.packet.src == p.src && w.packet.dst == p.dst))

/-! The links between tiles (R302 to R304). -/

/-- Entries of a packet: link cycles of up to four flits. -/
def linkEntries (p : MeshPacket) : Nat := cdiv (p.len.toNat + 1) 4

/-- A link's sender holds one credit for each entry that is neither filled nor on its way back. -/
def SkewBuf.credits (v : SkewBuf) : Nat := 4 - v.held - v.back.length

/-- One cycle of a link: credits come nearer, the receiver reads an entry unless its region suppresses the edge, a credit starting back, and
the sender writes one while it holds a credit, unless its region suppresses the edge. -/
def SkewBuf.cycle (v : SkewBuf) : SkewBuf :=
  let v := { v with back := (v.back.map (· - 1)).filter (0 < ·), at_ := v.at_ + 1 }
  let read := decide (v.rCut = 0 ∧ 0 < v.held)
  let v := if read then { v with held := v.held - 1, back := v.back ++ [2] } else v
  let write := decide (v.sCut = 0 ∧ 0 < v.left ∧ 0 < v.credits)
  let v := if write then { v with left := v.left - 1, held := v.held + 1 } else v
  { v with sCut := v.sCut - 1, rCut := v.rCut - 1 }

/-- Some cycles of a link; after 32 without a new packet it is empty and every credit is back. -/
def SkewBuf.cycles : Nat → SkewBuf → SkewBuf
  | 0, v => v
  | n + 1, v => SkewBuf.cycles n v.cycle

/-- A link as it stands at a cycle of the die's clock. -/
def SkewBuf.upTo (c : Nat) (v : SkewBuf) : SkewBuf := { SkewBuf.cycles (min 32 (c - v.at_)) v with at_ := max c v.at_ }

/-- Cycles of a compute die's clock, 1.25 GHz (R296). -/
def dieCycle (s : State) : Nat := 5 * s.ticks / 4

/-- The link that leaves a router by an output, as it stands now. -/
def skewAt (s : State) (cd r out : Nat) : SkewBuf := SkewBuf.upTo (dieCycle s) (tget (fun _ => {}) (dieAt s cd).skews (4 * r + out))

/-- The sender may put a packet on a link: the one before is written, and it holds a credit. -/
def linkReady (s : State) (cd r out : Nat) : Bool :=
  let v := skewAt s cd r out
  decide (4 ≤ out) || (v.left == 0 && decide (0 < v.credits))

/-- A packet goes on a link: its entries are the sender's to write. -/
def takeLink (s : State) (cd r out n : Nat) : State :=
  if 4 ≤ out then s
  else
    let v := skewAt s cd r out
    setDie s cd { dieAt s cd with skews := tput (dieAt s cd).skews (4 * r + out) { v with left := v.left + n } }

/-- The router at the far end of a link. -/
def linkEnd (r out : Nat) : Nat := match out with | 0 => r + 1 | 1 => r - 1 | 2 => r + 8 | _ => r - 8

/-- A region suppresses its next edge: so do the links it sends and receives on (R303, R304). -/
def cutEdge (s : State) (cd r : Nat) : State :=
  setDie s cd { dieAt s cd with skews := (dieAt s cd).skews.map (fun e =>
    let v := SkewBuf.upTo (dieCycle s) e.2
    (e.1, if e.1 / 4 = r then { v with sCut := v.sCut + 1 } else if linkEnd (e.1 / 4) (e.1 % 4) = r then { v with rCut := v.rCut + 1 } else v)) }

/-- The next router has buffer space for a packet: four packets for each virtual channel of the input it comes in by (R80), and the link's
sender may start (R302). A packet that waits to enter the mesh at its source stays there. -/
def meshRoom (s : State) (cd r : Nat) (p : MeshPacket) : Bool :=
  let n := nextHop r p.dst.toNat
  decide (128 ≤ n) || linkReady s cd r (routeOut r p.dst.toNat) && decide ((s.sent.filter (fun o => match o with
      | .mesh c m q => c == cd && m == n && q.vc == p.vc && prevRouter q.src.toNat n == r
      | _ => false)).length < 4)

/-- A packet goes on from a router. -/
def forward (s : State) (cd r : Nat) (p : MeshPacket) : State :=
  meshPut (dropHead (takeLink s cd r (routeOut r p.dst.toNat) (linkEntries p)) cd r p) cd (nextHop r p.dst.toNat) p

def pktLine (p : MeshPacket) : Nat := (p.fields.extractLsb' 25 14).toNat
def pktFlow (p : MeshPacket) : Nat := (p.fields.extractLsb' 0 16).toNat

/-- A NOTICE (R79). -/
def notice (src dst : Nat) (code line flow : Nat) : MeshPacket :=
  { dst := BitVec.ofNat 7 dst, src := BitVec.ofNat 7 src, vc := 0, kind := 5, len := 0,
    fields := BitVec.ofNat 39 (code * 2 ^ 35 + line * 2 ^ 21 + flow), flits := [] }

/-- A PROGRESS packet (R205). -/
def progress (src dst event lines flow : Nat) : MeshPacket :=
  { dst := BitVec.ofNat 7 dst, src := BitVec.ofNat 7 src, vc := 0, kind := 6, len := 0,
    fields := BitVec.ofNat 39 (event * 2 ^ 36 + lines * 2 ^ 24 + flow), flits := [] }

/-- A WRITE packet carrying flits to lines from `line` on (R79). -/
def writePacket (src dst line flow : Nat) (fs : List Flit) : MeshPacket :=
  { dst := BitVec.ofNat 7 dst, src := BitVec.ofNat 7 src, vc := 2, kind := 1, len := BitVec.ofNat 5 fs.length,
    fields := BitVec.ofNat 39 (line * 2 ^ 25 + flow), flits := fs }

/-- Is a KIND listed (R79 Table 4)? -/
def kindListed (p : MeshPacket) : Bool := decide (1 ≤ p.kind.toNat ∧ p.kind.toNat ≤ 6)

/-- Does a packet's line range run past line 16,383? READ_REQ names RLEN lines, the others LEN. -/
def rangePast (p : MeshPacket) : Bool :=
  if p.kind = 2 then decide (pktLine p + ((p.fields.extractLsb' 6 4).toNat + 1) > 16384)
  else if p.kind = 1 ∨ p.kind = 3 ∨ p.kind = 4 then decide (pktLine p + p.len.toNat > 16384)
  else false

/-- MESH_DISCARD (R79): the packet is gone and a message names the router, the KIND and whether its range was at fault. -/
def discardPacket (s : State) (cd router : Nat) (p : MeshPacket) (range : Bool) : State :=
  raise s (siteCD cd) 0x02 0x0B 1 false (router * 2 ^ 34 + p.kind.toNat + b2n range * 16)

/-- Die mesh powered: routers run on the compute die's clock (R77). -/
def meshOn (s : State) (cd : Nat) : Bool := domAt s (domCD cd) == .on

/-- A packet for a fenced tile is discarded at the tile's router, which tells the source of a WRITE, READ_REQ or
REDUCE (R83). DESIGN CHOICE (log 106): a READ_REQ carries no FLOW, and the NOTICE's FLOW is then 0. -/
def fencedDiscard (s : State) (cd : Nat) (p : MeshPacket) : State :=
  if p.kind = 1 ∨ p.kind = 2 ∨ p.kind = 4 then
    meshSend s cd (notice p.dst.toNat p.src.toNat 2 (pktLine p) (if p.kind = 2 then 0 else pktFlow p))
  else s

/-- A packet at a router is for a tile there that is out of service. -/
def atFenced (s : State) (cd r : Nat) (p : MeshPacket) : Bool :=
  decide (p.dst.toNat < 64 ∧ p.dst.toNat = r) && tileOut s (64 * cd + r)

/-- A router takes a packet that it does not combine; it forwards it when the next router has space for all of it (R78 to R80, R83). -/
def hop (s : State) (cd r : Nat) (p : MeshPacket) : State :=
  let t := deliver s (.mesh cd r p)
  if !meshOrder s cd r p then s
  else if !kindListed p then discardPacket t cd r p false
  else if atFenced s cd r p then fencedDiscard (dropHead t cd r p) cd p
  else if meshRoom s cd r p then forward t cd r p
  else s

def execMeshHop (cd : Fin 16) (r : Fin 64) (p : MeshPacket) (s : State) : Host.Outcome State Fault Refusal :=
  .next (if meshOn s cd.val then hop s cd.val r.val p else s)

/-- A packet of an unlisted KIND at a router, or with a line range past the store at its destination (R79). -/
def execMeshDiscard (cd : Fin 16) (r : Fin 64) (p : MeshPacket) (s : State) : Host.Outcome State Fault Refusal :=
  .next (if !meshOn s cd.val then s
    else if !kindListed p then discardPacket (deliver s (.mesh cd.val r.val p)) cd.val r.val p false
    else if rangePast p then
      discardPacket (deliver s (.mesh cd.val (128 + p.dst.toNat) p)) cd.val (nodeRouter p.dst.toNat) p true
    else s)

/-! Delivery at a tile's network port. -/

/-- Lines written through the network port, with the bytes an engine write puts into the same lines in the same
cycle (R69, R70): every byte the engine writes takes effect, and a byte both write is a collision. DESIGN CHOICE (log 106): the network
flit's poison decides the line's mark; the engine's bytes, written in the same cycle, leave it. -/
def netWrite (s : State) (k line : Nat) (fs : List Flit) (eng : List Host.Cell) : State :=
  let s := updTile s k (fun t => (fs.zipIdx).foldl (fun t x => tileWrite t false (64 * (line + x.2)) x.1.data x.1.poison) t)
  updTile s k (fun t => eng.foldl (fun t c => tileWrite t false c.1 [c.2] false) t)

/-- The lines on which the engine and the network port write a common byte. -/
def collided (line : Nat) (fs : List Flit) (eng : List Host.Cell) : List Nat :=
  (List.range fs.length).map (· + line) |>.filter (fun l => eng.any (fun c => c.1 / 64 == l))

/-- Collisions tell the writer and are counted (R70). -/
def collisionNotices (s : State) (cd dst src flow : Nat) (ls : List Nat) : State :=
  ls.foldl (fun s l => bump (meshSend s cd (notice dst src 1 l flow)) Obj.tsCollisions) s

/-- Flits arrive at a tile's network port for lines from `line` on (R70, R82, R205). -/
def portWrite (s : State) (cd t : Nat) (src line flow : Nat) (fs : List Flit) (eng : List Host.Cell) : State :=
  let k := 64 * cd + t
  let s := netWrite s k line fs eng
  let s := collisionNotices s cd t src flow (collided line fs eng)
  (fs.zipIdx).foldl (fun s x => bootLine (flowLine s k flow (line + x.2) x.1.poison) k flow x.1.poison) s

/-- No site: data that is never sent. -/
def noSite : Nat := 126

/-- Key of what is on its way from a tile to an adapter node for a flow. -/
def txKey (node tile flow : Nat) : Nat := (128 * node + tile) * 65536 + flow

/-- Key of a port's queue for a flow at a compute die. -/
def txqKey (port flow : Nat) : Nat := 65536 * port + flow

/-- A WRITE at its destination (R79, R82): a tile's network port writes the lines; an adapter queues the flits for
the flow's slots on its port, each for the receiver and position its transfer has for it; a range past the store is discarded. DESIGN
CHOICE (log 106): a WRITE that belongs to no transfer goes to any receiver of its flow. -/
def doWrite (s : State) (cd : Nat) (p : MeshPacket) (eng : List Host.Cell) : State :=
  let d := p.dst.toNat
  if rangePast p then discardPacket s cd (nodeRouter d) p true
  else if d < 64 then
    if tileOut s (64 * cd + d) then fencedDiscard s cd p
    else portWrite s cd d p.src.toNat (pktLine p) (pktFlow p) p.flits eng
  else
    let die := dieAt s cd
    let key := txKey d p.src.toNat (pktFlow p)
    let metas := (tfind die.txMeta key).getD []
    let stray : TxFlit := { dstSite := 127, req := false, tile := 0, tag := 0, offset := 0, flit := { data := [], poison := false }, last := false }
    let items := (p.flits.zipIdx).map (fun x =>
      { metas.getD x.2 { stray with offset := pktLine p + x.2 } with flit := x.1 })
    let items := items.filter (fun x => x.dstSite != noSite)
    setDie s cd { die with
      txMeta := tput die.txMeta key (metas.drop p.flits.length),
      txq := tput die.txq (txqKey (d - 64) (pktFlow p)) ((tfind die.txq (txqKey (d - 64) (pktFlow p))).getD [] ++ items) }

def execWrite (cd : Fin 16) (p : MeshPacket) (eng : List (Nat × Byte)) (s : State) : Host.Outcome State Fault Refusal :=
  .next (if meshOn s cd.val && meshOrder s cd.val (128 + p.dst.toNat) p then doWrite (deliver s (.mesh cd.val (128 + p.dst.toNat) p)) cd.val p eng else s)

/-- A READ_REQ at its target (R79): the lines are read and answered; a marked line's flit carries POISON (R72). -/
def doReadReq (s : State) (cd : Nat) (p : MeshPacket) : State :=
  let d := p.dst.toNat
  let k := 64 * cd + d
  if rangePast p then discardPacket s cd (nodeRouter d) p true
  else if 64 ≤ d then s
  else if tileOut s k then fencedDiscard s cd p
  else
    let n := (p.fields.extractLsb' 6 4).toNat + 1
    let line := pktLine p
    let s' := readEffects s k false (64 * line) (64 * n)
    let t := tileAt s' k
    let fs : List Flit := (List.range n).map (fun i =>
      { data := tileRead s.ticks t false (64 * (line + i)) 64, poison := storePoison t.store (64 * (line + i)) 64 })
    bumpFree (meshSend s' cd
      { dst := p.src, src := p.dst, vc := 2, kind := 3, len := BitVec.ofNat 5 n,
        fields := BitVec.ofNat 39 ((p.fields.extractLsb' 11 14).toNat * 2 ^ 25 + (p.fields.extractLsb' 0 6).toNat),
        flits := fs })

def execReadReq (cd : Fin 16) (p : MeshPacket) (s : State) : Host.Outcome State Fault Refusal :=
  .next (if meshOn s cd.val && meshOrder s cd.val (128 + p.dst.toNat) p then doReadReq (deliver s (.mesh cd.val (128 + p.dst.toNat) p)) cd.val p else s)

/-- A READ_RSP at the requester (R79): its lines are written at RLINE. DESIGN CHOICE (log 106): it carries no FLOW, and a collision's
NOTICE about it has FLOW 0. -/
def doReadRsp (s : State) (cd : Nat) (p : MeshPacket) (eng : List Host.Cell) : State :=
  let d := p.dst.toNat
  if rangePast p then discardPacket s cd (nodeRouter d) p true
  else if 64 ≤ d ∨ tileOut s (64 * cd + d) then s
  else
    let s := netWrite s (64 * cd + d) (pktLine p) p.flits eng
    collisionNotices s cd d p.src.toNat 0 (collided (pktLine p) p.flits eng)

def execReadRsp (cd : Fin 16) (p : MeshPacket) (eng : List (Nat × Byte)) (s : State) : Host.Outcome State Fault Refusal :=
  .next (if meshOn s cd.val && meshOrder s cd.val (128 + p.dst.toNat) p then doReadRsp (deliver s (.mesh cd.val (128 + p.dst.toNat) p)) cd.val p eng else s)

/-! Summing on the way (R85 to R88). -/

def redBf16 (p : MeshPacket) : Bool := p.fields.getLsbD 24
def redCount (p : MeshPacket) : Nat := (p.fields.extractLsb' 18 6).toNat + 1

/-- Element-wise sum of two flits' data in FP32 or BF16 (R87). -/
def addLine (bf16 : Bool) (a b : List Byte) : List Byte :=
  let f := if bf16 then fmtBF16 else fmtF32
  let w := if bf16 then 2 else 4
  (List.range (64 / w)).flatMap (fun i =>
    toLe w (toIeee f .rne (fvSum false [decodeF f (leAt a (w * i) w), decodeF f (leAt b (w * i) w)])).bits)

def addFlit (bf16 : Bool) (a b : Flit) : Flit := { data := addLine bf16 a.data b.data, poison := a.poison || b.poison }

/-- Two packets a router may combine (R86). -/
def partners (a b : MeshPacket) : Bool :=
  pktFlow a == pktFlow b && pktLine a == pktLine b && a.len == b.len && redBf16 a == redBf16 b

/-- The packet that replaces two (R86): their element-wise sum, COUNT the sum of the counts. Which of the two SRC
fields it keeps is not stated and is free. DESIGN CHOICE (log 106): a sum of counts above 64 wraps in COUNT's six bits. -/
def combine (ctr : Nat) (w p : MeshPacket) : MeshPacket :=
  { p with src := if Config.freeBool ctr 0x60000000 then p.src else w.src,
           fields := BitVec.ofNat 39 (pktLine p * 2 ^ 25 + b2n (redBf16 p) * 2 ^ 24 +
             ((redCount w + redCount p - 1) % 64) * 2 ^ 18 + pktFlow p),
           flits := (w.flits.zip p.flits).map (fun x => addFlit (redBf16 p) x.1 x.2) }

def waitsAt (d : ComputeDie) (r : Nat) : List CombWait := tget (fun _ => []) d.waits r
def setWaits (d : ComputeDie) (r : Nat) (ws : List CombWait) : ComputeDie := { d with waits := tset (fun _ => []) d.waits r ws }

/-- The wait of a packet at a router has ended: MESH_COMBINE_WAIT cycles of the die's clock since its head flit came (R86). -/
def waitOver (s : State) (cd r : Nat) (w : CombWait) : Bool :=
  decide (w.since + dval s Obj.meshCombineWait < tileClocks s (64 * cd + r))

/-- A REDUCE packet reaches the head of a router input (R83, R86): it meets a partner whose wait has not ended, or waits; combined or
not, it goes on when the next router has space (R80). -/
def doReduce (s : State) (cd r : Nat) (p : MeshPacket) : State :=
  let t := deliver s (.mesh cd r p)
  let d := dieAt s cd
  let ws := waitsAt d r
  let out := nextHop r p.dst.toNat
  if !meshOrder s cd r p then s
  else if atFenced s cd r p then fencedDiscard (dropHead t cd r p) cd p
  else
    let go := if meshRoom s cd r p then forward t cd r p else s
    let me : CombWait := { packet := p, out := out, since := headSince s cd r p }
    if dval s Obj.meshCombineWait = 0 then go
    else match ws.find? (fun w => w.out == out && partners w.packet p && !waitOver s cd r w) with
      | some w =>
        if meshRoom s cd r p then bumpFree (forward (dropHead (setDie t cd (setWaits d r (ws.erase w))) cd r p) cd r (combine s.freeCtr w.packet p)) else s
      | none =>
        if ws.length ≥ 32 ∨ waitOver s cd r me then go
        else dropHead (setDie t cd (setWaits d r (ws ++ [me]))) cd r p

def execReduce (cd : Fin 16) (r : Fin 64) (p : MeshPacket) (s : State) : Host.Outcome State Fault Refusal :=
  .next (if meshOn s cd.val then doReduce s cd.val r.val p else s)

/-- The wait of a packet a router holds ends, or its combining buffer is full: it goes on unchanged (R86), or is discarded at a tile
fenced since (R83). -/
def doCombineExpiry (s : State) (cd r i : Nat) : State :=
  let d := dieAt s cd
  let ws := waitsAt d r
  match ws[i]? with
  | none => s
  | some w =>
    let t := setDie s cd (setWaits d r (ws.erase w))
    if atFenced s cd r w.packet then fencedDiscard t cd w.packet
    else if (tileClocks s (64 * cd + r) < w.since + dval s Obj.meshCombineWait ∧ ws.length < 32) ∨ !meshRoom s cd r w.packet then s
    else forward t cd r w.packet

def execCombineWaitExpiry (cd : Fin 16) (r : Fin 64) (i : Fin 32) (s : State) : Host.Outcome State Fault Refusal :=
  .next (if meshOn s cd.val then doCombineExpiry s cd.val r.val i.val else s)

/-- The reduction flow a line belongs to at a destination tile: the entry the unit holds, or a new one for the
oldest transfer whose buffer holds the line (R88). DESIGN CHOICE (log 106): a flit whose flow has no range there has no entry and is
dropped without a message. -/
def combEntry (s : State) (k flow line : Nat) : Option CombFlow :=
  match (tileAt s k).combFlows.find? (fun c => c.flow.toNat == flow && decide (c.first ≤ line ∧ line < c.first + c.lines)) with
  | some c => some c
  | none =>
    match partOf s k flow with
    | none => none
    | some (f, p) =>
      if p.tsLine ≤ line ∧ line < p.tsLine + p.outLines * max p.tsRing 1 then
        let n := (line - p.tsLine) / max p.outLines 1
        some { flow := BitVec.ofNat 16 flow, first := p.tsLine + n * p.outLines, lines := p.outLines,
               contributors := f.count, bf16 := f.fmt == 1 }
      else none

def combCount (t : Tile) (line : Nat) : Nat := tget (fun _ => 0) t.combCounts line

/-- A flit of a fifth flow waits in its input buffer (R88). DESIGN CHOICE (log 106): four flows are taken whatever lines their ranges total. -/
def combWaits (s : State) (k flow line : Nat) : Bool :=
  match combEntry s k flow line with
  | none => false
  | some c =>
    let held := (tileAt s k).combFlows
    !held.contains c && decide (((held.filter (fun x => x.flow != c.flow)).map (·.flow)).eraseDups.length ≥ 4)

/-- A REDUCE flit at its destination's combining unit (R88). -/
def doCombineFlit (s : State) (cd t : Nat) (src flow line count : Nat) (bf16 : Bool) (fl : Flit) (eng : List Host.Cell) : State :=
  let k := 64 * cd + t
  match combEntry s k flow line with
  | none => s
  | some c =>
    let tl := tileAt s k
    if combWaits s k flow line then s
    else
      let held := if tl.combFlows.contains c then tl.combFlows else tl.combFlows ++ [c]
      let old := combCount tl line
      let excess := decide (old + count > c.contributors)
      let cur := tileRead s.ticks tl false (64 * line) 64
      let curP := storePoison tl.store (64 * line) 64
      let s1 := if old = 0 then s else readEffects s k false (64 * line) 64
      let out : Flit := if old = 0 then fl else addFlit bf16 { data := cur, poison := curP } fl
      let s2 := netWrite s1 k line [{ out with poison := out.poison || excess }] eng
      let s3 := collisionNotices s2 cd t t flow (collided line [out] eng)
      let s4 := updTile s3 k (fun x => { x with combFlows := held, combCounts := tset (fun _ => 0) x.combCounts line (min 127 (old + count)) })
      let s5 := if excess then
          raise (bump (meshSend s4 cd (notice t src 4 line flow)) Obj.reduceOvercount) (siteCD cd) 0x02 0x0A 3 true
            (t * 2 ^ 34 + line * 2 ^ 16 + flow)
        else s4
      let done := (List.range c.lines).all (fun i => decide (combCount (tileAt s5 k) (c.first + i) ≥ c.contributors))
      let s6 := if done then
          meshSend (updTile s5 k (fun x => { x with combFlows := x.combFlows.erase c,
                                                    combCounts := (List.range c.lines).foldl (fun cs i => tdel cs (c.first + i)) x.combCounts }))
            cd (progress t t 1 0 flow)
        else s5
      bumpFree s6

/-- The next flit of a packet that the combining unit is to take. -/
def combNext (t : Tile) (p : MeshPacket) : Nat := ((t.combIn.find? (fun e => e.1 == p)).map (·.2)).getD 0

/-- A flit of a packet is taken: the last one ends the packet's delivery. -/
def combTake (s : State) (cd : Nat) (p : MeshPacket) (i : Nat) : State :=
  let rest := fun (t : Tile) => t.combIn.filter (fun e => e.1 != p)
  let k := 64 * cd + p.dst.toNat
  if i + 1 = p.flits.length then updTile (deliver s (.mesh cd (128 + p.dst.toNat) p)) k (fun t => { t with combIn := rest t })
  else updTile s k (fun t => { t with combIn := rest t ++ [(p, i + 1)] })

/-- Flit `i` of a REDUCE packet reaches the combining unit, the flits of a packet in their order (R88). A packet for a tile fenced
meanwhile is discarded (R83). -/
def execCombineFlit (cd : Fin 16) (p : MeshPacket) (i : Fin 16) (eng : List (Nat × Byte)) (s : State) :
    Host.Outcome State Fault Refusal :=
  .next (match p.flits[i.val]? with
    | none => s
    | some fl =>
      let k := 64 * cd.val + p.dst.toNat
      let gone := deliver s (.mesh cd.val (128 + p.dst.toNat) p)
      if !meshOn s cd.val || !decide (p.dst.toNat < 64) || !meshOrder s cd.val (128 + p.dst.toNat) p then s
      else if tileOut s k then fencedDiscard gone cd.val p
      else if rangePast p then discardPacket gone cd.val p.dst.toNat p true
      else if combNext (tileAt s k) p ≠ i.val ∨ combWaits s k (pktFlow p) (pktLine p + i.val) then s
      else
        doCombineFlit (combTake s cd.val p i.val) cd.val p.dst.toNat p.src.toNat (pktFlow p) (pktLine p + i.val) (redCount p) (redBf16 p) fl eng)

/-- A NOTICE at its source node: code 0x2 ends the flow's transfer fenced (R204); the other codes report and change
nothing there (R70, R88, R100). -/
def doNotice (s : State) (cd : Nat) (p : MeshPacket) : State :=
  if p.dst.toNat < 64 ∧ (p.fields.extractLsb' 35 4) = 2 ∧ !tileOut s (64 * cd + p.dst.toNat) then
    flowFenced s (64 * cd + p.dst.toNat) (pktFlow p) (pktLine p)
  else s

def execNotice (cd : Fin 16) (p : MeshPacket) (s : State) : Host.Outcome State Fault Refusal :=
  .next (if meshOn s cd.val && meshOrder s cd.val (128 + p.dst.toNat) p then doNotice (deliver s (.mesh cd.val (128 + p.dst.toNat) p)) cd.val p else s)

/-- A PROGRESS packet at a tile (R205). The fields name the flow only; the UNIT_CHECKED packets of one inflater for one tile and flow keep
their order, so the unit's transfer is known (log 37). -/
def doProgress (s : State) (cd event : Nat) (p : MeshPacket) : State :=
  let k := 64 * cd + p.dst.toNat
  if 64 ≤ p.dst.toNat ∨ tileOut s k ∨ (p.fields.extractLsb' 36 3).toNat ≠ event then s
  else if event = 0 then
    let d := dieAt s cd
    let key := txKey p.src.toNat p.dst.toNat (pktFlow p)
    let ns := (tfind d.unitMeta key).getD []
    flowChecked (setDie s cd { d with unitMeta := tput d.unitMeta key ns.tail }) k (pktFlow p) ns.head? (p.fields.extractLsb' 24 12).toNat
  else flowReduced s k (pktFlow p)

def execUnitChecked (cd : Fin 16) (p : MeshPacket) (s : State) : Host.Outcome State Fault Refusal :=
  .next (if meshOn s cd.val && meshOrder s cd.val (128 + p.dst.toNat) p then doProgress (deliver s (.mesh cd.val (128 + p.dst.toNat) p)) cd.val 0 p else s)

def execReduceDone (cd : Fin 16) (p : MeshPacket) (s : State) : Host.Outcome State Fault Refusal :=
  .next (if meshOn s cd.val && meshOrder s cd.val (128 + p.dst.toNat) p then doProgress (deliver s (.mesh cd.val (128 + p.dst.toNat) p)) cd.val 1 p else s)

end Sys2Proof.Machine
end

