-- ==== Sys2Proof/Machine/Signal.lean ====
section
/-! DEFINITION. The signal network's flit protection (R90, R91) and the common arbiter (R97 to R100). -/
namespace Sys2Proof.Machine

/-- CRC-8 of a 64-bit flit, most significant byte first (R90). -/
def flitCrc (w : Word) : BitVec 8 := BitVec.ofNat 8 (crc8 (toBe 8 w.toNat))

def sigFail (s : State) (l : Nat) : Nat := tget (fun _ => 0) s.sigFails l

/-- The sixteen flits a link's sender keeps to send again, the newest first (R90). -/
def replayOf (s : State) (l : Nat) : List Word := tget (fun _ => []) s.sigReplay l

/-- The sender's replay buffer when a flit of it arrives: a first sending has entered it; what was sent is the flit that came, or, where
its check fails, not known and so free. A repeat that comes good is the flit in hand. -/
def replayWith (s : State) (l : Nat) (w : Word) (good : Bool) : List Word :=
  let again := s.sent.any (Output.isRepeat l)
  if good then w :: (if again then (replayOf s l).tail else (replayOf s l).take 15)
  else if again then replayOf s l
  else Config.freeWord s.freeCtr 0x730000 :: (replayOf s l).take 15

/-- A flit is received on a link: a failed check is answered with a negative acknowledgement and, up to the fourth
failure in a row, the flit is sent again from the sender's replay buffer (R90). -/
def doSigFlit (s : State) (l : Nat) (w : Word) (crc : BitVec 8) : State :=
  if s.sigDown.contains l then s
  else
    let good := decide (crc = flitCrc w)
    let buf := replayWith s l w good
    let s := bumpFree { s with sent := s.sent.eraseP (Output.isRepeat l), sigReplay := tset (fun _ => []) s.sigReplay l buf }
    if good then { s with sigFails := tset (fun _ => 0) s.sigFails l 0 }
    else
      let n := sigFail s l + 1
      let s := emit { s with sigFails := tset (fun _ => 0) s.sigFails l (min n 4) } (.nak l)
      if n < 4 then bump (emit s (.sigRepeat l (buf.headD 0))) Obj.sigRetries else s

def execSigFlit (l : Fin 144) (w : Word) (crc : BitVec 8) (s : State) : Host.Outcome State Fault Refusal :=
  .next (doSigFlit s l.val w crc)

/-- Is a packet TYPE listed (R91 Table 8)? -/
def typeListed (p : SigPacket) : Bool := decide (1 ≤ p.ptype.toNat ∧ p.ptype.toNat ≤ 10)

/-- A die discards a packet of an unlisted TYPE and raises SIG_DISCARD (R91). -/
def execSigDiscard (site : Fin 100) (p : SigPacket) (s : State) : Host.Outcome State Fault Refusal :=
  .next (if typeListed p then s else raise (sigArrive s p) site.val 0x07 0x12 1 false p.ptype.toNat)

/-! The common arbiter. -/

def arbCode : ArbKind → Nat
  | .engine => 0 | .mesh => 1 | .signal => 2 | .stack => 3 | .fabric => 4 | .house => 5

def arbKey (kind : ArbKind) (i : Nat) : Nat := 1000000 * arbCode kind + i

def arbAt (s : State) (kind : ArbKind) (i : Nat) : ArbSt := tget (fun _ => {}) s.arbs (arbKey kind i)
def setArb (s : State) (kind : ArbKind) (i : Nat) (a : ArbSt) : State :=
  { s with arbs := tset (fun _ => {}) s.arbs (arbKey kind i) a }

/-- Written settings of an instance: WAIT_LIMIT and QUOTA (R92, R100, R121, R188); those of origin injection are fixed (R251 Table 7). -/
def arbSettings (s : State) (kind : ArbKind) (i : Nat) : Nat × Nat :=
  match kind with
  | .engine => (dval s Obj.engineWaitLimit, dval s Obj.engineQuota)
  | .mesh => (dval s Obj.meshWaitLimit, dval s Obj.meshQuota)
  | .signal => (4, 512)
  | .stack => (dval s Obj.memWaitLimit, dval s Obj.memQuota)
  | .fabric => if 16 ≤ i ∧ i < 24 then (32, 256) else (dval s Obj.fabricWaitLimit, dval s Obj.fabricQuota)
  | .house => (4, 512)

/-- Default settings, in force until an instance's first window boundary. -/
def arbDefaults (kind : ArbKind) : Nat × Nat :=
  match kind with
  | .signal => (4, 512)
  | .house => (4, 512)
  | _ => (32, 256)

/-- HOLD_FACTOR as written (R100, R188, R251). -/
def arbFactor (s : State) (kind : ArbKind) : Nat := match kind with | .mesh => dval s Obj.meshHoldFactor | _ => 2

/-- The class of a request (R92, R100 Table 10, R121, R188 Table 11, R251 Table 7). -/
def arbHigh (kind : ArbKind) (i : Nat) (r : ArbReq) : Bool :=
  match kind with
  | .engine => r.requester == 0
  | .mesh => r.vc == 0
  | .signal => r.vc != 1
  | .stack => decide (r.requester.val ≤ 1)
  | .fabric => if 16 ≤ i ∧ i < 24 then r.requester == 18 else decide (2 ≤ r.requester.val)
  | .house => decide (3 ≤ r.requester.val)

/-- The declared burst of a request, in cycles of its resource. -/
def arbBurst (kind : ArbKind) (r : ArbReq) : Nat :=
  match kind with
  | .engine => max 1 (min 4 r.len.val)
  | .mesh => max 1 (cdiv r.len.val 4)
  | .signal => r.len.val + 1
  | .stack => if r.vc = 1 then 2 else 1
  | .fabric => r.len.val + 1
  | .house => 1

/-- Resource cycles in a time: of the compute die's clock, the timing clock, 2 ns command slots, 26 flit positions in a slot, slots. -/
def arbCycles (kind : ArbKind) (ns : Nat) : Nat :=
  match kind with
  | .engine => ns * 5 / 4
  | .mesh => ns * 5 / 4
  | .signal => ns
  | .stack => ns / 2
  | .fabric => ns * 26 / 16
  | .house => ns / 16

/-- Cycles that the grant in use has lasted. -/
def heldCycles (s : State) (kind : ArbKind) (a : ArbSt) : Nat := arbCycles kind (s.ticks - a.since)

/-- Settings in force at an instance (R100). -/
def arbLimits (kind : ArbKind) (a : ArbSt) : Nat × Nat :=
  if a.waitLimit = 0 then arbDefaults kind else (a.waitLimit, a.quota)

def arbWait (a : ArbSt) (r : Nat) : Nat := tget (fun _ => 0) a.wait r
def arbUsed (a : ArbSt) (r : Nat) : Nat := tget (fun _ => 0) a.used r

/-- The first of some requesters after the last granted one, in requester order. -/
def firstAfter (last : Nat) (rs : List Nat) : Option Nat :=
  (List.range 32).map (fun i => (last + 1 + i) % 32) |>.find? (fun r => rs.contains r)

/-- The requester a decision grants, whether it was forced, and whether fall-back begins (R97). `high` gives a request's class. -/
def arbChoose (high : ArbReq → Bool) (lim quota : Nat) (a : ArbSt) (rs : List ArbReq) : Option (Nat × Bool × Bool) :=
  let names := fun (l : List ArbReq) => l.map (fun r => r.requester.val)
  let forced := rs.filter (fun r => arbWait a r.requester.val == lim)
  if !forced.isEmpty then
    (firstAfter a.last (names forced)).map (fun g => (g, true, decide (forced.length ≥ 2)))
  else
    let free := rs.filter (fun r => !(a.fallback && high r && decide (arbUsed a r.requester.val ≥ quota)))
    let cand := if free.isEmpty then rs else free
    let top := cand.filter high
    (firstAfter a.last (names (if top.isEmpty then cand else top))).map (fun g => (g, false, false))

/-- A decision's effect on the arbiter (R97): `burst` is what the winner declares, `now` when it is granted. -/
def arbGrant (lim now burst : Nat) (a : ArbSt) (rs : List ArbReq) (g : Nat) (fallback : Bool) : ArbSt :=
  let wait := rs.foldl (fun w r =>
    if r.requester.val = g then w else tset (fun _ => 0) w r.requester.val (min (arbWait a r.requester.val + 1) lim))
    (tset (fun _ => 0) a.wait g 0)
  { a with wait := wait, used := tset (fun _ => 0) a.used g (arbUsed a g + 1), last := g,
           fallback := a.fallback || fallback, holder := some g, since := now, burst := burst }

/-- One decision among the listed requesters, the resource being free (R97). DESIGN CHOICE (log 106): MESH_FORCED_WINS and
MESH_FALLBACK_WINDOWS count the mesh outputs and the engine ports, whose settings stand beside them. -/
def doArbiter (s : State) (kind : ArbKind) (i : Nat) (rs : List ArbReq) : State :=
  let a := arbAt s kind i
  let l := arbLimits kind a
  match arbChoose (arbHigh kind i) l.1 l.2 a rs with
  | none => s
  | some (g, forced, fb) =>
    let burst := ((rs.find? (fun r => r.requester.val == g)).map (arbBurst kind)).getD 1
    let s := setArb s kind i (arbGrant l.1 s.ticks burst a rs g fb)
    if forced && (kind == .mesh || kind == .engine) then bump s Obj.meshForcedWins else s

/-- The resource is free: nobody holds it, or its holder has had its declared burst. That an arbiter decides says the holder has let go. -/
def arbFree (s : State) (kind : ArbKind) (i : Nat) : Bool :=
  let a := arbAt s kind i
  a.holder.isNone || decide (a.burst ≤ heldCycles s kind a)

/-- The holder lets go. -/
def arbRelease (s : State) (kind : ArbKind) (i : Nat) : State := setArb s kind i { arbAt s kind i with holder := none }

/-- The requests that may be granted now: in a command slot that a memory base die's pause count leaves idle, those of refresh and of
the atomic unit (R340). -/
def arbOpen (s : State) (kind : ArbKind) (i : Nat) (rs : List ArbReq) : List ArbReq :=
  if kind == .stack && idleCycle (thermAt s (siteMD (i / 4))).p (s.ticks / 2) then rs.filter (arbHigh kind i) else rs

def execArbiterDecision (kind : ArbKind) (i : Fin 100000) (rs : List ArbReq) (s : State) : Host.Outcome State Fault Refusal :=
  .next (if arbFree s kind i.val then doArbiter s kind i.val (arbOpen s kind i.val rs) else s)

/-- A window of 1,024 resource cycles ends: grants and fall-back are reset, written settings take effect (R97, R100). -/
def doWindowEnd (s : State) (kind : ArbKind) (i : Nat) : State :=
  let a := arbAt s kind i
  let l := arbSettings s kind i
  if arbCycles kind (s.ticks - a.winStart) < 1024 then s
  else
    let s' := setArb s kind i { a with used := [], fallback := false, winStart := s.ticks, waitLimit := l.1, quota := l.2, holdFactor := arbFactor s kind }
    if a.fallback && (kind == .mesh || kind == .engine) then bump s' Obj.meshFallbackWindows else s'

def execArbiterWindowEnd (kind : ArbKind) (i : Fin 100000) (s : State) : Host.Outcome State Fault Refusal :=
  .next (doWindowEnd s kind i.val)

/-- The die and block that hold an arbiter, and its number there (R472). Fabric arbiters are numbered by link, then 16 + n for FDn's origin
injection, then by path end (`pathKey`). -/
def arbPlace (kind : ArbKind) (i : Nat) : Nat × Nat × Nat :=
  match kind with
  | .engine => (siteCD (i / 64), 0x01, i % 64)
  | .mesh => (siteCD (i / 512), 0x02, i % 512)
  | .signal => (i % 100, 0x07, i / 100)
  | .stack => (siteMD (i / 4), 0x05, i % 4)
  | .fabric => if i < 16 then (siteFD (i / 2), 0x0D, i) else if i < 24 then (siteFD (i - 16), 0x0D, i)
    else ((i - 32) / 128, if (i - 32) / 128 < 64 ∨ 72 ≤ (i - 32) / 128 then 0x03 else 0x0D, (i - 32) % 128)
  | .house => (i % 100, 0x03, i / 100)

/-- The cut counter of a kind. -/
def arbCutCounter (kind : ArbKind) : Option Nat :=
  match kind with
  | .engine => some Obj.meshHoldCuts
  | .mesh => some Obj.meshHoldCuts
  | .stack => some Obj.memHoldCuts
  | .fabric => some Obj.fabricHoldCuts
  | _ => none

/-- Does the effect of a cut mark lines of a tile (R99 Table 10, R362)? -/
def cutMarks (s : State) (kind : ArbKind) (i : Nat) (item : CutItem) : Bool :=
  match kind, item with
  | .mesh, .mesh p got => decide (p.dst.toNat < 64 ∧ (p.kind = 1 ∨ p.kind = 3 ∨ p.kind = 4) ∧ got.val < p.len.toNat) && !tileOut s (64 * (i / 512) + p.dst.toNat)
  | _, _ => false

/-- The cut-off effect (R100 Table 10): a mesh packet's remaining flits are discarded, its unreceived lines are
poison-marked and its source is told; a signal packet is discarded; a fabric packet's remaining flits are not sent; an access is presented
again. A mesh output is numbered 512 cd + 8 router + output. DESIGN CHOICE (log 106): a NOTICE about a READ_REQ or READ_RSP, which
carry no FLOW, has FLOW 0. -/
def cutEffect (s : State) (kind : ArbKind) (i : Nat) (item : CutItem) : State :=
  match kind, item with
  | .mesh, .mesh p got =>
    let cd := i / 512
    let d := p.dst.toNat
    let r := i % 512 / 8
    let s := deliver s (.mesh cd r p)
    let s := if got.val = 0 then s else forward s cd r { p with len := BitVec.ofNat 5 got.val, flits := p.flits.take got.val }
    let s := if d < 64 ∧ (p.kind = 1 ∨ p.kind = 3 ∨ p.kind = 4) ∧ !tileOut s (64 * cd + d) then
        updTile s (64 * cd + d) (fun t => { t with store :=
          (List.range (p.len.toNat - got.val)).foldl (fun st j => setMark st (pktLine p + got.val + j) true) t.store })
      else s
    meshSend s cd (notice d p.src.toNat 3 (pktLine p) (if p.kind = 2 ∨ p.kind = 3 then 0 else pktFlow p))
  | .signal, .sig p => deliver s (.sig p)
  | .fabric, _ =>
    if 16 ≤ i ∧ i < 24 then s
    else { s with fab := { s.fab with links := tupd (fun _ => {}) s.fab.links i (fun v =>
      { v with out := [], sent := tupd (fun _ => 0) v.sent v.outKey (fun c => (c + 4096 - v.out.length) % 4096) }) } }
  | _, _ => s

/-- The bank that a stack channel's granted access waits for is being repaired: that wait does not count (R188). -/
def bankBusy (s : State) (kind : ArbKind) (i : Nat) (item : CutItem) : Bool :=
  match kind, item with
  | .stack, .bank b =>
    decide (s.ticks < tget (fun _ => 0) (stackAt s (i / 4)).busyTo (16 * (i % 4) + b.val)) ||
    match (stackAt s (i / 4)).repairing with
    | some r => r.row / 131072 == 16 * (i % 4) + b.val
    | none => false
  | _, _ => false

/-- The tick from which a grant's hold counts: at a stack, not before its bank was free (R188). -/
def heldSince (s : State) (kind : ArbKind) (i : Nat) (item : CutItem) (a : ArbSt) : Nat :=
  match kind, item with
  | .stack, .bank b => max a.since (tget (fun _ => 0) (stackAt s (i / 4)).busyTo (16 * (i % 4) + b.val))
  | _, _ => a.since

/-- A requester still holds a resource at its hold limit, HOLD_FACTOR times the burst it declared (R99). -/
def doHoldCut (s : State) (kind : ArbKind) (i : Nat) (item : CutItem) : State :=
  let a := arbAt s kind i
  match a.holder with
  | none => s
  | some g =>
    if heldCycles s kind { a with since := heldSince s kind i item a } < a.holdFactor * a.burst ∨ bankBusy s kind i item then s else
    let s := setArb s kind i { a with holder := none }
    let s := match arbCutCounter kind with | some c => bump s c | none => s
    let pl := arbPlace kind i
    let s := raise s pl.1 pl.2.1 0x0C 1 (cutMarks s kind i item) (pl.2.2 % 256 + g * 256)
    cutEffect s kind i item

/-- The engine port has waited 16 cycles: the network port is refused for one cycle and the refusal counted (R71). -/
def execEngineGuard (cd : Fin 16) (t : Fin 64) (s : State) : Host.Outcome State Fault Refusal :=
  .next (if tileLive s (tkey cd t) then bump s Obj.tsEngineGuard else s)

end Sys2Proof.Machine
end

