-- ==== Sys2Proof/Machine/Mem.lean ====
section
/-! DEFINITION. Memory base dies (R171 to R196): requests, the reduce and atomic units, refresh, scrub, repair and the
loss of a stack. -/
namespace Sys2Proof.Machine

/-! Requests at the stack (R172, R174). -/

def kindOf (s : State) (flow : Nat) : FlowKind := (tfind s.flowKinds flow).getD .copy

/-- The REQ_DONE packet (R91 Table 8). -/
def donePacket (md : Nat) (r : Request) (status : Nat) : SigPacket :=
  { dst := r.src, src := BitVec.ofNat 7 (siteMD md), vc := 1, ptype := 7, len := 0, poison := false,
    fields := r.tile ++ r.tag ++ BitVec.ofNat 2 status ++ (0 : BitVec 22), payload := [] }

def sendDone (s : State) (md : Nat) (r : Request) (status : Nat) : State := emit s (.sig (donePacket md r status))

def reqLines (r : Request) : Nat := r.linesM1.toNat + 1

/-- The signal packet a request travels in. -/
def requestPacket (md : Nat) (r : Request) (load : Bool) : SigPacket :=
  { dst := BitVec.ofNat 7 (siteMD md), src := r.src, vc := 1, ptype := if load then 5 else 6, len := 1, poison := false,
    fields := r.tile ++ r.tag ++ r.flow ++ (0 : BitVec 8), payload := [r.linesM1 ++ (0 : BitVec 4) ++ r.addr] }

/-- Queue data for a flow's slots at a stack. -/
def stackQueue (st : Stack) (flow : Nat) (items : List TxFlit) : Stack :=
  if items.isEmpty then st
  else { st with txq := tput st.txq flow ((tfind st.txq flow).getD [] ++ items) }

/-- One line of a LOAD_REQ: read, with its corrections and counts, and queued at its position in the range. -/
def loadLine (md : Nat) (r : Request) (acc : List TxFlit × Bool × State) (i : Nat) : List TxFlit × Bool × State :=
  let s := acc.2.2
  match mapAddr s (r.addr.toNat + 64 * i) with
  | none => acc
  | some (_, o) =>
    let v := lineRead (stackAt s md) (o / 64)
    (acc.1 ++ [{ dstSite := r.src.toNat, req := true, tile := r.tile, tag := r.tag, offset := i,
                 flit := { data := v.1, poison := v.2 }, last := false }],
     acc.2.1 || v.2, lineReadEffects s md (o / 64))

/-- A poison-marked line whose bytes nothing states. -/
def freePoison (ctr i : Nat) : Flit := { data := (List.range 64).map (fun b => Config.freeByte ctr (64 * i + b)), poison := true }

/-- Is the bank of a stack offset held by a soft repair (R193 Table 13)? -/
def bankHeld (s : State) (md o : Nat) : Bool :=
  match (stackAt s md).repairing with
  | some r => r.row / 131072 == offChannel o * 16 + offBank o
  | none => false

def bankHeldAt (s : State) (md a : Nat) : Bool := match mapAddr s a with | some (_, o) => bankHeld s md o | none => false

/-- Work waits for the repaired bank. DESIGN CHOICE (log 109): a LOAD_REQ or record that touches the bank waits whole. -/
def waitBank (s : State) (md : Nat) (x : BankItem) : State := updStack s md (fun st => { st with bankWait := st.bankWait ++ [x] })

/-- A memory base die refuses a request or record, and says so (R170, R349). -/
def refuseHere (s : State) (md block a : Nat) : State := raise s (siteMD md) block 0x2C 1 false (lineDetail a)

/-- A LOAD_REQ at a stack of a lost set that works: its lines are delivered poison-marked, and STATUS is 01 (R196). -/
def loadLost (s : State) (md : Nat) (r : Request) : State :=
  let pos := sharePositions s md r.addr.toNat (reqLines r)
  let items := pos.map (fun i =>
    ({ dstSite := r.src.toNat, req := true, tile := r.tile, tag := r.tag, offset := i, flit := freePoison s.freeCtr i, last := false } : TxFlit))
  let s := updStack s md (fun st => stackQueue st r.flow.toNat items)
  bumpFree (updStack s md (fun st => { st with held := st.held ++ [{ req := r, load := true, need := pos, got := [], poisoned := true, at_ := s.ticks }] }))

/-- A LOAD_REQ that its stack has accepted (R170, R172, R174); a stack that fails in serving it answers nothing (R195). -/
def loadHere (s : State) (md : Nat) (r : Request) : State :=
  let pos := sharePositions s md r.addr.toNat (reqLines r)
  if rangeRefused s r.addr.toNat (64 * reqLines r) then sendDone (refuseHere s md 0x05 r.addr.toNat) md r 2
  else if pos.any (fun i => bankHeldAt s md (r.addr.toNat + 64 * i)) then waitBank s md (.load r)
  else match kindOf s r.flow.toNat with
    | .copy =>
      if pos.isEmpty then sendDone s md r 0
      else
        let x := pos.foldl (loadLine md r) ([], false, s)
        if (stackAt x.2.2 md).failed then x.2.2
        else updStack x.2.2 md (fun st => { stackQueue st r.flow.toNat x.1 with
          held := st.held ++ [{ req := r, load := true, need := pos, got := [], poisoned := x.2.1, at_ := s.ticks }] })
    | _ => sendDone s md r 2

/-- A LOAD_REQ at a memory base die (R170, R172, R174, R191, R196). -/
def doLoadReq (s : State) (md : Nat) (r : Request) : State :=
  if setLostNow s (setOf md) && stackWorks s md then loadLost s md r
  else if !stackServes s md then s
  else loadHere s md r

def execLoadReq (md : Fin 24) (r : Request) (s : State) : Host.Outcome State Fault Refusal :=
  .next (if !sigPath s r.src.toNat (siteMD md.val) then s else doLoadReq (sigArrive s (requestPacket md.val r true)) md.val r)

def isAtomicKind (k : FlowKind) : Bool := match k with | .atomic _ => true | _ => false

/-- A STORE_REQ at a memory base die: its share is awaited (R172); on an ATOMIC flow every record is (R174), of a lost set too, whose
records are answered with STATUS 3 (R196). -/
def doStoreReq (s : State) (md : Nat) (r : Request) : State :=
  let lost := setLostNow s (setOf md) && stackWorks s md
  let atomic := isAtomicKind (kindOf s r.flow.toNat)
  if lost && !atomic then sendDone s md r 2
  else if !lost && !stackServes s md then s
  else if rangeRefused s r.addr.toNat (64 * reqLines r) then sendDone (refuseHere s md 0x05 r.addr.toNat) md r 2
  else
    let pos := if atomic then List.range (reqLines r) else sharePositions s md r.addr.toNat (reqLines r)
    if pos.isEmpty then sendDone s md r 0
    else updStack s md (fun st => { st with
      held := st.held ++ [{ req := r, load := false, need := pos, got := [], poisoned := false, at_ := s.ticks }] })

def execStoreReq (md : Fin 24) (r : Request) (s : State) : Host.Outcome State Fault Refusal :=
  .next (if !sigPath s r.src.toNat (siteMD md.val) then s else doStoreReq (sigArrive s (requestPacket md.val r false)) md.val r)

/-- REQ_DONE at the requesting die (R171). -/
def execReqDone (cd : Fin 16) (md : Fin 24) (tile : BitVec 6) (tag : BitVec 10) (status : BitVec 2) (s : State) :
    Host.Outcome State Fault Refusal :=
  .next (if !sigPath s (siteMD md.val) (siteCD cd.val) then s else reqDone (sigArrive s (donePacket md.val
    { src := BitVec.ofNat 7 (siteCD cd.val), tile := tile, tag := tag, flow := 0, linesM1 := 0, addr := 0 } status.toNat))
    cd.val md.val tag status)

/-- A flit of result records of an ATOMIC flow's request, for the return flow's slots (R174, R183). -/
def resultFlit (h : Held) (data : List Byte) : TxFlit :=
  { dstSite := h.req.src.toNat, req := true, tile := h.req.tile, tag := h.req.tag, offset := h.flitsOut,
    flit := { data := slice data 0 64, poison := false }, last := false }

/-- Result records of a request gather in record order, four to a flit; a full flit is queued (R183). -/
def addResults (ret : Nat) (st : Stack) (h : Held) (res : List Byte) : Stack × Held :=
  let all := h.part ++ res
  if all.length < 64 || st.failed then (st, { h with part := all })
  else (stackQueue st ret [resultFlit h (all.take 64)], { h with part := all.drop 64, flitsOut := h.flitsOut + 1 })

/-- A request's share is complete at a stack: a last flit of results, REQ_DONE, and the request is gone (R172, R183, R196); a failed stack
answers nothing (R195). -/
def closeHeld (s : State) (md : Nat) (h : Held) : State :=
  if (stackAt s md).failed then s else
  let s := updStack s md (fun st => { st with held := st.held.filter (fun x => !(x.req == h.req && x.load == h.load)) })
  let s := match kindOf s h.req.flow.toNat with
    | .atomic ret => if h.part.isEmpty then s else updStack s md (fun st => stackQueue st ret.toNat [resultFlit h h.part])
    | _ => s
  settleStack (sendDone s md h.req (if setLostNow s (setOf md) && !h.load then 2 else if h.poisoned then 1 else 0)) md

/-- Positions served by a held request grow; at the last one it closes. -/
def serveHeld (s : State) (md : Nat) (h : Held) (i : Nat) : State :=
  let h' := { h with got := addPos h.got i }
  if (stackAt s md).failed then s
  else if h'.need.all (fun j => h'.got.contains j) then closeHeld s md h'
  else updStack s md (fun st => { st with held := st.held.map (fun x => if x.req = h.req ∧ x.load = h.load then h' else x) })

/-! Atomics and reductions (R180 to R185). -/

/-- The 32 bytes of a flit read as an operation record (R183 Table 8). -/
def recordOf (bs : List Byte) : OpRecord :=
  { op := bs.getD 0 0, fmt := bs.getD 1 0, lines := bs.getD 2 0, res3 := bs.getD 3 0,
    id := BitVec.ofNat 32 (leAt bs 4 4), addr := BitVec.ofNat 64 (leAt bs 8 8),
    operand := BitVec.ofNat 64 (leAt bs 16 8), compare := BitVec.ofNat 64 (leAt bs 24 8) }

/-- The 16 bytes of a result record (R183 Table 9). -/
def resultBytes (status : Nat) (r : OpRecord) (old : Word) : List Byte :=
  [BitVec.ofNat 8 status, r.op, 0, 0] ++ toLe 4 r.id.toNat ++ toLe 8 old.toNat

def isAtomicOp (op : Nat) : Bool := decide (1 ≤ op ∧ op ≤ 10)
def isReduceOp (op : Nat) : Bool := decide (0x11 ≤ op ∧ op ≤ 0x13)

/-- Is a record well formed, and does its address lie on this stack (R183, R185)? -/
def recordValid (s : State) (md : Nat) (r : OpRecord) : Bool :=
  let a := r.addr.toNat
  let here := match mapAddr s a with | some (m, _) => m == md | none => false
  let plain := r.res3 == 0 && decide (a < 2 ^ 44) && here
  if isAtomicOp r.op.toNat then
    plain && r.fmt == 0 && r.lines == 0 && a % 8 == 0 && (r.op == 3 || r.compare == 0)
  else if isReduceOp r.op.toNat then
    plain && decide (r.fmt.toNat ≤ 4) && decide (1 ≤ r.lines.toNat ∧ r.lines.toNat ≤ 16) && r.operand == 0 &&
    r.compare == 0 && a % 64 == 0 && decide (a % 4096 + 64 * r.lines.toNat ≤ 4096)
  else false

/-- The new value of the word (R184 Table 10). -/
def atomicNew (op : Nat) (old opd cmp : Word) : Word :=
  match op with
  | 1 => old + opd
  | 2 => opd
  | 3 => if old = cmp then opd else old
  | 4 => if old.slt opd then old else opd
  | 5 => if old.slt opd then opd else old
  | 6 => if old.ult opd then old else opd
  | 7 => if old.ult opd then opd else old
  | 8 => old &&& opd
  | 9 => old ||| opd
  | 10 => old ^^^ opd
  | _ => old

/-- An atomic at its line's order point (R184 to R187): STATUS, OLD and the state. The line it changes enters the write-back
buffer; one it leaves unchanged does not (log 109). -/
def atomicApply (s : State) (md : Nat) (r : OpRecord) (poison : Bool) : Nat × Word × State :=
  let o := ((mapAddr s r.addr.toNat).getD (0, 0)).2
  let l := o / 64
  let v := lineRead (stackAt s md) l
  let s1 := bump (lineReadEffects s md l) Obj.atomics
  if v.2 then (1, BitVec.allOnes 64, s1)
  else
    let old := BitVec.ofNat 64 (leAt v.1 (o % 64) 8)
    let s2 := updStack s1 md (fun st => bufTake st { line := l, data := v.1, poison := false })
    (0, old, memWriteLine s2 md l (splice v.1 (o % 64) (toLe 8 (atomicNew r.op.toNat old r.operand r.compare).toNat)) poison)

/-- Bytes of an element and its float format, if it has one, by reduce format code (R180 Table 7). -/
def redWidth (fmt : Nat) : Nat := match fmt with | 1 => 2 | 2 => 2 | 4 => 8 | _ => 4
def redFmt (fmt : Nat) : Option Fmt :=
  match fmt with | 0 => some fmtF32 | 1 => some fmtBF16 | 2 => some fmtF16 | _ => none

/-- One element: stored op incoming (R181). -/
def redElem (op fmt a b : Nat) : Nat :=
  let w := redWidth fmt
  match redFmt fmt with
  | some f =>
    let x := decodeF f a
    let y := decodeF f b
    if op = 0x11 then (toIeee f .rne (fvSum false [x, y])).bits
    else if x.isNan || y.isNan then f.qnan
    else
      let lt := match fvCmp x y with
        | .lt => true
        | .gt => false
        | .eq => x.neg? && !y.neg?
      if op = 0x12 then (if lt then a else b) else (if lt then b else a)
  | none =>
    if op = 0x11 then (a + b) % 2 ^ (8 * w)
    else
      let lt := decide (sint (8 * w) a < sint (8 * w) b)
      if op = 0x12 then (if lt then a else b) else (if lt then b else a)

/-- A whole line, element by element. -/
def redLine (op fmt : Nat) (a b : List Byte) : List Byte :=
  let w := redWidth fmt
  (List.range (64 / w)).flatMap (fun i => toLe w (redElem op fmt (leAt a (w * i) w) (leAt b (w * i) w)))

/-- An incoming line is combined with the stored one (R180, R181): poison of either side marks the result, which is
computed from the bytes as read. Answers whether the stored line was poison-marked or uncorrectable. -/
def reduceLine (s : State) (md l op fmt : Nat) (fl : Flit) : Bool × State :=
  let v := lineRead (stackAt s md) l
  let s := bump (lineReadEffects s md l) Obj.reduceLines
  (v.2, memWriteLine s md l (redLine op fmt v.1 fl.data) (v.2 || fl.poison))

/-- A reduce record's lines in order (R182). -/
def reduceApply (s : State) (md : Nat) (r : OpRecord) (data : List Flit) : Nat × State :=
  let x := (List.range r.lines.toNat).foldl (fun (acc : Bool × State) i =>
    match mapAddr acc.2 (r.addr.toNat + 64 * i) with
    | some (_, o) =>
      let y := reduceLine acc.2 md (o / 64) r.op.toNat r.fmt.toNat (data.getD i { data := [], poison := false })
      (acc.1 || y.1, y.2)
    | none => acc) (false, s)
  (if x.1 then 1 else 0, x.2)

/-- The OLD field of a reduce record's result (R183 Table 9). -/
def reduceOld (status : Nat) : Word := if status = 1 then BitVec.allOnes 64 else 0

/-- A result record leaves a stack that has not failed in the access (R195). -/
def sendResult (s : State) (md site : Nat) (bs : List Byte) : State := if (stackAt s md).failed then s else emit s (.result md site bs)

/-- A carrier's record that its stack has accepted: executed and answered (R170, R183, R185). -/
def recordHere (s : State) (md site : Nat) (r : OpRecord) (data : List Flit) (poison : Bool) : State :=
  if !recordValid s md r then emit (refuseHere s md 0x06 r.addr.toNat) (.result md site (resultBytes 2 r 0))
  else if (List.range (max 1 r.lines.toNat)).any (fun i => bankHeldAt s md (r.addr.toNat + 64 * i)) then waitBank s md (.record site r data poison)
  else if isAtomicOp r.op.toNat then
    let x := atomicApply s md r poison
    sendResult x.2.2 md site (resultBytes x.1 r x.2.1)
  else
    let x := reduceApply s md r data
    sendResult x.2 md site (resultBytes x.1 r (reduceOld x.1))

/-- A record from a carrier at `site` (R170, R183, R196); a stack that does not serve answers nothing (R191, R195). -/
def doRecord (s : State) (md site : Nat) (r : OpRecord) (data : List Flit) (poison : Bool) : State :=
  if setLostNow s (setOf md) && stackWorks s md then emit s (.result md site (resultBytes 3 r 0))
  else if !stackServes s md then s
  else recordHere s md site r data poison

/-- A carrier's record with the OP a command names; another OP is another command's. -/
def recordCmd (op : Nat) (md : Fin 24) (site : Fin 100) (r : OpRecord) (data : List Flit) (poison : Bool) (s : State) : State :=
  if r.op.toNat = op then doRecord s md.val site.val r data poison else s

def execAdd (md : Fin 24) (site : Fin 100) (r : OpRecord) (poison : Bool) (s : State) : Host.Outcome State Fault Refusal := .next (recordCmd 0x01 md site r [] poison s)
def execSwap (md : Fin 24) (site : Fin 100) (r : OpRecord) (poison : Bool) (s : State) : Host.Outcome State Fault Refusal := .next (recordCmd 0x02 md site r [] poison s)
def execCas (md : Fin 24) (site : Fin 100) (r : OpRecord) (poison : Bool) (s : State) : Host.Outcome State Fault Refusal := .next (recordCmd 0x03 md site r [] poison s)
def execMin (md : Fin 24) (site : Fin 100) (r : OpRecord) (poison : Bool) (s : State) : Host.Outcome State Fault Refusal := .next (recordCmd 0x04 md site r [] poison s)
def execMax (md : Fin 24) (site : Fin 100) (r : OpRecord) (poison : Bool) (s : State) : Host.Outcome State Fault Refusal := .next (recordCmd 0x05 md site r [] poison s)
def execMinu (md : Fin 24) (site : Fin 100) (r : OpRecord) (poison : Bool) (s : State) : Host.Outcome State Fault Refusal := .next (recordCmd 0x06 md site r [] poison s)
def execMaxu (md : Fin 24) (site : Fin 100) (r : OpRecord) (poison : Bool) (s : State) : Host.Outcome State Fault Refusal := .next (recordCmd 0x07 md site r [] poison s)
def execAnd (md : Fin 24) (site : Fin 100) (r : OpRecord) (poison : Bool) (s : State) : Host.Outcome State Fault Refusal := .next (recordCmd 0x08 md site r [] poison s)
def execOr (md : Fin 24) (site : Fin 100) (r : OpRecord) (poison : Bool) (s : State) : Host.Outcome State Fault Refusal := .next (recordCmd 0x09 md site r [] poison s)
def execXor (md : Fin 24) (site : Fin 100) (r : OpRecord) (poison : Bool) (s : State) : Host.Outcome State Fault Refusal := .next (recordCmd 0x0A md site r [] poison s)
def execReduceAdd (md : Fin 24) (site : Fin 100) (r : OpRecord) (data : List Flit) (s : State) : Host.Outcome State Fault Refusal := .next (recordCmd 0x11 md site r data false s)
def execReduceMin (md : Fin 24) (site : Fin 100) (r : OpRecord) (data : List Flit) (s : State) : Host.Outcome State Fault Refusal := .next (recordCmd 0x12 md site r data false s)
def execReduceMax (md : Fin 24) (site : Fin 100) (r : OpRecord) (data : List Flit) (s : State) : Host.Outcome State Fault Refusal := .next (recordCmd 0x13 md site r data false s)

/-- A record with a reserved OP, a bad field or a foreign address (R185). OP 0x00 is empty and gets no result. -/
def execInvalidRecord (md : Fin 24) (site : Fin 100) (r : OpRecord) (s : State) : Host.Outcome State Fault Refusal :=
  .next (if r.op = 0 ∨ recordValid s md.val r then s else doRecord s md.val site.val r [] false)

/-- One record of an ATOMIC flow: its result record, and the state (R183, R185, R196). -/
def atomicRecord (s : State) (md : Nat) (r : OpRecord) (poison : Bool) : List Byte × State :=
  if setLostNow s (setOf md) then (resultBytes 3 r 0, s)
  else if !recordValid s md r || !isAtomicOp r.op.toNat then (resultBytes 2 r 0, refuseHere s md 0x06 r.addr.toNat)
  else
    let y := atomicApply s md r poison
    (resultBytes y.1 r y.2.1, y.2.2)

/-- The records of an ATOMIC flow's flit: two, of which an empty one gets no result (R183). -/
def flitRecords (fl : Flit) : List OpRecord := [recordOf (fl.data.take 32), recordOf (fl.data.drop 32)].filter (fun r => r.op ≠ 0)

/-- A flit of operation records on an ATOMIC flow (R174, R183), executed in order; its results join the request's. -/
def atomicFlit (s : State) (md : Nat) (h : Held) (ret : Nat) (fl : Flit) : State × Held :=
  let x := (flitRecords fl).foldl (fun (acc : List Byte × State) r =>
    let y := atomicRecord acc.2 md r fl.poison
    (acc.1 ++ y.1, y.2)) ([], s)
  let y := addResults ret (stackAt x.2 md) h x.1
  (setStack x.2 md y.1, y.2)

/-- Lines of module DRAM that a flit of a request touches. -/
def flitTouches (s : State) (h : Held) (pos : Nat) (fl : Flit) : List Nat :=
  if isAtomicKind (kindOf s h.req.flow.toNat) then (flitRecords fl).map (fun r => r.addr.toNat) else [h.req.addr.toNat + 64 * pos]

/-- A flit of a STORE_REQ reaches its memory base die (R172, R174, R180): written, reduced or executed at its
position. A stack of a lost set takes only the records it answers (R196). -/
def storeFlit (s : State) (md : Nat) (src : Nat) (tile : BitVec 6) (tag : BitVec 10) (pos : Nat) (fl : Flit) : State :=
  match (stackAt s md).held.find? (fun h => !h.load && h.req.src.toNat == src && h.req.tile == tile && h.req.tag == tag) with
  | none => s
  | some h =>
    if !h.need.contains pos || h.got.contains pos then s
    else if !stackWorks s md then s
    else if (flitTouches s h pos fl).any (bankHeldAt s md) then waitBank s md (.flit src tile tag pos fl)
    else
      let a := h.req.addr.toNat + 64 * pos
      let x := match kindOf s h.req.flow.toNat, mapAddr s a with
        | .copy, some (_, o) => (memWriteLine s md (o / 64) fl.data fl.poison, h)
        | .reduce op fmt, some (_, o) => ((reduceLine s md (o / 64) op.toNat fmt.toNat fl).2, h)
        | .atomic ret, _ => atomicFlit s md h ret.toNat fl
        | _, none => (s, h)
      serveHeld x.1 md x.2 pos

/-- 20 µs after a STORE_REQ the memory base die writes its missing granules poison-marked and answers STATUS 01
(R132). The marked granules' bytes are not stated: they are free. -/
def doStoreTimeout (s : State) (md : Nat) (src : BitVec 7) (tile : BitVec 6) (tag : BitVec 10) : State :=
  match (stackAt s md).held.find? (fun h => !h.load && h.req.src == src && h.req.tile == tile && h.req.tag == tag) with
  | none => s
  | some h =>
    if s.ticks < h.at_ + 20000 ∨ !stackWorks s md then s
    else
      let missing := h.need.filter (fun i => !h.got.contains i)
      let s := if isAtomicKind (kindOf s h.req.flow.toNat) || setLostNow s (setOf md) then s
        else missing.foldl (fun s' i => match mapAddr s' (h.req.addr.toNat + 64 * i) with
            | some (_, o) => memWriteLine s' md (o / 64) ((List.range 64).map (fun b => Config.freeByte s.freeCtr (64 * i + b))) true
            | none => s') s
      bumpFree (closeHeld s md { h with poisoned := true })

def execStoreReqTimeout (md : Fin 24) (src : BitVec 7) (tile : BitVec 6) (tag : BitVec 10) (s : State) :
    Host.Outcome State Fault Refusal :=
  .next (doStoreTimeout s md.val src tile tag)

/-! Refresh, scrub and repair (R190 to R194). -/

/-- A per-bank refresh falls due (R190): with its bank busy it is postponed, up to eight; the ninth is forced. On a
free bank it runs, and with it one that was postponed; it keeps the bank busy for 90 ns (R188). -/
def doRefresh (s : State) (md bank : Nat) (busy : Bool) : State :=
  let st := stackAt s md
  if st.off || st.selfRefresh || st.failed then s
  else
    let n := tget (fun _ => 0) st.postponed bank
    setStack s md { st with postponed := tset (fun _ => 0) st.postponed bank (if busy then min (n + 1) 8 else n - 1)
                            busyTo := if busy && decide (n < 8) then st.busyTo else tset (fun _ => 0) st.busyTo bank (s.ticks + 90) }

def execRefresh (md : Fin 24) (bank : Fin 64) (busy : Bool) (s : State) : Host.Outcome State Fault Refusal :=
  .next (doRefresh s md.val bank.val busy)

/-- Access units of a stack: 128 GiB in 256 B units. -/
def scrubUnits : Nat := 2 ^ 29

/-- A scrub pass starts: each die's rows and each row's lines of the pass are cleared; the first pass since ready goes on with what has
been counted since then (R178, R193). -/
def startPass (st : Stack) : Stack :=
  if !st.scrubbed then st
  else { st with passRows := [], rowHits := st.rowHits.map (fun h => { h with lines := [], earlier := h.earlier || !h.lines.isEmpty }) }

/-- Scrub of one line (R192): corrected lines are written back, uncorrectable ones poison-marked with their bytes as
read, poison-marked ones left. -/
def scrubLine (s : State) (md l : Nat) : State :=
  let st := stackAt s md
  match lineState st l with
  | .corrected _ =>
    let v := lineRead st l
    updStack (lineReadEffects s md l) md (fun x => lineWrite x l v.1 false)
  | .uncorrectable _ => memWriteLine (lineReadEffects s md l) md l (lineBytes st l) true
  | _ => s

/-- Scrub reads its next access unit (R192). -/
def doScrub (s : State) (md : Nat) : State :=
  if !stackServes s md then s
  else
    let p := (stackAt s md).scrubPos
    let s := if p = 0 then updStack s md startPass else s
    let s := (List.range 4).foldl (fun s i => scrubLine s md (4 * p + i)) s
    if p + 1 = scrubUnits then bump (updStack s md (fun st => { st with scrubPos := 0, scrubbed := true })) Obj.scrubPasses
    else updStack s md (fun st => { st with scrubPos := p + 1 })

/-- Scrub waits in a command slot that a pause count leaves idle (R340). -/
def execPatrolScrub (md : Fin 24) (s : State) : Host.Outcome State Fault Refusal :=
  .next (if idleCycle (thermAt s (siteMD md.val)).p (s.ticks / 2) then s else doScrub s md.val)

/-- Key of a repair record: stack, die, channel, bank and row, mixed radix. -/
def repairKey (md : Nat) (r : DieRow) : Nat := (md * 18 + r.die) * 8388608 + r.row

/-- The spare a row would take: one per die and bank (R193). -/
def spareOf (r : DieRow) : Nat := r.die * 64 + r.row / 131072

/-- A candidate row's repair starts: its bank is taken and a notice is raised; with the spare used the row stays
under the code (R193). -/
def doRepair (s : State) (md : Nat) (r : DieRow) : State :=
  let st := stackAt s md
  if !stackServes s md || !st.candidates.contains r || st.repairing.isSome then s
  else
    let st' := { st with candidates := st.candidates.erase r }
    if st.spareUsed.contains (spareOf r) then bump (setStack s md st') Obj.repairExhausted
    else
      raise (setStack s md { st' with repairing := some r }) (siteMD md) 0x05 0x2A 0 false
        (r.die + r.row / 2097152 * 32 + r.row / 131072 % 16 * 128 + r.row % 131072 * 2048)

def execSoftRepair (md : Fin 24) (die : Fin 18) (row : Fin 8388608) (s : State) : Host.Outcome State Fault Refusal :=
  .next (doRepair s md.val { die := die.val, row := row.val })

/-- The 256 lines of a row (R169). -/
def rowLines (row : Nat) : List Nat :=
  let r := row % 131072
  let bank := row / 131072 % 16
  let ch := row / 2097152
  (List.range 64).flatMap (fun au => (List.range 4).map (fun i =>
    (r * 1048576 + au * 16384 + (bank ^^^ r % 16) * 1024 + ch * 256 + i * 64) / 64))

/-- The stack interface loses lock in service (R195 Table 14 row 2). -/
def execStackLockLoss (md : Fin 24) (s : State) : Host.Outcome State Fault Refusal :=
  .next (if stackServes s md.val then stackFail s md.val 2 else s)

end Sys2Proof.Machine
end

