-- ==== Sys2Proof/Machine/FabFlits.lean ====
section
/-! DEFINITION. Fabric packets as flits, and the ends of the paths they take: external links, and the house pairs between dies (R233,
R234, R238, R239, R250, R251). -/
namespace Sys2Proof.Machine

/-! Ends of paths. -/

/-- An end of a path: external link `l` below 16, else a die's end of its house pairs with another die (`pathKey`). -/
def linkAt (s : State) (l : Nat) : LinkSt := tget (fun _ => {}) s.fab.links l
def setLink (s : State) (l : Nat) (v : LinkSt) : State :=
  { s with fab := { s.fab with links := tset (fun _ => {}) s.fab.links l v } }
def linkIsUp (s : State) (l : Nat) : Bool := (linkAt s l).mode == .up

/-- The end at site `me` of its house pairs with site `peer` (R234). -/
def pathKey (me peer : Nat) : Nat := 32 + 128 * me + peer

/-- Put a packet in the queue of an end. -/
def enqueue (s : State) (l : Nat) (p : FabPacket) : State := setLink s l { linkAt s l with queue := (linkAt s l).queue ++ [p] }

/-- A die sends a packet to another die of the module in their FABRIC slots (R246 to R248). -/
def pathSend (s : State) (me peer : Nat) (p : FabPacket) : State := enqueue s (pathKey me peer) p

/-- Units that a host die and a memory base die have for each other's HOST slots (R114, R120). -/
def hostPath (s : State) (l : Nat) : List FabPacket := tget (fun _ => []) s.host.paths l
def setHostPath (s : State) (l : Nat) (ps : List FabPacket) : State := { s with host := { s.host with paths := tset (fun _ => []) s.host.paths l ps } }

/-! Credits (R234). -/

/-- Class of a packet's credits and queue: VC0 A, VC1 A and B, VC2 A and B, VC3, VC0 B (R234, R249). -/
def vcKey (p : FabPacket) : Nat :=
  match p.vc.toNat with
  | 0 => 6 * b2n p.dlc
  | 1 => 1 + b2n p.dlc
  | 2 => 3 + b2n p.dlc
  | _ => 5

/-- Flits of an input buffer, and the modulus of its running count. -/
def vcSize (key : Nat) : Nat := match key with | 0 => 64 | 6 => 64 | 5 => 128 | _ => 2048
def vcMod (key : Nat) : Nat := match key with | 0 => 1024 | 5 => 1024 | _ => 4096

/-- The running count a class is counted in: the slot header has one for VC0 (R233). -/
def countKey (key : Nat) : Nat := if key = 6 then 0 else key

/-- Credit of a class: the buffer's size, plus the latest running count received, less the flits sent. DESIGN CHOICE (log 111): the one
count of VC0 frees its flits of both classes in the order they were sent. -/
def creditOf (v : LinkSt) (key : Nat) : Nat :=
  if key = 0 ∨ key = 6 then vcSize key - (v.vc0Out.filter (· == (key == 6))).length
  else (vcSize key + tget (fun _ => 0) v.got key % vcMod key + vcMod key - tget (fun _ => 0) v.sent key % vcMod key) % vcMod key

/-- Flits of a class are freed at an end's input for the far end. -/
def freeFlits (v : LinkSt) (key n : Nat) : LinkSt :=
  if n = 0 then v else { v with freed := tupd (fun _ => 0) v.freed (countKey key) (fun c => (c + n) % 4096) }

def freePacket (v : LinkSt) (p : FabPacket) : LinkSt := freeFlits v (vcKey p) (p.len.toNat + 1)

/-- The input buffer of an arrived packet is freed for the far end (R233, R234). -/
def freeInput (s : State) (l : Nat) (p : FabPacket) : State := setLink s l (freePacket (linkAt s l) p)

/-- The first packet of a class that has credit for every flit of it. -/
def readyPacket (v : LinkSt) (key : Nat) : Option FabPacket :=
  (v.queue.find? (fun p => vcKey p == key)).bind (fun p => if p.len.toNat + 1 ≤ creditOf v key then some p else none)

/-- The VC0 packet that goes next: the first queued whose class has credit (R250). -/
def readyVc0 (v : LinkSt) : Option FabPacket := v.queue.find? (fun p => p.vc == 0 && decide (p.len.toNat + 1 ≤ creditOf v (vcKey p)))

/-- An end has something to send: flits of a packet, a packet with credit, or counts the far end was not told. -/
def endWaits (v : LinkSt) : Bool :=
  !v.out.isEmpty || v.freed != v.told || (List.range 7).any (fun key => (readyPacket v key).isSome)

/-! Packets as flits (R238, R239). -/

/-- A blank packet. -/
def blankPacket : FabPacket :=
  { opc := 0, vc := 0, len := 0, attempt := 0, origFd := 0, dst := 0, src := 0, tag := 0, status := 0, dlc := false, addr := 0, hops := 0,
    key := 0, tmo := 0, group := 0, flag := 0, handle := 0, sent := 0, w4 := 0, w5 := 0, w6 := 0, w7 := 0, headPoison := false, data := [] }

/-- The eight words of a header flit; a unit between a compute die and its fabric die has HANDLE in the place of FLAG and GROUP, which are 0
there. -/
def packetWords (p : FabPacket) : List Word :=
  [BitVec.ofNat 64 (p.opc.toNat + p.vc.toNat * 2 ^ 8 + p.len.toNat * 2 ^ 10 + p.attempt.toNat * 2 ^ 15 + p.origFd.toNat * 2 ^ 17 +
     p.dst.toNat * 2 ^ 20 + p.src.toNat * 2 ^ 32 + p.tag.toNat * 2 ^ 44 + p.status.toNat * 2 ^ 56 + b2n p.dlc * 2 ^ 60),
   BitVec.ofNat 64 (p.addr.toNat + p.hops.toNat * 2 ^ 56),
   BitVec.ofNat 64 (p.key.toNat + p.tmo.toNat * 2 ^ 32 + p.group.toNat * 2 ^ 42 + p.flag.toNat * 2 ^ 52 + p.handle.toNat * 2 ^ 48),
   p.sent, p.w4, p.w5, p.w6, p.w7]

def packetFlits (p : FabPacket) : List Flit := { data := bytesOf (packetWords p), poison := p.headPoison } :: p.data

/-- LEN of a header flit. -/
def flitLen (f : Flit) : Nat := fld (leAt f.data 0 8) 10 5

/-- A packet from its flits. -/
def packetOf (f : Flit) (data : List Flit) : FabPacket :=
  let w := fun i => leAt f.data (8 * i) 8
  { opc := BitVec.ofNat 8 (w 0), vc := BitVec.ofNat 2 (w 0 >>> 8), len := BitVec.ofNat 5 (w 0 >>> 10), attempt := BitVec.ofNat 2 (w 0 >>> 15),
    origFd := BitVec.ofNat 3 (w 0 >>> 17), dst := BitVec.ofNat 12 (w 0 >>> 20), src := BitVec.ofNat 12 (w 0 >>> 32),
    tag := BitVec.ofNat 12 (w 0 >>> 44), status := BitVec.ofNat 4 (w 0 >>> 56), dlc := bitAt (w 0) 60, addr := BitVec.ofNat 56 (w 1),
    hops := BitVec.ofNat 8 (w 1 >>> 56), key := BitVec.ofNat 32 (w 2), tmo := BitVec.ofNat 10 (w 2 >>> 32), group := BitVec.ofNat 10 (w 2 >>> 42),
    flag := BitVec.ofNat 12 (w 2 >>> 52), handle := 0, sent := BitVec.ofNat 64 (w 3), w4 := BitVec.ofNat 64 (w 4), w5 := BitVec.ofNat 64 (w 5),
    w6 := BitVec.ofNat 64 (w 6), w7 := BitVec.ofNat 64 (w 7), headPoison := f.poison, data := data }

/-- HANDLE of a unit read as a packet: word 2 [63:48]. -/
def unitHandle (p : FabPacket) : Nat := p.flag.toNat * 16 + p.group.toNat / 64

/-- TIME payload of an end; TX and the echo are stamped as its header flit leaves (R311 Table 5). -/
def timePayload (s : State) (l : Nat) : Flit :=
  let e := (linkAt s l).lastTime.getD (0, 0, 0)
  let on := dval s Obj.timeFabricEnable = 1
  let src := s.mt.source
  { data := toLe 8 s.now.toNat ++ toLe 8 e.1.toNat ++ toLe 8 e.2.1.toNat ++ toLe 2 e.2.2 ++
      [BitVec.ofNat 8 (if on then src.cls else 0), BitVec.ofNat 8 src.hops] ++ toLe 2 (if on ∧ src.cls = 2 then src.root else 0) ++
      [BitVec.ofNat 8 s.mt.state] ++ List.replicate 33 0, poison := false }

/-! Filling a burst (R250, R251). -/

/-- The packet an end grants next: VC0 first, then the common arbiter among the classes that have credit. -/
def grantPacket (s : State) (l : Nat) : Option FabPacket × State :=
  let v := linkAt s l
  match readyVc0 v with
  | some p => (some p, s)
  | none =>
    let rs : List ArbReq := ((List.range 5).filter (fun i => (readyPacket v (i + 1)).isSome)).map
      (fun i => { requester := Fin.ofNat 32 i, vc := 0, len := ((readyPacket v (i + 1)).map (fun p => Fin.ofNat 32 p.len.toNat)).getD 0 })
    if rs.isEmpty then (none, s)
    else
      let s := doArbiter s .fabric l rs
      match (arbAt s .fabric l).holder with
      | some r => (readyPacket v (r + 1), s)
      | none => (none, s)

/-- Is this a copy of a multicast packet? Copies differ in HOPS and the dateline class. -/
def copyOf (p q : FabPacket) : Bool := { p with hops := q.hops, dlc := q.dlc } == q

/-- A copy of a multicast packet has been sent, or is lost: with the last, its input is freed (R256). -/
def copySent (s : State) (q : FabPacket) : State :=
  match s.fab.multiIn.find? (fun e => copyOf e.2.1 q) with
  | none => s
  | some e =>
    if e.2.2 ≤ 1 then freeInput { s with fab := { s.fab with multiIn := s.fab.multiIn.erase e } } e.1 e.2.1
    else { s with fab := { s.fab with multiIn := s.fab.multiIn.map (fun x => if x = e then (e.1, e.2.1, e.2.2 - 1) else x) } }

/-- A packet leaves an end: its class has that many more flits out (R234). -/
def countSent (v : LinkSt) (p : FabPacket) : LinkSt :=
  let n := p.len.toNat + 1
  { v with sent := tupd (fun _ => 0) v.sent (countKey (vcKey p)) (fun c => (c + n) % 4096), outKey := vcKey p
           vc0Out := if p.vc = 0 then v.vc0Out ++ List.replicate n p.dlc else v.vc0Out }

/-- A LINK_EXCLUDE leaves its end now: it names a frame at least 8 ahead, at which the change takes effect at this end's transmitter, or from
which on at its receiver (R236). -/
def stampExclude (s : State) (l : Nat) (p : FabPacket) : FabPacket × State :=
  let f := max p.w5.toNat (frameNo s + 8)
  let rx := bitAt p.w4.toNat 0
  let line := fld p.w4.toNat 1 6
  ({ p with w5 := BitVec.ofNat 64 f },
   if rx then setLink s l { linkAt s l with rxChanges := (linkAt s l).rxChanges ++ [(f, true, line)] }
   else schedule s (BitVec.ofNat 64 (1024 * f)) (.laneExclude (350 + l) false line))

/-- A packet as it leaves: TIME is stamped (R311), LINK_EXCLUDE names its frame (R236). -/
def stampOut (s : State) (l : Nat) (p : FabPacket) : FabPacket × State :=
  if p.opc = 0x20 then ({ p with data := [timePayload s l] }, s)
  else if p.opc = 0x24 then stampExclude s l p
  else (p, s)

/-- Fill the flit positions of a burst; each flit is marked when it is a header. -/
def fillFlits : Nat → State → Nat → List (Flit × Bool) → State × List (Flit × Bool)
  | 0, s, _, acc => (s, acc)
  | n + 1, s, l, acc =>
    let v := linkAt s l
    match v.out with
    | f :: rest =>
      let s := setLink s l { v with out := rest }
      fillFlits n (if rest.isEmpty then arbRelease s .fabric l else s) l (acc ++ [f])
    | [] =>
      match grantPacket s l with
      | (none, s) => (s, acc)
      | (some p, s) =>
        let x := stampOut s l p
        let fs := ((packetFlits x.1).zipIdx).map (fun e => (e.1, e.2 == 0))
        let v := linkAt x.2 l
        let v := { countSent v p with queue := v.queue.erase p, out := fs.tail, txs := if p.opc = 0x20 then (s.now :: v.txs).take 8 else v.txs }
        let s := copySent (setLink x.2 l v) p
        fillFlits n (if fs.length ≤ 1 then arbRelease s .fabric l else s) l (acc ++ fs.take 1)

/-- Poison bits of a payload (R110). -/
def poisonBits (fs : List Flit) : BitVec 26 := BitVec.ofNat 26 (fs.foldr (fun f n => b2n f.poison + 2 * n) 0)

/-- A FABRIC slot's header: Table 1's fields in place of OFFSET, TILE, TAG and REQ (R233). -/
def fabricHead (h : SlotHeader) (v : LinkSt) (head : Nat) : SlotHeader :=
  let cr := fun key => tget (fun _ => 0) v.freed key % vcMod key
  let w2 := head + cr 1 * 2 ^ 5 + cr 2 * 2 ^ 17 + cr 3 * 2 ^ 29 + cr 4 * 2 ^ 41
  { h with kind := 2, service := 2, offset := BitVec.ofNat 32 (cr 0 + cr 5 * 2 ^ 10), tile := BitVec.ofNat 6 w2, tag := BitVec.ofNat 10 (w2 / 2 ^ 6),
           req := bitAt w2 16, more := BitVec.ofNat 47 (w2 / 2 ^ 17) }

/-- Word 2 of a header. -/
def headWord2 (h : SlotHeader) : Nat := h.tile.toNat + h.tag.toNat * 2 ^ 6 + b2n h.req * 2 ^ 16 + h.more.toNat * 2 ^ 17

/-- HEAD of a FABRIC slot. -/
def headOf (h : SlotHeader) : Nat := fld (headWord2 h) 0 5

/-- The far end's running counts (R233). -/
def takeCounts (v : LinkSt) (h : SlotHeader) : LinkSt :=
  let w2 := headWord2 h
  let freed := (fld h.offset.toNat 0 10 + 1024 - tget (fun _ => 0) v.got 0 % 1024) % 1024
  { v with vc0Out := v.vc0Out.drop freed, got := [(0, fld h.offset.toNat 0 10), (1, fld w2 5 12), (2, fld w2 17 12), (3, fld w2 29 12), (4, fld w2 41 12), (5, fld h.offset.toNat 10 10)] }

/-- A FABRIC slot of an end over the common header fields: up to 26 flits, and this end's counts; none when it has nothing to send. -/
def fillSlot (s : State) (l : Nat) (h : SlotHeader) : Option (SlotHeader × List Flit) × State :=
  if !endWaits (linkAt s l) then (none, s)
  else
    let r := fillFlits 26 s l []
    let v := linkAt r.1 l
    let fs := r.2.map (·.1)
    (some ({ fabricHead h v ((r.2.findIdx? (·.2)).getD 31) with flits := BitVec.ofNat 5 fs.length, poison := poisonBits fs }, fs),
     setLink r.1 l { v with told := v.freed })

/-! Taking a burst's flits (R238). -/

/-- Whole packets at the front of a flit stream. -/
def takePackets : Nat → List Flit → List FabPacket × List Flit
  | 0, fs => ([], fs)
  | fuel + 1, fs =>
    match fs with
    | [] => ([], [])
    | f :: rest =>
      if rest.length < flitLen f then ([], fs)
      else
        let r := takePackets fuel (rest.drop (flitLen f))
        (packetOf f (rest.take (flitLen f)) :: r.1, r.2)

/-- The class of flits whose header nobody could read. DESIGN CHOICE (log 111): R238 returns credit for dropped flits and names no class for
these; it is free. -/
def unreadClass (ctr i n : Nat) : Nat := (Config.freeWord ctr (0x830000 + i)).toNat % n

/-- Flits before a HEAD are dropped with their credit. -/
def dropToHead (ctr : Nat) (v : LinkSt) (n : Nat) : LinkSt := freeFlits v (v.skipVc.getD (unreadClass ctr 26 6)) n

/-- The class of the packet in progress. -/
def streamVc (fs : List Flit) : Option Nat := fs.head?.map (fun f => vcKey (packetOf f []))

/-- A flit stream is dropped with its credit; what follows belongs to its last packet up to the next HEAD. -/
def dropStream (v : LinkSt) (fs : List Flit) : LinkSt :=
  let r := takePackets 27 fs
  let v := r.1.foldl freePacket v
  let v := match streamVc r.2 with | some key => freeFlits v key r.2.length | none => v
  { v with stream := [], skip := true, skipVc := streamVc r.2 }

/-- A burst that could be read is discarded: the packet in progress and the burst's flits are dropped. -/
def dropBurst (ctr : Nat) (v : LinkSt) (head : Nat) (fs : List Flit) : LinkSt :=
  if v.skip then
    let n := min head fs.length
    let v := dropToHead ctr v n
    if fs.length ≤ head then v else dropStream v (fs.drop n)
  else dropStream v (v.stream ++ fs)

/-- A burst that could not be read is discarded: each of its 26 positions held a flit of some class, or none. -/
def loseBurst (ctr : Nat) (v : LinkSt) : LinkSt :=
  let v := match streamVc v.stream with | some key => freeFlits v key v.stream.length | none => v
  let v := (List.range 26).foldl (fun v i => let c := unreadClass ctr i 7
                                             if c < 6 then freeFlits v c 1 else v) v
  { v with stream := [], skip := true, skipVc := none }

/-- A burst is discarded at an end (R238): its header and flits when it could be read. -/
def breakStream (s : State) (l : Nat) (read : Option (SlotHeader × List Flit)) : State :=
  bumpFree (setLink s l (match read with
    | none => loseBurst s.freeCtr (linkAt s l)
    | some (h, fs) => if h.kind = 2 ∧ h.service = 2 then dropBurst s.freeCtr (linkAt s l) (headOf h) fs
                      else dropBurst s.freeCtr (linkAt s l) 31 []))

/-- Flits that the packet in progress still lacks. -/
def streamLacks (v : LinkSt) : Nat := match v.stream with | [] => 0 | f :: rest => flitLen f - rest.length

/-- The packet in progress was cut off: HEAD marks a header where its own flits were due, and it is dropped (R238, R251). -/
def cutShort (v : LinkSt) (head : Nat) : Bool := !v.skip && !v.stream.isEmpty && decide (head < 26 ∧ head ≠ streamLacks v)

/-- The flits of an accepted FABRIC burst join an end's stream: the packets that are whole, and the state. -/
def joinStream (s : State) (l head : Nat) (fs : List Flit) : List FabPacket × State :=
  let v := linkAt s l
  let v := if cutShort v head then dropStream v v.stream else v
  let cut := if v.skip then min head fs.length else 0
  let s := if cut = 0 then s else bumpFree s
  let v := dropToHead s.freeCtr v cut
  let v := if v.skip && decide (head < 26) then { v with skip := false, skipVc := none } else v
  if v.skip then ([], setLink s l v)
  else
    let r := takePackets 27 (v.stream ++ fs.drop cut)
    (r.1, setLink s l { v with stream := r.2 })

/-- An accepted FABRIC slot of a house pair: its counts are taken, and packets that are whole wait for their die. -/
def pathBurst (s : State) (l : Nat) (h : SlotHeader) (fs : List Flit) : State :=
  let r := joinStream (setLink s l (takeCounts (linkAt s l) h)) l (headOf h) fs
  { r.2 with fab := { r.2.fab with pathIn := r.2.fab.pathIn ++ r.1.map (fun p => (l, p)) } }

/-- A die is out: what it had queued and received on its paths, and what the others had for it, is gone. -/
def dropPaths (s : State) (site : Nat) : State :=
  let here := fun (l : Nat) => decide (32 ≤ l) && ((l - 32) / 128 == site || (l - 32) % 128 == site)
  let s := ((s.fab.links.filter (fun e => here e.1)).flatMap (fun e => e.2.queue)).foldl copySent s
  { s with fab := { s.fab with links := s.fab.links.filter (fun e => !here e.1), pathIn := s.fab.pathIn.filter (fun e => !here e.1) }
           host := { s.host with paths := s.host.paths.filter (fun e => !here e.1), slotIn := s.host.slotIn.filter (fun e => !here e.1) } }

end Sys2Proof.Machine
end

