-- ==== Sys2Proof/Machine/Bank.lean ====
section
/-! DEFINITION. Memory base dies serving the units of fabric dies and host dies (R196, R247, R284), and what a stack does when a bank comes
free (R193) and when its set is lost (R196). -/
namespace Sys2Proof.Machine

/-! Requests of a fabric die (R239, R240). -/

/-- Flits of SIZE bytes. -/
def sizeFlits (w4 : Word) : Nat := cdiv (w4.toNat % 2048) 64

/-- LINES of the record in words 4 to 7. -/
def recLines (w4 : Word) : Nat := fld w4.toNat 16 8

/-- FIRST of a request or an answer (R239). -/
def firstOf (p : FabPacket) : Nat := fld p.w4.toNat 32 32

/-- The operation record of an ATOMIC or REDUCE (R183, R239). -/
def fabRecord (p : FabPacket) : OpRecord :=
  { op := BitVec.ofNat 8 p.w4.toNat, fmt := BitVec.ofNat 8 (p.w4.toNat >>> 8), lines := BitVec.ofNat 8 (p.w4.toNat >>> 16),
    res3 := BitVec.ofNat 8 (p.w4.toNat >>> 24), id := BitVec.ofNat 32 (firstOf p), addr := p.w5, operand := p.w6, compare := p.w7 }

/-- Bytes a request covers. -/
def rangeOf (p : FabPacket) : Nat :=
  match p.opc.toNat with
  | 3 => 8
  | 4 => 64 * recLines p.w4
  | _ => p.w4.toNat % 2048

/-- All-ones poison-marked lines (R247, R268). -/
def onesLines (n : Nat) : List Flit := (List.range n).map (fun _ => { data := List.replicate 64 0xFF, poison := true })

/-- Result record of an answer (R239). -/
def resultOf (p : FabPacket) : List Byte := toLe 8 p.w4.toNat ++ toLe 8 p.w5.toNat

/-- The answer to a request: its status, its result record and its data (R239, R242). -/
def answerPacket (s : State) (p : FabPacket) (status : Nat) (result : Option (List Byte)) (data : List Flit) : FabPacket :=
  let bs := result.getD []
  { blankPacket with opc := 8, vc := 2, len := BitVec.ofNat 5 data.length, attempt := p.attempt, origFd := p.origFd, dst := p.src,
                     src := BitVec.ofNat 12 s.fab.own, tag := p.tag, status := BitVec.ofNat 4 status, sent := s.now,
                     w4 := BitVec.ofNat 64 (leAt bs 0 4 + firstOf p * 2 ^ 32), w5 := BitVec.ofNat 64 (leAt bs 8 8), data := data }

/-! Service at the memory base die (R247). -/

/-- Data flits of a load: each poison-marked when a line it comes from is. -/
def loadFlits (s : State) (a size : Nat) : List Flit :=
  (List.range (cdiv size 64)).map (fun i =>
    let n := min 64 (size - 64 * i)
    { data := slice (dramBytes s (a + 64 * i) n) 0 64, poison := rangePoison s (a + 64 * i) n })

/-- Write STORE data, each flit's poison with its bytes (R177). -/
def storeFlits (s : State) (a size : Nat) (fs : List Flit) : State :=
  (fs.zipIdx).foldl (fun s e =>
    let n := min 64 (size - 64 * e.2)
    dramWriteGo (fun _ _ => true) 3 s (a + 64 * e.2) (e.1.data.take n) e.1.poison) s

/-- The request runs at its memory base die: status, result record, data. A record that R185 refuses is answered MALFORMED (DEDUCED, log 111). -/
def memServe (s : State) (p : FabPacket) : Nat × Option (List Byte) × List Flit × State :=
  let a := p.addr.toNat % 2 ^ 44
  let size := p.w4.toNat % 2048
  let md := ((mapAddr s a).getD (0, 0)).1
  let r := fabRecord p
  match p.opc.toNat with
  | 1 =>
    let fs := loadFlits s a size
    (b2n (fs.any (·.poison)), none, fs, rangeReadEffects s a size)
  | 3 =>
    if !recordValid s md r then (8, some (resultBytes 2 r 0), [], refuseHere s md 0x06 a)
    else
      let x := atomicApply s md r p.headPoison
      (x.1, some (resultBytes x.1 r x.2.1), [], x.2.2)
  | 4 =>
    if !recordValid s md r then (8, some (resultBytes 2 r 0), [], refuseHere s md 0x06 a)
    else
      let x := reduceApply s md r p.data
      (x.1, some (resultBytes x.1 r (reduceOld x.1)), [], x.2)
  | _ => (0, none, [], storeFlits s a size p.data)

/-- A host die and a memory base die send each other units in their HOST slots. DESIGN CHOICE (log 112): HOST payloads have no layout of
their own in the spec; a unit is laid out as a fabric die's (R239), with the queue pair in SRC and the PSN in FIRST. -/
def hostSend (s : State) (me peer : Nat) (p : FabPacket) : State := setHostPath s (pathKey me peer) (hostPath s (pathKey me peer) ++ [p])

/-- A memory base die answers the die a unit came from; a failed stack answers nothing (R195). -/
def unitAnswer (s : State) (md site : Nat) (p : FabPacket) (status : Nat) (result : Option (List Byte)) (data : List Flit) : State :=
  if (stackAt s md).failed then s
  else
    let a := answerPacket s p status result data
    match siteKind site with
    | some (.hd, _) => hostSend s (siteMD md) site a
    | _ => pathSend s (siteMD md) site a

/-- A unit that its stack has accepted: run and answered with an RSP unit (R247), or it waits for a bank under repair (R193). -/
def unitHere (s : State) (md site : Nat) (p : FabPacket) : State :=
  let a := p.addr.toNat % 2 ^ 44
  if (linesOf a (rangeOf p)).any (fun l => bankHeldAt s md (64 * l)) then waitBank s md (.unit site p)
  else
    let x := memServe s p
    unitAnswer x.2.2.2 md site p x.1 x.2.1 x.2.2.1

/-- A unit at a stack of a lost set: SET_LOST (R196). -/
def unitLost (s : State) (md site : Nat) (p : FabPacket) : State :=
  unitAnswer s md site p 5 none (if p.opc = 1 then onesLines (sizeFlits p.w4) else [])

/-- A unit at its memory base die; a stack that does not serve answers nothing, one of a lost set SET_LOST (R191, R195, R196, R247). -/
def serveUnit (s : State) (md site : Nat) (p : FabPacket) : State :=
  if setLostNow s (setOf md) && stackWorks s md then unitLost s md site p
  else if !stackServes s md then s
  else unitHere s md site p

/-! A bank comes free (R193). -/

/-- Work that waited for a bank goes on, in order; its stack has accepted it (R191), or is of a set now lost (R196). -/
def runBankItem (md : Nat) (s : State) (x : BankItem) : State :=
  let lost := setLostNow s (setOf md)
  if !stackWorks s md then s
  else match x with
    | .load r => if lost then loadLost s md r else loadHere s md r
    | .flit src tile tag pos fl => storeFlit s md src tile tag pos fl
    | .record site r data poison => if lost then sendResult s md site (resultBytes 3 r 0) else recordHere s md site r data poison
    | .unit site p => if lost then unitLost s md site p else unitHere s md site p

def runBankWait (s : State) (md : Nat) : State :=
  settleStack ((stackAt s md).bankWait.foldl (runBankItem md) (updStack s md (fun st => { st with bankWait := [] }))) md

/-- A line of the repaired row, read corrected into the repair buffer and written back with fresh check (R193 Table 13): an uncorrectable
one poison-marked with its bytes as read, as scrub does (R192). -/
def repairLine (md : Nat) (s : State) (l : Nat) : State :=
  if (stackAt s md).failed then s
  else match lineState (stackAt s md) l with
    | .corrected _ => updStack s md (fun x => lineWrite x l (lineRead x l).1 false)
    | .uncorrectable _ => memWriteLine (countUncorr s md l) md l (lineBytes (stackAt s md) l) true
    | _ => s

/-- The soft repair finishes: the row is written back, the bank released, a repair
record queued, and what waited goes on (R193 Table 13). What is corrected in the row from then on counts anew. -/
def doRepairDone (s : State) (md : Nat) : State :=
  match (stackAt s md).repairing with
  | none => s
  | some r =>
    let s := (rowLines r.row).foldl (repairLine md) s
    if (stackAt s md).failed then s
    else
      let s := updStack s md (fun st => { st with
        repairing := none, rowHits := st.rowHits.filter (fun h => h.at_ != r), spareUsed := st.spareUsed ++ [spareOf r], softSincePower := st.softSincePower + 1
        busyTo := tset (fun _ => 0) st.busyTo (r.row / 131072) s.ticks
        records := st.records ++ [{ at_ := r, state := .soft, committed := false }] })
      runBankWait (queueRecord (bump s Obj.repairsSoft) 0x0030 (repairKey md r) [0]) md

def execSoftRepairDone (md : Fin 24) (s : State) : Host.Outcome State Fault Refusal := .next (doRepairDone s md.val)

/-! SET_LOST (R196). -/

/-- A stack of a lost set that has not failed answers what it still holds (R196): a LOAD_REQ's lines go out poison-marked, a STORE_REQ is
refused, an ATOMIC flow's with the results of the records it has executed; the requesting die answers for what it has not sent. -/
def flushHeld (s : State) (md : Nat) : State :=
  let st := stackAt s md
  if st.failed then s
  else
    let loads := st.held.filter (·.load)
    let poison := fun (x : TxFlit) =>
      if loads.any (fun h => h.req.src.toNat == x.dstSite && h.req.tile == x.tile && h.req.tag == x.tag) then { x with flit := freePoison s.freeCtr x.offset } else x
    let s := bumpFree (setStack s md { st with
      repairing := none
      held := st.held.map (fun h => if h.load then { h with poisoned := true } else h)
      txq := st.txq.map (fun e => (e.1, e.2.map poison)) })
    let s := (st.held.filter (fun h => !h.load)).foldl (fun s h => closeHeld s md h) s
    runBankWait s md

/-- At T the set is given up: it leaves mapped DRAM, MEM_CAPACITY falls by its 768 GiB, and its stacks answer what they hold. -/
def giveUpSet (s : State) (n : Nat) : State :=
  let s := { s with setsLost := s.setsLost ||| (1 <<< n) }
  let s := dset s Obj.memSetsLost (s.setsLost.toNat)
  let s := dset s Obj.memCapacity (dval s Obj.memCapacity - setSize)
  (setMembers n).foldl flushHeld s

end Sys2Proof.Machine
end

