-- ==== Sys2Proof/Machine/Lines.lean ====
section
/-! DEFINITION. The house blend's pairs (R119), the line map of a burst (R105) and what the active table lights. -/
namespace Sys2Proof.Machine

/-- House slots at the head of a frame under the blend in force (R118). -/
def houseSlots (blend : Nat) : Nat := if blend = 0 then 8 else 4

/-- Phase h and rotation r of house slot `sl` of frame `f` (R119). -/
def housePhase (blend f sl : Nat) : Nat × Nat :=
  if blend = 0 then (sl % 4, 2 * f + sl / 4) else (sl, f)

/-- Partner of fabric die port `i` (R119 Table 6). -/
def pairFD (h r i : Nat) : Option Nat :=
  match h with
  | 0 => some (192 + (32 * r + i) % 120)
  | 1 => some ((32 * r + i) % 192)
  | 2 =>
    let t := (4 * r + i % 4) % 7 + 1
    some (312 + 4 * ((i / 4) ^^^ t) + i % 4)
  | _ => some ((32 * r + 96 + i) % 192)

/-- Partner of host die port `j`. -/
def pairHD (h r j : Nat) : Option Nat :=
  match h with
  | 0 => some (192 + (32 * r + 32 + j) % 120)
  | 1 => some (192 + (32 * r + 36 + j) % 120)
  | 2 => some (192 + (32 * r + 40 + j) % 120)
  | _ => if j % 2 = 0 then some (192 + (32 * r + 44 + j) % 120) else some (348 + j / 2)

/-- Partner of memory base die port `q`. -/
def pairMD (h r q : Nat) : Option Nat :=
  let d := (q + 120 * (32 * r / 120 + 1) - 32 * r) % 120
  match h with
  | 0 => if d < 32 then some (312 + d) else if d < 36 then some (344 + (d - 32)) else none
  | 1 => if 36 ≤ d ∧ d < 40 then some (344 + (d - 36)) else none
  | 2 => if 40 ≤ d ∧ d < 44 then some (344 + (d - 40)) else none
  | _ => if d = 44 then some 344 else if d = 46 then some 346 else none

/-- Partner of compute die port `c`. -/
def pairCD (h r c : Nat) : Option Nat :=
  let d := fun x => (c + 192 * (x / 192 + 1) - x) % 192
  match h with
  | 1 => if d (32 * r) < 32 then some (312 + d (32 * r)) else none
  | 3 => if d (32 * r + 96) < 32 then some (312 + d (32 * r + 96)) else none
  | _ => none

/-- Partner of barista port `n`. -/
def pairBA (h n : Nat) : Option Nat :=
  match h with
  | 2 => some (349 - n)
  | 3 => some (345 + 2 * n)
  | _ => none

/-- The port a port is paired with in house slot `sl` of frame `f`, if it is lit (R119). -/
def housePair (blend f sl p : Nat) : Option Nat :=
  let hr := housePhase blend f sl
  if p < 192 then pairCD hr.1 hr.2 p
  else if p < 312 then pairMD hr.1 hr.2 (p - 192)
  else if p < 344 then pairFD hr.1 hr.2 (p - 312)
  else if p < 348 then pairHD hr.1 hr.2 (p - 344)
  else if p < 350 then pairBA hr.1 (p - 348)
  else none

/-- Does the house blend form a pair at some point of its rotation (R130)? -/
def houseForms (blend p q : Nat) : Bool :=
  (List.range 210).any (fun f => (List.range (houseSlots blend)).any (fun sl => housePair blend f sl p == some q))

/-- An entry of a set: port `p`, slot `sl` (R122, R123). -/
def setEntry (entries : Tbl (BitVec 32)) (p sl : Nat) : BitVec 32 := tget (fun _ => 0) entries (64 * p + sl)
def entryLit (e : BitVec 32) : Bool := e.getLsbD 10
def entryDst (e : BitVec 32) : Nat := (e.extractLsb' 0 9).toNat
def entryFlow (e : BitVec 32) : Nat := (e.extractLsb' 16 16).toNat

/-- Lit entries of a set, as (row, slot, entry), in row order. -/
def litEntries (entries : Tbl (BitVec 32)) : List (Nat × Nat × BitVec 32) :=
  (entries.filter (fun e => entryLit e.2)).map (fun e => (e.1 / 64, e.1 % 64, e.2))

/-- Does a set light a port, as row or as DST (R133)? -/
def setLights (entries : Tbl (BitVec 32)) (p : Nat) : Bool :=
  (litEntries entries).any (fun e => e.1 == p || entryDst e.2.2 == p)

/-- Does a set light the pair p to q? -/
def setLightsPair (entries : Tbl (BitVec 32)) (p q : Nat) : Bool :=
  (litEntries entries).any (fun e => e.1 == p && entryDst e.2.2 == q)

/-- Lines out of use for a pair (R105). -/
def linesOut (s : State) (p q : Nat) : BitVec 36 := (portAt s p).txSet ||| (portAt s q).rxSet

/-- The lines of logical lanes 0 to 31, an excluded home line taking the first spare left; a lane with none keeps
no line (R105). -/
def laneGo (out : BitVec 36) : List Nat → List Nat → List (Option Nat)
  | [], _ => []
  | k :: ks, spares =>
    if !out.getLsbD k then some k :: laneGo out ks spares
    else match spares with
      | a :: rest => some a :: laneGo out ks rest
      | [] => none :: laneGo out ks []

def laneMap (out : BitVec 36) : List (Option Nat) :=
  laneGo out (List.range 32) ([34, 35].filter (fun l => !out.getLsbD l))

/-- A pair short of lines (R105, Table 13 level 5). -/
def pairShort (s : State) (p q : Nat) : Bool := (laneMap (linesOut s p q)).any (·.isNone)

/-- The line of a logical lane in a burst from p to q: a lane whose line is under calibration rides lambda 33,
unless that line is itself out (R105, R106). -/
def laneLine (s : State) (p q k : Nat) : Nat :=
  let out := linesOut s p q
  let l := ((laneMap out).getD k none).getD 33
  let cal := (portAt s p).calTx == some (Fin.ofNat 36 l) || (portAt s q).calRx == some (Fin.ofNat 36 l)
  if cal && !out.getLsbD 33 then 33 else l

/-- The lines that carry PRBS-15 in a burst from p to q: a line under calibration at either end that is in neither set and carries no lane
(R149). -/
def prbsLines (s : State) (p q : Nat) : List Nat :=
  let carried := (List.range 32).map (laneLine s p q)
  (List.range 36).filter (fun l => ((portAt s p).calTx == some (Fin.ofNat 36 l) || (portAt s q).calRx == some (Fin.ofNat 36 l)) &&
    !(linesOut s p q).getLsbD l && !carried.contains l)

/-- The lines of a test burst from p to q at start-up: all in use but lambda 32, the forwarded clock (R153, R443). -/
def testLines (s : State) (p q : Nat) : List Nat := (List.range 36).filter (fun l => l != 32 && !(linesOut s p q).getLsbD l)

/-- The active set a base tile uses for its job slots: none while it holds a set it could not swap (R128). -/
def liveSet (s : State) (bt : Nat) : Option TabSet :=
  let b := btAt s bt
  match b.unswapped with
  | some t => if t ≤ s.now then none else b.active
  | none => b.active

/-- A port sends and receives: it is up, and its lines are in service (R329). -/
def portRuns (s : State) (p : Nat) : Bool := portUp s p && !(portAt s p).acquiring

/-- The port of a barista whose silence latch is set sends nothing (R375). -/
def portLatched (s : State) (p : Nat) : Bool := decide (348 ≤ p ∧ p < 350) && !outputsOpen s (p - 348)

/-- The port a port sends to in a slot, with the flow of a job slot; none when the pair is dark (R111, R121, R122). -/
def slotTarget (s : State) (sl p : Nat) : Option (Nat × Option Nat) :=
  if !portRuns s p || portLatched s p then none
  else if sl < houseSlots s.blend then
    match housePair s.blend (frameNo s) sl p with
    | some q => if portRuns s q then some (q, none) else none
    | none => none
  else match liveSet s (portTile p) with
    | none => none
    | some t =>
      let e := setEntry t.entries p sl
      if entryLit e && portRuns s (entryDst e) then some (entryDst e, some (entryFlow e)) else none

/-- The sender the house blend or a receiver's own active table gives it for a slot (R113 condition 4). -/
def expectedSender (s : State) (sl q : Nat) : Option Nat :=
  if sl < houseSlots s.blend then housePair s.blend (frameNo s) sl q
  else match (btAt s (portTile q)).active with
    | none => none
    | some t => (List.range 312).find? (fun p => entryLit (setEntry t.entries p sl) && entryDst (setEntry t.entries p sl) == q)

/-- Does a sender send to no other port than q, in the blend or the active table (R131)? -/
def sendsOnlyTo (s : State) (p q : Nat) : Bool :=
  let house := (List.range 210).all (fun f => (List.range (houseSlots s.blend)).all (fun sl =>
    match housePair s.blend f sl p with | some x => x == q | none => true))
  let job := match (btAt s (portTile p)).active with
    | none => true
    | some t => (litEntries t.entries).all (fun e => e.1 != p || entryDst e.2.2 == q)
  house && job

end Sys2Proof.Machine
end

