-- ==== Sys2Proof/Machine/Rs.lean ====
section
/-! DEFINITION. The Reed-Solomon code of a burst (R112): GF(2^10) with x^10 + x^3 + 1, 30 parity symbols, up to 15
symbol errors corrected. Polynomials are lists of coefficients, highest degree first, unless said otherwise. -/
namespace Sys2Proof.Machine

/-- Multiplication by alpha. -/
def g10Alpha (x : Nat) : Nat := if x ≥ 512 then ((x * 2) ^^^ 9) % 1024 else x * 2

/-- Product, from the lowest bit of `b` up. -/
def g10MulGo : Nat → Nat → Nat → Nat
  | 0, _, _ => 0
  | n + 1, a, b => (if b % 2 == 1 then a else 0) ^^^ g10MulGo n (g10Alpha a) (b / 2)

def g10Mul (a b : Nat) : Nat := g10MulGo 10 a b

/-- Power by repeated squaring over the bits of the exponent. -/
def g10PowGo : Nat → Nat → Nat → Nat
  | 0, _, _ => 1
  | n + 1, a, e => g10Mul (if e % 2 == 1 then a else 1) (g10PowGo n (g10Mul a a) (e / 2))

def g10Pow (a e : Nat) : Nat := g10PowGo 11 a e
def g10Inv (a : Nat) : Nat := g10Pow a 1022
def g10Exp (e : Nat) : Nat := g10Pow 2 (e % 1023)

/-- Horner evaluation, highest degree first. -/
def g10Eval (p : List Nat) (x : Nat) : Nat := p.foldl (fun a c => g10Mul a x ^^^ c) 0

/-- The generator, from the product of (x - alpha^i), i from 0 to 29. -/
def rsGen : List Nat :=
  (List.range 30).foldl (fun p i =>
    let r := g10Exp i
    (p ++ [0]).zipWith (fun a b => a ^^^ b) (0 :: p.map (fun c => g10Mul c r))) [1]

/-- Remainder of `msg * x^30` by the generator: the 30 parity symbols. -/
def rsParity (msg : List Nat) : List Nat :=
  let g := rsGen.tail
  msg.foldl (fun r m =>
    let f := m ^^^ r.headD 0
    (r.tail ++ [0]).zipWith (fun a c => a ^^^ g10Mul f c) g) (List.replicate 30 0)

/-- Syndromes at alpha^0 to alpha^29. -/
def rsSyn (cw : List Nat) : List Nat := (List.range 30).map (fun i => g10Eval cw (g10Exp i))

/-- Berlekamp-Massey: the error locator, lowest degree first. -/
def bmGo (syn : List Nat) : Nat → Nat → List Nat → List Nat → Nat → Nat → Nat → List Nat × Nat
  | 0, _, c, _, l, _, _ => (c, l)
  | k + 1, n, c, b, l, m, bb =>
    let d := (List.range (l + 1)).foldl (fun a i => a ^^^ g10Mul (c.getD i 0) (if i ≤ n then syn.getD (n - i) 0 else 0)) 0
    if d = 0 then bmGo syn k (n + 1) c b l (m + 1) bb
    else
      let f := g10Mul d (g10Inv bb)
      let sh := List.replicate m 0 ++ b.map (fun x => g10Mul f x)
      let len := max c.length sh.length
      let c' := (List.range len).map (fun i => c.getD i 0 ^^^ sh.getD i 0)
      if 2 * l ≤ n then bmGo syn k (n + 1) c' c (n + 1 - l) 1 d
      else bmGo syn k (n + 1) c' b l (m + 1) bb

/-- Evaluation, lowest degree first. -/
def evalLow (p : List Nat) (x : Nat) : Nat := g10Eval p.reverse x

/-- Correct a codeword: none when more than 15 symbols are wrong. -/
def rsDecode (cw : List Nat) : Option (List Nat) :=
  let syn := rsSyn cw
  if syn.all (· == 0) then some cw
  else
    let (loc, l) := bmGo syn 30 0 [1] [1] 0 1 1
    if l > 15 then none
    else
      let n := cw.length
      -- position j (degree n-1-j) is in error when alpha^-(n-1-j) is a root
      let errs := (List.range n).filter (fun j => evalLow loc (g10Inv (g10Exp (n - 1 - j))) == 0)
      if errs.length ≠ l then none
      else
        let om := (List.range l).map (fun i =>
          (List.range (i + 1)).foldl (fun a t => a ^^^ g10Mul (loc.getD t 0) (syn.getD (i - t) 0)) 0)
        -- formal derivative: odd coefficients
        let dl := (List.range (l + 1)).filterMap (fun i => if i = 0 then none else some (if i % 2 = 1 then loc.getD i 0 else 0))
        let fixed := errs.foldl (fun c j =>
          let x := g10Exp (n - 1 - j)
          let xi := g10Inv x
          let v := g10Mul x (g10Mul (evalLow om xi) (g10Inv (evalLow dl xi)))
          lset c j (c.getD j 0 ^^^ v)) cw
        if (rsSyn fixed).all (· == 0) then some fixed else none

end Sys2Proof.Machine
end

