-- ==== Sys2Proof/Machine/Burst.lean ====
section
/-! DEFINITION. The layout and the forward error correction of a burst (R109 to R112). -/
namespace Sys2Proof.Machine

/-- Header bits [223:0] (R110 Table 4). -/
def headNat (h : SlotHeader) : Nat :=
  let w0 := h.srcSite.toNat + h.srcPort.toNat * 2 ^ 7 + h.dstSite.toNat * 2 ^ 11 + h.dstPort.toNat * 2 ^ 18 +
    h.kind.toNat * 2 ^ 22 + h.flits.toNat * 2 ^ 25 + b2n h.last * 2 ^ 30 + h.flow.toNat * 2 ^ 32 +
    h.gen.toNat * 2 ^ 48 + h.service.toNat * 2 ^ 56
  let w1 := h.poison.toNat + h.offset.toNat * 2 ^ 32
  let w2 := h.tile.toNat + h.tag.toNat * 2 ^ 6 + b2n h.req * 2 ^ 16 + h.more.toNat * 2 ^ 17
  w0 + w1 * 2 ^ 64 + w2 * 2 ^ 128 + h.frame.toNat * 2 ^ 192

/-- A header from its bits. -/
def natHead (n : Nat) : SlotHeader :=
  { srcSite := BitVec.ofNat 7 n, srcPort := BitVec.ofNat 4 (n >>> 7), dstSite := BitVec.ofNat 7 (n >>> 11),
    dstPort := BitVec.ofNat 4 (n >>> 18), kind := BitVec.ofNat 3 (n >>> 22), flits := BitVec.ofNat 5 (n >>> 25),
    last := bitAt n 30, flow := BitVec.ofNat 16 (n >>> 32), gen := BitVec.ofNat 8 (n >>> 48),
    service := BitVec.ofNat 4 (n >>> 56), poison := BitVec.ofNat 26 (n >>> 64), offset := BitVec.ofNat 32 (n >>> 96),
    tile := BitVec.ofNat 6 (n >>> 128), tag := BitVec.ofNat 10 (n >>> 134), req := bitAt n 144, more := BitVec.ofNat 47 (n >>> 145),
    frame := BitVec.ofNat 32 (n >>> 192) }

/-- CHECK over header bits [223:0] and the valid flits (R110). -/
def burstCheck (head : Nat) (flits : List (List Byte)) : Nat := crc32c (toLe 28 head ++ flits.flatten)

/-- The message of a burst: header, payload, two zero bits (R112). -/
def burstMsg (b : Burst) : Nat :=
  let fs := b.flits.map (fun f => slice f.data 0 64)
  let h := headNat b.head
  h + burstCheck h (fs.take b.head.flits.toNat) * 2 ^ 224 + leNat (slice fs.flatten 0 1664) * 2 ^ 256

/-- Message symbols (R112). -/
def symbolsOf (n count : Nat) : List Nat := (List.range count).map (fun i => fld n (10 * i) 10)

/-- Every second element, from the first or the second. -/
def evens {α : Type} : List α → List α
  | [] => []
  | [a] => [a]
  | a :: _ :: t => a :: evens t

/-- Interleave two lists, first the first. -/
def interleave {α : Type} : List α → List α → List α
  | [], _ => []
  | a :: as, bs => match bs with
    | [] => a :: as
    | b :: bs => a :: b :: interleave as bs

/-- Symbols as a number. -/
def natOfSymbols (l : List Nat) : Nat := l.foldr (fun a n => a + 1024 * n) 0

/-- The 14,336 bits of a burst (R109 Table 3). -/
def burstBits (b : Burst) : BitVec 14336 :=
  let m := burstMsg b
  let sy := symbolsOf m 1357
  let par := interleave (rsParity (evens sy)) (rsParity (evens sy.tail))
  let pre := (2 ^ 32 - 1) + (2 ^ 32 - 1) * 2 ^ 64 + 0xAAAAAAAA * 2 ^ 128
  BitVec.ofNat 14336 (pre + b.mark.toNat * 2 ^ 160 + (m % 2 ^ 13568) * 2 ^ 168 + natOfSymbols par * 2 ^ 13736)

/-- A received burst after forward error correction: MARK, the header's bits, the payload, whether CHECK matches,
and the corrected symbols, each as the burst bits that were wrong. -/
structure Received where
  mark : BitVec 8
  head : Nat
  payload : Nat
  checkOk : Bool
  wrong : List (List Nat)
deriving DecidableEq, Repr

/-- Burst bits that carry symbol `u` of the message (`u < 1357`) or of the parity. -/
def symbolBits (u : Nat) : List Nat :=
  (List.range 10).filterMap (fun b =>
    if u < 1357 then (let m := 10 * u + b
                      if m < 13568 then some (168 + m) else none)
    else some (13736 + 10 * (u - 1357) + b))

/-- The wrong bits of each symbol that differs. -/
def wrongBits (got fixed : List Nat) : List (List Nat) :=
  ((got.zip fixed).zipIdx).filterMap (fun x =>
    if x.1.1 = x.1.2 then none
    else some (((symbolBits x.2).zipIdx).filterMap (fun y => if bitAt (x.1.1 ^^^ x.1.2) y.2 then some y.1 else none)))

/-- Decode a burst; none when a codeword does not decode (R112, R113 condition 1). -/
def receive (bits : BitVec 14336) : Option Received :=
  let n := bits.toNat
  let sy := symbolsOf (fld n 168 13568) 1357
  let par := symbolsOf (fld n 13736 600) 60
  match rsDecode (evens sy ++ evens par), rsDecode (evens sy.tail ++ evens par.tail) with
  | some a, some b =>
    let fixed := interleave (a.take 679) (b.take 678) ++ interleave (a.drop 679) (b.drop 678)
    let m := natOfSymbols (fixed.take 1357)
    let head := m % 2 ^ 256
    let payload := fld m 256 13312
    let k := fld head 25 5
    let fs := toLe 1664 payload
    some { mark := BitVec.ofNat 8 (n >>> 160), head := head, payload := payload,
           checkOk := decide (fld head 224 32 = burstCheck (head % 2 ^ 224) [fs.take (64 * k)]) && decide (k ≤ 26),
           wrong := wrongBits (sy ++ par) fixed }
  | _, _ => none

/-- The flits a received burst delivers, with their poison (R110, R114). -/
def receivedFlits (r : Received) : List Flit :=
  let h := natHead r.head
  let bs := toLe 1664 r.payload
  (List.range h.flits.toNat).map (fun i => { data := slice bs (64 * i) 64, poison := h.poison.getLsbD i })

end Sys2Proof.Machine
end

