-- ==== Sys2Proof/Machine/Inflate.lean ====
section
/-! DEFINITION. Packed units, code tables and the port inflaters (R61 to R65). -/
namespace Sys2Proof.Machine

/-! Prefix codes (R62, R63). -/

/-- Canonical codes: (length, code, symbol), shorter lengths first, symbols increasing. -/
def canonGo (lens : List Nat) : Nat → Nat → Nat → List (Nat × Nat × Nat)
  | 0, _, _ => []
  | fuel + 1, len, code =>
    let syms := (List.range lens.length).filter (fun s => lens.getD s 0 == len)
    (syms.zipIdx).map (fun x => (len, code + x.2, x.1)) ++ canonGo lens fuel (len + 1) ((code + syms.length) * 2)

def canonCodes (lens : List Nat) : List (Nat × Nat × Nat) := canonGo lens 12 1 0

/-- A table is valid (R62): lengths 0 to 12 with an exact Kraft sum, or one used symbol of length 1. -/
def lensValid (lens : List Nat) : Bool :=
  let used := lens.filter (· ≠ 0)
  lens.all (· ≤ 12) &&
    (decide ((used.map (fun l => 2 ^ (12 - l))).sum = 4096) || used == [1])

/-- Symbols of a code table by its KIND, and its length in bytes (R62). -/
def kindSymbols (kind : Nat) : Option (Nat × Nat) :=
  match kind with | 1 => some (16, 10) | 2 => some (8, 6) | 3 => some (256, 130) | _ => none

/-- A code table record (R62). -/
def codeTable (index : Nat) (bs : List Byte) : Option CodeTable :=
  let kind := (bs.getD 0 0).toNat
  match kindSymbols kind with
  | none => none
  | some (n, len) =>
    let lens := (List.range n).map (fun i => packedElem (bs.drop 2) 4 i)
    if bs.length = len ∧ bs.getD 1 0 = 0 ∧ lensValid lens then some { index := index, kind := kind, lens := lens } else none

/-- Bits of bytes, each from bit 0. -/
def bitStream (bs : List Byte) : List Bool := bs.flatMap (fun b => (List.range 8).map (fun i => b.getLsbD i))

/-- Read one symbol, a code's most significant bit first. DESIGN CHOICE (log 104): with a table of one used symbol the bits that spell no
code end the section, as if it were exhausted. -/
def readSym (codes : List (Nat × Nat × Nat)) : Nat → Nat → Nat → List Bool → Option (Nat × List Bool)
  | 0, _, _, _ => none
  | _ + 1, _, _, [] => none
  | fuel + 1, len, code, b :: rest =>
    let code := code * 2 + b2n b
    match codes.find? (fun c => c.1 == len + 1 && c.2.1 == code) with
    | some c => some (c.2.2, rest)
    | none => readSym codes fuel (len + 1) code rest

/-- Read `n` symbols; none when the section ends first. -/
def readSyms (codes : List (Nat × Nat × Nat)) : Nat → List Bool → Option (List Nat)
  | 0, _ => some []
  | n + 1, bits =>
    match readSym codes 12 0 0 bits with
    | none => none
    | some (s, rest) => (readSyms codes n rest).map (fun l => s :: l)

/-! Units (R61). -/

structure UnitHead where
  fmt : Nat
  idxTable : Nat
  cbTable : Nat
  blocks : Nat
  cbBytes : Nat
  idxBytes : Nat
  check : Nat
  reserved : Bool
deriving DecidableEq, Repr

def unitHead (bs : List Byte) : UnitHead :=
  { fmt := leAt bs 0 1, idxTable := leAt bs 1 1, cbTable := leAt bs 2 1, blocks := leAt bs 4 2, cbBytes := leAt bs 6 2,
    idxBytes := leAt bs 8 2, check := leAt bs 12 4, reserved := decide (leAt bs 3 1 ≠ 0 ∨ leAt bs 10 2 ≠ 0) }

/-- Codebook bytes, index bytes and index width of one block. -/
def blockSizes (fmt : Nat) : Nat × Nat × Nat := if fmt = 1 then (16, 32, 4) else (8, 24, 3)

/-- Output lines of a unit: 3 for a quad of CB4 blocks, 1 for a pair of CB3 blocks. -/
def unitLines (h : UnitHead) : Nat := if h.fmt = 1 then h.blocks / 4 * 3 else h.blocks / 2

/-- A code table of the running image with a kind. -/
def tableOf (s : State) (i kind : Nat) : Option (List Nat) :=
  (s.codes.find? (fun c => c.index == i && c.kind == kind)).map (·.lens)

/-- A unit header that the inflater accepts (R61, R65 Table 16 row 1). -/
def headOk (s : State) (h : UnitHead) : Bool :=
  let sz := blockSizes h.fmt
  decide (h.fmt = 1 ∨ h.fmt = 2) && !h.reserved &&
  (if h.fmt = 1 then decide (h.blocks % 4 = 0 ∧ 4 ≤ h.blocks ∧ h.blocks ≤ 256)
   else decide (h.blocks % 2 = 0 ∧ 2 ≤ h.blocks ∧ h.blocks ≤ 384)) &&
  decide (16 + h.cbBytes + h.idxBytes ≤ 4096) &&
  (if h.idxTable = 255 then decide (h.idxBytes = h.blocks * sz.2.1) else (tableOf s h.idxTable h.fmt).isSome) &&
  (if h.cbTable = 255 then decide (h.cbBytes = h.blocks * sz.1) else (tableOf s h.cbTable 3).isSome)

/-- Pack indices of `w` bits into bytes (R31). -/
def packBits (w : Nat) (l : List Nat) : Nat := l.foldr (fun a n => a + 2 ^ w * n) 0

/-- The expanded quads or pairs of a unit; none when a section ends early (R61, R65). -/
def expandUnit (s : State) (h : UnitHead) (bs : List Byte) : Option (List Byte) :=
  let sz := blockSizes h.fmt
  let cbSec := slice bs 16 h.cbBytes
  let ixSec := slice bs (16 + h.cbBytes) h.idxBytes
  let cb := if h.cbTable = 255 then some cbSec
    else (readSyms (canonCodes ((tableOf s h.cbTable 3).getD [])) (h.blocks * sz.1) (bitStream cbSec)).map
      (fun l => l.map (BitVec.ofNat 8))
  let ix := if h.idxTable = 255 then some ixSec
    else (readSyms (canonCodes ((tableOf s h.idxTable h.fmt).getD [])) (h.blocks * 64) (bitStream ixSec)).map
      (fun l => (List.range h.blocks).flatMap (fun b => toLe sz.2.1 (packBits sz.2.2 ((l.drop (64 * b)).take 64))))
  match cb, ix with
  | some c, some x =>
    let per := if h.fmt = 1 then 4 else 2
    some ((List.range (h.blocks / per)).flatMap (fun g =>
      slice c (g * per * sz.1) (per * sz.1) ++ slice x (g * per * sz.2.1) (per * sz.2.1)))
  | _, _ => none

/-! The inflater. -/

/-- Cut flits into WRITE packets of at most sixteen lines (R79) from one mesh node to another. -/
def writeLinesGo (cd src dst flow : Nat) : Nat → State → Nat → List Flit → State
  | 0, s, _, _ => s
  | fuel + 1, s, line, fs =>
    if fs.isEmpty then s
    else writeLinesGo cd src dst flow fuel (meshSend s cd (writePacket src dst line flow (fs.take 16))) (line + 16) (fs.drop 16)

/-- A port adapter writes flits to a tile from a line on (R82). -/
def adapterWrite (s : State) (p tile flow line : Nat) (fs : List Flit) : State :=
  writeLinesGo (p / 12) (64 + p % 12) tile flow (fs.length / 16 + 1) s line fs

/-- Lines whose bytes the spec does not give, poison-marked (R65, R132). -/
def poisonLines (ctr base n : Nat) : List Flit :=
  (List.range n).map (fun i => freePoison ctr (base + i))

/-- The transfer a flit of a packed load belongs to. -/
def xferOf (s : State) (k flow n : Nat) : Option Transfer := (flowSt (tileAt s k) flow).open_.find? (fun x => x.n == n)

/-- Output lines of the units before unit `u`, when all their headers have arrived. -/
def unitStart (x : Transfer) (u : Nat) : Option Nat :=
  if (List.range u).all (fun i => (tfind x.units i).isSome) then
    some (((List.range u).map (fun i => (tfind x.units i).getD 0)).sum)
  else none

/-- INFLATE_ERR (R349): the port and the row of Table 16. -/
def inflateErr (s : State) (p row flow : Nat) : State :=
  raise s (siteCD (p / 12)) 0x04 0x09 3 true (p + row * 512 + flow * 65536)

/-- Note the output length of a unit when its header arrives; a header that is not valid takes the rest of the range. -/
def noteUnit (s : State) (k flow n u : Nat) (h : UnitHead) : State :=
  match partOf s k flow with
  | none => s
  | some (_, pt) =>
    updTile s k (fun t => updXfer t flow n (fun x =>
      if (tfind x.units u).isSome then x
      else { x with units := tput x.units u (if headOk s h then unitLines h else pt.outLines) }))

/-- The output range of a unit that an inflater discards is written poison-marked (R65 row 4), once the lengths of the units before it
are known. -/
def poisonUnit (s : State) (p tile flow n u : Nat) : Option State :=
  let k := 64 * (p / 12) + tile
  match xferOf s k flow n, partOf s k flow with
  | some x, some (_, pt) => match unitStart x u, tfind x.units u with
    | some st, some len => some (bumpFree (adapterWrite s p tile flow (bufLine pt n + st) (poisonLines s.freeCtr st (min len (pt.outLines - st)))))
    | _, _ => none
  | _, _ => none

/-- The discarded units of a port that could not be placed yet, tried again. -/
def settleOwed (s : State) (p : Nat) : State :=
  (inflAt s p).owed.foldl (fun s o => match poisonUnit s p o.2.1 o.1 o.2.2.1 o.2.2.2 with
    | some s' => setInfl s' p { inflAt s' p with owed := (inflAt s' p).owed.erase o }
    | none => s) s

/-- The header of a unit has come on some port of a die: its length is known, and with it the place of later units. -/
def noteHeader (s : State) (cd k flow n u : Nat) (h : UnitHead) : State :=
  overNats (List.range 12) (fun i s => settleOwed s (12 * cd + i)) (noteUnit s k flow n u h)

/-- A packed flit arrives at an inflater (R64); past 16 KiB its unit is discarded and its output range poison-marked
(R65 row 4). DESIGN CHOICE (log 104): bytes of a unit that never becomes whole stay until the next job start, and count. -/
def inflateFlit (s : State) (p tile flow n off : Nat) (fl : Flit) : State :=
  let k := 64 * (p / 12) + tile
  let u := off / 64
  let s := if off % 64 = 0 then noteHeader s (p / 12) k flow n u (unitHead fl.data) else s
  let f := inflAt s p
  if f.dropped.contains (flow, tile, n, u) then s
  else if f.buf.length ≥ 256 then
    let s := setInfl s p { f with buf := f.buf.filter (fun x => !(x.flow == flow && x.tile == tile && x.transfer == n && x.offset / 64 == u)),
                                  dropped := f.dropped ++ [(flow, tile, n, u)] }
    let s := inflateErr s p 4 flow
    match poisonUnit s p tile flow n u with
    | some s => s
    | none => setInfl s p { inflAt s p with owed := (inflAt s p).owed ++ [(flow, tile, n, u)] }
  else setInfl s p { f with buf := f.buf ++ [{ flow := flow, tile := tile, transfer := n, offset := off, flit := fl }] }

/-- The flits of one unit in a buffer, in order. -/
def unitFlits (f : Inflater) (x : InflFlit) : List InflFlit :=
  (List.range 64).filterMap (fun i => f.buf.find? (fun y => y.flow == x.flow && y.tile == x.tile &&
    y.transfer == x.transfer && y.offset == x.offset / 64 * 64 + i))

/-- The inflater expands its oldest whole unit (R61 to R65). DESIGN CHOICE (log 104): an invalid header ends the transfer that holds it; a
unit's output is written whole, past OUT_LINES too; a unit that starts at or past OUT_LINES is dropped without a message. -/
def doPackedUnit (s : State) (p : Nat) : State :=
  let f := inflAt s p
  match f.buf.find? (fun x => (unitFlits f x).length == 64) with
  | none => s
  | some x0 =>
    let k := 64 * (p / 12) + x0.tile
    let u := x0.offset / 64
    let fs := unitFlits f x0
    match xferOf s k x0.flow x0.transfer, partOf s k x0.flow with
    | some x, some (_, pt) =>
      match unitStart x u with
      | none => s
      | some st =>
        let f := { f with buf := f.buf.filter (fun y => !fs.contains y) }
        let s := setInfl s p f
        let bs := fs.flatMap (fun y => y.flit.data)
        let pois := fs.any (fun y => y.flit.poison)
        let h := unitHead bs
        let line := bufLine pt x0.transfer + st
        if st ≥ pt.outLines then s
        else if !headOk s h then
          let s := inflateErr s p 1 x0.flow
          let s := adapterWrite s p x0.tile x0.flow line (poisonLines s.freeCtr st (pt.outLines - st))
          bumpFree (updTile s k (fun t => updXfer t x0.flow x0.transfer (fun y =>
            { y with checked := y.checked + (pt.outLines - st), status := y.status ||| 1 })))
        else match expandUnit s h bs with
          | none => bumpFree (adapterWrite (inflateErr s p 2 x0.flow) p x0.tile x0.flow line
              (poisonLines s.freeCtr st (unitLines h)))
          | some out =>
            let good := decide (crc32c out = h.check)
            let s := adapterWrite s p x0.tile x0.flow line
              ((List.range (unitLines h)).map (fun i => { data := slice out (64 * i) 64, poison := pois }))
            setInfl s p { f with check := f.check ++ [{ flow := x0.flow, tile := x0.tile, transfer := x0.transfer, firstLine := line, lines := unitLines h, good := good }] }
    | _, _ => setInfl s p { f with buf := f.buf.filter (fun y => !fs.contains y) }

/-- The inflaters of a compute die run with it. -/
def execPackedUnit (p : Fin 192) (s : State) : Host.Outcome State Fault Refusal :=
  .next (if meshOn s (p.val / 12) then doPackedUnit s p.val else s)

/-- A unit's check is known (R64, R65 row 3): progress is signalled to its tile, or the range is written again
poison-marked. -/
def doUnitCheck (s : State) (p : Nat) : State :=
  let f := inflAt s p
  match f.check with
  | [] => s
  | c :: rest =>
    let s := setInfl s p { f with check := rest }
    if c.good then
      let d := dieAt s (p / 12)
      let key := txKey (64 + p % 12) c.tile c.flow
      meshSend (setDie s (p / 12) { d with unitMeta := tput d.unitMeta key ((tfind d.unitMeta key).getD [] ++ [c.transfer]) })
        (p / 12) (progress (64 + p % 12) c.tile 0 c.lines c.flow)
    else bumpFree (adapterWrite (inflateErr s p 3 c.flow) p c.tile c.flow c.firstLine (poisonLines s.freeCtr c.firstLine c.lines))

def execUnitCheckDone (p : Fin 192) (s : State) : Host.Outcome State Fault Refusal :=
  .next (if meshOn s (p.val / 12) then doUnitCheck s p.val else s)

end Sys2Proof.Machine
end

