-- ==== Sys2Proof/Machine/Slots.lean ====
section
/-! DEFINITION. Sending and receiving slots (R108 to R114, R121, R131). -/
namespace Sys2Proof.Machine

/-! Sending. -/

/-- Key of a house service's queue at a die. -/
def houseKey (site service : Nat) : Nat := 16 * site + service
def houseQ (s : State) (site service : Nat) : List (Nat × List Flit) := tget (fun _ => []) s.houseq (houseKey site service)
def setHouseQ (s : State) (site service : Nat) (q : List (Nat × List Flit)) : State :=
  { s with houseq := tset (fun _ => []) s.houseq (houseKey site service) q }

/-- A queue entry goes to a port's die, or to the base tile under it (keys 128 to 135) (R125). -/
def houseFor (q : Nat) (e : Nat × List Flit) : Bool := e.1 == (portSite q).1 || e.1 == 128 + portTile q

/-! The receive buffer of a host die (R286). -/

def hostPortAt (s : State) (n : Nat) : HostPort := tget (fun _ => {}) s.host.ports n
def setHostPort (s : State) (n : Nat) (v : HostPort) : State := { s with host := { s.host with ports := tset (fun _ => {}) s.host.ports n v } }

/-- Bytes bound into module DRAM that the receive buffer holds: it has room for `n` more (24 MiB). -/
def hostRoom (s : State) (port n : Nat) : Bool := decide ((hostPortAt s port).fill + n ≤ 25165824)

/-- Bytes enter the receive buffer; at 16 MiB it sends XOFF. -/
def hostFill (s : State) (port n : Nat) : State :=
  let p := hostPortAt s port
  let fill := p.fill + n
  if 16777216 ≤ fill ∧ !p.xoff then
    bump (emit (setHostPort s port { p with fill := fill, xoff := true }) (.host port (.eth .pfcXoff [BitVec.ofNat 8 (dval s Obj.hostPfcPriority)] none)))
      Obj.hostPauseSent
  else setHostPort s port { p with fill := fill }

/-- Bytes leave it in a HOST slot; below 8 MiB it sends XON. -/
def hostDrain (s : State) (port n : Nat) : State :=
  let p := hostPortAt s port
  let fill := p.fill - n
  if fill < 8388608 ∧ p.xoff then
    emit (setHostPort s port { p with fill := fill, xoff := false }) (.host port (.eth .pfcXon [BitVec.ofNat 8 (dval s Obj.hostPfcPriority)] none))
  else setHostPort s port { p with fill := fill }

/-- The die at a site has a unit for the die of a port in a HOST slot. -/
def hostWaits (s : State) (site q : Nat) : Bool := !(hostPath s (pathKey site (portSite q).1)).isEmpty

/-- The whole units at the front that `n` flit positions hold. -/
def hostTake : Nat → List FabPacket → List FabPacket
  | _, [] => []
  | n, p :: t => if p.len.toNat + 1 ≤ n then p :: hostTake (n - (p.len.toNat + 1)) t else []

/-- Bytes that a unit takes from the receive buffer into module DRAM: a STORE's, an ATOMIC's. -/
def unitBytes (p : FabPacket) : Nat := if p.opc = 2 then p.w4.toNat % 2048 else if p.opc = 3 then 8 else 0

/-- A HOST slot's payload: the units that wait for its receiver, as many as 26 flits hold. DESIGN CHOICE (log 112): the spec gives HOST payloads no
layout; a unit is laid out as a fabric die's (R239). What leaves a host die for DRAM leaves its receive buffer (R286). -/
def hostSlot (s : State) (site peer : Nat) : List Flit × State :=
  let l := pathKey site peer
  let ps := hostTake 26 (hostPath s l)
  let s := setHostPath s l ((hostPath s l).drop ps.length)
  (ps.flatMap packetFlits,
   if site = 72 ∨ site = 73 then hostDrain s (site - 72) ((ps.map unitBytes).foldl (· + ·) 0) else s)

/-- Services with data for a port, as requesters of the arbiter (R121); FABRIC's stands in the end of the path (R234). A host die's TABLE slots go ahead of every other service of it
(R129 Table 12). -/
def houseWaiters (s : State) (site q : Nat) : List ArbReq :=
  let ws := ([1, 2, 3, 4, 5] : List (Fin 32)).filterMap (fun v =>
    if (houseQ s site v.val).any (houseFor q) || (v == 2 && endWaits (linkAt s (pathKey site (portSite q).1))) ||
        (v == 1 && hostWaits s site q) then some ({ requester := v, vc := 0, len := 1 } : ArbReq) else none)
  if (site = 72 ∨ site = 73) ∧ ws.any (fun r => r.requester == 5) then ws.filter (fun r => r.requester == 5) else ws

/-- The run of flits a slot of a flow carries: from the first one for the receiver, those that follow it with the
same request and consecutive offsets, at most `avail` of 26 (R109, R172, R173). -/
def takeRun : Nat → List TxFlit → List TxFlit
  | 0, _ => []
  | _, [] => []
  | _, [a] => [a]
  | n + 1, a :: b :: t =>
    if b.offset = a.offset + 1 ∧ b.req = a.req ∧ b.tile = a.tile ∧ b.tag = a.tag ∧ b.xfer = a.xfer ∧ !a.last then a :: takeRun n (b :: t) else [a]

/-- Flits queued for a flow at a compute die's port, or at a memory base die. -/
def txQueue (s : State) (p flow : Nat) : List TxFlit :=
  match siteKind (portSite p).1 with
  | some (.cd, n) => (tfind (dieAt s n).txq (txqKey (p % 12) flow)).getD []
  | some (.md, n) => (tfind (stackAt s n).txq flow).getD []
  | _ => []

def setTxQueue (s : State) (p flow : Nat) (q : List TxFlit) : State :=
  match siteKind (portSite p).1 with
  | some (.cd, n) => setDie s n { dieAt s n with
      txq := (if q.isEmpty then tdel (dieAt s n).txq (txqKey (p % 12) flow) else tput (dieAt s n).txq (txqKey (p % 12) flow) q) }
  | some (.md, n) => updStack s n (fun st => { st with txq := if q.isEmpty then tdel st.txq flow else tput st.txq flow q })
  | _ => s

/-- Lines of a sender's transfer have left in their slot; with its last line it has left (R201 SEND). -/
def sendLeft (s : State) (k flow n lines : Nat) : State :=
  updTile s k (fun t => updXfer t flow n (fun y =>
    { y with expect := y.expect - lines, left := y.left || decide (y.expect ≤ lines), lastSlot := some s.ticks }))

/-- A slot was scheduled with stream data of a transfer: at the receiving tile it is open, and this is the last slot it had (R132,
R201). -/
def dueSlot (s : State) (q k flow n : Nat) : State :=
  match (partOf s k flow).bind (fun e => physOf s e.2.peer) with
  | some r =>
    let lines := ((partOf s r flow).map (·.2.outLines)).getD 0
    let s := updTile s r (fun t => updXfer (openRecv t flow lines n) flow n (fun y => { y with lastSlot := some s.ticks }))
    updPort s q (fun v => { v with due := some (k, n) })
  | none => s

/-- A slot was scheduled with data of a request of a compute die (R132). -/
def dueReq (s : State) (site : Nat) (x : TxFlit) : State :=
  match siteKind site with
  | some (.cd, n) =>
    match (dieAt s n).reqs.find? (fun r => r.tag == x.tag && r.tile == x.tile) with
    | some r => if r.for_ ≠ .transfer then s else updTile s (64 * n + r.tile.toNat) (fun t => updXfer t r.flow.toNat r.transfer (fun y => { y with lastSlot := some s.ticks }))
    | none => s
  | _ => s

/-- What sending a run does at the die that sent it: a memory base die counts its lines sent and answers REQ_DONE
after the last (R172). -/
def runSent (s : State) (p flow : Nat) (run : List TxFlit) : State :=
  match siteKind (portSite p).1, run.getLast? with
  | some (.md, n), some _ =>
    run.foldl (fun s x =>
      match (stackAt s n).held.find? (fun h => h.load && h.req.src.toNat == x.dstSite && h.req.tile == x.tile && h.req.tag == x.tag &&
          h.req.flow.toNat == flow) with
      | some h => serveHeld s n h x.offset
      | none => s) s
  | some (.cd, n), some z => if z.req then s else sendLeft s (64 * n + z.tile.toNat) flow z.xfer run.length
  | _, _ => s

/-- Common part of a slot header. -/
def headFor (s : State) (p q : Nat) : SlotHeader :=
  { srcSite := BitVec.ofNat 7 (portSite p).1, srcPort := BitVec.ofNat 4 (portSite p).2,
    dstSite := BitVec.ofNat 7 (portSite q).1, dstPort := BitVec.ofNat 4 (portSite q).2, kind := 0, flits := 0, last := false,
    flow := 0, gen := 0, service := 0, poison := 0, offset := 0, tile := 0, tag := 0, req := false, more := 0,
    frame := BitVec.ofNat 32 (frameNo s) }

def markFor (sl : Nat) : BitVec 8 := BitVec.ofNat 8 (sl % 64 + 128)

/-- A port lights a burst to another; lines under calibration carry PRBS-15 in it (R149). -/
def sendBurst (s : State) (p q : Nat) (b : Burst) : State := emit s (.slot p q { b with prbs := prbsLines s p q })

/-- A port sends its burst of a job slot for a flow (R111, R173). -/
def sendJob (s : State) (sl p q flow avail : Nat) : State :=
  let queue := txQueue s p flow
  let dst := (portSite q).1
  let fit := queue.filter (fun x => x.dstSite == dst || x.dstSite == 127)
  let full := takeRun 26 fit
  let run := full.take avail
  let isMd := decide (192 ≤ p)
  let s := if isMd && decide (run.length < full.length) then bump s Obj.slotUnderruns else s
  let h := headFor s p q
  match run with
  | [] => sendBurst s p q { mark := markFor sl, head := h, flits := [] }
  | a :: _ =>
    let last := (run.getLast?.map (·.last)).getD false ||
      (isMd && !fit.any (fun x => x.req == a.req && x.tile == a.tile && x.tag == a.tag && !run.contains x))
    let gen := ((btAt s (portTile p)).active.map (·.gen)).getD 0
    let h := { h with kind := 1, flits := BitVec.ofNat 5 run.length, last := last, flow := BitVec.ofNat 16 flow, gen := gen,
                      poison := poisonBits (run.map (·.flit)), offset := BitVec.ofNat 32 a.offset,
                      tile := if a.req then a.tile else 0, tag := if a.req then a.tag else 0, req := a.req }
    let s := setTxQueue s p flow (run.foldl (fun l x => l.erase x) queue)
    let s := match siteKind (portSite p).1 with
      | some (.cd, n) => if a.req then dueReq s (siteCD n) a else dueSlot s q (64 * n + a.tile.toNat) flow a.xfer
      | _ => dueReq s dst a
    runSent (sendBurst s p q { mark := markFor sl, head := h, flits := run.map (·.flit) }) p flow run

/-- An engine sends its PART 0 slot to a base tile that answered RESULT 3 (R125). -/
def tableBusy (s : State) (site bt : Nat) : Option Job :=
  s.job.bind (fun j => if siteHD j.owner = site ∧ j.busy.contains bt then some j else none)

/-- A PART 0 slot that was repeated has been taken by the base tile under a port: its rows follow (R125). -/
def tableStep (s : State) (site q : Nat) : State :=
  let b := portTile q
  match tableBusy s site b with
  | none => s
  | some j =>
    let h := (btAt s b).shadow
    if h.owner.toNat = site ∧ h.gen = j.loadGen then
      let es := houseQ s site 5
      let es := match es.find? (houseFor q) with | some e => es.erase e | none => es
      setHouseQ { s with job := some { j with busy := j.busy.filter (· != b) } } site 5 es
    else s

/-- A port sends its burst of a house slot: the service the arbiter grants, or IDLE; the grant ends with the slot (R111, R121). A PART 0
slot for a base tile that answered RESULT 3 stays queued until the tile has taken it (R125). -/
def sendHouse (s : State) (sl p q : Nat) : State :=
  let site := (portSite p).1
  let s := tableStep s site q
  let h := headFor s p q
  let ws := houseWaiters s site q
  let idle := fun s => sendBurst s p q { mark := markFor sl, head := h, flits := [] }
  if ws.isEmpty then idle s
  else
    let s := doArbiter s .house site ws
    match (arbAt s .house site).holder with
    | none => idle s
    | some v =>
      let s := arbRelease s .house site
      if v = 2 then
        match fillSlot s (pathKey site (portSite q).1) h with
        | (some x, s) => sendBurst s p q { mark := markFor sl, head := x.1, flits := x.2 }
        | (none, s) => idle s
      else if v = 1 ∧ hostWaits s site q then
        let x := hostSlot s site (portSite q).1
        sendBurst x.2 p q { mark := markFor sl, flits := x.1
                            head := { h with kind := 2, flits := BitVec.ofNat 5 x.1.length, service := 1, poison := poisonBits x.1 } }
      else match (houseQ s site v).find? (houseFor q) with
      | none => idle s
      | some e =>
        let h := { h with kind := 2, flits := BitVec.ofNat 5 e.2.length, service := BitVec.ofNat 4 v, poison := poisonBits e.2 }
        let again := v == 5 && (tableBusy s site (portTile q)).isSome
        let s := if again then s else setHouseQ s site v ((houseQ s site v).erase e)
        sendBurst s p q { mark := markFor sl, head := h, flits := e.2 }

/-- Slot `sl` begins now: 16 `sl` nanoseconds after a frame boundary that has arrived, and once (R108). -/
def slotDue (s : State) (sl : Fin 64) : Bool :=
  decide (s.now.toNat % 1024 = 16 * sl.val ∧ s.now.toNat < s.boundary.toNat + 1024 ∧ s.slotAt ≠ some s.ticks)

/-- The test bursts of a house slot at start-up. -/
def testSlot (s : State) (sl : Nat) : State :=
  if s.startup.step ≠ 9 ∧ s.startup.step ≠ 10 ∨ houseSlots s.blend ≤ sl then s
  else overNats (List.range 350) (fun p s =>
    match slotTarget s sl p with
    | some (q, _) => emit s (.slot p q { mark := markFor sl, head := headFor s p q, flits := [], prbs := testLines s p q })
    | none => s) s

/-- A slot begins at every port: `short` lists the ports whose transmit buffer holds fewer flits than their slot
could carry (R108, R173). Before the house blend runs, in steps 9 and 10 of start-up, the house pairs exchange test bursts (R153, R443). -/
def doSlotStart (s : State) (sl : Fin 64) (short : List (Nat × Nat)) : State :=
  if !slotDue s sl then s else
  if !s.light.cal.blendRuns then testSlot { s with slotNow := sl, slotAt := some s.ticks } sl.val else
  overNats (List.range 350) (fun p s =>
    match slotTarget s sl.val p with
    | none => s
    | some (q, none) => sendHouse s sl.val p q
    | some (q, some flow) =>
      sendJob s sl.val p q flow (((short.find? (fun e => e.1 == p)).map (·.2)).getD 26)) { s with slotNow := sl, slotAt := some s.ticks }

/-! Receiving. -/

/-- Corrected symbols are counted at port `q`, and attributed to the lines that carried their wrong bits; `lane` gives
the line of a logical lane, `p` the sender (R130, R131). -/
def countLines (s : State) (lane : Nat → Nat) (p q : Nat) (wrong : List (List Nat)) : State :=
  if wrong.isEmpty then s
  else
    let s := bump s Obj.symbolsCorrected wrong.length
    let f := frameNo s
    let v := portAt s q
    let lines := wrong.flatMap (fun bits => (bits.map (fun j => lane (j % 32))).eraseDups)
    let v := lines.foldl (fun (v : PortSt) l => { v with
      lineErr := tupd (fun _ => 0) v.lineErr l (fun c => if c = 0xFFFFFFFF then c else c + 1) }) v
    let new := lines.eraseDups.map (fun l => ({ frame := f, line := l, sender := p, count := lines.count l } : LineErrs))
    let v := { v with errLog := v.errLog.filter (fun (e : LineErrs) => decide (e.frame ≤ f ∧ f < e.frame + 1024)) ++ new }
    setPort s q { v with corrected := v.corrected + BitVec.ofNat 64 wrong.length }

def countCorrected (s : State) (p q : Nat) (wrong : List (List Nat)) : State := countLines s (laneLine s p q) p q wrong

/-- A slot is discarded by condition `c` of R113. -/
def discardSlot (s : State) (sl q c : Nat) (sender : Option Nat) : State :=
  let s := bump s (if c = 1 then Obj.slotsUncorrectable else Obj.slotsMisdelivered)
  let v := portAt s q
  let f := frameNo s
  let v := { v with uncorr := v.uncorr + 1
                    badLog := v.badLog.filter (fun e => e != (f, sender) && decide (e.1 ≤ f ∧ f < e.1 + 64)) ++ [(f, sender)] }
  raise (setPort s q v) (portTile q) 0x03 0x18 3 true (portForm q 0 sl + c * 2 ^ 21)

/-- Conditions 2 to 5 of R113: the first that fails. DESIGN CHOICE (log 107): an IDLE burst in a job slot, whose GEN is 0 (R110), meets no GEN
check. -/
def badCondition (s : State) (sl q : Nat) (mark : BitVec 8) (h : SlotHeader) : Option Nat :=
  let me := portSite q
  let house := decide (sl < houseSlots s.blend)
  if mark ≠ markFor sl then some 2
  else if h.frame ≠ BitVec.ofNat 32 (frameNo s) then some 3
  else if (h.dstSite.toNat, h.dstPort.toNat) ≠ me ∨
      (expectedSender s sl q).map portSite ≠ some (h.srcSite.toNat, h.srcPort.toNat) then some 4
  else if house then (if h.kind = 2 ∨ h.kind = 0 then none else some 5)
  else if h.kind = 0 then none
  else if h.kind = 1 ∧ (btAt s (portTile q)).active.map (·.gen) = some h.gen then none
  else some 5

/-- Data of a transfer at a compute die: to the inflater for a PACKED flow, else written to the tile's buffer (R63, R82). -/
def deliverLines (s : State) (q t : Nat) (fd : FlowDesc) (pt : Part) (n off : Nat) (fs : List Flit) : State :=
  if fd.kind = 3 then (fs.zipIdx).foldl (fun s x => inflateFlit s q t fd.flow n (off + x.2) x.1) s
  else adapterWrite s q t fd.flow (bufLine pt n + off) fs

/-- Lines of a request at its die, from a position of its range on: to the transfer's tile, to a booting tile, or nowhere (R213). -/
def landLines (s : State) (q cd : Nat) (r : DieReq) (off : Nat) (fs : List Flit) : State :=
  match r.for_ with
  | .transfer =>
    match partOf s (64 * cd + r.tile.toNat) r.flow.toNat with
    | some (fd, pt) => deliverLines s q r.tile.toNat fd pt r.transfer off fs
    | none => s
  | .boot line => adapterWrite s q r.tile.toNat r.flow.toNat (line + off) fs
  | _ => s

/-- A line of results that the die completes itself (R196). -/
def lateFlit (r : DieReq) (line : Nat) (f : Flit) : Flit :=
  match r.late with
  | some (at_, bs) => if at_ / 64 = line then { f with data := splice (slice f.data 0 64) (at_ % 64) bs } else f
  | none => f

/-- A slot of a request's data at a compute die (R82, R114, R171). -/
def deliverReq (s : State) (q cd : Nat) (h : SlotHeader) (fs : List Flit) : State :=
  let d := dieAt s cd
  match d.reqs.find? (fun r => r.tag == h.tag && r.tile == h.tile) with
  | none => s
  | some r =>
    let k := 64 * cd + r.tile.toNat
    let off := h.offset.toNat
    if h.flow ≠ r.flow then
      -- result records of an ATOMIC flow
      match partOf s k h.flow.toNat with
      | some (_, pt) => adapterWrite s q r.tile.toNat h.flow.toNat (bufLine pt r.transfer + off) ((fs.zipIdx).map (fun e => lateFlit r (off + e.2) e.1))
      | none => s
    else
      let r' := { r with got := (List.range fs.length).foldl (fun g i => addPos g (off + i)) r.got }
      let s := setDie s cd { d with reqs := d.reqs.map (fun x => if x.tag = r.tag then r' else x) }
      let s := landLines s q cd r off fs
      if reqComplete r' then finishReq s cd r' else s

/-- A slot of flow stream data at a compute die: to the receiving tile of the transfer it belongs to (R82, R114, R201). DESIGN CHOICE (log
107): the slot header names the flow and the sending die only; the transfer is the one whose data the slot was scheduled with. -/
def deliverSend (s : State) (q cd : Nat) (h : SlotHeader) (fs : List Flit) : State :=
  let flow := h.flow.toNat
  match (portAt s q).due with
  | none => s
  | some (k, n) =>
    match (partOf s k flow).bind (fun e => physOf s e.2.peer) with
    | none => s
    | some r =>
      match partOf s r flow with
      | none => s
      | some (_, pt) => if r / 64 = cd then adapterWrite s q (r % 64) flow (bufLine pt n + h.offset.toNat) fs else s

/-- An accepted FLOW slot (R114). -/
def deliverFlow (s : State) (q : Nat) (h : SlotHeader) (fs : List Flit) : State :=
  match siteKind (portSite q).1 with
  | some (.cd, n) => if h.req then deliverReq s q n h fs else deliverSend s q n h fs
  | some (.md, n) =>
    if h.req then (fs.zipIdx).foldl (fun s x => storeFlit s n h.srcSite.toNat h.tile h.tag (h.offset.toNat + x.2) x.1) s else s
  | _ => s

/-- An accepted HOUSE slot reaches its service (R114); a FABRIC slot's flits join the stream of its path (R238), a HOST slot's units wait for
their die, messages and Punel units queue up. -/
def deliverHouse (s : State) (q : Nat) (h : SlotHeader) (fs : List Flit) : State :=
  if h.service = 2 then pathBurst s (pathKey (portSite q).1 h.srcSite.toNat) h fs
  else if h.service = 1 then
    { s with host := { s.host with slotIn := s.host.slotIn ++ (takePackets 27 fs).1.map (fun p => (pathKey (portSite q).1 h.srcSite.toNat, p)) } }
  else
  let k := houseKey (portSite q).1 h.service.toNat
  let old := if h.service = 3 ∨ h.service = 4 then tget (fun _ => []) s.houseIn k else []
  { s with houseIn := tset (fun _ => []) s.houseIn k (old ++ [(h.srcSite.toNat, fs)]) }

/-- The burst on its way to a port. -/
def takeSlot (q : Nat) : List Output → List Output
  | [] => []
  | .slot p r b :: t => if r = q then t else .slot p r b :: takeSlot q t
  | o :: t => o :: takeSlot q t

end Sys2Proof.Machine
end

