-- ==== Sys2Proof/Machine/Tables.lean ====
section
/-! DEFINITION. Slot tables at the base tiles (R122 to R129, R471), the reception of a burst, and what a base tile does
when a port goes wrong (R130 to R134). -/
namespace Sys2Proof.Machine

/-! Verdicts and the shadow. -/

/-- The host die engine a site names. -/
def hostOf (site : BitVec 7) : Option Nat := if site = 72 then some 0 else if site = 73 then some 1 else none

/-- TABLE_VERDICT from a base tile to a host die (R126 Table 11b); REJECT_CAUSE keeps the last cause word sent with RESULT 1 (R471). -/
def sendVerdict (s : State) (bt : Nat) (site gen : Nat) (result cause : Nat) : State :=
  ctrlSendFrom (if result = 1 then dset s Obj.rejectCause cause else s) bt site 0x30 (gen + result * 256) [BitVec.ofNat 64 cause]

/-- A cause word (R126 Table 11b). -/
def causeWord (cause port slot : Nat) : Nat := cause + port * 256 + slot * 131072

def shadowOf (s : State) (bt : Nat) : Shadow := (btAt s bt).shadow
def setShadow (s : State) (bt : Nat) (h : Shadow) : State := updBt s bt (fun b => { b with shadow := h })

/-- CHECK of a TABLE slot over flits 1 to FLITS - 1 (R125 Table 11a). -/
def slotCheckOk (fs : List Flit) : Bool :=
  decide (leAt ((fs.getD 0 { data := [], poison := false }).data) 8 4 = crc32c ((fs.drop 1).flatMap (·.data)))

/-- Is the shadow claimed by another sender (R125)? -/
def claimedByOther (h : Shadow) (src : BitVec 7) : Bool := h.owner != 0x7F && h.owner != src

/-- A base tile takes a PART 0 TABLE slot (R125). -/
def takeHeader (s : State) (bt : Nat) (src : BitVec 7) (fs : List Flit) : State :=
  let f0 := (fs.getD 0 { data := [], poison := false }).data
  let gen := leAt f0 0 1
  let h := shadowOf s bt
  if claimedByOther h src then sendVerdict (bump s Obj.slotsMisdelivered) bt src.toNat gen 3 0
  else if h.state = .armed then sendVerdict s bt src.toNat gen 3 0
  else setShadow s bt { state := .loading, gen := BitVec.ofNat 8 gen, owner := src,
                        header := slice ((fs.drop 1).flatMap (·.data)) 0 128, entries := [], rows := [],
                        badCheck := !slotCheckOk fs, swapAt := 0 }

/-- Entries of a row from its 256 bytes. -/
def storeRow (es : Tbl (BitVec 32)) (row : Nat) (bs : List Byte) : Tbl (BitVec 32) :=
  (List.range 64).foldl (fun es i => tset (fun _ => 0) es (64 * row + i) (BitVec.ofNat 32 (leAt bs (4 * i) 4))) es

/-- A base tile takes a PART 1 TABLE slot (R125). -/
def takeRows (s : State) (bt : Nat) (src : BitVec 7) (fs : List Flit) : State :=
  let f0 := (fs.getD 0 { data := [], poison := false }).data
  let h := shadowOf s bt
  if claimedByOther h src then bump s Obj.slotsMisdelivered
  else if h.owner = src ∧ h.state = .loading ∧ h.gen.toNat = leAt f0 0 1 then
    let first := leAt f0 2 2
    let n := leAt f0 4 1
    let body := (fs.drop 1).flatMap (·.data)
    let rows := (List.range n).filter (fun i => decide (first + i < 350))
    setShadow s bt { h with
      entries := rows.foldl (fun es i => storeRow es (first + i) (slice body (256 * i) 256)) h.entries,
      rows := rows.foldl (fun rs i => addPos rs (first + i)) h.rows,
      badCheck := h.badCheck || !slotCheckOk fs }
  else s

def execTableHeaderSlot (bt : Fin 8) (src : BitVec 7) (fs : List Flit) (s : State) : Host.Outcome State Fault Refusal :=
  .next (takeHeader s bt.val src fs)

def execTableRowsSlot (bt : Fin 8) (src : BitVec 7) (fs : List Flit) (s : State) : Host.Outcome State Fault Refusal :=
  .next (takeRows s bt.val src fs)

/-! The rejection checks (R124 Table 10, R471). -/

def coverCount (header : List Byte) : Nat := leAt header 2 2
def coversOf (header : List Byte) : List Nat := (List.range (min (coverCount header) 32)).map (fun i => leAt header (64 + 2 * i) 2)

/-- The first entry of a set that lights one of some ports: the port and the slot (R133). -/
def failedEntry (entries : Tbl (BitVec 32)) (ps : List Nat) : Option (Nat × Nat) :=
  (litEntries entries).findSome? (fun e =>
    if ps.contains e.1 then some (e.1, e.2.1) else if ps.contains (entryDst e.2.2) then some (entryDst e.2.2, e.2.1) else none)

/-- Bytes of the rows of a set. -/
def rowsBytes (entries : Tbl (BitVec 32)) : List Byte :=
  (List.range 350).flatMap (fun p => (List.range 64).flatMap (fun sl => toLe 4 (setEntry entries p sl).toNat))

/-- Header cause (0x07). -/
def headerBad (s : State) (bt : Nat) (h : Shadow) : Bool :=
  leAt h.header 0 1 ≠ 1 || decide (leAt h.header 1 1 > 1) || (leAt h.header 1 1 == 1 && s.blend == 0) ||
  decide (coverCount h.header > 32) || h.gen == 0 || (btAt s bt).active.map (·.gen) == some h.gen

/-- Does an entry meet a cause, and for which port? -/
def entryCause (s : State) (bt : Nat) (h : Shadow) (cause p sl : Nat) (e : BitVec 32) : Option Nat :=
  let d := entryDst e
  let lit := entryLit e
  match cause with
  | 1 => if lit && portTile d == bt && (litEntries h.entries).any (fun x => x.1 != p && x.2.1 == sl && entryDst x.2.2 == d)
      then some d else none
  | 2 => if lit && decide (sl < houseSlots s.blend) then some p else none
  | 3 => if lit && (decide (312 ≤ p) || decide (312 ≤ d) || d == p) then some p else none
  | 4 => if lit then (if !portUp s p then some p else if !portUp s d then some d else none) else none
  | 5 => if lit && pairShort s p d then some p else none
  | 6 => if (lit && (e.getLsbD 9 || e.extractLsb' 11 5 != 0)) || (!lit && e != 0) then some p else none
  | 9 => if lit then (if (coversOf h.header).contains p then some p else if (coversOf h.header).contains d then some d else none)
      else none
  | _ => none

/-- The first entry, in row and slot order, that meets a cause. -/
def firstCause (s : State) (bt : Nat) (h : Shadow) (cause : Nat) : Option Nat :=
  h.entries.findSome? (fun e => (entryCause s bt h cause (e.1 / 64) (e.1 % 64) e.2).map (fun port => causeWord cause port (e.1 % 64)))

/-- The cause word a base tile reports, in the order of R471; zero when the set is accepted. A reserved byte of the
header that is not zero is cause 0x06 at port and slot 0. -/
def rejectCause (s : State) (bt : Nat) (h : Shadow) : Nat :=
  if h.badCheck || decide (leAt h.header 4 4 ≠ crc32c (rowsBytes h.entries)) then causeWord 8 0 0
  else if headerBad s bt h then causeWord 7 0 0
  else match ([1, 2, 3, 4, 5] : List Nat).findSome? (firstCause s bt h) with
    | some w => w
    | none =>
      if decide (leNat (slice h.header 8 56) ≠ 0) then causeWord 6 0 0
      else (([6, 9] : List Nat).findSome? (firstCause s bt h)).getD 0

/-- Does a shadow hold the set that another holds: one engine's, of one generation? -/
def sameLoad (h x : Shadow) : Bool := x.owner == h.owner && x.gen == h.gen

/-- The set has been rejected by some base tile (R124). -/
def setRejected (s : State) (h : Shadow) : Bool :=
  (List.range 8).any (fun b => (shadowOf s b).state == .rejected && sameLoad h (shadowOf s b))

/-- A set that one base tile rejects is rejected as a whole: every base tile that accepted it rejects it (R124). -/
def rejectWhole (s : State) (h : Shadow) : State :=
  overNats (List.range 8) (fun b s =>
    let x := shadowOf s b
    if x.state = .accepted ∧ sameLoad h x then setShadow s b { x with state := .rejected } else s) s

/-- The checks of a whole set are done (R124, Table 12 step 3): each base tile reports its own finding, and a set that any of them rejects
is rejected whole. -/
def doTableChecked (s : State) (bt : Nat) : State :=
  let h := shadowOf s bt
  if h.state ≠ .loading ∨ h.rows.length < 350 then s
  else
    let w := rejectCause s bt h
    if w = 0 then
      sendVerdict (setShadow s bt { h with state := if setRejected s h then .rejected else .accepted }) bt h.owner.toNat h.gen.toNat 0 0
    else
      let s := if setRejected s h then s else bump s Obj.tableRejects
      sendVerdict (rejectWhole (setShadow s bt { h with state := .rejected }) h) bt h.owner.toNat h.gen.toNat 1 w

def execTableChecked (bt : Fin 8) (s : State) : Host.Outcome State Fault Refusal := .next (doTableChecked s bt.val)

/-- TABLE_SWAP at one base tile (R127, R128); one that names the swap already armed changes nothing. -/
def doTableSwap (s : State) (bt : Nat) (src : BitVec 7) (gen : BitVec 8) (t : Word) : State :=
  let h := shadowOf s bt
  let fail := fun result cause =>
    let s := sendVerdict s bt src.toNat gen.toNat result cause
    let s := updBt s bt (fun b => { b with unswapped := some t })
    raise s bt 0x03 0x1D 5 false (bt + gen.toNat * 8)
  if h.state = .armed ∧ h.gen = gen ∧ h.owner = src ∧ h.swapAt = t then s
  else if s.now.toNat + 512 > t.toNat then fail 2 0
  else if h.state = .accepted ∧ h.gen = gen ∧ h.owner = src then setShadow s bt { h with state := .armed, swapAt := t }
  else fail 1 (causeWord 8 0 0)

def execTableSwap (bt : Fin 8) (src : BitVec 7) (gen : BitVec 8) (t : Word) (s : State) : Host.Outcome State Fault Refusal :=
  .next (doTableSwap s bt.val src gen t)

/-- Empty a shadow and release its claim. -/
def clearShadow (s : State) (bt : Nat) : State := setShadow s bt {}

/-- TABLE_CLEAR at every base tile (R128): from an owner, its unarmed shadow of that generation; from the active barista, the
named owner's shadow, armed or not. -/
def doTableClear (s : State) (src : BitVec 7) (gen : BitVec 8) (owner : BitVec 7) : State :=
  overNats (List.range 8) (fun bt s =>
    let h := shadowOf s bt
    if (hostOf src).isSome then
      if h.owner = src ∧ h.gen = gen ∧ h.state ≠ .armed then clearShadow s bt else s
    else if src.toNat = activeSite s ∧ h.owner = owner ∧ owner ≠ 0x7F then clearShadow s bt else s) s

def execTableClear (src : BitVec 7) (seq : BitVec 32) (gen : BitVec 8) (owner : BitVec 7) (s : State) : Host.Outcome State Fault Refusal :=
  .next (
    let s := sigArrive s (ctrlPacket src.toNat 0x7F 0x32 seq (gen.toNat + owner.toNat * 256) [])
    let r := ctrlTakeAll s src seq
    if r.1 then doTableClear r.2 src gen owner else r.2)

/-! A burst at a receiver. -/

/-- An accepted HOUSE slot: TABLE slots are taken by the base tile under the port (R114, R125). -/
def deliverHouseSlot (s : State) (q : Nat) (h : SlotHeader) (fs : List Flit) : State :=
  if h.service = 5 then
    if leAt ((fs.getD 0 { data := [], poison := false }).data) 1 1 = 0 then takeHeader s (portTile q) h.srcSite fs
    else takeRows s (portTile q) h.srcSite fs
  else deliverHouse s q h fs

/-- A discarded slot breaks the FABRIC stream of the house pair it belongs to (R238). -/
def breakPath (s : State) (sl q : Nat) (sender : Option Nat) (read : Option (SlotHeader × List Flit)) : State :=
  match sender with
  | some p => if sl < houseSlots s.blend then breakStream s (pathKey (portSite q).1 (portSite p).1) read else s
  | none => s

/-- A port has no light: its base tile's comb is lost (R158). -/
def darkPort (s : State) (p : Nat) : Bool := (tfind s.light.lossAt (portTile p)).isSome

/-- A burst is received (R113, R114). -/
def doSlotBurst (s : State) (q : Nat) (bits : BitVec 14336) : State :=
  let s := { s with sent := takeSlot q s.sent }
  let sl := s.slotNow.val
  if !portRuns s q ∨ !s.light.cal.blendRuns then s
  else
    let sender := expectedSender s sl q
    match (if (q :: sender.toList).any (darkPort s) || sender.any (portLatched s) then none else receive bits) with
    | none => breakPath (discardSlot s sl q 1 sender) sl q sender none
    | some r =>
      if !r.checkOk then breakPath (discardSlot s sl q 1 sender) sl q sender none
      else
        let h := natHead r.head
        let s := match sender with | some p => countCorrected s p q r.wrong | none => s
        match badCondition s sl q r.mark h with
        | some c => breakPath (discardSlot s sl q c sender) sl q sender (some (h, receivedFlits r))
        | none =>
          let fs := receivedFlits r
          if h.kind = 1 then deliverFlow s q h fs
          else if h.kind = 2 then deliverHouseSlot s q h fs
          else s

/-! Exclusion sets (R105 to R107). -/

/-- A change named for a boundary T: at once when T has passed (R107, R115). -/
def nameChange (s : State) (t : Word) (c : Change) (now : State → State) : State :=
  if t ≤ s.now then now s else schedule s t c

/-- PORT_FAIL of a level 5 condition (R130, R349). -/
def raisePortFail (s : State) (p cond : Nat) : State := raise s (portTile p) 0x03 0x1B 5 false (portForm p 0 0 + cond * 2 ^ 22)

/-- A pair counts for level 5: the house blend forms it, or the active set lights it (R130). -/
def pairCounts (s : State) (p q : Nat) : Bool :=
  houseForms s.blend p q || (match (btAt s (portTile p)).active with | some t => setLightsPair t.entries p q | none => false)

/-- The record of an exclusion set (R398 type 0x0040), without the lines that joint groups hold until the next start-up (R445); byte 8 keeps
LANE_EXCLUDE_CLEAR over a power cycle. -/
def excludeRecord (s : State) (p : Nat) (rx : Bool) : State :=
  let v := portAt s p
  queueRecord s 0x0040 (p + 512 * b2n rx) (toLe 8 (if rx then v.rxSet &&& ~~~v.jointRx else v.txSet &&& ~~~v.jointTx).toNat ++ toLe 1 (b2n v.clearAtStart))

/-- A line joins an exclusion set at its boundary; a pair of the port that is then short of lines fails it (R105,
R107, R130). -/
def excludeLine (s : State) (p : Nat) (rx : Bool) (line : Nat) : State :=
  let bit : BitVec 36 := BitVec.ofNat 36 (2 ^ line)
  let v := portAt s p
  if (if rx then v.rxSet else v.txSet) &&& bit ≠ 0 then s
  else
    let s := setPort s p (if rx then { v with rxSet := v.rxSet ||| bit } else { v with txSet := v.txSet ||| bit })
    let s := excludeRecord (bump s Obj.linesExcluded) p rx
    let short := (List.range 350).any (fun q => if rx then pairShort s q p && pairCounts s q p else pairShort s p q && pairCounts s p q)
    let far := tget (fun _ => {}) s.fab.links (p - 350)
    let ext := (laneMap (if rx then far.farTx ||| (portAt s p).rxSet else (portAt s p).txSet ||| far.farRx)).any (·.isNone)
    if if p < 350 then short else ext then raisePortFail s p 1 else s

/-- A step of calibration ends without result at one side of a port, and a hold of its swing with it (R152). -/
def endStepAt (s : State) (p : Nat) (rx : Bool) : State :=
  let s := updPort s p (fun v => if rx then { v with calRx := none } else { v with calTx := none })
  { s with light := { s.light with cal := { s.light.cal with holds := s.light.cal.holds.filter (fun h => !(h.1 == p && h.2.1 == rx)) } } }

/-- LANE_EXCLUDE takes effect (R107): a step that has the line, or the swing, under calibration ends, and a lane held on an excluded swing
is excluded with it (R152). -/
def applyExclude (s : State) (p : Nat) (rx : Bool) (line : Nat) : State :=
  let held := s.light.cal.holds.find? (fun h => h.1 == p && h.2.1 == rx)
  let cal := (if rx then (portAt s p).calRx else (portAt s p).calTx).map (·.val)
  let s := excludeLine s p rx line
  let s := match held with
    | some h => if line = 33 then excludeLine s p rx h.2.2 else s
    | none => s
  if line = 33 ∨ cal = some line then endStepAt s p rx else s

/-- LANE_EXCLUDE_CLEAR is written: at the next start-up the port's lines leave its sets if they pass its tests (R107, R443). -/
def execLaneExcludeClear (p : Fin 366) (s : State) : Host.Outcome State Fault Refusal :=
  .next (
    let s := updPort s p.val (fun v => { v with clearAtStart := true })
    excludeRecord (excludeRecord s p.val false) p.val true)

/-- Corrected symbols of a line at a receiving port within the last 1,024 frames (R131). -/
def errsAt (s : State) (q line : Nat) : List LineErrs :=
  (portAt s q).errLog.filter (fun e => e.line == line && decide (e.frame ≤ frameNo s ∧ frameNo s < e.frame + 1024))

/-- Those of one sender, over all receivers: the receiver, and the entry. -/
def errsFrom (s : State) (p line : Nat) : List (Nat × LineErrs) :=
  (List.range 350).flatMap (fun r => ((errsAt s r line).filter (fun e => e.sender == p)).map (fun e => (r, e)))

/-- A line at a port's receiving end passed the limit, and R131 attributes it there: the errors come from two senders, or from one that
sends to no other port. Errors of an external link go into the receiving end's set (R236). -/
def rxMarginal (s : State) (q line : Nat) : Bool :=
  let es := errsAt s q line
  let senders := (es.map (·.sender)).eraseDups
  decide ((es.map (·.count)).sum > dval s Obj.laneErrLimit) &&
    (decide (350 ≤ q) || decide (senders.length ≥ 2) || senders.any (fun p => sendsOnlyTo s p q))

/-- A line at a port's sending end passed the limit: two receivers or more report errors on it (R131). -/
def txMarginal (s : State) (p line : Nat) : Bool :=
  let es := errsFrom s p line
  decide ((es.map (·.2.count)).sum > dval s Obj.laneErrLimit) && decide ((es.map (·.1)).eraseDups.length ≥ 2)

/-- The corrected symbols on a line passed the limit within 1,024 frames: it is reported for the end of the path that
R131 names, for its exclusion: the port's receive set, its transmit set, or that of a sender it hears. -/
def doLineMarginal (s : State) (q line : Nat) : State :=
  let senders := ((errsAt s q line).map (·.sender)).eraseDups
  let s' := if rxMarginal s q line then raise s (portTile q) 0x03 0x19 4 false (portForm q line 0 + 2 ^ 21) else s
  (q :: senders.filter (· != q)).foldl (fun s' p =>
    if p < 350 ∧ txMarginal s p line then raise s' (portTile p) 0x03 0x19 4 false (portForm p line 0) else s') s'

def execLineMarginal (q : Fin 366) (line : Fin 36) (s : State) : Host.Outcome State Fault Refusal :=
  .next (doLineMarginal s q.val line.val)

/-- Frames with an uncorrectable slot make the limit: `UNCORR_FRAME_LIMIT` in a row, up to this frame or the one before (R130 level 5). -/
def badRun (s : State) (es : List (Nat × Nat × Option Nat)) : List (Nat × Nat × Option Nat) :=
  let n := dval s Obj.uncorrFrameLimit
  let f := frameNo s
  let run := fun e => (List.range n).all (fun i => decide (i ≤ e) && es.any (fun x => x.2.1 == e - i))
  let within := fun e => es.filter (fun x => decide (x.2.1 ≤ e ∧ e < x.2.1 + n))
  if run f then within f else if run (f - 1) then within (f - 1) else []

/-- Uncorrectable slots at a port, as receiver, frame, sender. -/
def badAt (s : State) (q : Nat) : List (Nat × Nat × Option Nat) := (portAt s q).badLog.map (fun e => (q, e.1, e.2))

/-- The limit is met at a port's receiving end: from two senders, or one that sends to no other port (R131). -/
def rxUncorr (s : State) (q : Nat) : Bool :=
  let es := badRun s (badAt s q)
  let senders := (es.filterMap (·.2.2)).eraseDups
  !es.isEmpty && (decide (350 ≤ q) || decide (senders.length ≥ 2) || senders.any (fun p => sendsOnlyTo s p q))

/-- The limit is met at a port's sending end: two receivers or more discard its slots (R131). -/
def txUncorr (s : State) (p : Nat) : Bool :=
  let es := badRun s ((List.range 350).flatMap (fun r => (badAt s r).filter (fun e => e.2.2 == some p)))
  decide ((es.map (·.1)).eraseDups.length ≥ 2)

/-- A port met the limit of frames in a row with an uncorrectable slot (R130 level 5): the end of the path that R131
names fails: the port as receiver, as sender, or a sender it hears. -/
def doUncorrLimit (s : State) (q : Nat) : State :=
  let senders := ((badAt s q).filterMap (·.2.2)).eraseDups
  let s' := if rxUncorr s q then raisePortFail s q 3 else s
  (q :: senders.filter (· != q)).foldl (fun s' p => if p < 350 ∧ txUncorr s p then raisePortFail s' p 3 else s') s'

def execUncorrFrameLimit (q : Fin 366) (s : State) : Host.Outcome State Fault Refusal := .next (doUncorrLimit s q.val)

/-- The ports attached to a switch-cell group: one to eight of its base tile (R134). Which they are is the factory's. -/
def attachedPorts (bt i : Nat) : List Nat :=
  let ps := ((List.range 350).filter (fun p => portTile p == bt && Config.attached bt i p)).take 8
  if ps.isEmpty then [24 * bt] else ps

/-- A bypass of a group is named for a boundary to come. -/
def bypassNamed (s : State) (bt i : Nat) : Bool :=
  s.changes.any (fun c => match c.2 with | .cellBypass b g => b == bt && g == i | _ => false)

/-- A switch cell of group `i` of a base tile fails (R134): bypassed over the spare route at a boundary, or with the spare in use, or named
for one, every port attached to the group fails. -/
def doCellFailure (s : State) (bt i : Nat) : State :=
  if (btAt s bt).spareUsed.contains i || bypassNamed s bt i then
    let s := raise (updBt s bt (fun b => { b with cellDown := addPos b.cellDown i })) bt 0x0B 0x1C 5 false (512 * bt + i + 4096)
    (attachedPorts bt i).foldl (fun s p => raisePortFail s p 5) s
  else
    schedule (raise s bt 0x0B 0x1C 4 false (512 * bt + i)) (boundaryAfter s 700) (.cellBypass bt i)

def execCellFailure (bt : Fin 8) (i : Fin 512) (s : State) : Host.Outcome State Fault Refusal := .next (doCellFailure s bt.val i.val)

/-! Port failures (R133). -/

/-- Data that a die's flows still have to send, and data on its way to its adapters, for flows that a new set gives no slot: never sent
(R127). -/
def keepLit (lit : Nat → Bool) (q : Tbl (List TxFlit)) : Tbl (List TxFlit) := q.filter (fun e => lit e.1)

def unsendable (lit : Nat → Bool) (m : Tbl (List TxFlit)) : Tbl (List TxFlit) :=
  m.map (fun e => if lit e.1 then e else (e.1, e.2.map (fun x => { x with dstSite := noSite })))

def dropUnlit (s : State) (bt : Nat) (entries : Tbl (BitVec 32)) : State :=
  let ports := fun p flow => (litEntries entries).any (fun e => e.1 == p && entryFlow e.2.2 == flow)
  let lit := fun site flow => (litEntries entries).any (fun e => (portSite e.1).1 == site && entryFlow e.2.2 == flow)
  let s := overNats [2 * bt, 2 * bt + 1] (fun n s =>
    let d := dieAt s n
    setDie s n { d with
      txq := keepLit (fun k => ports (12 * n + k / 65536) (k % 65536)) d.txq,
      txMeta := unsendable (fun k => ports (12 * n + (k / 65536 / 128 - 64)) (k % 65536)) d.txMeta }) s
  overNats [3 * bt, 3 * bt + 1, 3 * bt + 2] (fun m s => updStack s m (fun st => { st with txq := keepLit (lit (siteMD m)) st.txq })) s

/-- A shadow as the set it becomes. -/
def shadowSet (h : Shadow) : TabSet :=
  { gen := h.gen, blend := leAt h.header 1 1, covers := coversOf h.header, entries := h.entries }

/-- Several ports fail on one boundary at one base tile (R128, R133). No verdict goes out for a shadow rejected here, so REJECT_CAUSE stays
(R471); the set counts once. -/
def tilePortsFail (s : State) (bt : Nat) (ps : List Nat) : State :=
  let b := btAt s bt
  -- the failure of the tile that could not swap
  let b := if b.unswapped.isSome && ps.any (fun p => portTile p == bt)
    then { b with active := none, unswapped := none, failedByRule := true } else b
  match b.active with
  | none => setBt s bt b
  | some a =>
    let hit := ps.filter (setLights a.entries)
    if hit.isEmpty then setBt s bt b
    else
      let h := b.shadow
      let ready := h.state == .accepted || h.state == .armed
      let s := dset s Obj.lastSwap s.now.toNat
      match (if ready || h.state == .loading then failedEntry h.entries ps else none) with
      | some (port, sl) =>
        let s := setBt (if setRejected s h then s else bump s Obj.tableRejects) bt
          { b with active := none, shadow := { h with state := .rejected, swapAt := 0 } }
        sendVerdict s bt h.owner.toNat h.gen.toNat 1 (causeWord 4 port sl)
      | none => if ready && hit.all (fun p => (coversOf h.header).contains p) then
          dropUnlit (setBt s bt { b with active := some (shadowSet h), shadow := {} }) bt h.entries
        else setBt s bt { b with active := none }

/-- The light side of port failures at their boundary: the ports, the tables of every base tile, and a stack whose
ports have all failed (R133, R195). -/
def lightPortsFail (s : State) (ps : List Nat) : State :=
  let s := ps.foldl (fun s p => updPort s p (fun v => { v with failed := true })) s
  let s := overNats (List.range 8) (fun bt s => tilePortsFail s bt ps) s
  overNats (List.range 24) (fun m s =>
    if (ps.any (fun p => (portSite p).1 == siteMD m)) && (sitePorts (siteMD m)).all (fun p => (portAt s p).failed)
    then stackFail s m 5 else s) s

/-- An armed swap at its T (R127). -/
def applySwap (s : State) (bt : Nat) : State :=
  let b := btAt s bt
  if b.shadow.state = .armed ∧ b.shadow.swapAt ≤ s.now then
    dropUnlit (setBt (dset s Obj.lastSwap b.shadow.swapAt.toNat) bt { b with active := some (shadowSet b.shadow), shadow := {} }) bt b.shadow.entries
  else s

/-! The house blend (R118). -/

/-- A job is beyond QUEUED and has not ended. -/
def jobRuns (s : State) : Bool := s.job.isSome

/-- A written mode takes effect at a boundary with no job; on the change to the default blend sets compiled for the
reduced blend are discarded. -/
def applyBlend (s : State) : State :=
  let m := dval s Obj.houseBlendMode
  if jobRuns s || m == s.blend then s
  else
    let s := { s with blend := m }
    if m = 0 then
      overNats (List.range 8) (fun bt s =>
        updBt s bt (fun b =>
          let b := match b.active with | some a => if a.blend = 1 then { b with active := none } else b | none => b
          if (b.shadow.state = .accepted ∨ b.shadow.state = .armed) ∧ leAt b.shadow.header 1 1 = 1 then { b with shadow := {} } else b)) s
    else s

/-- HOUSE_BLEND_CHANGE: at a frame boundary the written mode takes effect. -/
def execHouseBlendChange (s : State) : Host.Outcome State Fault Refusal :=
  .next (if s.now.toNat % 1024 = 0 then applyBlend s else s)

/-! Lost data (R132). -/

/-- A LOAD_REQ whose data has not all arrived 20 microseconds after it was sent: its missing lines are written
poison-marked and it completes with STATUS 01. -/
def doLoadTimeout (s : State) (cd : Nat) (tag : BitVec 10) : State :=
  let d := dieAt s cd
  match d.reqs.find? (fun r => r.tag == tag && r.load) with
  | none => s
  | some r =>
    if s.ticks < r.sentAt + 20000 ∨ r.waiting.isEmpty ∧ r.unsent.isEmpty ∧ r.got.length ≥ r.lines then s
    else
      let s1 := ((List.range r.lines).filter (fun i => !r.got.contains i)).foldl (fun s' i =>
        landLines s' (12 * cd) cd r i [freePoison s.freeCtr i]) s
      bumpFree (finishReq s1 cd { r with worst := worseStatus r.worst 1 })

def execLoadReqTimeout (cd : Fin 16) (tag : BitVec 10) (s : State) : Host.Outcome State Fault Refusal :=
  .next (if meshOn s cd.val then doLoadTimeout s cd.val tag else s)

/-- A flow transfer not complete 20 microseconds after its last scheduled slot: the receiving die writes its missing lines
poison-marked and the transfer ends (R132, R204). DESIGN CHOICE (log 110): one no slot of which has come, and a mesh reduction, which
has none, counts from its start; an answer that a stack still owes is no longer awaited. -/
def doFlowTimeout (s : State) (cd t flow : Nat) : State :=
  let k := 64 * cd + t
  match (flowSt (tileAt s k) flow).open_.head?, partOf s k flow with
  | some x, some (d, pt) =>
    match x.lastSlot with
    | none => s
    | some t0 =>
      if s.ticks < t0 + 20000 then s
      else
        -- the result lines of an ATOMIC transfer lie in its return flow's buffer; a sender has no lines to write
        let buf := if d.kind = 7 then (partOf s k d.returnFlow).map (·.2) else some pt
        let lines := if d.kind = 7 then cdiv x.expect 4
          else if d.kind = 4 ∧ !x.left ∨ d.kind = 2 ∨ d.kind = 6 ∨ d.kind = 5 ∧ x.reduced then 0 else pt.outLines
        let missing := (List.range lines).filter (fun i => !x.got.contains i)
        let s1 := match buf with
          | some b => missing.foldl (fun s' i =>
              adapterWrite s' (12 * cd) t (if d.kind = 7 then d.returnFlow else flow) (bufLine b x.n + i) (poisonLines s.freeCtr i 1)) s
          | none => s
        let c := dieAt s1 cd
        let s2 := setDie s1 cd { c with reqs := c.reqs.filter (fun r =>
          !(r.for_ == .transfer && r.tile.toNat == t && r.flow.toNat == flow && r.transfer == x.n)) }
        bumpFree (updTile s2 k (fun tl => updXfer tl flow x.n (fun y =>
          { y with checked := max y.checked (max pt.outLines y.expect), status := y.status ||| 1, lastSlot := none
                   expect := if d.kind = 4 ∧ !y.left then 0 else y.expect
                   reqDone := true, left := true, reduced := true })))
  | _, _ => s

def execFlowTransferTimeout (cd : Fin 16) (t : Fin 64) (flow : BitVec 16) (s : State) : Host.Outcome State Fault Refusal :=
  .next (if meshOn s cd.val then doFlowTimeout s cd.val t.val flow.toNat else s)

end Sys2Proof.Machine
end

