-- ==== Sys2Proof/Machine/Dma.lean ====
section
/-! DEFINITION. Copies of the DMA unit between a tile's own stores (R29) and waking a deep store (R74 to R76). -/
namespace Sys2Proof.Machine

/-- May a copy start (R29)? -/
def copyLegal (src dst len : Nat) : Bool :=
  src % 64 == 0 && dst % 64 == 0 && len % 64 == 0 && decide (64 ≤ len ∧ len ≤ 0x2000000) &&
  (coreRange src len).isSome && (coreRange dst len).isSome

/-- Does a range of core addresses touch a bank of the deep store that is mapped out (R445)? -/
def touchesOut (t : Tile) (a len : Nat) : Bool :=
  (List.range 16).any (fun b => t.banksOut.getLsbD b && decide (0x10000000 + 0x200000 * b < a + len ∧ a < 0x10200000 + 0x200000 * b))

/-- A write to DMA_LEN: a copy takes a place among the eight outstanding; the core stalls while they are taken. -/
def writeDmaLen (t : Tile) (v : Word) : Tile :=
  if t.dma.queue.length ≥ 8 then t
  else
    let len := (v.extractLsb' 0 26).toNat
    let ok := copyLegal t.dma.src.toNat t.dma.dst.toNat len && !touchesOut t t.dma.src.toNat len && !touchesOut t t.dma.dst.toNat len
    { t with dma := { t.dma with bad := t.dma.bad || !ok,
                                 queue := t.dma.queue ++ [if ok then some (t.dma.src.toNat, t.dma.dst.toNat, len) else none] } }

def execDmaLen (cd : Fin 16) (t : Fin 64) (v : Word) (s : State) : Host.Outcome State Fault Refusal :=
  .next (if tileLive s (tkey cd t) then updTile s (tkey cd t) (fun x => writeDmaLen x v) else s)

/-- Do two ranges share a byte? -/
def overlap (a b len : Nat) : Bool := decide (a < b + len ∧ b < a + len)

/-- One line of a copy: its bytes and its mark; where the ranges overlap the destination's content is undefined. -/
def copyLine (ctr now : Nat) (t0 : Tile) (src dst : Bool × Nat) (free : Bool) (t : Tile) (i : Nat) : Tile :=
  let a := src.2 + 64 * i
  let bs := if free then (List.range 64).map (fun j => Config.freeByte ctr (dst.2 + 64 * i + j))
    else tileRead now t0 src.1 a 64
  tileWrite t dst.1 (dst.2 + 64 * i) bs (if free then Config.freeBool ctr (dst.2 + 64 * i) else storePoison (storeOf t0 src.1) a 64)

/-- The oldest copy completes (R29). DESIGN CHOICE (log 104): its source is read and its destination written then, not before. -/
def doCopyDone (s : State) (k : Nat) : State :=
  let t := tileAt s k
  match t.dma.queue with
  | [] => s
  | c :: rest =>
    let t := { t with dma := { t.dma with queue := rest, done := t.dma.done + 1 } }
    match c with
    | none => setTile s k t
    | some (src, dst, len) =>
      match coreRange src len, coreRange dst len with
      | some a, some b =>
        let s' := readEffects (setTile s k t) k a.1 a.2 len
        let t := tileAt s' k
        bumpFree (setTile s' k ((List.range (len / 64)).foldl (copyLine s.freeCtr s.ticks t a b (overlap src dst len)) t))
      | _, _ => setTile s k t

def execDmaCopyDone (cd : Fin 16) (t : Fin 64) (s : State) : Host.Outcome State Fault Refusal :=
  .next (if tileLive s (tkey cd t) then doCopyDone s (tkey cd t) else s)

/-- The deep stores of a cache die after a wake from Off: cleared, or undefined with every mark clear, as DEEP_STORE_MODE stood when the
wake began (R76). -/
def wakeDeep (s : State) (n : Nat) : State :=
  let st : Store := { cleared := s.wakeClears.contains n }
  overNats (List.range 64) (fun t s => updTile s (64 * n + t) (fun x => { x with deep := st })) s

/-- A cache die finishes waking from Off and reports On (R76). -/
def execDeepStoreWake (n : Fin 16) (s : State) : Host.Outcome State Fault Refusal :=
  .next (if domAt s (domKD n.val) = .turningOn .off then setDom (wakeDeep s n.val) (domKD n.val) .on else s)

end Sys2Proof.Machine
end

