-- ==== Sys2Proof/Machine/Xfer.lean ====
section
/-! DEFINITION. Flow transfers at a tile: starting one (R203), its packets and requests (R201), and completing (R204). -/
namespace Sys2Proof.Machine

/-- A resolved region of the job (R207). -/
def regionOf (s : State) (r : Nat) : Option Resolved := s.job.bind (fun j => j.resolved.find? (fun x => x.region == r))

/-- The fabric die that carries a compute die's remote requests, when its house pairs reach it (R211, R246). -/
def fabricDieOf (s : State) (cd : Nat) : Option Nat :=
  match runVariant s with
  | none => none
  | some v =>
    let n := v.fabric.getD cd 15
    if n < 8 ∧ (List.range 12).any (fun k => (12 * cd + k) % 32 / 4 == n) then some n else none

/-- A fresh transfer. -/
def newXfer (n : Nat) : Transfer :=
  { n := n, got := [], checked := 0, reqDone := false, left := false, reduced := false, expect := 0, status := 0,
    lastSlot := none, units := [], remote := 0 }

/-- A tile starts its next transfer of a flow. -/
def beginXfer (s : State) (k flow : Nat) (x : Transfer) : State :=
  updTile s k (fun t => let f := flowSt t flow
                        setFlow t flow { f with begun := f.begun + 1, open_ := f.open_ ++ [x] })

/-- Tile-store lines as flits, a marked line's flit carrying POISON (R72, R84); what the reads do is `readEffects`. -/
def bufFlits (s : State) (k line n : Nat) : List Flit :=
  let t := tileAt s k
  (List.range n).map (fun i =>
    { data := tileRead s.ticks t false (64 * (line + i)) 64, poison := storePoison t.store (64 * (line + i)) 64 })

/-- What reading a buffer through the network port does (R72). -/
def bufEffects (s : State) (k line n : Nat) : State := readEffects s k false (64 * line) (64 * n)

/-- Entries of a compute die's ports that the active table lights for a flow: port of the die and receiving site. -/
def flowLit (s : State) (cd flow : Nat) : List (Nat × Nat) :=
  match (btAt s (cd / 2)).active with
  | none => []
  | some a => (litEntries a.entries).filterMap (fun e =>
      if 12 * cd ≤ e.1 ∧ e.1 < 12 * cd + 12 ∧ entryFlow e.2.2 = flow then some (e.1 - 12 * cd, (portSite (entryDst e.2.2)).1) else none)

/-- Ports of a compute die that the active table lights for a flow towards a site; where it lights none, those it lights for the flow, and
where it lights none of these, all. -/
def flowPorts (s : State) (cd flow site : Nat) : List Nat :=
  let lit := flowLit s cd flow
  let here := (lit.filter (fun e => e.2 == site)).map (·.1)
  if !here.isEmpty then here.eraseDups else if !lit.isEmpty then (lit.map (·.1)).eraseDups else List.range 12

/-- The part a tile has in a SEND is the receiver's (R201). DESIGN CHOICE (log 107): the image does not mark it; it is the receiver's where
the active table lights the flow from the peer's die to the tile's and not the other way, and where that decides nothing, the later entry
of the pair is. -/
def sendReceives (s : State) (k : Nat) (d : FlowDesc) (p : Part) : Bool :=
  let peer := (physOf s p.peer).getD 0 / 64
  let out := (flowLit s (k / 64) d.flow).any (fun e => e.2 == siteCD peer)
  let back := (flowLit s peer d.flow).any (fun e => e.2 == siteCD (k / 64))
  if out != back then back
  else decide (d.parts.findIdx (fun q => q.vtile == p.peer) < d.parts.findIdx (fun q => q.vtile == p.vtile))

/-- WRITE packets of a transfer's data: up to sixteen lines for one site go to the adapter of one port that sends the flow there. -/
def txGo (k flow : Nat) : Nat → State → Nat → List TxFlit → State
  | 0, s, _, _ => s
  | fuel + 1, s, line, items =>
    match items with
    | [] => s
    | a :: _ =>
      let run := (items.takeWhile (fun x => x.dstSite == a.dstSite)).take 16
      let ports := flowPorts s (k / 64) flow a.dstSite
      let node := 64 + ports.getD ((Config.freeWord s.freeCtr (0x820000 + line)).toNat % ports.length) 0
      let d := dieAt s (k / 64)
      let key := txKey node (k % 64) flow
      let s := setDie s (k / 64) { d with txMeta := tput d.txMeta key ((tfind d.txMeta key).getD [] ++ run) }
      txGo k flow fuel (meshSend s (k / 64) (writePacket (k % 64) node line flow (run.map (·.flit)))) (line + run.length) (items.drop run.length)

/-- A transfer's data leaves its tile for the slots of a flow, in WRITE packets to port adapters (R82, R201). DESIGN CHOICE (log 106):
which of the ports that send the flow to a site is not stated and is free, and a packet's LINE is the tile-store line its data comes
from. -/
def txWrite (s : State) (k flow line : Nat) (items : List TxFlit) : State := txGo k flow items.length s line items

/-- Remote requests of a transfer: pieces of at most 1,024 B that cross no 4 KiB boundary (R241): address, bytes and
the first line's position. -/
def pieces : Nat → Nat → Nat → Nat → List (Nat × Nat × Nat)
  | 0, _, _, _ => []
  | fuel + 1, a, len, pos =>
    if len = 0 then []
    else
      let n := min (min 1024 (4096 - a % 4096)) len
      (a, n, pos) :: pieces fuel (a + n) (len - n) (pos + n / 64)

/-- Operation records of a line buffer that are not empty, with their places (R183). -/
def recordsIn (fs : List Flit) : List (List Word × Bool) :=
  (fs.flatMap (fun f => [(wordsOf 4 (f.data.take 32), f.poison), (wordsOf 4 (f.data.drop 32), f.poison)])).filter
    (fun r => (r.1.headD 0).toNat % 256 ≠ 0)

/-- A reduce record's words for a piece (R183, R239). -/
def reduceWords (op fmt lines addr : Nat) : List Word :=
  [BitVec.ofNat 64 (op + fmt * 256 + lines * 65536), BitVec.ofNat 64 (addr % 2 ^ 44), 0, 0]

/-- A remote unit as a packet to its fabric die (R239, R246). -/
def remoteHead (u : RemoteUnit) : FabPacket :=
  let rec_ := u.opc == 3 || u.opc == 4
  { blankPacket with
    opc := BitVec.ofNat 8 u.opc, vc := 1, len := BitVec.ofNat 5 u.data.length, addr := BitVec.ofNat 56 u.addr, key := BitVec.ofNat 32 u.key,
    handle := BitVec.ofNat 16 u.handle, w4 := BitVec.ofNat 64 (if rec_ then (u.record.getD 0 0).toNat % 2 ^ 32 else u.size),
    w5 := if rec_ then BitVec.ofNat 64 (u.addr % 2 ^ 44) else 0,
    w6 := if rec_ then u.record.getD 2 0 else 0, w7 := if rec_ then u.record.getD 3 0 else 0,
    headPoison := u.recPoison, data := u.data }

/-- A compute die sends a remote unit, with its next handle, in its FABRIC slots (R246). -/
def addUnit (s : State) (u : RemoteUnit) : State :=
  let h := tget (fun _ => 0) s.fab.nextHandle u.cd
  let u := { u with handle := h }
  pathSend { s with fab := { s.fab with units := s.fab.units ++ [u], nextHandle := tset (fun _ => 0) s.fab.nextHandle u.cd ((h + 1) % 65536) } }
    (siteCD u.cd) (siteFD u.fd) (remoteHead u)

/-- A remote unit has ended: its transfer waits for one fewer. Answers whether it was the last. -/
def unitEnded (s : State) (u : RemoteUnit) (bits : BitVec 4) : Bool × State :=
  let k := 64 * u.cd + u.tile
  let last := match (flowSt (tileAt s k) u.flow).open_.find? (fun x => x.n == u.transfer) with
    | some x => x.remote == 1
    | none => false
  (last, updTile s k (fun t => updXfer t u.flow u.transfer (fun x =>
    { x with remote := x.remote - 1, status := x.status ||| bits, reqDone := x.reqDone || decide (x.remote ≤ 1) })))

/-- Start a remote transfer (R203, R241, R246): the units it sends to the fabric die. -/
def startRemote (s : State) (k : Nat) (d : FlowDesc) (p : Part) (r : Resolved) (x : Transfer) : State :=
  let cd := k / 64
  let a := r.base + xferOffset p x.n
  match fabricDieOf s cd with
  | none => beginXfer s k d.flow { x with status := 2, reqDone := true }
  | some fd =>
    let fs := bufFlits s k (bufLine p x.n) p.lines
    let base : RemoteUnit := { cd := cd, handle := 0, fd := fd, tile := k % 64, flow := d.flow, transfer := x.n, pos := 0, opc := 0,
                               addr := 0, key := r.key, size := 0, record := [], recPoison := false, data := [] }
    let us : List RemoteUnit :=
      if d.kind = 7 then
        ((recordsIn fs).zipIdx).map (fun e => { base with
          pos := e.2, opc := 3, addr := r.base / 2 ^ 44 * 2 ^ 44 + (e.1.1.getD 1 0).toNat % 2 ^ 44, record := e.1.1, recPoison := e.1.2 })
      else
        (pieces (p.lines + 1) a (64 * p.lines) 0).map (fun e =>
          let body := (fs.drop e.2.2).take (e.2.1 / 64)
          { base with
            pos := e.2.2, addr := e.1, size := e.2.1,
            opc := if d.kind = 1 then 1 else if d.kind = 2 then 2 else 4,
            record := if d.kind = 6 then reduceWords d.op d.fmt (e.2.1 / 64) e.1 else [],
            data := if d.kind = 1 then [] else body })
    let s' := beginXfer (if d.kind = 1 then s else bufEffects s k (bufLine p x.n) p.lines) k d.flow { x with
      remote := us.length, reqDone := us.isEmpty,
      expect := if d.kind = 7 then us.length else 0 }
    bumpFree (us.foldl addUnit s')

/-- Data of a local store, reduce or atomic transfer, each line to the stack of its granule (R171, R174). -/
def storeItems (s : State) (t : Nat) (tag : BitVec 10) (a : Nat) (atomic : Bool) (fs : List Flit) : List TxFlit :=
  (fs.zipIdx).map (fun e =>
    { dstSite := siteMD (((mapAddr s (if atomic then a else a + 64 * e.2)).getD (0, 0)).1), req := true, tile := BitVec.ofNat 6 t,
      tag := tag, offset := e.2, flit := e.1, last := e.2 + 1 == fs.length })

/-- Result records of STATUS 3 in an ATOMIC transfer's return buffer (R183, R196). -/
def lostResults (s : State) (k ret n : Nat) (fs : List Flit) : State :=
  match partOf s k ret with
  | none => s
  | some (_, pt) =>
    let res := (fs.flatMap flitRecords).map (fun r => resultBytes 3 r 0)
    let flits := (List.range (cdiv res.length 4)).map (fun i => ({ data := slice ((res.drop (4 * i)).take 4).flatten 0 64, poison := false } : Flit))
    adapterWrite s (12 * (k / 64)) (k % 64) ret (bufLine pt n) flits

/-- A transfer whose range touches a lost set ends at its compute die and nothing is sent (R170, R196): a load's lines are delivered
poison-marked with STATUS 01, a store is refused, and records return STATUS 3. -/
def lostLocal (s : State) (k : Nat) (d : FlowDesc) (p : Part) (a : Nat) (x : Transfer) : State :=
  let load := d.kind == 1 || d.kind == 3
  let s := beginXfer s k d.flow { x with status := statusBits (if load then 1 else 2), reqDone := true }
  let s := if load then deliverLines s (12 * (k / 64)) (k % 64) d p x.n 0 (poisonLines s.freeCtr 0 p.lines)
    else if d.kind = 7 then lostResults (bufEffects s k (bufLine p x.n) p.lines) k d.returnFlow x.n (bufFlits s k (bufLine p x.n) p.lines)
    else s
  refuseAddr (bumpFree s) (k / 64) a

/-- A flit of a request for a stack of a set, not yet sent. -/
def lostFlit (n : Nat) (r : DieReq) (x : TxFlit) : Bool :=
  x.req && x.tag == r.tag && x.tile == r.tile && (setMembers n).any (fun m => siteMD m == x.dstSite)

/-- Result records of STATUS 3 for an ATOMIC request's records that were not sent (R183, R196): they follow those of the records that were, and
a line of the return buffer that both share is completed when the stack's part of it comes. -/
def lostRecords (s : State) (cd : Nat) (r : DieReq) (unsent : List TxFlit) : State :=
  let k := 64 * cd + r.tile.toNat
  let recs := (List.range r.lines).flatMap (fun i => match unsent.find? (fun x => x.offset == i) with | some x => flitRecords x.flit | none => [])
  match flowDesc s r.flow.toNat, (flowSt (tileAt s k) r.flow.toNat).open_.find? (fun x => x.n == r.transfer) with
  | some d, some x =>
    match (if d.kind = 7 ∧ r.for_ = .transfer ∧ !recs.isEmpty then partOf s k d.returnFlow else none) with
    | none => s
    | some (_, pt) =>
      let i0 := x.expect - recs.length
      let shared := if i0 % 4 = 0 then 0 else 4 - i0 % 4
      let res := recs.map (fun q => resultBytes 3 q 0)
      let rest := res.drop shared
      let flits := (List.range (cdiv rest.length 4)).map (fun i => ({ data := slice ((rest.drop (4 * i)).take 4).flatten 0 64, poison := false } : Flit))
      let s := if shared = 0 then s else setDie s cd { dieAt s cd with
        reqs := (dieAt s cd).reqs.map (fun y => if y.tag = r.tag then { y with late := some (16 * i0, (res.take shared).flatten) } else y) }
      if flits.isEmpty then s else adapterWrite s (12 * cd) r.tile.toNat d.returnFlow (bufLine pt r.transfer + cdiv i0 4) flits
  | _, _ => s

/-- What a compute die still had to send to stacks of a set given up, requests and data, ends at the die in the same way (R196). -/
def lostShare (n cd : Nat) (s : State) (r : DieReq) : State :=
  let mds := r.unsent.filter (fun m => setOf m == n)
  let pos := mds.flatMap (fun m => sharePositions s m r.addr r.lines)
  let d := dieAt s cd
  let unsent := ((d.txMeta ++ d.txq).flatMap (·.2)).filter (lostFlit n r)
  let r' := if mds.isEmpty then r else { r with
    unsent := r.unsent.filter (fun m => setOf m != n), worst := worseStatus r.worst (if r.load then 1 else 2)
    got := if r.load then pos.foldl addPos r.got else r.got }
  let s := setDie s cd { d with
    reqs := d.reqs.map (fun x => if x.tag = r.tag then r' else x)
    txq := d.txq.map (fun e => (e.1, e.2.filter (fun x => !lostFlit n r x)))
    txMeta := d.txMeta.map (fun e => (e.1, e.2.map (fun x => if lostFlit n r x then { x with dstSite := noSite } else x))) }
  let s := lostRecords s cd r unsent
  let s := if r.load then pos.foldl (fun s i => landLines s (12 * cd) cd r i [freePoison s.freeCtr i]) s else s
  bumpFree (if !mds.isEmpty && reqComplete r' then finishReq s cd { r' with late := ((dieAt s cd).reqs.find? (fun x => x.tag == r.tag)).bind (·.late) } else s)

/-- SET_LOST takes effect (R196). -/
def applySetLost (s : State) (n : Nat) : State :=
  if setLostNow s n then s
  else overNats (List.range 16) (fun cd s => (dieAt s cd).reqs.foldl (lostShare n cd) s) (giveUpSet s n)

/-- Start a local transfer (R171, R203). -/
def startLocal (s : State) (k : Nat) (d : FlowDesc) (p : Part) (r : Resolved) (x : Transfer) : State :=
  let cd := k / 64
  let a := r.base + xferOffset p x.n
  if rangeRefused s a (64 * p.lines) then refuseAddr (beginXfer s k d.flow { x with status := 2, reqDone := true }) cd a
  else if rangeLost s a (64 * p.lines) then lostLocal s k d p a x
  else
    let load := d.kind == 1 || d.kind == 3
    let mds := if d.kind = 7 then [((mapAddr s a).getD (0, 0)).1] else rangeStacks s a (64 * p.lines)
    let fs := if load then [] else bufFlits s k (bufLine p x.n) p.lines
    let tag := freeTag (dieAt s cd)
    let s1 := beginXfer (if load then s else bufEffects s k (bufLine p x.n) p.lines) k d.flow { x with expect := if d.kind = 7 then (recordsIn fs).length else 0, lastSlot := some s.ticks }
    let s2 := txWrite s1 k d.flow (bufLine p x.n) (storeItems s (k % 64) tag a (d.kind == 7) fs)
    bumpFree (issueReq s2 cd (k % 64) d.flow x.n load a p.lines mds)

/-- A sender's part in a SEND (R201). -/
def startSend (s : State) (k : Nat) (d : FlowDesc) (p : Part) (x : Transfer) : State :=
  let fs := bufFlits s k (bufLine p x.n) p.lines
  let dst := siteCD ((physOf s p.peer).getD 0 / 64)
  bumpFree (txWrite (beginXfer (bufEffects s k (bufLine p x.n) p.lines) k d.flow { x with reqDone := true, lastSlot := some s.ticks, expect := p.lines }) k d.flow (bufLine p x.n)
    ((fs.zipIdx).map (fun e => { dstSite := dst, req := false, tile := BitVec.ofNat 6 (k % 64), tag := 0, offset := e.2,
                                 flit := e.1, last := e.2 + 1 == fs.length, xfer := x.n })))

/-- A receiver's part in a SEND starts (R30, R201): at most four such transfers are outstanding. -/
def startRecv (s : State) (k : Nat) (d : FlowDesc) (p : Part) : State :=
  let f := flowSt (tileAt s k) d.flow
  if f.asked ≥ f.count.toNat + 4 then s
  else updTile s k (fun t =>
    let t := openRecv t d.flow p.outLines f.asked
    setFlow t d.flow { flowSt t d.flow with asked := f.asked + 1 })

/-- REDUCE packets of at most sixteen lines (R79, R85). -/
def reducePackets : Nat → Nat → Nat → Nat → Nat → Bool → List Flit → List MeshPacket
  | 0, _, _, _, _, _, _ => []
  | fuel + 1, src, dst, line, flow, bf, fs =>
    if fs.isEmpty then []
    else
      { dst := BitVec.ofNat 7 dst, src := BitVec.ofNat 7 src, vc := 3, kind := 4, len := BitVec.ofNat 5 (min 16 fs.length),
        fields := BitVec.ofNat 39 (line * 2 ^ 25 + b2n bf * 2 ^ 24 + flow), flits := fs.take 16 } ::
        reducePackets fuel src dst (line + 16) flow bf (fs.drop 16)

/-- A contributor's part in a MESH_REDUCE; the destination contributes its own lines too (R85, R88). -/
def startReduce (s : State) (k : Nat) (d : FlowDesc) (p : Part) (x : Transfer) : State :=
  let dv := d.destVtile
  let dk := (physOf s dv).getD 0
  match d.parts.find? (fun q => q.vtile == dv) with
  | none => beginXfer s k d.flow { x with reqDone := true, left := true, reduced := true }
  | some dp =>
    let fs := bufFlits s k (bufLine p x.n) p.lines
    let s := bumpFree (beginXfer (bufEffects s k (bufLine p x.n) p.lines) k d.flow { x with reqDone := true, left := true, reduced := p.vtile ≠ dv, lastSlot := some s.ticks })
    (reducePackets (fs.length / 16 + 1) (k % 64) (dk % 64) (bufLine dp x.n) d.flow (d.fmt == 1) fs).foldl
      (fun s pk => meshSend s (k / 64) pk) s

/-- A write to DMA_FLOW (R29, R30, R203): a fifth outstanding transfer stalls the core; a flow the tile has no part
in sets BAD. A return flow is part of its ATOMIC flow and starts nothing of its own. -/
def doDmaFlow (s : State) (k flow : Nat) : State :=
  match partOf s k flow with
  | none => updTile s k (fun t => { t with dma := { t.dma with bad := true } })
  | some (d, p) =>
    let f := flowSt (tileAt s k) flow
    if d.kind = 4 ∧ sendReceives s k d p then startRecv s k d p
    else if f.open_.length ≥ 4 then s
    else
      let x := newXfer f.begun
      match d.kind with
      | 4 => startSend s k d p x
      | 5 => startReduce s k d p x
      | 8 => updTile s k (fun t => { t with dma := { t.dma with bad := true } })
      | _ =>
        match regionOf s d.region with
        | none => beginXfer s k flow { x with status := 2, reqDone := true }
        | some r =>
          if xferOffset p x.n + 64 * p.lines > r.size then beginXfer s k flow { x with status := 2, reqDone := true }
          else if r.remote then startRemote s k d p r x
          else startLocal s k d p r x

def execDmaFlow (cd : Fin 16) (t : Fin 64) (v : Word) (s : State) : Host.Outcome State Fault Refusal :=
  .next (if tileLive s (tkey cd t) then doDmaFlow s (tkey cd t) (v.toNat % 65536) else s)

/-- Has a transfer reached its ending (R201 Table 2, R204)? -/
def xferDone (kind outLines : Nat) (x : Transfer) : Bool :=
  -- refused, outcome unknown or fenced
  (x.status.extractLsb' 1 3 != 0 && x.reqDone) ||
  match kind with
  | 1 => x.reqDone && decide (x.got.length ≥ outLines)
  | 2 => x.reqDone
  | 3 => x.reqDone && decide (x.got.length ≥ outLines ∧ x.checked ≥ outLines)
  | 4 => x.left && decide (x.got.length ≥ x.expect)
  | 5 => x.left && x.reduced
  | 6 => x.reqDone
  | 7 => x.reqDone && decide (x.checked ≥ x.expect)
  | _ => false

/-- The oldest transfer of a flow at a tile completes (R204), a receiver's of a SEND once the receiver has started it: FLOW_COUNT and FLOW_STATUS, and local interrupt 18
when JOB_IE asks for it (R206). -/
def doXferComplete (s : State) (k flow : Nat) : State :=
  match partOf s k flow with
  | none => s
  | some (d, p) =>
    let t := tileAt s k
    let f := flowSt t flow
    match f.open_ with
    | [] => s
    | x :: rest =>
      if xferDone d.kind p.outLines x && (d.kind != 4 || !sendReceives s k d p || decide (f.count.toNat < f.asked)) then
        let t := setFlow t flow { f with count := f.count + 1, status := f.status ||| x.status, open_ := rest }
        let die := dieAt s (k / 64)
        let s := setDie s (k / 64) { die with reqs := die.reqs.filter (fun r =>
          !(answered r && r.for_ == .transfer && r.tile.toNat == k % 64 && r.flow.toNat == flow && r.transfer == x.n)) }
        setTile s k (if t.jobIe.getLsbD 0 then localIrq t 18 else t)
      else s

def execFlowTransferComplete (cd : Fin 16) (t : Fin 64) (flow : BitVec 16) (s : State) : Host.Outcome State Fault Refusal :=
  .next (if domAt s (domCD cd.val) = .on ∧ !tileOut s (tkey cd t) then doXferComplete s (tkey cd t) flow.toNat else s)

end Sys2Proof.Machine
end

