-- ==== Sys2Proof/Machine/Sync.lean ====
section
/-! DEFINITION. Barrier groups and flags within the module (R208, R209). -/
namespace Sys2Proof.Machine

/-- The compute die a virtual tile is bound to. -/
def vtileDie (s : State) (v : Nat) : Nat := (physOf s v).getD 0 / 64

def barrierOf (s : State) (g : Nat) : Option BarrierE := (jobImage s).bind (fun im => im.barriers.find? (fun b => b.group == g))
def flagOf (s : State) (f : Nat) : Option FlagE := (jobImage s).bind (fun im => im.flags.find? (fun b => b.flag == f))

/-- Compute dies that carry some virtual tiles. -/
def diesOf (s : State) (vs : List Nat) : List Nat := (List.range 16).filter (fun d => vs.any (fun v => vtileDie s v == d))

/-- Home of a set of virtual tiles: the die of the lowest-numbered one (R208, R209). -/
def homeOf (s : State) (vs : List Nat) : Nat := vtileDie s (vs.foldl min (vs.headD 0))

def syncPacket (dst src ptype fields : Nat) (payload : List Word) : SigPacket :=
  { dst := BitVec.ofNat 7 dst, src := BitVec.ofNat 7 src, vc := 0, ptype := BitVec.ofNat 4 ptype,
    len := BitVec.ofNat 3 payload.length, poison := false, fields := BitVec.ofNat 40 fields, payload := payload }

def arriveCount (t : Tile) (g : Nat) : Nat := tget (fun _ => 0) t.arrivals g
def epochOf (t : Tile) (g : Nat) : Nat := tget (fun _ => 0) t.epochs g

/-- SYNC_MISUSE from a compute die (R208, R349). -/
def syncMisuse (s : State) (site block g e : Nat) : State := raise s site block 0x13 1 false (g % 1024 + e % 2 ^ 30 * 1024)

/-- A die sends BARRIER_ARRIVE once all of its own members have arrived for its next epoch (R208). -/
def sendArrive (s : State) (cd g : Nat) : State :=
  match barrierOf s g with
  | none => s
  | some b =>
    let own := b.members.filter (fun v => vtileDie s v == cd)
    -- epochs are counted whole here and named modulo 2^32 on the network
    let e := tget (fun _ => 0) (dieAt s cd).sent g
    if own.all (fun v => decide (arriveCount (tileAt s ((physOf s v).getD 0)) g > e)) then
      let d := dieAt s cd
      emit (setDie s cd { d with sent := tset (fun _ => 0) d.sent g (e + 1) })
        (.sig (syncPacket (siteCD (homeOf s b.members)) (siteCD cd) 1 (g * 2 ^ 32 + e % 2 ^ 32) []))
    else s

/-- A tile's write to SYNC_ARRIVE (R208). -/
def doSyncArrive (s : State) (k g : Nat) : State :=
  let member := match barrierOf s g, vtileOf s k with | some b, some v => b.members.contains v | _, _ => false
  let t := tileAt s k
  if !member then syncMisuse s (siteCD (k / 64)) 0x01 g (epochOf t g)
  else if arriveCount t g ≥ epochOf t g + 2 then s
  else sendArrive (setTile s k { t with arrivals := tset (fun _ => 0) t.arrivals g (arriveCount t g + 1) }) (k / 64) g

def execSyncArrive (cd : Fin 16) (t : Fin 64) (v : Word) (s : State) : Host.Outcome State Fault Refusal :=
  .next (if tileLive s (tkey cd t) then doSyncArrive s (tkey cd t) (v.toNat % 256) else s)

/-- Key of a home's arrival map. -/
def mapKey (g e : Nat) : Nat := g + 256 * e

/-- BARRIER_ARRIVE at the home (R208): the release follows the last die's arrival. -/
def doBarrierArrive (s : State) (cd src g e : Nat) : State :=
  match barrierOf s g with
  | none => s
  | some b =>
    if homeOf s b.members ≠ cd then s
    else
      let d := dieAt s cd
      let m := addPos (tget (fun _ => []) d.arrived (mapKey g e)) src
      let dies := diesOf s b.members
      if dies.all (fun x => m.contains (siteCD x)) then
        dies.foldl (fun s x => emit s (.sig (syncPacket (siteCD x) (siteCD cd) 2 (g * 2 ^ 32 + e) [])))
          (setDie s cd { d with arrived := tdel d.arrived (mapKey g e) })
      else setDie s cd { d with arrived := tset (fun _ => []) d.arrived (mapKey g e) m }

def execBarrierArrive (cd : Fin 16) (src : BitVec 7) (g : BitVec 8) (e : BitVec 32) (s : State) : Host.Outcome State Fault Refusal :=
  .next (if meshOn s cd.val && sigPath s src.toNat (siteCD cd.val) then
    doBarrierArrive (sigArrive s (syncPacket (siteCD cd.val) src.toNat 1 (g.toNat * 2 ^ 32 + e.toNat) [])) cd.val src.toNat g.toNat e.toNat
  else s)

/-- BARRIER_RELEASE at a member die (R208): SYNC_EPOCH of each member tile counts it; local interrupt 19. -/
def doBarrierRelease (s : State) (cd g e : Nat) : State :=
  match barrierOf s g with
  | none => s
  | some b =>
    (b.members.filter (fun v => vtileDie s v == cd)).foldl (fun s v =>
      updTile s ((physOf s v).getD 0) (fun t =>
        if epochOf t g % 2 ^ 32 = e then
          let t := { t with epochs := tset (fun _ => 0) t.epochs g (epochOf t g + 1) }
          if t.jobIe.getLsbD 1 then localIrq t 19 else t
        else t)) s

def execBarrierRelease (cd : Fin 16) (src : BitVec 7) (g : BitVec 8) (e : BitVec 32) (s : State) : Host.Outcome State Fault Refusal :=
  .next (if meshOn s cd.val && sigPath s src.toNat (siteCD cd.val) then
    doBarrierRelease (sigArrive s (syncPacket (siteCD cd.val) src.toNat 2 (g.toNat * 2 ^ 32 + e.toNat) [])) cd.val g.toNat e.toNat
  else s)

/-- A tile's write to a flag travels to its home (R209). -/
def sendFlag (s : State) (k op : Nat) (v : Word) : State :=
  let f := (tileAt s k).flagSel.toNat
  match flagOf s f with
  | none => s
  | some d => emit s (.sig (syncPacket (siteCD (homeOf s d.subs)) (siteCD (k / 64)) 3 (f * 2 ^ 28 + op * 2 ^ 24) [v]))

def execFlagValue (cd : Fin 16) (t : Fin 64) (v : Word) (s : State) : Host.Outcome State Fault Refusal :=
  .next (if tileLive s (tkey cd t) then sendFlag s (tkey cd t) 0 v else s)

def execFlagAddWrite (cd : Fin 16) (t : Fin 64) (v : Word) (s : State) : Host.Outcome State Fault Refusal :=
  .next (if tileLive s (tkey cd t) then sendFlag s (tkey cd t) 1 v else s)

/-- FLAG_WRITE at the flag's home (R209): a store or an add, then FLAG_NOTIFY to every die with subscribers. An OP
that is neither takes no effect. -/
def doFlagWrite (s : State) (cd f op : Nat) (v : Word) : State :=
  match flagOf s f with
  | none => s
  | some d =>
    if homeOf s d.subs ≠ cd ∨ 2 ≤ op then s
    else
      let die := dieAt s cd
      let old := tget (fun _ => 0) die.homeFlag f
      let new := if op = 0 then v else old + v
      (diesOf s d.subs).foldl (fun s x => emit s (.sig (syncPacket (siteCD x) (siteCD cd) 4 (f * 2 ^ 28) [new])))
        (setDie s cd { die with homeFlag := tset (fun _ => 0) die.homeFlag f new })

def execFlagWrite (cd : Fin 16) (src : BitVec 7) (f : BitVec 12) (op : BitVec 4) (v : Word) (s : State) : Host.Outcome State Fault Refusal :=
  .next (
    let p := syncPacket (siteCD cd.val) src.toNat 3 (f.toNat * 2 ^ 28 + op.toNat * 2 ^ 24) [v]
    if meshOn s cd.val && sigPath s src.toNat (siteCD cd.val) && sigNext s p then doFlagWrite (sigArrive s p) cd.val f.toNat op.toNat v else s)

/-- FLAG_NOTIFY at a subscriber's die (R209); local interrupt 20. -/
def doFlagNotify (s : State) (cd f : Nat) (v : Word) : State :=
  let die := dieAt s cd
  let s := setDie s cd { die with flagCopy := tset (fun _ => 0) die.flagCopy f v }
  match flagOf s f with
  | none => s
  | some d => (d.subs.filter (fun x => vtileDie s x == cd)).foldl (fun s x =>
      updTile s ((physOf s x).getD 0) (fun t => if t.jobIe.getLsbD 2 then localIrq t 20 else t)) s

def execFlagNotify (cd : Fin 16) (src : BitVec 7) (f : BitVec 12) (v : Word) (s : State) : Host.Outcome State Fault Refusal :=
  .next (
    let p := syncPacket (siteCD cd.val) src.toNat 4 (f.toNat * 2 ^ 28) [v]
    if meshOn s cd.val && sigPath s src.toNat (siteCD cd.val) && sigNext s p then doFlagNotify (sigArrive s p) cd.val f.toNat v else s)

end Sys2Proof.Machine
end

