-- ==== Sys2Proof/Machine/Image.lean ====
section
/-! DEFINITION. Job images: their container, the checks of R212 and what they describe (R199 to R213). -/
namespace Sys2Proof.Machine

/-! Ring entries (R288 Table 8). -/

def ringEntry (bs : List Byte) : RingEntry :=
  { image := leAt bs 0 8, args := leAt bs 8 8, argBytes := leAt bs 16 4, scratchBytes := leAt bs 20 4,
    scratch := leAt bs 24 8, runLimit := leAt bs 32 8, restartLimit := leAt bs 40 2,
    tag := BitVec.ofNat 64 (leAt bs 48 8), reservedOk := decide (leAt bs 42 6 = 0 ∧ leAt bs 56 8 = 0) }

/-! Fields of an image as bytes (R210, R211). -/

def imgBytes (s : State) (e : RingEntry) (size : Nat) : List Byte := dramBytes s e.image size

def directory (bs : List Byte) : List Section :=
  (List.range (leAt bs 30 2)).map (fun i =>
    { type := leAt bs (64 + 16 * i) 2, index := leAt bs (64 + 16 * i + 2) 2, off := leAt bs (64 + 16 * i + 8) 4,
      len := leAt bs (64 + 16 * i + 12) 4 })

def sectionsOf (d : List Section) (ty : Nat) : List Section := d.filter (fun x => x.type == ty)

/-- Bits of a bitmap (R210 Table 8c). -/
def bitmap (bs : List Byte) (off n : Nat) : List Nat := let w := leAt bs off n
  (List.range (8 * n)).filter (bitAt w)

def parsePart (bs : List Byte) (o : Nat) : Part :=
  { vtile := leAt bs o 2, peer := leAt bs (o + 2) 2, tsLine := leAt bs (o + 4) 2, tsRing := leAt bs (o + 6) 2,
    lines := leAt bs (o + 8) 4, outLines := leAt bs (o + 12) 4, offset := leAt bs (o + 16) 8, step := leAt bs (o + 24) 8,
    wrap := leAt bs (o + 32) 8 }

def parseFlow (bs : List Byte) (sec : Section) (i : Nat) : FlowDesc :=
  let o := sec.off + 32 * i
  let n := leAt bs (o + 14) 2
  let po := leAt bs (o + 16) 4
  { flow := leAt bs o 2, kind := leAt bs (o + 2) 1, region := leAt bs (o + 4) 2, op := leAt bs (o + 6) 1,
    fmt := leAt bs (o + 7) 1, returnFlow := leAt bs (o + 8) 2, destVtile := leAt bs (o + 10) 2, count := leAt bs (o + 12) 2,
    parts := (List.range (min n 1024)).map (fun j => parsePart bs (sec.off + po + 48 * j)) }

def parseRegion (bs : List Byte) (o : Nat) : RegionE :=
  { region := leAt bs o 2, remote := leAt bs (o + 2) 1 == 1, access := leAt bs (o + 3) 1, arg := leAt bs (o + 4) 2,
    base := leAt bs (o + 8) 8, size := leAt bs (o + 16) 8, key := leAt bs (o + 24) 4 }

def parseVariant (bs : List Byte) (v : Nat) (sec : Section) : VariantE :=
  let o := sec.off
  { variant := leAt bs o 1, kind := leAt bs (o + 1) 1, dieMask := leAt bs (o + 2) 2, setMask := leAt bs (o + 4) 1 % 16,
    standby := leAt bs (o + 5) 1, bootFlow := leAt bs (o + 6) 2,
    fabric := (List.range 16).map (fun n => fld (leAt bs (o + 8) 8) (4 * n) 4),
    binding := (List.range v).map (fun i => leAt bs (o + 64 + 2 * i) 2 % 1024),
    tableOff := o + 64 + cdiv (2 * v) 64 * 64 }

/-- An image as its sections give it. -/
def parseImage (bs : List Byte) : Image :=
  let d := directory bs
  let v := leAt bs 28 2
  let fsec := (sectionsOf d 4).headD { type := 0, index := 0, off := 0, len := 0 }
  { size := leAt bs 16 8, scratchBytes := leAt bs 24 4,
    vtiles := (sectionsOf d 2).flatMap (fun x => (List.range v).map (fun i =>
      { program := leAt bs (x.off + 16 * i) 2, partsLine := leAt bs (x.off + 16 * i + 2) 2 })),
    programs := sectionsOf d 1,
    regions := (sectionsOf d 3).flatMap (fun x => (List.range (leAt bs 34 2)).map (fun i => parseRegion bs (x.off + 32 * i))),
    flows := (List.range (leAt bs 36 2)).map (parseFlow bs fsec),
    barriers := (sectionsOf d 5).flatMap (fun x => (List.range (x.len / 136)).map (fun i =>
      { group := leAt bs (x.off + 136 * i) 1, members := bitmap bs (x.off + 136 * i + 8) 128 })),
    flags := (sectionsOf d 6).flatMap (fun x => (List.range (x.len / 144)).map (fun i =>
      { flag := leAt bs (x.off + 144 * i) 2, initial := BitVec.ofNat 64 (leAt bs (x.off + 144 * i + 8) 8),
        subs := bitmap bs (x.off + 144 * i + 16) 128 })),
    codes := (sectionsOf d 7).filterMap (fun x => codeTable x.index (slice bs x.off x.len)),
    variants := (sectionsOf d 8).map (parseVariant bs v) }

/-! Regions (R207). -/

/-- Argument word `i` of the argument block. -/
def argWord (s : State) (e : RingEntry) (i : Nat) : Nat := leNat (dramBytes s (e.args + 8 * i) 8)

/-- Resolve the regions of an image; region 1,023 is the argument block. -/
def resolveRegions (s : State) (e : RingEntry) (im : Image) : List Resolved :=
  im.regions.map (fun r =>
    { region := r.region, remote := r.remote, base := if r.arg = 0xFFFF then r.base else argWord s e r.arg, size := r.size,
      key := if !r.remote then 0 else if r.arg = 0xFFFF then r.key else argWord s e (r.arg + 1) % 2 ^ 32 }) ++
  [{ region := 1023, remote := false, base := e.args, size := e.argBytes, key := 0 }]

/-! The checks of R212. -/

def noDup (l : List Nat) : Bool := l.eraseDups.length == l.length

/-- Header fields (R210 Table 8a). -/
def headerOk (bs : List Byte) : Bool :=
  decide (leAt bs 0 4 = 0x494A5A42 ∧ leAt bs 4 1 = 1 ∧ leAt bs 5 1 = 3) &&
  decide (leAt bs 16 8 % 4096 = 0 ∧ 4096 ≤ leAt bs 16 8 ∧ leAt bs 16 8 ≤ 0x1000000) &&
  decide (leAt bs 24 4 % 4096 = 0 ∧ 0x30000 ≤ leAt bs 24 4) &&
  decide (1 ≤ leAt bs 28 2 ∧ leAt bs 28 2 ≤ 1024) && decide (1 ≤ leAt bs 30 2 ∧ leAt bs 30 2 ≤ 256) &&
  decide (1 ≤ leAt bs 32 2 ∧ leAt bs 32 2 ≤ 64) && decide (leAt bs 34 2 ≤ 1023) &&
  decide (1 ≤ leAt bs 36 2 ∧ leAt bs 36 2 ≤ 4096)

/-- Sections: places, counts and lengths (cause 0x03). -/
def sectionsOk (bs : List Byte) : Bool :=
  let d := directory bs
  let size := leAt bs 16 8
  let v := leAt bs 28 2
  let cnt := fun ty => (sectionsOf d ty).length
  let lens := fun ty p => (sectionsOf d ty).all (fun x => p x.len)
  d.all (fun x => decide (1 ≤ x.type ∧ x.type ≤ 9) && x.off % 64 == 0 && decide (64 + 16 * d.length ≤ x.off) && decide (x.off + x.len ≤ size)) &&
  (List.range d.length).all (fun i => (List.range i).all (fun j =>
    match d[i]?, d[j]? with
    | some a, some b => a.len == 0 || b.len == 0 || decide (a.off + a.len ≤ b.off ∨ b.off + b.len ≤ a.off)
    | _, _ => true)) &&
  decide (1 ≤ cnt 1 ∧ cnt 1 ≤ 256) && cnt 2 == 1 && decide (cnt 3 ≤ 1) && (leAt bs 34 2 == 0 || cnt 3 == 1) && cnt 4 == 1 &&
  decide (cnt 5 ≤ 1 ∧ cnt 6 ≤ 1 ∧ cnt 7 ≤ 16) && cnt 8 == leAt bs 32 2 &&
  noDup ((sectionsOf d 1).map (·.index)) && noDup ((sectionsOf d 7).map (·.index)) &&
  (List.range (leAt bs 32 2)).all (fun i => (sectionsOf d 8).any (fun x => x.index == i)) &&
  lens 1 (fun n => decide (n ≤ 0x80000)) && lens 2 (fun n => n == 16 * v) && lens 3 (fun n => n == 32 * leAt bs 34 2) &&
  lens 4 (fun n => decide (32 * leAt bs 36 2 ≤ n)) && lens 5 (fun n => n % 136 == 0) && lens 6 (fun n => n % 144 == 0) &&
  lens 8 (fun n => n == 64 + cdiv (2 * v) 64 * 64 + 89728)

/-- Code tables (cause 0x04). -/
def codesOk (bs : List Byte) : Bool :=
  (sectionsOf (directory bs) 7).all (fun x => decide (x.index ≤ 15) && (codeTable x.index (slice bs x.off x.len)).isSome)

/-- Access bit a flow kind needs (R207). -/
def kindAccess (k : Nat) : Option Nat :=
  match k with | 1 => some 0 | 3 => some 0 | 2 => some 1 | 6 => some 3 | 7 => some 2 | _ => none

/-- The region of a flow, with the argument block local and read-only. -/
def flowRegion (im : Image) (r : Nat) : Option RegionE :=
  if r = 1023 then some { region := 1023, remote := false, access := 1, arg := 0xFFFF, base := 0, size := 0, key := 0 }
  else im.regions.find? (fun x => x.region == r)

/-- Lines of a virtual tile's program, and the number of its part entries. -/
def programLines (im : Image) (v : Nat) : Nat :=
  match im.vtiles[v]? with
  | none => 0
  | some e => match im.programs.find? (fun p => p.index == e.program) with | some p => cdiv p.len 64 | none => 0

def partCount (im : Image) (v : Nat) : Nat := (im.flows.map (fun f => (f.parts.filter (fun p => p.vtile == v)).length)).sum

def apart (a la b lb : Nat) : Bool := decide (la = 0 ∨ lb = 0 ∨ a + la ≤ b ∨ b + lb ≤ a)

/-- A part entry (R202 Table 4). -/
def partOk (im : Image) (f : FlowDesc) (p : Part) : Bool :=
  let unit := if f.kind = 3 then 4096 else 64
  let ring := p.outLines * p.tsRing
  let parts := ((im.vtiles[p.vtile]?).map (·.partsLine)).getD 0
  decide (p.vtile < im.vtiles.length) && decide (p.tsLine ≤ 16383) && decide (1 ≤ p.tsRing ∧ p.tsRing ≤ 8) &&
  decide (1 ≤ p.lines ∧ p.lines ≤ 65536) && (f.kind != 3 || p.lines % 64 == 0) && (f.kind == 3 || p.outLines == p.lines) &&
  p.offset % unit == 0 && p.step % unit == 0 && p.wrap % 4096 == 0 && decide (p.tsLine + ring ≤ 16383) &&
  apart p.tsLine ring 0 (programLines im p.vtile) && apart p.tsLine ring parts (partCount im p.vtile) &&
  (match f.kind with
   | 4 => f.parts.any (fun q => q.vtile == p.peer && q.peer == p.vtile)
   | 5 => p.peer == f.destVtile
   | _ => p.peer == 0)

/-- A flow descriptor (R201, R202 Table 3). -/
def flowOk (im : Image) (f : FlowDesc) : Bool :=
  let reg := flowRegion im f.region
  decide (1 ≤ f.flow) && decide (1 ≤ f.kind ∧ f.kind ≤ 8) &&
  (match kindAccess f.kind with
   | some b => (match reg with | some r => bitAt r.access b && !(f.kind == 3 && r.remote) | none => false)
   | none => f.region == 0xFFFF) &&
  (if f.kind = 6 then decide (0x11 ≤ f.op ∧ f.op ≤ 0x13 ∧ f.fmt ≤ 4) else f.op == 0) &&
  (f.kind == 6 || (if f.kind = 5 then decide (f.fmt ≤ 1) else f.fmt == 0)) &&
  (if f.kind = 7 then im.flows.any (fun g => g.flow == f.returnFlow && g.kind == 8) else f.returnFlow == 0) &&
  (if f.kind = 5 then decide (1 ≤ f.count ∧ f.count ≤ 64) && f.parts.any (fun p => p.vtile == f.destVtile && decide (p.outLines ≤ 1024))
   else f.count == 0 && f.destVtile == 0) &&
  decide (1 ≤ f.parts.length) && noDup (f.parts.map (·.vtile)) && f.parts.all (partOk im f)

/-- Entries of cause 0x05 (R212 Table 10). -/
def entriesOk (bs : List Byte) (e : RingEntry) (im : Image) : Bool :=
  let fsec := (sectionsOf (directory bs) 4).headD { type := 0, index := 0, off := 0, len := 0 }
  let v := im.vtiles.length
  (List.range im.flows.length).all (fun i =>
    let o := fsec.off + 32 * i
    decide (1 ≤ leAt bs (o + 14) 2 ∧ leAt bs (o + 14) 2 ≤ 1024) && leAt bs (o + 16) 4 % 16 == 0 &&
    decide (leAt bs (o + 16) 4 + 48 * leAt bs (o + 14) 2 ≤ fsec.len)) &&
  noDup (im.flows.map (·.flow)) && im.flows.all (flowOk im) &&
  (List.range v).all (fun i => decide (partCount im i ≤ 64)) &&
  im.vtiles.zipIdx.all (fun x => im.programs.any (fun p => p.index == x.1.program) &&
    decide (x.1.partsLine + partCount im x.2 ≤ 16383) && apart x.1.partsLine (partCount im x.2) 0 (programLines im x.2)) &&
  noDup (im.regions.map (·.region)) &&
  im.regions.all (fun r => decide (r.region ≤ 1022) && decide (r.access < 16) && r.size % 4096 == 0 && (r.arg != 0xFFFF || r.base % 4096 == 0) &&
    (r.arg == 0xFFFF || decide (8 * (r.arg + 1 + b2n r.remote) ≤ e.argBytes)) && (r.key == 0 || (r.remote && r.arg == 0xFFFF))) &&
  ((sectionsOf (directory bs) 3).all (fun x => (List.range im.regions.length).all (fun i => decide (leAt bs (x.off + 32 * i + 2) 1 ≤ 1)))) &&
  noDup (im.barriers.map (·.group)) && im.barriers.all (fun b => !b.members.isEmpty && b.members.all (fun m => decide (m < v))) &&
  noDup (im.flags.map (·.flag)) && im.flags.all (fun f => decide (f.flag < 4096) && !f.subs.isEmpty && f.subs.all (fun m => decide (m < v)))

/-- Variants (cause 0x07). -/
def variantsOk (bs : List Byte) (im : Image) : Bool :=
  (sectionsOf (directory bs) 8).all (fun sec =>
    let v := parseVariant bs im.vtiles.length sec
    v.variant == sec.index && decide (v.kind ≤ 3) && leAt bs (sec.off + 4) 1 / 16 == 0 && decide (leNat (slice bs (sec.off + 16) 48) = 0) &&
    noDup v.binding && v.binding.all (fun b => !bitAt v.dieMask (b / 64)) &&
    (v.standby == 255 || decide (v.standby < im.variants.length)) &&
    im.flows.any (fun f => f.flow == v.bootFlow && f.kind == 1) && v.fabric.all (fun n => decide (n < 8) || n == 15))

/-- Alignment and placement of a ring entry's areas (R288; cause 0x06). -/
def entryPlaced (s : State) (e : RingEntry) : Bool :=
  e.image % 4096 == 0 && e.args % 4096 == 0 && e.scratch % 4096 == 0 && e.argBytes % 4096 == 0 && decide (4096 ≤ e.argBytes) &&
  e.scratchBytes % 4096 == 0 && inMapped s e.args e.argBytes && inMapped s e.scratch (max e.scratchBytes 1) && inMapped s e.image 4096

/-- The checks of R212 in their order: the cause of the first that fails, or the image. -/
def checkImage (s : State) (e : RingEntry) : Nat ⊕ Image :=
  if !e.reservedOk then .inl 1
  else if !entryPlaced s e then .inl 6
  else
    let head := imgBytes s e 4096
    if !headerOk head then .inl 1
    else
      let size := leAt head 16 8
      if !inMapped s e.image size then .inl 6
      else
        let bs := imgBytes s e size
        if leAt bs 8 4 ≠ crc32c (bs.drop 16) then .inl 2
        else if !sectionsOk bs then .inl 3
        else if !codesOk bs then .inl 4
        else
          let im := parseImage bs
          if !entriesOk bs e im then .inl 5
          else if im.scratchBytes > e.scratchBytes ∨
              (resolveRegions s e im).any (fun r => !r.remote && decide (r.size > 0) && !inMapped s r.base r.size) then .inl 6
          else if !variantsOk bs im then .inl 7
          else .inr im

/-! Table sets of a variant (R211, R123). -/

/-- The table set of a variant: its 128 B header and its entries. -/
def variantSet (s : State) (e : RingEntry) (v : VariantE) : List Byte × Tbl (BitVec 32) :=
  let bs := dramBytes s (e.image + v.tableOff) 89728
  (bs.take 128, (List.range 350).foldl (fun es p => storeRow es p (slice bs (128 + 256 * p) 256)) [])

end Sys2Proof.Machine
end

