-- ==== Sys2Proof/Machine/Rings.lean ====
section
/-! DEFINITION. Job rings, queue pairs as requesters and completion records (R281, R287 to R292). -/
namespace Sys2Proof.Machine

def qpAt (s : State) (q : Nat) : QpSt := tget (fun _ => {}) s.host.qps q
def setQp (s : State) (q : Nat) (v : QpSt) : State := { s with host := { s.host with qps := tset (fun _ => {}) s.host.qps q v } }
def ringAt (s : State) (r : Nat) : RingSt := tget (fun _ => {}) s.host.rings r
def setRing (s : State) (r : Nat) (v : RingSt) : State := { s with host := { s.host with rings := tset (fun _ => {}) s.host.rings r v } }

/-- A host die is in service: its domain on, not fenced. -/
def hostDieUp (s : State) (n : Nat) : Bool := domAt s (domHD n) == .on && !fencedSite s (siteHD n)

/-- The engine that serves a ring (R287): its own host die's, or the other one's while that is out. -/
def ringServer (s : State) (r : Nat) : Nat := if hostDieUp s (r / 8) then r / 8 else 1 - r / 8

/-- HOST_ERROR (R349): 0 NAK sent, 1 retries exhausted, 2 record not delivered. -/
def hostError (s : State) (port q code : Nat) : State := raise s (siteHD port) 0x0E 0x38 1 false (port + q % 4096 * 2 + code * 8192)

/-- A host die is in service. -/
def anyHostUp (s : State) : Bool := hostDieUp s 0 || hostDieUp s 1

/-! Frames that a port sends (R278, R279). -/

/-- ID of the 802.1Q tag of what a port sends, as HOST_VLAN sets. -/
def hostTag (s : State) (port : Nat) : Option Nat :=
  let v := dval s (Obj.hostVlan + 256 * port)
  if bitAt v 12 then some (v % 4096) else none

/-- A 16-byte address lies on the subnet of an address of the port (R279); an IPv4 address stands in its mapped form. -/
def onSubnet (s : State) (port : Nat) (dst : List Byte) : Bool :=
  let p := hostPortAt s port
  let a := p.ipv4 % 2 ^ 32
  let agrees := fun (w n x y : Nat) => x / 2 ^ (w - n) == y / 2 ^ (w - n)
  if dst.take 12 = List.replicate 10 0 ++ [0xFF, 0xFF] then a != 0 && agrees 32 (p.ipv4 / 2 ^ 32 % 64) a (beNat (dst.drop 12))
  else leNat (p.ipv6.take 16) != 0 && agrees 128 (leAt p.ipv6 16 1) (beNat (p.ipv6.take 16)) (beNat dst)

/-- A RoCEv2 packet of a queue pair: its DSCP, 48 for a CNP, and its tag (R278, R295). -/
def roceFrame (s : State) (q : Nat) (kind : RoceKind) (psn : BitVec 24) (data : List Byte) : HostOut :=
  .roce q kind psn data (if kind = .cnp then 48 else dval s Obj.hostRoceDscp) (hostTag s (qpAt s q).port)

/-- A queue pair's port can send to its peer: the link is up, the peer on the port's own subnet (R279). -/
def peerReached (s : State) (q : Nat) : Bool :=
  let v := qpAt s q
  decide ((hostPortAt s v.port).link = 2) && onSubnet s v.port (slice v.entry 16 16)

/-! Requests of a queue pair (R281, R292). -/

/-- Send a request on the wire: address, key and bytes. A port that is down sends nothing (R279); a paused one, or a pair that a congestion
notification slows, holds it (R278, R280). -/
def wireRequest (s : State) (q : Nat) (r : QpReq) : State :=
  let v := qpAt s q
  if !peerReached s q then s
  else if (hostPortAt s v.port).pausedTx ∨ s.ticks < v.slowTo then setQp s q { v with out := some { r with held := true } }
  else emit s (.host v.port (roceFrame s q .writeRequest (BitVec.ofNat 24 r.psn) (toBe 8 r.va ++ toBe 4 r.rkey ++ r.data)))

/-- A request that was held goes out. -/
def wireHeld (s : State) (q : Nat) : State :=
  match (qpAt s q).out with
  | some r => if r.held then (let r := { r with held := false, sentAt := s.ticks }
                              wireRequest (setQp s q { qpAt s q with out := some r }) q r) else s
  | none => s

/-- Give a queue pair its next request while none is outstanding (R280: one per pair). -/
def pumpQp (s : State) (q : Nat) : State :=
  let v := qpAt s q
  match v.out, v.queue with
  | none, r :: rest =>
    let r := { r with psn := v.sPsn.toNat, sentAt := s.ticks, tries := 0, rnr := 0 }
    wireRequest (setQp s q { v with out := some r, queue := rest, sPsn := v.sPsn + 1 }) q r
  | _, _ => s

def queueRequest (s : State) (q : Nat) (r : QpReq) : State :=
  let v := qpAt s q
  pumpQp (setQp s q { v with queue := v.queue ++ [r] }) q

/-- A record that cannot be written to the host is kept only in SEQ and JOB_LAST_END (R292). -/
def recordKept (s : State) (ring n : Nat) : State :=
  let v := ringAt s ring
  hostError (setRing s ring { v with seq := n, recs := v.recs.filter (fun x => x.1 != n), acked := false })
    (qpAt s v.qp).port v.qp 2

/-- The body of the first waiting record is sent (R292 MODE 1). -/
def sendBody (s : State) (ring : Nat) : State :=
  let v := ringAt s ring
  match v.recs with
  | [] => s
  | (n, bs) :: _ =>
    queueRequest s v.qp { psn := 0, ring := ring, setup := v.setup, n := n, va := v.recBase + 64 * ((n - 1) % max v.entries 1) + 8, rkey := v.recKey,
                          data := bs.drop 8, seqPart := false, sentAt := 0, tries := 0 }

/-- Records of a ring whose pair has failed, one after the other. -/
def recordsKept (s : State) (ring : Nat) : State :=
  (ringAt s ring).recs.foldl (fun s r => recordKept s ring r.1) s

/-- Records that a pair was to write are kept, while a host die is in service to find that out (R292, R327). -/
def pairRecordsKept (s : State) (q : Nat) : State :=
  if anyHostUp s then
    overNats (List.range 16) (fun r s => if (ringAt s r).mode = 1 ∧ (ringAt s r).qp = q then recordsKept s r else s) s
  else s

/-- Bytes of a pair's requests that the receive buffer still holds. -/
def reqBytes (v : QpSt) : Nat := ((v.reqs.filter (fun r => r.at_.isNone && (r.op == .write || r.op == .entry || r.op == .atomic))).map
  (fun r => r.len)).foldl (· + ·) 0

/-- A queue pair enters STATE 2: it drops its requests, and the records on it are kept (R281, R292). -/
def qpFail (s : State) (q code : Nat) : State :=
  let v := qpAt s q
  if v.state ≠ 1 then s
  else
    let s := hostDrain (setQp s q { v with state := 2, out := none, queue := [], msg := none, reqs := [] }) v.port (reqBytes v)
    let s := if code = 1 then hostError s v.port q 1 else s
    pairRecordsKept s q

/-- Deliver record `n` of a ring (R292). With no host die in service it waits for one to return (R327). -/
def deliverRecord (s : State) (ring n : Nat) (bs : List Byte) : State :=
  let v := ringAt s ring
  if !anyHostUp s then setRing s ring { v with recs := v.recs ++ [(n, bs)] }
  else if v.mode = 0 then
    let a := v.recBase + 64 * ((n - 1) % max v.entries 1)
    let s := dramWrite s (a + 8) (bs.drop 8) false
    let s := dramWrite s a (bs.take 8) false
    setRing s ring { ringAt s ring with seq := n }
  else
    let first := v.recs.isEmpty
    let s := setRing s ring { v with recs := v.recs ++ [(n, bs)] }
    if (qpAt s v.qp).state ≠ 1 then recordKept s ring n
    else if first then sendBody s ring else s

/-- A host die returns: the records that waited for one are delivered (R327). -/
def hostBack (s : State) : State :=
  overNats (List.range 16) (fun r s =>
    let v := ringAt s r
    if v.mode = 0 ∨ (qpAt s v.qp).state ≠ 1 then
      v.recs.foldl (fun s e => deliverRecord s r e.1 e.2) (setRing s r { v with recs := [], acked := false })
    else s) s

/-- The acknowledgement of the body lets the engine write the SEQ bytes and set SEQ (R292). -/
def doRecordAck (s : State) (ring : Nat) : State :=
  let v := ringAt s ring
  match v.recs with
  | (n, bs) :: rest =>
    if v.acked then
      let s := queueRequest s v.qp { psn := 0, ring := ring, setup := v.setup, n := n, va := v.recBase + 64 * ((n - 1) % max v.entries 1), rkey := v.recKey,
                                     data := bs.take 8, seqPart := true, sentAt := 0, tries := 0 }
      sendBody (setRing s ring { ringAt s ring with seq := n, recs := rest, acked := false }) ring
    else s
  | [] => s

def execRecordWriteAck (ring : Fin 16) (s : State) : Host.Outcome State Fault Refusal := .next (doRecordAck s ring.val)

/-- The 64 bytes of a completion record (R291 Table 10). -/
def recordBytes (n status restarts detail : Nat) (user end_ : Word) : List Byte :=
  toLe 8 n ++ toLe 1 status ++ [0] ++ toLe 2 restarts ++ toLe 4 detail ++ toLe 8 user.toNat ++ toLe 8 end_.toNat ++ List.replicate 32 0

/-- A job of a ring ends: its record carries the count of jobs ended on the ring (R223), and the totals move. -/
def endEntry (s : State) (ring status detail restarts : Nat) (user end_ : Word) : State :=
  let v := ringAt s ring
  let n := v.ended + 1
  let s := setRing s ring { v with ended := n }
  let s := bump s Obj.jobsEnded
  let s := dset s Obj.jobLastEnd (status + detail % 2 ^ 32 * 256 + ring * 2 ^ 40)
  let s := if status = 3 then bump s Obj.imagesRejected else s
  let s := if status = 4 then bump s Obj.noVariantEnds else s
  let s := if status ≤ 2 then s else raise s (siteHD (ringServer s ring)) 0x0F 0x60 6 false (status + detail % 2 ^ 32 * 256)
  deliverRecord s ring n (recordBytes n status restarts detail user end_)

/-- Queued entries below A end with ABORTED, in entry order, without starting (R290). -/
def abortQueued : Nat → State → Nat → Nat → State
  | 0, s, _, _ => s
  | fuel + 1, s, ring, a =>
    let v := ringAt s ring
    if v.head ≥ a then s
    else
      let e := ringEntry (dramBytes s (v.base + 64 * (v.head % max v.entries 1)) 64)
      let s := endEntry (setRing s ring { v with head := v.head + 1 }) ring 2 0 0 e.tag s.now
      abortQueued fuel s ring a

/-! Configuring a ring (R287 Table 7). -/

def powerOfTwo (n : Nat) : Bool := (List.range 13).any (fun k => n == 2 ^ k)

/-- A ring configuration the engine accepts: reserved bytes zero, sizes and addresses as Table 7 asks. -/
def ringConfigOk (bs : List Byte) : Bool :=
  let n := leAt bs 8 2
  let mode := leAt bs 10 1
  bs.length == 32 && leAt bs 0 8 % 4096 == 0 && (n == 0 || (powerOfTwo n && decide (16 ≤ n ∧ n ≤ 4096))) && decide (mode ≤ 1) &&
  leAt bs 11 1 == 0 && leAt bs 14 2 == 0 && leAt bs 28 4 == 0 && (mode == 1 || leAt bs 24 4 == 0) &&
  (mode == 1 || leAt bs 16 8 % 64 == 0) && decide (leAt bs 12 2 < 4096)

/-- RING_CONFIG (R287): refused while a job of the ring is beyond QUEUED; otherwise the ring is set up empty. -/
def doRingConfig (s : State) (r : Nat) (bs : List Byte) : Bool × State :=
  let busy := match s.job with | some j => j.ring == r | none => false
  if busy || !ringConfigOk bs then (false, s)
  else
    let v := ringAt s r
    let s := setQp s v.qp { qpAt s v.qp with queue := (qpAt s v.qp).queue.filter (fun x => x.ring != r) }
    (true, setRing s r { entry := bs, base := leAt bs 0 8, entries := leAt bs 8 2, mode := leAt bs 10 1, qp := leAt bs 12 2,
                         recBase := leAt bs 16 8, recKey := leAt bs 24 4, setup := v.setup + 1 })

def execRingConfig (r : Fin 16) (bs : List Byte) (s : State) : Host.Outcome State Fault Refusal := .next (doRingConfig s r.val bs).2

end Sys2Proof.Machine
end

