-- ==== Sys2Proof/Machine/Jobs.lean ====
section
/-! DEFINITION. The job engine (R214 to R223): taking a job, starting it, losses, stops, restarts and its end. -/
namespace Sys2Proof.Machine

def setJob (s : State) (j : Job) : State := { s with job := some j }

/-! Table loads (R125, R221). -/

/-- Bytes as flits. -/
def flitsOf (bs : List Byte) : List Flit :=
  (List.range (cdiv bs.length 64)).map (fun i => { data := slice bs (64 * i) 64, poison := false })

/-- One TABLE slot's flits (R125 Table 11a). -/
def tableSlot (gen part first rows : Nat) (body : List Byte) : List Flit :=
  let f0 := toLe 1 gen ++ toLe 1 part ++ toLe 2 first ++ toLe 1 rows ++ [0, 0, 0] ++ toLe 4 (crc32c body) ++ List.replicate 52 0
  flitsOf (f0 ++ body)

/-- The header slot and the 59 row slots of a set. -/
def tableSlots (gen : Nat) (head : List Byte) (es : Tbl (BitVec 32)) : List (List Flit) :=
  tableSlot gen 0 0 0 head ::
  (List.range 59).map (fun i =>
    let n := min 6 (350 - 6 * i)
    tableSlot gen 1 (6 * i) n ((List.range n).flatMap (fun r => (List.range 64).flatMap (fun sl => toLe 4 (setEntry es (6 * i + r) sl).toNat))))

/-- Queue a set for base tiles in an engine's TABLE service. -/
def queueTables (s : State) (hd : Nat) (bts : List Nat) (gen : Nat) (head : List Byte) (es : Tbl (BitVec 32)) : State :=
  let q := (houseQ s (siteHD hd) 5).filter (fun e => !bts.any (fun b => e.1 == 128 + b))
  setHouseQ s (siteHD hd) 5 (q ++ bts.flatMap (fun b => (tableSlots gen head es).map (fun fs => (128 + b, fs))))

/-- Drop what an engine still has to send of a load. -/
def dropTables (s : State) (hd : Nat) : State := setHouseQ s (siteHD hd) 5 []

/-- Does a held set equal a variant's? -/
def sameSet (t : TabSet) (head : List Byte) (es : Tbl (BitVec 32)) : Bool :=
  t.blend == leAt head 1 1 && t.covers == coversOf head && t.entries == es

/-- Base tiles whose ports have not failed by R128. -/
def soundTiles (s : State) : List Nat := (List.range 8).filter (fun b => !(btAt s b).failedByRule)

/-- The generation in which the active set, or an accepted shadow of an engine, already holds a set (R221). -/
def heldActive (s : State) (head : List Byte) (es : Tbl (BitVec 32)) : Option (BitVec 8) :=
  if (soundTiles s).all (fun b => match (btAt s b).active with | some t => sameSet t head es | none => false)
  then (soundTiles s).head?.bind (fun b => (btAt s b).active.map (·.gen)) else none

def heldShadow (s : State) (hd : Nat) (head : List Byte) (es : Tbl (BitVec 32)) : Option (BitVec 8) :=
  if (soundTiles s).all (fun b => let h := shadowOf s b
      h.state == .accepted && h.owner.toNat == siteHD hd && sameSet (shadowSet h) head es)
  then (soundTiles s).head?.map (fun b => (shadowOf s b).gen) else none

/-- The next generation an engine uses: neither the active nor the shadow's, from 1 to 255 (R122). -/
def nextGen (s : State) (last : BitVec 8) : BitVec 8 :=
  let used := (List.range 8).flatMap (fun b => [((btAt s b).active.map (·.gen)).getD 0, (shadowOf s b).gen])
  let cand := (List.range 255).map (fun i => BitVec.ofNat 8 ((last.toNat + i) % 255 + 1))
  (cand.find? (fun g => !used.contains g)).getD 1

/-! Variant selection (R219). DEDUCED (log 110): a unit counts as lost from the moment its FENCE, SET_LOST or PORT_FAILED has been taken,
also before the boundary it names, so that no start takes it. -/

/-- A fence taken and not yet in effect of a site, or of one tile of it. -/
def fenceComing (s : State) (site : Nat) (tile : Option Nat) : Bool :=
  s.changes.any (fun c => match c.2 with | .fence st tl _ _ => st == site && (tl == tile || tl.isNone) | _ => false)

def dieLost (s : State) (n : Nat) : Bool :=
  fencedSite s (siteCD n) || fencedSite s (siteKD n) || fenceComing s (siteCD n) none || fenceComing s (siteKD n) none

/-- Compute dies lost: fenced, or their cache die fenced. -/
def lostDies (s : State) : Nat := (List.range 16).foldl (fun m n => if dieLost s n then m + 2 ^ n else m) 0

/-- A tile fenced or retired, or lost with its die. -/
def tileLost (s : State) (k : Nat) : Bool :=
  tileOut s k || dieLost s (k / 64) || fenceComing s (siteCD (k / 64)) (some (k % 64))

/-- A port failed, unpowered or on a fenced die. -/
def portLost (s : State) (p : Nat) : Bool :=
  !portUp s p || fenceComing s (portSite p).1 none || (decide (p < 192) && dieLost s (p / 12)) ||
  s.changes.any (fun c => match c.2 with | .portFailed q => q == p | _ => false)

/-- Sets lost, one bit each. -/
def lostSets (s : State) : Nat := (List.range 4).foldl (fun m n =>
  if setLostNow s n || s.changes.any (fun c => match c.2 with | .setLost k _ => k == n | _ => false) then m + 2 ^ n else m) 0

/-- Is every bit of `a` in `b`? -/
def subset (a b : Nat) : Bool := a &&& b == a

/-- Rebind virtual tiles bound to fenced or retired tiles, in increasing number, each to the lowest free tile of its
die (R219). -/
def relocateGo (s : State) : List Nat → List Nat → Option (List Nat)
  | [], _ => some []
  | b :: rest, taken =>
    if tileLost s b then
      match ((List.range 64).map (fun t => 64 * (b / 64) + t)).find? (fun k => !taken.contains k && !tileLost s k) with
      | some k => (relocateGo s rest (k :: taken)).map (fun l => k :: l)
      | none => none
    else (relocateGo s rest taken).map (fun l => b :: l)

def relocate (s : State) (v : VariantE) : Option (List Nat) := relocateGo s v.binding v.binding

/-- Variants in increasing number. -/
def variantList (im : Image) : List VariantE :=
  (List.range im.variants.length).filterMap (fun n => im.variants.find? (fun v => v.variant == n))

/-- The first eligible variant, its binding and its table set (R219). -/
def selectVariant (s : State) (e : RingEntry) (im : Image) : Option (VariantE × List Nat × List Byte × Tbl (BitVec 32)) :=
  (variantList im).findSome? (fun v =>
    if subset (lostDies s) v.dieMask && subset (lostSets s) v.setMask then
      let set := variantSet s e v
      if (litEntries set.2).any (fun x => portLost s x.1 || portLost s (entryDst x.2.2)) then none
      else (relocate s v).map (fun b => (v, b, set.1, set.2))
    else none)

/-! Boot records (R213). -/

/-- Bytes of the scratch area that the module fills in a layout of its own. -/
def freeBytes (ctr base n : Nat) : List Byte := (List.range n).map (fun i => Config.freeByte ctr (base + i))

/-- The boot record of a physical tile. -/
def bootRecord (e : RingEntry) (im : Image) (v : VariantE) (binding : List Nat) (k : Nat) : List Byte :=
  match binding.findIdx? (· == k) with
  | none => toLe 2 0xFFFF ++ toLe 2 v.bootFlow ++ List.replicate 60 0
  | some i =>
    let ve := im.vtiles.getD i { program := 0, partsLine := 0 }
    let prog := (im.programs.find? (fun p => p.index == ve.program)).getD { type := 1, index := 0, off := 0, len := 0 }
    let before := ((List.range i).map (fun j => partCount im j)).sum
    toLe 2 i ++ toLe 2 v.bootFlow ++ toLe 2 ve.partsLine ++ toLe 2 (partCount im i) ++ toLe 8 (e.image + prog.off) ++
      toLe 4 (cdiv prog.len 64) ++ List.replicate 4 0 ++ toLe 8 (e.scratch + 0x30000 + 64 * before) ++ List.replicate 32 0

/-- Write the scratch area: boot records, die records and resolved part tables (R213). -/
def writeScratch (s : State) (e : RingEntry) (im : Image) (v : VariantE) (binding : List Nat) : State :=
  let s1 := overNats (List.range 1024) (fun k s => dramWrite s (e.scratch + 64 * k) (bootRecord e im v binding k) false) s
  let s2 := overNats (diesOf { s with job := s.job.map (fun j => { j with binding := binding }) } (List.range binding.length))
    (fun n s' => dramWrite s' (e.scratch + 0x10000 + 0x2000 * n) (freeBytes s.freeCtr (0x10000 + 0x2000 * n) 0x2000) false) s1
  let total := ((List.range im.vtiles.length).map (partCount im)).sum
  bumpFree (dramWrite s2 (e.scratch + 0x30000) (freeBytes s.freeCtr 0x30000 (64 * total)) false)

/-! The end of a job. -/

/-- TABLE_CLEAR for every generation of unarmed shadow that the engine claims (R128). -/
def releaseShadow (s : State) (hd : Nat) : State :=
  let gens := ((List.range 8).filterMap (fun b =>
    if (shadowOf s b).owner.toNat = siteHD hd ∧ (shadowOf s b).state ≠ .armed then some (shadowOf s b).gen else none)).eraseDups
  gens.foldl (fun s g => ctrlSendFrom s (siteHD hd) 0x7F 0x32 g.toNat) (dropTables s hd)

/-- The job becomes ENDED (R215, R216, R223, R290). -/
def endJob (s : State) (status detail : Nat) : State :=
  match s.job with
  | none => s
  | some j =>
    let s := releaseShadow s j.owner
    let s := { s with job := none, flowKinds := [] }
    let s := endEntry s j.ring status detail j.restarts j.entry.tag (if j.status.isSome then j.decided else s.now)
    let v := ringAt s j.ring
    match v.reach with
    | some a => abortQueued 4096 (setRing s j.ring { v with reach := none }) j.ring a
    | none => s

/-- No request of the job is outstanding, locally or on the fabric (R222, R223). -/
def requestsEnded (s : State) : Bool :=
  (List.range 16).all (fun n => fencedSite s (siteCD n) || (dieAt s n).reqs.isEmpty) && s.fab.units.all (fun u => fencedSite s (siteCD u.cd)) &&
  !s.fab.ops.any (fun o => match o.owner with | .unit _ => true | .sync _ => false)

/-- Every transfer of the job's tiles has ended too (R222). -/
def transfersEnded (s : State) (j : Job) : Bool :=
  j.binding.all (fun k => tileOut s k || (tileAt s k).flows.all (fun f => f.2.open_.isEmpty))

/-- The job's status is decided and it neither drains nor restarts: it ends once every request of it has ended (R215, R223). -/
def finishJob (s : State) (status detail : Nat) : State :=
  match s.job with
  | none => s
  | some j =>
    let s := setJob s { j with status := some (status, detail), decided := s.now, stop := none, loading := none }
    if requestsEnded s then endJob s status detail else s

/-! Starting (R218, R221 Table 14). -/

/-- TABLE_SWAP, when the set is in the shadow, and JOB_START are sent for T (R215, R221). -/
def goStart (s : State) (swap : Bool) (gen : BitVec 8) : State :=
  match s.job with
  | none => s
  | some j =>
    let t := boundaryAfter s 2048
    let me := siteHD j.owner
    let s := if swap then ctrlSendFrom s me 0x7F 0x31 gen.toNat [t] else s
    let s := ctrlSendFrom s me 0x7F 0x60 (j.variant.getD 0 + gen.toNat * 256 + j.restarts % 65536 * 65536)
      [t, BitVec.ofNat 64 j.entry.scratch]
    setJob s { j with phase := .starting, gen := gen, bootT := t, booted := [], exits := [], loading := none, status := none, stop := none }

/-- A start or a restart enters LOADING: regions resolved, a variant selected, the scratch area written, the table
set loaded unless it is held (R219, R221). -/
def startLoading (s : State) : State :=
  match s.job with
  | none => s
  | some j =>
    match j.image with
    | none => s
    | some im =>
      let j := { j with phase := .loading, bootSent := false, resolved := resolveRegions s j.entry im, stop := none, status := none }
      match selectVariant s j.entry im with
      | none => finishJob (setJob s j) 4 (lostDies s + lostSets s * 65536)
      | some (v, binding, head, es) =>
        let j := { j with variant := some v.variant, binding := binding, tableBuf := (head, es) }
        let s := writeScratch (setJob s j) j.entry im v binding
        match heldActive s head es with
        | some g => goStart s false g
        | none =>
          match heldShadow s j.owner head es with
          | some g => goStart s true g
          | none =>
            let g := nextGen s j.loadGen
            setJob (queueTables s j.owner (List.range 8) g.toNat head es)
              { j with loadGen := g, verdicts := [], loading := some v.variant, busy := [] }

/-- Every compute die that is not lost is On. -/
def computeOn (s : State) : Bool :=
  (List.range 16).all (fun n => fencedSite s (siteCD n) || fencedSite s (siteKD n) || domAt s (domCD n) == .on)

/-- The module with every switched domain On that no regulator fault keeps off. -/
def allOn (s : State) : State := overNats (List.range 92) (fun d s => if domAt s d = .faulted then s else setDom s d .on) s

/-- The compute dies of the variant that an entry's image is to select are On (R327); an image that selects none waits for no die. -/
def diesReady (s : State) (e : RingEntry) : Bool :=
  computeOn s || match checkImage s e with
    | .inl _ => true
    | .inr im => match selectVariant (allOn s) e im with
      | none => true
      | some (_, binding, _, _) => binding.all (fun k => domAt s (domCD (k / 64)) == .on)

/-- A job may be taken: no job beyond QUEUED, the module ready, the life cycle allows it, no shedding level 2 (R214, R326, R425). -/
def mayTake (s : State) : Bool :=
  s.job.isNone && decide (s.pow.level < 2) && s.mt.stepD.isNone && decide (s.startup.grinder ≠ 1) && decide (dval s Obj.moduleState = 1) && decide (dval s Obj.lcState = 1 ∨ dval s Obj.lcState = 2)

/-- The next ring with an entry, in ring order after the last one taken from (R214). -/
def nextRing (s : State) : Option Nat :=
  ((List.range 16).map (fun i => (s.lastRing + 1 + i) % 16)).find? (fun r =>
    let v := ringAt s r
    decide (v.entries > 0 ∧ v.head < v.tail) && hostDieUp s (ringServer s r))

/-- A job engine takes the next entry and starts checking it (R214, R215). -/
def doJobTake (s : State) : State :=
  if !mayTake s then s
  else match nextRing s with
    | none => s
    | some r =>
      let v := ringAt s r
      let e := ringEntry (dramBytes s (v.base + 64 * (v.head % v.entries)) 64)
      if !diesReady s e then s else
      { setRing s r { v with head := v.head + 1 } with
        lastRing := r,
        job := some { phase := .checking, ring := r, entryNo := v.head, owner := ringServer s r, entry := e, takenAt := s.ticks } }

def execJobTake (s : State) : Host.Outcome State Fault Refusal := .next (doJobTake s)

/-- The image has been read and checked (R212). -/
def doImageChecked (s : State) : State :=
  match s.job with
  | none => s
  | some j =>
    if j.phase ≠ .checking then s
    else match checkImage s j.entry with
      | .inl c => endJob s 3 c
      | .inr im => startLoading (setJob s { j with image := some im })

def execImageChecked (s : State) : Host.Outcome State Fault Refusal := .next (doImageChecked s)

/-- Is the verdict one the engine waits for? -/
def loadOf (s : State) (hd gen : Nat) : Option Job :=
  s.job.bind (fun j => if j.owner = hd ∧ j.loading.isSome ∧ j.loadGen.toNat = gen then some j else none)

/-- A base tile's verdict at the owner engine (R125, R126, R215): busy sends the set to it again; the acceptance of
every base tile whose ports R128 has not failed starts the job (DEDUCED, log 107: with all in service, the eighth); a rejection ends it with TABLE, or abandons a standby load. Busy: the set goes to that tile again from the table buffer, its PART
0 slot until the tile takes it. -/
def doVerdict (s : State) (hd bt gen result : Nat) (cause : Word) : State :=
  match loadOf s hd gen with
  | none => s
  | some j =>
    match j.loading with
    | none => s
    | some _ =>
      if result = 3 then
        queueTables (setJob s { j with busy := addPos j.busy bt }) hd [bt] gen j.tableBuf.1 j.tableBuf.2
      else if result = 1 then
        if j.phase = .loading then finishJob s 5 (cause.toNat % 2 ^ 32)
        else releaseShadow (setJob s { j with loading := none }) hd
      else if result = 0 then
        let j := { j with verdicts := tput j.verdicts bt 0 }
        let s := setJob s j
        if (soundTiles s).all (fun b => (tfind j.verdicts b).isSome) then
          if j.phase = .loading then goStart s true j.loadGen else setJob s { j with loading := none }
        else s
      else s

def execTableVerdict (hd : Fin 2) (bt : Fin 8) (seq : BitVec 32) (gen result : BitVec 8) (cause : Word) (s : State) :
    Host.Outcome State Fault Refusal :=
  .next (doVerdict (sigArrive s (ctrlPacket bt.val (siteHD hd.val) 0x30 seq (gen.toNat + result.toNat * 256) [cause]))
    hd.val bt.val gen.toNat result.toNat cause)

/-- The memory-side kind of a flow (R174, R201 Table 2). -/
def memKind (f : FlowDesc) : FlowKind :=
  match f.kind with
  | 6 => .reduce (BitVec.ofNat 8 f.op) (BitVec.ofNat 8 f.fmt)
  | 7 => .atomic (BitVec.ofNat 16 f.returnFlow)
  | _ => .copy

/-- A tile at a job start (R50, R88, R206). DESIGN CHOICE (log 104): descriptors started and not retired are dropped with their writes, DMA
copies outstanding stay and count in the new job's DMA_DONE, and the instruction cache is empty. -/
def tileAtStart (t : Tile) : Tile :=
  { t with
    core := { t.core with running := false }, icache := []
    mq := { t.mq with tail := 0, head := 0, done := 0, halted := false, aborted := false, error := 0, tag := 0, intSat := false, overflow := false, nanOut := false, specialIn := false, enable := false, accs := [], started := [], aborting := false, haltPending := none, published := [] }
    dma := { t.dma with done := 0 }
    flows := [], flowSel := 0, syncSel := 0, flagSel := 0, arrivals := [], epochs := [], fabArr := [], fabBsel := 0, fabFsel := 0
    combCounts := [], combFlows := [], combIn := [], halted := false, bootGot := 0, bootWant := 1, bootBad := false }

/-- Dies that carry virtual tiles of a binding. -/
def boundDies (binding : List Nat) : List Nat := (List.range 16).filter (fun n => binding.any (fun k => k / 64 == n))

/-- A die at a job start: its share of barriers and flags, and nothing to send of an earlier job but the data of stores it still owes;
no request it has outstanding serves a tile any more. -/
def dieAtStart (j : Job) (im : Image) (n : Nat) (d : ComputeDie) : ComputeDie :=
  { d with
    arrived := [], sent := [], dieRec := none, unitMeta := []
    reqs := (d.reqs.filter (fun r => !answered r)).map (fun r => { r with for_ := .nobody })
    txq := d.txq.map (fun e => (e.1, e.2.filter (·.req)))
    txMeta := d.txMeta.map (fun e => (e.1, e.2.map (fun x => if x.req then x else { x with dstSite := noSite })))
    homeFlag := im.flags.foldl (fun t f => tset (fun _ => 0) t f.flag f.initial) []
    flagCopy := im.flags.foldl (fun t f => if f.subs.any (fun v => j.binding.getD v 0 / 64 == n)
      then tset (fun _ => 0) t f.flag f.initial else t) [] }

/-- A die of the variant boots (R213): it loads its die record, and each of its tiles its boot record into line 16,383. -/
def bootDie (j : Job) (s : State) (n : Nat) : State :=
  let s := bootLoad s .dieRecord n 0 (j.entry.scratch + 0x10000 + 0x2000 * n) 128
  overNats ((List.range 64).filter (fun t => !tileOut s (64 * n + t)))
    (fun t s => bootLoad s (.boot 16383) n t (j.entry.scratch + 64 * (64 * n + t)) 1) s

/-- The boot boundary T of a job start (R213, R218): the dies hold the job's flows, flags and codes, every tile its reset values (R50).
DESIGN CHOICE (log 104): the inflaters drop what they hold of an earlier job. The boot's loads go out over BOOT_FLOW. -/
def applyJobStart (s : State) : State :=
  match s.job with
  | none => s
  | some j =>
    match j.image with
    | none => s
    | some im =>
      if j.phase ≠ .starting ∨ s.now < j.bootT then s
      else
        let s := { s with infl := [], codes := im.codes, flowKinds := im.flows.foldl (fun t f => tput t f.flow (memKind f)) [] }
        let s := dset s Obj.jobStarted j.bootT.toNat
        let s := (s.tiles.map (·.1)).foldl (fun s k => if tileOut s k then s else updTile s k tileAtStart) s
        let s := overNats (List.range 16) (fun n s => setDie s n (dieAtStart j im n (dieAt s n))) s
        (boundDies j.binding).foldl (bootDie j) (setJob s { j with bootSent := true })

/-- JOB_START reaches the dies: the boot begins at T (R218). -/
def execJobStart (hd : Fin 2) (seq : BitVec 32) (variant gen : BitVec 8) (restarts : BitVec 16) (t scratch : Word) (s : State) :
    Host.Outcome State Fault Refusal :=
  .next (
    let s := sigArrive s (ctrlPacket (siteHD hd.val) 0x7F 0x60 seq (variant.toNat + gen.toNat * 256 + restarts.toNat * 65536) [t, scratch])
    if t ≤ s.now then applyJobStart s else schedule s t .jobStart)

/-! Stops (R220). -/

/-- Sites that answer a stop: compute and fabric dies that are on and not fenced (R218, R220). -/
def stopSites (s : State) : List Nat :=
  (List.range 16).filterMap (fun n => if domAt s (domCD n) == .on && !fencedSite s (siteCD n) then some (siteCD n) else none) ++
  (List.range 8).filterMap (fun n => if domAt s (domFD n) == .on && !fencedSite s (siteFD n) then some (siteFD n) else none)

/-- Detail of LOST and RESTART_LIMIT (R216). -/
def lossDetail (st : Stop) : Nat := st.lossKind + st.lossUnit * 16

/-- A range lies wholly or partly in a set. -/
def inSet (s : State) (n a len : Nat) : Bool :=
  match setBaseOf s n with
  | none => false
  | some b => decide (0 < len ∧ a < b + setSize ∧ b < a + len)

/-- A local region of the job, its argument block among them, or another area of its ring entry lies in a set (R196, R220). -/
def jobInSet (s : State) (j : Job) (n : Nat) : Bool :=
  j.resolved.any (fun r => !r.remote && inSet s n r.base r.size) || inSet s n j.entry.scratch j.entry.scratchBytes ||
  inSet s n j.entry.image ((j.image.map (·.size)).getD 0)

/-- What the job needs of module DRAM lies in a lost set (R220). -/
def regionLost (s : State) (j : Job) : Bool := (List.range 4).any (fun n => bitAt (lostSets s) n && jobInSet s j n)

/-- Every die has answered, or the wait is over (R220): a decided end drains or ends once the requests have ended; a
loss ends the job or restarts it. -/
def stopDone (s : State) : State :=
  match s.job with
  | none => s
  | some j =>
    match j.stop with
    | none => s
    | some st =>
      match st.ending with
      | some (status, detail, drain) =>
        let s := setJob s { j with status := some (status, detail), decided := st.decided, phase := if drain then .draining else .stopping, stop := none }
        if !drain && requestsEnded s then endJob s status detail else s
      | none =>
        if j.restarts ≥ j.entry.restartLimit then finishJob s 0x0B (lossDetail st)
        else if regionLost s j then finishJob s 7 (lossDetail st)
        else startLoading (bump (setJob s { j with restarts := j.restarts + 1 }) Obj.jobRestartsTotal)

/-- Has the job started its tiles? -/
def tilesStarted (j : Job) : Bool := j.bootSent || j.phase == .running || j.phase == .draining

/-- May an end take the place of the one a running stop leads to? ABORTED does, of any (R290); an abort, a supply end, a double fault, a run limit and the loss of the
engine's die do, of any that is not such an end; another end takes the place of a loss alone (R215, log 43). -/
def endReplaces (new old : Option (Nat × Nat × Bool)) : Bool :=
  match new, old with
  | none, _ => false
  | some _, none => true
  | some (status, _, drain), some (_, _, drained) => (!drain && drained) || status == 2

/-- The owner engine begins a stop (R215, R220): JOB_STOP to all, or at once where no tile has started; a table load under way is
abandoned (R128). While a stop runs, or a job that is not to drain waits for its requests, an end may only take another's place. -/
def beginStop (s : State) (reason : Nat) (ending : Option (Nat × Nat × Bool)) (lossKind lossUnit : Nat) : State :=
  match s.job with
  | none => s
  | some j =>
    let st : Stop := { reason := reason, ending := ending, lossKind := lossKind, lossUnit := lossUnit, awaiting := stopSites s, at_ := s.ticks, decided := s.now }
    let forced := match ending with | some (_, _, false) => true | _ => false
    match j.phase, j.stop, j.status with
    | .stopping, some old, _ =>
      if endReplaces ending old.ending then setJob s { j with stop := some { old with ending := ending, decided := s.now } } else s
    | .draining, _, _ => if forced then ctrlSendFrom (setJob s { j with phase := .stopping, stop := some st }) (siteHD j.owner) 0x7F 0x61 reason else s
    | _, none, some (old, _) =>
      match ending with
      | some (status, detail, false) =>
        if status = 2 ∨ [4, 5, 7, 0x0B].contains old then setJob s { j with status := some (status, detail), decided := s.now } else s
      | _ => s
    | _, _, _ =>
      let s := if j.loading.isSome then releaseShadow s j.owner else dropTables s j.owner
      let started := tilesStarted j
      let s := setJob s { j with phase := .stopping, stop := some st, loading := none }
      if started then ctrlSendFrom s (siteHD j.owner) 0x7F 0x61 reason else stopDone s

/-- An end that takes effect in every state from CHECKING on (R215). -/
def endAny (s : State) (reason status detail : Nat) : State := beginStop s reason (some (status, detail, false)) 0 0

/-- A loss that affects the job (R220, R221): from the selection until RUNNING, and in RUNNING. -/
def jobLoss (s : State) (kind unit : Nat) : State :=
  match s.job with
  | none => s
  | some j =>
    match j.phase with
    | .checking => s
    | .draining => s
    | .stopping => s
    | _ => if j.status.isSome then s else beginStop s 0 none kind unit

/-- Does the set the job runs on light a port: the one it has selected until it runs, then the active one (R220, R221)? -/
def lightsPort (s : State) (p : Nat) : Bool :=
  let active := (List.range 8).any (fun b => match (btAt s b).active with | some t => setLights t.entries p | none => false)
  match s.job with
  | none => active
  | some j => if j.phase = .loading ∨ j.phase = .starting then setLights j.tableBuf.2 p else active

/-- A fence takes a unit the running variant binds (R220): a compute or cache die, a tile, or a fabric die it names. -/
def fenceHits (s : State) (site : Nat) (tile : Option Nat) : Option (Nat × Nat) :=
  match s.job with
  | none => none
  | some j =>
    let die := match siteKind site with | some (.cd, n) => some n | some (.kd, n) => some n | _ => none
    match die, tile with
    | some n, some t => if j.binding.contains (64 * n + t) then some (1, site) else none
    | some n, none => if j.binding.any (fun k => k / 64 == n) then some (1, site) else none
    | none, _ => match siteKind site with
      | some (.fd, n) => if (match runVariant s with | some v => (List.range 16).any (fun c => v.fabric.getD c 15 == n && j.binding.any (fun k => k / 64 == c)) | none => false)
          then some (1, site) else none
      | _ => none

/-- Does a lost set affect the job (R220)? -/
def setHits (s : State) (n : Nat) : Bool :=
  match s.job with
  | none => false
  | some j =>
    let masked := match runVariant s with | some v => bitAt v.setMask n | none => true
    jobInSet s j n || !masked

/-- SET_LOST reaches every die: named for T, at once when T has passed; the job engine judges the loss (R196, R220). -/
def execSetLost (src : BitVec 7) (seq : BitVec 32) (set : Fin 4) (stack : Fin 24) (t : Word) (s : State) :
    Host.Outcome State Fault Refusal :=
  .next (
    let s := sigArrive s (ctrlPacket src.toNat 0x7F 0x40 seq (set.val + stack.val * 256) [t])
    let r := ctrlTakeAll s src seq
    if r.1 then
      let s := if t ≤ r.2.now then applySetLost r.2 set.val else schedule r.2 t (.setLost set.val stack.val)
      if setHits s set.val then jobLoss s 2 set.val else s
    else r.2)

/-- PORT_FAILED reaches every die (R133): handled at Tf; the job engine judges the loss (R220). -/
def execPortFailed (src : BitVec 7) (seq : BitVec 32) (p : Fin 366) (t : Word) (s : State) : Host.Outcome State Fault Refusal :=
  .next (
    let s := sigArrive s (ctrlPacket src.toNat 0x7F 0x34 seq p.val [t])
    let r := ctrlTakeAll s src seq
    if r.1 then
      let s := schedule (bump r.2 Obj.portsFailed) t (.portFailed p.val)
      if lightsPort s p.val then jobLoss s 3 p.val else s
    else r.2)

/-! Booting and running (R213, R215, R217). -/

/-- All virtual tiles have exited with 0, or one with another code (R217). -/
def judgeExits (s : State) : State :=
  match s.job with
  | none => s
  | some j =>
    if j.phase ≠ .running then s
    else match j.exits.find? (fun e => e.2 ≠ 0) with
      | some e => beginStop s 1 (some (1, e.2 + e.1 * 65536, true)) 0 0
      | none =>
        if (List.range j.binding.length).all (fun v => (tfind j.exits v).isSome)
        then setJob s { j with phase := .draining, status := some (0, 0), decided := s.now } else s

/-- A tile has booted (R213): its die record, boot record, program and part table are loaded; JOB_INFO is set and the core starts at
address 0. A poison-marked line ends the job with POISON. -/
def doTileBoot (s : State) (k : Nat) : State :=
  match s.job, vtileOf s k with
  | some j, none =>
    -- a tile the variant does not use loads its boot record only
    let t := tileAt s k
    if j.phase ≠ .starting ∨ !j.bootSent ∨ !(boundDies j.binding).contains (k / 64) ∨ j.booted.contains k then s
    else if t.bootBad then bumpFree (beginStop s 1 (some (6, (Config.freeWord s.freeCtr k).toNat % 65536, true)) 0 0)
    else s
  | some j, some v =>
    let t := tileAt s k
    let n := bootLines t
    let rec_ := (dieAt s (k / 64)).dieRec
    if j.phase ≠ .starting ∨ !j.bootSent ∨ j.booted.contains k then s
    else if t.bootBad ∨ rec_ = some true then beginStop s 1 (some (6, v, true)) 0 0
    else if rec_.isNone ∨ t.bootGot < 1 + n.1 + n.2 then s
    else
      let s := updTile s k (fun t => { t with
        jobInfo := BitVec.ofNat 64 (v + j.variant.getD 0 * 65536 + j.restarts % 65536 * 2 ^ 32),
        core := { t.core with running := true, pc := 0 } })
      setJob s { j with booted := j.booted ++ [k] }
  | _, _ => s

def execTileBoot (cd : Fin 16) (t : Fin 64) (s : State) : Host.Outcome State Fault Refusal :=
  .next (if tileLive s (tkey cd t) then doTileBoot s (tkey cd t) else s)

/-- Every bound core has started: RUNNING; the STANDBY set is loaded into the shadow (R215, Table 14 step 6). -/
def doJobRunning (s : State) : State :=
  match s.job with
  | none => s
  | some j =>
    if j.phase ≠ .starting ∨ !j.binding.all (fun k => j.booted.contains k) then s
    else
      let s := setJob s { j with phase := .running }
      let s := match runVariant s with
        | some v =>
          match j.image.bind (fun im => im.variants.find? (fun e => e.variant == v.standby)) with
          | some st =>
            let set := variantSet s j.entry st
            let g := nextGen s j.loadGen
            if (heldShadow s j.owner set.1 set.2).isSome then s
            else setJob (queueTables s j.owner (List.range 8) g.toNat set.1 set.2)
              { j with phase := .running, loadGen := g, verdicts := [], loading := some st.variant, tableBuf := set, busy := [] }
          | none => s
        | none => s
      judgeExits s

def execJobRunning (s : State) : Host.Outcome State Fault Refusal := .next (doJobRunning s)

/-- A virtual tile's write to JOB_EXIT (R217): the first is its exit, and any non-zero code counts. -/
def doJobExit (s : State) (k code : Nat) : State :=
  match s.job, vtileOf s k with
  | some j, some v =>
    if (j.phase = .starting ∨ j.phase = .running) ∧ ((tfind j.exits v).isNone ∨ code ≠ 0 ∧ tfind j.exits v = some 0) then
      judgeExits (setJob s { j with exits := tput j.exits v code })
    else s
  | _, _ => s

def execJobExit (cd : Fin 16) (t : Fin 64) (v : Word) (s : State) : Host.Outcome State Fault Refusal :=
  .next (if tileLive s (tkey cd t) then doJobExit s (tkey cd t) (v.toNat % 65536) else s)

/-- What of a request a stopping die has not sent is not sent: the transfer goes on without those answers and counts as short of data, a
load's missing lines end by R132 (R220). -/
def stopReq (cd : Nat) (s : State) (r : DieReq) : State :=
  if r.unsent.isEmpty then s
  else
    let r' := { r with unsent := [], worst := worseStatus r.worst 1 }
    let d := dieAt s cd
    let s := setDie s cd { d with reqs := d.reqs.map (fun x => if x.tag = r.tag then r' else x) }
    if r'.waiting.isEmpty && !r.load then finishReq s cd r' else s

/-- A remote unit still queued at its compute die is not sent. -/
def unqueueUnit (s : State) (u : RemoteUnit) : State :=
  let l := pathKey (siteCD u.cd) (siteFD u.fd)
  let v := linkAt s l
  if u.stage = 0 ∧ v.queue.contains (remoteHead u) then setLink s l { v with queue := v.queue.erase (remoteHead u) } else s

/-- Remote units that are no operation of their fabric die yet end refused (R220). -/
def stopUnits (s : State) (mine : RemoteUnit → Bool) : State :=
  let stop := fun (u : RemoteUnit) => mine u && decide (u.stage < 2)
  (s.fab.units.filter stop).foldl (fun s u => (unitEnded (unqueueUnit s u) u 2).2)
    { s with fab := { s.fab with units := s.fab.units.filter (fun u => !stop u) } }

/-- A die acts on JOB_STOP (R220): its bound cores halt, their queues abort, it issues no further request, and
JOB_STOPPED goes to the owner engine. -/
def stopDie (s : State) (owner site : Nat) : State :=
  let s := match siteKind site, s.job with
    | some (.cd, n), some j =>
      let s := (j.binding.filter (fun k => k / 64 == n && !tileOut s k)).foldl (fun s k =>
        updTile s k (fun t => let t := { t with halted := true, core := { t.core with running := false } }
                              { t with mq := { t.mq with aborting := true } })) s
      stopUnits ((dieAt s n).reqs.foldl (stopReq n) s) (fun u => u.cd == n)
    | some (.fd, n), some _ => stopUnits s (fun u => u.fd == n)
    | _, _ => s
  ctrlSendFrom s site owner 0x62 site

/-- JOB_STOP at every compute and fabric die (R218, R220). -/
def execJobStop (hd : Fin 2) (seq : BitVec 32) (reason : BitVec 8) (s : State) : Host.Outcome State Fault Refusal :=
  .next (
    let s := sigArrive s (ctrlPacket (siteHD hd.val) 0x7F 0x61 seq reason.toNat [])
    (stopSites s).foldl (fun s site => stopDie s (siteHD hd.val) site) s)

/-- JOB_STOPPED at the owner engine (R220). -/
def doJobStopped (s : State) (hd site : Nat) : State :=
  match s.job with
  | none => s
  | some j =>
    match j.stop with
    | none => s
    | some st =>
      if j.owner ≠ hd then s
      else
        let st := { st with awaiting := st.awaiting.filter (fun x => x != site && !fencedSite s x) }
        let s := setJob s { j with stop := some st }
        if st.awaiting.isEmpty then stopDone s else s

def execJobStopped (hd : Fin 2) (seq : BitVec 32) (site : Fin 100) (s : State) : Host.Outcome State Fault Refusal :=
  .next (doJobStopped (sigArrive s (ctrlPacket site.val (siteHD hd.val) 0x62 seq site.val [])) hd.val site.val)

/-- 25 microseconds after JOB_STOP the engine goes on as though every die had answered (R220). -/
def execJobStopTimeout (s : State) : Host.Outcome State Fault Refusal :=
  .next (match s.job.bind (·.stop) with
    | some st => if s.ticks ≥ st.at_ + 25000 then stopDone s else s
    | none => s)

/-- A job leaves DRAINING when everything R222 names has ended; an end without draining waits for its requests (R223). -/
def doJobDrained (s : State) : State :=
  match s.job with
  | none => s
  | some j =>
    match j.status with
    | none => s
    | some (status, detail) =>
      if j.phase = .draining then (if requestsEnded s && transfersEnded s j then endJob s status detail else s)
      else if j.stop.isNone then (if requestsEnded s then endJob s status detail else s)
      else s

def execJobDrained (s : State) : Host.Outcome State Fault Refusal := .next (doJobDrained s)

/-- The job passed its ring entry's run limit (R216, R288: microseconds from leaving QUEUED). -/
def execRunLimitExpiry (s : State) : Host.Outcome State Fault Refusal :=
  .next (match s.job with
    | some j => if j.entry.runLimit ≠ 0 ∧ s.ticks ≥ j.takenAt + 1000 * j.entry.runLimit then endAny s 5 0x0A 0 else s
    | none => s)

/-! Doorbells (R289, R290). -/

/-- A doorbell write of TAIL: answered whether it is accepted. -/
def doTail (s : State) (r v : Nat) : State :=
  let g := ringAt s r
  if g.tail ≤ v ∧ v ≤ g.head + g.entries then setRing s r { g with tail := v } else bump s Obj.hostDoorbellRefused

def execTail (r : Fin 16) (v : Word) (s : State) : Host.Outcome State Fault Refusal := .next (doTail s r.val v.toNat)

/-- A doorbell write of ABORT (R290): entries below A end with ABORTED in entry order; a job beyond QUEUED is stopped
first, and HEAD reaches A when it ends. -/
def doAbort (s : State) (r a : Nat) : State :=
  let g := ringAt s r
  if g.head < a ∧ a ≤ g.tail then
    let s := setRing s r { g with abort := a }
    match s.job with
    | some j =>
      if j.ring = r ∧ j.entryNo < a then endAny (setRing s r { ringAt s r with reach := some (max a (g.reach.getD 0)) }) 2 2 0
      else abortQueued 4096 s r a
    | none => abortQueued 4096 s r a
  else bump s Obj.hostDoorbellRefused

def execAbort (r : Fin 16) (a : Word) (s : State) : Host.Outcome State Fault Refusal := .next (doAbort s r.val a.toNat)

end Sys2Proof.Machine
end

