-- ==== Sys2Proof/Machine/HostPorts.lean ====
section
/-! DEFINITION. The host ports: RoCEv2 as responder and requester, memory windows, doorbells, addresses and links
(R276 to R286, R289). -/
namespace Sys2Proof.Machine

/-! Frames (R278). -/

/-- A frame the MAC accepts (R278): up to 9,216 B, a good check sequence, and the tag that HOST_VLAN sets, or none. -/
def frameOk (s : State) (f : HostFrame) : Bool := decide (f.bytes ≤ 9216) && f.fcsOk && f.vlan.map (·.val) == hostTag s f.port.val

/-- A port sends a frame of its flow-controlled priority: a port that is down sends nothing (R279), a pause holds it (R278). -/
def portSend (s : State) (port : Nat) (o : HostOut) : State :=
  let p := hostPortAt s port
  if p.link ≠ 2 then s
  else if p.pausedTx then setHostPort s port { p with heldTx := p.heldTx ++ [o] }
  else emit s (.host port o)

/-! Answers. -/

/-- A queue pair answers its peer. -/
def answer (s : State) (q : Nat) (kind : RoceKind) (psn : BitVec 24) (data : List Byte) : State :=
  if peerReached s q then portSend s (qpAt s q).port (roceFrame s q kind psn data) else s

/-- A refusal: the NAK is sent, and the module's queue pair enters its error state (R284). -/
def nak (s : State) (q : Nat) (kind : RoceKind) (psn : BitVec 24) : State := qpFail (answer s q kind psn []) q 0

/-- An outcome of Table 6: counted and reported (R284). -/
def nakCounted (s : State) (q : Nat) (kind : RoceKind) (psn : BitVec 24) : State :=
  let s := hostError (bump s Obj.hostNaksSent) (qpAt s q).port q 0
  nak s q kind psn

/-- A port serves RoCEv2: its die in service, its link up, the module not retired (R279, R425). -/
def portServes (s : State) (port : Nat) : Bool :=
  hostDieUp s port && decide ((hostPortAt s port).link = 2) && decide (dval s Obj.lcState ≠ 4)

/-- A queue pair takes a frame from a port (R276, R278, R281). -/
def qpReady (s : State) (f : HostFrame) (q : Nat) : Bool :=
  frameOk s f && portServes s f.port.val && decide ((qpAt s q).state = 1) && decide ((qpAt s q).port = f.port.val)

/-- A CE-marked packet is answered with a CNP (R280 Table 3). -/
def congest (s : State) (q : Nat) (ce : Bool) : State :=
  if ce then answer (bump s Obj.hostCnpsSent) q .cnp 0 [] else s

/-- Place of a PSN against the expected one: expected, ahead, or a duplicate. -/
def psnPlace (v : QpSt) (psn : BitVec 24) : Ordering :=
  if psn = v.ePsn then .eq else if (psn - v.ePsn).toNat < 2 ^ 23 then .gt else .lt

/-- Bytes of a packet (R280 Table 4). -/
def mtuBytes (v : QpSt) : Nat := if v.mtu = 3 then 1024 else if v.mtu = 4 then 2048 else 4096

/-! Windows (R283). -/

/-- The entry a request is checked against: within 10 microseconds of a write, the old or the new one. -/
def winSeen (s : State) (w : Nat) : WinE :=
  let v := tget (fun _ => {}) s.host.wins w
  match v.at_ with
  | some t => if s.ticks < t + 10000 ∧ Config.freeBool s.freeCtr (0x50000000 + w) then v.prev else v.cur
  | none => v.cur

/-- Does an rkey name a window that is on? -/
def winOf (s : State) (rkey : BitVec 32) : Option (Nat × WinE) :=
  let w := rkey.toNat % 256
  let e := winSeen s w
  if e.on ∧ e.key.toNat / 256 = rkey.toNat / 256 then some (w, e) else none

/-- A range in a window with a permission bit: read 0, write 1, atomic 2. -/
def winCovers (e : WinE) (va len bit : Nat) : Bool := decide (e.base ≤ va ∧ va + len ≤ e.base + e.size) && e.perm.getLsbD bit

/-- A window entry from its 32 bytes, when Table 5 allows it; BASE, SIZE and PERM of window 0 are ignored. -/
def windowOf (s : State) (w : Nat) (bs : List Byte) : Option WinE :=
  let base := leAt bs 0 8
  let size := leAt bs 8 8
  let on := leAt bs 17 1 == 1
  let ranged := decide (base < 2 ^ 44) && decide (leAt bs 16 1 < 8) &&
    (!on || (base % 4096 == 0 && size % 4096 == 0 && decide (4096 ≤ size) && inMapped s base size))
  let ok := bs.length == 32 && decide (leAt bs 17 1 ≤ 1) && leAt bs 18 2 == 0 && leAt bs 20 1 == 0 && leAt bs 24 8 == 0 && (w == 0 || ranged)
  if ok then some { base := base, size := size, perm := BitVec.ofNat 8 (leAt bs 16 1), on := on, key := BitVec.ofNat 32 (leAt bs 20 4) } else none

/-- WINDOW: a write of a window entry is refused, or takes effect within 10 microseconds. -/
def doWindow (s : State) (w : Nat) (bs : List Byte) : Bool × State :=
  match windowOf s w bs with
  | none => (false, s)
  | some e =>
    let old := tget (fun _ => {}) s.host.wins w
    (true, { s with host := { s.host with wins := tset (fun _ => {}) s.host.wins w { cur := e, prev := old.cur, at_ := some s.ticks } } })

def execWindow (w : Fin 256) (bs : List Byte) (s : State) : Host.Outcome State Fault Refusal := .next (doWindow s w.val bs).2

/-! Queue pairs (R281 Table 4). -/

def qpEntryOk (bs : List Byte) : Bool :=
  bs.length == 64 && decide (leAt bs 1 1 ≤ 1) && decide (3 ≤ leAt bs 2 1 ∧ leAt bs 2 1 ≤ 5) &&
  decide (leAt bs 3 1 ≤ 15 ∨ leAt bs 3 1 = 255) && leAt bs 7 1 == 0 && leAt bs 11 1 == 0 && leAt bs 15 1 == 0 &&
  decide (leAt bs 32 1 ≤ 31 ∧ leAt bs 33 1 ≤ 7 ∧ leAt bs 34 1 ≤ 7) && decide (leNat (slice bs 35 29) = 0)

/-! Doorbells through window 0 (R283, R289 Table 9). -/

/-- A doorbell word read. -/
def doorbellRead (s : State) (va : Nat) : Nat :=
  let g := ringAt s (va / 4096)
  match va % 4096 with
  | 0x000 => g.tail
  | 0x008 => g.head
  | 0x010 => g.abort
  | 0x018 => g.seq
  | _ => 0

/-- A doorbell word written: TAIL and ABORT act, a write to HEAD or SEQ is refused and counted, others are ignored. -/
def doorbellWrite (s : State) (va v : Nat) : State :=
  match va % 4096 with
  | 0x000 => doTail s (va / 4096) v
  | 0x010 => doAbort s (va / 4096) v
  | 0x008 => bump s Obj.hostDoorbellRefused
  | 0x018 => bump s Obj.hostDoorbellRefused
  | _ => s

/-! Units of a request (R22, R120, R282). -/

/-- The units of a range: at most 1,024 B each that do not cross a multiple of it, so that one memory base die holds all of one. -/
def unitPieces : Nat → Nat → Nat → List (Nat × Nat)
  | 0, _, _ => []
  | fuel + 1, a, len =>
    if len = 0 then []
    else
      let n := min len (1024 - a % 1024)
      (a, n) :: unitPieces fuel (a + n) (len - n)

/-- Bytes of a request in hand: all of it, or a READ's next response packet. -/
def reqNow (v : QpSt) (r : HostReq) : Nat := if r.op = .read then min r.len (mtuBytes v) else r.len

def reqPieces (v : QpSt) (r : HostReq) : List (Nat × Nat) := unitPieces 6 r.addr (reqNow v r)

/-- A unit of a request: the piece at place `i`, address `a`, `n` bytes. The queue pair stands in SRC, the request's number in FIRST, the place in
TAG (log 112). -/
def hostUnit (q : Nat) (r : HostReq) (i a n : Nat) : FabPacket :=
  let p := { blankPacket with src := BitVec.ofNat 12 q, tag := BitVec.ofNat 12 i, addr := BitVec.ofNat 56 a }
  let fs := (List.range (cdiv n 64)).map (fun k => ({ data := slice r.data (a - r.addr + 64 * k) (min 64 (n - 64 * k)), poison := false } : Flit))
  match r.op with
  | .read => { p with opc := 1, vc := 1, w4 := BitVec.ofNat 64 (n + r.id * 2 ^ 32) }
  | .atomic => { p with opc := 3, vc := 1, w4 := BitVec.ofNat 64 (r.code + r.id * 2 ^ 32), w5 := BitVec.ofNat 64 a, w6 := r.operand, w7 := r.compare }
  | _ => { p with opc := 2, vc := 1, len := BitVec.ofNat 5 fs.length, w4 := BitVec.ofNat 64 (n + r.id * 2 ^ 32), data := fs }

/-- Change a request of a pair. -/
def updReq (s : State) (q id : Nat) (f : HostReq → HostReq) : State :=
  setQp s q { qpAt s q with reqs := (qpAt s q).reqs.map (fun r => if r.id = id then f r else r) }

/-- The units of a request go to their memory base dies, in HOST slots. -/
def sendUnits (s : State) (q : Nat) (r : HostReq) : State :=
  let v := qpAt s q
  let s := updReq s q r.id (fun r => { r with at_ := some s.ticks, got := [] })
  ((reqPieces v r).zipIdx).foldl (fun s x =>
    match mapAddr s x.1.1 with
    | some (md, _) => hostSend s (siteHD v.port) (siteMD md) (hostUnit q r x.2 x.1.1 x.1.2)
    | none => s) s

/-- A request ends: it leaves the pair. -/
def endReq (s : State) (q id : Nat) : State := setQp s q { qpAt s q with reqs := (qpAt s q).reqs.filter (fun r => r.id != id) }

/-- A SEND's entry to a ring is on its way to DRAM: what else goes to the ring waits for it (R289). -/
def ringHeld (s : State) (ring : Nat) : Bool :=
  s.host.qps.any (fun e => e.2.ring == ring && e.2.reqs.any (fun r => r.op == .entry && r.at_.isSome))

/-- A host die refuses a range that it may not send to a stack: reported (R170). -/
def hostRefuse (s : State) (q a : Nat) : State := raise s (siteHD (qpAt s q).port) 0x0E 0x2C 1 false (lineDetail a)

/-- A request begins: its units leave, a doorbell word is read or written, or its refusal goes out. A range of a lost set is refused (R284 Table 6); a
full ring answers a SEND with an RNR NAK, and what came after it is dropped. -/
def beginReq (s : State) (q : Nat) (r : HostReq) : State :=
  let v := qpAt s q
  let lost := rangeLost s r.addr (reqNow v r) || rangeRefused s r.addr (reqNow v r)
  match r.op with
  | .nak kind counted => if counted then nakCounted s q kind r.psn else nak s q kind r.psn
  | .gap => answer (endReq s q r.id) q .nakSequence r.psn []
  | .bell =>
    let s := endReq s q r.id
    if r.data.isEmpty then answer s q .readResponse r.psn (toLe 8 (doorbellRead s r.addr))
    else answer (doorbellWrite s r.addr (leNat r.data)) q .ack r.psn []
  | .entry =>
    let g := ringAt s v.ring
    let a := g.base + 64 * (g.tail % max g.entries 1)
    if g.tail ≥ g.head + g.entries then
      answer (setQp (hostDrain s v.port (reqBytes v)) q { v with ePsn := r.psn, reqs := [] }) q .rnrNak r.psn []
    else if rangeLost s a 64 || rangeRefused s a 64 then nakCounted (hostRefuse s q a) q .nakAccess r.psn
    else
      let s := updReq s q r.id (fun r => { r with addr := a })
      sendUnits s q { r with addr := a }
  | .read => if lost then nakCounted (hostRefuse s q r.addr) q .nakOperational r.psn else sendUnits s q r
  | _ => if lost then nakCounted (hostRefuse s q r.addr) q .nakAccess r.psn else sendUnits s q r

/-- Every unit of a request has been answered. -/
def reqAnswered (v : QpSt) (r : HostReq) : Bool := r.at_.isSome && decide ((reqPieces v r).length ≤ r.got.length)

/-- Data of a READ's answered units. -/
def answeredBytes (v : QpSt) (r : HostReq) : List Byte :=
  ((reqPieces v r).zipIdx).flatMap (fun x =>
    match r.got.find? (fun e => e.1 == x.2) with
    | some e => slice (e.2.data.flatMap (fun f => slice f.data 0 64)) 0 x.1.2
    | none => List.replicate x.1.2 0)

/-- A request whose units are all answered ends with its acknowledgement or its answer, or with the refusal that Table 6 gives: what it wrote has passed
its order point (R282, R284, R285). -/
def finishHost (s : State) (q : Nat) (r : HostReq) : State :=
  let v := qpAt s q
  let any := fun (st : Nat) => r.got.any (fun e => e.2.status.toNat == st)
  match r.op with
  | .read =>
    if r.got.any (fun e => e.2.status != 0) then nakCounted s q .nakOperational r.psn
    else
      let n := reqNow v r
      let s := answer s q .readResponse r.psn (answeredBytes v r)
      if r.len ≤ mtuBytes v then endReq s q r.id
      else updReq s q r.id (fun r => { r with addr := r.addr + n, len := r.len - n, psn := r.psn + 1, at_ := none, got := [] })
  | .atomic =>
    let old := (r.got.head?.map (fun e => e.2.w5)).getD 0
    if any 1 then nakCounted s q .nakOperational r.psn
    else if r.got.any (fun e => e.2.status != 0) then nakCounted s q .nakAccess r.psn
    else
      let s := endReq s q r.id
      let v := qpAt s q
      answer (setQp s q { v with replay := ((r.psn.toNat, old) :: v.replay).take 16 }) q .atomicAck r.psn (toBe 8 old.toNat)
  | _ =>
    if r.got.any (fun e => e.2.status != 0) then nakCounted s q .nakAccess r.psn
    else
      let s := endReq s q r.id
      let s := if r.op = .entry then setRing s v.ring { ringAt s v.ring with tail := (ringAt s v.ring).tail + 1 } else s
      answer s q .ack r.psn []

/-- The next request of a pair that may begin (R282): a WRITE part after WRITE parts, anything else when all before it has ended; a SEND or a doorbell
access also waits for a SEND to the same ring. -/
def nextReq (s : State) (q : Nat) : Option HostReq :=
  let rs := (qpAt s q).reqs
  let out := rs.takeWhile (fun r => r.at_.isSome)
  match (rs.drop out.length).head? with
  | none => none
  | some r =>
    let held := match r.op with
      | .entry => ringHeld s (qpAt s q).ring
      | .bell => ringHeld s (r.addr / 4096)
      | _ => false
    if (out.isEmpty || (r.op == .write && out.all (fun x => x.op == .write))) && !held then some r else none

/-- A pair's requests go on: those answered end, in order, and those that may begin do. -/
def pumpPair : Nat → State → Nat → State
  | 0, s, _ => s
  | fuel + 1, s, q =>
    let v := qpAt s q
    match v.reqs.head?.filter (reqAnswered v) with
    | some r => pumpPair fuel (finishHost s q r) q
    | none =>
      match nextReq s q with
      | some r => pumpPair fuel (beginReq s q r) q
      | none => s

/-- All pairs go on, the one given first. -/
def pumpPairs (s : State) (q : Nat) : State :=
  let s := pumpPair (2 * (qpAt s q).reqs.length + 2) s q
  s.host.qps.foldl (fun s e => pumpPair (2 * (qpAt s e.1).reqs.length + 2) s e.1) s

/-- A pair takes a request. -/
def takeReq (s : State) (q : Nat) (r : HostReq) : State :=
  let r := { r with id := s.host.nextId % 2 ^ 32 }
  let s := { s with host := { s.host with nextId := s.host.nextId + 1 } }
  pumpPairs (setQp s q { qpAt s q with reqs := (qpAt s q).reqs ++ [r] }) q

/-- An answer of a memory base die reaches its host die: taken by the request it belongs to. -/
def takeHostAnswer (s : State) (p : FabPacket) : State :=
  let q := p.dst.toNat
  let id := fld p.w4.toNat 32 32
  pumpPairs (updReq s q id (fun r => if r.got.any (fun e => e.1 == p.tag.toNat) then r else { r with got := r.got ++ [(p.tag.toNat, p)] })) q

/-- QP: STATE 1 readies a pair in reset, STATE 0 resets it and drops what it holds, anything else is refused. DESIGN CHOICE (log 112): records
that a reset pair was to write are kept as those of a failed one. -/
def doQp (s : State) (q : Nat) (bs : List Byte) : Bool × State :=
  let v := qpAt s q
  let st := leAt bs 0 1
  if bs.length = 64 ∧ st = 0 then (true, pumpPairs (pairRecordsKept (setQp (hostDrain s v.port (reqBytes v)) q { entry := bs }) q) q)
  else if st = 1 ∧ v.state = 0 ∧ qpEntryOk bs then
    (true, setQp s q { entry := bs, state := 1, port := leAt bs 1 1, mtu := leAt bs 2 1, ring := leAt bs 3 1,
                       sPsn := BitVec.ofNat 24 (leAt bs 8 3), ePsn := BitVec.ofNat 24 (leAt bs 12 3), timeout := leAt bs 32 1,
                       retry := leAt bs 33 1, rnrRetry := leAt bs 34 1 })
  else (false, s)

def execQp (q : Fin 4096) (bs : List Byte) (s : State) : Host.Outcome State Fault Refusal := .next (doQp s q.val bs).2

/-! Requests (R282). -/

/-- The next expected PSN. -/
def advance (s : State) (q n : Nat) : State := setQp s q { qpAt s q with ePsn := (qpAt s q).ePsn + BitVec.ofNat 24 n }

/-- PSN up to which a pair has acknowledged. -/
def donePsn (v : QpSt) : BitVec 24 := (match v.reqs with | r :: _ => r.psn | [] => v.ePsn) - 1

/-- A refusal takes its place behind the requests before it. -/
def refuse (s : State) (q : Nat) (kind : RoceKind) (counted : Bool) (psn : BitVec 24) : State :=
  takeReq s q { id := 0, op := .nak kind counted, psn := psn }

/-- A request ahead of the expected PSN: NAK Sequence, once what came before is done. -/
def outOfOrder (s : State) (q : Nat) : State :=
  let v := qpAt s q
  if (v.reqs.getLast?.map (fun r => r.op == .gap)).getD false then s else takeReq s q { id := 0, op := .gap, psn := v.ePsn }

/-- Room for data of a packet in the receive buffer: RoCEv2 on another priority is discarded when it is full (R286). -/
def hostTakes (s : State) (f : HostFrame) (n : Nat) : Bool := decide (f.prio.val = dval s Obj.hostPfcPriority) || hostRoom s f.port.val n

/-- The data of one WRITE packet enters the receive buffer and goes to DRAM; the message goes on or ends. -/
def writePart (s : State) (q : Nat) (p : WritePkt) (va left : Nat) (key : BitVec 32) : State :=
  let n := p.data.length
  let s := hostFill (advance s q 1) (qpAt s q).port n
  let v := qpAt s q
  takeReq (setQp s q { v with msg := if p.last then none else some (va + n, left - n, key) }) q
    { id := 0, op := .write, psn := p.psn, addr := va, len := n, data := p.data }

/-- An RDMA WRITE packet (R280, R282 to R284, R289). -/
def doRdmaWrite (s : State) (f : HostFrame) (q : Nat) (p : WritePkt) : State :=
  let v := qpAt s q
  if !qpReady s f q || !hostTakes s f p.data.length then s
  else match psnPlace v p.psn with
    | .lt => answer s q .ack (donePsn v) []
    | .gt => outOfOrder s q
    | .eq =>
      let n := p.data.length
      let mtu := mtuBytes v
      if p.first then
        match winOf s p.rkey with
        | none => refuse s q .nakAccess true p.psn
        | some (w, e) =>
          if w = 0 then
            if 65536 < p.va.toNat + p.len.toNat then refuse s q .nakAccess true p.psn
            else if p.last ∧ p.len = 8 ∧ n = 8 ∧ p.va.toNat % 8 = 0 then
              takeReq (advance s q 1) q { id := 0, op := .bell, psn := p.psn, addr := p.va.toNat, len := 8, data := p.data }
            else refuse s q .nakInvalid false p.psn
          else if !winCovers e p.va.toNat p.len.toNat 1 then refuse s q .nakAccess true p.psn
          else if p.len.toNat > 2 ^ 31 ∨ (p.last ∧ n ≠ p.len.toNat) ∨ (!p.last ∧ (n ≠ mtu ∨ p.len.toNat ≤ mtu)) ∨ n > mtu then
            refuse s q .nakInvalid false p.psn
          else writePart s q p p.va.toNat p.len.toNat p.rkey
      else
        match v.msg with
        | none => refuse s q .nakInvalid false p.psn
        | some (va, left, key) =>
          if (p.last ∧ n ≠ left) ∨ (!p.last ∧ (n ≠ mtu ∨ left ≤ mtu)) ∨ n > mtu then refuse s q .nakInvalid false p.psn
          else writePart s q p va left key

def execRdmaWrite (f : HostFrame) (q : Fin 4096) (p : WritePkt) (ce : Bool) (s : State) : Host.Outcome State Fault Refusal :=
  .next (doRdmaWrite (congest s q.val (ce && qpReady s f q.val)) f q.val p)

/-- READs, or atomics, of a pair that are outstanding (R280). -/
def outstanding (v : QpSt) (op : HostOp) : Nat := (v.reqs.filter (fun r => r.op == op)).length

/-- An RDMA READ (R280, R282 to R284, R289): a duplicate is answered again from memory. -/
def doRdmaRead (s : State) (f : HostFrame) (q : Nat) (psn : BitVec 24) (va rkey len : Nat) : State :=
  let v := qpAt s q
  if !qpReady s f q then s
  else match psnPlace v psn with
    | .gt => outOfOrder s q
    | place =>
      let count := max 1 (cdiv len (mtuBytes v))
      let s' := if place = .eq then advance s q count else s
      match winOf s (BitVec.ofNat 32 rkey) with
      | none => refuse s q .nakAccess true psn
      | some (w, e) =>
        if w = 0 then
          if 65536 < va + len then refuse s q .nakAccess true psn
          else if len = 8 ∧ va % 8 = 0 then takeReq s' q { id := 0, op := .bell, psn := psn, addr := va, len := 8 }
          else refuse s q .nakInvalid false psn
        else if !winCovers e va len 0 then refuse s q .nakAccess true psn
        else if len > 2 ^ 31 ∨ 16 ≤ outstanding v .read then refuse s q .nakInvalid false psn
        else takeReq s' q { id := 0, op := .read, psn := psn, addr := va, len := len }

def execRdmaRead (f : HostFrame) (q : Fin 4096) (psn : BitVec 24) (va : Word) (rkey len : BitVec 32) (ce : Bool) (s : State) :
    Host.Outcome State Fault Refusal :=
  .next (doRdmaRead (congest s q.val (ce && qpReady s f q.val)) f q.val psn va.toNat rkey.toNat len.toNat)

/-- A 64 B SEND (R289): the entry is written to slot TAIL and TAIL advances before the acknowledgement; a full ring
answers RNR. -/
def doSend (s : State) (f : HostFrame) (q : Nat) (psn : BitVec 24) (data : List Byte) : State :=
  let v := qpAt s q
  if !qpReady s f q || !hostTakes s f data.length then s
  else match psnPlace v psn with
    | .lt => answer s q .ack (donePsn v) []
    | .gt => outOfOrder s q
    | .eq =>
      if data.length ≠ 64 ∨ v.ring > 15 then refuse s q .nakInvalid false psn
      else takeReq (hostFill (advance s q 1) f.port.val 64) q { id := 0, op := .entry, psn := psn, len := 64, data := data }

def execSend (f : HostFrame) (q : Fin 4096) (psn : BitVec 24) (data : List Byte) (ce : Bool) (s : State) : Host.Outcome State Fault Refusal :=
  .next (doSend (congest s q.val (ce && qpReady s f q.val)) f q.val psn data)

/-- An atomic on a host window (R280, R282, R284, R285): the wire's operands are numbers already converted from its
byte order; the old value goes back most significant byte first. A duplicate is answered from the replay. -/
def doHostAtomic (s : State) (f : HostFrame) (q : Nat) (psn : BitVec 24) (va rkey : Nat) (op : Nat) (opd cmp : Word) : State :=
  let v := qpAt s q
  if !qpReady s f q || !hostTakes s f 8 then s
  else match psnPlace v psn with
    | .gt => outOfOrder s q
    | .lt => match v.replay.find? (fun r => r.1 == psn.toNat) with
      | some r => answer s q .atomicAck psn (toBe 8 r.2.toNat)
      | none => s
    | .eq =>
      if va % 8 ≠ 0 then refuse s q .nakInvalid true psn
      else match winOf s (BitVec.ofNat 32 rkey) with
        | none => refuse s q .nakAccess true psn
        | some (w, e) =>
          if w = 0 then (if 65536 < va + 8 then refuse s q .nakAccess true psn else refuse s q .nakInvalid false psn)
          else if !winCovers e va 8 2 then refuse s q .nakAccess true psn
          else if 16 ≤ outstanding v .atomic then refuse s q .nakInvalid false psn
          else
            takeReq (hostFill (advance s q 1) f.port.val 8) q
              { id := 0, op := .atomic, psn := psn, addr := va, len := 8, code := op, operand := opd, compare := cmp }

def execFetchAdd (f : HostFrame) (q : Fin 4096) (psn : BitVec 24) (va : Word) (rkey : BitVec 32) (add : Word) (ce : Bool) (s : State) :
    Host.Outcome State Fault Refusal :=
  .next (doHostAtomic (congest s q.val (ce && qpReady s f q.val)) f q.val psn va.toNat rkey.toNat 1 add 0)

def execCmpSwap (f : HostFrame) (q : Fin 4096) (psn : BitVec 24) (va : Word) (rkey : BitVec 32) (cmp swap : Word) (ce : Bool) (s : State) :
    Host.Outcome State Fault Refusal :=
  .next (doHostAtomic (congest s q.val (ce && qpReady s f q.val)) f q.val psn va.toNat rkey.toNat 3 swap cmp)

/-- A transport, opcode or header outside the subset: NAK Invalid Request, or discarded where the protocol has no
answer (R280); a WRITE with immediate is an outcome of Table 6 (R284). -/
def execInvalidRequest (f : HostFrame) (q : Fin 4096) (psn : BitVec 24) (answerable writeImm : Bool) (s : State) :
    Host.Outcome State Fault Refusal :=
  .next (if qpReady s f q.val && answerable then refuse s q.val .nakInvalid writeImm psn else s)

/-- 20 microseconds without an answer from a memory base die (R284): NAK Remote Operational; the lines a write covers, or an atomic's word,
are undefined from then on. -/
def doHostMemTimeout (s : State) (q : Nat) : State :=
  let v := qpAt s q
  match v.reqs with
  | [] => s
  | r :: _ =>
    match r.at_ with
    | none => s
    | some t =>
      if reqAnswered v r ∨ s.ticks < t + 20000 then s
      else
        let s1 := if r.op = .read then s else dramWrite s r.addr (freeBytes s.freeCtr r.addr r.len) (Config.freeBool s.freeCtr r.addr)
        bumpFree (pumpPairs (nakCounted s1 q .nakOperational r.psn) q)

def execHostMemoryTimeout (q : Fin 4096) (s : State) : Host.Outcome State Fault Refusal := .next (doHostMemTimeout s q.val)

/-! The module as requester (R281, R292). -/

/-- Send the outstanding request again, or fail the pair when its retries of that kind are used up. -/
def retryRequest (s : State) (q : Nat) (rnr : Bool) : State :=
  let v := qpAt s q
  match v.out with
  | none => s
  | some r =>
    if (if rnr then v.rnrRetry = 7 ∨ r.rnr < v.rnrRetry else r.tries < v.retry) then
      let r := if rnr then { r with rnr := r.rnr + 1, sentAt := s.ticks } else { r with tries := r.tries + 1, sentAt := s.ticks }
      wireRequest (setQp s q { v with out := some r }) q r
    else qpFail s q 1

/-- An ACK or NAK for a record write (R281, R292): of a body, it lets the engine go on with the ring's record, if the ring was not set up anew. -/
def doRoceAck (s : State) (f : HostFrame) (q : Nat) (psn : BitVec 24) (k : AckKind) : State :=
  let v := qpAt s q
  if !qpReady s f q then s
  else match v.out with
    | none => s
    | some r =>
      if r.psn ≠ psn.toNat then s
      else match k with
        | .ack =>
          let s := setQp s q { v with out := none }
          let s := if r.seqPart ∨ (ringAt s r.ring).setup ≠ r.setup then s else setRing s r.ring { ringAt s r.ring with acked := true }
          pumpQp s q
        | .rnr => retryRequest s q true
        | .sequence => retryRequest s q false
        | .error => qpFail s q 1

def execRoceAck (f : HostFrame) (q : Fin 4096) (psn : BitVec 24) (k : AckKind) (s : State) : Host.Outcome State Fault Refusal :=
  .next (doRoceAck s f q.val psn k)

/-- The local ACK timeout, 4.096 microseconds times 2^TIMEOUT, has passed (R281). -/
def execQpAckTimeout (q : Fin 4096) (s : State) : Host.Outcome State Fault Refusal :=
  .next (match (qpAt s q.val).out with
    | some r => if s.ticks ≥ r.sentAt + 4096 * 2 ^ (qpAt s q.val).timeout then retryRequest s q.val false else s
    | none => s)

/-- A congestion notification slows the module's own requests on the pair (R280). DESIGN CHOICE (log 112): by how much is the annex's; a free time. -/
def execCnp (f : HostFrame) (q : Fin 4096) (s : State) : Host.Outcome State Fault Refusal :=
  .next (if qpReady s f q.val then
    bumpFree (setQp s q.val { qpAt s q.val with slowTo := s.ticks + (Config.freeWord s.freeCtr (0x5B0000 + q.val)).toNat }) else s)

/-! Addresses (R279). -/

/-- MAC_BASE, which the factory fixes (R420). -/
def macBase : Nat := leNat ((List.range 6).map (Config.factoryByte Obj.macBase))

/-- MAC address of a host port: MAC_BASE + n (R420). -/
def portMac (port : Nat) : Nat := (macBase + port) % 2 ^ 48

def linkUp (s : State) (port : Nat) : Bool := hostDieUp s port && decide ((hostPortAt s port).link = 2)

/-- A port sends a frame that is not RoCEv2, with the tag that HOST_VLAN sets. -/
def ethSend (s : State) (port : Nat) (kind : EthKind) (data : List Byte) : State := emit s (.host port (.eth kind data (hostTag s port)))

/-- ARP for the port's IPv4 address is answered with its MAC address. -/
def execArp (f : HostFrame) (senderMac : BitVec 48) (senderIp targetIp : BitVec 32) (s : State) : Host.Outcome State Fault Refusal :=
  .next (
    let a := (hostPortAt s f.port.val).ipv4
    if linkUp s f.port.val ∧ frameOk s f ∧ a % 2 ^ 32 ≠ 0 ∧ targetIp.toNat = a % 2 ^ 32 then
      ethSend s f.port.val .arpReply (toBe 6 (portMac f.port.val) ++ toBe 4 targetIp.toNat ++ toBe 6 senderMac.toNat ++ toBe 4 senderIp.toNat)
    else s)

/-- The port's IPv6 address, as in force. -/
def portIpv6 (s : State) (port : Nat) : List Byte := (hostPortAt s port).ipv6.take 16

/-- A neighbour solicitation for the port's IPv6 address is answered with an advertisement of its MAC address. -/
def execNeighbourDiscovery (f : HostFrame) (source target : List Byte) (s : State) : Host.Outcome State Fault Refusal :=
  .next (if linkUp s f.port.val ∧ frameOk s f ∧ target.length = 16 ∧ leNat target ≠ 0 ∧ target = portIpv6 s f.port.val then
      ethSend s f.port.val .neighbourAdvert (source ++ target ++ toBe 6 (portMac f.port.val))
    else s)

/-- A 4-byte address in its mapped form, a 16-byte one as it is. -/
def mapped (a : List Byte) : List Byte := if a.length = 4 then List.replicate 10 0 ++ [0xFF, 0xFF] ++ a else a

/-- Is a destination one of the port's addresses? -/
def ownAddress (s : State) (port : Nat) (dst : List Byte) : Bool :=
  let a := (hostPortAt s port).ipv4 % 2 ^ 32
  (a != 0 && mapped dst == List.replicate 10 0 ++ [0xFF, 0xFF] ++ toBe 4 a) || (leNat dst != 0 && dst.length == 16 && dst == portIpv6 s port)

/-- ICMP echo to the port's address, from its own subnet, is answered with its payload. -/
def execIcmpEcho (f : HostFrame) (source dst payload : List Byte) (s : State) : Host.Outcome State Fault Refusal :=
  .next (if linkUp s f.port.val && frameOk s f && ownAddress s f.port.val dst && onSubnet s f.port.val (mapped source) then
    ethSend s f.port.val .echoReply (source ++ payload) else s)

/-! Flow control (R278). -/

/-- A priority flow control frame pauses or resumes sending on HOST_PFC_PRIORITY; other priorities change nothing. What a pause held goes out at its
end. A flow control frame carries no tag (PRESUMED, log 112). -/
def doPfc (s : State) (f : HostFrame) (prio : Nat) (pause : Bool) : State :=
  let port := f.port.val
  if !linkUp s port ∨ !frameOk s { f with vlan := (hostTag s port).map (Fin.ofNat 4096) } ∨ prio ≠ dval s Obj.hostPfcPriority then s
  else
    let p := hostPortAt s port
    if pause then setHostPort s port { p with pausedTx := true }
    else
      let s := p.heldTx.foldl (fun s o => emit s (.host port o)) (setHostPort s port { p with pausedTx := false, heldTx := [] })
      s.host.qps.foldl (fun s e => if (qpAt s e.1).port = port then wireHeld s e.1 else s) s

def execPfcFrame (f : HostFrame) (prio : Fin 8) (pause : Bool) (s : State) : Host.Outcome State Fault Refusal :=
  .next (doPfc s f prio.val pause)

/-- IEEE 802.3 global PAUSE frames are ignored (R278). -/
def execPauseFrame (_f : HostFrame) (s : State) : Host.Outcome State Fault Refusal := .next s

/-! Links (R277, R279 Table 2). -/

/-- HOST_IPV6 as written, 17 bytes. -/
def hostIpv6 (s : State) (port : Nat) : List Byte := blobAt s (Obj.hostIpv6 + 256 * port) 17

/-- Step 1 of a bring-up starts; the mode and the addresses written take effect now. -/
def beginLink (s : State) (port : Nat) : State :=
  setHostPort s port { hostPortAt s port with
    link := 1, step := 1, since := s.ticks, speed := 0, pausedTx := false, heldTx := [], mode := dval s (Obj.hostPortMode + 256 * port)
    ipv4 := dval s (Obj.hostIpv4 + 256 * port), ipv6 := hostIpv6 s port }

/-- The port has read its cage. -/
def cageRead (s : State) (c : Cage) : State :=
  setHostPort s c.port.val { hostPortAt s c.port.val with step := 2, since := s.ticks, copper := c.copper, modes := c.modes, lowPower := decide (17 < c.watts.toNat) }

/-- A port reads its cage: in the bring-up that start-up began, or in one that begins now, a second after the port went down or failed a step. -/
def doBringup (s : State) (c : Cage) : State :=
  let port := c.port.val
  let p := hostPortAt s port
  if !hostDieUp s port ∨ !s.light.cal.blendRuns then s
  else if p.link = 1 ∧ p.step = 1 then cageRead s c
  else if p.link ≠ 0 ∨ (p.step ≠ 0 ∧ s.ticks < p.since + 1000000000) then s
  else cageRead (beginLink s port) c

def execHostLinkBringup (cage : Cage) (s : State) : Host.Outcome State Fault Refusal := .next (doBringup s cage)

/-- Speed of a mode (R277 Table 1). -/
def modeSpeed (m : Nat) : Nat := match m with | 1 => 800 | 2 => 400 | 3 => 200 | _ => 0

/-- The mode a link comes up in: the written one, or the highest, of those that cage and partner support; mode 3 runs on copper only. A
module that needs more than 17 W is left in low power, and its port does not come up (R464). -/
def linkMode (p : HostPort) (partner : BitVec 4) : Option Nat :=
  if p.lowPower then none else [1, 2, 3].find? (fun m => p.modes.getLsbD m && partner.getLsbD m && (p.mode == 0 || p.mode == m) && (m != 3 || p.copper))

/-- What Table 2 allows: step 1 100 ms; steps 2 to 4 together 2 s with an optical module, 500 ms and 10 ms (log 112). -/
def bringupTime (p : HostPort) : Nat := if p.step = 1 then 100000000 else if p.copper then 510000000 else 2510000000

/-- PCS alignment and FEC lock complete within the time of the steps: the port carries traffic. -/
def doLinkUp (s : State) (port : Nat) (partner : BitVec 4) : State :=
  let p := hostPortAt s port
  match linkMode p partner with
  | some m =>
    if hostDieUp s port ∧ p.link = 1 ∧ p.step = 2 ∧ s.ticks ≤ p.since + bringupTime p then
      setHostPort s port { p with link := 2, step := 4, speed := modeSpeed m, since := s.ticks }
    else s
  | none => s

def execHostLinkUp (port : Fin 2) (modes : BitVec 4) (s : State) : Host.Outcome State Fault Refusal := .next (doLinkUp s port.val modes)

/-- A port that has lost FEC lock for 10 ms goes down. -/
def doPortDown (s : State) (port : Nat) : State :=
  let p := hostPortAt s port
  if p.link = 2 then setHostPort s port { p with link := 0, since := s.ticks, speed := 0, ptp := 0, pausedTx := false, heldTx := [] } else s

def execFecLockLoss (port : Fin 2) (s : State) : Host.Outcome State Fault Refusal := .next (doPortDown s port.val)

/-- A port that has not come up in time fails the step it is in: it is down, and returns to step 1 a second later (R279). -/
def bringupFailed (s : State) (port : Nat) : State :=
  let p := hostPortAt s port
  if p.link = 1 ∧ p.since + bringupTime p < s.ticks then setHostPort s port { p with link := 0, since := p.since + bringupTime p } else s

/-- What the clock does at the host ports: bring-ups that fail, and requests that a congestion notification held (R279, R280). -/
def hostClock (s : State) : State :=
  let s := bringupFailed (bringupFailed s 0) 1
  s.host.qps.foldl (fun s e => let v := qpAt s e.1
                               if v.slowTo ≠ 0 ∧ v.slowTo ≤ s.ticks ∧ !(hostPortAt s v.port).pausedTx then wireHeld (setQp s e.1 { v with slowTo := 0 }) e.1 else s) s

/-- A host die is turned off or fenced: its port goes down and every queue pair bound to it enters the error state
(R279); what was on its paths is gone. -/
def hostDieLost (s : State) (n : Nat) : State :=
  let s := setHostPort (dropPaths s (siteHD n)) n { ({} : HostPort) with step := 1, since := s.ticks }
  pumpPairs (s.host.qps.foldl (fun s e => if e.2.port = n then qpFail s e.1 0 else s) s) 0

end Sys2Proof.Machine
end

