-- ==== Sys2Proof/Machine/Fab.lean ====
section
/-! DEFINITION. The fabric's packets, routing, region checks, service at the target, and answers at the origin (R228 to
R230, R238 to R256, R264 to R270). -/
namespace Sys2Proof.Machine

/-! Units. -/

/-- A fabric die is in service. -/
def fdUp (s : State) (n : Nat) : Bool := domAt s (domFD n) == .on && !fencedSite s (siteFD n)

/-- Module time is trusted (R309 Table 4, R313, R314): LOCKED, or for 10 s of HOLDOVER, and no step within the lifetime. -/
def timeTrusted (s : State) : Bool :=
  decide (s.mt.untrustedUntil ≤ s.ticks) &&
    (decide (s.mt.state = 2) || (decide (s.mt.state = 3) && (match s.mt.holdSince with | some t => decide (s.ticks < t + 10000000000) | none => false)))

/-! Packets (R239, R240). -/

def nonIdempotent (opc : Nat) : Bool := opc == 3 || opc == 4 || opc == 0x13

/-- VC and LEN as Table 3 gives them for the OPC. -/
def shapeOk (p : FabPacket) : Bool :=
  let vc := p.vc.toNat
  let len := p.len.toNat
  p.data.length == len && match p.opc.toNat with
  | 0x01 => vc == 1 && len == 0
  | 0x02 => vc == 1 && len == sizeFlits p.w4
  | 0x03 => vc == 1 && len == 0
  | 0x04 => vc == 1 && len == recLines p.w4 && decide (1 ≤ len ∧ len ≤ 16)
  | 0x05 => vc == 1 && len == sizeFlits p.w4
  | 0x08 => vc == 2 && decide (len ≤ 16)
  | 0x10 => vc == 0 && len == 0
  | 0x11 => vc == 0 && len == 0
  | 0x12 => vc == 0 && len == 0
  | 0x13 => vc == 0 && len == 0
  | 0x14 => vc == 0 && len == 0
  | 0x15 => vc == 0 && len == 0
  | 0x20 => vc == 3 && len == 1
  | 0x21 => vc == 3 && len == 1
  | 0x22 => vc == 3 && len == 0
  | 0x23 => vc == 3 && len == 0
  | 0x24 => vc == 3 && len == 0
  | 0x25 => vc == 3 && len == 0
  | _ => false

/-- Is a request well formed (R241)? Other fields of a record are the memory base die's to judge (R185). -/
def wellFormedReq (p : FabPacket) : Bool :=
  let a := p.addr.toNat
  let size := p.w4.toNat % 2048
  let r := fabRecord p
  decide (10 ≤ p.tmo.toNat ∧ p.tmo.toNat ≤ 1000) && match p.opc.toNat with
  | 3 => isAtomicOp r.op.toNat && r.addr.toNat % 8 == 0 && r.addr.toNat == a % 2 ^ 44
  | 4 => isReduceOp r.op.toNat && r.addr.toNat == a % 2 ^ 44 && a % 64 == 0 && decide (a % 4096 + 64 * r.lines.toNat ≤ 4096) && decide (1 ≤ r.lines.toNat ∧ r.lines.toNat ≤ 16)
  | 0x12 => true
  | 0x13 => true
  | 0x14 => true
  | _ => size % 8 == 0 && decide (8 ≤ size ∧ size ≤ 1024) && a % 8 == 0 && decide (a % 4096 + size ≤ 4096)

/-! Egress (R253 to R255). -/

/-- A link carries packets of other modules: it is UP and does not lead to a module that vanished, to which traffic returns only with new
tables (R255, R273). DEDUCED (log 111): a module has vanished when the last link to it has gone DOWN. -/
def linkCarries (s : State) (l : Nat) : Bool :=
  linkIsUp s l && match (linkAt s l).neighbour with | some n => !s.fab.vanished.contains n.1 | none => true

/-- Put a packet in the queue of a link: HOPS counts the link, and a packet whose HOPS reaches 32 is discarded (R254). A
link that is down discards it. -/
def egress (s : State) (l : Nat) (p : FabPacket) : State :=
  if !linkCarries s l then bump s Obj.fabricRouteDiscards
  else if p.hops.toNat + 1 ≥ 32 then bump s Obj.fabricDiscards
  else enqueue s l { p with hops := p.hops + 1 }

/-- Routing entry of a module in the active set (R255 Table 8). -/
def routeEntry (s : State) (m : Nat) : Nat := tget (fun _ => 0) s.fab.active m
def entryValid (e : Nat) : Bool := bitAt e 7
def entryLocal (e : Nat) : Bool := bitAt e 5

/-- Is a destination this module? -/
def isOwn (s : State) (m : Nat) : Bool := s.fab.own == m || (entryValid (routeEntry s m) && entryLocal (routeEntry s m))

/-- DL of a routing entry for a packet: BAR_RELEASE takes it as 0 (R253). -/
def routeDl (e : Nat) (p : FabPacket) : Bool := bitAt e 6 && p.opc != 0x11

/-- Dateline class on leaving by a link (R253). -/
def nextDlc (dl : Bool) (f out : Nat) (arr : Option Nat) (p : FabPacket) : Bool :=
  let keep := out == f && match arr with | some l => l / 4 == f / 2 | none => false
  dl || (keep && p.dlc)

/-- Unicast routing at fabric die `f` of a packet that arrived on link `arr`, or that the module originated or handed over (R248, R255). -/
def routeUni (s : State) (f : Nat) (arr : Option Nat) (p : FabPacket) : State :=
  let e := routeEntry s p.dst.toNat
  if !entryValid e then bump s Obj.fabricRouteDiscards
  else
    let o := e % 8
    let port := fld e 3 1
    let upAt := fun n => linkCarries s (2 * n + port)
    let out := if bitAt e 4 then
        let first := if (match arr with | some l => l / 2 == f | none => false) && (f == o || f == o ^^^ 1) then f
                     else o ^^^ (p.tag.toNat % 2)
        if upAt first then first else first ^^^ 1
      else o
    if !upAt out then bump s Obj.fabricRouteDiscards
    else if out ≠ f then pathSend s (siteFD f) (siteFD out) p
    else egress s (2 * out + port) { p with dlc := nextDlc (routeDl e p) f out arr p }

/-- Links of a multicast group, but the one a packet arrived on (R256). -/
def groupLinks (s : State) (arr : Option Nat) (g : Nat) : List Nat :=
  let e := tget (fun _ => 0) s.fab.active (4096 + g)
  (List.range 16).filter (fun l => bitAt e l && arr != some l)

/-- A fabric die's own copies of a multicast packet (R253, R256). -/
def copyMulti (s : State) (f : Nat) (arr : Option Nat) (g : Nat) (p : FabPacket) : State :=
  overNats ((groupLinks s arr g).filter (fun l => l / 2 == f)) (fun l s => egress s l { p with dlc := nextDlc false f f arr p }) s

/-- The other fabric dies that a multicast packet is handed over to. -/
def groupDies (s : State) (f : Nat) (arr : Option Nat) (g : Nat) : List Nat :=
  (List.range 8).filter (fun n => n != f && (groupLinks s arr g).any (fun l => l / 2 == n))

/-- Packets that leave fabric die `f` for a multicast packet: one on each link of its own that takes it, one for each other die. -/
def copyCount (s : State) (f : Nat) (arr : Option Nat) (g : Nat) (p : FabPacket) : Nat :=
  ((groupLinks s arr g).filter (fun l => l / 2 == f && linkCarries s l && decide (p.hops.toNat + 1 < 32))).length + (groupDies s f arr g).length

/-- The input of a multicast packet is held until its copies have been sent (R256). -/
def holdMulti (s : State) (e n : Nat) (p : FabPacket) : State :=
  if n = 0 then freeInput s e p else { s with fab := { s.fab with multiIn := s.fab.multiIn ++ [(e, p, n)] } }

/-- Copies of a multicast packet on each link of its group but the one it arrived on; those of other fabric dies are handed over (R248,
R256). -/
def routeMulti (s : State) (f : Nat) (arr : Option Nat) (g : Nat) (p : FabPacket) : State :=
  let others := groupDies s f arr g
  overNats others (fun n s => pathSend s (siteFD f) (siteFD n) p) (copyMulti s f arr g p)

def groupLocal (s : State) (g : Nat) : Bool := bitAt (tget (fun _ => 0) s.fab.active (4096 + g)) 16

/-! How an operation ends at its origin (R242, R265, R268). -/

/-- FLOW_STATUS bits of an answer (R242 Table 4, R204). -/
def fabStatusBits (opc status : Nat) : BitVec 4 :=
  match status with
  | 0 => 0
  | 1 => 1
  | 5 => if opc = 1 then 1 else 2
  | 10 => 4
  | _ => 2

/-- The compute die's port that shares house pairs with a fabric die (R246). -/
def portToward (cd fd : Nat) : Nat := 12 * cd + ((List.range 12).find? (fun k => (12 * cd + k) % 32 / 4 == fd)).getD 0

/-- The lines of a remote ATOMIC transfer's results, four to a line, in record order, for its return flow (R183, R202). -/
def writeResults (s : State) (u : RemoteUnit) : State :=
  let k := 64 * u.cd + u.tile
  let mine := s.fab.results.filter (fun r => r.tile == k && r.flow == u.flow && r.transfer == u.transfer)
  let s := { s with fab := { s.fab with results := s.fab.results.filter (fun r => !mine.contains r) } }
  let bytes := ((List.range 1024).filterMap (fun i => mine.find? (fun r => r.pos == i))).flatMap (·.bytes)
  let ret := ((flowDesc s u.flow).map (·.returnFlow)).getD 0
  match partOf s k ret with
  | some (_, pt) =>
    if bytes.isEmpty then s
    else adapterWrite s (portToward u.cd u.fd) u.tile ret (bufLine pt u.transfer)
      ((List.range (cdiv bytes.length 64)).map (fun i => { data := slice bytes (64 * i) 64, poison := false }))
  | none => s

/-- A remote unit of a compute die ends: its transfer gets the ending and its data (R204, R242). -/
def endUnit (s : State) (u : RemoteUnit) (bits : BitVec 4) (data : List Flit) (result : List Byte) : State :=
  let k := 64 * u.cd + u.tile
  let s := if result.isEmpty then s else
    { s with fab := { s.fab with results := s.fab.results ++
      [{ tile := k, flow := u.flow, transfer := u.transfer, pos := u.pos, bytes := result }] } }
  let s := match partOf s k u.flow with
    | some (_, pt) => if data.isEmpty then s else adapterWrite s (portToward u.cd u.fd) u.tile u.flow (bufLine pt u.transfer + u.pos) data
    | none => s
  let r := unitEnded s u bits
  if r.1 && u.opc == 3 then writeResults r.2 u else r.2

/-- The answer to a unit returns to its compute die with its HANDLE (R246). -/
def answerRemote (s : State) (u : RemoteUnit) (status : Nat) (result : List Byte) (data : List Flit) : State :=
  pathSend s (siteFD u.fd) (siteCD u.cd) { blankPacket with
    opc := 8, vc := 2, len := BitVec.ofNat 5 data.length, status := BitVec.ofNat 4 status, handle := BitVec.ofNat 16 u.handle, sent := s.now,
    w4 := BitVec.ofNat 64 (leAt result 0 8), w5 := BitVec.ofNat 64 (leAt result 8 8), data := data }

/-- A unit's answer at its compute die: the unit ends (R242, R246). -/
def unitAnswered (s : State) (cd : Nat) (p : FabPacket) : State :=
  match s.fab.units.find? (fun u => u.cd == cd && u.handle == unitHandle p) with
  | none => s
  | some u =>
    endUnit { s with fab := { s.fab with units := s.fab.units.erase u } } u (fabStatusBits u.opc p.status.toNat) p.data
      (if u.opc = 3 then resultOf p else [])

/-- An operation ends with an answer's status, its result record and its data. -/
def endOp (s : State) (o : FabOp) (status : Nat) (result : List Byte) (data : List Flit) : State :=
  let s := { s with fab := { s.fab with ops := s.fab.ops.erase o } }
  match o.owner with
  | .sync _ => s
  | .unit u => answerRemote s u status result data

/-- The message and the count of an unanswered ending (R268). -/
def unanswered (s : State) (o : FabOp) : State :=
  raise (bump s Obj.fabricUnanswered) (siteFD o.fd) 0x0D 0x31 1 false (o.packet.opc.toNat + o.tag * 2 ^ 16 + o.packet.dst.toNat * 2 ^ 28)

/-- An operation ends unanswered (R268 Table 11). -/
def endUnanswered (s : State) (o : FabOp) : State :=
  let s := unanswered s o
  if o.packet.opc = 1 then endOp s o 1 [] (onesLines (sizeFlits o.packet.w4)) else endOp s o 10 [] []

/-- An answer reaches its origin die: taken or discarded (R265, R269). -/
def takeAnswer (s : State) (p : FabPacket) : State :=
  match s.fab.ops.find? (fun o => o.fd == p.origFd.toNat && o.tag == p.tag.toNat && firstOf o.packet == firstOf p) with
  | none => bump s Obj.fabricLateAnswers
  | some o =>
    let st := p.status.toNat
    let taken := st ≤ 1 || (decide (p.attempt.toNat = o.attempt) && !(decide (st = 6) && decide (o.attempt < 2)))
    if !taken then bump s Obj.fabricLateAnswers
    else if o.packet.opc = 5 then
      -- a multicast store: DONE once from each member, otherwise the first other status
      let m := p.src.toNat
      if o.done.contains m then bump s Obj.fabricLateAnswers
      else
        let o' := { o with done := o.done ++ [m], other := if st = 0 then o.other else some (o.other.getD st) }
        let s := { s with fab := { s.fab with ops := s.fab.ops.map (fun x => if x = o then o' else x) } }
        if o'.done.length ≥ o'.members then endOp s o' (o'.other.getD 0) [] [] else s
    else
      let data := if o.packet.opc = 1 ∧ (st ≤ 1 ∨ st = 5) then p.data else []
      endOp s o st (resultOf p) data

/-! Answers (R244, R247). -/

/-- An answer for this module at fabric die `f`: taken at its origin die, or handed over to it. -/
def answerHere (s : State) (f : Nat) (a : FabPacket) : State :=
  if a.origFd.toNat = f then takeAnswer s a else pathSend s (siteFD f) (siteFD a.origFd.toNat) a

/-- A request is answered: its answer is routed to its source (R247). -/
def sendAnswer (s : State) (f : Nat) (p : FabPacket) (status : Nat) (result : Option (List Byte)) (data : List Flit) : State :=
  let a := answerPacket s p status result data
  if isOwn s p.src.toNat then answerHere s f a else routeUni s f none a

/-! Checks at the executing die (R243 to R245). -/

/-- The region entry a request is checked against: within 10 microseconds of a write, the old or the new one. -/
def regionSeen (s : State) (r : Nat) : FabRegion :=
  let v := tget (fun _ => {}) s.fab.regions r
  match v.at_ with
  | some t => if s.ticks < t + 10000 ∧ Config.freeBool s.freeCtr (0x60000000 + r) then v.prev else v.cur
  | none => v.cur

/-- The OPEN or CLOSED region that holds a local address. -/
def regionHolding (s : State) (a : Nat) : Option (Nat × FabRegion) :=
  ((s.fab.regions.map (fun e => (e.1, regionSeen s e.1))).find?
    (fun e => (e.2.state == 1 || e.2.state == 2) && decide (e.2.base ≤ a ∧ a < e.2.base + 2 ^ e.2.sizeLog2)))

/-- Permission bit of an operation (R243). -/
def permBit (opc : Nat) : Nat := match opc with | 1 => 0 | 2 => 1 | 5 => 1 | 3 => 2 | _ => 3

/-- A KEY answer is counted; the first of each second raises FAB_KEY (R245). -/
def keyFault (s : State) (f src region : Nat) : State :=
  let s := bump s Obj.fabricKeyFaults
  let sec := s.now.toNat / 1000000000
  if s.fab.keyFaultAt = some sec then s
  else raise { s with fab := { s.fab with keyFaultAt := some sec } } (siteFD f) 0x0D 0x32 1 false (region + src * 2 ^ 28)

/-- L in nanoseconds. -/
def lifetime (s : State) : Nat := dval s Obj.fabricDedupeLifetime * 1000

/-- The checks of R244 after the dedupe cache: `none` passes the request on. -/
def checkReq (s : State) (p : FabPacket) : Option (Nat × Option Nat) :=
  let a := p.addr.toNat % 2 ^ 44
  let opc := p.opc.toNat
  if s.fab.leaving.isSome || s.fab.left then some (9, none)
  else if nonIdempotent opc && decide (3 * p.tmo.toNat * 1000 + 40000 > lifetime s) then some (7, none)
  else if !wellFormedReq p then some (8, none)
  else if opc ≥ 0x10 then none
  else match regionHolding s a with
    | none => some (3, none)
    | some (r, g) =>
      if p.key ≠ g.key then some (2, some r)
      else if g.state = 2 ∨ !g.perm.getLsbD (permBit opc) then some (4, none)
      else if a + rangeOf p > g.base + 2 ^ g.sizeLog2 then some (3, none)
      else if rangeLost s a (rangeOf p) then some (5, none)
      else none

/-! Dedupe (R247, R266, R270). -/

def homeDie (p : FabPacket) : Nat := (p.src.toNat + p.origFd.toNat + p.tag.toNat) % 8

/-- The next fabric die in service from `n` on. -/
def nextUp (s : State) (n : Nat) : Nat := ((List.range 8).map (fun i => (n + i) % 8)).find? (fdUp s) |>.getD n

/-- Key of a request in the cache. -/
def sameOp (p : FabPacket) (e : Dedupe) : Bool :=
  e.src == p.src.toNat && e.origFd == p.origFd.toNat && e.tag == p.tag.toNat && e.first == firstOf p

def dedupeOf (s : State) (p : FabPacket) : Option Dedupe := s.fab.dedupe.find? (sameOp p)

/-- Result bytes with a status and an OLD value. -/
def cachedResult (p : FabPacket) (o : Nat × Word) : List Byte := resultBytes o.1 (fabRecord p) o.2

/-- Record the outcome of a request: its entry, its answer, and the retries that wait for it. -/
def decide_ (s : State) (f : Nat) (p : FabPacket) (status : Nat) (result : Option (List Byte)) (data : List Flit) : State :=
  let ws := ((dedupeOf s p).map (·.waiters)).getD []
  let old : Word := match result with | some bs => BitVec.ofNat 64 (leAt bs 8 8) | none => 0
  let s := { s with fab := { s.fab with dedupe := s.fab.dedupe.map (fun e =>
    if sameOp p e then { e with outcome := some (status, old), waiters := [] } else e) } }
  let s := sendAnswer s f p status result data
  ws.foldl (fun s w => sendAnswer (bump s Obj.fabricDedupeHits) f w status result data) s

/-- Pass a request, with ADDR reduced to [43:0], to its memory base die, and await its answer (R247). -/
def passOn (s : State) (f : Nat) (p : FabPacket) : State :=
  let a := p.addr.toNat % 2 ^ 44
  let s := bump s Obj.fabricServed
  let s := { s with fab := { s.fab with memWaits := s.fab.memWaits ++ [{ fd := f, packet := p, at_ := s.ticks }] } }
  pathSend s (siteFD f) (siteMD ((mapAddr s a).getD (0, 0)).1) { p with addr := BitVec.ofNat 56 a }

/-- A memory base die's answer at the executing die (R247). -/
def memAnswered (s : State) (f : Nat) (a : FabPacket) : State :=
  match s.fab.memWaits.find? (fun w => w.fd == f && w.packet.src == a.dst && w.packet.origFd == a.origFd && w.packet.tag == a.tag &&
      w.packet.attempt == a.attempt && firstOf w.packet == firstOf a) with
  | none => s
  | some w =>
    decide_ { s with fab := { s.fab with memWaits := s.fab.memWaits.erase w } } f w.packet a.status.toNat
      (if nonIdempotent w.packet.opc.toNat then some (resultOf a) else none) a.data

/-- A refused request: KEY is counted and BUSY too (R244, R245); of a range that holds nothing or a lost set, ADDR_REFUSED is raised (R170). -/
def refuseReq (s : State) (f : Nat) (p : FabPacket) (status : Nat) (region : Option Nat) : State :=
  let s := match region with | some r => keyFault s f p.src.toNat r | none => s
  let s := if status = 6 then bump s Obj.fabricBusy else s
  let a := p.addr.toNat % 2 ^ 44
  let s := if p.opc.toNat < 0x10 ∧ (status = 3 ∨ status = 5) ∧ (rangeRefused s a (rangeOf p) || rangeLost s a (rangeOf p)) then
    raise s (siteFD f) 0x0D 0x2C 1 false (lineDetail a) else s
  sendAnswer s f p status none (if status = 5 ∧ p.opc = 1 then onesLines (sizeFlits p.w4) else [])

/-- Requests that trusted time is needed for at both ends: the non-idempotent ones. DEDUCED (log 111): R313 leaves flags unaffected, FLAG_ADD
among them. -/
def needsTrust (opc : Nat) : Bool := nonIdempotent opc && opc != 0x13

/-- Is a request past its time at the executing die, or non-idempotent with time not trusted (R244, R313)? -/
def isStale (s : State) (p : FabPacket) : Bool :=
  decide (s.now.toNat + 1000 ≥ p.sent.toNat + p.tmo.toNat * 1000) || (needsTrust p.opc.toNat && !timeTrusted s)

/-- R244 at the executing fabric die, up to the effect `run` of a request that passes; a non-idempotent request is handed to its home die
first (R247). -/
def executeReq (s : State) (f : Nat) (p : FabPacket) (run : State → Nat → State) : State :=
  let non := nonIdempotent p.opc.toNat
  let h := homeDie p
  if non && decide (s.ticks < tget (fun _ => 0) s.fab.deadShares h) then
    if isStale s p then bump s Obj.fabricStale else sendAnswer s f p 10 none []
  else if non && nextUp s h != f then pathSend s (siteFD f) (siteFD (nextUp s h)) p
  else
    if isStale s p then bump s Obj.fabricStale
    else match (if non then dedupeOf s p else none) with
      | some e =>
        match e.outcome with
        | some o => sendAnswer (bump s Obj.fabricDedupeHits) f p o.1 (some (cachedResult p o)) []
        | none => { s with fab := { s.fab with dedupe := s.fab.dedupe.map (fun x => if x = e then { e with waiters := e.waiters ++ [p] } else x) } }
      | none =>
        match checkReq s p with
        | some c => refuseReq s f p c.1 c.2
        | none =>
          if non then
            if (s.fab.dedupe.filter (fun e => e.home == f)).length ≥ 1024 then refuseReq s f p 6 none
            else run { s with fab := { s.fab with dedupe := s.fab.dedupe ++
              [{ home := f, src := p.src.toNat, origFd := p.origFd.toNat, tag := p.tag.toNat, first := firstOf p, madeAt := s.ticks,
                 outcome := none, waiters := [] }] } } f
          else run s f

/-- A memory request at its executing die. -/
def executeMem (s : State) (f : Nat) (p : FabPacket) : State := executeReq s f p (fun s f => passOn s f p)

/-! Arrival of a packet on a link. -/

/-- A unicast packet at a fabric die: for this module, or passed on. -/
def arriveUni (s : State) (l : Nat) (p : FabPacket) (here : State → State) : State :=
  let s := freeInput { s with sent := s.sent.erase (.fabIn l p) } l p
  if isOwn s p.dst.toNat then here s else routeUni s (l / 2) (some l) p

/-- A packet of an operation may arrive on a link: the link is UP, and the packet has the OPC and its shape. -/
def mayArrive (s : State) (l : Nat) (p : FabPacket) (opc : Nat) : Bool :=
  linkIsUp s l && p.opc.toNat == opc && shapeOk p

def execFabLoad (l : Fin 16) (p : FabPacket) (s : State) : Host.Outcome State Fault Refusal :=
  .next (if mayArrive s l.val p 0x01 then arriveUni s l.val p (fun s => executeMem s (l.val / 2) p) else s)
def execFabStore (l : Fin 16) (p : FabPacket) (s : State) : Host.Outcome State Fault Refusal :=
  .next (if mayArrive s l.val p 0x02 then arriveUni s l.val p (fun s => executeMem s (l.val / 2) p) else s)
def execFabAtomic (l : Fin 16) (p : FabPacket) (s : State) : Host.Outcome State Fault Refusal :=
  .next (if mayArrive s l.val p 0x03 then arriveUni s l.val p (fun s => executeMem s (l.val / 2) p) else s)
def execFabReduce (l : Fin 16) (p : FabPacket) (s : State) : Host.Outcome State Fault Refusal :=
  .next (if mayArrive s l.val p 0x04 then arriveUni s l.val p (fun s => executeMem s (l.val / 2) p) else s)

/-- A multicast store: copied on, and executed here by a member (R256). -/
def doMcastStore (s : State) (l : Nat) (p : FabPacket) : State :=
  let g := p.group.toNat % 256
  let s := holdMulti { s with sent := s.sent.erase (.fabIn l p) } l (copyCount s (l / 2) (some l) g p) p
  let s := routeMulti s (l / 2) (some l) g p
  if groupLocal s g then executeMem s (l / 2) p else s

def execMcastStore (l : Fin 16) (p : FabPacket) (s : State) : Host.Outcome State Fault Refusal :=
  .next (if mayArrive s l.val p 0x05 then doMcastStore s l.val p else s)

def execRsp (l : Fin 16) (p : FabPacket) (s : State) : Host.Outcome State Fault Refusal :=
  .next (if mayArrive s l.val p 0x08 then arriveUni s l.val p (fun s => answerHere s (l.val / 2) p) else s)

/-- A packet with an unlisted OPC, or a VC or LEN that differs from its row (R240). -/
def execFabricDiscard (l : Fin 16) (p : FabPacket) (s : State) : Host.Outcome State Fault Refusal :=
  .next (if (linkAt s l.val).mode != .down && !shapeOk p then
      bump (freeInput { s with sent := s.sent.erase (.fabIn l.val p) } l.val p) Obj.fabricDiscards
    else s)

/-! Origin (R246, R264, R265). -/

/-- A destination, or a group, that a drain holds back (R271). -/
def drained (s : State) (m : Nat) : Bool := match s.fab.drain with | some d => d.modules.contains m | none => false
def drainedGroup (s : State) (g : Nat) : Bool := match s.fab.drain with | some d => d.groups.contains g | none => false

/-- The module originates nothing: it is shed to level 3 or more, it leaves, or it has left (R272, R326). -/
def originatesNone (s : State) : Bool := decide (s.pow.level ≥ 3) || s.fab.leaving.isSome || s.fab.left

/-- T in nanoseconds. -/
def fabricT (s : State) : Nat := dval s Obj.fabricTimeout * 1000

/-- Send an attempt of an operation: routed, or executed here when the module names itself (R230); a multicast store over its group (R256). -/
def sendAttempt (s : State) (f : Nat) (p : FabPacket) : State :=
  if p.opc = 5 then
    let s := routeMulti s f none (p.group.toNat % 256) p
    if groupLocal s (p.group.toNat % 256) then executeMem s f p else s
  else if isOwn s p.dst.toNat then executeMem s f p else routeUni s f none p

/-- The packet of a remote unit as its origin sends it (R239, R246). -/
def unitPacket (s : State) (u : RemoteUnit) (tag : Nat) : FabPacket :=
  let p := remoteHead u
  { p with
    handle := 0, origFd := BitVec.ofNat 3 u.fd, group := BitVec.ofNat 10 u.group,
    dst := if u.opc = 5 then BitVec.ofNat 12 s.fab.own else BitVec.ofNat 12 (u.addr / 2 ^ 44), src := BitVec.ofNat 12 s.fab.own,
    tag := BitVec.ofNat 12 tag, tmo := BitVec.ofNat 10 (dval s Obj.fabricTimeout), sent := s.now,
    w4 := BitVec.ofNat 64 (p.w4.toNat + s.now.toNat % 2 ^ 32 * 2 ^ 32) }

/-- Nanoseconds a throttled die needs for a packet (R264). -/
def throttleTime (level flits : Nat) : Nat := match level with | 0 => 0 | 1 => cdiv (64 * flits) 104 | _ => cdiv (64 * flits) 52

/-- The lowest tag of a fabric die that no open operation uses. -/
def freeFabTag (s : State) (f : Nat) : Option Nat :=
  (List.range 4096).find? (fun t => !s.fab.ops.any (fun o => o.fd == f && o.tag == t))

/-- Members of a multicast group, as its origin's entry gives them (R256). -/
def groupMembers (s : State) (g : Nat) : Nat := fld (tget (fun _ => 0) s.fab.active (4096 + g)) 17 10

/-- Multicast stores outstanding at a fabric die: at most 16 (R256). -/
def multiOut (s : State) (f : Nat) : Nat := (s.fab.ops.filter (fun o => o.fd == f && o.packet.opc == 5)).length

/-- Must a unit wait unsent (R246, R256, R264, R271, R272, R313)? -/
def unitWaits (s : State) (u : RemoteUnit) : Bool :=
  originatesNone s || (if u.opc = 5 then drainedGroup s u.group || decide (16 ≤ multiOut s u.fd) else drained s (u.addr / 2 ^ 44)) ||
  (needsTrust u.opc && !timeTrusted s) || (freeFabTag s u.fd).isNone ||
  decide (s.ticks < tget (fun _ => 0) s.fab.throttleFree u.fd)

/-- A unit moves on. -/
def unitStage (s : State) (u : RemoteUnit) (n : Nat) : State :=
  { s with fab := { s.fab with units := s.fab.units.map (fun x => if x = u then { u with stage := n } else x) } }

/-- A unit reaches the unit queue of its fabric die (R246). -/
def unitArrived (s : State) (f cd : Nat) (p : FabPacket) : State :=
  match s.fab.units.find? (fun u => u.fd == f && u.cd == cd && u.handle == unitHandle p && u.stage == 0) with
  | none => s
  | some u => unitStage s u 1

/-- The unit of a compute die's queue at a fabric die that goes next: the first that need not wait. DEDUCED (log 111): a unit that is held
leaves those behind it unaffected (R313). -/
def headUnit (s : State) (f cd : Nat) : Option RemoteUnit := s.fab.units.find? (fun u => u.fd == f && u.cd == cd && u.stage == 1 && !unitWaits s u)

/-- The module has no route for its requests to a module (R229, R242). -/
def noRoute (s : State) (m : Nat) : Bool := s.fab.own == 0xFFFF || !(isOwn s m || entryValid (routeEntry s m))

/-- A VC0 packet of the sync die may be originated now: nothing holds its destination back (R271, R272, R326). -/
def vc0Free (s : State) (p : FabPacket) : Bool :=
  !originatesNone s &&
  (if p.opc = 0x15 then !drainedGroup s (p.group.toNat % 256)
   else if p.opc = 0x11 ∧ p.dst = p.src then !drainedGroup s (fld (tget (fun _ => {}) s.fab.bars p.group.toNat).entry.toNat 32 8)
   else !drained s p.dst.toNat && !(decide (p.opc.toNat ≥ 0x12 ∧ p.attempt = 0) && (freeFabTag s s.fab.syncDie).isNone))

/-- The VC0 packet the sync die originates next: 64 ns after the one before, if there is one (R250). -/
def nextVc0 (s : State) : Option (Nat × FabPacket) :=
  let due := match tfind s.fab.lastVc0 s.fab.syncDie with | some t => decide (t + 64 ≤ s.ticks) | none => true
  if due then s.fab.paced.find? (fun e => vc0Free s e.2) else none

/-- Requests of a fabric die's origin injection: unit queues of compute dies, and the sync die (R251 Table 7). -/
def injectReqs (s : State) (f : Nat) : List ArbReq :=
  (List.range 16).filterMap (fun cd => (headUnit s f cd).map (fun u => { requester := Fin.ofNat 32 cd, vc := 0, len := Fin.ofNat 32 u.data.length })) ++
  (if f = s.fab.syncDie ∧ (nextVc0 s).isSome then [{ requester := 18, vc := 0, len := 0 }] else [])

/-- The origin injection of a fabric die decides, if it is free (R251). -/
def inject (s : State) (f : Nat) : State := if arbFree s .fabric (16 + f) then doArbiter s .fabric (16 + f) (injectReqs s f) else s

/-- A unit becomes an operation of its origin fabric die: a tag, and attempt 0 (R246, R265); without a route it ends at once (R255). -/
def originate (s : State) (f : Nat) (u : RemoteUnit) : State :=
  let gone := unitStage s u 2
  if (if u.opc = 5 then s.fab.own == 0xFFFF else noRoute s (u.addr / 2 ^ 44)) then answerRemote gone u 11 [] []
  else match freeFabTag s f with
    | none => s
    | some tag =>
      let p := unitPacket s u tag
      let lvl := tget (fun _ => 0) s.fab.throttle f
      let s := bump gone Obj.fabricRequests
      let s := { s with fab := { s.fab with
        ops := s.fab.ops ++ [{ fd := f, tag := tag, packet := p, first := s.ticks, attempt := 0, owner := .unit u,
                               members := if u.opc = 5 then groupMembers s u.group else 1, done := [], other := none }]
        throttleFree := tset (fun _ => 0) s.fab.throttleFree f (s.ticks + throttleTime lvl (u.data.length + 1)) } }
      sendAttempt s f p

/-- A fabric die takes the next unit of a compute die's queue, when its origin injection grants it (R246, R251). -/
def doRemoteUnit (s : State) (f cd : Nat) : State :=
  match headUnit s f cd with
  | none => s
  | some u =>
    let s := inject s f
    if (arbAt s .fabric (16 + f)).holder = some cd then originate (arbRelease s .fabric (16 + f)) f u else s

/-- A unit that never became an operation ends unanswered: the message and the count (R251, R268, R270). DESIGN CHOICE (log 111): it has no TAG,
and the message names 0. -/
def unitUnanswered (s : State) (f : Nat) (u : RemoteUnit) : State :=
  raise (bump s Obj.fabricUnanswered) (siteFD f) 0x0D 0x31 1 false (u.opc + u.addr / 2 ^ 44 * 2 ^ 28)

/-- A cut-off at an origin injection: the unit is discarded and its request ends as unanswered (R251). -/
def cutUnit (s : State) (f g : Nat) : State :=
  match headUnit s f g with
  | none => s
  | some u =>
    let s := unitUnanswered (unitStage s u 2) f u
    if u.opc = 1 then answerRemote s u 1 [] (onesLines (cdiv u.size 64)) else answerRemote s u 10 [] []

def execHoldCut (kind : ArbKind) (i : Fin 100000) (item : CutItem) (s : State) : Host.Outcome State Fault Refusal :=
  .next (
    let t := doHoldCut s kind i.val item
    match (arbAt s kind i.val).holder, (arbAt t kind i.val).holder with
    | some g, none => if kind = .fabric ∧ 16 ≤ i.val ∧ i.val < 24 then cutUnit t (i.val - 16) g else t
    | _, _ => t)

def execRemoteUnit (fd : Fin 8) (cd : Fin 16) (s : State) : Host.Outcome State Fault Refusal :=
  .next (if fdUp s fd.val then doRemoteUnit s fd.val cd.val else s)

/-! Time limits (R247, R265, R266). -/

/-- A dedupe entry lives for L and is removed no earlier (R266). -/
def execDedupeExpiry (s : State) : Host.Outcome State Fault Refusal :=
  .next { s with fab := { s.fab with dedupe := s.fab.dedupe.filter (fun e => decide (s.ticks < e.madeAt + lifetime s)) } }

/-- The executing die answers for a memory base die silent for 20 microseconds (R247). -/
def doMemoryTimeout (s : State) (f : Nat) : State :=
  match s.fab.memWaits.find? (fun w => w.fd == f && decide (s.ticks ≥ w.at_ + 20000)) with
  | none => s
  | some w =>
    let s := { s with fab := { s.fab with memWaits := s.fab.memWaits.erase w } }
    if w.packet.opc = 1 then decide_ s f w.packet 1 none (onesLines (sizeFlits w.packet.w4)) else decide_ s f w.packet 10 none []

def execMemoryAnswerTimeout (fd : Fin 8) (s : State) : Host.Outcome State Fault Refusal :=
  .next (if fdUp s fd.val then doMemoryTimeout s fd.val else s)

/-! Throttling (R264). -/

/-- The fullest VC1 egress queue of a fabric die's two links, in flits. -/
def egressFill (s : State) (f : Nat) : Nat :=
  let of_ := fun l => (List.range 2).map (fun c => (((linkAt s l).queue.filter (fun p => vcKey p == 1 + c)).map (fun p => p.len.toNat + 1)).sum)
  (of_ (2 * f) ++ of_ (2 * f + 1)).foldl max 0

/-- Level a fill asks for, as a fraction of the queue's size (R264). -/
def fillLevel (n : Nat) : Nat :=
  let size := Config.egressMore + 1
  if 4 * n ≥ 3 * size then 2 else if 2 * n ≥ size then 1 else 0

def doThrottle (s : State) (f : Nat) : State :=
  let now := fillLevel (egressFill s f)
  let lvl := tget (fun _ => 0) s.fab.throttle f
  let since := tget (fun _ => 0) s.fab.throttleSince f
  let put := fun l => { s with fab := { s.fab with throttle := tset (fun _ => 0) s.fab.throttle f l,
                                                   throttleSince := tset (fun _ => 0) s.fab.throttleSince f s.ticks } }
  if now > lvl then put now
  else if now = lvl then put lvl
  else if s.ticks ≥ since + 10000 then put (lvl - 1)
  else s

def execThrottleReview (fd : Fin 8) (s : State) : Host.Outcome State Fault Refusal :=
  .next (if fdUp s fd.val then doThrottle s fd.val else s)

/-! Regions (R243). -/

def regionBytesOk (bs : List Byte) : Bool :=
  bs.length == 32 && leAt bs 11 1 == 0 && leAt bs 16 8 == 0 && leAt bs 24 8 == 0 && decide (leAt bs 9 1 < 16) &&
  decide (leAt bs 10 1 ≤ 2) && decide (leAt bs 0 8 < 2 ^ 44)

def regionOfBytes (bs : List Byte) : FabRegion :=
  { base := leAt bs 0 8, sizeLog2 := leAt bs 8 1, perm := BitVec.ofNat 8 (leAt bs 9 1), state := leAt bs 10 1, key := BitVec.ofNat 32 (leAt bs 12 4) }

/-- Do two entries overlap? -/
def overlaps (a b : FabRegion) : Bool :=
  (b.state == 1 || b.state == 2) && decide (a.base < b.base + 2 ^ b.sizeLog2 ∧ b.base < a.base + 2 ^ a.sizeLog2)

/-- REGION: refused whole, or in force at every fabric die within 10 microseconds. -/
def doRegion (s : State) (r : Nat) (bs : List Byte) : Bool × State :=
  let e := regionOfBytes bs
  let held := e.state == 1 || e.state == 2
  let fits := decide (21 ≤ e.sizeLog2 ∧ e.sizeLog2 ≤ 41) && e.base % 2 ^ e.sizeLog2 == 0
  let clash := s.fab.regions.any (fun x => x.1 != r && overlaps e x.2.cur)
  if !regionBytesOk bs || (held && (!fits || !inMapped s e.base (2 ^ e.sizeLog2) || clash)) then (false, s)
  else
    let old := tget (fun _ => {}) s.fab.regions r
    (true, { s with fab := { s.fab with regions := tset (fun _ => {}) s.fab.regions r { cur := e, prev := old.cur, at_ := some s.ticks } } })

def execRegion (r : Fin 4096) (bs : List Byte) (s : State) : Host.Outcome State Fault Refusal := .next (doRegion s r.val bs).2

end Sys2Proof.Machine
end

