-- ==== Sys2Proof/Machine/FabSync.lean ====
section
/-! DEFINITION. Barriers and flags across modules (R259 to R263), and attempts (R265). -/
namespace Sys2Proof.Machine

def barAt (s : State) (g : Nat) : FabBar := tget (fun _ => {}) s.fab.bars g
def setBar (s : State) (g : Nat) (b : FabBar) : State := { s with fab := { s.fab with bars := tset (fun _ => {}) s.fab.bars g b } }
def fabFlagAt (s : State) (f : Nat) : FabFlag := tget (fun _ => {}) s.fab.flags f
def setFabFlag (s : State) (f : Nat) (v : FabFlag) : State := { s with fab := { s.fab with flags := tset (fun _ => {}) s.fab.flags f v } }

/-! Fields of a barrier entry (R259). -/
def barHome (b : FabBar) : Nat := fld b.entry.toNat 0 12
def barExpect (b : FabBar) : Nat := fld b.entry.toNat 16 12
def barRelease (b : FabBar) : Nat := fld b.entry.toNat 32 8
def barLocal (b : FabBar) : Nat := fld b.entry.toNat 40 11

/-- The sync die is in service (R263). -/
def syncUp (s : State) : Bool := fdUp s s.fab.syncDie

/-- The sync die announces to every die (R262 Table 10). -/
def syncUpdate (s : State) (op n : Nat) (v : Word) : State :=
  ctrlSendFrom s (siteFD s.fab.syncDie) 0x7F 0x71 (op + 2 * n) [v]

/-! Originating VC0 packets (R250, R263). -/

/-- The sync die has a VC0 packet to originate: it leaves when its turn comes, 64 ns after the one before (R250). -/
def originateVc0 (s : State) (p : FabPacket) : State := { s with fab := { s.fab with paced := s.fab.paced ++ [(s.ticks, p)] } }

/-! Effects at the home (R259, R260). -/

/-- A release at a member: its dies learn the next epoch (R259). -/
def doReleased (s : State) (g e : Nat) : State :=
  let b := barAt s g
  if barLocal b = 0 ∨ !syncUp s then s
  else if b.epoch = e then
    syncUpdate (setBar s g { b with epoch := (e + 1) % 2 ^ 32, arrived := 0, sentAt := none }) 0 g (BitVec.ofNat 64 ((e + 1) % 2 ^ 32))
  else s

/-- A notified value at a member: kept when its change count is newer, modulo 2^32 (R260). -/
def doNotified (s : State) (f count : Nat) (v : Word) : State :=
  let x := fabFlagAt s f
  let d := (count + 2 ^ 32 - x.copyCount) % 2 ^ 32
  if 1 ≤ d ∧ d < 2 ^ 31 ∧ syncUp s then syncUpdate (setFabFlag s f { x with copy := v, copyCount := count }) 1 f v else s

/-- The packet of a release or a notify, multicast packets carrying their own module as DST_MODULE. -/
def releasePacket (s : State) (g e dst : Nat) : FabPacket :=
  { blankPacket with opc := 0x11, vc := 0, dst := BitVec.ofNat 12 dst, src := BitVec.ofNat 12 s.fab.own, group := BitVec.ofNat 10 g,
                     tmo := BitVec.ofNat 10 (dval s Obj.fabricTimeout), w5 := BitVec.ofNat 64 (e % 2 ^ 32) }

def notifyPacket (s : State) (f count : Nat) (v : Word) (g : Nat) : FabPacket :=
  { blankPacket with opc := 0x15, vc := 0, dst := BitVec.ofNat 12 s.fab.own, src := BitVec.ofNat 12 s.fab.own, group := BitVec.ofNat 10 g,
                     flag := BitVec.ofNat 12 f, tmo := BitVec.ofNat 10 (dval s Obj.fabricTimeout),
                     w4 := BitVec.ofNat 64 count, w5 := v }

/-- HOME releases an epoch over its group (R259). -/
def sendRelease (s : State) (g e : Nat) : State := originateVc0 s (releasePacket s g e s.fab.own)

/-- HOME records a module's arrival (R259). -/
def doBarArrive (s : State) (src g e : Nat) : State :=
  let b := barAt s g
  if barHome b ≠ s.fab.own ∨ !syncUp s then s
  else
    let ahead := (e + 2 ^ 32 - b.homeEpoch) % 2 ^ 32
    if ahead ≥ 2 ^ 31 then
      (if isOwn s src then doReleased s g e else originateVc0 s (releasePacket s g e src))
    else if ahead ≥ 2 then raise s (siteFD s.fab.syncDie) 0x0D 0x13 1 false (g % 1024 + e % 2 ^ 30 * 1024)
    else
      let m := addPos (tget (fun _ => []) b.maps e) src
      if ahead = 0 ∧ m.length ≥ barExpect b then
        sendRelease (setBar s g { b with maps := tdel b.maps e, homeEpoch := (e + 1) % 2 ^ 32 }) g e
      else setBar s g { b with maps := tset (fun _ => []) b.maps e m }

/-- A change of a flag at HOME is notified when notify is on (R260). -/
def flagChanged (s : State) (f : Nat) (v : Word) : State :=
  let x := fabFlagAt s f
  let c := (x.changes + 1) % 2 ^ 32
  let s := setFabFlag s f { x with value := v, changes := c }
  if x.notifyOn then originateVc0 s (notifyPacket s f c v x.notify) else s

/-- A flag operation takes effect at HOME: its result record holds the old value. -/
def runFlag (s : State) (f : Nat) (p : FabPacket) : State :=
  let n := p.flag.toNat
  let old := (fabFlagAt s n).value
  let s := match p.opc.toNat with
    | 0x12 => flagChanged s n p.w5
    | 0x13 => flagChanged s n (old + p.w5)
    | _ => s
  decide_ s f p 0 (some (resultBytes 0 (fabRecord p) old)) []

/-- FLAG_STORE, FLAG_ADD and FLAG_READ at this module. -/
def executeFlag (s : State) (f : Nat) (p : FabPacket) : State := if syncUp s then executeReq s f p (fun s f => runFlag s f p) else s

/-! Arriving packets. -/

def execBarArrive (l : Fin 16) (p : FabPacket) (s : State) : Host.Outcome State Fault Refusal :=
  .next (if mayArrive s l.val p 0x10 then
    arriveUni s l.val p (fun s => doBarArrive s p.src.toNat p.group.toNat (p.w5.toNat % 2 ^ 32)) else s)

/-- The multicast group that carries a release or a notify. -/
def vc0Group (s : State) (p : FabPacket) : Nat := if p.opc = 0x11 then barRelease (barAt s p.group.toNat) else p.group.toNat % 256

/-- A release or a notify taken by this module's sync die (R256). -/
def takeVc0 (s : State) (p : FabPacket) : State :=
  if p.opc = 0x11 then doReleased s p.group.toNat (p.w5.toNat % 2 ^ 32) else doNotified s p.flag.toNat (p.w4.toNat % 2 ^ 32) p.w5

/-- A multicast release or notify at a fabric die: copied on over its group, and taken here by a member. -/
def spreadVc0 (s : State) (f : Nat) (arr : Option Nat) (p : FabPacket) : State :=
  let g := vc0Group s p
  let s := match arr with | some l => holdMulti { s with sent := s.sent.erase (.fabIn l p) } l (copyCount s f arr g p) p | none => s
  let s := routeMulti s f arr g p
  if groupLocal s g then takeVc0 s p else s

/-- A release: sent to this module alone, passed on to another, or copied on over the group of its barrier. -/
def doBarRelease (s : State) (l : Nat) (p : FabPacket) : State :=
  if p.dst ≠ p.src then arriveUni s l p (fun s => takeVc0 s p)
  else spreadVc0 s (l / 2) (some l) p

def execBarRelease (l : Fin 16) (p : FabPacket) (s : State) : Host.Outcome State Fault Refusal :=
  .next (if mayArrive s l.val p 0x11 then doBarRelease s l.val p else s)

def execFlagStore (l : Fin 16) (p : FabPacket) (s : State) : Host.Outcome State Fault Refusal :=
  .next (if mayArrive s l.val p 0x12 then arriveUni s l.val p (fun s => executeFlag s (l.val / 2) p) else s)
def execFlagAdd (l : Fin 16) (p : FabPacket) (s : State) : Host.Outcome State Fault Refusal :=
  .next (if mayArrive s l.val p 0x13 then arriveUni s l.val p (fun s => executeFlag s (l.val / 2) p) else s)
def execFlagRead (l : Fin 16) (p : FabPacket) (s : State) : Host.Outcome State Fault Refusal :=
  .next (if mayArrive s l.val p 0x14 then arriveUni s l.val p (fun s => executeFlag s (l.val / 2) p) else s)

def doFabNotify (s : State) (l : Nat) (p : FabPacket) : State :=
  spreadVc0 s (l / 2) (some l) p

def execFabFlagNotify (l : Fin 16) (p : FabPacket) (s : State) : Host.Outcome State Fault Refusal :=
  .next (if mayArrive s l.val p 0x15 then doFabNotify s l.val p else s)

/-! The sync die's own packets. -/

/-- A VC0 packet leaves its origin now (R259, R260). -/
def launchVc0 (s : State) (f : Nat) (p : FabPacket) : State :=
  if p.opc = 0x15 ∨ p.opc = 0x11 ∧ p.dst = p.src then spreadVc0 s f none p
  else if isOwn s p.dst.toNat then
    (if p.opc = 0x10 then doBarArrive s p.src.toNat p.group.toNat (p.w5.toNat % 2 ^ 32) else executeFlag s f p)
  else routeUni s f none p

/-- A packet of the sync die as it leaves now: SENT, and on attempt 0 FIRST, are the time (R239, R265). -/
def stampVc0 (s : State) (p : FabPacket) : FabPacket :=
  { p with sent := s.now
           w4 := if p.attempt = 0 ∧ (p.opc = 0x10 ∨ p.opc = 0x12 ∨ p.opc = 0x13 ∨ p.opc = 0x14) then BitVec.ofNat 64 (s.now.toNat % 2 ^ 32 * 2 ^ 32) else p.w4 }

/-- A flag operation leaves for the first time: it takes a tag, and its timeout starts (R263, R265); without a route it ends at once and nothing
is sent (R229, R242). -/
def startFlagOp (s : State) (p : FabPacket) : State :=
  let f := s.fab.syncDie
  if noRoute s p.dst.toNat then s
  else match freeFabTag s f with
    | none => s
    | some tag =>
      let p := stampVc0 s { p with origFd := BitVec.ofNat 3 f, tag := BitVec.ofNat 12 tag }
      let s := bump s Obj.fabricRequests
      launchVc0 { s with fab := { s.fab with ops := s.fab.ops ++
        [{ fd := f, tag := tag, packet := p, first := s.ticks, attempt := 0, owner := .sync p.flag.toNat, members := 1, done := [], other := none }] } } f p

/-- The sync die originates a packet; a barrier arrival's time limit starts anew (R259). -/
def sendVc0 (s : State) (p : FabPacket) : State :=
  if p.opc.toNat ≥ 0x12 ∧ p.opc.toNat ≤ 0x14 ∧ p.attempt = 0 then startFlagOp s p
  else
    let g := p.group.toNat
    let s := if p.opc = 0x10 ∧ (barAt s g).sentAt.isSome then setBar s g { barAt s g with sentAt := some s.ticks } else s
    launchVc0 s s.fab.syncDie (stampVc0 s p)

/-- The sync die's next packet leaves, when the origin injection grants it (R250, R251); at shedding level 3 and above, and while the module
leaves, fabric dies originate nothing (R272, R326). -/
def releasePaced (s : State) : State :=
  match nextVc0 s with
  | none => s
  | some e =>
    let f := s.fab.syncDie
    let s := inject s f
    if (arbAt s .fabric (16 + f)).holder = some 18 then
      let s := arbRelease s .fabric (16 + f)
      sendVc0 { s with fab := { s.fab with paced := s.fab.paced.erase e, lastVc0 := tput s.fab.lastVc0 f s.ticks } } e.2
    else s

/-- What the clock drives: request packets (R93) and VC0 packets (R250) whose turn has come. -/
def fabricClock (s : State) : State := releasePaced (pumpAll s)

/-- BAR_ARRIVE for a group's epoch (R259). -/
def sendBarArrive (s : State) (g : Nat) : State :=
  let b := barAt s g
  originateVc0 (setBar s g { b with sentAt := some s.ticks })
    { blankPacket with opc := 0x10, vc := 0, origFd := BitVec.ofNat 3 s.fab.syncDie, dst := BitVec.ofNat 12 (barHome b),
                       src := BitVec.ofNat 12 s.fab.own, group := BitVec.ofNat 10 g, tmo := BitVec.ofNat 10 (dval s Obj.fabricTimeout),
                       w5 := BitVec.ofNat 64 b.epoch }

/-! A tile's CSRs (R261). -/

def fabSync (s : State) (k op n : Nat) (v : Word) : State :=
  ctrlSendFrom s (siteCD (k / 64)) (siteFD s.fab.syncDie) 0x70 (op + 4 * n) [v]

/-- FAB_EPOCH of a group as a die knows it. -/
def dieEpoch (s : State) (cd g : Nat) : Nat := tget (fun _ => 0) (dieAt s cd).fabEpoch g

/-- A write to FAB_ARRIVE: an arrival for the epoch FAB_EPOCH shows; a second before its release stalls the core. -/
def doFabArrive (s : State) (k g : Nat) : State :=
  let t := tileAt s k
  let e := dieEpoch s (k / 64) g
  if tfind t.fabArr g = some e then s
  else fabSync (setTile s k { t with fabArr := tput t.fabArr g e }) k 0 g (BitVec.ofNat 64 e)

def execFabArrive (cd : Fin 16) (t : Fin 64) (v : Word) (s : State) : Host.Outcome State Fault Refusal :=
  .next (if tileLive s (tkey cd t) then doFabArrive s (tkey cd t) (v.toNat % 1024) else s)

def execFabFlagValue (cd : Fin 16) (t : Fin 64) (v : Word) (s : State) : Host.Outcome State Fault Refusal :=
  .next (if tileLive s (tkey cd t) then fabSync s (tkey cd t) 1 ((tileAt s (tkey cd t)).fabFsel.toNat % 4096) v else s)

def execFabFlagAdd (cd : Fin 16) (t : Fin 64) (v : Word) (s : State) : Host.Outcome State Fault Refusal :=
  .next (if tileLive s (tkey cd t) then fabSync s (tkey cd t) 2 ((tileAt s (tkey cd t)).fabFsel.toNat % 4096) v else s)

/-! FAB_SYNC at the sync die (R262, R263). -/

/-- The CONTROL packet of a FAB_SYNC. -/
def fabSyncPacket (s : State) (cd : Fin 16) (seq : BitVec 32) (op n : Nat) (v : Word) : SigPacket :=
  ctrlPacket (siteCD cd.val) (siteFD s.fab.syncDie) 0x70 seq (op + 4 * n) [v]

/-- The sync die is in service and a compute die's packet reaches it (R90). -/
def syncHears (s : State) (cd : Fin 16) : Bool := syncUp s && sigPath s (siteCD cd.val) (siteFD s.fab.syncDie)

/-- Arrivals of this module's tiles for the running epoch; the LOCAL-th sends BAR_ARRIVE. -/
def doSyncArrived (s : State) (g : Nat) (e : Word) : State :=
  let b := barAt s g
  if barLocal b = 0 ∨ e.toNat ≠ b.epoch ∨ b.sentAt.isSome then s
  else
    let s := setBar s g { b with arrived := b.arrived + 1 }
    if b.arrived + 1 ≥ barLocal b then sendBarArrive s g else s

def execFabSyncArrive (cd : Fin 16) (seq : BitVec 32) (g : BitVec 12) (e : Word) (s : State) : Host.Outcome State Fault Refusal :=
  .next (if syncHears s cd then doSyncArrived (sigArrive s (fabSyncPacket s cd seq 0 g.toNat e)) (g.toNat % 1024) e else s)

/-- The packet of a flag operation of this module, before it has a tag. -/
def flagOpPacket (s : State) (opc f : Nat) (v : Word) : FabPacket :=
  { blankPacket with opc := BitVec.ofNat 8 opc, vc := 0, dst := BitVec.ofNat 12 (fabFlagAt s f).home, src := BitVec.ofNat 12 s.fab.own,
                     flag := BitVec.ofNat 12 f, tmo := BitVec.ofNat 10 (dval s Obj.fabricTimeout), w5 := v }

/-- The sync die has a flag operation to originate (R263). -/
def sendFlagOp (s : State) (opc f : Nat) (v : Word) : State := originateVc0 s (flagOpPacket s opc f v)

def execFabSyncFlagStore (cd : Fin 16) (seq : BitVec 32) (f : BitVec 12) (v : Word) (s : State) : Host.Outcome State Fault Refusal :=
  .next (if syncHears s cd then sendFlagOp (sigArrive s (fabSyncPacket s cd seq 1 f.toNat v)) 0x12 f.toNat v else s)

def execFabSyncFlagAdd (cd : Fin 16) (seq : BitVec 32) (f : BitVec 12) (v : Word) (s : State) : Host.Outcome State Fault Refusal :=
  .next (if syncHears s cd then sendFlagOp (sigArrive s (fabSyncPacket s cd seq 2 f.toNat v)) 0x13 f.toNat v else s)

/-! The sync die's announcements at the compute dies (R262). -/

def updatePacket (fd : Fin 8) (seq : BitVec 32) (op n : Nat) (v : Word) : SigPacket :=
  ctrlPacket (siteFD fd.val) 0x7F 0x71 seq (op + 2 * n) [v]

/-- Compute dies that are on. -/
def liveDies (s : State) : List Nat := (List.range 16).filter (fun n => domAt s (domCD n) == .on && !fencedSite s (siteCD n))

/-- Compute dies that a fabric die's announcement reaches (R90). -/
def hearing (s : State) (fd : Fin 8) : List Nat := (liveDies s).filter (fun n => sigPath s (siteFD fd.val) (siteCD n))

def execFabSyncRelease (fd : Fin 8) (seq : BitVec 32) (g : BitVec 12) (e : Word) (s : State) : Host.Outcome State Fault Refusal :=
  .next ((hearing s fd).foldl (fun s n =>
    setDie s n { dieAt s n with fabEpoch := tset (fun _ => 0) (dieAt s n).fabEpoch g.toNat (e.toNat % 2 ^ 32) })
    (sigArrive s (updatePacket fd seq 0 g.toNat e)))

def execFabSyncFlag (fd : Fin 8) (seq : BitVec 32) (f : BitVec 12) (v : Word) (s : State) : Host.Outcome State Fault Refusal :=
  .next ((hearing s fd).foldl (fun s n =>
    setDie s n { dieAt s n with fabCopy := tset (fun _ => 0) (dieAt s n).fabCopy f.toNat v })
    (sigArrive s (updatePacket fd seq 1 f.toNat v)))

/-! Time limits. -/

/-- No release within FABRIC_TIMEOUT: BAR_ARRIVE again (R259). -/
def execBarrierResend (g : Fin 1024) (s : State) : Host.Outcome State Fault Refusal :=
  .next (match (barAt s g.val).sentAt with
    | some t =>
      if s.ticks ≥ t + fabricT s ∧ syncUp s ∧ !originatesNone s ∧ !s.fab.paced.any (fun e => e.2.opc == 0x10 && e.2.group.toNat == g.val)
      then sendBarArrive s g.val else s
    | none => s)

/-- An attempt again: routed, executed here, or paced as a VC0 packet; with no route at the origin the operation ends (R255). -/
def resend (s : State) (f : Nat) (o : FabOp) : State :=
  if originatesNone s then s
  else if o.packet.opc ≠ 5 ∧ noRoute s o.packet.dst.toNat then endOp s o 11 [] []
  else
    let s := bump s Obj.fabricRetries
    if o.packet.vc = 0 then originateVc0 s o.packet else sendAttempt s f o.packet

/-- The destination of an operation is held back by a drain: no timeout runs (R271). -/
def opDrained (s : State) (o : FabOp) : Bool := if o.packet.opc = 5 then drainedGroup s (o.packet.group.toNat % 256) else drained s o.packet.dst.toNat

/-- A request's window passes without an answer (R265). -/
def doAttemptTimeout (s : State) (f tag : Nat) : State :=
  match s.fab.ops.find? (fun o => o.fd == f && o.tag == tag) with
  | none => s
  | some o =>
    if s.ticks < o.first + (o.attempt + 1) * (o.packet.tmo.toNat * 1000) then s
    else if o.attempt ≥ 2 then endUnanswered s o
    else if opDrained s o then s
    else
      let o' := { o with attempt := o.attempt + 1, packet := { o.packet with attempt := BitVec.ofNat 2 (o.attempt + 1), sent := s.now } }
      resend { s with fab := { s.fab with ops := s.fab.ops.map (fun x => if x = o then o' else x) } } f o'

def execAttemptTimeout (fd : Fin 8) (tag : BitVec 12) (s : State) : Host.Outcome State Fault Refusal :=
  .next (if fdUp s fd.val then doAttemptTimeout s fd.val tag.toNat else s)

/-! Tables (R259, R260). -/

/-- Entry g of BARRIER_TABLE as 8 bytes: reserved bits zero. -/
def barEntryOk (w : Nat) : Bool := fld w 12 4 == 0 && fld w 28 4 == 0 && fld w 51 13 == 0 && decide (fld w 40 11 ≤ 1024)

/-- A write of BARRIER_TABLE: each entry written resets its epochs and maps at this module. -/
def doBarrierTable (s : State) (bs : List Byte) : Bool × State :=
  if bs.length ≠ 8192 ∨ !(List.range 1024).all (fun g => barEntryOk (leAt bs (8 * g) 8)) then (false, s)
  else
    let s := overNats (List.range 1024) (fun g s => setBar s g { entry := BitVec.ofNat 64 (leAt bs (8 * g) 8) }) s
    (true, overNats (List.range 16) (fun n s => setDie s n { dieAt s n with fabEpoch := [] }) s)

def execBarrierTable (bs : List Byte) (s : State) : Host.Outcome State Fault Refusal := .next (doBarrierTable s bs).2

def flagEntryOk (bs : List Byte) : Bool := leAt bs 0 2 < 4096 && leAt bs 3 1 ≤ 1 && leAt bs 4 4 == 0

/-- A write of FLAG_TABLE: each entry written sets its flag to INITIAL where this module is its HOME. -/
def doFlagTable (s : State) (bs : List Byte) : Bool × State :=
  if bs.length ≠ 65536 ∨ !(List.range 4096).all (fun f => flagEntryOk (slice bs (16 * f) 16)) then (false, s)
  else
    (true, overNats (List.range 4096) (fun f s =>
      let e := slice bs (16 * f) 16
      let x := fabFlagAt s f
      setFabFlag s f { x with home := leAt e 0 2, notify := leAt e 2 1, notifyOn := leAt e 3 1 == 1, initial := BitVec.ofNat 64 (leAt e 8 8),
                              value := BitVec.ofNat 64 (leAt e 8 8) }) s)

def execFlagTable (bs : List Byte) (s : State) : Host.Outcome State Fault Refusal := .next (doFlagTable s bs).2

/-! The sync die is fenced (R263). -/

/-- The next fabric die in service takes the role: empty maps, home epochs at 0, flags at INITIAL. -/
def doSyncTakeover (s : State) : State :=
  match (List.range 8).find? (fdUp s) with
  | none => s
  | some n =>
    if syncUp s then s
    else
      let s := { s with fab := { s.fab with
        syncDie := n, syncLost := none,
        bars := s.fab.bars.map (fun e => (e.1, { e.2 with maps := [], homeEpoch := 0 })),
        flags := s.fab.flags.map (fun e => (e.1, { e.2 with value := e.2.initial })) } }
      raise s (siteFD n) 0x0D 0x33 4 false n

def execSyncDieTakeover (s : State) : Host.Outcome State Fault Refusal := .next (doSyncTakeover s)

end Sys2Proof.Machine
end

