-- ==== Sys2Proof/Machine/FabLinks.lean ====
section
/-! DEFINITION. External links: bursts, credits, bring-up, line maps, and the slots of the module (R231 to R238, R108, R113). -/
namespace Sys2Proof.Machine

def linkFd (l : Nat) : Nat := l / 2
def linkPort (l : Nat) : Nat := 350 + l

/-! VC3 packets of the module (R235, R311). -/

/-- Queue a VC3 packet for its one link, which HOPS counts (R254). -/
def queueVc3 (s : State) (l : Nat) (p : FabPacket) : State := enqueue s l { p with hops := p.hops + 1 }

def vc3Packet (s : State) (opc : Nat) (data : List Flit) (w4 w5 : Nat) : FabPacket :=
  { blankPacket with opc := BitVec.ofNat 8 opc, vc := 3, len := BitVec.ofNat 5 data.length, src := BitVec.ofNat 12 s.fab.own, sent := s.now,
                     w4 := BitVec.ofNat 64 w4, w5 := BitVec.ofNat 64 w5, data := data }

/-- HELLO of this end: module, fabric die, port, ACK, and its exclusion sets. -/
def helloPacket (s : State) (l : Nat) : FabPacket :=
  let v := portAt s (linkPort l)
  let bytes := toLe 2 s.fab.own ++ [BitVec.ofNat 8 (linkFd l), BitVec.ofNat 8 (l % 2), BitVec.ofNat 8 (b2n (linkAt s l).heard), 0, 0, 0] ++
    toLe 8 v.txSet.toNat ++ toLe 8 v.rxSet.toNat ++ List.replicate 40 0
  vc3Packet s 0x21 [{ data := bytes, poison := false }] 0 0

/-! Rings by number: port, end, line. -/

def ringKey (p : Nat) (rx : Bool) (line : Nat) : Nat := 72 * p + 36 * b2n rx + line
def ringAt_ (s : State) (k : Nat) : Ring := tget (fun _ => {}) s.light.rings k

/-- The rings of an external port are locked on every line that is not excluded (R153, R235). -/
def portLocked (s : State) (p : Nat) : Bool :=
  let v := portAt s p
  (List.range 36).all (fun line =>
    (v.txSet.getLsbD line || (ringAt_ s (ringKey p false line)).state == 4) &&
    (v.rxSet.getLsbD line || (ringAt_ s (ringKey p true line)).state == 4))

/-- A link's end sends slots: it is UP, or it trains and its lines are locked and calibrated; before that it lights them with PRBS-15 (R231,
R235). -/
def linkLit (s : State) (l : Nat) : Bool :=
  match (linkAt s l).mode with
  | .down => false
  | .training => (linkAt s l).trained && portLocked s (linkPort l)
  | .up => true

/-- Every frame each lit link sends HELLO in slot 0, and every 64th frame TIME on each link that is UP. -/
def linkChatter (s : State) (sl l : Nat) : State :=
  if sl ≠ 0 then s
  else
    let s := queueVc3 s l (helloPacket s l)
    if linkIsUp s l ∧ frameNo s % 64 = 0 then queueVc3 s l (vc3Packet s 0x20 [timePayload s l] 0 0) else s

/-- A step the neighbour announced for a link is in force (R237): its line and side, for 1,024 frames from F. -/
def farStep (s : State) (l : Nat) (rx : Bool) : Option Nat :=
  ((linkAt s l).calFrames.find? (fun e => e.2.2 == rx && decide (e.2.1 ≤ frameNo s ∧ frameNo s < e.2.1 + 1024))).map (·.1)

/-- Lines out of use in the direction that leaves a link's port (R236). -/
def extOut (s : State) (l : Nat) : BitVec 36 := (portAt s (linkPort l)).txSet ||| (linkAt s l).farRx

/-- A line of a link's outgoing direction is under calibration at either end (R237). -/
def extCalTx (s : State) (l line : Nat) : Bool := (portAt s (linkPort l)).calTx == some (Fin.ofNat 36 line) || farStep s l true == some line

/-- The line of a logical lane that leaves on an external link (R105, R237). -/
def extTxLane (s : State) (l k : Nat) : Nat :=
  let line := ((laneMap (extOut s l)).getD k none).getD 33
  if extCalTx s l line && !(extOut s l).getLsbD 33 then 33 else line

/-- The lines that carry PRBS-15 in a burst of an external link (R237). -/
def extPrbs (s : State) (l : Nat) : List Nat :=
  let carried := (List.range 32).map (extTxLane s l)
  (List.range 36).filter (fun k => extCalTx s l k && !(extOut s l).getLsbD k && !carried.contains k)

/-- A slot at an external link that is lit (R231): packets and credit counts, or IDLE when there is nothing to send. While its rings lock and
are calibrated its end sends PRBS-15 on every line but lambda 32 (R235). -/
def extSlot (s : State) (sl l : Nat) : State :=
  if !linkLit s l then
    (if (linkAt s l).mode = .training then
       emit s (.ext l (markFor sl) 0 [] ((List.range 36).filter (fun k => k != 32 && !(portAt s (linkPort l)).txSet.getLsbD k)))
     else s)
  else
    let s := linkChatter s sl l
    let me := portSite (linkPort l)
    let far := (linkAt s l).neighbour.getD (0, 0, 0)
    let h : SlotHeader := { srcSite := BitVec.ofNat 7 me.1, srcPort := BitVec.ofNat 4 me.2, dstSite := BitVec.ofNat 7 (siteFD far.2.1),
                            dstPort := BitVec.ofNat 4 far.2.2, kind := 0, flits := 0, last := false, flow := 0, gen := 0,
                            service := 0, poison := 0, offset := 0, tile := 0, tag := 0, req := false, more := 0,
                            frame := BitVec.ofNat 32 (frameNo s) }
    match fillSlot s l h with
    | (none, s) => emit s (.ext l (markFor sl) (headNat h) [] (extPrbs s l))
    | (some x, s) => emit (bump s (Obj.linkFlitsSent + 256 * l) x.2.length) (.ext l (markFor sl) (headNat x.1) x.2 (extPrbs s l))

/-- SLOT_START: every internal port, and every lit external link. -/
def execSlotStart (sl : Fin 64) (short : List (Nat × Nat)) (s : State) : Host.Outcome State Fault Refusal :=
  .next (if slotDue s sl then overNats (List.range 16) (fun l s => extSlot s sl.val l) (doSlotStart s sl short) else s)

/-! Ingress (R232, R238). -/

/-- The line of a logical lane arriving on an external link: lambda 33 while its line is under calibration at either end
(R105, R236, R237). -/
def extLane (s : State) (l k : Nat) : Nat :=
  let out := (linkAt s l).farTx ||| (portAt s (linkPort l)).rxSet
  let line := ((laneMap out).getD k none).getD 33
  let cal := (portAt s (linkPort l)).calRx == some (Fin.ofNat 36 line) || farStep s l false == some line
  if cal && !out.getLsbD 33 then 33 else line

/-- The burst index (slot and frame) predicted for now: bursts of 16 ns counted on from the last accepted (R232). -/
def predicted (s : State) (v : LinkSt) : Option Nat := v.predict.map (fun e => e.1 + (s.ticks - e.2 + 8) / 16)

/-- A discarded burst of an external link: the header and the flits of one that could be read. -/
def extDiscard (s : State) (l c : Nat) (read : Option (SlotHeader × List Flit)) : State :=
  discardSlot (breakStream s l read) (((predicted s (linkAt s l)).getD 0) % 64) (linkPort l) c none

/-- Conditions 2 to 5 of R113 on an external link: the first that fails (R232). -/
def extCondition (s : State) (l : Nat) (mark : BitVec 8) (h : SlotHeader) : Option Nat :=
  let v := linkAt s l
  let wrong := fun (m n : Nat) => match predicted s v with | some e => e / m % n | none => 0
  let slotBad := v.predict.isSome && decide (wrong 1 64 ≠ mark.toNat % 64)
  let frameBad := v.predict.isSome && decide (wrong 64 (2 ^ 32) ≠ h.frame.toNat)
  let senderBad := match v.neighbour with
    | some n => decide ((h.dstSite.toNat, h.dstPort.toNat) ≠ portSite (linkPort l) ∨ (h.srcSite.toNat, h.srcPort.toNat) ≠ (siteFD n.2.1, n.2.2))
    | none => false
  if slotBad ∨ mark.toNat / 64 ≠ 2 then some 2
  else if frameBad then some 3
  else if senderBad then some 4
  else if !((h.kind = 2 ∧ h.service = 2) ∨ h.kind = 0) then some 5
  else none

/-- Changes of the receiver's map whose frame an accepted burst belongs to take effect (R236). -/
def takeRxChanges (s : State) (l frame : Nat) : State :=
  let due := (linkAt s l).rxChanges.filter (fun e => decide (e.1 % 2 ^ 32 = frame))
  if due.isEmpty then s
  else
    let v := linkAt s l
    let s := setLink s l { v with rxChanges := v.rxChanges.filter (fun e => !due.contains e)
                                  farTx := due.foldl (fun m e => if e.2.1 then m else m ||| BitVec.ofNat 36 (2 ^ e.2.2)) v.farTx }
    (due.filter (·.2.1)).foldl (fun s e => applyExclude s (linkPort l) true e.2.2) s

/-- A burst arrives on an external link (R232). -/
def doExtBurst (s : State) (l : Nat) (bits : BitVec 14336) : State :=
  if (linkAt s l).mode = .down ∨ !fdUp s (linkFd l) then s
  else match receive bits with
    | none => extDiscard s l 1 none
    | some r =>
      if !r.checkOk then extDiscard s l 1 none
      else
        let h := natHead r.head
        let bad := extCondition s l r.mark h
        let s := if bad.isNone then takeRxChanges s l h.frame.toNat else s
        let s := countLines s (extLane s l) (linkPort l) (linkPort l) r.wrong
        match bad with
        | some c => extDiscard s l c (some (h, receivedFlits r))
        | none =>
          let v := { linkAt s l with predict := some (h.frame.toNat * 64 + r.mark.toNat % 64, s.ticks) }
          if h.kind = 2 then
            let x := joinStream (setLink s l (takeCounts v h)) l (headOf h) (receivedFlits r)
            x.1.foldl (fun s p => emit s (.fabIn l p)) x.2
          else setLink s l v

/-! Bring-up and loss (R235). -/

/-- A link may train: a module number is set, its die serves, its port has not failed, the module has neither left
nor retired (R425). -/
def linkMay (s : State) (l : Nat) : Bool :=
  s.fab.own != 0xFFFF && fdUp s (linkFd l) && !(portAt s (linkPort l)).failed && !(portAt s (linkPort l)).unpowered && !s.fab.left && decide (dval s Obj.lcState ≠ 4)

/-- Every ring of a port enters acquire from its factory baseline (R153, R235), and no step runs at the port. -/
def acquireRings (s : State) (p : Nat) : State :=
  let fresh := (List.range 72).foldl (fun t i => tset (fun _ => {}) t (72 * p + i) ({ state := 1, from_ := s.now.toNat } : Ring)) s.light.rings
  { s with light := { s.light with rings := fresh, cal := { s.light.cal with train := tdel s.light.cal.train p } } }

/-- Training begins: the port's rings acquire (R153, R235). -/
def startTraining (s : State) (l : Nat) : State :=
  let v := linkAt s l
  acquireRings (setLink s l { mode := .training, since := s.ticks, retried := v.retried }) (linkPort l)

/-- The module at the far end of a link that has just gone DOWN has vanished, if no other link to it is UP (R273). -/
def noteVanished (s : State) (m : Nat) : State :=
  if (List.range 16).any (fun l => linkIsUp s l && (match (linkAt s l).neighbour with | some n => n.1 == m | none => false)) ∨ s.fab.vanished.contains m then s
  else { s with fab := { s.fab with vanished := s.fab.vanished ++ [m] } }

/-- A link goes DOWN and dark: queued packets are discarded, its routes go to the partner; a change of this end's own sets that was
named stands (R107, R236). -/
def linkDown (s : State) (l : Nat) : State :=
  let v := linkAt s l
  if v.mode = .down then s
  else
    let s := bump s Obj.fabricRouteDiscards v.queue.length
    let s := v.queue.foldl copySent (setLink s l { mode := .down, since := s.ticks })
    let s := (v.rxChanges.filter (·.2.1)).foldl (fun s e => applyExclude s (linkPort l) true e.2.2) s
    let s := (v.queue.filter (fun p => p.opc == 0x24)).foldl (fun s p => applyExclude s (linkPort l) (bitAt p.w4.toNat 0) (fld p.w4.toNat 1 6)) s
    if v.mode = .up then
      let s := match v.neighbour with | some n => noteVanished s n.1 | none => s
      raise (bump s (Obj.linkDowns + 256 * l)) (siteFD (linkFd l)) 0x0C 0x30 4 false (l + ((v.neighbour.map (·.1)).getD 0) * 16)
    else s

/-- 32 slots without an accepted burst, or the loss of line 32 (R235). -/
def execLinkSilence (l : Fin 16) (dark : Bool) (s : State) : Host.Outcome State Fault Refusal :=
  .next (
    let v := linkAt s l.val
    let last := (v.predict.map (·.2)).getD v.since
    if v.mode = .up ∧ (dark ∨ s.ticks ≥ last + 512) then linkDown s l.val else s)

/-- Training starts from DOWN, again 4 s later, and then once every second (R235). -/
def execLinkTrainingRetry (l : Fin 16) (s : State) : Host.Outcome State Fault Refusal :=
  .next (
    let v := linkAt s l.val
    if !linkMay s l.val then s
    else match v.mode with
      | .up => s
      | .down => startTraining s l.val
      | .training =>
        if s.ticks ≥ v.since + (if v.retried then 1000000000 else 4000000000) then
          setLink (startTraining s l.val) l.val { linkAt (startTraining s l.val) l.val with retried := true }
        else s)

/-- HELLO of the neighbour (R235): recorded; UP on an ACK that names a different, set module, the credits starting at the buffer sizes; DOWN
on another neighbour. -/
def doHello (s : State) (l : Nat) (p : FabPacket) : State :=
  let s := freeInput { s with sent := s.sent.erase (.fabIn l p) } l p
  let bs := ((p.data.head?).map (·.data)).getD []
  let n := (leAt bs 0 2, leAt bs 2 1, leAt bs 3 1)
  let v := linkAt s l
  -- in service sets only grow: a HELLO sent before a change took effect does not undo it (R236)
  let old := fun (x : BitVec 36) => if v.mode = .up then x else 0
  let v := { v with heard := true, farTx := old v.farTx ||| BitVec.ofNat 36 (leAt bs 8 8), farRx := old v.farRx ||| BitVec.ofNat 36 (leAt bs 16 8) }
  match v.mode with
  | .down => s
  | .up => if v.neighbour = some n then setLink s l v else linkDown s l
  | .training =>
    if bitAt (leAt bs 4 1) 0 && decide (n.1 < 4096) && decide (n.1 ≠ s.fab.own) then
      setLink s l { v with mode := .up, since := s.ticks, neighbour := some n, sent := [], got := [], freed := [], told := [], vc0Out := [] }
    else setLink s l v

def execHello (l : Fin 16) (p : FabPacket) (s : State) : Host.Outcome State Fault Refusal :=
  .next (if p.opc = 0x21 ∧ shapeOk p ∧ linkMay s l.val then doHello s l.val p else s)

/-! Line maps (R236). -/

/-- A change of the receiver's map from the first accepted burst of frame `f` on (R236). -/
def addRxChange (s : State) (l f : Nat) (own : Bool) (line : Nat) : State :=
  setLink s l { linkAt s l with rxChanges := (linkAt s l).rxChanges ++ [(f, own, line)] }

/-- LANE_EXCLUDE of an internal port, or of an external port that is also announced to the neighbour at least 8 frames
ahead; a transmitter applies the change at that frame, a receiver from its first accepted burst on (R236). -/
def execLaneExclude (src : BitVec 7) (seq : BitVec 32) (p : Fin 366) (rx : Bool) (line : Fin 36) (t : Word) (s : State) :
    Host.Outcome State Fault Refusal :=
  .next (
    let s := sigArrive s (ctrlPacket src.toNat 0x7F 0x35 seq (p.val + 512 * b2n rx + 1024 * line.val) [t])
    let r := ctrlTakeAll s src seq
    if !r.1 then r.2
    else if p.val < 350 ∨ !linkIsUp r.2 (p.val - 350) then
      nameChange r.2 t (.laneExclude p.val rx line.val) (fun s => applyExclude s p.val rx line.val)
    else
      queueVc3 r.2 (p.val - 350) (vc3Packet r.2 0x24 [] (b2n rx + 2 * line.val) (t.toNat / 1024)))

/-- The neighbour's change, from frame F on. -/
def execLinkExclude (l : Fin 16) (p : FabPacket) (s : State) : Host.Outcome State Fault Refusal :=
  .next (if mayArrive s l.val p 0x24 then
    (let s := freeInput { s with sent := s.sent.erase (.fabIn l.val p) } l.val p
     let line := fld p.w4.toNat 1 6
     if bitAt p.w4.toNat 0 then schedule s (BitVec.ofNat 64 (1024 * p.w5.toNat)) (.linkExclude l.val true line)
     else addRxChange s l.val p.w5.toNat false line)
    else s)

/-- At F the neighbour's set holds the line. -/
def applyLinkExclude (s : State) (l : Nat) (rx : Bool) (line : Nat) : State :=
  let v := linkAt s l
  let bit : BitVec 36 := BitVec.ofNat 36 (2 ^ line)
  if v.mode ≠ .up then s
  else setLink s l (if rx then { v with farRx := v.farRx ||| bit } else { v with farTx := v.farTx ||| bit })

/-! Routing sets, drains and leaving (R257, R271, R272). -/

/-- Packets copied over a multicast group (R256). -/
def isMulti (p : FabPacket) : Bool := p.opc == 5 || p.opc == 0x15 || (p.opc == 0x11 && p.dst == p.src)

/-- The group of such a packet. -/
def multiGroup (s : State) (p : FabPacket) : Nat := if p.opc = 5 then p.group.toNat % 256 else vc0Group s p

/-- Bytes of a routing set. -/
def routeBytes (t : Tbl Nat) : List Byte :=
  let body := (List.range 4096).flatMap (fun m => toLe 2 (tget (fun _ => 0) t m)) ++
    (List.range 256).flatMap (fun g => toLe 4 (tget (fun _ => 0) t (4096 + g)))
  [1, 0, 0, 0] ++ toLe 4 (crc32c body) ++ List.replicate 8 0 ++ body

/-- A routing set that R257 accepts. -/
def routeSetOk (s : State) (bs : List Byte) : Bool :=
  bs.length == 9232 && leAt bs 0 4 == 1 && leAt bs 8 8 == 0 && leAt bs 4 4 == crc32c (bs.drop 16) &&
  (List.range 4096).all (fun m =>
    let e := leAt bs (16 + 2 * m) 2
    decide (e < 256) && (if m = s.fab.own then e / 32 % 2 == 1 else e / 32 % 2 == 0) &&
    (e / 32 % 2 == 0 || e % 128 == 32)) &&
  (List.range 256).all (fun g => decide (leAt bs (8208 + 4 * g) 4 < 2 ^ 27))

/-- Entries of a routing set from its bytes (R257). -/
def routeEntries (bs : List Byte) : Tbl Nat :=
  ((List.range 4096).map (fun m => (m, leAt bs (16 + 2 * m) 2)) ++ (List.range 256).map (fun g => (4096 + g, leAt bs (8208 + 4 * g) 4))).filter (fun e => e.2 != 0)

/-- ROUTE_SHADOW: refused whole, or the shadow. -/
def doRouteShadow (s : State) (bs : List Byte) : Bool × State :=
  if !routeSetOk s bs then (false, s)
  else (true, { s with fab := { s.fab with shadow := routeEntries bs } })

def execRouteShadow (bs : List Byte) (s : State) : Host.Outcome State Fault Refusal := .next (doRouteShadow s bs).2

/-- Keys whose entries differ between the active set and the shadow. -/
def routeDiff (s : State) : List Nat :=
  (((s.fab.active ++ s.fab.shadow).map (·.1)).eraseDups).filter (fun k => tget (fun _ => 0) s.fab.active k != tget (fun _ => 0) s.fab.shadow k)

/-- A drain begins (R271 step 1); one that runs goes on, and answers one more leaver. -/
def startDrain (s : State) (leaver : Option Nat) : State :=
  match s.fab.drain with
  | some d =>
    match leaver with
    | some l => { s with fab := { s.fab with drain := some { d with leavers := addPos d.leavers l } } }
    | none => s
  | none =>
    let diff := routeDiff s
    let ms := diff.filter (· < 4096)
    let gs := (diff.filter (4096 ≤ ·)).map (· - 4096)
    let hit := fun (p : FabPacket) => if isMulti p then gs.contains (multiGroup s p) else ms.contains p.dst.toNat
    let q := s.fab.links.flatMap (fun e => e.2.queue.filter hit)
    { s with fab := { s.fab with drain := some { at_ := s.ticks, modules := ms, groups := gs, leavers := leaver.toList, queued := q, flushed := false, shadow := s.fab.shadow } } }

def execRouteSwap (v : BitVec 8) (s : State) : Host.Outcome State Fault Refusal :=
  .next (if v = 1 ∧ s.fab.drain.isNone then startDrain s none else s)

/-- 195 microseconds after a drain began, affected packets still queued are discarded, and the switch is named (R271 steps
2 and 3). -/
def doFlushEnd (s : State) : State :=
  match s.fab.drain with
  | none => s
  | some d =>
    if d.flushed ∨ s.ticks < d.at_ + 195000 then s
    else
      let s := overNats (s.fab.links.map (·.1)) (fun l s =>
        let v := linkAt s l
        let keep := v.queue.filter (fun p => !d.queued.contains p)
        let s := (v.queue.filter (fun p => d.queued.contains p)).foldl copySent (setLink s l { v with queue := keep })
        bump s Obj.fabricDrainDiscards (v.queue.length - keep.length)) s
      schedule { s with fab := { s.fab with drain := some { d with flushed := true } } } (boundaryAfter s 1024) .routeSwitch

def execDrainFlushEnd (s : State) : Host.Outcome State Fault Refusal := .next (doFlushEnd s)

/-- The record of the active routing set (R257, R398 type 0x0050), in parts of 40 bytes. -/
def routeRecord (s : State) : State :=
  let bs := routeBytes s.fab.active
  overNats (List.range 231) (fun i s => queueClassC s 0x0050 0 (slice bs (40 * i) 40) i) s

/-- The shadow that the drain holds becomes active, and lost paths carry traffic again (R273); a drain that a LEAVE started answers DRAINED
(R271 steps 3 and 4). -/
def applyRouteSwitch (s : State) : State :=
  match s.fab.drain with
  | none => s
  | some d =>
    let s := routeRecord { s with fab := { s.fab with active := d.shadow, drain := none, vanished := [] } }
    d.leavers.foldl (fun s l => if linkIsUp s l then queueVc3 s l (vc3Packet s 0x23 [] 0 0) else s) s

def execLeave (l : Fin 16) (p : FabPacket) (s : State) : Host.Outcome State Fault Refusal :=
  .next (if mayArrive s l.val p 0x22 then
    startDrain (freeInput { s with sent := s.sent.erase (.fabIn l.val p) } l.val p) (some l.val) else s)

def execDrained (l : Fin 16) (p : FabPacket) (s : State) : Host.Outcome State Fault Refusal :=
  .next (if mayArrive s l.val p 0x23 then
    (let s := freeInput { s with sent := s.sent.erase (.fabIn l.val p) } l.val p
     { s with fab := { s.fab with drainedFrom := if s.fab.leaving.isSome then addPos s.fab.drainedFrom l.val else s.fab.drainedFrom } })
    else s)

/-- FABRIC_LEAVE: LEAVE on every up link (R272 step 1). -/
def doFabricLeave (s : State) : State :=
  if s.fab.leaving.isSome ∨ s.fab.left then s
  else
    let s := overNats ((List.range 16).filter (linkIsUp s)) (fun l s => queueVc3 s l (vc3Packet s 0x22 [] 0 0)) s
    { s with fab := { s.fab with leaving := some s.ticks, drainedFrom := [] } }

def execFabricLeave (v : BitVec 8) (s : State) : Host.Outcome State Fault Refusal := .next (if v = 1 then doFabricLeave s else s)

/-- The module's links go dark: it has left (R272 step 4). -/
def goDark (s : State) : State :=
  let s := overNats (List.range 16) (fun l s => linkDown s l) s
  { s with fab := { s.fab with leaving := none, left := true, leaveEnd := none } }

/-- Every up link has answered DRAINED, or 250 microseconds have passed: the queues empty, within 20 microseconds, and the links go dark
(R272). -/
def doLeaveTimeout (s : State) : State :=
  match s.fab.leaving with
  | none => s
  | some t =>
    let ups := (List.range 16).filter (linkIsUp s)
    if s.ticks < t + 250000 ∧ !ups.all (fun l => s.fab.drainedFrom.contains l) then s
    else if ups.all (fun l => (linkAt s l).queue.isEmpty && (linkAt s l).out.isEmpty) then goDark s
    else match s.fab.leaveEnd with
      | none => { s with fab := { s.fab with leaveEnd := some s.ticks } }
      | some e => if s.ticks < e + 20000 then s else goDark s

def execLeaveTimeout (s : State) : Host.Outcome State Fault Refusal := .next (doLeaveTimeout s)

/-- ROUTE_STATE (R275). -/
def routeState (s : State) : Nat :=
  if s.fab.left then 3 else if s.fab.leaving.isSome then 2 else if s.fab.drain.isSome then 1 else 0

/-! Packets over the house pairs (R246 to R248). -/

/-- A packet handed over to fabric die `f` by another: sent on, or run here (R247, R248, R255, R256). -/
def handedOver (s : State) (f : Nat) (p : FabPacket) : State :=
  if isMulti p then copyMulti s f none (multiGroup s p) p
  else if !isOwn s p.dst.toNat then routeUni s f none p
  else if p.opc = 8 then answerHere s f p
  else if p.opc = 0x13 then executeFlag s f p
  else executeMem s f p

/-- A packet that arrived over a path at the die at site `me` from the die at site `peer`. -/
def takePath (s : State) (me peer : Nat) (p : FabPacket) : State :=
  match siteKind me, siteKind peer with
  | some (.fd, f), some (.cd, c) => unitArrived s f c p
  | some (.fd, f), some (.md, _) => memAnswered s f p
  | some (.fd, f), some (.fd, _) => handedOver s f p
  | some (.cd, c), some (.fd, _) => unitAnswered s c p
  | some (.md, m), some (.fd, _) => serveUnit s m peer p
  | _, _ => s

/-- The input buffer of a packet taken from a path is freed; of a multicast packet handed over, when its copies have left (R256). -/
def pathTaken (s : State) (l : Nat) (p : FabPacket) : State :=
  match siteKind ((l - 32) / 128) with
  | some (.fd, f) =>
    if isMulti p then holdMulti s l ((groupLinks s none (multiGroup s p)).filter (fun k => k / 2 == f && linkCarries s k && decide (p.hops.toNat + 1 < 32))).length p
    else freeInput s l p
  | _ => freeInput s l p

/-- Packets that are whole are taken. -/
def drainPaths (s : State) : State :=
  s.fab.pathIn.foldl (fun s e => takePath (pathTaken s e.1 e.2) ((e.1 - 32) / 128) ((e.1 - 32) % 128) e.2) { s with fab := { s.fab with pathIn := [] } }

/-! A fabric die is fenced (R270). -/

/-- Shares of the dedupe cache that a fabric die held: its own, and those it had taken over from dies out of service before it (R270). -/
def heldShares (s : State) (n : Nat) : List Nat :=
  (List.range 8).filter (fun h => ((List.range 8).map (fun i => (h + i) % 8)).find? (fun x => x == n || fdUp s x) == some n)

/-- Its links go DOWN, its own requests end unanswered, with those of the units in its queues, the dedupe shares it held are UNKNOWN for L,
and the house pairs of it carry nothing more. -/
def fabricDieLost (s : State) (n : Nat) : State :=
  let shares := heldShares s n
  let s := dropPaths (overNats [2 * n, 2 * n + 1] (fun l s => linkDown s l) s) (siteFD n)
  let s := (s.fab.ops.filter (fun o => o.fd == n)).foldl (fun s o => { unanswered s o with fab := { s.fab with ops := s.fab.ops.erase o } }) s
  let s := (s.fab.units.filter (fun u => u.fd == n)).foldl (fun s u =>
    let s := if u.stage = 2 then s else unitUnanswered s n u
    endUnit { s with fab := { s.fab with units := s.fab.units.erase u } } u (if u.opc = 1 then 1 else 4) (if u.opc = 1 then onesLines (cdiv u.size 64) else []) []) s
  { s with fab := { s.fab with
      dedupe := s.fab.dedupe.filter (fun e => e.home != n), memWaits := s.fab.memWaits.filter (fun w => w.fd != n)
      deadShares := shares.foldl (fun t h => tput t h (s.ticks + lifetime s)) s.fab.deadShares,
      syncLost := if s.fab.syncDie = n then some s.ticks else s.fab.syncLost
      paced := if s.fab.syncDie = n then [] else s.fab.paced } }

end Sys2Proof.Machine
end

