-- ==== Sys2Proof/Machine/Time.lean ====
section
/-! DEFINITION. Module time: the timing trees, markers, sources, IEEE 1588 and steps (R293, R298 to R316). -/
namespace Sys2Proof.Machine

def setMt (s : State) (f : ModTime → ModTime) : State := { s with mt := f s.mt }

/-! The light clock (R299, R300). -/

/-- TIME_EVENT (R349): 0 holdover, 1 marker correction above 1 ns, 2 epoch reload. -/
def timeEvent (s : State) (site what : Nat) : State := raise s site 0x10 0x50 1 false what

/-- A timing receiver sees no edge for 3 ns. -/
def doHoldover (s : State) (bt : Nat) : State :=
  let b := btAt s bt
  if b.timing.holdover then s
  else
    let s := setBt s bt { b with timing := { b.timing with holdover := true, absentSince := some s.ticks } }
    timeEvent (bump s Obj.timeHoldovers) bt 0

def execHoldoverEntry (bt : Fin 8) (s : State) : Host.Outcome State Fault Refusal := .next (doHoldover s bt.val)

/-- Count of a die's module time counter (R306). -/
def siteCount (s : State) (site : Nat) : Int := s.now.toNat + tget (fun _ => 0) s.mt.skew site

/-- The nearest multiple of 1,024; a remainder of 512 goes up. -/
def nearest1024 (c : Int) : Int := let r := c % 1024
  if r ≥ 512 then c + (1024 - r) else c - r

/-- A marker corrects a die's count. -/
def correctCount (s : State) (site : Nat) : State :=
  let c := siteCount s site
  let d := nearest1024 c - c
  if s.mt.unset.contains site ∨ d = 0 then s
  else
    let s := setMt s (fun m => { m with skew := tupd (fun _ => 0) m.skew site (· + d) })
    let s := bump s Obj.timeMarkerCorrections
    if d.natAbs > 1 then timeEvent s site 1 else s

/-- The broadcast has been absent for 1 ms at every base tile: ports dark, the job ends DOUBLE, the module is down (R300). -/
def doBroadcastAbsent (s : State) : State :=
  let absent := fun b => match (btAt s b).timing.absentSince with
    | some t => (btAt s b).timing.holdover && decide (s.ticks ≥ t + 1000000)
    | none => false
  if (List.range 8).all absent then
    let s := overNats (List.range 366) (fun p s => updPort s p (fun v => { v with unpowered := true })) s
    let s := overNats (List.range 16) (fun l s => linkDown s l) s
    raise (endAny s 4 9 0) 0 0x10 0x51 7 false 0
  else s

def execBroadcastAbsent (s : State) : Host.Outcome State Fault Refusal := .next (doBroadcastAbsent s)

/-- A tree is measured again 1,024 frames after the last time. -/
def trimDue (s : State) : Option Nat → Bool
  | none => true
  | some f => decide (f + 1024 ≤ frameNo s)

/-- The receive delay at which a marker taken `late` picoseconds too late is taken 5.000 ns after launch: 0 to 2,047 steps. -/
def trimTo (d : Nat) (late : Int) : Nat := (max 0 (min 2047 ((d : Int) - late))).toNat

/-- The barista at the source of a tree has measured the round trip to a base tile (R299): the tile's delay is to go where the marker is taken in
time, one step at each frame boundary. -/
def doTreeTrim (s : State) (tree bt : Nat) (late : Int) : State :=
  let t := (btAt s bt).timing
  if roleOf s tree = .silent ∨ roleOf s tree = .dead ∨ !trimDue s (if tree = 0 then t.measuredA else t.measuredB) then s
  else updBt s bt (fun b => { b with timing :=
    if tree = 0 then { b.timing with targetA := trimTo b.timing.delayA late, measuredA := some (frameNo s) }
    else { b.timing with targetB := trimTo b.timing.delayB late, measuredB := some (frameNo s) } })

def execTreeTrim (tree : Fin 2) (bt : Fin 8) (late : Int) (s : State) : Host.Outcome State Fault Refusal := .next (doTreeTrim s tree.val bt.val late)

/-- One step of 1 ps toward a delay. -/
def trimStep (d to_ : Nat) : Nat := if d < to_ then d + 1 else if to_ < d then d - 1 else d

/-- What a timing receiver does at a frame boundary: one step of its delays, and one of the phase it pulls in (R299 to R301). -/
def stepTiming (t : Timing) : Timing :=
  { t with delayA := trimStep t.delayA t.targetA, delayB := trimStep t.delayB t.targetB, phasePull := t.phasePull - 1 }

/-- A port's launch delay makes the step that was asked for (R299). -/
def stepLaunch (v : PortSt) : PortSt :=
  match v.launchAsk with
  | some late => { v with launch := v.launch + (if late then -1 else 1), launchAsk := none }
  | none => v

/-- A tile's droop detector suppresses one edge of its region, at most one in four consecutive periods of 0.8 ns (R303); the links of the
region feel it (R304). -/
def doDroop (s : State) (k : Nat) : State :=
  let t := tileAt s k
  if (match t.droopAt with | some a => decide (s.ticks < a + 4) | none => false) then s
  else cutEdge (setTile s k { t with droopAt := some s.ticks, stretched := t.stretched + 1 }) (k / 64) (k % 64)

def execDroop (cd : Fin 16) (t : Fin 64) (s : State) : Host.Outcome State Fault Refusal :=
  .next (if domAt s (domCD cd.val) = .on then doDroop s (tkey cd t) else s)

/-! The epoch (R307). -/

/-- TIME from the active barista (R91 type 0xA). -/
def timePacket (src : Nat) (v : Word) : SigPacket :=
  { dst := 0x7F, src := BitVec.ofNat 7 src, vc := 2, ptype := 0xA, len := 1, poison := false, fields := 0, payload := [v] }

/-- At the named boundary a die whose count differs loads the value; a die with no valid time takes it. -/
def applyEpoch (s : State) (v : Word) : State :=
  let d : Int := (v.toNat : Int) - s.now.toNat
  let bad := (List.range 100).filter (fun i => !s.mt.unset.contains i && tget (fun _ => 0) s.mt.skew i != d)
  let s := bad.foldl (fun s i => timeEvent (bump s Obj.timeEpochFaults) i 2) s
  setMt s (fun m => { m with skew := (List.range 100).foldl (fun t i => tset (fun _ => 0) t i d) m.skew, unset := [] })

def execTime (src : BitVec 7) (v : Word) (s : State) : Host.Outcome State Fault Refusal :=
  .next (
    let s := sigArrive s (timePacket src.toNat v)
    if s.now < v then schedule s v (.epoch v) else s)

/-! TIME on the links (R311). -/

/-- 16 I16 delays out minus back, in picoseconds. -/
def linkAsym (s : State) (l : Nat) : Int := sint 16 (leAt (blobAt s Obj.timeLinkAsym 32) (2 * l) 2)

/-- A TIME message: what the far end offers and, when it echoes a TX of this end, its offset and the delay. -/
def doFabTime (s : State) (l : Nat) (p : FabPacket) (ps : Nat) : State :=
  let s := freeInput { s with sent := s.sent.erase (.fabIn l p) } l p
  let bs := ((p.data.head?).map (·.data)).getD []
  let v := linkAt s l
  let a2 : Int := s.now.toNat * 1000 + ps
  let a1 : Int := leAt bs 8 8 * 1000
  let b1 : Int := leAt bs 16 8 * 1000 + leAt bs 24 2
  let b2 : Int := leAt bs 0 8 * 1000
  let echoed := v.txs.any (fun t => t.toNat == leAt bs 8 8)
  let old := tfind s.mt.offers l
  let theta := if echoed then some (((b1 - a1) + (b2 - a2) - linkAsym s l) / 2) else old.bind (·.theta)
  let delay := if echoed then some (((a2 - a1) - (b2 - b1)) / 2) else old.bind (·.delay)
  let s := setLink s l { v with lastTime := some (BitVec.ofNat 64 (leAt bs 0 8), s.now, ps) }
  let o : Offer := { cls := leAt bs 26 1, hops := leAt bs 27 1, root := leAt bs 28 2 % 4096,
                     state := leAt bs 30 1, theta := theta, delay := delay, at_ := s.ticks }
  let s := setMt s (fun m => { m with offers := tput m.offers l o })
  if s.mt.source.kind = 3 ∧ s.mt.source.link = l then setMt s (fun m => { m with offset := theta.getD 0, known := theta.isSome }) else s

def execFabTime (l : Fin 16) (p : FabPacket) (ps : Fin 1000) (s : State) : Host.Outcome State Fault Refusal :=
  .next (if mayArrive s l.val p 0x20 then doFabTime s l.val p ps.val else s)

/-! The choice of source (R310). -/

/-- Rank of an offer: class, hops, root, link. -/
def offerBefore (a b : Nat × Offer) : Bool :=
  decide (a.2.cls < b.2.cls ∨ (a.2.cls = b.2.cls ∧ (a.2.hops < b.2.hops ∨ (a.2.hops = b.2.hops ∧
    (a.2.root < b.2.root ∨ (a.2.root = b.2.root ∧ a.1 < b.1))))))

/-- Offers the module may take: enabled, from UP links whose TIME is not missing. -/
def usableOffers (s : State) : List (Nat × Offer) :=
  if dval s Obj.timeFabricEnable ≠ 1 then []
  else s.mt.offers.filter (fun e => linkIsUp s e.1 && decide (e.2.cls > 0 ∧ e.2.hops < 31 ∧ e.2.state = 2 ∧ s.ticks < e.2.at_ + 262144))

/-- The port that follows a grandmaster. -/
def ptpPort (s : State) : Option Nat := (List.range 2).find? (fun n => (hostPortAt s n).ptp == 2)

def noSource : Source := { kind := 0, link := 0xFF, cls := 0, root := 0, hops := 0 }

/-- The best source as it stands. -/
def bestSource (s : State) : Source :=
  match ptpPort s with
  | some n => { kind := 1 + n, link := 0xFF, cls := 1, root := 0, hops := 0 }
  | none =>
    let best := (usableOffers s).foldl (fun b e => match b with
      | none => some e
      | some x => if offerBefore e x then some e else some x) (none : Option (Nat × Offer))
    match best with
    | some (l, o) =>
      if o.cls = 2 ∧ o.root > s.fab.own then { kind := 4, link := 0xFF, cls := 2, root := s.fab.own, hops := 0 }
      else { kind := 3, link := l, cls := o.cls, root := o.root, hops := o.hops + 1 }
    | none => if s.fab.own ≠ 0xFFFF then { kind := 4, link := 0xFF, cls := 2, root := s.fab.own, hops := 0 } else noSource

/-- Same source, whatever it announces. -/
def sameSource (a b : Source) : Bool := a.kind == b.kind && a.link == b.link

/-- The offset a source gives (R312), once it is known: the link's, the IEEE 1588 port's; the module's own root has none to it. -/
def sourceOffset (s : State) (x : Source) : Option Int :=
  match x.kind with
  | 3 => (tfind s.mt.offers x.link).bind (·.theta)
  | 1 => (tfind s.mt.ptp 0).bind (·.offset)
  | 2 => (tfind s.mt.ptp 1).bind (·.offset)
  | _ => some 0

/-- A source, and the offset it gives. -/
def takeSource (s : State) (x : Source) : State :=
  setMt s (fun m => { m with source := x, cand := none, held := 0, offset := (sourceOffset s x).getD 0, known := (sourceOffset s x).isSome })

/-- TIME_STATE with a source, and the step that is due (R309, R314); until its offset is known it is being acquired. -/
def judgeTime (s : State) : State :=
  let m := s.mt
  if m.source.kind = 0 then s
  else if !m.known then setMt s (fun m => { m with state := 1 })
  else
    let tooFar := decide (m.offset.natAbs > 1000 * dval s Obj.timeStepLimit)
    let mode := dval s Obj.timeStepMode
    let due := tooFar && m.stepD.isNone && ((!m.leftFree && decide (mode = 1 ∨ mode = 2)) || (m.leftFree && decide (mode = 2)))
    -- the offset rounded towards zero to a multiple of 1,024 ns
    let d := (m.offset.tdiv 1024000) * 1024
    let stepD := if due ∧ d ≠ 0 then some d else m.stepD
    let state := if m.offset.natAbs ≤ 100000 ∧ stepD.isNone then 2 else 1
    setMt s (fun m => { m with state := state, leftFree := true, stepD := stepD })

/-- The module moves to a source. -/
def adoptSource (s : State) (x : Source) : State := judgeTime (takeSource s x)

/-- The proportional-integral servo (R312), in parts per 10^9: the source's offset over the time constant of 2 s, and its integral, each with its gain,
within 0.05 ppm of the last steering and 100 ppm of nominal. DESIGN CHOICE (log 113): the spec states no gains; they are Config's. -/
def servo (m : ModTime) : ModTime :=
  let sum := m.sum + m.offset
  let want := Config.servoGain 0 * m.offset / 2000 + Config.servoGain 1 * sum * 16384 / 1000000000000
  { m with sum := sum, freq := max (-100000) (min 100000 (max (m.freq - 50) (min (m.freq + 50) want))) }

/-- The review and the servo's update are due: every 64 frames, once (R310, R312). -/
def reviewDue (s : State) : Bool := frameNo s % 64 == 0 && s.mt.reviewed != some (frameNo s)

/-- Every 64 frames: the review, and the servo's update where a source gives an offset (R310, R312). -/
def doReview (s : State) : State :=
  let b := bestSource s
  let s := if sameSource b s.mt.source then
      judgeTime (takeSource s b)
    else
      let n := if (match s.mt.cand with | some c => sameSource c b | none => false) then s.mt.held + 1 else 1
      if b.kind = 0 then setMt s (fun m => { m with cand := none, held := 0 })
      else if n ≥ 4 then adoptSource s b
      else setMt s (fun m => { m with cand := some b, held := n })
  if (s.mt.source.kind = 0 ∨ s.mt.source.kind = 4) ∨ !s.mt.known then s else setMt s servo

def execTimeSourceReview (s : State) : Host.Outcome State Fault Refusal :=
  .next (if reviewDue s && roleOf s s.active.val == .active then doReview (setMt s (fun m => { m with reviewed := some (frameNo s) })) else s)

/-- Is the source lost (R310)? -/
def sourceGone (s : State) : Bool :=
  match s.mt.source.kind with
  | 3 => !linkIsUp s s.mt.source.link || (match tfind s.mt.offers s.mt.source.link with | some o => decide (s.ticks ≥ o.at_ + 262144) | none => true)
  | 1 => (hostPortAt s 0).ptp != 2
  | 2 => (hostPortAt s 1).ptp != 2
  | _ => false

/-- A lost source: the next choice at once; with none, HOLDOVER (R310). DESIGN CHOICE (log 113): time that was not LOCKED before is not trusted in it
(Table 4). -/
def doSourceLost (s : State) : State :=
  if !sourceGone s then s
  else
    let b := bestSource s
    if b.kind ≠ 0 then adoptSource s b
    else setMt s (fun m => { m with source := noSource, cand := none, held := 0, known := false, state := 3,
                                    holdSince := if m.state = 2 then some s.ticks else if m.state = 3 then m.holdSince else none })

def execSourceLost (s : State) : Host.Outcome State Fault Refusal := .next (doSourceLost s)

/-! IEEE 1588 (R293). -/

def ptpAt (s : State) (n : Nat) : PtpPort := tget (fun _ => {}) s.mt.ptp n
def setPtp (s : State) (n : Nat) (v : PtpPort) : State := setMt s (fun m => { m with ptp := tset (fun _ => {}) m.ptp n v })

/-- A port takes IEEE 1588 messages. -/
def ptpOn (s : State) (n : Nat) : Bool := linkUp s n

/-- Order of the best master clock algorithm: the data set, then steps removed and the sender. -/
def masterOf (a : AnnounceMsg) : Master :=
  { rank := (a.priority1 ++ a.clockClass ++ a.accuracy ++ a.variance ++ a.priority2 ++ a.identity ++ a.steps ++ a.sender).toNat, port := a.sender }

/-- The best master across both ports is followed through one port. -/
def electMaster (s : State) : State :=
  let c := (List.range 2).filterMap (fun i => if ptpOn s i then (ptpAt s i).best.map (fun b => (i, b)) else none)
  let best := c.foldl (fun b e => match b with
    | none => some e
    | some x => if e.2.rank < x.2.rank then some e else some x) (none : Option (Nat × Master))
  if best.map (fun e => (e.1, e.2.port)) = s.mt.master.map (fun e => (e.1, e.2.port)) then setMt s (fun m => { m with master := best })
  else
    let s := setMt s (fun m => { m with master := best })
    overNats (List.range 2) (fun i s => setHostPort s i { hostPortAt s i with ptp := if best.map (·.1) = some i then 1 else 0 }) s

/-- An Announce message of the port's domain. -/
def doAnnounce (s : State) (f : HostFrame) (a : AnnounceMsg) : State :=
  let n := f.port.val
  if !ptpOn s n ∨ !frameOk s f ∨ a.domain.toNat ≠ dval s Obj.hostPtpDomain then s
  else
    let new := masterOf a
    let v := ptpAt s n
    let keep := match v.best with | some b => decide (b.rank < new.rank ∧ b.port ≠ new.port) | none => false
    electMaster (if keep then s else setPtp s n { v with best := some new, heardAt := s.ticks })

def execPtpAnnounce (f : HostFrame) (a : AnnounceMsg) (s : State) : Host.Outcome State Fault Refusal := .next (doAnnounce s f a)

/-- No Announce of a port's best master has come for 6 s (PRESUMED, log 113: three intervals of 2 s, the defaults of the default profile), or its
link is down: it is dropped, and the best master is chosen anew. -/
def announceLost (s : State) (n : Nat) : Bool := (ptpAt s n).best.isSome && (!ptpOn s n || decide ((ptpAt s n).heardAt + 6000000000 ≤ s.ticks))

def ptpClock (s : State) : State :=
  let drop := fun (s : State) n => if announceLost s n then setPtp s n { ptpAt s n with best := none } else s
  if announceLost s 0 || announceLost s 1 then electMaster (drop (drop s 0) 1) else s

/-- The port follows the sender of a message of its domain. -/
def follows (s : State) (f : HostFrame) (sender : PtpSender) : Bool :=
  ptpOn s f.port.val && frameOk s f && decide (sender.domain.toNat = dval s Obj.hostPtpDomain) &&
    (match s.mt.master with | some (i, m) => i == f.port.val && m.port == sender.ident | none => false)

/-- A stamp of now, off by at most 4 ns. -/
def stamp (s : State) (err : Fin 9) : Int := ((s.now.toNat : Int) + err.val - 4) * 1000

/-- An accepted Sync gives the offset of the master from this module; the first ends the port's bring-up (R279 Table 2). -/
def syncOffset (s : State) (n : Nat) (t1 t2 : Int) : State :=
  let v := ptpAt s n
  let o := t1 + v.delay - t2
  let s := setPtp s n { v with t1 := t1, t2 := t2, waiting := false, offset := some o }
  let s := setHostPort s n { hostPortAt s n with ptp := 2, step := 5 }
  if s.mt.source.kind = 1 + n then setMt s (fun m => { m with offset := o, known := true }) else s

def execPtpSync (f : HostFrame) (sender : PtpSender) (seq : BitVec 16) (origin : Word) (twoStep : Bool) (err : Fin 9) (s : State) :
    Host.Outcome State Fault Refusal :=
  .next (if !follows s f sender then s
    else if twoStep then setPtp s f.port.val { ptpAt s f.port.val with waiting := true, syncSeq := seq.toNat, syncRx := stamp s err }
    else syncOffset s f.port.val (origin.toNat * 1000) (stamp s err))

def execPtpFollowUp (f : HostFrame) (sender : PtpSender) (seq : BitVec 16) (origin : Word) (s : State) : Host.Outcome State Fault Refusal :=
  .next (
    let v := ptpAt s f.port.val
    if follows s f sender ∧ v.waiting ∧ v.syncSeq = seq.toNat then syncOffset s f.port.val (origin.toNat * 1000) v.syncRx else s)

/-- A following port sends a Delay_Req, stamped as it leaves. -/
def execPtpDelayReq (port : Fin 2) (err : Fin 9) (s : State) : Host.Outcome State Fault Refusal :=
  .next (
    let v := ptpAt s port.val
    if ptpOn s port.val ∧ s.mt.master.map (·.1) = some port.val then
      ethSend (setPtp s port.val { v with t3 := stamp s err, reqSeq := (v.reqSeq + 1) % 65536, reqOut := true })
        port.val .ptpDelayReq (toBe 2 ((v.reqSeq + 1) % 65536))
    else s)

/-- Delay_Resp: the mean path delay. -/
def execPtpDelayResp (f : HostFrame) (sender : PtpSender) (seq : BitVec 16) (receive : Word) (s : State) : Host.Outcome State Fault Refusal :=
  .next (
    let v := ptpAt s f.port.val
    if follows s f sender ∧ v.reqOut ∧ v.reqSeq = seq.toNat ∧ v.offset.isSome then
      setPtp s f.port.val { v with reqOut := false, delay := ((v.t2 - v.t1) + (receive.toNat * 1000 - v.t3)) / 2 }
    else s)

/-! Steps (R314). -/

/-- A due step finds no job beyond QUEUED: TIME_STEP names F, later than every boundary already named. -/
def doStepDue (s : State) : State :=
  match s.mt.stepD with
  | none => s
  | some d =>
    if s.mt.stepAt.isSome ∨ s.job.isSome then s
    else
      let last := (s.changes.map (fun c => c.1.toNat)).foldl max 0
      let f := BitVec.ofNat 64 (max (boundaryAfter s 2048).toNat (last / 1024 * 1024 + 1024))
      ctrlSend (setMt s (fun m => { m with stepAt := some f })) 0x7F 0x50 0 [f, BitVec.ofNat 64 (ofInt 64 d)]

def execTimeStepDue (s : State) : Host.Outcome State Fault Refusal := .next (doStepDue s)

/-- TIME_STEP reaches every die. -/
def execTimeStep (src : BitVec 7) (seq : BitVec 32) (f d : Word) (s : State) : Host.Outcome State Fault Refusal :=
  .next (
    let r := ctrlTakeAll (sigArrive s (ctrlPacket src.toNat 0x7F 0x50 seq 0 [f, d])) src seq
    if r.1 ∧ s.now < f then schedule r.2 f (.timeStep d) else r.2)

/-- Offsets and stamps as they stand after the count has moved by `d` picoseconds. -/
def stepOffer (d : Int) (o : Offer) : Offer := { o with theta := o.theta.map (· - d) }
def stepPtp (d : Int) (v : PtpPort) : PtpPort :=
  { v with offset := v.offset.map (· - d), t2 := v.t2 + d, t3 := v.t3 + d, syncRx := v.syncRx + d, reqOut := false }
def stepLink (d : Word) (v : LinkSt) : LinkSt := { v with lastTime := v.lastTime.map (fun t => (t.1, t.2.1 + d, t.2.2)), txs := [] }

/-- At F every count moves by D; fabric requests of this module end unanswered; time is not trusted for L (R314 Table 6). DESIGN CHOICE (log 113): the
offsets and the stamps held move with the count, and a TIME sent before it is not used when it is echoed. -/
def applyTimeStep (s : State) (d : Word) : State :=
  let ps := sint 64 d.toNat * 1000
  let s := s.fab.ops.foldl endUnanswered s
  let s := bump { s with now := s.now + d } Obj.timeSteps
  let s := overNats (List.range 16) (fun l s => setLink s l (stepLink d (linkAt s l))) s
  setMt s (fun m => { m with stepD := none, stepAt := none, offset := m.offset - ps, untrustedUntil := s.ticks + lifetime s
                             offers := m.offers.map (fun e => (e.1, stepOffer ps e.2))
                             ptp := m.ptp.map (fun e => (e.1, stepPtp ps e.2)) })

end Sys2Proof.Machine
end

