-- ==== Sys2Proof/Machine/Comb.lean ====
section
/-! DEFINITION. Rings, tones, calibration and combs (R136 to R163, R237). -/
namespace Sys2Proof.Machine

def setLight (s : State) (f : Light → Light) : State := { s with light := f s.light }

/-! Rings. -/

def ringIdKey (r : RingId) : Nat := ringKey r.port.val r.rx r.line.val
def setRing_ (s : State) (k : Nat) (r : Ring) : State := setLight s (fun l => { l with rings := tset (fun _ => {}) l.rings k r })

/-- HEATER code: live, or the factory baseline. -/
def heaterOf (k : Nat) (r : Ring) : Nat := r.heater.getD (Config.ringBase k 0 % 65536)
def driveOf (k : Nat) (r : Ring) : Nat := r.drive.getD (Config.ringBase k 1 % 256)
def thresholdOf (k : Nat) (r : Ring) : Nat := r.threshold.getD (Config.ringBase k 2 % 64)
def delayOf (k : Nat) (r : Ring) : Nat := r.delay.getD (Config.ringBase k 3 % 64)

/-- The line under calibration at one side of a port, or held on the swing (R149, R151). -/
def calLine (s : State) (p : Nat) (rx : Bool) : Option Nat := (if rx then (portAt s p).calRx else (portAt s p).calTx).map (·.val)

/-- An end's exclusion set holds a line. -/
def excluded (s : State) (p : Nat) (rx : Bool) (line : Nat) : Bool := (if rx then (portAt s p).rxSet else (portAt s p).txSet).getLsbD line

/-- The lines of an external link's direction that leaves, or arrives at, a port (R236). -/
def extMap (s : State) (p : Nat) (rx : Bool) : List (Option Nat) :=
  let v := linkAt s (p - 350)
  laneMap (if rx then v.farTx ||| (portAt s p).rxSet else (portAt s p).txSet ||| v.farRx)

/-- A repair spare carries a lane for some pair of the port at that end. -/
def spareUsed (s : State) (p : Nat) (rx : Bool) (line : Nat) : Bool :=
  if 350 ≤ p then linkIsUp s (p - 350) && (extMap s p rx).contains (some line)
  else (List.range 350).any (fun q => (if rx then pairCounts s q p else pairCounts s p q) &&
    (laneMap (if rx then linesOut s q p else linesOut s p q)).contains (some line))

/-- The swing carries a lane from p to q: a line in use for the pair is under calibration at either end (R105). -/
def swingCarries (s : State) (p q : Nat) : Bool :=
  !(linesOut s p q).getLsbD 33 &&
  (laneMap (linesOut s p q)).any (fun l => l.isSome && (calLine s p false == l || calLine s q true == l))

/-- The swing carries a lane for some pair of the port at that end. -/
def swingUsed (s : State) (p : Nat) (rx : Bool) : Bool :=
  if 350 ≤ p then linkIsUp s (p - 350) && (calLine s p rx).isSome || (farStep s (p - 350) (!rx)).isSome
  else (List.range 350).any (fun q => if rx then pairCounts s q p && swingCarries s q p else pairCounts s p q && swingCarries s p q)

/-- A line under calibration keeps a lane at that end: the swing is out for some pair that uses the line (R105, R139). -/
def keepsLane (s : State) (p : Nat) (rx : Bool) (line : Nat) : Bool :=
  if 350 ≤ p then
    let v := linkAt s (p - 350)
    (if rx then v.farTx ||| (portAt s p).rxSet else (portAt s p).txSet ||| v.farRx).getLsbD 33 && linkIsUp s (p - 350) && (extMap s p rx).contains (some line)
  else (List.range 350).any (fun q =>
    let out := if rx then linesOut s q p else linesOut s p q
    out.getLsbD 33 && (if rx then pairCounts s q p else pairCounts s p q) && (laneMap out).contains (some line))

/-- A line is in service at one end (R139). -/
def inService (s : State) (p : Nat) (rx : Bool) (line : Nat) : Bool :=
  s.light.cal.blendRuns && (calLine s p rx != some line || keepsLane s p rx line) && !excluded s p rx line &&
  (if line < 33 then true else if line = 33 then swingUsed s p rx else spareUsed s p rx line)

/-- LANE_EXCLUDE is asked of the barista by a LINE_LOST message (R130 level 3); that it was is kept for 64 ns (R143). -/
def lineLost (s : State) (p : Nat) (rx : Bool) (line : Nat) : State :=
  let s := setLight s (fun l => { l with raised := l.raised.filter (fun e => decide (s.ticks ≤ e.1 + 64)) ++ [(s.ticks, p, rx, line)] })
  if line = 32 then raisePortFail s p 2
  else raise s (portTile p) 0x03 0x1A 4 false (portForm p line 0 + b2n rx * 2 ^ 21)

/-- A message that was raised is withdrawn while it is on its way. -/
def withdraw (s : State) (site : Nat) (w : Word) : State :=
  { s with
    sent := s.sent.filter (fun o => match o with | .sig p => !(p.ptype == 9 && p.src.toNat == site && p.payload == [w]) | _ => true)
    faults := { s.faults with repeaters := s.faults.repeaters.filter (fun r => faultEnc r.msg != w) } }

/-- The message of a condition that `lineLost` raised. -/
def lossMsg (p : Nat) (rx : Bool) (line : Nat) : FaultMsg :=
  { site := BitVec.ofNat 7 (portTile p), block := 3, kind := if line = 32 then 0x1B else 0x1A, severity := if line = 32 then 5 else 4, poison := false,
    detail := BitVec.ofNat 40 (if line = 32 then portForm p 0 0 + 2 * 2 ^ 22 else portForm p line 0 + b2n rx * 2 ^ 21) }

/-- Conditions of a base tile in the 64 ns before its comb was lost are the comb's (R143): their messages are withdrawn, and a ring that had
begun to acquire counts as locked until then. -/
def recallLosses (s : State) (bt : Nat) : State :=
  let mine := s.light.raised.filter (fun e => decide (s.ticks ≤ e.1 + 64) && portTile e.2.1 == bt)
  let lost := s.light.unlocked.filter (fun e => decide (s.ticks ≤ e.1 + 64) && portTile (e.2 / 72) == bt)
  let s := lost.foldl (fun s e => if (ringAt_ s e.2).state = 1 then setRing_ s e.2 { ringAt_ s e.2 with state := 4 } else s) s
  let s := mine.foldl (fun s e => withdraw s bt (faultEnc (lossMsg e.2.1 e.2.2.1 e.2.2.2))) s
  mine.foldl (fun s e =>
    let k := ringKey e.2.1 e.2.2.1 e.2.2.2
    if (ringAt_ s k).reacquire then setRing_ s k { ringAt_ s k with reacquire := false } else s) s

/-- A condition within 64 ns of a comb loss on its tile is the comb's (R143). -/
def combsFault (s : State) (bt : Nat) : Bool :=
  match tfind s.light.lossAt bt with | some t => decide (s.ticks ≤ t + 64) | none => false

/-- Locked rings of a tile enter HOLD (R145). -/
def holdRings (s : State) (bt : Nat) : State :=
  setLight s (fun l => { l with rings := l.rings.map (fun e =>
    if portTile (e.1 / 72) = bt ∧ e.2.state = 4 then (e.1, { e.2 with state := 5, holdAt := s.ticks }) else e) })

/-! Monitors and losses (R140, R143). -/

def lowSince (s : State) (k : Nat) : Option Nat := tget (fun _ => none) s.light.low k

/-- Two consecutive 16 ns samples lay below the limit: the first of them is 16 ns old (R143). A reading that is not reported has not changed. -/
def lowTwice (s : State) (k : Nat) : Bool := (lowSince s k).any (fun t => decide (t + 16 ≤ s.ticks))

def combLowKey (c line : Nat) : Nat := 36 * c + line
def tapLowKey (p line : Nat) : Nat := 1000 + 36 * p + line
def dropLowKey (k : Nat) : Nat := 20000 + k

def combDefault (c : Nat) : Comb := if c < 8 then { state := 0, serves := some c } else { state := 1 }
def combAt (s : State) (c : Nat) : Comb := tget combDefault s.light.combs c
def setComb (s : State) (c : Nat) (v : Comb) : State := setLight s (fun l => { l with combs := tset combDefault l.combs c v })

/-- Note one reading, below a quarter of the baseline or of the ring's locked level, or not. -/
def noteLow (s : State) (k : Nat) (low : Bool) : State :=
  setLight s (fun l => { l with low := tset (fun _ => none) l.low k (if low then some ((tget (fun _ => none) l.low k).getD s.ticks) else none) })

/-- Below 25 % of a baseline (R143). -/
def below (power base : Nat) : Bool := decide (4 * power < base)

/-- The drop power of a ring (R140, R145): light that returns to a ring in HOLD within 100 microseconds locks it again. -/
def sampleDrop (s : State) (k power : Nat) : State :=
  let r := ringAt_ s k
  let low := below power r.level
  let s := noteLow (setLight s (fun l => { l with drops := tset (fun _ => 0) l.drops k power })) (dropLowKey k) low
  if r.state = 5 ∧ !low ∧ 0 < power ∧ s.ticks < r.holdAt + 100000 then setRing_ s k { r with state := 4, from_ := s.now.toNat } else s

/-! A ring's step of calibration (R150 Table 5). -/

def calPortAt (s : State) (k : Nat) : CalPort := tget (fun _ => {}) s.light.cal.ports k
def setCalPort (s : State) (k : Nat) (v : CalPort) : State :=
  setLight s (fun l => { l with cal := { l.cal with ports := tset (fun _ => {}) l.cal.ports k v } })

/-- Line of a step. -/
def stepLine (step : Nat) : Nat := if step < 32 then step else if step = 32 then 34 else if step = 33 then 35 else 33

/-- The side of a port whose lines are calibrated all at once, and when it began (R153, R235). -/
def trainOf (s : State) (p : Nat) : Option (Nat × Nat) := tfind s.light.cal.train p

/-- The frame of the step a port runs, counted from its T. -/
def calFrame (s : State) (p : Nat) : Option Nat :=
  match trainOf s p with
  | some e => some (s.now.toNat / 1024 - e.2 / 1024)
  | none => s.light.cal.running.map (fun t => s.now.toNat / 1024 - t.toNat / 1024)

/-- A ring takes part in the step its port runs: all lines of a side at once, or the line under calibration there. -/
def calOpen (s : State) (k : Nat) : Bool :=
  (calPortAt s k).open_ && match trainOf s (k / 72) with
    | some e => decide (k % 72 ≥ 36) == (e.1 == 2)
    | none => s.light.cal.running.isSome && calLine s (k / 72) (decide (k % 72 ≥ 36)) == some (k % 36)

/-- A search came to a peak (R145, R150), whose drop power is at least half the baseline: in acquire within 2,500 codes of the live one the
ring holds it for a tone window, else it sweeps; a sweep stops there. A ring under calibration is re-centred on a peak within 512 codes in
frames 0 to 63. -/
def samplePeak (s : State) (id : RingId) (found : Option (Nat × Nat)) : State :=
  let k := ringIdKey id
  let r := ringAt_ s k
  let code := if r.state = 4 then found.map (·.1) else (found.filter (fun f => decide (Config.tapBase (dropLowKey k) ≤ 2 * f.2))).map (·.1)
  let near : Nat → Nat → Bool := fun from_ n => match code with | some c => decide (c ≤ from_ + n ∧ from_ ≤ c + n) | none => false
  match r.state with
  | 1 => if near (heaterOf k r) 2500 then setRing_ s k { r with state := 3, heaterTo := code, from_ := s.now.toNat } else setRing_ s k { r with state := 2, moved := false }
  | 2 => match code with | some c => setRing_ s k { r with heaterTo := some c, from_ := s.now.toNat } | none => s
  | 4 =>
    let c := calPortAt s k
    if calOpen s k ∧ (calFrame s id.port.val).any (· < 64) ∧ near c.heater 512 then setCalPort (setRing_ s k { r with heaterTo := code }) k { c with peak := true }
    else s
  | _ => s

/-- PRBS-15 (x^15 + x^14 + 1) restarted at 0x7FFF, by bit period (R149). DESIGN CHOICE (log 108): a period carries the register's bit 14
before it shifts. -/
def prbsGo : Nat → BitVec 15 → List Bool
  | 0, _ => []
  | n + 1, r => r.getLsbD 14 :: prbsGo n ((r <<< 1) ||| (if r.getLsbD 14 != r.getLsbD 13 then 1 else 0))

def prbsBits : List Bool := prbsGo 448 0x7FFF

/-- What a line under calibration carries in all 448 bit periods of a burst, period i at bit i (R149). -/
def prbs15 : BitVec 448 := BitVec.ofNat 448 (prbsBits.foldr (fun b n => b2n b + 2 * n) 0)

/-- The values of a step go back to those before it (R150). -/
def rejectStep (s : State) (k : Nat) : State :=
  let c := calPortAt s k
  let r := ringAt_ s k
  let rx := decide (k % 72 ≥ 36)
  setRing_ (setCalPort s k { c with rejected := true }) k { r with
    heaterTo := if r.state = 4 then some c.heater else r.heaterTo
    driveTo := if rx then r.driveTo else some c.first
    thresholdTo := if rx then some c.first else r.thresholdTo
    delayTo := if rx then some c.second else r.delayTo }

/-- A burst on a receiver's line under calibration (R150): its scan point, or the verification, is judged by it. -/
def samplePrbs (s : State) (id : RingId) (bits : BitVec 448) : State :=
  let k := ringIdKey id
  let c := calPortAt s k
  let bad := bits != prbs15
  let note := fun (t : Tbl Nat) (i : Nat) => tset (fun _ => 0) t i (if bad then 2 else max 1 (tget (fun _ => 0) t i))
  match calFrame s id.port.val with
  | some f =>
    if !id.rx ∨ !calOpen s k then s
    else if 80 ≤ f ∧ f < 344 then setCalPort s k { c with points := note c.points ((f - 80) / 8) }
    else if 400 ≤ f ∧ f < 664 then setCalPort s k { c with points2 := note c.points2 ((f - 400) / 8) }
    else if 704 ≤ f ∧ f < 1024 ∧ bad ∧ !c.rejected then rejectStep s k
    else s
  | none => s

/-- A tracking loop's step (R142): taken at the next boundary by a locked drop ring that is not under calibration and not on its way to
another value. -/
def trackStep (s : State) (id : RingId) (up delay : Bool) : State :=
  let k := ringIdKey id
  let r := ringAt_ s k
  let go := fun (v : Nat) => if up then min 63 (v + 1) else v - 1
  if r.state ≠ 4 ∨ !id.rx ∨ id.line = 32 ∨ !inService s id.port.val true id.line.val then s
  else if delay then (if r.delayTo.isSome then s else setRing_ s k { r with delayTo := some (go (delayOf k r)) })
  else if r.thresholdTo.isSome then s else setRing_ s k { r with thresholdTo := some (go (thresholdOf k r)) }

def sample (s : State) : Monitor → State
  | .comb c line power =>
    let v := combAt s c.val
    let key := combLowKey c.val line.val
    noteLow (setComb s c.val { v with power := lset (if v.power.length = 36 then v.power else List.replicate 36 0) line.val power.toNat })
      key (below power.toNat (Config.tapBase key))
  | .tap p line power => noteLow s (tapLowKey p.val line.val) (below power.toNat (Config.tapBase (tapLowKey p.val line.val)))
  | .drop r power => sampleDrop s (ringIdKey r) power.toNat
  | .peak r found => samplePeak s r (found.map (fun f => (f.1.toNat, f.2.toNat)))
  | .extinction r ratio => setCalPort s (ringIdKey r) { calPortAt s (ringIdKey r) with ratio := ratio.toNat }
  | .prbs r bits => samplePrbs s r bits
  | .eye r up => trackStep s r up false
  | .phase r up => trackStep s r up true
  | .arrival p late => updPort s p.val (fun v => { v with launchAsk := some late })

/-- A 16 ns tick: the readings that changed. -/
def execMonitorSample (ms : List Monitor) (s : State) : Host.Outcome State Fault Refusal := .next (ms.foldl sample s)

/-- A comb whose output is lost on some line; one in Ring-keep lights lines 0 to 7 only (R161). -/
def combLow (s : State) (c : Nat) : Bool :=
  (List.range (if (combAt s c).state = 8 then 8 else 36)).any (fun k => lowTwice s (combLowKey c k))

/-- The comb that serves a base tile. -/
def servingComb (s : State) (bt : Nat) : Option Nat := (List.range 10).find? (fun c => (combAt s c).serves == some bt)

/-- Drive of a comb, in 0.1 mA: nominal for a tile's own comb, idle for a spare, until it is set (R137, R156). -/
def driveNow (s : State) (c : Nat) : Nat := (combAt s c).drive.getD (Config.combFactory c (if c < 8 then 0 else 3))

/-- The record of a comb's state (R398 type 0x0042). -/
def combRecord (s : State) (c : Nat) : State := queueClassC s 0x0042 c (toLe 1 (combAt s c).state ++ toLe 1 ((combAt s c).serves.getD 0xFF))

/-- A comb turned off for life, its domain with it (R159): recorded. -/
def retireComb (s : State) (c : Nat) : State :=
  let v := combAt s c
  let s := if domAt s (domLC c) = .faulted then s else setDom s (domLC c) .off
  combRecord (setComb s c { v with state := 6, serves := none, target := none, lightN := 0, retireN := 0 }) c

/-- Once the module is ready, a comb whose domain is off or faulted can serve no tile. -/
def combLit (s : State) (c : Nat) : Bool := decide (dval s Obj.moduleState ≠ 1) || domAt s (domLC c) == .on || domAt s (domLC c) == .ringKeep

/-- The spare for a tile (R157): the idle spare of its row, the other one, its own comb kept warm. -/
def chooseSpare (s : State) (bt : Nat) : Option Nat :=
  let row := if bt < 4 then [8, 9] else [9, 8]
  match row.find? (fun c => (combAt s c).state == 1 && combLit s c) with
  | some c => some c
  | none => if (combAt s bt).state = 4 ∧ combLit s bt then some bt else none

/-- Start lighting a spare for a tile (R157 Table 8 step 1). -/
def lightSpare (s : State) (bt : Nat) : Option State :=
  (chooseSpare s bt).map (fun c => setComb s c { combAt s c with state := 2, target := some bt })

/-- COMB_FADE (R349). -/
def combFadeMsg (s : State) (c fade : Nat) (none_ : Bool) : State :=
  raise s (activeSite s) 0x11 0x21 1 false (c + (min fade 4095) * 16 + b2n none_ * 2 ^ 16)

/-- A base tile's comb is lost (R143, R158, R160): its rings enter HOLD, the ring segments it lit go dark, conditions of the last 64 ns are
the comb's, and a planned switch is cancelled. -/
def tileDark (s : State) (bt : Nat) : State :=
  let s := setLight (recallLosses s bt) (fun l => { l with lossAt := tput l.lossAt bt s.ticks })
  holdRings { s with
    sigDark := addPos s.sigDark bt
    changes := s.changes.filter (fun c => match c.2 with | .combSwitch b _ sudden => b != bt || sudden | _ => true) } bt

/-- A comb is lost (R143, R158 to R160): serving, its tile goes dark and COMB_LOSS is raised, and a comb whose retirement was pending is
retired; otherwise it is retired at once, and if it was lighting for a tile the next choice starts. -/
def doCombLoss (s : State) (c : Nat) : State :=
  let v := combAt s c
  if !combLow s c then s
  else match v.serves with
    | some bt =>
      if (tfind s.light.lossAt bt).isSome then s
      else
        let s := raise (tileDark s bt) bt 0x0A 0x20 4 false (c + bt * 16)
        if v.state = 5 then retireComb s c else s
    | none =>
      if v.state = 6 ∨ v.state = 7 then s
      else match v.state, v.target with
        | 2, some bt =>
          let s := retireComb s c
          (match lightSpare s bt with
           | some s => s
           | none => match servingComb s bt with | some o => combFadeMsg s o (combAt s o).fade true | none => s)
        | _, _ => retireComb s c

def execCombLoss (c : Fin 10) (s : State) : Host.Outcome State Fault Refusal := .next (doCombLoss s c.val)

/-- A port's line is lost at its tap (R143). -/
def doPortLineLoss (s : State) (p line : Nat) : State :=
  if !lowTwice s (tapLowKey p line) then s
  else if combsFault s (portTile p) then holdRings s (portTile p)
  else if excluded s p false line then s
  else lineLost s p false line

def execPortLineLoss (p : Fin 366) (line : Fin 36) (s : State) : Host.Outcome State Fault Refusal := .next (doPortLineLoss s p.val line.val)

/-- A ring has lost its lock (R143, R145): level 3 in service, otherwise it acquires again, which is kept for 64 ns. -/
def ringLost (s : State) (p : Nat) (rx : Bool) (line : Nat) : State :=
  let k := ringKey p rx line
  let r := ringAt_ s k
  if inService s p rx line then lineLost (setRing_ s k { r with reacquire := true }) p rx line
  else setLight (setRing_ s k { r with state := 1, fails := 0, passes := 0 }) (fun l => { l with
    unlocked := l.unlocked.filter (fun e => decide (s.ticks ≤ e.1 + 64)) ++ [(s.ticks, k)] })

def doRingUnlocked (s : State) (p : Nat) (rx : Bool) (line : Nat) : State :=
  let k := ringKey p rx line
  if (ringAt_ s k).state ≠ 4 ∨ !lowTwice s (dropLowKey k) then s
  else if combsFault s (portTile p) then holdRings s (portTile p)
  else ringLost s p rx line

def execRingUnlocked (r : RingId) (s : State) : Host.Outcome State Fault Refusal := .next (doRingUnlocked s r.port.val r.rx r.line.val)

/-- A ring in HOLD without light for 100 microseconds is handled as unlocked. -/
def doHoldTimeout (s : State) (p : Nat) (rx : Bool) (line : Nat) : State :=
  let r := ringAt_ s (ringKey p rx line)
  if r.state = 5 ∧ s.ticks ≥ r.holdAt + 100000 then ringLost (setRing_ s (ringKey p rx line) { r with state := 4 }) p rx line else s

def execHoldTimeout (r : RingId) (s : State) : Host.Outcome State Fault Refusal := .next (doHoldTimeout s r.port.val r.rx r.line.val)

/-- A hub sees no light from a neighbour (R143): clockwise light comes from the tile before it in the ring. -/
def execRingInputDark (bt : Fin 8) (cw : Bool) (s : State) : Host.Outcome State Fault Refusal :=
  .next (raise s bt.val 0x07 0x23 4 false ((bt.val + if cw then 7 else 1) % 8))

/-! Heaters and live values (R141, R142). -/

/-- One step of at most `n` toward a target. -/
def stepTo (v target n : Nat) : Nat := if v < target then min (v + n) target else max (v - n) target

/-- A ring whose code may move: not parked, not in HOLD. -/
def heaterMoves (r : Ring) : Bool := r.state != 0 && r.state != 5

/-- A 1 microsecond update of one ring (R141): toward the code its loop asks for, 3 codes in service, 32 out of service. The window of a search
runs from the moment the ring stands at its code. -/
def heatRing (s : State) (k : Nat) : State :=
  let r := ringAt_ s k
  match r.heaterTo with
  | none => s
  | some t =>
    if !heaterMoves r then s
    else
      let v := stepTo (heaterOf k r) t (if inService s (k / 72) (k % 72 / 36 == 1) (k % 36) then 3 else 32)
      setRing_ s k { r with heater := some v, heaterTo := if v = t then none else some t, from_ := if r.state = 2 ∨ r.state = 3 then s.now.toNat else r.from_ }

/-- HEATER_UPDATE: the codes that loops ask for now, and one update of every ring that moves; a microsecond lies between two updates
(R141). -/
def doHeaterUpdate (s : State) (asks : List (RingId × BitVec 16)) : State :=
  if (s.light.heatAt.any (fun t => decide (s.ticks < t + 1000))) then s
  else
    let s := asks.foldl (fun s a => setRing_ s (ringIdKey a.1) { ringAt_ s (ringIdKey a.1) with heaterTo := some a.2.toNat }) s
    setLight ((s.light.rings.map (·.1)).foldl heatRing s) (fun l => { l with heatAt := some s.ticks })

def execHeaterUpdate (asks : List (RingId × BitVec 16)) (s : State) : Host.Outcome State Fault Refusal := .next (doHeaterUpdate s asks)

/-- One step of a value at a frame boundary (R142). -/
def stepOne (v : Nat) (t : Option Nat) : Option Nat × Option Nat :=
  match t with
  | none => (some v, none)
  | some t => (some (stepTo v t 1), if stepTo v t 1 = t then none else some t)

/-- DRIVE, THRESHOLD and DELAY move one step at a frame boundary; a ring that waits to acquire does so once its line is
out of service. A port's state and codes as they are now are what CAL_LIVE reads until the next boundary (R154). -/
def ringBoundary (s : State) (k : Nat) : State :=
  let r := ringAt_ s k
  let d := if r.driveTo.isSome then stepOne (driveOf k r) r.driveTo else (r.drive, none)
  let t := if r.thresholdTo.isSome then stepOne (thresholdOf k r) r.thresholdTo else (r.threshold, none)
  let e := if r.delayTo.isSome then stepOne (delayOf k r) r.delayTo else (r.delay, none)
  let out := r.reacquire && !inService s (k / 72) (k % 72 / 36 == 1) (k % 36)
  setRing_ s k { r with drive := d.1, driveTo := d.2, threshold := t.1, thresholdTo := t.2, delay := e.1, delayTo := e.2,
                        state := if out then 1 else r.state, reacquire := r.reacquire && !out,
                        capState := if out then 1 else r.state, capHeater := r.heater }

def ringsBoundary (s : State) : State := (s.light.rings.map (·.1)).foldl ringBoundary s

/-! Tones (R144 to R147). -/

/-- RING_EXIT: a ring is wrong or failed. -/
def ringExit (s : State) (p : Nat) (rx : Bool) (line : Nat) (failed : Bool) : State :=
  raise s (portTile p) 0x03 0x22 1 false (portForm p line 0 + b2n rx * 2 ^ 21 + b2n failed * 2 ^ 22)

/-- The result of a re-sweep of an excluded line (R147, R398 type 0x0041). -/
def resweepRecord (s : State) (p : Nat) (rx : Bool) (line : Nat) (ok : Bool) : State :=
  if excluded s p rx line then queueClassC s 0x0041 (p + 512 * b2n rx + 1024 * line) [BitVec.ofNat 8 (b2n ok)] else s

/-- A ring enters failed (R147): parked where its line is excluded or in service; on lambda 32 the port fails. -/
def ringFailed (s : State) (p : Nat) (rx : Bool) (line : Nat) : State :=
  let k := ringKey p rx line
  let s := setRing_ (bump s Obj.resweepsFailed) k { ringAt_ s k with state := 7 }
  let s := resweepRecord (ringExit s p rx line true) p rx line false
  if line = 32 then raisePortFail s p 2
  else if excluded s p rx line then setRing_ s k { ringAt_ s k with state := 0 } else s

/-- A guided move of j lines, when the code lies in range. -/
def guided (k : Nat) (r : Ring) (line j : Nat) : Option Nat :=
  let c : Int := (heaterOf k r : Int) + ((j : Int) - line) * 10000
  if 0 ≤ c ∧ c ≤ 65535 then some c.toNat else none

/-- Does the tone of a line stand out in a window (R144): half a percent of modulation depth, and four times every other tone? -/
def toneAt (tones : List (BitVec 16)) (k : Nat) : Bool :=
  let a := (tones.getD k 0).toNat
  decide (50 ≤ a) && (List.range 36).all (fun j => j == k || decide (4 * (tones.getD j 0).toNat ≤ a))

/-- The line a window identifies. -/
def toneLine (tones : List (BitVec 16)) : Option Nat := (List.range 36).find? (toneAt tones)

/-- A sweep's window did not pass (R145): one guided move when it identifies a line, then the sweep goes on; failed after two passes. -/
def sweepOn (s : State) (w : RingWindow) : State :=
  let k := ringIdKey w.ring
  let r := ringAt_ s k
  let n := r.passes + b2n w.pass
  let j := toneLine w.tones
  match if r.moved then none else j.bind (guided k r w.ring.line.val) with
  | some c => setRing_ s k { r with state := 2, heaterTo := some c, seen := j, passes := n, moved := true }
  | none =>
    if n ≥ 2 then ringFailed (setRing_ s k { r with passes := 0, moved := false }) w.ring.port.val w.ring.rx w.ring.line.val
    else setRing_ s k { r with state := 2, passes := n, moved := false }

/-- A lock is accepted (R145): the drop power now is the ring's locked level. -/
def lockRing (s : State) (w : RingWindow) : State :=
  let k := ringIdKey w.ring
  let r := ringAt_ s k
  resweepRecord (setRing_ s k { r with state := 4, fails := 0, passes := 0, seen := none, moved := false, heaterTo := none,
                                       level := tget (fun _ => 0) s.light.drops k }) w.ring.port.val w.ring.rx w.ring.line.val true

/-- A ring that holds a wrong line, once out of service, makes a guided move or sweeps. -/
def wrongOn (s : State) (w : RingWindow) : State :=
  let k := ringIdKey w.ring
  let r := ringAt_ s k
  if inService s w.ring.port.val w.ring.rx w.ring.line.val then s
  else match r.seen.bind (guided k r w.ring.line.val) with
    | some c => setRing_ s k { r with state := 2, heaterTo := some c, passes := 0, moved := true }
    | none => setRing_ s k { r with state := 2, passes := 0, moved := false }

/-- A window of a ring is judged (R145), once. One that began before the ring returned from HOLD, or before it stood at the code it searches,
is none of its windows; a sweep's pass may end with it. -/
def judgeWindow (s : State) (w : RingWindow) : State :=
  let k := ringIdKey w.ring
  let r := ringAt_ s k
  let line := w.ring.line.val
  let whole := decide (r.from_ + 262144 ≤ s.now.toNat) && (r.heaterTo.isNone || r.state == 4 || r.state == 6)
  let pass := toneAt w.tones line
  if r.judgedAt = some s.ticks then s
  else if !whole then (if r.state = 2 ∧ w.pass then sweepOn (setRing_ s k { r with judgedAt := some s.ticks }) { w with tones := [] } else s)
  else
    let s := setRing_ s k { r with judgedAt := some s.ticks }
    let r := ringAt_ s k
    match r.state with
    | 2 => if pass then lockRing s w else sweepOn s w
    | 3 => if pass then lockRing s w else sweepOn s w
    | 4 =>
      if pass then setRing_ s k { r with fails := 0 }
      else if r.fails = 0 then setRing_ s k { r with fails := 1, seen := toneLine w.tones }
      else
        let s := setRing_ (bump s Obj.wrongLine) k { r with state := 6, fails := 0, seen := (toneLine w.tones).orElse (fun _ => r.seen) }
        let s := ringExit s w.ring.port.val w.ring.rx line false
        if line = 32 then raisePortFail s w.ring.port.val 2 else s
    | 6 => wrongOn s w
    | _ => s

/-- A tone window ends at a frame boundary whose frame number is a multiple of 256; one that a time step fell into counts neither as a pass
nor as a failure (R314). -/
def execToneWindowEnd (ws : List RingWindow) (s : State) : Host.Outcome State Fault Refusal :=
  .next (if s.now.toNat % 262144 ≠ 0 then s
    else if s.light.toneVoid then setLight s (fun l => { l with toneVoid := false })
    else ws.foldl judgeWindow s)

/-! Calibration (R148 to R151, R237). -/

def setCal (s : State) (f : Cal → Cal) : State := setLight s (fun l => { l with cal := f l.cal })

/-- The first frame boundary at least `d` ns from now whose frame number is a multiple of 256. -/
def boundary256 (s : State) (d : Nat) : Word := BitVec.ofNat 64 (cdiv (s.now.toNat + d) 262144 * 262144)

/-- The barista sends CAL_STEP, and LINK_CAL to the neighbours of its up links (R149, R237). -/
def sendCalStep (s : State) (side step : Nat) (t : Word) : State :=
  let s := setCal (ctrlSend s 0x7F 0x38 (step + 64 * side) [t]) (fun c => { c with named := some (side, step, t) })
  if t.toNat / 1024 < frameNo s + 8 then s
  else overNats ((List.range 16).filter (linkIsUp s)) (fun l s => queueVc3 s l (vc3Packet s 0x25 [] (step + 64 * side) (t.toNat / 1024))) s

/-- A hold on one side keeps back the steps of the other (R151). -/
def heldBack (s : State) (side : Nat) : Bool := s.light.cal.holds.any (fun h => b2n h.2.1 != side)

/-- The active barista may name a step: it works, and no time step is named (R314, R385). -/
def calMayName (s : State) : Bool := roleOf s s.active.val == .active && s.mt.stepAt.isNone

/-- The next cycle's start, at tick `t`, is due by CAL_INTERVAL, from start to start (R148). -/
def cycleDue (s : State) (t : Nat) : Bool :=
  match s.light.cal.cycleAt with | some t0 => decide (t ≥ t0 + 1000000 * dval s Obj.calInterval) | none => true

/-- A cycle starts once every CAL_INTERVAL from the start of the last, and no sooner than that one ends; while the swing is held its first
step waits (R148, R151). -/
def doCycleStart (s : State) : State :=
  let t := boundary256 s (9 * 1024)
  let at_ := s.ticks + (t.toNat - s.now.toNat)
  if dval s Obj.calEnable ≠ 1 ∨ s.light.cal.active ∨ !cycleDue s at_ ∨ !calMayName s then s
  else
    let s := setCal s (fun c => { c with active := true, cycleAt := some at_, waiting := none })
    if heldBack s 0 then setCal s (fun c => { c with waiting := some (0, 0) }) else sendCalStep s 0 0 t

def execCalCycleStart (s : State) : Host.Outcome State Fault Refusal := .next (doCycleStart s)

/-- CAL_STEP reaches the base tiles. -/
def execCalStep (src : BitVec 7) (seq : BitVec 32) (step : Fin 35) (rx : Bool) (t : Word) (s : State) : Host.Outcome State Fault Refusal :=
  .next (
    let r := ctrlTakeAll (sigArrive s (ctrlPacket src.toNat 0x7F 0x38 seq (step.val + 64 * b2n rx) [t])) src seq
    if r.1 ∧ s.now ≤ t then schedule r.2 t (.calStart rx step.val) else r.2)

/-- A step the neighbour announced clashes with a step of the module that starts at frame `f`: both need lambda 33 on one direction of the
link, in overlapping frames (R237). -/
def linkClash (s : State) (l : Nat) (rx : Bool) (f : Nat) : Bool :=
  (linkAt s l).calFrames.any (fun e => e.2.2 != rx && decide (e.2.1 < f + 1024 ∧ f < e.2.1 + 1024))

/-- The module gives way on a link to a neighbour of lower number. -/
def givesWay (s : State) (l : Nat) : Bool := match (linkAt s l).neighbour with | some n => decide (n.1 < s.fab.own) | none => false

/-- A ring that still acquires, sweeps, holds a tone or is wrong. -/
def unsettled (s : State) (p : Nat) (rx : Bool) (line : Nat) : Bool := [1, 2, 3, 6].contains (ringAt_ s (ringKey p rx line)).state

/-- Is a port excepted from a step (R106, R147, R149)? -/
def calExcepted (s : State) (p : Nat) (rx : Bool) (line : Nat) : Bool :=
  excluded s p rx line || excluded s p rx 33 || (portAt s p).failed || s.light.cal.holds.any (fun h => h.1 == p && h.2.1 == rx) ||
  (line != 33 && unsettled s p rx 33) ||
  (decide (350 ≤ p) && (!linkIsUp s (p - 350) || (linkClash s (p - 350) rx (frameNo s) && givesWay s (p - 350))))

def setCalLine (s : State) (p : Nat) (rx : Bool) (line : Option Nat) : State :=
  let v : Option (Fin 36) := line.map (Fin.ofNat 36)
  updPort s p (fun x => if rx then { x with calRx := v } else { x with calTx := v })

/-- A ring as its step begins: the values it has. -/
def calPortStart (s : State) (p : Nat) (rx : Bool) (line : Nat) : CalPort :=
  let k := ringKey p rx line
  let r := ringAt_ s k
  { open_ := true, heater := heaterOf k r, first := if rx then thresholdOf k r else driveOf k r, second := delayOf k r, ratio := (calPortAt s k).ratio }

/-- A step starts at T at every port that is not excepted. -/
def applyCalStart (s : State) (rx : Bool) (step : Nat) : State :=
  let line := stepLine step
  let s := setCal s (fun c => { c with side := b2n rx, step := step, running := some s.now, named := none })
  overNats (List.range 366) (fun p s =>
    if calExcepted s p rx line then s else setCalPort (setCalLine s p rx (some line)) (ringKey p rx line) (calPortStart s p rx line)) s

/-- A neighbour's step on a link (R237): noted, and the module's own clashing step on that port ends without result when
the module has the higher number. -/
def doLinkCal (s : State) (l : Nat) (p : FabPacket) : State :=
  let s := freeInput { s with sent := s.sent.erase (.fabIn l p) } l p
  let rx := bitAt p.w4.toNat 6
  let v := linkAt s l
  let s := setLink s l { v with calFrames := v.calFrames.filter (fun e => decide (frameNo s < e.2.1 + 1024)) ++
    [(stepLine (p.w4.toNat % 64), p.w5.toNat, rx)] }
  match s.light.cal.running with
  | some t =>
    if givesWay s l ∧ linkClash s l (!rx) (t.toNat / 1024) ∧ (s.light.cal.side = 1) = !rx then endStepAt s (linkPort l) (!rx) else s
  | none => s

def execLinkCal (l : Fin 16) (p : FabPacket) (s : State) : Host.Outcome State Fault Refusal :=
  .next (if mayArrive s l.val p 0x25 then doLinkCal s l.val p else s)

/-! Inside a step (R150 Table 5). -/

/-- The value a scan that starts at frame `f0` holds at frame `f`: 16 steps down from `v`, then 33 points of 8 frames each, one step
apart, within 0 and `top`; none outside the scan. DESIGN CHOICE (log 108): points beyond the range hold at its end. -/
def scanValue (v top f0 f : Nat) : Option Nat :=
  if f < f0 ∨ f0 + 280 ≤ f then none
  else if f < f0 + 16 then some (v - 16)
  else some (min top (v + (f - f0 - 16) / 8 - 16))

/-- The widest run of points without an error: its first point and its length (R150). -/
def widestRun (points : Tbl Nat) : Nat × Nat :=
  let run := fun (i : Nat) => ((List.range (33 - i)).takeWhile (fun j => tget (fun _ => 0) points (i + j) == 1)).length
  (List.range 33).foldl (fun best i => if run i > best.2 then (i, run i) else best) (0, 0)

/-- The centre of the widest run, when it has six points. -/
def runCentre (points : Tbl Nat) : Option Nat :=
  let r := widestRun points
  if 6 ≤ r.2 then some (r.1 + r.2 / 2) else none

/-- Distance of an extinction ratio from 6.0 dB, in 0.01 dB. -/
def ratioOff (n : Nat) : Nat := (n - 600) + (600 - n)

/-- The point whose extinction ratio is nearest 6.0 dB. -/
def nearestPoint (points : Tbl Nat) : Nat :=
  (List.range 33).foldl (fun b i => if ratioOff (tget (fun _ => 0) points i) < ratioOff (tget (fun _ => 0) points b) then i else b) 0

/-- A transmit step at a frame boundary: DRIVE is scanned, each point's ratio noted as its frames end, and the best point taken; then
every frame must verify. -/
def transmitFrame (s : State) (k f : Nat) : State :=
  let c := calPortAt s k
  let c := if 88 ≤ f ∧ f ≤ 344 ∧ f % 8 = 0 then { c with points := tput c.points ((f - 88) / 8) c.ratio } else c
  let s := setCalPort s k c
  let put := fun (v : Nat) => setRing_ s k { ringAt_ s k with driveTo := some v }
  if f = 344 then put (min 255 (c.first + nearestPoint c.points - 16))
  else if 705 ≤ f then (if ratioOff c.ratio ≤ 50 then s else rejectStep s k)
  else match scanValue c.first 255 64 f with | some v => put v | none => s

/-- A receive step at a frame boundary: THRESHOLD is scanned and centred, then DELAY. -/
def receiveFrame (s : State) (k f : Nat) : State :=
  let c := calPortAt s k
  let r := ringAt_ s k
  if f = 344 then
    match runCentre c.points with
    | some i => setRing_ s k { r with thresholdTo := some (min 63 (c.first + i - 16)) }
    | none => rejectStep s k
  else if f = 664 then
    match runCentre c.points2 with
    | some i => setRing_ s k { r with delayTo := some (min 63 (c.second + i - 16)) }
    | none => rejectStep s k
  else match scanValue c.first 63 64 f, scanValue c.second 63 384 f with
    | some v, _ => setRing_ s k { r with thresholdTo := some v }
    | _, some v => setRing_ s k { r with delayTo := some v }
    | _, _ => s

/-- A ring's step comes to frame `f`: with no peak by frame 64 it acquires, its lane still on the swing; a step rejected or ended scans no
more. -/
def stepFrame (s : State) (k f : Nat) : State :=
  let c := calPortAt s k
  if !calOpen s k ∨ c.rejected ∨ c.ended then s
  else if f = 64 ∧ !c.peak then
    let s := rejectStep s k
    setRing_ s k { ringAt_ s k with state := 1, passes := 0, fails := 0, heaterTo := none }
  else if k % 72 < 36 then transmitFrame s k f else receiveFrame s k f

/-- Rings that have a step, of the calibration cycle or of one port. -/
def calKeys (s : State) (port : Option Nat) : List Nat :=
  (s.light.cal.ports.filter (fun e => match port with | some p => e.1 / 72 == p | none => (trainOf s (e.1 / 72)).isNone)).map (·.1)

/-- The steps of some rings at this frame boundary. -/
def stepKeys (s : State) (f : Option Nat) (keys : List Nat) : State :=
  match f with
  | some f => if f ≤ 1024 then overNats keys (fun k s => stepFrame s k f) s else s
  | none => s

/-- The steps of a calibration cycle at this frame boundary. -/
def stepFrames (s : State) : State :=
  stepKeys s (s.light.cal.running.map (fun t => s.now.toNat / 1024 - t.toNat / 1024)) (calKeys s none)

/-- The result of a ring's step (R150): accepted, or a failure, the second of which in a row makes a marginal line. -/
def calResult (s : State) (k : Nat) : State :=
  let c := calPortAt s k
  if !calOpen s k ∨ c.ended then s
  else if c.peak ∧ !c.rejected then
    setCal (bump s Obj.calSteps) (fun c => { c with fails := tset (fun _ => 0) c.fails k 0 })
  else
    let n := tget (fun _ => 0) s.light.cal.fails k + 1
    let s := setCal (bump s Obj.calFailures) (fun c => { c with fails := tset (fun _ => 0) c.fails k n })
    if n = 2 then raise s (portTile (k / 72)) 0x03 0x19 4 false (portForm (k / 72) (k % 36) 0 + k % 72 / 36 * 2 ^ 21) else s

/-- A port keeps the swing at a step's end (R151): SWING_HOLD named it, or its ring is not settled. External ports end without a hold
(R237). -/
def keepsSwing (s : State) (p : Nat) (rx : Bool) (line : Nat) : Bool :=
  decide (p < 350) && (unsettled s p rx line || s.light.cal.holds.contains (p, rx, line))

/-- Rings of a port forget their steps. -/
def dropSteps (s : State) (p : Nat) : State := setCal s (fun c => { c with ports := c.ports.filter (fun e => e.1 / 72 != p) })

/-- A side of a port is calibrated from now on (R153, R235): the locked rings of every line but lambda 32 at once, no lane on the swing. -/
def beginSide (s : State) (p : Nat) (rx : Bool) : State :=
  let s := setCal (dropSteps s p) (fun c => { c with train := tput c.train p (1 + b2n rx, s.now.toNat) })
  overNats ((List.range 36).filter (fun line => line != 32 && (ringAt_ s (ringKey p rx line)).state == 4))
    (fun line s => setCalPort s (ringKey p rx line) (calPortStart s p rx line)) s

/-- A port's side at a frame boundary: its steps, and after 1,024 frames their results; the receive side follows the transmit side. -/
def trainPort (s : State) (p : Nat) : State :=
  match trainOf s p with
  | none => s
  | some (side, _) =>
    let f := calFrame s p
    let s := stepKeys s f (calKeys s (some p))
    if f.any (· < 1024) then s
    else
      let s := overNats (calKeys s (some p)) (fun k s => calResult s k) s
      if side = 1 then beginSide s p true
      else
        let s := setCal (dropSteps s p) (fun c => { c with train := tdel c.train p })
        if 350 ≤ p then setLink s (p - 350) { linkAt s (p - 350) with trained := true } else s

/-- A ring of a port is still on its way to a lock. -/
def portSeeks (s : State) (p : Nat) : Bool := (List.range 72).any (fun i => [1, 2, 3].contains (ringAt_ s (72 * p + i)).state)

/-- The ports whose lines are calibrated all at once, at a frame boundary: those at start-up (R153), once no ring of the module is on its way to a
lock, and external ports that train (R235). DESIGN CHOICE (log 108): a side begins at a frame whose number is a multiple of 256, as a step of
R148 does. -/
def trainFrames (s : State) : State :=
  let s := overNats (s.light.cal.train.map (·.1)) (fun p s => trainPort s p) s
  if s.now.toNat % 262144 ≠ 0 then s
  else if s.startup.step = 9 then
    (if s.light.cal.phase = 0 ∧ !s.light.rings.any (fun e => [1, 2, 3].contains e.2.state) then
       overNats ((List.range 366).filter (portUp s)) (fun p s => beginSide s p false) (setCal s (fun c => { c with phase := 1 }))
     else if s.light.cal.phase = 1 ∧ s.light.cal.train.isEmpty then setCal s (fun c => { c with phase := 2 }) else s)
  else overNats (List.range 16) (fun l s =>
    if (linkAt s l).mode = .training ∧ !(linkAt s l).trained ∧ (trainOf s (350 + l)).isNone ∧ !portSeeks s (350 + l) then beginSide s (350 + l) false
    else s) s

/-- The steps of ports whose lines are calibrated all at once. -/
def trainingSteps (c : Cal) : Tbl CalPort := c.ports.filter (fun e => (tfind c.train (e.1 / 72)).isSome)

/-- A step ends after 1,024 frames: its results, and its lanes return home but for those held on the swing. -/
def doCalStepEnd (s : State) : State :=
  let c := s.light.cal
  match c.running with
  | none => s
  | some t =>
    if s.now.toNat < t.toNat + 1048576 then s
    else
      let rx := c.side == 1
      let line := stepLine c.step
      let s := stepFrames s
      let s := overNats (calKeys s none) (fun k s => calResult s k) s
      let s := overNats (List.range 366) (fun p s =>
        if calLine s p rx ≠ some line then s
        else if keepsSwing s p rx line then
          setCal s (fun c => { c with holds := c.holds.filter (fun h => !(h.1 == p && h.2.1 == rx)) ++ [(p, rx, line)] })
        else setCalLine s p rx none) s
      setCal s (fun c => { c with running := none, active := c.active && (c.again || !(c.side == 1 && c.step == 34)), again := false, ports := trainingSteps c })

/-- CAL_STEP_END, with what the monitors saw since the step's last frame boundary. -/
def execCalStepEnd (last : List Monitor) (s : State) : Host.Outcome State Fault Refusal := .next (doCalStepEnd (last.foldl sample s))

/-- The step after one: side and number. -/
def nextStep (side step : Nat) : Option (Nat × Nat) :=
  if step < 34 then some (side, step + 1) else if side = 0 then some (1, 0) else none

/-- SWING_HOLD for each port whose ring still re-sweeps and that has none yet (R151). -/
def sendHolds (s : State) (t : Word) : State :=
  let c := s.light.cal
  let rx := c.side == 1
  let line := stepLine c.step
  overNats ((List.range 350).filter (fun p => calLine s p rx == some line && unsettled s p rx line && !c.holds.contains (p, rx, line)))
    (fun p s => ctrlSend s 0x7F 0x39 (p + 512 * b2n rx + 1024 * line) [t]) s

/-- A ring that failed before its step ends leaves its line, at the boundary at which the swing is released (R147); so does a ring of an external port
that still re-sweeps, since no hold keeps its lane on the swing (R237). -/
def excludeFailed (s : State) (ports : List Nat) (t : Word) : State :=
  let c := s.light.cal
  let rx := c.side == 1
  let line := stepLine c.step
  overNats (ports.filter (fun p => calLine s p rx == some line &&
      ((ringAt_ s (ringKey p rx line)).state == 7 || (decide (350 ≤ p) && unsettled s p rx line))))
    (fun p s => ctrlSend s 0x7F 0x35 (p + 512 * b2n rx + 1024 * line) [t]) s

/-- The step that follows is named, or waits for a hold to end; a cycle that is due by then follows without a pause (R148, R151). -/
def nameNext (s : State) (t : Word) : State :=
  let c := s.light.cal
  let go := fun (s : State) (side step : Nat) =>
    let held := heldBack s side || (side != c.side && (List.range 350).any (fun p =>
      calLine s p (c.side == 1) == some (stepLine c.step) && unsettled s p (c.side == 1) (stepLine c.step)))
    if held ∨ !calMayName s then setCal s (fun c => { c with waiting := some (side, step) }) else sendCalStep s side step t
  let stop := setCal s (fun c => { c with active := false })
  match nextStep c.side c.step with
  | some (side, step) => if dval s Obj.calEnable ≠ 1 then stop else go s side step
  | none =>
    let at_ := s.ticks + (t.toNat - s.now.toNat)
    if dval s Obj.calEnable ≠ 1 ∨ !cycleDue s at_ then s
    else go (setCal s (fun c => { c with again := true, cycleAt := some at_ })) 0 0

/-- A step that was named and did not begin at its T waits to be named again (R385). -/
def missedStep (s : State) : State :=
  match s.light.cal.named with
  | some (side, step, t) => if t < s.now then setCal s (fun c => { c with named := none, waiting := some (side, step) }) else s
  | none => s

/-- A step that waited goes on once no hold keeps it back (R151), the active barista works and no time step is named. -/
def resumeCal (s : State) : State :=
  let s := missedStep s
  match s.light.cal.waiting with
  | none => s
  | some (side, step) =>
    if heldBack s side ∨ !calMayName s then s
    else if dval s Obj.calEnable ≠ 1 then setCal s (fun c => { c with waiting := none, active := false })
    else sendCalStep (setCal s (fun c => { c with waiting := none })) side step (boundary256 s (9 * 1024))

/-- At a frame boundary: the running step goes on at every port. Ten frames before it ends the barista sends SWING_HOLD for each ring that
still re-sweeps, or LANE_EXCLUDE where the port is external (R237: a neighbour needs eight frames), nine frames before the next step, one frame before
the holds of rings that came to need one and LANE_EXCLUDE for those that failed (R147 to R151). -/
def calAhead (s : State) : State :=
  let s := trainFrames s
  match s.light.cal.running with
  | none => resumeCal s
  | some t =>
    let s := stepFrames s
    let f := s.now.toNat / 1024 - t.toNat / 1024
    let end_ := t + 1048576
    if f = 1014 then excludeFailed (sendHolds s end_) ((List.range 16).map (350 + ·)) end_
    else if f = 1015 then nameNext s end_
    else if f = 1023 then excludeFailed (sendHolds s end_) (List.range 366) end_
    else s

/-- SWING_HOLD reaches the base tiles: the port keeps the swing. -/
def execSwingHold (src : BitVec 7) (seq : BitVec 32) (p : Fin 366) (rx : Bool) (line : Fin 36) (t : Word) (s : State) :
    Host.Outcome State Fault Refusal :=
  .next (
    let r := ctrlTakeAll (sigArrive s (ctrlPacket src.toNat 0x7F 0x39 seq (p.val + 512 * b2n rx + 1024 * line.val) [t])) src seq
    if r.1 then setCal r.2 (fun c => { c with holds := c.holds.filter (fun h => !(h.1 == p.val && h.2.1 == rx)) ++ [(p.val, rx, line.val)] })
    else r.2)

/-- A held ring's re-sweep ends (R151): SWING_RELEASE, with LANE_EXCLUDE for the same boundary when it failed (R147). -/
def doResweepEnd (s : State) (p : Nat) (rx : Bool) : State :=
  match s.light.cal.holds.find? (fun h => h.1 == p && h.2.1 == rx) with
  | none => s
  | some (_, _, line) =>
    if unsettled s p rx line then s
    else
      let t := boundaryAfter s 700
      let s := if (ringAt_ s (ringKey p rx line)).state = 4 then s else ctrlSend s 0x7F 0x35 (p + 512 * b2n rx + 1024 * line) [t]
      ctrlSend s 0x7F 0x3A (p + 512 * b2n rx) [t]

def execResweepEnd (p : Fin 366) (rx : Bool) (s : State) : Host.Outcome State Fault Refusal := .next (doResweepEnd s p.val rx)

/-- SWING_RELEASE reaches the base tiles. -/
def execSwingRelease (src : BitVec 7) (seq : BitVec 32) (p : Fin 366) (rx : Bool) (t : Word) (s : State) : Host.Outcome State Fault Refusal :=
  .next (
    let r := ctrlTakeAll (sigArrive s (ctrlPacket src.toNat 0x7F 0x3A seq (p.val + 512 * b2n rx) [t])) src seq
    let line := ((s.light.cal.holds.find? (fun h => h.1 == p.val && h.2.1 == rx)).map (·.2.2)).getD 0
    if r.1 then schedule r.2 t (.swingRelease p.val rx line false) else r.2)

/-- At the boundary the lane leaves lambda 33. -/
def applySwingRelease (s : State) (p : Nat) (rx : Bool) : State :=
  setCal (setCalLine s p rx none) (fun c => { c with holds := c.holds.filter (fun h => !(h.1 == p && h.2.1 == rx)) })

/-- A port's calibration and hold end without result (R152). -/
def endCalAt (s : State) (p : Nat) : State :=
  let s := setCalLine (setCalLine s p false none) p true none
  setCal s (fun c => { c with holds := c.holds.filter (fun h => h.1 != p) })

/-- A time step: the calibration step in progress ends without result and the one after it waits to be named, the tone window is void (R314
Table 6 step 3). -/
def voidCal (s : State) : State :=
  let s := setLight s (fun l => { l with toneVoid := true })
  if s.light.cal.running.isNone then s
  else
    let next := nextStep s.light.cal.side s.light.cal.step
    setCal (overNats (List.range 366) (fun p s => endCalAt s p) s)
      (fun c => { c with running := none, waiting := next, active := next.isSome, again := false, named := none, ports := trainingSteps c })

/-- CAL_STATE (R163). -/
def calStateWord (s : State) : Nat :=
  let c := s.light.cal
  c.side + 2 * c.step + 128 * b2n (c.waiting.isSome || (c.running.isNone && c.cycleAt.isSome))

/-! Live values (R154, R155). -/

/-- A port's live values as read: captured at the last frame boundary. -/
def calLiveBytes (s : State) (p : Nat) : List Byte :=
  let body := (List.range 36).flatMap (fun k =>
    let t := ringAt_ s (ringKey p false k)
    let r := ringAt_ s (ringKey p true k)
    let cap := fun (x : Ring) => { x with heater := x.capHeater }
    toLe 2 (heaterOf (ringKey p false k) (cap t)) ++ toLe 2 (heaterOf (ringKey p true k) (cap r)) ++ toLe 1 (driveOf (ringKey p false k) t) ++
      toLe 1 (if k = 32 then 0 else thresholdOf (ringKey p true k) r) ++ toLe 1 (if k = 32 then 0 else delayOf (ringKey p true k) r) ++
      toLe 1 (b2n (t.capState != 0) + 2 * b2n (r.capState != 0)))
  [1, 0] ++ toLe 2 p ++ toLe 4 (crc32c body) ++ toLe 8 (s.now.toNat / 1024 * 1024) ++ body

def calLiveOk (p : Nat) (bs : List Byte) : Bool :=
  bs.length == 304 && leAt bs 0 2 == 1 && leAt bs 2 2 == p && leAt bs 4 4 == crc32c (bs.drop 16) &&
  (List.range 36).all (fun k => decide (leAt bs (16 + 8 * k + 5) 1 ≤ 63) && decide (leAt bs (16 + 8 * k + 6) 1 ≤ 63) &&
    decide (leAt bs (16 + 8 * k + 7) 1 < 4))

/-- One side of one record becomes targets, or is skipped. -/
def restoreSide (s : State) (p : Nat) (rx : Bool) (line : Nat) (bs : List Byte) : State :=
  let k := ringKey p rx line
  let r := ringAt_ s k
  let o := 16 + 8 * line
  if !bitAt (leAt bs (o + 7) 1) (b2n rx) then s
  else
    let h := leAt bs (o + 2 * b2n rx) 2
    let far := decide (h > heaterOf k r + 2500 ∨ heaterOf k r > h + 2500)
    if r.state ≠ 4 ∨ calLine s p rx = some line ∨ far then bump s Obj.restoreSkipped
    else setRing_ s k { r with
      heaterTo := some h
      driveTo := if rx then r.driveTo else some (leAt bs (o + 4) 1)
      thresholdTo := if rx ∧ line ≠ 32 then some (leAt bs (o + 5) 1) else r.thresholdTo
      delayTo := if rx ∧ line ≠ 32 then some (leAt bs (o + 6) 1) else r.delayTo }

def doCalLive (s : State) (p : Nat) (bs : List Byte) : Bool × State :=
  if !calLiveOk p bs ∨ dval s Obj.moduleState ≠ 1 then (false, s)
  else (true, overNats (List.range 36) (fun k s => restoreSide (restoreSide s p false k bs) p true k bs) s)

def execCalLive (p : Fin 366) (bs : List Byte) (s : State) : Host.Outcome State Fault Refusal := .next (doCalLive s p.val bs).2

/-! Combs (R156 to R160). -/

/-- A tap power in 0.1 % of its baseline. -/
def permille (power base : Nat) : Nat := power * 1000 / max 1 base

/-- Lowest of some ratios. -/
def lowest (l : List Nat) : Nat := l.foldl min (l.headD 0)

/-- The fade ratio of a line in whole 0.1 % (R156). -/
def lineFade (power base drive nom th : Nat) : Nat := power * 1000 * (nom - th) / (max 1 base * (drive - th))

/-- Lowest fade ratio in 0.1 % (R156), at a drive in 0.1 mA. At or below the threshold current it is not defined: free. -/
def fadeOf (s : State) (c drive : Nat) (taps : List Nat) : Nat :=
  let nom := Config.combFactory c 0
  let th := Config.combFactory c 1
  if drive ≤ th then (Config.freeWord s.freeCtr (0x80000000 + c)).toNat % 65536
  else lowest ((taps.zipIdx).map (fun e => lineFade e.1 (Config.tapBase (combLowKey c e.2)) drive nom th))

/-- The drive a comb's loop sets for the next second (R137, R156): raised until the weakest line has 90 % of its baseline, on an idle comb
65 %, by at most 1 % of the maximum. DEDUCED (log 108): as F_k says, a line's power is proportional to the drive above threshold. -/
def raisedDrive (c drive floor_ : Nat) (taps : List Nat) : Nat :=
  let th := Config.combFactory c 1
  let top := Config.combFactory c 2
  let need := (taps.zipIdx).map (fun e =>
    let base := Config.tapBase (combLowKey c e.2)
    if floor_ * base ≤ 1000 * e.1 then drive else if e.1 = 0 then top else th + cdiv ((drive - th) * floor_ * base) (1000 * e.1))
  max drive (min (min (need.foldl max 0) (drive + top / 100)) top)

/-- A comb's second ends: its fade ratio and its drive, what follows from them, and the drive of the next second (R156, R159, R160).
One in Ring-keep or off is not evaluated. -/
def doFade (s : State) (c : Nat) (taps : List Nat) : State :=
  let v := combAt s c
  if v.state = 6 ∨ v.state = 7 ∨ v.state = 8 ∨ taps.length ≠ 36 ∨ v.evalAt.any (fun t => decide (s.ticks < t + 1000000000)) then s
  else
    let drive := driveNow s c
    let f := fadeOf s c drive taps
    let light := decide (f < 750) || decide (10 * drive > 9 * Config.combFactory c 2)
    let retire := decide (f < 600)
    let v := { v with
      drive := some (raisedDrive c drive (if v.serves.isSome then 900 else 650) taps)
      fade := f, power := taps, evalAt := some s.ticks
      lightN := if light then v.lightN + 1 else 0, retireN := if retire then v.retireN + 1 else 0 }
    let s := bumpFree (setComb s c v)
    match v.serves with
    | none => if v.retireN ≥ 2 then retireComb s c else s
    | some bt =>
      let lit := (List.range 10).any (fun d => (combAt s d).target == some bt)
      let s := if v.retireN ≥ 2 ∧ !lit ∧ (chooseSpare s bt).isNone then setComb s c { v with state := 5 } else s
      if v.lightN < 2 ∨ lit then s
      else match lightSpare s bt with
        | some s => if v.lightN = 2 then combFadeMsg s c f false else s
        | none => combFadeMsg s c f true

def execFadeEvaluation (c : Fin 10) (lanes others : List (BitVec 16)) (s : State) : Host.Outcome State Fault Refusal :=
  .next (doFade s c.val ((lanes ++ others).map (·.toNat)))

/-- The barista sends COMB_SWITCH (R162). -/
def sendCombSwitch (s : State) (c bt : Nat) (sudden : Bool) (t : Word) : State :=
  ctrlSend (bump s Obj.combSwitches) 0x7F 0x3B (c + bt * 16 + b2n sudden * 128) [t]

/-- A comb's drive is raised to full: nominal, or more where it has more. -/
def fullDrive (s : State) (c : Nat) : State := setComb s c { combAt s c with drive := some (max (driveNow s c) (Config.combFactory c 0)) }

/-- A spare is at full drive on grid: one that lights has its planned switch named (R157 Table 8 step 3), one switched in at once has
been raised (R158 Table 9 step 6). -/
def doSpareReady (s : State) (c : Nat) : State :=
  let v := combAt s c
  match v.state, v.target, v.serves with
  | 2, some bt, _ => sendCombSwitch (fullDrive s c) c bt false (boundaryAfter s 2048)
  | 0, _, some _ => fullDrive s c
  | 3, _, some _ => fullDrive s c
  | _, _, _ => s

def execSpareReady (c : Fin 10) (s : State) : Host.Outcome State Fault Refusal := .next (doSpareReady s c.val)

/-- COMB_SWITCH reaches the base tiles: named for Tc. A planned one whose tile has lost its comb meanwhile is cancelled (R160). -/
def takeCombSwitch (s : State) (src : BitVec 7) (seq : BitVec 32) (c bt : Nat) (sudden : Bool) (t : Word) : State :=
  let r := ctrlTakeAll (sigArrive s (ctrlPacket src.toNat 0x7F 0x3B seq (c + bt * 16 + b2n sudden * 128) [t])) src seq
  if r.1 ∧ (sudden ∨ (tfind s.light.lossAt bt).isNone) then schedule r.2 t (.combSwitch bt c sudden) else r.2

def execCombSwitchPlanned (src : BitVec 7) (seq : BitVec 32) (c : Fin 10) (bt : Fin 8) (t : Word) (s : State) : Host.Outcome State Fault Refusal :=
  .next (takeCombSwitch s src seq c.val bt.val false t)

def execCombSwitchSudden (src : BitVec 7) (seq : BitVec 32) (c : Fin 10) (bt : Fin 8) (t : Word) (s : State) : Host.Outcome State Fault Refusal :=
  .next (takeCombSwitch s src seq c.val bt.val true t)

/-- The steps of a base tile's ports end without result; their lines return home at the step's end (R152). -/
def endTileSteps (s : State) (bt : Nat) : State :=
  ((calKeys s none).filter (fun k => portTile (k / 72) == bt)).foldl (fun s k => setCalPort s k { calPortAt s k with ended := true }) s

/-- What a comb that was replaced becomes (R159): dead or faded it is retired, else kept warm at idle drive. -/
def combReplaced (s : State) (o : Nat) (dead : Bool) : State :=
  let w := combAt s o
  if dead ∨ w.fade < 600 ∨ w.state = 5 then retireComb s o
  else combRecord (setComb s o { w with state := 4, serves := none, lightN := 0, retireN := 0, drive := some (Config.combFactory o 3) }) o

/-- At Tc the spare serves the tile; the old comb is kept warm or retired (R157 to R159). After a loss the rings leave HOLD and the ring
segments from the tile return. A planned switch whose spare already serves is over, and one whose spare was lost has no effect. -/
def applyCombSwitch (s : State) (bt c : Nat) (sudden : Bool) : State :=
  let v := combAt s c
  if v.state = 6 ∨ v.serves.isSome ∨ !combLit s c then s
  else
    let s := match servingComb s bt with | none => s | some o => combReplaced s o sudden
    let s := setComb s c { combAt s c with state := if c = bt then 0 else 3, serves := some bt, target := none, drive := some (driveNow s c) }
    let s := if sudden then
        endTileSteps (setLight { s with sigDark := s.sigDark.filter (· != bt) } (fun l => { l with
          lossAt := tdel l.lossAt bt
          rings := l.rings.map (fun e => if portTile (e.1 / 72) = bt ∧ e.2.state = 5 then (e.1, { e.2 with state := 4, from_ := s.now.toNat }) else e) })) bt
      else s
    combRecord s c

end Sys2Proof.Machine
end

