-- ==== Sys2Proof/Machine/Power.lean ====
section
/-! DEFINITION. The power input, stages, switched domains and shedding (R317 to R334). -/
namespace Sys2Proof.Machine

def setPow (s : State) (f : Supply → Supply) : State := { s with pow := f s.pow }

/-! The input (R317 to R321). -/

/-- Insert into a rising list. -/
def insertNat (v : Nat) : List Nat → List Nat
  | [] => [v]
  | x :: t => if v ≤ x then v :: x :: t else x :: insertNat v t

/-- The median of a list; of an even number, the mean of the two in the middle. -/
def median (l : List Nat) : Nat :=
  let m := l.foldr insertNat []
  let n := m.length
  if n % 2 = 1 then m.getD (n / 2) 0 else (m.getD (n / 2 - 1) 0 + m.getD (n / 2) 0) / 2

def stageOut (s : State) (n : Nat) : Bool := s.pow.stagesFailed.contains n || s.pow.stagesRetired.contains n

/-- STAGES_IN_SERVICE (R334). -/
def stagesInService (s : State) : List Nat := (List.range 12).filter (fun n => !stageOut s n)

/-- Falling threshold of a level in 10 mV; level 5 is power-fail (R326 Table 3). -/
def fallsBelow (n : Nat) : Nat := 4600 - 200 * n

/-- Rising threshold of a level. -/
def risesTo (n : Nat) : Nat := fallsBelow n + 150

/-- The tick since which a condition holds. -/
def since (s : State) (old : Option Nat) (c : Bool) : Option Nat := if c then some (old.getD s.ticks) else none

/-- The input crosses downward every level of which four readings in a row lie below the threshold (R326). -/
def crossings (s : State) : State :=
  overNats [1, 2, 3, 4] (fun n s =>
    if tget (fun _ => 0) s.pow.below n ≥ 4 ∧ s.pow.inputLevel < n then
      bump (setPow s (fun w => { w with inputLevel := n })) Obj.shedEvents
    else s) s

/-- A reading is due: one every microsecond (R319). -/
def readingDue (s : State) : Bool := match s.pow.readAt with | some t => decide (s.ticks ≥ t + 1000) | none => true

/-- After a power-fail ALERT_N is released with the input (R330 Table 4). DESIGN CHOICE (log 114): that is when a reading finds no input, or no bus
where no stage reads. -/
def alertRelease (s : State) : State :=
  if s.pow.failed then { s with faults := { s.faults with alert := .released, alertByPower := false } } else s

/-- A reading of the hold-up bank by every stage, in 10 mV, and of the bus, in mV (R319). -/
def doInputReading (s : State) (rs : List Nat) (bus : Nat) : State :=
  let vs := (stagesInService s).filterMap (fun n => rs[n]?)
  if !readingDue s then s
  else
  let s := setPow s (fun w => { w with readAt := some s.ticks, bus := bus, busLow := since s w.busLow (decide (bus < 5400)) })
  if vs.isEmpty then (if bus = 0 then alertRelease s else s)
  else
    let v := median vs
    let w := s.pow
    let s := if v = 0 then alertRelease s else s
    let s := setPow s (fun w => { w with
      input := v, inputMin := some (min (w.inputMin.getD v) v)
      below := [1, 2, 3, 4, 5].foldl (fun t n =>
        tset (fun _ => 0) t n (if v < fallsBelow n then tget (fun _ => 0) w.below n + 1 else 0)) []
      above := [1, 2, 3, 4].foldl (fun t n =>
        match since s (tfind w.above n) (decide (v ≥ risesTo n)) with | some a => tput t n a | none => t) []
      overAt := since s w.overAt (decide (v > 6400)), under := since s w.under (decide (v ≤ 6200))
      good := since s w.good (decide (v ≥ 4500)) })
    let s := if w.failed then s else crossings s
    -- below 45 V before the module is ready, start-up begins again at step 1 (R439)
    if s.startup.step ≠ 0 ∧ v < 4500 then { s with startup := { s.startup with step := 1, began := s.ticks, stepAt := s.ticks, finished := [] } } else s

def execInputReading (rs : List (BitVec 16)) (bus : BitVec 16) (s : State) : Host.Outcome State Fault Refusal :=
  .next (doInputReading s (rs.map (·.toNat)) bus.toNat)

/-- SUPPLY, raised by the active barista (R349). -/
def supplyMsg (s : State) (d : Nat) : State := raise s (activeSite s) 0x11 0x42 1 false d

/-- Above 64 V for 1 microsecond the disconnect opens (R318). -/
def doInputDisconnect (s : State) : State :=
  match s.pow.overAt with
  | some t =>
    if s.pow.disconnected ∨ s.ticks < t + 1000 then s
    else supplyMsg (bump (setPow s (fun w => { w with disconnected := true })) Obj.inputOverEvents) (s.pow.level + 16)
  | none => s

def execInputDisconnect (s : State) : Host.Outcome State Fault Refusal := .next (doInputDisconnect s)

/-- At or below 62 V for 10 microseconds it closes. -/
def doInputReconnect (s : State) : State :=
  match s.pow.under with
  | some t => if s.pow.disconnected ∧ s.ticks ≥ t + 10000 then setPow s (fun w => { w with disconnected := false }) else s
  | none => s

def execInputReconnect (s : State) : Host.Outcome State Fault Refusal := .next (doInputReconnect s)

/-- Once a second while the input lies in 58 to 64 V (R317). -/
def doOvervoltage (s : State) : State :=
  let due : Bool := match s.pow.noticeAt with | some t => decide (s.ticks ≥ t + 1000000000) | none => true
  if 5800 < s.pow.input ∧ s.pow.input ≤ 6400 ∧ due then
    supplyMsg (setPow s (fun w => { w with noticeAt := some s.ticks })) (s.pow.level + 8)
  else s

def execOvervoltageNotice (s : State) : Host.Outcome State Fault Refusal := .next (doOvervoltage s)

/-- The level the stage count calls for (R321). -/
def stageLevel (s : State) : Nat :=
  let n := (stagesInService s).length
  if n ≥ 10 then 0 else if n = 9 then 1 else if n ≥ 5 then 2 else 4

/-- The deeper of the two levels. -/
def wantedLevel (s : State) : Nat := max s.pow.inputLevel (stageLevel s)

/-- SHED_CAUSE (R334). -/
def shedCauseOf (s : State) : Nat :=
  if s.pow.level = 0 then 0 else if s.pow.inputLevel ≥ s.pow.level then 1 else 2

/-- A failed stage is isolated until the next start-up (R321). -/
def doStageFail (s : State) (n : Nat) : State :=
  if stageOut s n then s
  else raise (bump (setPow s (fun w => { w with stagesFailed := w.stagesFailed ++ [n] })) Obj.stageFaults) (sitePS n) 0x08 0x41 4 false n

def execStageFail (n : Fin 12) (s : State) : Host.Outcome State Fault Refusal := .next (doStageFail s n.val)

/-- Each 1 ms in which the mean input exceeds 4.5 kW adds a step, up to 8 (R325). -/
def doPowerReview (s : State) (w : Nat) : State :=
  if s.ticks < s.pow.reviewAt + 1000000 then s
  else
    let s := setPow s (fun x => { x with reviewAt := s.ticks, power := w })
    if w > 4500 ∧ s.pow.pause < 8 then bump (setPow s (fun x => { x with pause := x.pause + 1 })) Obj.powerLimitSteps else s

def execPowerLimitReview (w : BitVec 16) (s : State) : Host.Outcome State Fault Refusal := .next (doPowerReview s w.toNat)

/-- Each 10 ms in which it is below 4.3 kW removes one. -/
def doPowerRelease (s : State) (w : Nat) : State :=
  if s.ticks < s.pow.releaseAt + 10000000 then s
  else setPow s (fun x => { x with releaseAt := s.ticks, pause := if w < 4300 then x.pause - 1 else x.pause })

def execPowerLimitRelease (w : BitVec 16) (s : State) : Host.Outcome State Fault Refusal := .next (doPowerRelease s w.toNat)

/-! Switched domains (R322 to R324). -/

/-- Peak power of a domain at the die rails, in mW (R322 Table 2). -/
def domPeak (d : Nat) : Nat :=
  if d < 16 then 150000 else if d < 32 then 20000 else if d < 56 then 40000 else if d < 72 then 10000
  else if d < 80 then 20000 else if d < 82 then 35000 else 5000

/-- The ports a bank powers. -/
def bankPorts (d : Nat) : List Nat := (List.range 366).filter (fun p => portBank p == d)

/-- A compute die without supply: nothing it holds is kept but the deep stores on its cache die (R72, R333). -/
def computeDark (s : State) (n : Nat) : State :=
  let s := overNats (List.range 64) (fun t s =>
    updTile s (64 * n + t) (fun x => { tileReset (64 * n + t) with store := lostStore s.freeCtr (64 * n + t), deep := x.deep, cupPassed := x.cupPassed, banksOut := x.banksOut, half := x.half })) s
  let s := setDie s n {}
  let s := overNats (List.range 12) (fun k s => setInfl s (12 * n + k) {}) s
  dropPaths { s with
    sent := s.sent.filter (fun o => match o with | .mesh cd _ _ => cd != n | _ => true)
    fab := { s.fab with units := s.fab.units.filter (fun u => u.cd != n) } } (siteCD n)

/-- Deep stores of a cache die that loses its supply are undefined (R74). -/
def deepLost (s : State) (n : Nat) : State :=
  bumpFree (overNats (List.range 64) (fun t s => updTile s (64 * n + t) (fun x => { x with deep := lostStore s.freeCtr (1024 + 64 * n + t) })) s)

/-- A stack turned off: its contents are lost. -/
def stackDark (s : State) (m : Nat) : State :=
  updStack s m (fun st => { st with bytes := [], check := [], off := true, selfRefresh := false, closing := false, held := [], txq := []
                                    lineBuf := [], bankWait := [], repairing := none })

/-- A stack is on its way to self-refresh: it takes no more requests and finishes those it holds, of which a load of a die that is off
has nobody to take its lines (R191). -/
def enterRefresh (s : State) (m : Nat) : State :=
  settleStack (updStack s m (fun st => { st with
    closing := true
    held := st.held.filter (fun h => !h.load || match siteDomain h.req.src.toNat with | some d => domAt s d == .on | none => true) })) m

/-- Rings of a bank's ports change state: unlit, or acquiring, and then the port waits for them (R329). -/
def bankRings (s : State) (d state : Nat) : State :=
  (bankPorts d).foldl (fun s p => overNats (List.range 72) (fun i s =>
    let r := ringAt_ s (72 * p + i)
    setRing_ s (72 * p + i) { r with state := state, heaterTo := none, fails := 0, passes := 0, seen := none })
    (updPort s p (fun v => { v with acquiring := state == 1 }))) s

/-- A comb is turned down by shedding to Ring-keep (8), at idle drive, or off (7), and remembers its state (R161). -/
def combPark (s : State) (c state : Nat) : State :=
  let v := combAt s c
  if v.state = 6 then s
  else setComb s c { v with state := state, parked := v.parked.orElse (fun _ => some v.state)
                            drive := if state = 8 then some (Config.combFactory c 3) else v.drive }

/-- A domain leaves On, or its way there, for another state. -/
def domDown (s : State) (d : Nat) (v : DomSt) : State :=
  if domAt s d = v ∨ domAt s d = .faulted then s
  else
    let s := setDom s d v
    let s := if 56 ≤ d ∧ d < 72 then s else { s with ctrlWin := tdel s.ctrlWin (domSite d) }
    let s := if v = .off ∨ v = .faulted then { s with faults := { s.faults with repeaters := s.faults.repeaters.filter (fun r => decide (56 ≤ d ∧ d < 72) || r.site != domSite d) } } else s
    if d < 16 then
      let s := computeDark s d
      match s.job with | some j => doJobStopped s j.owner (siteCD d) | none => s
    else if d < 32 then (if v = .retention then s else deepLost s (d - 16))
    else if d < 56 then
      (if v = .selfRefresh then enterRefresh s (d - 32)
       else stackDark s (d - 32))
    else if d < 72 then bankRings ((bankPorts d).foldl endCalAt s) d 0
    else if d < 80 then
      let s := fabricDieLost s (d - 72)
      match s.job with | some j => doJobStopped s j.owner (siteFD (d - 72)) | none => s
    else if d < 82 then hostDieLost s (d - 80)
    else combPark s (d - 82) (if v = .ringKeep then 8 else 7)

/-- A domain is On or on its way. -/
def domUpish (s : State) (d : Nat) : Bool :=
  match domAt s d with | .on => true | .turningOn _ => true | _ => false

/-- A die tripped until the next start-up (R341). -/
def tripped (s : State) (site : Nat) : Bool := (tget (fun _ => {}) s.therm site).sensor == 4

/-- May a domain be turned on again before the next start-up? -/
def domMayRise (s : State) (d : Nat) : Bool :=
  let site := domSite d
  !fencedSite s site && !tripped s site && !tripped s (siteTile site) &&
  (if d < 16 then !fencedSite s (siteKD d) && !tripped s (siteKD d)
   else if d < 32 then !fencedSite s (siteCD (d - 16)) && !tripped s (siteCD (d - 16)) else true)

/-- A domain is switched on. -/
def domUp (s : State) (d : Nat) : State :=
  if !domMayRise s d then s
  else match domAt s d with
    | .off => wakeFromOff s d
    | .retention => setDom s d (.turningOn .retention)
    | .selfRefresh => setDom s d (.turningOn .selfRefresh)
    | .ringKeep => setDom s d (.turningOn .ringKeep)
    | _ => s

/-- Place of a domain in the order of start-up step 5: cache dies, compute dies, stacks, fabric dies, host dies, port banks (R439). -/
def riseClass (d : Nat) : Nat :=
  if d < 16 then 1 else if d < 32 then 0 else if d < 56 then 2 else if d < 72 then 5 else if d < 80 then 3 else 4

/-- In step 5 a domain waits for those of the places before its own that are still on their way (DEDUCED, log 85). -/
def inTurn (s : State) (d : Nat) : Bool :=
  s.startup.step != 5 || (List.range 82).all (fun e => decide (riseClass d ≤ riseClass e) || (match domAt s e with | .turningOn _ => false | _ => true))

/-- What else must be On before a domain can be (R75, R322, R439). -/
def domReady (s : State) (d : Nat) : Bool :=
  if !inTurn s d then false
  else if d < 16 then domAt s (domKD d) == .on
  else if dval s Obj.moduleState = 0 then true
  else if 56 ≤ d ∧ d < 72 then (match servingComb s ((d - 56) / 2) with | some c => domAt s (domLC c) == .on | none => false)
  else true

/-- A domain reaches On and its die starts (R322, R329). -/
def doDomainOn (s : State) (d : Nat) : State :=
  match domAt s d with
  | .turningOn from_ =>
    if !domReady s d then s
    else
      let s := setDom s d .on
      if d < 16 then setDie s d { dieAt s d with clockFrom := s.ticks }
      else if d < 32 then (if from_ = .off then wakeDeep s (d - 16) else s)
      else if d < 56 then updStack s (d - 32) (fun st => { st with selfRefresh := false, closing := false, off := st.off && decide (dval s Obj.moduleState = 0) })
      else if d < 72 then bankRings s d 1
      else if d < 80 then overNats [2 * (d - 72), 2 * (d - 72) + 1] (fun l s => if linkMay s l ∧ dval s Obj.moduleState = 1 then startTraining s l else s) s
      else if d < 82 then hostBack s
      else
        let v := combAt s (d - 82)
        let s := setComb s (d - 82) { v with state := v.parked.getD v.state, parked := none }
        -- a serving comb returns to full drive, a spare or a back-up to idle drive
        if v.parked.isNone then s
        else if v.serves.isSome then fullDrive s (d - 82) else setComb s (d - 82) { combAt s (d - 82) with drive := some (Config.combFactory (d - 82) 3) }
  | _ => s

def execDomainOn (d : Fin 92) (s : State) : Host.Outcome State Fault Refusal := .next (doDomainOn s d.val)

/-- A comb that serves a tile is lost at once: the tile's rings enter HOLD (R143, R158); one that serves none is off until the next start-up. -/
def combDark (s : State) (c : Nat) : State :=
  match (combAt s c).serves with
  | some bt => tileDark s bt
  | none => s

/-- What follows at once when a domain is lost: a compute die goes with its cache die, a stack fails, a comb is lost
(R75, R324). -/
def domLost (s : State) (d : Nat) (v : DomSt) : State :=
  let s := domDown s d v
  if d < 16 then domDown s (domKD d) .off
  else if d < 32 then domDown s (domCD (d - 16)) .off
  else if d < 56 then updStack s (d - 32) (stackOut 1)
  else if d < 82 then s
  else combDark s (d - 82)

/-- A regulator faults (R324): its domain is off until the next start-up, and a message names it. -/
def doDomainFault (s : State) (d : Nat) : State :=
  if domAt s d = .faulted then s
  else raise (domLost s d .faulted) (siteTile (domSite d)) 0x08 0x40 5 false d

def execDomainFault (d : Fin 92) (s : State) : Host.Outcome State Fault Refusal := .next (doDomainFault s d.val)

/-! Shedding (R326 to R329). -/

/-- A host die is turned off by shedding: its claim on the shadow ends first (R128). -/
def shedHost (s : State) (n : Nat) : State :=
  if domUpish s (domHD n) then domDown (ctrlSend s 0x7F 0x32 (siteHD n * 256)) (domHD n) .off else s

/-- The combs at level 4 (R161). -/
def shedCombs (s : State) : State :=
  overNats (List.range 10) (fun c s =>
    match (combAt s c).serves with
    | some bt => if bt = 0 ∨ bt = 7 ∨ !domUpish s (domLC c) then s else domDown s (domLC c) .ringKeep
    | none => if domUpish s (domLC c) then domDown s (domLC c) .off else s) s

/-- Actions of a level (R326 Table 3). -/
def shedActions (s : State) (n : Nat) : State :=
  match n with
  | 2 =>
    let s := endAny s 3 8 0
    let s := overNats (List.range 16) (fun k s => domDown s (domCD k) .off) s
    let s := overNats (List.range 8) (fun b s => domDown s (domBank b 0) .off) s
    overNats (List.range 16) (fun k s => if domUpish s (domKD k) then domDown s (domKD k) .retention else s) s
  | 3 => shedHost s 1
  | 4 =>
    let s := overNats (List.range 8) (fun k s => domDown s (domFD k) .off) s
    let s := shedHost s 0
    let s := overNats (List.range 24) (fun m s => if domUpish s (domMD m) then domDown s (domMD m) .selfRefresh else s) s
    let s := shedCombs s
    overNats (List.range 8) (fun b s =>
      let s := domDown s (domBank b 0) .off
      if b = 0 ∨ b = 7 then s else domDown s (domBank b 1) .off) s
  | _ => s

/-- The module is in operation: its start-up has ended and power has not failed. -/
def operating (s : State) : Bool := !s.pow.failed && decide (dval s Obj.moduleState = 1 ∨ dval s Obj.moduleState = 2)

/-- The next deeper level that the input or the stage count calls for is applied (R326, R328). -/
def doShedFalling (s : State) : State :=
  if !operating s ∨ s.pow.level ≥ 4 ∨ wantedLevel s ≤ s.pow.level then s
  else
    let n := s.pow.level + 1
    let s := shedActions (setPow s (fun w => { w with level := n })) n
    supplyMsg s n

def execShedFalling (s : State) : Host.Outcome State Fault Refusal := .next (doShedFalling s)

/-- What undoes a level's actions, in reverse order (R326, R329). -/
def shedUndo (s : State) (n : Nat) : State :=
  match n with
  | 2 =>
    let s := overNats (List.range 16) (fun k s => domUp s (domKD k)) s
    let s := overNats (List.range 8) (fun b s => domUp s (domBank b 0)) s
    overNats (List.range 16) (fun k s => domUp s (domCD k)) s
  | 3 => domUp s (domHD 1)
  | 4 =>
    let s := overNats (List.range 10) (fun c s => if (combAt s c).parked.isSome then domUp s (domLC c) else s) s
    let s := overNats (List.range 8) (fun b s => domUp s (domBank b 1)) s
    let s := overNats (List.range 24) (fun m s => if domAt s (domMD m) == .selfRefresh then domUp s (domMD m) else s) s
    let s := domUp s (domHD 0)
    overNats (List.range 8) (fun k s => domUp s (domFD k)) s
  | _ => s

/-- The input has stayed at or above the rising threshold of its level for 1 ms; the deepest level in force is undone when
neither cause calls for it any more (R321, R326). -/
def doShedRising (s : State) : State :=
  let up : Bool := match tfind s.pow.above s.pow.inputLevel with | some t => decide (s.ticks ≥ t + 1000000) | none => false
  let s := if s.pow.inputLevel > 0 ∧ up then setPow s (fun w => { w with inputLevel := w.inputLevel - 1 }) else s
  if !operating s ∨ s.pow.level = 0 ∨ s.pow.level ≤ wantedLevel s then s
  else
    let n := s.pow.level
    shedUndo (setPow s (fun w => { w with level := n - 1 })) n

def execShedRising (s : State) : Host.Outcome State Fault Refusal := .next (doShedRising s)

/-- DOMAIN_STATE (R334). A comb in Ring-keep has no code there: a free value. -/
def domainStateWord (s : State) (d : Nat) : Nat :=
  match domAt s d with
  | .off | .turningOn .off => 0
  | .on => 1
  | .retention | .turningOn .retention => 2
  | .selfRefresh | .turningOn .selfRefresh => 3
  | .faulted => 4
  | .ringKeep | .turningOn .ringKeep => (Config.freeWord 0 (0x240000 + d)).toNat % 256

end Sys2Proof.Machine
end

