-- ==== Sys2Proof/Machine/Heat.lean ====
section
/-! DEFINITION. Sensors, thermal thresholds, pauses, trips and coolant (R335 to R346). Temperatures in 0.1 degrees, rates in
0.01 degrees/ms, rail powers in mW. -/
namespace Sys2Proof.Machine

def barOf (s : State) (n : Nat) : Barista := tget (fun _ => {}) s.bars n
def setBarOf (s : State) (n : Nat) (b : Barista) : State := { s with bars := tset (fun _ => {}) s.bars n b }

/-- A compaction of a carafe is abandoned (R393). -/
def stopCompaction (s : State) (n : Nat) : State := setCarafe s n { carafeOf s n with compacting := none }

/-- What a barista was about to write to its carafe is given up: a compaction, and the write queue of its log (R383, R393). -/
def stopWrites (s : State) (n : Nat) : State := setCarafe s n { carafeOf s n with compacting := none, logq := [] }

/-- A barista's silence latch is set: its outputs are cut, and the check is recorded (R375, R383). Check 8 holds until the
next start-up (R386), of a silent barista too, and so does a third silence within 24 hours. -/
def silence (s : State) (n cause : Nat) : State :=
  if roleOf s n = .dead then s
  else if roleOf s n = .silent then (if cause = 8 then setRole s n .dead else s)
  else
    let b := barOf s n
    let recent := b.silences.filter (fun t => decide (s.now.toNat < t + 86400000000000))
    let last := decide (cause = 8) || decide (recent.length ≥ 2)
    let s := stopWrites { s with mt := { s.mt with lit := s.mt.lit.filter (· != n) } } n
    let s := setBarOf s n { b with silentAt := some s.ticks, cause := cause, silences := recent ++ [s.now.toNat] }
    bump (setRole s n (if last then .dead else .silent)) (Obj.baristaSilences + 256 * n)

/-- THERM_EVENT by the thermal sensing of a die's base tile (R335, R349). -/
def thermEvent (s : State) (site what p : Nat) : State :=
  raise s (siteTile site) 0x09 0x48 1 false (site + what * 128 + p % 16 * 1024)

/-- Is the domain of a die On? A die without one always is. -/
def dieOn (s : State) (site : Nat) : Bool := match siteDomain site with | some d => domAt s d == .on | none => true

/-- Dies that keep a pause count (R338). -/
def pauses (site : Nat) : Bool :=
  match siteKind site with | some (.cd, _) | some (.kd, _) | some (.bt, _) | some (.md, _) => true | _ => false

/-! The middle layer (R343). -/

/-- KD_MODEL of KDn: the factory's theta_K, theta_C and tau, three F32. -/
def kdModelBytes (n : Nat) : List Byte := (List.range 12).map (Config.factoryByte (0x340000 + 256 * (24 + n) + 8))

/-- An F32 in steps of 2^-40, rounded down. -/
def f32Fixed (w : Nat) : Nat :=
  let e := w / 2 ^ 23 % 256
  let m := w % 2 ^ 23 + (if e = 0 then 0 else 2 ^ 23)
  let e := max e 1
  if 110 ≤ e then m * 2 ^ (e - 110) else m / 2 ^ (110 - e)

def kdModel (n i : Nat) : Nat := f32Fixed (leAt (kdModelBytes n) (4 * i) 4)

/-- e^-x for x up to 1, both in steps of 2^-40: the series to its twelfth power. -/
def expSeries : Nat → Int → Int → Int → Int
  | 0, _, _, acc => acc
  | n + 1, x, term, acc => let term := -(term * x) / (2 ^ 40 * (13 - (n + 1 : Nat)))
                           expSeries n x term (acc + term)

/-- The share of the old value that one sample of the filter keeps: e^(-50 us / tau), in steps of 2^-40. -/
def filterKeep (n : Nat) : Int :=
  let tau := kdModel n 2
  if 20 * tau < 2 ^ 40 then 0 else expSeries 12 ((2 ^ 80 / (20 * tau) : Nat) : Int) (2 ^ 40) (2 ^ 40)

/-- One sample of the first-order filter with the time constant tau. DEDUCED (log 114): the response of the worked example at the samples; a time
constant below one sample keeps nothing of the old value. -/
def filtered (n : Nat) (old new : Int) : Int := new + (old - new) * filterKeep n / 2 ^ 40

/-- T_est of KDn: T_CD is replaced when CDn's own sensor is broken. -/
def kdEstimate (s : State) (n : Nat) (pk pc : Int) : Int :=
  let bt := (thermAt s (siteTile (siteKD n))).reading.getD 0
  let cd := thermAt s (siteCD n)
  let tcd := if cd.sensor = 0 ∨ cd.sensor = 4 then cd.reading.getD 0 else bt + pc * 25 / 10000
  max tcd bt + ((kdModel n 0 : Int) * pk + (kdModel n 1 : Int) * pc) / (100 * 2 ^ 40)

/-- The value a die acts on (R335, R340, R342). -/
def dieValue (site : Nat) (t : Therm) (v est : Option Int) : Option Int :=
  let good := t.sensor = 0 ∨ t.sensor = 4
  match siteKind site with
  | some (.kd, _) => if good then (match v, est with | some a, some b => some (max a b) | _, _ => none) else est
  | some (.md, _) => if good then v.map (fun a => max a (t.dram.getD a)) else none
  | _ => if good then v else none

/-- A count may not fall below the value held for a broken sensor (R342) or low flow (R345). -/
def pauseFloor (s : State) (site : Nat) (t : Therm) : Nat :=
  if t.sensor ≠ 0 ∧ t.sensor ≠ 4 ∧ pauses site then 15
  else match siteKind site with | some (.cd, _) => if s.coolant.hold then 8 else 0 | _ => 0

/-- A new count: reviews run from the first step since it was last 0 (R338). -/
def setPause (s : State) (t : Therm) (p : Nat) : Therm :=
  if p = 0 then { t with p := 0, reviewFrom := none, reviews := 0, releases := 0 }
  else if t.p = 0 then { t with p := p, reviewFrom := some s.ticks, reviews := 0, releases := 0 }
  else { t with p := p }

/-- Act or Limit adds steps, up to 15: of those called for since a time the largest, never their sum (R338). -/
def addPause (s : State) (site step what from_ : Nat) : State :=
  let t := thermAt s site
  let had := match t.bumped with | some (a, n) => if from_ ≤ a then n else 0 | none => 0
  let p := min 15 (t.p + (step - had))
  let t' := setPause s t p
  let s := bump (setTherm s site { t' with bumped := some (s.ticks, max step had) }) Obj.thermSteps (p - t.p)
  if p = t.p then s else thermEvent s site what p

/-- A stuck or failed domain of a base tile's dies, each with the outcome of R324 (R341). -/
def tileDomains (b : Nat) : List Nat :=
  (List.range 92).filter (fun d => decide (siteTile (domSite d) = b))

/-- The outcome of a trip at once (R341 Table 2); fences and switch-ins follow from the message. A barista that trips, or whose
oscillator does, falls silent until the next start-up. -/
def tripOutcome (s : State) (site : Nat) : State :=
  match siteKind site with
  | some (.ps, n) => doStageFail s n
  | some (.bt, b) => (tileDomains b).foldl (fun s d => if domAt s d = .off then s else domLost s d .off) s
  | some (.ba, n) => silence s n 8
  | some (.os, n) => silence s n 8
  | _ => match siteDomain site with | some d => domLost s d .off | none => s

/-- A trip is final until the next start-up: its outcome, counted and reported. -/
def tripDie (s : State) (site : Nat) : State :=
  let t := thermAt s site
  if t.sensor = 4 then s
  else
    let s := bump (setTherm s site { t with sensor := 4, act := false, limit := false }) Obj.thermTrips
    raise (tripOutcome s site) (siteTile site) 0x09 0x49 5 false site

/-- Dies that take no pauses, stand on a base tile and have a broken sensor: their trip rests on the tile's diode (R342). -/
def blindDies (s : State) (bt : Nat) : List Nat :=
  (List.range 100).filter (fun x => decide (siteTile x = bt) && !pauses x && (thermAt s x).sensor != 0 && (thermAt s x).sensor != 4)

/-- A trip; a base tile's also trips its dies that are blind. -/
def doTrip (s : State) (site : Nat) : State :=
  let blind := match siteKind site with | some (.bt, _) => blindDies s site | _ => []
  blind.foldl tripDie (tripDie s site)

/-- Samples in a duration of microseconds (R336). -/
def samplesIn (us : Nat) : Nat := cdiv us 50

/-- A thermal cycle: a rise of the die value of at least 40 degrees followed by a fall of 40 degrees (R400). -/
def thermalCycle (s : State) (site : Nat) (v : Int) : State :=
  let t := thermAt s site
  let low := match t.low with | some l => min l v | none => v
  match t.peak with
  | none =>
    if v ≥ low + 400 then setTherm s site { t with low := some low, peak := some v } else setTherm s site { t with low := some low }
  | some p =>
    let p := max p v
    if v ≤ p - 400 then
      { setTherm s site { t with low := some v, peak := none } with wear := tset (fun _ => 0) s.wear (1000 + site) (tget (fun _ => 0) s.wear (1000 + site) + 1) }
    else setTherm s site { t with peak := some p }

/-- Checks of one sample against Table 1. -/
def checkSample (s : State) (site : Nat) (v : Int) (rate : Option Int) : State :=
  let t := thermAt s site
  let atLeast := fun (obj : Nat) => match rate with | some r => decide (r ≥ (dval s obj : Int)) | none => false
  let warnN := if atLeast Obj.thermWarnRate then t.warnN + 1 else 0
  let actN := if atLeast Obj.thermActRate then t.actN + 1 else 0
  let act := decide (actN ≥ samplesIn (dval s Obj.thermActTime))
  let limit := decide (v ≥ 1000)
  let warn := decide (warnN ≥ samplesIn (dval s Obj.thermWarnTime)) &&
    (match t.warnAt with | some w => decide (s.ticks ≥ w + 100000000) | none => true)
  let tripN := if v ≥ 1100 then t.tripN + 1 else 0
  let s := setTherm s site { t with warnN := warnN, actN := actN, act := act, limit := limit, tripN := tripN,
                                    warnAt := if warn then some s.ticks else t.warnAt }
  let s := if warn then thermEvent (bump s Obj.thermWarnings) site 0 t.p else s
  let s := if act && !t.act then bump s Obj.thermActs else s
  let s := if pauses site then
      (if act && !t.act then addPause s site 4 1 s.ticks else if limit && !t.limit then addPause s site 1 2 s.ticks else s) else s
  if tripN ≥ 2 then doTrip s site else s

/-- Is a conversion usable (R342)? -/
def sampleOk (v : Option Int) : Bool := match v with | some x => decide (-400 ≤ x ∧ x ≤ 1500) | none => false

/-- The watches for an unresponsive sensor at one sample (R342): a rail power that differs by a quarter of the domain's peak from the power
at the last such change starts one, and a reading that moves by 1 degree within 10 s of it ends it. -/
def watchPower (s : State) (site : Nat) (t : Therm) (power : Nat) : Therm :=
  let old := t.power.getD power
  let quarter : Bool := match siteDomain site with
    | some d => decide (domPeak d ≤ 4 * (power - old) ∨ domPeak d ≤ 4 * (old - power)) | none => false
  let r := t.reading.getD 0
  let steps := t.steps.filter (fun x => decide (x.1 + 10000000000 ≤ s.ticks ∨ (r - x.2).natAbs < 10))
  if quarter then { t with power := some power, steps := steps ++ [(s.ticks, r)] } else { t with power := some old, steps := steps }

/-- A sample is due: one every 50 microseconds (R335). -/
def sampleDue (s : State) (site : Nat) : Bool :=
  match (thermAt s site).sampledAt with | some a => decide (s.ticks ≥ a + 50000) | none => true

/-- A die's diode is converted (R335); a tripped die's readings go on, and decide nothing (R341). `power` is the die's power at its rails; `pc` is that of CDn, for cache die
KDn (R343). -/
def doSample (s : State) (site : Nat) (v : Option Int) (power : Nat) (pc : Int) : State :=
  let t := thermAt s site
  let ok := sampleOk v
  let n := site - 24
  let isKd := match siteKind site with | some (.kd, _) => true | _ => false
  let t := { t with
    reading := if ok then v else t.reading
    bad := if ok then 0 else t.bad + 1
    still := if ok && v == t.reading && dieOn s site then t.still else if ok then some s.ticks else none
    pk := if isKd then filtered n t.pk power else t.pk
    pc := if isKd then filtered n t.pc pc else t.pc
    sampledAt := some s.ticks }
  let t := watchPower s site t power
  let s := setTherm s site t
  let est := if isKd then some (kdEstimate s n t.pk t.pc) else none
  let val := dieValue site t (if ok then v else none) est
  match val with
  | none => setTherm s site { t with value := if t.sensor = 0 ∨ t.sensor = 4 then t.value else none, estimate := est, warnN := 0, actN := 0, tripN := 0,
                                     hist := (t.hist.headD 0 :: t.hist).take (if t.hist.isEmpty then 0 else 20) }
  | some x =>
    let rate := (t.hist[19]?).map (fun old => (x - old) * 10)
    let s := setTherm s site { t with value := some x, estimate := est, rate := rate, high := some (max (t.high.getD x) x),
                                      hist := (x :: t.hist).take 20 }
    if t.sensor = 4 then s else checkSample (thermalCycle s site x) site x rate

def execSensorSample (site : Fin 100) (v : Option (BitVec 16)) (power pc : BitVec 32) (s : State) :
    Host.Outcome State Fault Refusal :=
  .next (if sampleDue s site.val then doSample s site.val (v.map (fun x => sint 16 x.toNat)) power.toNat pc.toNat else s)

/-- A 1 ms review of a die whose count is not 0 (R338). -/
def doThermalReview (s : State) (site : Nat) : State :=
  let t := thermAt s site
  match t.reviewFrom with
  | none => s
  | some r =>
    if s.ticks < r + (t.reviews + 1) * 1000000 then s
    else
      let s := setTherm s site { t with reviews := t.reviews + 1 }
      if (t.act || t.limit) && decide (t.p < 15) then addPause s site 1 3 (r + (t.reviews + 1) * 1000000) else s

def execThermalReview (site : Fin 100) (s : State) : Host.Outcome State Fault Refusal := .next (doThermalReview s site.val)

/-- A 10 ms review: a cool die's count falls by 1. -/
def doThermalRelease (s : State) (site : Nat) : State :=
  let t := thermAt s site
  match t.reviewFrom with
  | none => s
  | some r =>
    if s.ticks < r + (t.releases + 1) * 10000000 then s
    else
      let t := { t with releases := t.releases + 1 }
      let s := setTherm s site t
      let slow := match t.rate with | some x => decide (x < (dval s Obj.thermWarnRate : Int)) | none => true
      let cool := match t.value with | some v => decide (v < 970) | none => false
      let p := max (t.p - 1) (pauseFloor s site t)
      if !t.act && !t.limit && slow && cool && decide (p ≠ t.p) then
        thermEvent (setTherm s site (setPause s t p)) site 3 p
      else s

def execThermalRelease (site : Fin 100) (s : State) : Host.Outcome State Fault Refusal := .next (doThermalRelease s site.val)

/-- The DRAM dies of a stack are read every 1 ms (R340). -/
def dramDue (s : State) (m : Nat) : Bool :=
  match (thermAt s (siteMD m)).dramAt with | some a => decide (s.ticks ≥ a + 1000000) | none => true

/-- The readouts of a stack's DRAM dies (R190, R340, R341). -/
def doDramTemp (s : State) (m : Nat) (ts : List Int) : State :=
  match ts with
  | [] => s
  | x :: rest =>
    let hot := rest.foldl max x
    let s := updStack s m (fun st => { st with
      window16 := decide (hot > 850)
      temps := (List.range ts.length).foldl (fun t i => tset (fun _ => 0) t i (BitVec.ofInt 16 (ts.getD i 0))) st.temps })
    let s := setTherm s (siteMD m) { thermAt s (siteMD m) with dram := some hot, dramAt := some s.ticks }
    if hot ≥ 1050 then doTrip s (siteMD m) else s

def execDramTempRead (md : Fin 24) (ts : List (BitVec 16)) (s : State) : Host.Outcome State Fault Refusal :=
  .next (if dramDue s md.val then doDramTemp s md.val (ts.map (fun x => sint 16 x.toNat)) else s)

/-- SENSOR_BROKEN in full: the die is treated as too hot until start-up (R342). -/
def breakSensor (s : State) (site state : Nat) : State :=
  let t := thermAt s site
  let t := { t with sensor := state, value := if 24 ≤ site ∧ site < 40 then t.value else none, act := false, limit := false, minuteAt := some s.ticks }
  let s := setTherm s site (if pauses site then setPause s t 15 else t)
  let s := bump s Obj.sensorsBroken
  let s := raise s (siteTile site) 0x09 0x4A 4 false (site + state * 128)
  if pauses site then s else thermEvent s site 5 0

/-- A sensor is found out of range, stuck or unresponsive; of a die that takes no pauses the message comes again once per
minute. -/
def doSensorBroken (s : State) (site how : Nat) : State :=
  let t := thermAt s site
  if t.sensor = 4 then s
  else if t.sensor ≠ 0 then
    (match t.minuteAt with
     | some m => if !pauses site ∧ s.ticks ≥ m + 60000000000 then thermEvent (setTherm s site { t with minuteAt := some s.ticks }) site 5 0 else s
     | none => s)
  else
    let met := match how with
      | 0 => decide (t.bad ≥ 3)
      | 1 => dieOn s site && (match t.still with | some a => decide (s.ticks ≥ a + 10000000000) | none => false)
      | _ => t.steps.any (fun x => decide (s.ticks ≥ x.1 + 10000000000))
    if met then breakSensor s site (how + 1) else s

def execSensorBroken (site : Fin 100) (how : Fin 3) (s : State) : Host.Outcome State Fault Refusal := .next (doSensorBroken s site.val how.val)

/-- The coolant is read every 100 ms (R344). -/
def coolantDue (s : State) : Bool := match s.coolant.readAt with | some a => decide (s.ticks ≥ a + 100000000) | none => true

/-- The coolant sensors are read (R344, R345). -/
def doCoolant (s : State) (inlet outlet : Int) (flow : Nat) : State :=
  let c := s.coolant
  let ok := since s c.okSince (decide (flow ≥ 400))
  let calm := match ok with | some t => decide (s.ticks ≥ t + 10000000000) | none => false
  let c := { c with readAt := some s.ticks, inlet := inlet, outlet := outlet, flow := flow, lowSince := since s c.lowSince (decide (flow < 200)),
                    okSince := ok, hold := c.hold && !calm }
  let s := { s with coolant := c }
  let out := decide (inlet > 450) || decide (inlet < 150) || decide (flow < 400)
  let due := match c.saidAt with | some t => decide (s.ticks ≥ t + 1000000000) | none => true
  if out && due then
    raise { s with coolant := { c with saidAt := some s.ticks } } (siteTile (activeSite s)) 0x09 0x48 1 false (4 * 128)
  else s

def execCoolantRead (inlet outlet flow : BitVec 16) (s : State) : Host.Outcome State Fault Refusal :=
  .next (if coolantDue s then doCoolant s (sint 16 inlet.toNat) (sint 16 outlet.toNat) flow.toNat else s)

/-- A flow below 2 L/min for 1 s holds every compute die at 8 or above (R345). -/
def doLowFlow (s : State) : State :=
  match s.coolant.lowSince with
  | none => s
  | some t =>
    if s.ticks < t + 1000000000 ∨ s.coolant.hold then s
    else overNats (List.range 16) (fun n s =>
      let x := thermAt s (siteCD n)
      if x.p < 8 then thermEvent (setTherm s (siteCD n) (setPause s x 8)) (siteCD n) 3 8 else s)
      { s with coolant := { s.coolant with hold := true } }

def execLowFlow (s : State) : Host.Outcome State Fault Refusal := .next (doLowFlow s)

/-- THERM_PAUSE: for a compute die the level its tiles apply (R339). -/
def thermPauseOf (s : State) (site : Nat) : Nat :=
  match siteKind site with
  | some (.cd, n) => pauseOf s n
  | _ => (thermAt s site).p

end Sys2Proof.Machine
end

