-- ==== Sys2Proof/Machine/Faults.lean ====
section
/-! DEFINITION. Fault messages, the collector, ALERT_N, recoveries and fences (R347 to R365, R472). -/
namespace Sys2Proof.Machine

def setFaults (s : State) (f : Faults → Faults) : State := { s with faults := f s.faults }
/-- The active barista works. -/
def collectorUp (s : State) : Bool := roleOf s s.active.val == .active

/-! DETAIL fields (R349 Table 4). -/

def detailOf (m : FaultMsg) : Nat := m.detail.toNat
def portOfDetail (m : FaultMsg) : Nat := fld (detailOf m) 0 9
def lineOfDetail (m : FaultMsg) : Nat := fld (detailOf m) 9 6

/-- Blocks of each kind of die (R472 Table 14). -/
def blocksOf : DieKind → List Nat
  | .bt => [0x00, 0x03, 0x07, 0x08, 0x09, 0x0A, 0x0B, 0x10]
  | .cd => [0x00, 0x01, 0x02, 0x03, 0x04, 0x07, 0x10]
  | .kd => [0x00, 0x07, 0x10]
  | .md => [0x00, 0x03, 0x05, 0x06, 0x07, 0x10]
  | .fd => [0x00, 0x03, 0x07, 0x0C, 0x0D, 0x10]
  | .hd => [0x00, 0x03, 0x07, 0x0E, 0x0F, 0x10]
  | .ba => [0x00, 0x03, 0x07, 0x10, 0x11, 0x12]
  | .lc => [0x00, 0x07, 0x0A, 0x10]
  | .os => [0x00, 0x07, 0x10]
  | .ps => [0x00, 0x07, 0x08, 0x10]

/-- Blocks that raise a kind, and its severity (R349 Table 4, R472). -/
def kindRow (k : Nat) : Option (List Nat × Nat) :=
  match k with
  | 0x01 => some ([0x01], 6) | 0x02 => some ([0x01], 5) | 0x03 => some ([0x11], 5) | 0x04 => some ([0x11], 5)
  | 0x05 => some ([0x11], 1) | 0x08 => some ([0x01], 3) | 0x09 => some ([0x04], 3) | 0x0A => some ([0x02], 3)
  | 0x0B => some ([0x02], 1) | 0x0C => some ([0x01, 0x02, 0x07, 0x05, 0x0D, 0x03], 1)
  | 0x10 => some ([0x07], 5) | 0x11 => some ([0x07], 4) | 0x12 => some ([0x07], 1) | 0x13 => some ([0x01, 0x0D], 1)
  | 0x18 => some ([0x03], 3) | 0x19 => some ([0x03], 4) | 0x1A => some ([0x03], 4) | 0x1B => some ([0x03], 5)
  | 0x1C => some ([0x0B], 4) | 0x1D => some ([0x03], 5) | 0x20 => some ([0x0A], 4) | 0x21 => some ([0x11], 1)
  | 0x22 => some ([0x03], 1) | 0x23 => some ([0x07], 4) | 0x28 => some ([0x05], 3) | 0x29 => some ([0x05], 4)
  | 0x2A => some ([0x05], 0) | 0x2B => some ([0x05], 5) | 0x2C => some ([0x01, 0x05, 0x06, 0x0D, 0x0E], 1)
  | 0x30 => some ([0x0C], 4) | 0x31 => some ([0x0D], 1) | 0x32 => some ([0x0D], 1) | 0x33 => some ([0x0D], 4)
  | 0x38 => some ([0x0E], 1) | 0x40 => some ([0x08], 5) | 0x41 => some ([0x08], 4) | 0x42 => some ([0x11], 1)
  | 0x43 => some ([0x11], 7) | 0x48 => some ([0x09], 1) | 0x49 => some ([0x09], 5) | 0x4A => some ([0x09], 4)
  | 0x50 => some ([0x10], 1) | 0x51 => some ([0x10], 7) | 0x58 => some ([0x00], 5) | 0x60 => some ([0x0F], 6)
  | 0x68 => some ([0x11], 4)
  | _ => none

/-! Units under recovery (R359 Table 9). -/

/-- A unit that a recovery concerns. -/
inductive FaultUnit where
  | port (p : Nat)
  | comb (bt : Nat)
  | memSet (n : Nat)
  | die (site : Nat)
  | tile (site t : Nat)
  | cells (bt i : Nat)
  | segment (i : Nat)
  | link (l : Nat)
  | bus
  | baristas
deriving DecidableEq, Repr

/-- Ports of a base tile that have not failed, external link ends among them or not. -/
def tilePorts (s : State) (bt : Nat) (links : Bool) : List Nat :=
  (List.range (if links then 366 else 350)).filter (fun p => portTile p == bt && !(portAt s p).failed)

/-- The fence that a lost domain or a tripped die calls for, or the units it takes with it. -/
def domUnits (s : State) (d : Nat) : List FaultUnit :=
  if d < 32 then [.die (siteCD (d % 16))]
  else if d < 56 then [.memSet (setOf (d - 32))]
  else if d < 72 then (bankPorts d).filter (fun p => !(portAt s p).failed) |>.map .port
  else if d < 82 then [.die (domSite d)]
  else match (combAt s (d - 82)).serves, (combAt s (d - 82)).target with
    | some bt, _ => [.comb bt]
    -- the comb being switched in for a tile that lost its own
    | none, some bt => if (tfind s.light.lossAt bt).isSome then [.comb bt] else []
    | none, none => []

/-- Does a ring's exit take its line out of use (R147 Table 4): a wrong ring in service, or a failed one of a line that carries no lane? -/
def exitExcludes (s : State) (m : FaultMsg) : Bool :=
  let d := detailOf m
  let p := portOfDetail m
  let rx := bitAt d 21
  let line := lineOfDetail m
  decide (p < 366 ∧ line < 36 ∧ line ≠ 32) && !excluded s p rx line && calLine s p rx != some line &&
    (if bitAt d 22 then decide (32 < line) else inService s p rx line)

/-- Units that a message concerns. -/
def unitsOf (s : State) (m : FaultMsg) : List FaultUnit :=
  let d := detailOf m
  match m.kind.toNat with
  | 0x02 => [.tile m.site.toNat (fld d 34 6)]
  | 0x03 | 0x04 => [.tile (fld d 27 7) (fld d 34 6)]
  | 0x10 =>
    match siteKind (fld d 0 7) with
    | some (.lc, n) => .die (fld d 0 7) :: domUnits s (domLC n)
    | some (.ba, _) | some (.os, _) => [.baristas]
    | some (.ps, _) | some (.bt, _) | none => []
    | _ => [.die (fld d 0 7)]
  | 0x19 | 0x1A | 0x1B => if portOfDetail m < 366 then [.port (portOfDetail m)] else []
  | 0x22 => if exitExcludes s m then [.port (portOfDetail m)] else []
  | 0x1C => [.cells (fld d 0 12 / 512) (fld d 0 12 % 512)]
  | 0x1D => (tilePorts s (fld d 0 3) true).map .port
  | 0x20 => [.comb (fld d 4 3)]
  | 0x2B => if fld d 0 5 < 24 then [.memSet (setOf (fld d 0 5))] else []
  | 0x11 => [.segment (fld d 0 4)]
  | 0x30 => [.link (fld d 0 4)]
  | 0x41 => [.bus]
  | 0x68 => [.baristas]
  | 0x40 => if fld d 0 7 < 92 then domUnits s (fld d 0 7) else []
  | 0x49 =>
    match siteKind (fld d 0 7) with
    | some (.bt, b) => (tileDomains b).flatMap (domUnits s)
    | some (.ba, _) | some (.os, _) => [.baristas]
    | some (.ps, _) => [.bus]
    | _ => match siteDomain (fld d 0 7) with | some x => domUnits s x | none => []
  | _ => []

/-- The unit under recovery that a message's recovery has (R359 Table 9): a link's partner, else what the message concerns. -/
def recoveryUnits (s : State) (m : FaultMsg) : List FaultUnit :=
  match unitsOf s m with
  | [.link l] => [.link (l ^^^ 1)]
  | us => us

/-! The actions of the active barista (R349 Table 4). -/

/-- FENCE (R352, R363). -/
def sendFence (s : State) (site : Nat) (tile : Option Nat) (cause : Nat) (t : Word) : State :=
  ctrlSend s 0x7F 0x80 (site + 128 * b2n tile.isSome + 256 * tile.getD 0 + 16384 * cause) [t]

def sendPortFailed (s : State) (t : Word) (p : Nat) : State :=
  if (portAt s p).failed then s else ctrlSend s 0x7F 0x34 p [t]

/-- SET_LOST for a stack's set. -/
def sendSetLost (s : State) (set stack : Nat) (t : Word) : State :=
  if setLostNow s set then s else ctrlSend s 0x7F 0x40 (set + stack * 256) [t]

/-- A die is fenced; a memory base die's set is given up at the same boundary as its ports (R196, R363). -/
def sendDieFence (s : State) (site cause : Nat) (t : Word) : State :=
  let s := sendFence s site none cause t
  match siteKind site with | some (.md, n) => sendSetLost s (setOf n) n t | _ => s

/-- The base tile a comb stands on. -/
def combTile (c : Nat) : Nat := siteTile (siteLC c)

/-- A comb lost on a tile: the spare being lit for it, or the one R157 chooses, is switched in; with none, every port of the
tile fails. A barista whose own tile is to be lit from its partner's falls silent (R383 check 9); the active one then leaves the switch to its
partner (R158, R160). -/
def switchIn (s : State) (bt : Nat) (t : Word) : State :=
  let lit := (List.range 10).find? (fun c => (combAt s c).target == some bt && combLit s c)
  match lit.orElse (fun _ => chooseSpare s bt) with
  | none => (tilePorts s bt true).foldl (fun s p => sendPortFailed s t p) s
  | some c =>
    let mine := siteTile (activeSite s)
    let other := siteTile (siteBA (1 - s.active.val))
    if bt = mine ∧ combTile c = other then silence s s.active.val 9
    else
      let s := if bt = other ∧ combTile c = mine ∧ roleOf s (1 - s.active.val) = .standby then silence s (1 - s.active.val) 9 else s
      sendCombSwitch (setComb s c { combAt s c with target := some bt }) c bt true t

/-- The cause of the fence a message leads to (R363 Table 7). -/
def fenceCause (m : FaultMsg) (forced : Bool) : Nat :=
  if forced then 9
  else match m.kind.toNat with
    | 0x02 => 2 | 0x03 => 0 | 0x04 => 1 | 0x10 => 6 | 0x40 => 5 | 0x49 => 4 | _ => 9

/-- What the barista does about one unit. -/
def actOn (s : State) (m : FaultMsg) (forced : Bool) (t : Word) (u : FaultUnit) : State :=
  let d := detailOf m
  match u with
  | .port p =>
    if m.kind = 0x19 ∨ m.kind = 0x1A ∨ m.kind = 0x22 then
      (if excluded s p (bitAt d 21) (lineOfDetail m) ∨ lineOfDetail m > 35 then s
       else ctrlSend s 0x7F 0x35 (p + 512 * b2n (bitAt d 21) + 1024 * lineOfDetail m) [t])
    else sendPortFailed s t p
  | .comb bt => switchIn s bt t
  | .memSet n => sendSetLost s n (if m.kind = 0x2B then fld d 0 5 else ((setMembers n).find? (fun k => (stackAt s k).failed)).getD 0) t
  | .die site => if fencedSite s site then s else sendDieFence s site (fenceCause m forced) t
  | .tile site k => if tileOut s (64 * (site - 8) + k) then s else sendFence s site (some k) (fenceCause m forced) t
  | .cells _ _ | .segment _ | .link _ | .bus | .baristas => s

/-- Has a pending local change of a cell's bypass a boundary (R134)? -/
def bypassAt (s : State) (g : Nat) : Option Word :=
  (s.changes.find? (fun c => c.2 == .cellBypass (g / 512) (g % 512))).map (·.1)

/-- The boundary at which the tree of the active barista is to be lit after a takeover (R384). -/
def treeAt (s : State) : Option Word := (s.changes.find? (fun c => c.2 == .lightTree s.active.val)).map (·.1)

/-- The moment at which the last step of a recovery takes effect that others than the barista make: a bypass by its base tile, a takeover by the
tree. Segments, links and stages are replaced by the time their message is accepted. -/
def ownEnd (s : State) (m : FaultMsg) : Option (Option Word) :=
  match m.kind.toNat with
  | 0x1C => some (bypassAt s (fld (detailOf m) 0 12))
  | 0x68 => some (treeAt s)
  | 0x11 | 0x30 | 0x41 => some (some s.now)
  | _ => none

/-- A recovery starts (R358): its action names the first boundary at least 700 ns ahead, or it ends by what others do. -/
def startRecovery (s : State) (m : FaultMsg) (forced : Bool) : State :=
  let us := unitsOf s m
  match ownEnd s m with
  | some (some t) => setFaults s (fun f => { f with recovery := some { msg := m, from_ := s.ticks, until_ := some t } })
  | some none => s
  | none =>
    let t := boundaryAfter s 700
    let n := s.ctrlSeq
    let s := us.foldl (fun s u => actOn s m forced t u) s
    if s.ctrlSeq = n then s
    else setFaults s (fun f => { f with recovery := some { msg := m, from_ := s.ticks, until_ := some t } })

/-- Does a loss of a unit affect the running job (R220)? -/
def unitHitsJob (s : State) (u : FaultUnit) : Bool :=
  match u with
  | .port p => lightsPort s p
  | .comb bt => (List.range 350).any (fun p => portTile p == bt && lightsPort s p)
  | .memSet n => setHits s n
  | .die site => (fenceHits s site none).isSome
  | .tile site k => (fenceHits s site (some k)).isSome
  | .cells bt i => (attachedPorts bt i).any (lightsPort s)
  | .segment _ | .link _ | .bus | .baristas => false

/-- A second fault hits a unit under recovery (R359): an affected job ends DOUBLE, and the unit takes its outcome. -/
def secondHit (s : State) (r : Recovery) (hit all : List FaultUnit) : State :=
  let s := if s.job.isSome && all.any (unitHitsJob s) then endAny s 4 9 0 else s
  let b := boundaryAfter s 700
  let t := match r.until_ with | some u => if u.toNat > b.toNat then u else b | none => b
  let s := hit.foldl (fun s u => match u with
    | .port p => sendPortFailed s t p
    | .comb bt => switchIn s bt t
    | .cells bt i => (attachedPorts bt i).foldl (fun s p => sendPortFailed s t p) s
    | _ => s) s
  setFaults s (fun f => { f with recovery := some { r with until_ := some t } })

/-- The owner engine acts on consumed poison (R361). -/
def poisonEnds (s : State) (m : FaultMsg) : State :=
  let k := 64 * (m.site.toNat - 8) + fld (detailOf m) 34 6
  let s := bump s Obj.poisonConsumed
  match vtileOf s k with
  | some v => beginStop s 1 (some (6, v, true)) 0 0
  | none => s

/-- The action of a message (R349 Table 4, R358, R359). -/
def actMessage (s : State) (m : FaultMsg) (forced : Bool) : State :=
  if m.kind = 0x01 then poisonEnds s m
  else match s.faults.recovery with
    | none => startRecovery s m forced
    | some r =>
      let us := unitsOf s m
      let old := recoveryUnits s r.msg
      let hit := us.filter (fun u => old.contains u)
      if us.isEmpty then s
      else
        let s := bump s Obj.doubleFaults
        if hit.isEmpty then setFaults s (fun f => { f with waitingRec := f.waitingRec ++ [(m, forced)] })
        else secondHit s r hit (us ++ old)

/-! The collector (R350, R351). -/

/-- RING and SEQ of the job beyond QUEUED. -/
def jobMark (s : State) : BitVec 8 × BitVec 48 :=
  match s.job with
  | some j => (BitVec.ofNat 8 j.ring, BitVec.ofNat 48 ((ringAt s j.ring).ended + 1))
  | none => (0xFF, 0)

/-- FAULT_ACK (R352). -/
def sendAck (s : State) (m : FaultMsg) : State :=
  ctrlSend s m.site.toNat 0x81 (m.kind.toNat + 256 * m.block.toNat) [faultEnc m]

/-- ALERT_N is pulsed (R354). -/
def alertPulse (s : State) : State := setFaults s (fun f => { f with alert := .pulsing, alertSince := s.ticks })

/-- The log entry of an accepted message joins the write queue of the carafe (R396); it is mirrored with the entry before it (R381). -/
def logMessage (s : State) (m : FaultMsg) (forced alerting : Bool) : State :=
  let j := jobMark s
  let flags := BitVec.ofNat 8 (b2n forced + 2 * b2n alerting + 4 * b2n s.faults.recovery.isSome)
  let e : LogEntry := { message := faultEnc m, time := s.now, number := s.faults.logCount, flags := flags, ring := j.1, seq := j.2 }
  let c := carafeOf s s.active.val
  let before := (logFind c (e.number.toNat - 1)).getD (logEntryBytes e)
  let s := setCarafe s s.active.val (pushLog c s.ticks e)
  let s := mirrorItem s 2 (before ++ logEntryBytes e)
  bump (setFaults s (fun f => { f with logCount := f.logCount + 1 })) Obj.faultsAccepted

/-- A message that cannot come again takes its mark of a forced one with it (R353). -/
def dropMark (s : State) (m : FaultMsg) : State :=
  if kindRepeats m.kind.toNat then s else setFaults s (fun f => { f with forcedMsgs := f.forcedMsgs.erase m })

/-- A message is handled: a repeat copy of a kept one, or a new one, acknowledged after its action: an active barista that the action silences
acknowledges nothing (R160). -/
def handleMsg (s : State) (m : FaultMsg) (rep : Bool) : State :=
  let s := setFaults s (fun f => { f with busyUntil := s.ticks + 200 })
  if rep && s.faults.kept.any (fun k => k.msg == m) then
    sendAck (setFaults (bump s Obj.faultRepeats) (fun f =>
      { f with kept := f.kept.map (fun k => if k.msg = m then { k with ackAt := s.ticks } else k) })) m
  else
    let forced := s.faults.forcedMsgs.contains m
    let alerting := decide (dval s Obj.alertLevel ≤ m.severity.toNat)
    let s := logMessage s m forced alerting
    let s := dropMark s m
    let s := if alerting then alertPulse s else s
    let s := if kindRepeats m.kind.toNat then setFaults s (fun f => { f with kept := f.kept ++ [{ site := m.site.toNat, msg := m, ackAt := s.ticks }] }) else s
    let s := actMessage s m forced
    if kindRepeats m.kind.toNat then sendAck s m else s

/-- A message reaches a barista (R350): the active one's own queue, or the signal network, where it is lost while another is in
hand. What reaches BA1 after it handed back is passed on (R387). -/
def doFault (s : State) (n : Nat) (m : FaultMsg) (rep : Bool) : State :=
  let at_ := faultPacket (siteBA n) m rep
  if n ≠ s.active.val then
    (if n = 1 ∧ roleOf s 1 = .standby then emit (sigArrive s at_) (.sig (faultPacket (siteBA 0) m rep)) else dropMark (sigArrive s at_) m)
  else if !collectorUp s then dropMark (sigArrive s at_) m
  else if s.faults.internal.head? = some m ∧ !rep then
    (if s.ticks < s.faults.busyUntil then s
     else handleMsg (setFaults s (fun f => { f with internal := f.internal.tail })) m false)
  else
    let s := sigArrive s at_
    if s.ticks < s.faults.busyUntil ∨ !s.faults.internal.isEmpty then dropMark (bump s Obj.faultOverruns) m else handleMsg s m rep

def execFault (n : Fin 2) (m : FaultMsg) (rep : Bool) (s : State) : Host.Outcome State Fault Refusal := .next (doFault s n.val m rep)

/-- FAULT_ACK reaches a source, which stops repeating (R352). -/
def doFaultAck (s : State) (src : BitVec 7) (seq : BitVec 32) (m : FaultMsg) : State :=
  let site := m.site.toNat
  let s := sigArrive s (ctrlPacket src.toNat site 0x81 seq (m.kind.toNat + 256 * m.block.toNat) [faultEnc m])
  let r := ctrlTake s site src seq
  if r.1 then setFaults r.2 (fun f => { f with repeaters := f.repeaters.filter (fun e => e.msg != m), forcedMsgs := f.forcedMsgs.filter (· != m) }) else r.2

def execFaultAck (src : BitVec 7) (seq : BitVec 32) (m : FaultMsg) (s : State) : Host.Outcome State Fault Refusal :=
  .next (doFaultAck s src seq m)

/-- 2 microseconds without an acknowledgement: the message is sent again with REPEAT set (R349). -/
def doFaultRepeat (s : State) (m : FaultMsg) : State :=
  match s.faults.repeaters.find? (fun e => e.msg == m && decide (s.ticks ≥ e.sentAt + 2000)) with
  | none => s
  | some _ =>
    emit (setFaults s (fun f => { f with repeaters := f.repeaters.map (fun e => if e.msg = m then { e with sentAt := s.ticks } else e) }))
      (.sig (faultPacket (siteBA s.named.val) m true))

def execFaultRepeat (m : FaultMsg) (s : State) : Host.Outcome State Fault Refusal := .next (doFaultRepeat s m)

/-- 100 microseconds after its acknowledgement a kept message is dropped. -/
def execKeptMessageExpiry (s : State) : Host.Outcome State Fault Refusal :=
  .next (setFaults s (fun f => { f with kept := f.kept.filter (fun k => decide (s.ticks < k.ackAt + 100000)) }))

/-- FAULT_FORCE at site s (R353): refused unless the block exists at the site and raises the kind. -/
def doFaultForce (s : State) (site : Nat) (v : Word) : Bool × State :=
  let kind := fld v.toNat 40 8
  let block := fld v.toNat 48 5
  match siteKind site, kindRow kind with
  | some (k, _), some (bs, sev) =>
    if dval s Obj.lcState = 2 ∨ v.toNat ≥ 2 ^ 53 ∨ !(blocksOf k).contains block ∨ !bs.contains block then (false, s)
    else
      let m : FaultMsg := { site := BitVec.ofNat 7 site, block := BitVec.ofNat 5 block, kind := BitVec.ofNat 8 kind,
                            severity := BitVec.ofNat 3 (if kind = 0x1C ∧ bitAt v.toNat 12 then 5 else sev), poison := false,
                            detail := BitVec.ofNat 40 v.toNat }
      (true, raiseMsg (setFaults s (fun f => { f with forcedMsgs := f.forcedMsgs ++ [m] })) m)
  | _, _ => (false, s)

def execFaultForce (site : Fin 100) (v : Word) (s : State) : Host.Outcome State Fault Refusal := .next (doFaultForce s site.val v).2

/-! ALERT_N (R354). -/

/-- 10 microseconds after the last alerting message the pulse ends. -/
def doAlertPulseEnd (s : State) : State :=
  let f := s.faults
  if f.alert ≠ .pulsing ∨ s.ticks < f.alertSince + 10000 then s
  else
    let held := f.alertByPower || (decide (dval s Obj.alertMode = 1) && !f.clearPending)
    setFaults s (fun f => { f with alert := if held then .held else .released, clearPending := false })

def execAlertPulseEnd (s : State) : Host.Outcome State Fault Refusal := .next (doAlertPulseEnd s)

/-- ALERT_CLEAR releases a held line; during the pulse it takes effect at its end. -/
def doAlertClear (s : State) (v : Nat) : State :=
  if v ≠ 1 then s
  else match s.faults.alert with
    | .held => if s.faults.alertByPower then s else setFaults s (fun f => { f with alert := .released })
    | .pulsing => setFaults s (fun f => { f with clearPending := true })
    | .released => s

def execAlertClear (v : BitVec 8) (s : State) : Host.Outcome State Fault Refusal := .next (doAlertClear s v.toNat)

/-! Recoveries end (R358). -/

/-- The first of the waiting faults that still needs a recovery starts it (R358). -/
def startWaiting (s : State) : List (FaultMsg × Bool) → State
  | [] => setFaults s (fun f => { f with recovery := none, waitingRec := [] })
  | (m, forced) :: rest =>
    let s' := startRecovery (setFaults s (fun f => { f with recovery := none, waitingRec := rest })) m forced
    if s'.faults.recovery.isSome then s' else startWaiting s' rest

/-- The last step of a recovery has taken effect: the next waiting recovery starts. A tile that lost its comb again meanwhile
is switched in once more (R359). -/
def doRecoveryEnd (s : State) : State :=
  match s.faults.recovery with
  | none => s
  | some r =>
    let past := match r.until_ with | some t => decide (t.toNat ≤ s.now.toNat) | none => true
    if !past then s
    else
      let dark := (unitsOf s r.msg).filter (fun u => match u with
        | .comb bt => (tfind s.light.lossAt bt).isSome && !(tilePorts s bt true).isEmpty | _ => false)
      let t := boundaryAfter s 700
      if !dark.isEmpty ∧ r.msg.kind = 0x20 then
        setFaults (dark.foldl (fun s u => match u with | .comb bt => switchIn s bt t | _ => s) s)
          (fun f => { f with recovery := some { r with until_ := some t } })
      else
        let s := raiseMax s Obj.recoveryMax (s.ticks - r.from_)
        startWaiting s s.faults.waitingRec

def execRecoveryEnd (s : State) : Host.Outcome State Fault Refusal := .next (doRecoveryEnd s)

/-! Fences (R363 to R365). -/

/-- FENCE reaches every die: the job engine judges it, and it takes effect at T. -/
def doFence (s : State) (src : BitVec 7) (seq : BitVec 32) (site : Nat) (tile : Option Nat) (cause : Nat) (t : Word) : State :=
  let r := ctrlTakeAll (sigArrive s (ctrlPacket src.toNat 0x7F 0x80 seq
    (site + 128 * b2n tile.isSome + 256 * tile.getD 0 + 16384 * cause) [t])) src seq
  if !r.1 then r.2
  else
    let s := schedule r.2 t (.fence site tile cause (cause == 9))
    match fenceHits s site tile with | some (k, u) => jobLoss s k u | none => s

def execFence (src : BitVec 7) (seq : BitVec 32) (site : Fin 100) (tile : Option (Fin 64)) (cause : BitVec 4) (t : Word) (s : State) :
    Host.Outcome State Fault Refusal :=
  .next (doFence s src seq site.val (tile.map (·.val)) cause.toNat t)

/-- Fenced and retired tiles of CDn. -/
def tilesOut (s : State) (n : Nat) : Nat :=
  ((List.range 64).filter (fun t => (tileFenceAt s (64 * n + t)).isSome || s.faults.retired.contains (64 * n + t))).length

/-- Fences of a tile over its life (R365). -/
def lifeFences (s : State) (k : Nat) : Nat := tget (fun _ => 0) s.faults.tileFences k

/-- KEY of a tile's records (R398). -/
def tileRecKey (k : Nat) : Nat := 256 * siteCD (k / 64) + k % 64

/-- A tile is fenced at T (R363, R365): the third fence that is not forced retires it, and a die at its limit is fenced
(R364). -/
def fenceTile (s : State) (k cause : Nat) (forced : Bool) : State :=
  if (tileFenceAt s k).isSome ∨ s.faults.retired.contains k then s
  else
    let s := setFaults s (fun f => { f with tileFence := tset (fun _ => none) f.tileFence k (some { cause := cause, forced := forced }) })
    let s := updTile s k (fun t => { t with halted := true, core := { t.core with running := false }, combIn := [] })
    let s := if forced then s
      else
        let n := lifeFences s k + 1
        let s := setFaults s (fun f => { f with tileFences := tset (fun _ => 0) f.tileFences k n })
        let s := queueRecord s 0x0020 (tileRecKey k) (toLe 1 cause ++ toLe 8 s.now.toNat ++ toLe 1 n)
        if n ≥ 3 then
          bump (setFaults (queueRecord s 0x0021 (tileRecKey k) []) (fun f => { f with retired := f.retired ++ [k] })) Obj.tilesRetired
        else s
    let n := k / 64
    if tilesOut s n ≥ dval s Obj.cupDieLimit ∧ !fencedSite s (siteCD n) then sendFence s (siteCD n) none 3 (boundaryAfter s 700) else s

/-- Every base tile empties the shadow of a host die that left service (R128). -/
def shadowsOf (s : State) (site : Nat) : State :=
  overNats (List.range 8) (fun b s => if (shadowOf s b).owner.toNat = site then clearShadow s b else s) s

/-- A die is fenced at T (R363 Table 10); its ports are failed with it. -/
def fenceDie (s : State) (site cause : Nat) (forced : Bool) : State :=
  if fencedSite s site then s
  else
    let s := setFaults s (fun f => { f with siteFence := tset (fun _ => none) f.siteFence site (some { cause := cause, forced := forced }) })
    match siteKind site with
    | some (.cd, n) | some (.kd, n) => domDown (domDown s (domCD n) .off) (domKD n) .off
    | some (.md, n) =>
      let s := updStack s n (stackOut 1)
      if s.changes.any (fun c => match c.2 with | .setLost k _ => k == setOf n | _ => false) then s
      else sendSetLost s (setOf n) n (boundaryAfter s 700)
    | some (.fd, n) =>
      let s := fabricDieLost s n
      (match s.job with | some j => doJobStopped s j.owner site | none => s)
    | some (.hd, n) =>
      let s := shadowsOf (hostDieLost s n) site
      (match s.job with
       | some j => if j.owner = n then endAny (setJob s { j with owner := 1 - n }) 0 7 (4 + 16 * n) else s
       | none => s)
    | _ => s

/-- FENCE_STATE (R374). -/
def fenceStateWord (s : State) (site : Nat) : Nat :=
  match siteFenceAt s site with | some f => 1 + 2 * f.cause | none => 0

/-- TILE_STATE (R374). -/
def tileStateWord (s : State) (k : Nat) : Nat :=
  if s.faults.retired.contains k then 2
  else if (tileFenceAt s k).isSome then 1
  else if fencedSite s (siteCD (k / 64)) || fencedSite s (siteKD (k / 64)) then 3 else 0

/-- ALERT_STATE (R374). -/
def alertStateWord (s : State) : Nat := match s.faults.alert with | .released => 0 | .pulsing => 1 | .held => 2

/-- 64 log entries from FAULT_LOG_SEL; entries no longer held read as zero (R374). -/
def logBytes (s : State) (first : Nat) : List Byte :=
  (List.range 64).flatMap (fun i =>
    (logFind (carafeOf s s.active.val) (first + i)).getD (List.replicate 32 0))

/-! Links of the signal network that go out of service (R90). -/

/-- A hub link is lost: the die's own domain goes off, or its kind's outcome of a trip. -/
def hubLost (s : State) (site : Nat) : State :=
  match siteKind site with
  | some (.ba, n) => silence s n 6
  | some (.os, _) | some (.ps, _) => tripOutcome s site
  | _ => match siteDomain site with | some d => domLost s d .off | none => s

/-- The fourth failure of a flit in a row takes the link out of service. Links 128 and above are ring segments. -/
def doSigLinkFail (s : State) (l : Nat) : State :=
  if sigFail s l < 4 ∨ s.sigDown.contains l ∨ l < 8 ∨ (100 ≤ l ∧ l < 128) then s
  else
    let s := { s with sent := s.sent.eraseP (Output.isRepeat l), sigDown := s.sigDown ++ [l], sigReplay := tdel s.sigReplay l }
    if 128 ≤ l then raise s ((l - 128) / 2) 0x07 0x11 4 false ((l - 128) / 2 + 8 * (l % 2))
    else raise (hubLost s l) (siteTile l) 0x07 0x10 5 false l

def execSigLinkFail (l : Fin 144) (s : State) : Host.Outcome State Fault Refusal := .next (doSigLinkFail s l.val)

/-- SIG_SEGMENTS_DOWN. -/
def segmentsDown (s : State) : Nat := (List.range 16).foldl (fun n i => if segmentOut s i then n + 2 ^ i else n) 0

/-! Cupping (R366 to R373). -/

def setCup (s : State) (f : Cupping → Cupping) : State := setFaults s (fun x => { x with cup := f x.cup })

/-- P in nanoseconds, whole frames (R366). -/
def cupP (s : State) : Nat := cdiv (dval s Obj.cupPeriod * 1000) 1024 * 1024

/-- The next period falls due: CUP_START names its boundary, at least 2,048 ns ahead, with M and a fresh seed. -/
def doCuppingPeriod (s : State) : State :=
  let c := s.faults.cup
  if dval s Obj.cupEnable ≠ 1 ∨ dval s Obj.moduleState ≠ 1 ∨ c.open_ ∨ c.named.isSome ∨ !collectorUp s then s
  else
    let b := boundaryAfter s 2048
    let t := if c.k = 0 then b else BitVec.ofNat 64 (max b.toNat (c.t.toNat + cupP s))
    let w := Config.freeWord s.freeCtr 0xC0
    let seed := if w = 0 then 1 else w
    let m := 1 + c.k % 15
    let s := bumpFree (setCup s (fun c => { c with named := some (t, m, seed) }))
    ctrlSend s 0x7F 0x82 (m + c.k % 65536 * 16) [t, seed]

def execCuppingPeriod (s : State) : Host.Outcome State Fault Refusal := .next (doCuppingPeriod s)

/-- CUP_START reaches every die (R352). -/
def doCupStart (s : State) (src : BitVec 7) (seq : BitVec 32) (m period : Nat) (t seed : Word) : State :=
  let r := ctrlTakeAll (sigArrive s (ctrlPacket src.toNat 0x7F 0x82 seq (m + period * 16) [t, seed])) src seq
  if r.1 then schedule (setCup r.2 (fun c => { c with named := some (t, m, seed) })) t .cupStart else r.2

def execCupStart (src : BitVec 7) (seq : BitVec 32) (m : BitVec 4) (period : BitVec 16) (t seed : Word) (s : State) :
    Host.Outcome State Fault Refusal :=
  .next (doCupStart s src seq m.toNat period.toNat t seed)

/-- The period count is mirrored as a dictionary value that is not journalled (R381 KIND 5). No object holds it. DESIGN CHOICE (log 116): its KEY
is CUP_PERIOD's index with subindex 0. -/
def cupKey : Nat := 0x830000

def mirrorK (s : State) : State :=
  mirrorItem s 5 (recBytes { type := 0x0010, part := 0, key := cupKey, seq := 0, data := toLe 8 s.faults.cup.k })

/-- At T the period opens: every tile in service takes part (R366, R367). -/
def applyCupStart (s : State) : State :=
  match s.faults.cup.named with
  | none => s
  | some (t, m, seed) =>
    let s := overNats (liveDies s) (fun n s => overNats (List.range 64) (fun i s =>
      let k := 64 * n + i
      if tileOut s k ∨ (tileAt s k).cup = .hung then s else updTile s k (fun x => { x with cup := .waiting })) s) s
    let n := dval s Obj.jobsEnded
    setCup s (fun c => { c with
      k := c.k + 1, open_ := true, t := t, startAt := s.ticks, m := m, seed := seed, named := none, expect := liveDies s
      reported := [], sent := [], sums := [], ended := tput c.ended t.toNat (BitVec.ofNat 64 n) }) |> mirrorK

/-- The first point between descriptors: the engine runs the test (R367). -/
def execCupTest (cd : Fin 16) (t : Fin 64) (s : State) : Host.Outcome State Fault Refusal :=
  .next (
    let k := tkey cd t
    let x := tileAt s k
    if tileIssues s k ∧ x.cup = .waiting ∧ x.mq.started.isEmpty then setTile s k { x with cup := .running, cupFrom := s.ticks } else s)

/-- Has every tile in service of a die finished, or been declared hung? -/
def cupDone (s : State) (n : Nat) : Bool :=
  (List.range 64).all (fun i => tileOut s (64 * n + i) || (tileAt s (64 * n + i)).cup == .finished || (tileAt s (64 * n + i)).cup == .hung)

/-- Tiles of one CUP_RESULT packet: ten of six and one of four (R368). -/
def cupTiles (j : Nat) : List Nat := (List.range (if j = 10 then 4 else 6)).map (fun i => 6 * j + i)

/-- Function field of a CUP_RESULT packet (R352). -/
def cupField (period j : Nat) (fin : Nat) : Nat := period % 65536 + 65536 * (6 * j) + 2 ^ 22 * ((cupTiles j).length - 1) + 2 ^ 25 * fin

/-- A die sends its results. -/
def sendCupResults (s : State) (n : Nat) : State :=
  overNats (List.range 11) (fun j s =>
    let ts := cupTiles j
    let done := fun (i : Nat) => !tileOut s (64 * n + i) && (tileAt s (64 * n + i)).cup == .finished
    let fin := (List.range ts.length).foldl (fun a i => if done (6 * j + i) then a + 2 ^ i else a) 0
    ctrlSendFrom s (siteCD n) (activeSite s) 0x83 (cupField (s.faults.cup.k - 1) j fin)
      (ts.map (fun i => if done i then (tileAt s (64 * n + i)).cupSum else 0))) s

/-- A die whose tiles are all done sends its results, once in a period. -/
def cupSend (s : State) (n : Nat) : State :=
  if s.faults.cup.sent.contains n then s else sendCupResults (setCup s (fun c => { c with sent := addPos c.sent n })) n

/-- A tile's test ends; the last one of its die sends the results. -/
def cupEnd (s : State) (k : Nat) (st : CupState) (sum : Word) : State :=
  let x := tileAt s k
  if !tileLive s k ∨ x.cup ≠ .running then s
  else
    let s := setTile s k { x with cup := st, cupSum := sum }
    if cupDone s (k / 64) then cupSend s (k / 64) else s

/-- CRC-64 with the ECMA-182 polynomial, a byte at a time, from zero. -/
def crc64 (bs : List Byte) : Word :=
  bs.foldl (fun c b => (List.range 8).foldl (fun (c : Word) _ => if c.msb then (c <<< 1) ^^^ 0x42F0E1EBA9EA3693 else c <<< 1) (c ^^^ ((BitVec.zeroExtend 64 b) <<< (56 : Nat)))) 0

/-- Word i that the generator of R58 yields from a seed. -/
def seedWord (seed : Word) : Nat → Word
  | 0 => xorshift seed
  | n + 1 => xorshift (seedWord seed n)

/-- The checksum of a tile whose engine works: every value written back, folded (R367). The spec gives no order of the descriptors: what a working
engine writes back is `Config.cupWritten`, a free function of the generator's words. -/
def cupChecksum (seed : Word) : Word := crc64 (Config.cupWritten (seedWord seed))

/-- The test takes 250,000 issue cycles, 200 microseconds at the least (R367). An engine that is wrong folds other values: its checksum differs from a
working engine's in the bits of `wrong`. -/
def execCupTestEnd (cd : Fin 16) (t : Fin 64) (wrong : Word) (s : State) : Host.Outcome State Fault Refusal :=
  .next (if s.ticks < (tileAt s (tkey cd t)).cupFrom + 200000 then s
    else cupEnd s (tkey cd t) .finished (cupChecksum s.faults.cup.seed ^^^ wrong))

/-- No progress for 10,000 issue cycles (R368). -/
def execCupHung (cd : Fin 16) (t : Fin 64) (s : State) : Host.Outcome State Fault Refusal :=
  .next (if s.ticks < (tileAt s (tkey cd t)).cupFrom + 8000 then s else cupEnd s (tkey cd t) .hung 0)

/-- CUP_LOSS, CUP_HUNG and CUP_UNSETTLED (R349). -/
def cupMsg (s : State) (kind sev k : Nat) : State :=
  raise s (activeSite s) 0x11 kind sev false (k % 64 * 2 ^ 34 + siteCD (k / 64) * 2 ^ 27 + (s.faults.cup.k - 1) % 65536)

/-- Verdicts of the judge (R370). -/
inductive Verdict where
  | passes | loses | hung | unsettled | unjudged
deriving DecidableEq, Repr

/-- Has a die sent all its results? -/
def dieReported (c : Cupping) (n : Nat) : Bool := (List.range 11).all (fun j => c.reported.contains (16 * n + j))

/-- Number of the partner's tile (R369). -/
def cupPair (c : Cupping) (k : Nat) : Nat := 64 * (k / 64 ^^^ c.m) + k % 64

/-- A pair agrees. -/
def pairAgrees (c : Cupping) (k : Nat) : Bool :=
  match tfind c.sums k, tfind c.sums (cupPair c k) with | some a, some b => a == b | _, _ => false

/-- The verdict on one tile in service of an expected die. -/
def verdictOf (c : Cupping) (k : Nat) : Verdict :=
  if !dieReported c (k / 64) then .unjudged
  else if pairAgrees c k then .passes
  else match tfind c.sums k with
    | none => .hung
    | some x =>
      match (List.range 16).find? (fun n => n != k / 64 && n != cupPair c k / 64 && pairAgrees c (64 * n + k % 64)) with
      | none => .unsettled
      | some n => if tfind c.sums (64 * n + k % 64) = some x then .passes else .loses

/-- What follows from one verdict. -/
def applyVerdict (s : State) (c : Cupping) (k : Nat) : State :=
  match verdictOf c k with
  | .passes => updTile s k (fun x => { x with cupPassed := some c.t })
  | .loses => cupMsg s 0x03 5 k
  | .hung => cupMsg s 0x04 5 k
  | .unsettled | .unjudged => bump (cupMsg s 0x05 1 k) Obj.cupUnsettled

/-- Tiles a period judges. -/
def cupJudged (s : State) : List Nat :=
  s.faults.cup.expect.flatMap (fun n => (List.range 64).filterMap (fun i => if tileOut s (64 * n + i) then none else some (64 * n + i)))

/-- The judgement closes (R368, R370). -/
def judgeCup (s : State) : State :=
  let c := { s.faults.cup with sums := s.faults.cup.sums.filter (fun e => dieReported s.faults.cup (e.1 / 64)) }
  let ks := cupJudged s
  let split := ks.filter (fun k => decide (k < cupPair c k) && (tfind c.sums k).isSome && (tfind c.sums (cupPair c k)).isSome && !pairAgrees c k)
  let s := ks.foldl (fun s k => applyVerdict s c k) s
  let s := bump (bump s Obj.cupDisagreements split.length) Obj.cupPeriods
  let kept := s.tiles.filterMap (fun e => e.2.cupPassed.map (·.toNat))
  setCup s (fun c => { c with open_ := false, ended := c.ended.filter (fun e => kept.contains e.1 || e.1 == c.t.toNat) })

/-- Every expected die that is still in service has reported. -/
def cupAllIn (s : State) : Bool :=
  s.faults.cup.expect.all (fun n => fencedSite s (siteCD n) || fencedSite s (siteKD n) || dieReported s.faults.cup n)

/-- A die that was expected and is fenced drops out; the judgement may close. -/
def cupRecheck (s : State) : State :=
  let s := setCup s (fun c => { c with expect := c.expect.filter (fun n => !(fencedSite s (siteCD n) || fencedSite s (siteKD n))) })
  if s.faults.cup.open_ && cupAllIn s then judgeCup s else s

/-- The barista collects a CUP_RESULT packet. -/
def doCupResult (s : State) (cd j : Nat) (seq : BitVec 32) (period : Nat) (fin : Nat) (sums : List Word) : State :=
  let s := sigArrive s (ctrlPacket (siteCD cd) (activeSite s) 0x83 seq (cupField period j fin) sums)
  let c := s.faults.cup
  if !c.open_ ∨ period ≠ (c.k - 1) % 65536 ∨ !c.expect.contains cd ∨ !collectorUp s then s
  else
    let ts := cupTiles j
    let got := (List.range ts.length).foldl (fun t i =>
      if bitAt fin i then tput t (64 * cd + 6 * j + i) (sums.getD i 0) else t) c.sums
    let s := setCup s (fun c => { c with reported := addPos c.reported (16 * cd + j), sums := got })
    if cupAllIn s then judgeCup s else s

def execCupResult (cd : Fin 16) (j : Fin 11) (seq : BitVec 32) (period : BitVec 16) (fin : BitVec 6) (sums : List Word) (s : State) :
    Host.Outcome State Fault Refusal :=
  .next (doCupResult s cd.val j.val seq period.toNat fin.toNat sums)

/-- 50 ms after T the judgement closes. -/
def execCupJudgementTimeout (s : State) : Host.Outcome State Fault Refusal :=
  .next (if s.faults.cup.open_ ∧ s.ticks ≥ s.faults.cup.startAt + 50000000 then judgeCup s else s)

/-- The report of a cupping fence (R373), newest first, 16 at most. -/
def cupReportOf (s : State) (k : Nat) (hung : Bool) : State :=
  let j := jobMark s
  let passed := (tileAt s k).cupPassed
  let from_ := passed.getD (BitVec.ofNat 64 (dval s Obj.readyTime))
  let ended := tget (fun _ => 0) s.faults.cup.ended from_.toNat
  let r : CupReport := { from_ := from_, to_ := s.now, site := siteCD (k / 64), tile := k % 64, hung := hung, fences := lifeFences s k, ring := j.1, seq := j.2.zeroExtend 64, endedFrom := ended, endedTo := BitVec.ofNat 64 (dval s Obj.jobsEnded) }
  bump (setFaults s (fun f => { f with reports := (r :: f.reports).take 16 })) Obj.cupFences

/-- A fence at its boundary (R363): of a tile, with its report when cupping caused it, or of a die. -/
def applyFence (s : State) (site : Nat) (tile : Option Nat) (cause : Nat) (forced : Bool) : State :=
  match tile with
  | none => fenceDie s site cause forced
  | some t =>
    let k := 64 * (site - 8) + t
    if (tileFenceAt s k).isSome ∨ s.faults.retired.contains k then s
    else
      let tested := !((tileAt s k).cup == .idle)
      let s := fenceTile s k cause forced
      -- the others may have been waiting for this tile's test
      let s := if tested && s.faults.cup.open_ && cupDone s (site - 8) then cupSend s (site - 8) else s
      if cause ≤ 1 ∧ !forced then cupReportOf s k (cause == 1) else s

/-- Bytes of CUP_REPORT. -/
def cupReportBytes (s : State) : List Byte :=
  (List.range 16).flatMap (fun i => match s.faults.reports[i]? with
    | some r => toLe 8 r.from_.toNat ++ toLe 8 r.to_.toNat ++ toLe 1 r.site ++ toLe 1 r.tile ++ toLe 1 (b2n r.hung) ++ toLe 1 r.fences ++
        toLe 1 r.ring.toNat ++ [0, 0, 0] ++ toLe 8 r.seq.toNat ++ toLe 8 r.endedFrom.toNat ++ toLe 8 r.endedTo.toNat ++ List.replicate 16 0
    | none => List.replicate 64 0)

end Sys2Proof.Machine
end

