-- ==== Sys2Proof/Machine/Barista.lean ====
section
/-! DEFINITION. The barista pair, mirroring and the carafe (R375 to R400). -/
namespace Sys2Proof.Machine

def setJournal (s : State) (f : Journal → Journal) : State := { s with journal := f s.journal }
def setMirror (s : State) (f : Mirror → Mirror) : State := { s with mirror := f s.mirror }
def setPunel (s : State) (f : Punel → Punel) : State := { s with punel := f s.punel }
def setSec (s : State) (f : Security → Security) : State := { s with sec := f s.sec }

/-! Answers that wait (R382, R405). -/

/-- Has what an answer waits for happened: the commit of its record; or its SEQ, which a record that found the pending set full gets after the next
commit (R392), and the standby's acknowledgement of it, or no standby (R382)? -/
def answerReady (s : State) (w : Waiting) : Bool :=
  if w.commit then decide (w.seq.toNat ≤ (carafeOf s s.active.val).lastCommit.toNat)
  else decide (w.seq.toNat < s.journal.next.toNat) && (decide (w.seq.toNat ≤ s.journal.acked.toNat) || !standbyHere s)

/-- The module sends on the field network whenever the segment is idle: without beacons for 4 ms, or after a node-ID conflict (R407). -/
def sendsFreely (s : State) : Bool :=
  s.punel.state == 3 || (s.punel.state == 2 && decide (s.ticks ≥ s.punel.beaconAt.getD s.punel.phyAt + 4000000))

/-- A Punel unit in a DICTIONARY slot (R114). DESIGN CHOICE (log 112): the spec gives the payload no layout; the client's UDP port and address and the
unit's length, then its bytes. -/
def dictFlits (addr uport : Nat) (u : List Byte) : List Flit :=
  { data := slice (toLe 2 uport ++ toLe 16 addr ++ toLe 2 u.length) 0 64, poison := false } ::
    (List.range (cdiv u.length 64)).map (fun i => { data := slice u (64 * i) 64, poison := false })

/-- A Punel unit goes from one site to another in their DICTIONARY slots. -/
def sendDict (s : State) (site dst addr uport : Nat) (u : List Byte) : State :=
  setHouseQ s site 4 (houseQ s site 4 ++ [(dst, dictFlits addr uport u)])

/-- A unit leaves on its route; on the field network it may have to wait for a transmit opportunity, over UDP it goes to its host die. -/
def sendUnit (s : State) (id : ClientId) (unit : List Byte) : State :=
  match id with
  | .field _ => if sendsFreely s then emit s (.punel id unit) else setPunel s (fun p => { p with fieldOut := p.fieldOut ++ [(id, unit)] })
  | .udp n a u => sendDict s (activeSite s) (siteHD n.val) a.toNat u.toNat unit

/-- What waits for an opportunity is sent: the first frame of all, or all. -/
def fieldSend (s : State) (n : Nat) : State :=
  (s.punel.fieldOut.take n).foldl (fun s e => emit s (.punel e.1 e.2)) (setPunel s (fun p => { p with fieldOut := p.fieldOut.drop n }))

/-- An answer leaves, and its client entry keeps it for 2 s (R415). -/
def sendReply (s : State) (id : ClientId) (unit : List Byte) : State :=
  let s := setPunel s (fun p => { p with clients := p.clients.map (fun c =>
    if c.id = id then { c with replies := ((leAt unit 2 2, unit, s.ticks) :: c.replies).take 16 } else c) })
  sendUnit s id unit

/-- Answers whose condition holds are sent. -/
def releaseAnswers (s : State) : State :=
  let ready := s.punel.waiting.filter (answerReady s)
  let s := setPunel s (fun p => { p with waiting := p.waiting.filter (fun w => !ready.contains w) })
  ready.foldl (fun s w => sendReply s w.id w.answer) s

/-! Committing (R392). -/

/-- Image of a firmware slot of a carafe (R390). -/
def fwImage (c : Carafe) (k : Nat) : List Byte := if k = 0 then c.fwA.getD Config.factoryImage else c.fwB.getD []

def setFwImage (s : State) (n k : Nat) (bs : List Byte) : State :=
  setCarafe s n (if k = 0 then { carafeOf s n with fwA := some bs } else { carafeOf s n with fwB := some bs })

/-- The slot that a barista runs (R435). -/
def bootedOf (s : State) (n : Nat) : Option (Fin 2) := if n = 0 then s.sec.booted else s.sec.booted1

/-- The slot that the active barista does not run; in recovery, slot A. -/
def inactiveSlot (s : State) : Nat := match bootedOf s s.active.val with | some b => 1 - b.val | none => 0

def slotSt (s : State) (k : Nat) : Nat := if k = 0 then s.sec.slotA else s.sec.slotB

/-- Values of class RWP return to their defaults (R426). -/
def eraseRwp (s : State) : State :=
  { s with dict := s.dict.filter (fun e => !isRwp e.1), blobs := s.blobs.filter (fun e => !isRwp e.1) }

/-- A barista's key is in place while its latch is clear (R424). -/
def deriveKeys (s : State) : State :=
  setSec s (fun x => { x with sealed_ := [0, 1].foldl (fun t n => tset (fun _ => false) t n (!(tget (fun _ => false) x.latch n))) [] })

/-- The life cycle enters a state (R426, R427): grants end on leaving SERVICE, erased values return, a retired module's links go
dark, and the keys are derived again. -/
def applyLc (s : State) (st : Nat) (key : List Byte) (counter count erase : Nat) : State :=
  let changed := decide (dval s Obj.lcCounter ≠ counter)
  let left := decide (dval s Obj.lcState = 3 ∧ st ≠ 3)
  let s := dset (dset (dset s Obj.lcState st) Obj.lcCounter counter) Obj.tamperCount count
  let s := setBlob s Obj.ownerKey key
  let s := if left then setPunel s (fun p => { p with clients := p.clients.map (fun c => { c with vendor := false }) }) else s
  let s := if erase = 1 then eraseRwp s else s
  let s := if st = 4 then overNats (List.range 16) (fun l s => linkDown s l) s else s
  if changed then deriveKeys s else s

/-- A change of state that its committed record brings: the life cycle (R427) and the firmware slots (R434, R436). -/
def applyCommitted (s : State) : State :=
  let last := (carafeOf s s.active.val).lastCommit.toNat
  let lc := s.sec.pendingLc.filter (fun e => decide (e.1.toNat ≤ last))
  let fw := s.sec.pendingFw.filter (fun e => decide (e.1.toNat ≤ last))
  let s := lc.foldl (fun s (_, st, key, counter, count, erase) => applyLc s st key counter count erase) s
  let s := fw.foldl (fun s (_, a, b, roll) =>
    let s := setSec s (fun x => { x with slotA := a, slotB := b })
    match roll with | some v => dset s Obj.rollbackSvn v | none => s) s
  let s := setSec s (fun x => { x with
    pendingLc := x.pendingLc.filter (fun e => decide (e.1.toNat > last)), pendingFw := x.pendingFw.filter (fun e => decide (e.1.toNat > last)) })
  if fw.isEmpty ∨ !s.sec.pendingFw.isEmpty then s
  else
    let k := inactiveSlot s
    match s.sec.updState with
    | 1 | 2 => setFwImage s s.active.val k s.sec.updBuf
    | 3 => setSec s (fun x => { x with updState := 4, updBuf := [] })
    | 4 => if slotSt s k = 3 then setSec s (fun x => { x with updState := 5 }) else s
    | 6 => setSec s (fun x => { x with updState := 4, trial := false })
    | _ => s

/-- The COMMIT record that closes the pending batch. -/
def commitRec (s : State) (cause : Nat) : Rec := commitFor s.journal.pending s.journal.next s.now cause

/-- The active commits its pending set: into its own carafe, and the COMMIT goes to the standby as a mirror record. -/
def commitNow (s : State) (cause : Nat) : State :=
  let cr := commitRec s cause
  let a := s.active.val
  let s := setCarafe s a (writeBatch (carafeOf s a) s.journal.pending cr)
  let held := s.journal.held
  let s := mirrorItem (setJournal s (fun j => { j with pending := [], held := [], next := j.next + 1, immediate := !held.isEmpty, due := none })) 1 (recBytes cr)
  releaseAnswers (applyCommitted (held.foldl addRecord s))

/-- Before a batch is written the standby has acknowledged every record of it, or is absent. -/
def mayCommit (s : State) : Bool := !standbyHere s || decide (s.journal.next.toNat ≤ s.journal.acked.toNat + 1)

/-- Commit now, or once the standby has acknowledged the batch. -/
def tryCommit (s : State) (cause : Nat) : State :=
  if !collectorUp s then s
  else if mayCommit s then commitNow s cause
  else setJournal s (fun j => { j with due := some (j.due.getD cause) })

/-- What is due is committed. -/
def commitDue (s : State) : State :=
  match s.journal.due with
  | some c => tryCommit s c
  | none => if s.journal.immediate then tryCommit s 2 else s

/-! Wear (R400). -/

def wearOf (s : State) (k : Nat) : Nat := tget (fun _ => 0) s.wear k
def addWear (s : State) (k n : Nat) : State := { s with wear := tset (fun _ => 0) s.wear k (wearOf s k + n) }

/-- Mean HEATER code of a port's rings. -/
def meanHeater (s : State) (p : Nat) : Nat :=
  ((List.range 72).map (fun i => heaterOf (72 * p + i) (ringAt_ s (72 * p + i)))).sum / 72

/-- Drive band of a comb: eighths of its maximum. -/
def driveBand (s : State) (c : Nat) : Nat :=
  min 7 (8 * driveNow s c / max 1 (Config.combFactory c 2))

/-- Some seconds of wear: hours, heater stress, comb drive. -/
def wearSeconds (s : State) (n : Nat) : State :=
  let s := addWear s 0 n
  let s := overNats (List.range 366) (fun p s => if portPowered s p then addWear s (2000 + p) (meanHeater s p * n) else s) s
  overNats (List.range 10) (fun c s => if domAt s (domLC c) == .on then addWear s (3000 + 8 * c + driveBand s c) n else s) s

/-- WEAR records of the counters (R398 type 0x0060). -/
def wearRecords (s : State) : List Rec :=
  s.wear.map (fun e => { type := 0x0060, part := 0, key := e.1, seq := 0, data := toLe 8 e.2 }) ++
  (List.range 2).map (fun n => { type := 0x0060, part := 0, key := 4000 + n, seq := 0, data := toLe 8 (dval s (Obj.baristaSilences + 256 * n)) })

/-- Every 1 s the pending records and the class C records are committed as one batch. -/
def doPeriodic (s : State) : State :=
  if !collectorUp s ∨ s.ticks < s.journal.periodicAt + 1000000000 then s
  else
    let s := wearSeconds s ((s.ticks - s.journal.periodicAt) / 1000000000)
    let c := carafeOf s s.active.val
    let full := decide (c.lastCommit.toNat + 1 ≥ c.journalFrom.toNat + 122880)
    let recs := if full then [] else s.journal.classC ++ wearRecords s
    let s := setJournal s (fun j => { j with periodicAt := s.ticks, classC := if full then j.classC else [] })
    tryCommit (recs.foldl addRecord s) 0

/-- PERIODIC_COMMIT (R392). -/
def execPeriodicCommit (s : State) : Host.Outcome State Fault Refusal := .next (doPeriodic s)

/-- 1,024 pending records trigger a commit. -/
def execEarlyCommit (s : State) : Host.Outcome State Fault Refusal :=
  .next (if s.journal.pending.length ≥ 1024 then tryCommit s 1 else s)

/-- A write of 1 requests an immediate commit. -/
def execCarafeCommitNow (v : BitVec 8) (s : State) : Host.Outcome State Fault Refusal := .next (if v = 1 then tryCommit s 2 else s)

/-- Journal records from JOURNAL_FROM (R400). -/
def journalFill (c : Carafe) : Nat := c.lastCommit.toNat + 1 - c.journalFrom.toNat

/-- A barista works on its carafe. -/
def carafeWorks (s : State) (n : Nat) : Bool := roleOf s n == .active || roleOf s n == .standby

/-- 65,536 journal records start a compaction into the older area (R393). -/
def doCompaction (s : State) (n : Nat) : State :=
  let c := carafeOf s n
  if carafeWorks s n ∧ c.compacting.isNone ∧ journalFill c ≥ 65536 then setCarafe s n (startCompact c) else s

def execCompaction (n : Fin 2) (s : State) : Host.Outcome State Fault Refusal := .next (doCompaction s n.val)

/-- The new header is written: GEN one higher, JOURNAL_FROM after the commit that was copied. -/
def doCompactionDone (s : State) (n : Nat) : State :=
  match (carafeOf s n).compacting with
  | none => s
  | some last => setCarafe s n (endCompact (carafeOf s n) last)

def execCompactionDone (n : Fin 2) (s : State) : Host.Outcome State Fault Refusal := .next (doCompactionDone s n.val)

/-! BARISTA slots (R381). -/

/-- The code of the dictionary value in a record (R398: KEY [23:8] index, [7:0] subindex). -/
def recCode (r : Rec) : Nat := r.key % 2 ^ 24

/-- The first value a mirror record replaces is no longer to be undone. -/
def mirrored (m : Mirror) (code part : Nat) : Mirror :=
  match dictFind code with
  | some e =>
    if e.type = 9 then
      if 40 * (part + 1) < e.len then m
      else match m.undoBlobs.find? (fun e => e.1 == code) with | some e => { m with undoBlobs := m.undoBlobs.erase e } | none => m
    else match m.undo.find? (fun e => e.1 == code) with | some e => { m with undo := m.undo.erase e } | none => m
  | none => m

/-- The standby takes a mirror record without a gap; a COMMIT that matches writes the batch to its own carafe (R392). -/
def takeRecord (s : State) (n : Nat) (r : Rec) : State :=
  if r.seq ≠ s.mirror.held + 1 then s
  else
    let s := setMirror s (fun m => { m with held := r.seq })
    if r.type = 1 then
      let s := if batchGood s.mirror.pending r then setCarafe s n (writeBatch (carafeOf s n) s.mirror.pending r) else s
      setMirror s (fun m => { m with pending := [] })
    else
      let s := setMirror s (fun m => { m with pending := m.pending ++ [r] })
      if r.type = 0x0010 then setMirror s (fun m => mirrored m (recCode r) r.part) else s

/-- A barista takes a log entry that it does not hold. -/
def takeLog (s : State) (n : Nat) (e : LogEntry) : State :=
  let c := carafeOf s n
  if (logFind c e.number.toNat).isSome then s else setCarafe s n (pushLog c s.ticks e)

/-- A barista that is re-mirrored takes a committed record without a gap into its own journal; a COMMIT ends its batch (R386). -/
def takeCommitted (s : State) (n : Nat) (r : Rec) : State :=
  if r.seq ≠ s.mirror.held + 1 then s
  else
    let c := putJournal (carafeOf s n) r
    let c := if r.type = 1 then { c with lastCommit := r.seq, lastTime := BitVec.ofNat 64 (leAt r.data 8 8) } else c
    setMirror (setCarafe s n c) (fun m => { m with held := r.seq })

/-- The active re-mirrors its partner: after its acknowledgement, the next 20 committed records and up to eight log entries that follow. -/
def sendCommitted (s : State) (seq number : Nat) : State :=
  let a := s.active.val
  let c := carafeOf s a
  let s := (journalRecs c (seq + 1) (min c.lastCommit.toNat (seq + 20))).foldl (fun s r => slotItem s a 4 (recBytes r)) s
  (List.range 4).foldl (fun s i =>
    match logFind c (number + 2 * i), logFind c (number + 2 * i + 1) with
    | some x, some y => slotItem s a 2 (x ++ y)
    | some x, none => slotItem s a 2 (x ++ x)
    | none, some y => slotItem s a 2 (y ++ y)
    | none, none => s) s

/-- One flit of a received slot, by its KIND. -/
def takeItem (s : State) (n kind : Nat) (bs : List Byte) : State :=
  let standby := roleOf s n == .standby && n != s.active.val
  let back := roleOf s n == .remirroring
  match kind with
  | 1 => if standby && recGood bs then takeRecord s n (recOf bs) else s
  | 2 => if standby || back then takeLog (takeLog s n (logEntryOf (bs.take 32))) n (logEntryOf (bs.drop 32)) else s
  | 3 =>
    if n ≠ s.active.val then s
    else if roleOf s (1 - n) = .remirroring then sendCommitted s (leAt bs 0 8) (leAt bs 8 8)
    else if s.journal.acked.toNat < leAt bs 0 8 ∧ leAt bs 0 8 < s.journal.next.toNat then
      commitDue (releaseAnswers (setJournal s (fun j => { j with acked := BitVec.ofNat 64 (leAt bs 0 8) })))
    else s
  | 4 => if back && recGood bs then takeCommitted s n (recOf bs) else s
  | 5 =>
    if !standby || !recGood bs then s
    else if (recOf bs).key = cupKey then setMirror s (fun m => { m with cupK := leAt bs 16 8 })
    else setMirror s (fun m => mirrored m (recCode (recOf bs)) (recOf bs).part)
  | _ => s

/-- A barista takes the BARISTA slot it received first; the standby, and a barista that is re-mirrored, acknowledges. -/
def doBaristaSlot (s : State) (n : Nat) : State :=
  let key := houseKey (siteBA n) 3
  match tget (fun _ => []) s.houseIn key with
  | [] => s
  | e :: rest =>
    let s := { s with houseIn := tset (fun _ => []) s.houseIn key rest }
    match e.2 with
    | [] => s
    | d :: fs =>
      let s := overNats (List.range (min fs.length 25)) (fun i s =>
        takeItem s n (leAt d.data i 1) ((fs.getD i { data := [], poison := false }).data)) s
      if n ≠ s.active.val ∧ (roleOf s n = .standby ∨ roleOf s n = .remirroring) then slotItem s n 3 (ackBytes s n) else s

def execBaristaSlot (n : Fin 2) (s : State) : Host.Outcome State Fault Refusal := .next (doBaristaSlot s n.val)

/-! Heartbeats and takeover (R384 to R388). -/

def beatPacket (n role : Nat) (seq : Word) : SigPacket := ctrlPacket (siteBA n) (siteBA (1 - n)) 0x91 0 role [seq]

/-- Every microsecond each barista sends HEARTBEAT to its partner. -/
def doHeartbeatTick (s : State) (n : Nat) : State :=
  let b := barOf s n
  if !outputsOpen s n ∨ s.ticks < b.sentAt + 1000 then s
  else emit (setBarOf s n { b with sentAt := s.ticks })
    (.sig (beatPacket n (if roleOf s n = .active then 0 else 1) (carafeOf s n).lastCommit))

def execHeartbeatTick (n : Fin 2) (s : State) : Host.Outcome State Fault Refusal := .next (doHeartbeatTick s n.val)

/-- A barista receives its partner's heartbeat. -/
def execHeartbeat (n : Fin 2) (role : Fin 2) (seq : Word) (s : State) : Host.Outcome State Fault Refusal :=
  .next (setBarOf (sigArrive s (beatPacket (1 - n.val) role.val seq)) n.val { barOf s n.val with beatAt := s.ticks })

/-- TAKEOVER in the collector of the active (R384, R388). -/
def takeoverMsg (s : State) : State := raise s (activeSite s) 0x11 0x68 4 false s.active.val

/-- Values whose mirror had not arrived go back to what they were. -/
def undoValues (s : State) : State :=
  let s := s.mirror.undo.reverse.foldl (fun s e => { s with dict := tset dictDefault s.dict e.1 e.2 }) s
  s.mirror.undoBlobs.reverse.foldl (fun s e => setBlob s e.1 e.2) s

/-- A tile that has lost its comb, with no switch-in named and nobody who still reports it, is switched in by the barista that took over (R160). -/
def relight (s : State) : State :=
  overNats ((List.range 8).filter (fun bt => (tfind s.light.lossAt bt).isSome &&
      !s.changes.any (fun c => match c.2 with | .combSwitch b _ sudden => b == bt && sudden | _ => false) &&
      !s.faults.repeaters.any (fun r => r.msg.kind == 0x20 && fld (detailOf r.msg) 4 3 == bt)))
    (fun bt s => switchIn s bt (boundaryAfter s 700)) s

/-- The standby becomes active (R376, R380, R384, R385, R418). -/
def takeover (s : State) (n : Nat) : State :=
  let s := undoValues s
  let s := setRole { s with active := Fin.ofNat 2 n, roleEpoch := s.roleEpoch + 1, ctrlSeq := s.ctrlSeq + 1023 } n .active
  let s := stopCompaction (stopCompaction s 0) 1
  let s := s.faults.internal.foldl dropMark s
  let s := setFaults s (fun f => { f with
    busyUntil := 0, internal := [], kept := [], recovery := none, waitingRec := []
    logCount := BitVec.ofNat 64 (match logHigh (carafeOf s n) with | some k => k + 1 | none => 0)
    cup := { f.cup with open_ := false, k := max f.cup.k s.mirror.cupK } })
  let m := s.mirror
  let s := { s with journal := { pending := m.pending, next := m.held + 1, acked := m.held, periodicAt := s.ticks }, mirror := {} }
  let s := setPunel s (fun p => { p with clients := [], snaps := [], staged := [], expired := [], waiting := [], fieldOut := [] })
  let s := setSec s (fun x => { x with
    updState := if 1 ≤ x.updState ∧ x.updState ≤ 3 then 0 else x.updState, updClient := none, updBuf := []
    pendingLc := x.pendingLc.filter (fun e => decide (e.1.toNat ≤ m.held.toNat))
    pendingFw := x.pendingFw.filter (fun e => decide (e.1.toNat ≤ m.held.toNat)) })
  let s := setBarOf s n { barOf s n with partnerLost := false, beatAt := s.ticks, epoch := s.roleEpoch }
  let s := ctrlSend s 0x7F 0x90 (siteBA n) [s.roleEpoch.zeroExtend 64]
  takeoverMsg (relight (schedule s (boundaryAfter s 0) (.lightTree n)))

/-- 6 microseconds without a heartbeat make the standby take over. -/
def doHeartbeatLoss (s : State) (n : Nat) : State :=
  if n = s.active.val ∨ roleOf s n ≠ .standby ∨ s.ticks < (barOf s n).beatAt + 6000 then s else takeover s n

def execHeartbeatLoss (n : Fin 2) (s : State) : Host.Outcome State Fault Refusal := .next (doHeartbeatLoss s n.val)

/-- 6 microseconds without the standby's heartbeat: the active works alone (R388). -/
def doStandbyLoss (s : State) : State :=
  let a := s.active.val
  let b := barOf s a
  if !collectorUp s ∨ b.partnerLost ∨ s.ticks < b.beatAt + 6000 then s
  else
    let s := takeoverMsg (setBarOf s a { b with partnerLost := true })
    commitDue (releaseAnswers s)

def execStandbyLoss (s : State) : Host.Outcome State Fault Refusal := .next (doStandbyLoss s)

/-- BARISTA_ACTIVE reaches every die (R376); an active of a lower epoch falls silent (check 10). -/
def doBaristaActive (s : State) (src : BitVec 7) (seq : BitVec 32) (site : BitVec 7) (epoch : BitVec 32) : State :=
  let s := sigArrive s (ctrlPacket src.toNat 0x7F 0x90 seq site.toNat [epoch.zeroExtend 64])
  let r := ctrlTakeAll s src seq
  if !r.1 ∨ (site ≠ 74 ∧ site ≠ 75) then r.2
  else
    let n := site.toNat - 74
    let s := { r.2 with named := Fin.ofNat 2 n }
    if roleOf s (1 - n) = .active ∧ (barOf s (1 - n)).epoch < epoch then silence s (1 - n) 10 else s

def execBaristaActive (src : BitVec 7) (seq : BitVec 32) (site : BitVec 7) (epoch : BitVec 32) (s : State) : Host.Outcome State Fault Refusal :=
  .next (doBaristaActive s src seq site epoch)

/-- BA1 returns the role to BA0 when nothing is under way (R387). The first SEQ it names for BA0 leaves room for what BA1 still sends until Th. -/
def doHandbackDue (s : State) : State :=
  if s.active ≠ 1 ∨ !collectorUp s ∨ roleOf s 0 ≠ .standby ∨ s.faults.recovery.isSome ∨ !s.light.cal.holds.isEmpty ∨
      s.pow.level ≠ 0 ∨ s.mt.stepD.isSome ∨ s.handback.isSome then s
  else
    let first := s.ctrlSeq + 1024
    let epoch := s.roleEpoch + 1
    ctrlSend { s with handback := some (first, epoch) } 0x7F 0x92 0 [boundaryAfter s 2048, epoch ++ first]

def execHandbackDue (s : State) : Host.Outcome State Fault Refusal := .next (doHandbackDue s)

/-- HANDBACK reaches every die. -/
def doHandback (s : State) (src : BitVec 7) (seq : BitVec 32) (th : Word) (first epoch : BitVec 32) : State :=
  let r := ctrlTakeAll (sigArrive s (ctrlPacket src.toNat 0x7F 0x92 seq 0 [th, epoch ++ first])) src seq
  if r.1 then schedule { r.2 with handback := some (first, epoch) } th .handback else r.2

def execHandback (src : BitVec 7) (seq : BitVec 32) (th : Word) (first epoch : BitVec 32) (s : State) : Host.Outcome State Fault Refusal :=
  .next (doHandback s src seq th first epoch)

/-- At Th BA0 is active with the epoch and the first SEQ named, and lights tree A. -/
def applyHandback (s : State) : State :=
  match s.handback with
  | none => s
  | some (first, epoch) =>
    if s.active ≠ 1 ∨ roleOf s 0 ≠ .standby then { s with handback := none }
    else
      let s := setRole (setRole { s with active := 0, named := 0, roleEpoch := epoch, ctrlSeq := first - 1, handback := none } 0 .active) 1 .standby
      let s := setBarOf (setBarOf s 0 { barOf s 0 with partnerLost := false, beatAt := s.ticks, epoch := epoch }) 1 { barOf s 1 with beatAt := s.ticks }
      let s := setMirror s (fun m => { m with pending := s.journal.pending, held := s.journal.next - 1, cupK := s.faults.cup.k })
      let s := schedule s (s.now + 1024) (.darkTree 1)
      let s := bumpFree (overNats (List.range 8) (fun b t => updBt t b (fun x => { x with timing := { x.timing with
        tree := 0, phasePull := x.timing.phasePull + (Config.freeWord s.freeCtr (0xE20 + b)).toNat % 21 } })) s)
      setMt s (fun m => { m with tree := 0, lit := addPos m.lit 0 })

/-! Self-checks (R383). -/

/-- A core misses its refresh for 2 microseconds (check 1). -/
def execWatchdog (n : Fin 2) (s : State) : Host.Outcome State Fault Refusal := .next (silence s n.val 1)

/-- The block of a carafe in which a unit failed twice is replaced from the reserve (R389); without a spare one left the barista falls silent
(check 5). -/
def replaceUnit (s : State) (n offset : Nat) : State :=
  match replaceBlock (carafeOf s n) (offset / 65536) with
  | some c => setCarafe s n c
  | none => silence s n 5

/-- Every 10 ms each core runs its fixed program; a mismatch silences the barista (check 2). A double error of its working SRAM (check 3) and a
unit of its carafe that failed a write twice (check 5) are found at any time (R383). -/
def doKnownAnswer (s : State) (n : Nat) (found : SelfCheck) : State :=
  let b := barOf s n
  if !outputsOpen s n then s
  else match found with
    | .sramDouble => silence s n 3
    | .badUnit o => replaceUnit s n o.toNat
    | .right => if s.ticks < b.testAt + 10000000 then s else setBarOf s n { b with testAt := s.ticks }
    | .wrong => if s.ticks < b.testAt + 10000000 then s else silence (setBarOf s n { b with testAt := s.ticks }) n 2

def execKnownAnswerTest (n : Fin 2) (found : SelfCheck) (s : State) : Host.Outcome State Fault Refusal :=
  .next (doKnownAnswer s n.val found)

/-- Cycles of the oscillator in 1 ms of the light clock: more than 100 ppm off silences the barista (check 4). -/
def doOscillator (s : State) (n cycles : Nat) : State :=
  let b := barOf s n
  if !outputsOpen s n ∨ s.ticks < b.countAt + 1000000 then s
  else
    let s := setBarOf s n { b with countAt := s.ticks }
    if cycles < 999900 ∨ 1000100 < cycles then silence s n 4 else s

def execOscillatorCheck (n : Fin 2) (cycles : BitVec 32) (s : State) : Host.Outcome State Fault Refusal :=
  .next (doOscillator s n.val cycles.toNat)

/-- The supply of its regulators stays out of range for 1 microsecond (check 7). -/
def execBaristaSupplyOutOfRange (n : Fin 2) (s : State) : Host.Outcome State Fault Refusal := .next (silence s n.val 7)

/-- BARISTA_ROLE (R400). -/
def roleWord : BaristaRole → Nat
  | .active => 0 | .standby => 1 | .silent => 2 | .remirroring => 3 | .dead => 4

/-! Power-fail (R330, R399). -/

/-- The POWER_FAIL record of a barista and its own COMMIT. -/
def powerFailBatch (s : State) (n : Nat) : State :=
  let c := carafeOf s n
  let r : Rec := { type := 0x0003, part := 0, key := 0, seq := c.lastCommit + 1, data := toLe 8 (dval s Obj.powerFails) ++ toLe 8 s.now.toNat }
  setCarafe s n (writeBatch c [r] (commitFor [r] (c.lastCommit + 2) s.now 3))

/-- A barista's pending batch is committed with the records it holds. -/
def commitOwn (s : State) (n cause : Nat) : State :=
  let batch := if n = s.active.val then s.journal.pending else s.mirror.pending
  let c := carafeOf s n
  setCarafe s n (writeBatch c batch (commitFor batch (c.lastCommit + BitVec.ofNat 64 (batch.length + 1)) s.now cause))

/-- At power-fail or reset each barista that is not silent abandons a compaction, empties its log queue and commits its pending set (R399). -/
def commitBoth (s : State) (cause : Nat) : State :=
  overNats [0, 1] (fun n s => if carafeWorks s n then
    let s := setCarafe s n (flushLog { carafeOf s n with compacting := none })
    commitOwn s n cause else s) s

/-- The active logs what it has raised itself; no action can follow any more. -/
def logRest (s : State) : State :=
  s.faults.internal.foldl (fun s m =>
    dropMark (logMessage s m (s.faults.forcedMsgs.contains m) (decide (dval s Obj.alertLevel ≤ m.severity.toNat))) m) s

/-- All that is lost without supply: DRAM, stores, jobs, requests under way; the carafes stay (R332). -/
def darken (s : State) : State :=
  let s := overNats (List.range 92) (fun d s => if domAt s d = .faulted then s else
    setDom (if d < 16 then deepLost (computeDark s d) d else if 32 ≤ d ∧ d < 56 then stackDark s (d - 32) else s) d .off) s
  let s := overNats (List.range 16) (fun l s => setLink s l {}) s
  { s with
    sent := [], job := none, flowKinds := [], codes := [], changes := [], houseq := [], houseIn := [], arbs := [], sigFails := [], sigDown := []
    ctrlWin := [], srcSeq := [], bts := s.bts.map (fun e => (e.1, { ({} : BaseTile) with timing := e.2.timing }))
    host := {}
    fab := { ({} : Fabric) with bars := s.fab.bars.map (fun e => (e.1, { ({} : FabBar) with entry := e.2.entry })), flags := s.fab.flags, shadow := s.fab.shadow }
    journal := { next := (carafeOf s s.active.val).lastCommit + 1 }, mirror := {}
    punel := { ({} : Punel) with phyAt := s.ticks } }

/-- Power-fail is declared: 20 readings in a row below 36 V, or the bus below 5.4 V for 20 microseconds (R330). -/
def powerFailing (s : State) : Bool :=
  decide (tget (fun _ => 0) s.pow.below 5 ≥ 20) || (match s.pow.busLow with | some t => decide (s.ticks ≥ t + 20000) | none => false)

/-- POWER_FAIL is logged with all that waits, then the pending sets and the power-fail records are committed and all is dark (R330 Table 4, R399). -/
def doPowerFail (s : State) : State :=
  if s.pow.failed ∨ !powerFailing s then s
  else
    let s := setPow s (fun w => { w with failed := true })
    let s := if collectorUp s then logRest (raise s (activeSite s) 0x11 0x43 7 false 0) else s
    let s := commitBoth s 3
    let s := bump s Obj.powerFails
    let s := overNats [0, 1] (fun n s => if carafeWorks s n then powerFailBatch s n else s) s
    let s := darken s
    let s := setFaults s (fun f => { f with
      alert := .held, alertByPower := true, busyUntil := 0, internal := [], repeaters := [], kept := [], recovery := none
      waitingRec := [], forcedMsgs := [] })
    dset { s with role0 := .silent, role1 := .silent, startup := {} } Obj.moduleState 0

def execPowerFail (s : State) : Host.Outcome State Fault Refusal := .next (doPowerFail s)

end Sys2Proof.Machine
end

