-- ==== Sys2Proof/Machine/Cold.lean ====
section
/-! DEFINITION. What a power cycle or reset leaves (R332, R398), and what recovery reads back from a carafe (R394, R402). -/
namespace Sys2Proof.Machine

def setStartup (s : State) (f : Startup → Startup) : State := { s with startup := f s.startup }

/-- The module as its boot ROM finds it: everything at reset but what is not lost, which is the carafes, the fuses of the
stacks, a broken cover mesh, and what the supply reads. -/
def coldState (s : State) : State :=
  let c := fun (x : Carafe) => { x with compacting := none, logq := [] }
  let w := s.pow
  { State.reset with
    pending := s.pending, ticks := s.ticks, now := s.now, freeCtr := s.freeCtr
    carafe0 := c s.carafe0, carafe1 := c s.carafe1
    dramStacks := s.dramStacks.filterMap (fun e => if e.2.fuses.isEmpty then none else some (e.1, { ({} : Stack) with fuses := e.2.fuses }))
    pow := { ({} : Supply) with input := w.input, bus := w.bus, below := w.below, above := w.above, overAt := w.overAt, under := w.under
                                disconnected := w.disconnected, good := w.good, stagesFailed := w.stagesFailed, stagesRetired := w.stagesRetired, power := w.power }
    sec := { ({} : Security) with meshBroken := s.sec.meshBroken, meshSeen := s.sec.meshSeen, owed := s.sec.owed, lastSource := s.sec.lastSource } }

/-- Step 2 of start-up begins (R439, R460). -/
def enterRom (s : State) (slotId : BitVec 6) (began at_ : Nat) : State :=
  { coldState s with startup := { ({} : Startup) with step := 2, began := began, stepAt := at_, slotId := slotId } }

/-- Key of a joint group: site and group number. -/
def jointKey (site group : Nat) : Nat := site * 65536 + group

/-- A value of class RWP from its record. -/
def restoreValue (s : State) (r : Rec) : State :=
  let code := recCode r
  match dictFind code with
  | some e =>
    if e.access ≠ 3 then s
    else if e.type = 9 then setBlob s code (splice (blobAt s code e.len) (40 * r.part) (r.data.take (e.len - 40 * r.part)))
    else dset s code (leAt r.data 0 (typeSize e.type))
  | none => s

/-- One record of the recovered state (R398 Table 8). -/
def restoreRec (s : State) (r : Rec) : State :=
  let tile := 64 * (r.key / 256 - 8) + r.key % 256
  match r.type with
  | 0x0003 => dset s Obj.powerFails (leAt r.data 0 8)
  | 0x0010 => restoreValue s r
  | 0x0020 => setFaults s (fun f => { f with tileFences := tset (fun _ => 0) f.tileFences tile (leAt r.data 9 1) })
  | 0x0021 => bump (setFaults s (fun f => { f with retired := addPos f.retired tile })) Obj.tilesRetired
  | 0x0030 =>
    let d := r.key / 8388608
    let st := match leAt r.data 0 1 with | 0 => RepairState.soft | 1 => .fusing | _ => .fused
    updStack s (d / 18) (fun x => { x with records := x.records ++ [{ at_ := { die := d % 18, row := r.key % 8388608 }, state := st, committed := true }] })
  | 0x0031 => updStack s r.key (fun x => { x with marked := some (Fin.ofNat 18 (leAt r.data 0 1)) })
  | 0x0038 =>
    let spared := (List.range (leAt r.data 0 1)).map (fun i => leAt r.data (1 + i) 1)
    setStartup s (fun u => { u with joints := tset (fun _ => {}) u.joints r.key { spared := spared } })
  | 0x0040 =>
    let set := BitVec.ofNat 36 (leAt r.data 0 8)
    updPort s (r.key % 512) (fun v =>
      let v := if r.key / 512 = 1 then { v with rxSet := set } else { v with txSet := set }
      { v with clearAtStart := v.clearAtStart || decide (leAt r.data 8 1 = 1) })
  | 0x0042 =>
    let serves := leAt r.data 1 1
    setComb s r.key { combAt s r.key with state := leAt r.data 0 1, serves := if serves < 8 then some serves else none }
  | 0x0048 => setPow s (fun w => { w with stagesRetired := addPos w.stagesRetired r.key })
  | 0x0060 =>
    if r.key < 4000 then { s with wear := tset (fun _ => 0) s.wear r.key (leAt r.data 0 8) }
    else dset s (Obj.baristaSilences + 256 * (r.key - 4000)) (leAt r.data 0 8)
  | 0x0071 => dset s Obj.rollbackSvn (leAt r.data 0 4)
  | 0x0072 => setSec s (fun x => { x with slotA := leAt r.data 0 1, slotB := leAt r.data 1 1 })
  | _ => s

/-- The records of one type in the order of their PARTs, their data joined. -/
def partsOf (recs : List Rec) (type n : Nat) : List Byte :=
  (List.range n).flatMap (fun i => match recs.find? (fun r => r.type == type && r.part == i) with | some r => slice r.data 0 40 | none => List.replicate 40 0)

/-- What the boot ROM needs: the life cycle, the owner key, the rollback counter and the firmware slots. -/
def restoreRom (s : State) (recs : List Rec) : State :=
  let lc := partsOf recs 0x0070 2
  let s := (recs.filter (fun r => r.type == 0x0071 || r.type == 0x0072)).foldl restoreRec s
  if recs.any (fun r => r.type == 0x0070) then
    setBlob (dset (dset (dset s Obj.lcState (leAt lc 0 1)) Obj.lcCounter (leAt lc 4 4)) Obj.tamperCount (leAt lc 8 4)) Obj.ownerKey (slice lc 12 57)
  else s

/-- The module's own entry is LOCAL and valid, though no routing set was ever swapped in (R257). -/
def ownRoute (own : Nat) (t : Tbl Nat) : Tbl Nat :=
  if own ≥ 4096 ∨ tget (fun _ => 0) t own ≠ 0 then t else tset (fun _ => 0) t own 160

/-- The whole recovered state. -/
def restoreAll (s : State) (recs : List Rec) : State :=
  let s := recs.foldl restoreRec (restoreRom s recs)
  let own := dval s Obj.fabricModule
  { s with fab := { s.fab with active := ownRoute own (routeEntries (partsOf recs 0x0050 231)), own := own } }

end Sys2Proof.Machine
end

