-- ==== Sys2Proof/Machine/Crypto.lean ====
section
/-! DEFINITION. SHAKE256 (FIPS 202) and pure Ed448 with an empty context (RFC 8032), the algorithms R422 names. PRESUMED:
their text is taken from the public standards. -/
namespace Sys2Proof.Machine

/-! SHAKE256. -/

/-- The rho step's walk over the lanes other than 0: the lane it stands on and the lanes and offsets seen so far. Step `t` turns the lane
by the triangular number of `t`, and goes from (x, y) to (y, 2x + 3y). -/
def rhoWalk : Nat → Nat → List (Nat × Nat)
  | 0, _ => []
  | left + 1, lane =>
    let t := 24 - left
    (lane, t * (t + 1) / 2 % 64) :: rhoWalk left (lane / 5 + 5 * ((2 * (lane % 5) + 3 * (lane / 5)) % 5))

/-- Turn of a lane in the rho step. -/
def rhoTurn (lane : Nat) : Nat := ((rhoWalk 24 1).find? (fun e => e.1 == lane)).elim 0 Prod.snd

/-- The iota step's shift register: bit 0 is its output; it steps by x^8 + x^6 + x^5 + x^4 + 1. -/
def iotaStep (r : Nat) : Nat := if r < 128 then 2 * r else (2 * r - 256) ^^^ 0x71

/-- A round's constant, and the register after its seven outputs: output `j` stands at bit 2^j - 1. -/
def iotaRound (r : Nat) : Nat × Nat :=
  (List.range 7).foldl (fun a j => (if a.2 % 2 = 1 then a.1 + 2 ^ (2 ^ j - 1) else a.1, iotaStep a.2)) (0, r)

/-- The constants of some rounds from a register on. -/
def iotaConsts : Nat → Nat → List Nat
  | 0, _ => []
  | n + 1, r => (iotaRound r).1 :: iotaConsts n (iotaRound r).2

/-- Exclusive-or of the five lanes of a column. -/
def columnSum (a : List Word) (x : Nat) : Word := ([0, 1, 2, 3, 4].map (fun y => a.getD (5 * y + x) 0)).foldl (· ^^^ ·) 0

/-- Theta, rho and pi: the lane that ends up at a place, mixed with its neighbour columns and turned. -/
def mixedLane (a : List Word) (place : Nat) : Word :=
  let x := (place + 3 * (place / 5)) % 5
  let src := x + 5 * (place % 5)
  let v := a.getD src 0 ^^^ columnSum a ((x + 4) % 5) ^^^ (columnSum a ((x + 1) % 5)).rotateLeft 1
  v.rotateLeft (rhoTurn src)

/-- One round of Keccak-f[1600] on its 25 lanes. -/
def keccakRound (a : List Word) (rc : Nat) : List Word :=
  let row := fun y => (List.range 5).map (fun x => mixedLane a (x + 5 * y))
  let chi := fun (r : List Word) => (List.range 5).map (fun x =>
    r.getD x 0 ^^^ (r.getD ((x + 2) % 5) 0 &&& ~~~ r.getD ((x + 1) % 5) 0))
  let out := (List.range 5).flatMap (fun y => chi (row y))
  out.modify 0 (· ^^^ BitVec.ofNat 64 rc)

def keccakF (a : List Word) : List Word := (iotaConsts 24 1).foldl keccakRound a

/-- The first `n` bytes of SHAKE256 squeezed from a state. -/
def squeeze : Nat → List Word → List Byte
  | 0, _ => []
  | k + 1, st => (bytesOf st).take 136 ++ squeeze k (keccakF st)

/-- Absorb whole blocks of 136 bytes. -/
def absorb : Nat → List Byte → List Word → List Word
  | 0, _, st => st
  | k + 1, bs, st =>
    let w := wordsOf 17 (slice bs 0 136)
    absorb k (bs.drop 136) (keccakF ((List.range 25).map (fun i => st.getD i 0 ^^^ w.getD i 0)))

/-- SHAKE256 of a byte string, `n` bytes long. -/
def shake256 (bs : List Byte) (n : Nat) : List Byte :=
  let blocks := bs.length / 136 + 1
  let room := 136 * blocks - bs.length
  let pad : List Byte := if room = 1 then [0x9F] else [0x1F] ++ List.replicate (room - 2) 0 ++ [0x80]
  (squeeze (cdiv n 136) (absorb blocks (bs ++ pad) (List.replicate 25 0))).take n

/-! Ed448. -/

/-- The field prime 2^448 - 2^224 - 1. -/
def edP : Nat := 2 ^ 448 - 2 ^ 224 - 1

/-- The order of the base point. -/
def edL : Nat := 2 ^ 446 - 0x8335DC163BB124B65129C96FDE933D8D723A70AADC873D6D54A7BB0D

/-- The curve constant d = -39081. -/
def edD : Nat := edP - 39081

/-- A point in projective coordinates. -/
structure EdPoint where
  x : Nat
  y : Nat
  z : Nat
deriving DecidableEq, Repr

/-- The base point. -/
def edB : EdPoint := {
  x := 224580040295924300187604334099896036246789641632564134246125461686950415467406032909029192869357953282578032075146446173674602635247710
  y := 298819210078481492676017930443930673437544040154080242095928241372331506189835876003536878655418784733982303233503462500531545062832660
  z := 1 }

def edZero : EdPoint := { x := 0, y := 1, z := 1 }

/-- A power in the field, by the low `k` bits of the exponent, most significant first. -/
def edPow (b e : Nat) : Nat → Nat
  | 0 => 1
  | k + 1 =>
    let h := edPow b (e / 2) k
    let q := h * h % edP
    if e % 2 = 1 then q * b % edP else q

def edInv (a : Nat) : Nat := edPow a (edP - 2) 448

/-- Sum of two points. -/
def edAdd (p q : EdPoint) : EdPoint :=
  let a := p.z * q.z % edP
  let b := a * a % edP
  let c := p.x * q.x % edP
  let d := p.y * q.y % edP
  let e := edD * (c * d % edP) % edP
  let f := (b + edP - e) % edP
  let g := (b + e) % edP
  let h := (p.x + p.y) * (q.x + q.y) % edP
  { x := a * f % edP * ((h + 2 * edP - c - d) % edP) % edP, y := a * g % edP * ((d + edP - c) % edP) % edP, z := f * g % edP }

/-- A multiple of a point, by the low `k` bits of the scalar. -/
def edMul (n : Nat) (p : EdPoint) : Nat → EdPoint
  | 0 => edZero
  | k + 1 =>
    let h := edMul (n / 2) p k
    let q := edAdd h h
    if n % 2 = 1 then edAdd q p else q

def edEq (p q : EdPoint) : Bool := p.x * q.z % edP == q.x * p.z % edP && p.y * q.z % edP == q.y * p.z % edP

/-- 57 bytes of a point. -/
def edEncode (p : EdPoint) : List Byte :=
  let i := edInv p.z
  let x := p.x * i % edP
  let y := p.y * i % edP
  toLe 57 (y + (x % 2) * 2 ^ 455)

/-- The point of 57 bytes, if they spell one. -/
def edDecode (bs : List Byte) : Option EdPoint :=
  let n := leNat bs
  let y := n % 2 ^ 455
  let sgn := n / 2 ^ 455
  if bs.length ≠ 57 ∨ y ≥ edP then none
  else
    let u := (y * y + edP - 1) % edP
    let v := (edD * (y * y % edP) + edP - 1) % edP
    -- x = u^3 v (u^5 v^3)^((p-3)/4)
    let u3v := u * u % edP * u % edP * v % edP
    let x := u3v * edPow (u3v * u % edP * u % edP * v % edP * v % edP) ((edP - 3) / 4) 448 % edP
    if v * (x * x % edP) % edP ≠ u then none
    else if x = 0 ∧ sgn = 1 then none
    else some { x := if x % 2 = sgn then x else edP - x, y := y, z := 1 }

/-- The prefix dom4(0, empty). -/
def edDom : List Byte := [0x53, 0x69, 0x67, 0x45, 0x64, 0x34, 0x34, 0x38, 0, 0]

/-- Does a signature of 114 bytes verify under a public key? -/
def edVerify (pub msg sig : List Byte) : Bool :=
  match edDecode pub, edDecode (sig.take 57) with
  | some a, some r =>
    let sn := leNat (sig.drop 57)
    let k := leNat (shake256 (edDom ++ sig.take 57 ++ pub ++ msg) 114) % edL
    sig.length == 114 && decide (sn < edL) &&
      edEq (edMul 4 (edMul sn edB 447) 3) (edMul 4 (edAdd r (edMul k a 447)) 3)
  | _, _ => false

/-- The secret scalar of a hashed private key. -/
def edScalar (h : List Byte) : Nat :=
  let n := leNat (h.take 56)
  (n / 4 * 4) % 2 ^ 447 + 2 ^ 447

def edPublic (priv : List Byte) : List Byte := edEncode (edMul (edScalar (shake256 priv 114)) edB 448)

/-- The signature of a message under a private key of 57 bytes. -/
def edSign (priv msg : List Byte) : List Byte :=
  let h := shake256 priv 114
  let a := edScalar h
  let pub := edEncode (edMul a edB 448)
  let r := leNat (shake256 (edDom ++ h.drop 57 ++ msg) 114) % edL
  let rb := edEncode (edMul r edB 447)
  let k := leNat (shake256 (edDom ++ rb ++ pub ++ msg) 114) % edL
  rb ++ toLe 57 ((r + k * a) % edL)

/-! Signatures of the module (R422). -/

/-- ASCII bytes of a tag. -/
def ascii (t : String) : List Byte := t.toList.map (fun c => BitVec.ofNat 8 c.toNat)

/-- The message a signature covers: the tag, then the first 64 bytes of SHAKE256 over the object. -/
def sigMessage (tag : String) (obj : List Byte) : List Byte := ascii tag ++ shake256 obj 64

def sigOk (key : List Byte) (tag : String) (obj sig : List Byte) : Bool := edVerify key (sigMessage tag obj) sig

end Sys2Proof.Machine
end

