-- ==== Sys2Proof/Machine/Security.lean ====
section
/-! DEFINITION. Life cycle, tamper, attestation, the vendor challenge and firmware update (R422 to R437). -/
namespace Sys2Proof.Machine

/-! Records of this chapter (R398 types 0x0070 to 0x0072). Their DATA is the model's own layout. -/

/-- SEQ of the next record that is created (R392). -/
def nextRecSeq (s : State) : Word :=
  let j := s.journal
  if j.pending.length ≥ 2048 then j.next + 1 + BitVec.ofNat 64 j.held.length else j.next

/-- The life cycle with its newest records, committed or not: state, owner key, counter, tamper count. -/
def lcView (s : State) : Nat × List Byte × Nat × Nat :=
  match s.sec.pendingLc.getLast? with
  | some (_, st, key, counter, count, _) => (st, key, counter, count)
  | none => (dval s Obj.lcState, blobAt s Obj.ownerKey 57, dval s Obj.lcCounter, dval s Obj.tamperCount)

/-- The LIFECYCLE record, in two parts since the key is longer than a record's DATA. -/
def lcRecord (s : State) (st : Nat) (key : List Byte) (counter count erase : Nat) : State :=
  let s := queueRecord s 0x0070 0 (toLe 1 st ++ toLe 1 erase ++ toLe 2 0 ++ toLe 4 counter ++ toLe 4 count ++ key.take 28) true
  let seq := nextRecSeq s
  let s := queueRecord s 0x0070 0 (key.drop 28) true 1
  setSec s (fun x => { x with pendingLc := x.pendingLc ++ [(seq, st, key, counter, count, erase)] })

/-- FW_SLOT with the states of slots A and B, and a ROLLBACK record when the counter changes, as one batch. -/
def fwRecord (s : State) (a b : Nat) (roll : Option Nat) : State :=
  let s := queueRecord s 0x0072 0 (toLe 1 a ++ toLe 1 b) true
  let s := match roll with | some v => queueRecord s 0x0071 0 (toLe 4 v) true | none => s
  let seq := nextRecSeq s - 1
  setSec s (fun x => { x with pendingFw := x.pendingFw ++ [(seq, a, b, roll)] })

/-- The slot states when one slot takes a state. -/
def withSlot (s : State) (k st : Nat) : Nat × Nat :=
  let p := match s.sec.pendingFw.getLast? with | some (_, a, b, _) => (a, b) | none => (s.sec.slotA, s.sec.slotB)
  if k = 0 then (st, p.2) else (p.1, st)

def fwSlotRecord (s : State) (k st : Nat) : State := let p := withSlot s k st; fwRecord s p.1 p.2 none

/-! Life-cycle requests (R425 to R427). -/

/-- Identity of the module from the factory area (R397, R420). -/
def serialBytes : List Byte := (List.range 12).map (Config.factoryByte Obj.serial)

def vendorKey : List Byte := (List.range 57).map Config.vendorRoot

/-- Does a state take jobs (R425)? -/
def takesJobs (st : Nat) : Bool := st == 1 || st == 2

/-- May a signer make a change of state (R426 Table 3)? `keyed` says that NEW_OWNER_KEY is not zero. -/
def lcMay (from_ to_ signer : Nat) (keyed : Bool) : Bool :=
  match from_, to_ with
  | 0, 1 => signer == 0 && keyed
  | 1, 1 | 2, 2 => signer == 1 && keyed
  | 1, 2 | 2, 1 | 1, 3 | 2, 3 | 1, 0 | 1, 4 | 2, 4 => signer == 1
  | 3, 1 | 0, 4 | 3, 4 => signer == 0 || signer == 1
  | _, _ => false

/-- The owner key after a change of state. -/
def lcKey (from_ to_ : Nat) (old new : List Byte) : List Byte :=
  if to_ = 0 ∨ to_ = 4 then List.replicate 57 0
  else if from_ = 0 ∨ from_ = to_ then new else old

/-- The first cause for which a request is refused, 0 for none (R427). -/
def lcCause (s : State) (bs : List Byte) : Nat :=
  let v := lcView s
  let target := leAt bs 1 1
  let signer := leAt bs 2 1
  let new := slice bs 24 57
  let key := if signer = 0 then vendorKey else v.2.1
  if bs.length ≠ 202 ∨ leAt bs 0 1 ≠ 1 ∨ leAt bs 3 1 ≠ 0 ∨ leAt bs 20 4 ≠ 0 ∨ leAt bs 81 7 ≠ 0 then 1
  else if slice bs 8 12 ≠ serialBytes then 2
  else if leAt bs 4 4 ≠ v.2.2.1 then 3
  else if !lcMay v.1 target signer (!new.all (· == 0)) then 4
  else if (signer = 1 ∧ v.2.1.all (· == 0)) ∨ !sigOk key "BZ3LCREQ" (bs.take 88) (slice bs 88 114) then 5
  else if !takesJobs target ∧ s.job.isSome then 6
  else 0

/-- LC_REQUEST: refused with its cause, or recorded; the state changes when the record commits. -/
def doLcRequest (s : State) (bs : List Byte) : Nat × State :=
  let c := lcCause s bs
  let s := dset s Obj.lcResult c
  if c ≠ 0 then (c, s)
  else
    let v := lcView s
    let target := leAt bs 1 1
    (0, commitDue (lcRecord s target (lcKey v.1 target v.2.1 (slice bs 24 57)) ((v.2.2.1 + 1) % 2 ^ 32) v.2.2.2
      (b2n (target == 0 || target == 4))))

/-- LC_REQUEST (R427). -/
def execLcRequest (bs : List Byte) (s : State) : Host.Outcome State Fault Refusal := .next (if collectorUp s then (doLcRequest s bs).2 else s)

/-! Tamper (R428, R429). -/

/-- The module has supply: its start-up runs or has ended. -/
def powered (s : State) : Bool := !s.pow.failed && (decide (s.startup.step ≠ 0) || decide (dval s Obj.moduleState ≠ 0) || s.startup.inReset)

/-- The active barista adds what is owed to the tamper count. -/
def countTamper (s : State) : State :=
  if !collectorUp s ∨ s.sec.owed = 0 then s
  else
    let v := lcView s
    let n := (v.2.2.2 + s.sec.owed) % 2 ^ 32
    commitDue (lcRecord (setSec s (fun x => { x with owed := 0 })) v.1 v.2.1 v.2.2.1 n 0)

/-- Each barista wipes its sealed SRAM and sets its latch; the active counts the event. -/
def tamperEvent (s : State) (source : Nat) : State :=
  let s := setSec s (fun x => { x with
    sealed_ := [], latch := [(0, true), (1, true)], lastSource := source, owed := x.owed + 1, meshSeen := x.meshSeen || decide (source = 1) })
  countTamper (dset s Obj.tamperLast s.now.toNat)

/-- A source of Table 5 is detected: 1 cover, 2 light, 3 cold plate. A broken mesh cannot break again; without supply only the mesh
is remembered. -/
def doTamper (s : State) (source : Nat) : State :=
  if source = 1 then
    if s.sec.meshBroken then s
    else
      let s := setSec s (fun x => { x with meshBroken := true })
      if powered s then tamperEvent s 1 else s
  else if powered s then tamperEvent s source else s

/-- TAMPER (R429). -/
def execTamper (source : Fin 3) (s : State) : Host.Outcome State Fault Refusal := .next (doTamper s (source.val + 1))

/-- TAMPER_STATE (R438). -/
def tamperStateWord (s : State) : Nat :=
  b2n s.sec.meshBroken + 2 * b2n (tget (fun _ => false) s.sec.latch s.active.val) + 4 * s.sec.lastSource

/-! Running firmware (R433). -/

/-- The running image. -/
def runningImage (s : State) : List Byte :=
  match bootedOf s s.active.val with | some b => fwImage (carafeOf s s.active.val) b.val | none => []

/-- FW_SLOTS (R438). -/
def fwSlotsBytes (s : State) : List Byte :=
  [0, 1].flatMap (fun k =>
    let im := fwImage (carafeOf s s.active.val) k
    toLe 1 (slotSt s k) ++ [0, 0, 0] ++ slice im 8 4 ++ slice im 12 4 ++ toLe 4 0)

/-- The first check of R433 that an image fails, 0 for none. -/
def imageCheck (s : State) (bs : List Byte) : Nat :=
  let zero := fun lo len => (slice bs lo len).all (· == 0)
  let body := leAt bs 16 4
  let owner := blobAt s Obj.ownerKey 57
  if slice bs 0 4 ≠ ascii "BZFW" ∨ leAt bs 4 1 ≠ 1 ∨ !zero 6 2 ∨ !zero 20 44 ∨ !zero 242 14 ∨ !zero 370 142 ∨ body = 0 ∨
      50331648 < body ∨ bs.length ≠ 512 + body then 1
  else if slice bs 64 64 ≠ shake256 (bs.take 64 ++ bs.drop 512) 64 then 2
  else if !sigOk vendorKey "BZ3FWIMG" (bs.take 128) (slice bs 128 114) then 3
  else if !owner.all (· == 0) ∧ !sigOk owner "BZ3FWOWN" (bs.take 128) (slice bs 256 114) then 4
  else if leAt bs 12 4 < dval s Obj.rollbackSvn then 5
  else 0

/-! Attestation (R430). -/

/-- The identity private key of a barista (R423). -/
def identityKey (n : Nat) : List Byte := shake256 (ascii "BZ3IDKEY" ++ (List.range 32).map (Config.fusedSecret n)) 57

/-- The report for a nonce, bytes 0 to 207. -/
def attestBody (s : State) (nonce : List Byte) : List Byte :=
  let im := runningImage s
  let key := blobAt s Obj.ownerKey 57
  toLe 1 1 ++ toLe 1 (dval s Obj.lcState) ++ toLe 1 (activeSite s) ++ [0] ++ toLe 4 (dval s Obj.tamperCount) ++ toLe 8 s.now.toNat ++
    serialBytes ++ slice im 8 4 ++ slice im 12 4 ++ toLe 4 (dval s Obj.rollbackSvn) ++ toLe 4 (dval s Obj.lcCounter) ++ toLe 4 0 ++
    slice nonce 0 32 ++ slice im 64 64 ++ (if key.all (· == 0) then List.replicate 64 0 else shake256 key 64)

/-- The report with its signature, which reads zero while the latch is set. -/
def attestReport (s : State) (nonce : List Byte) : List Byte :=
  let body := attestBody s nonce
  let n := s.active.val
  body ++ (if tget (fun _ => false) s.sec.latch n ∨ !tget (fun _ => false) s.sec.sealed_ n then List.replicate 114 0
    else edSign (identityKey n) (sigMessage "BZ3ATTES" body))

/-- Both identity certificates (R431). -/
def certBytes : List Byte := (List.range 388).map (Config.factoryByte Obj.identityCert)

/-! The vendor challenge (R432). -/

def clientAt (s : State) (id : ClientId) : Option Client := s.punel.clients.find? (fun c => c.id == id)

def updClient (s : State) (id : ClientId) (f : Client → Client) : State :=
  setPunel s (fun p => { p with clients := p.clients.map (fun c => if c.id = id then f c else c) })

/-- VENDOR_CHALLENGE of a client. -/
def challengeBytes (s : State) (c : Client) : List Byte :=
  serialBytes ++ toLe 4 (dval s Obj.lcCounter) ++ slice c.challenge 0 32 ++ List.replicate 16 0

/-- VENDOR_RESPONSE: granted to a client of the field route in SERVICE whose signature answers its challenge. -/
def doVendorResponse (s : State) (id : ClientId) (sig : List Byte) : Bool × State :=
  match id, clientAt s id with
  | .field _, some c =>
    if dval s Obj.lcState ≠ 3 ∨ c.fails ≥ 3 then (false, s)
    else if sigOk vendorKey "BZ3VCHAL" (challengeBytes s c) sig then (true, updClient s id (fun c => { c with vendor := true }))
    else (false, updClient s id (fun c => { c with fails := c.fails + 1 }))
  | _, _ => (false, s)

/-- What a debug contact does (R459, R462). -/
inductive DebugContact where
  | highImpedance | alive
deriving DecidableEq, Repr

/-- The four debug contacts: alive only in SERVICE while a client of the field route holds vendor privilege; otherwise high impedance, their
inputs ignored (R462). -/
def debugContacts (s : State) : DebugContact :=
  let granted := s.punel.clients.any (fun c => c.vendor && (match c.id with | .field _ => true | .udp _ _ _ => false))
  if dval s Obj.lcState = 3 ∧ granted then .alive else .highImpedance

/-- VENDOR_RESPONSE (R432). -/
def execVendorResponse (id : ClientId) (sig : List Byte) (s : State) : Host.Outcome State Fault Refusal := .next (if collectorUp s then (doVendorResponse s id sig).2 else s)

/-! Firmware update (R434 to R437). -/

/-- The answer of a segment of UPDATE_IMAGE: a status of R412 Table 4, and whether it waits for a record's commit. -/
structure SegAnswer where
  status : Nat
  waits : Bool
  state : State

/-- The slot and the buffer are given up. -/
def dropUpdate (s : State) (st : Nat) : State :=
  setFwImage (setSec s (fun x => { x with updState := st, updBuf := [], updClient := none })) s.active.val (inactiveSlot s) []

/-- The slot states change without a journal, as the boot ROM does it: a batch of its own in each carafe (R435, R437). -/
def romSlots (s : State) (a b : Nat) : State :=
  let s := overNats [0, 1] (fun n s =>
    if roleOf s n = .dead then s
    else
      let c := recoverCarafe (carafeOf s n)
      let r : Rec := { type := 0x0072, part := 0, key := 0, seq := c.lastCommit + 1, data := toLe 1 a ++ toLe 1 b }
      setCarafe s n (writeBatch c [r] (commitFor [r] (c.lastCommit + 2) s.now 2))) s
  setSec s (fun x => { x with slotA := a, slotB := b })

/-- The last segment of a part of an image. -/
def afterSegment (s : State) (last : Bool) : State :=
  let s := if s.sec.pendingFw.isEmpty then setFwImage s s.active.val (inactiveSlot s) s.sec.updBuf else s
  if last then setSec s (fun x => { x with updState := 2 }) else s

/-- A segment of UPDATE_IMAGE (R411, R434). -/
def updateSegment (s : State) (id : ClientId) (first last : Bool) (offset total : Nat) (data : List Byte) : SegAnswer :=
  let no := fun st (s : State) => ({ status := st, waits := false, state := s } : SegAnswer)
  let x := s.sec
  if first then
    if (x.updState = 1 ∧ x.updClient ≠ some id) ∨ x.updState = 2 ∨ x.updState = 3 then no 7 s
    else if offset ≠ 0 then no 8 s
    else if total ≠ 512 + leAt data 16 4 ∨ data.length < 20 ∨ (!last ∧ data.length ≠ 1024) ∨ (last ∧ data.length ≠ total) then no 4 s
    else if dval s Obj.lcState = 4 then no 6 (dset s Obj.updateResult 6)
    else
      let k := inactiveSlot s
      let s := setSec s (fun x => { x with updState := 1, updClient := some id, updTotal := total, updBuf := data })
      if x.recovery then
        let p := withSlot s k 0
        no 0 (afterSegment (romSlots s p.1 p.2) last)
      else { status := 0, waits := true, state := afterSegment (commitDue (fwSlotRecord s k 0)) last }
  else if x.updState ≠ 1 ∨ x.updClient ≠ some id ∨ offset ≠ x.updBuf.length then no 8 s
  else
    let n := x.updBuf.length + data.length
    if (!last ∧ data.length ≠ 1024) ∨ (last ∧ n ≠ x.updTotal) then no 4 s
    else if n > x.updTotal then no 5 s
    else no 0 (afterSegment (setSec s (fun x => { x with updBuf := x.updBuf ++ data })) last)

/-- UPDATE_IMAGE (R434). -/
def execUpdateImage (id : ClientId) (first last : Bool) (offset total : BitVec 32) (data : List Byte) (s : State) : Host.Outcome State Fault Refusal :=
  .next (if collectorUp s ∨ s.sec.recovery then (updateSegment s id first last offset.toNat total.toNat data).state else s)

/-- ABORT during staging leaves the slot empty. -/
def abortUpdate (s : State) (id : ClientId) : State :=
  if s.sec.updState = 1 ∧ s.sec.updClient = some id then dropUpdate s 0 else s

/-- The slot is marked staged; in recovery it is armed at once (R437). -/
def markStaged (s : State) : State :=
  let k := inactiveSlot s
  if s.sec.recovery then
    let p := withSlot s k 3
    setSec (romSlots s p.1 p.2) (fun x => { x with updState := 5, updBuf := [] })
  else commitDue (fwSlotRecord s k 1)

/-- Verification ends: the image is copied to the partner, marked staged where there is none, or rejected. -/
def doImageVerified (s : State) : State :=
  if s.sec.updState ≠ 2 ∨ !s.sec.pendingFw.isEmpty then s
  else
    let r := imageCheck s s.sec.updBuf
    let s := dset s Obj.updateResult r
    if r ≠ 0 then dropUpdate s 7
    else
      let s := setSec s (fun x => { x with updState := 3 })
      if standbyHere s ∧ !s.sec.recovery then s else markStaged s

def execImageVerified (s : State) : Host.Outcome State Fault Refusal := .next (doImageVerified s)

/-- The copy in the partner's slot is complete. -/
def doImageCopied (s : State) : State :=
  if s.sec.updState ≠ 3 ∨ !s.sec.pendingFw.isEmpty then s
  else markStaged (setFwImage s (1 - s.active.val) (inactiveSlot s) s.sec.updBuf)

def execImageCopied (s : State) : Host.Outcome State Fault Refusal := .next (doImageCopied s)

/-- UPDATE_ACTIVATE: 1 arms the staged slot; in recovery it starts the module again with the armed image. -/
def doUpdateActivate (s : State) (v : Nat) : Bool × State :=
  let k := inactiveSlot s
  if v ≠ 1 then (false, s)
  else if s.sec.recovery then
    if slotSt s k = 3 then
      (true, enterRom s s.startup.slotId s.ticks s.ticks)
    else (false, s)
  else if slotSt s k = 1 ∧ s.sec.pendingFw.isEmpty then
    (true, commitDue (fwSlotRecord (setSec s (fun x => { x with updState := 4 })) k 3))
  else (false, s)

def execUpdateActivate (v : BitVec 8) (s : State) : Host.Outcome State Fault Refusal :=
  .next (if collectorUp s ∨ s.sec.recovery then (doUpdateActivate s v.toNat).2 else s)

/-- The running trial is confirmed (R436): the trial's slot confirmed, the old slot staged, the counter raised. -/
def confirmTrial (s : State) : Bool × State :=
  match bootedOf s s.active.val with
  | some b =>
    if !s.sec.trial ∨ !s.sec.pendingFw.isEmpty then (false, s)
    else
      let roll := max (dval s Obj.rollbackSvn) (leAt (runningImage s) 12 4)
      let a := if b = 0 then (2, 1) else (1, 2)
      (true, commitDue (fwRecord (setSec s (fun x => { x with updState := 6 })) a.1 a.2 (some roll)))
  | none => (false, s)

/-- UPDATE_CONFIRM (R436). -/
def execUpdateConfirm (v : BitVec 8) (s : State) : Host.Outcome State Fault Refusal :=
  .next (if collectorUp s ∧ v = 1 then (confirmTrial s).2 else s)

/-- UPDATE_CONFIRM_TIME seconds of readiness. -/
def doConfirmTimer (s : State) : State :=
  let t := dval s Obj.updateConfirmTime
  if t = 0 ∨ dval s Obj.moduleState ≠ 1 ∨ !collectorUp s ∨ s.ticks < s.startup.readyTick + t * 1000000000 then s else (confirmTrial s).2

def execConfirmTimer (s : State) : Host.Outcome State Fault Refusal := .next (doConfirmTimer s)

end Sys2Proof.Machine
end

