-- ==== Sys2Proof/Machine/StartUp.lean ====
section
/-! DEFINITION. Start-up, reset, vertical joints and the grinder (R439 to R450, R460). -/
namespace Sys2Proof.Machine

/-- Limits of the steps of Table 1 in ns (R439); step 5 is longer in clear-on-wake mode, step 11 is the grinder's. -/
def stepLimit (s : State) (n : Nat) : Nat :=
  match n with
  | 1 => 110000000 | 2 => 50000000 | 3 => 150000000 | 4 => 20000000
  | 5 => if dval s Obj.deepStoreMode = 1 then 100000000 else 97500000
  | 6 => 2500000000 | 7 => 1500000000 | 8 => 4000000000 | 9 => 8500000000 | 10 => 3000000000
  | 11 => if s.startup.grinderMode = 1 then 10000000 else 5000000
  | _ => 70000000

def finishUnit (s : State) (u : Nat) : State := setStartup s (fun x => { x with finished := addPos x.finished u })
def unitDone (s : State) (u : Nat) : Bool := s.startup.finished.contains u

/-- Start-up ends failed (R450). When it ends before the role is settled, the first barista that works serves the dictionary. -/
def startFail (s : State) (cause : Nat) : State :=
  let s := if s.startup.step ≤ 3 ∧ (cause = 1 ∨ cause = 7) then
      (match [0, 1].find? (fun n => roleOf s n != .dead) with
       | some n => setPunel (setRole { s with active := Fin.ofNat 2 n, named := Fin.ofNat 2 n } n .active) (fun p => { p with
           nodeId := s.startup.slotId.toNat % 8 + 1, phyAt := s.ticks, state := 2 })
       | none => s)
    else s
  let ms := (s.ticks - s.startup.began) / 1000000
  setStartup (dset (dset (dset s Obj.moduleState 2) Obj.startFailure cause) Obj.startDuration ms) (fun x => { x with step := 0, finished := [] })

/-- A barista is in service at start-up. -/
def romLive (s : State) (n : Nat) : Bool := roleOf s n != .dead

/-- A die fenced at start-up (R440 to R442, R445): causes 7 and 8 raise START_FENCE; a stack fails with its base die. -/
def startFence (s : State) (site cause : Nat) : State :=
  if fencedSite s site then s
  else
    let s := setFaults s (fun f => { f with siteFence := tset (fun _ => none) f.siteFence site (some { cause := cause, forced := false }) })
    let s := match siteDomain site with | some d => if domAt s d = .faulted then s else setDom s d .off | none => s
    let s := match siteKind site with
      | some (.md, n) => updStack s n (stackOut 1)
      | some (.cd, n) => if domAt s (domKD n) = .faulted then s else setDom s (domKD n) .off
      | some (.kd, n) => if domAt s (domCD n) = .faulted then s else setDom s (domCD n) .off
      | _ => s
    if cause = 7 ∨ cause = 8 then raise s site 0x00 0x58 5 false cause else s

/-- A barista out until the next start-up; the other takes the active role if it must, and with none left start-up fails. -/
def startSilent (s : State) (n : Nat) : State :=
  let s := setRole s n .dead
  if s.active.val ≠ n then s
  else if romLive s (1 - n) then
    let s := setRole { s with active := Fin.ofNat 2 (1 - n), named := Fin.ofNat 2 (1 - n), roleEpoch := s.roleEpoch + 1 } (1 - n) .active
    let s := setBarOf s (1 - n) { barOf s (1 - n) with epoch := s.roleEpoch, partnerLost := true }
    ctrlSend s 0x7F 0x90 (siteBA (1 - n)) [s.roleEpoch.zeroExtend 64]
  else startFail s 3

/-- A comb out at start-up: off, and a spare is chosen for its tile, whose ports fail without one (R157, R160, R441). -/
def combOut (s : State) (c : Nat) : State :=
  let v := combAt s c
  let s := setStartup (setComb s c { v with state := if v.state = 6 then 6 else 7, serves := none, parked := none }) (fun x => { x with combsOut := addPos x.combsOut c })
  match v.serves with
  | none => s
  | some bt =>
    match chooseSpare s bt with
    | some k => combRecord (setComb s k { combAt s k with state := 3, serves := some bt }) k
    | none => (tilePorts s bt true).foldl (fun s p => updPort s p (fun x => { x with failed := true })) s

/-- Is a firmware slot usable on a barista (R435)? -/
def slotUsable (s : State) (n k : Nat) : Bool := imageCheck s (fwImage (carafeOf s n) k) == 0

/-- Lowest die interface level that the image in a slot of a barista accepts (R433, R441). -/
def slotLevel (s : State) (n k : Nat) : Nat := leAt (fwImage (carafeOf s n) k) 5 1

def setBooted (s : State) (n : Nat) (k : Option (Fin 2)) : State :=
  setSec s (fun x => if n = 0 then { x with booted := k } else { x with booted1 := k })

/-- The kind code a site calls for (R419 Table 7). -/
def kindCode (site : Nat) : Nat :=
  match siteKind site with
  | some (.bt, _) => 0 | some (.cd, _) => 1 | some (.kd, _) => 2 | some (.md, _) => 3 | some (.fd, _) => 4
  | some (.hd, _) => 5 | some (.ba, _) => 6 | some (.lc, _) => 7 | some (.os, _) => 8 | some (.ps, _) => 9 | none => 255

def reportOf (s : State) (site : Nat) : Option (BitVec 8 × BitVec 8 × BitVec 8 × Word) := tget (fun _ => none) s.startup.reports site

/-- A barista whose report does not fit the image that it runs (R441): it takes its other slot where that is usable and accepts its level, a trial
it ran is marked failed, and without one it stays silent until the next start-up (DEDUCED, log 85). -/
def bootAgain (s : State) (n : Nat) : State :=
  let k := 1 - ((bootedOf s n).map (·.val)).getD 0
  match reportOf s (siteBA n) with
  | some (kind, _, level, _) =>
    if kind.toNat = kindCode (siteBA n) ∧ slotUsable s n k ∧ slotLevel s n k ≤ level.toNat then
      let s := setBooted s n (some (Fin.ofNat 2 k))
      if n = s.active.val ∧ s.sec.trial then
        let s := setSec s (fun x => { x with trial := false, updState := if x.slotA = 1 ∨ x.slotB = 1 then 4 else 0 })
        commitDue (fwSlotRecord s (1 - k) 5)
      else s
    else startSilent s n
  | none => startSilent s n

/-- Outcome of a wrong kind, a missing report or too low a level (R441 Table 2). -/
def dieRefused (s : State) (site : Nat) : State :=
  match siteKind site with
  | some (.bt, _) => startFail s 2
  | some (.ba, n) => bootAgain s n
  | some (.os, n) => startSilent s n
  | some (.ps, n) => doStageFail s n
  | some (.lc, n) => combOut s n
  | some _ => startFence s site 7
  | none => s

/-! Steps. -/

def enterStep (s : State) (n : Nat) : State := setStartup s (fun x => { x with step := n, ended := n - 1, stepAt := s.ticks, finished := [] })

/-- The boot choice of R435 Table 8 for a barista, with the slot states it leaves: the slot booted, if any, and whether it is a
trial. -/
def bootChoice (s : State) (n : Nat) : Option (Nat × Bool) × Nat × Nat :=
  let a := s.sec.slotA
  let b := s.sec.slotB
  let armed := if a = 3 then some 0 else if b = 3 then some 1 else none
  let set := fun k v => if k = 0 then (v, b) else (a, v)
  let last := fun (p : Nat × Nat) =>
    let conf := if p.2 = 2 then 1 else 0
    if slotUsable s n conf then (some (conf, false), p) else if slotUsable s n (1 - conf) then (some (1 - conf, false), p) else (none, p)
  match armed with
  | some k => if slotUsable s n k then (some (k, true), set k 4) else last (set k 5)
  | none => if a = 4 then last (5, b) else if b = 4 then last (a, 5) else last (a, b)

/-- Lowest die interface level the running image accepts. -/
def minLevel (s : State) : Nat := leAt (runningImage s) 5 1

/-- Step 2 ends: the life cycle and slots are read, and each barista chooses its image; the first that has one settles the slot states. With none,
recovery; a barista that has none while the other has stays silent (R435, R437, R441; DEDUCED, log 85). -/
def endRom (s : State) : State :=
  let live := [0, 1].filter (romLive s)
  match live with
  | [] => startFail s 3
  | first :: _ =>
    let s := restoreRom s (carafeState (carafeOf s first))
    let own := fun k => (bootChoice s k).1.map (fun x => Fin.ofNat 2 x.1)
    let n := (live.find? (fun k => (own k).isSome)).getD first
    let c := bootChoice s n
    let s := if c.2 = (s.sec.slotA, s.sec.slotB) then s else romSlots s c.2.1 c.2.2
    match c.1 with
    | none =>
      let s := startFail s 0
      { s with
        active := Fin.ofNat 2 n
        sec := { s.sec with recovery := true, booted := none, booted1 := none }
        punel := { s.punel with enable := true, nodeId := s.startup.slotId.toNat % 8 + 1, phyAt := s.ticks, state := 2
                                privilege := leAt (partsOf ((carafeState (carafeOf s n)).filter (fun r => recCode r == Obj.fieldPrivilege)) 0x0010 1) 0 1 } }
    | some (_, trial) =>
      let s := setSec s (fun x => { x with trial := trial })
      enterStep (live.foldl (fun s k => match own k with | some b => setBooted s k (some b) | none => setRole s k .dead) s) 3

/-- The carafe of barista n prevails: the other receives the records it lacks, and each log the entries it lacks (R395). -/
def alignCarafes (s : State) (n : Nat) : State :=
  let a := carafeOf s n
  let b := receiveLog a (receiveRecords a (carafeOf s (1 - n)))
  setCarafe (setCarafe s n (receiveLog b a)) (1 - n) b

/-- Do all copies of a factory record that a start-up can read fail CHECK (R397)? -/
def itemLost (s : State) (live : List Nat) (i : FactoryItem) : Bool :=
  live.all (fun n => (carafeOf s n).lost.contains (0, i) && (carafeOf s n).lost.contains (1, i))

/-- The unit that a lost factory record describes fails: a port, a comb, the die of a stack. The identity describes no unit. -/
def failItem (s : State) : FactoryItem → State
  | .identity => s
  | .baseline p | .taps p => updPort s p.val (fun x => { x with failed := true })
  | .comb c => combOut s c.val
  | .model n => startFence s (siteKD n.val) 2

/-- The communication settings of this start-up (R407, R420). -/
def takeSettings (s : State) : State :=
  let on := decide (dval s Obj.fieldEnable = 1)
  let co := decide (dval s Obj.fieldCoordinator = 1)
  setPunel s (fun p => { p with
    enable := on, nodeCount := dval s Obj.fieldNodeCount, coordinator := co, phyAt := s.ticks, privilege := dval s Obj.fieldPrivilege
    nodeId := if co then 0 else s.startup.slotId.toNat % 8 + 1
    state := if on then 2 else 0 })

/-- Step 3 ends: the carafes are compared, the active role is settled and the state read back (R376, R394, R395). -/
def endRecovery (s : State) : State :=
  let live := [0, 1].filter (fun n => romLive s n && unitDone s n)
  let ok := live.filter (fun n => unitDone s (10 + n))
  match live, ok with
  | [], _ => startFail s 3
  | _, [] => startFail s 1
  | n :: _, m :: _ =>
    let win := if ok.length = 2 then prevails s.carafe0 s.carafe1 else m
    let s := if live.length = 2 then alignCarafes s win else s
    let lost := (live.flatMap (fun k => (carafeOf s k).lost.map (·.2))).dedup.filter (itemLost s live)
    let other := 1 - n
    let s := setRole (setRole { s with active := Fin.ofNat 2 n, named := Fin.ofNat 2 n } n .active) other (if live.contains other then .standby else .dead)
    let c := carafeOf s n
    let s := lost.foldl failItem (restoreAll s (carafeState c))
    let s := { s with
      journal := { next := c.lastCommit + 1, acked := c.lastCommit, periodicAt := s.ticks }
      mirror := { held := c.lastCommit }
      bars := [0, 1].map (fun k => (k, { beatAt := s.ticks, sentAt := s.ticks, testAt := s.ticks, countAt := s.ticks, epoch := s.roleEpoch, partnerLost := !live.contains (1 - k) })) }
    let s := setFaults s (fun f => { f with logCount := BitVec.ofNat 64 (match logHigh c with | some k => k + 1 | none => 0) })
    let s := setSec s (fun x => { x with
      updState := if x.trial then 6 else if x.slotA = 1 ∨ x.slotB = 1 then 4 else 0 })
    let s := (s.pow.stagesRetired).foldl (fun s p => queueClassC s 0x0048 p [1]) s
    let s := countTamper (takeSettings s)
    enterStep (ctrlSend s 0x7F 0x90 (siteBA n) [s.roleEpoch.zeroExtend 64]) 4

/-- 1 ms after its silence a barista resets its cores, repeats its boot ROM and firmware verification and recovers its carafe; its acknowledgement asks for
the records it lacks (R386). Whether its self-test passes is a free value (log 117); without that, or without a usable image, it stays silent until the
next start-up. -/
def doSilenceReset (s : State) (n : Nat) : State :=
  match (barOf s n).silentAt with
  | none => s
  | some t =>
    if roleOf s n ≠ .silent ∨ s.ticks < t + 1000000 then s
    else
      let pass := Config.freeBool s.freeCtr 0xE40
      let s := bumpFree { setBarOf s n { barOf s n with silentAt := none } with ctrlWin := tdel s.ctrlWin (siteBA n) }
      let k := ((bootedOf s n).map (·.val)).getD 0
      if !pass ∨ (!slotUsable s n k ∧ !slotUsable s n (1 - k)) then setRole s n .dead
      else
        let s := if slotUsable s n k then s else setBooted s n (some (Fin.ofNat 2 (1 - k)))
        let s := setCarafe s n (recoverCarafe (carafeOf s n))
        let s := setSec (setRole s n .remirroring) (fun x =>
          { x with latch := tset (fun _ => false) x.latch n x.meshBroken, sealed_ := tset (fun _ => false) x.sealed_ n (!x.meshBroken) })
        let s := { s with mirror := { held := (carafeOf s n).lastCommit } }
        slotItem s n 3 (ackBytes s n)

def execSilenceReset (n : Fin 2) (s : State) : Host.Outcome State Fault Refusal := .next (doSilenceReset s n.val)

/-- The partner of the active receives the image of a slot that was staged or armed without it (R434). -/
def copyStaged (s : State) (n : Nat) : State :=
  let k := inactiveSlot s
  if slotSt s k = 1 ∨ slotSt s k = 3 then setFwImage s n k (fwImage (carafeOf s (1 - n)) k) else s

/-- Re-mirroring completes once the barista's carafe stands at the active's committed SEQ and its log at the active's NUMBER: it loads the dictionary and
the pending set, receives a staged image, and is standby. Until then its acknowledgement asks again. -/
def doRemirrorDone (s : State) (n : Nat) : State :=
  if roleOf s n ≠ .remirroring ∨ !collectorUp s ∨ n = s.active.val then s
  else
    let a := s.active.val
    if (carafeOf s n).lastCommit ≠ (carafeOf s a).lastCommit ∨ logHigh (carafeOf s n) ≠ logHigh (carafeOf s a) then slotItem s n 3 (ackBytes s n)
    else
      let s := { copyStaged s n with mirror := { pending := s.journal.pending, held := s.journal.next - 1, cupK := s.faults.cup.k } }
      let s := setBarOf (setBarOf s n { barOf s n with beatAt := s.ticks }) a { barOf s a with partnerLost := false, beatAt := s.ticks }
      setJournal (setRole s n .standby) (fun j => { j with acked := j.next - 1 })

def execRemirrorDone (n : Fin 2) (s : State) : Host.Outcome State Fault Refusal := .next (doRemirrorDone s n.val)

/-- Is a die's report what its site and the image ask for? -/
def reportGood (s : State) (site : Nat) : Bool :=
  match reportOf s site with
  | some (k, _, l, _) => decide (k.toNat = kindCode site) &&
    decide ((match siteKind site with | some (.ba, n) => slotLevel s n (((bootedOf s n).map (·.val)).getD 0) | _ => minLevel s) ≤ l.toNat)
  | none => false

/-- Has start-up ended failed in this step? -/
def failedStart (s : State) : Bool := dval s Obj.moduleState == 2

/-- Dies of a domain that may be turned on at start-up. -/
def startDomain (s : State) (d : Nat) : Bool := domMayRise s d && domAt s d == .off

/-- The sites in the order in which their reports are judged: the baristas first, whose images set the level asked of the rest (R441). -/
def reportSites : List Nat := [siteBA 0, siteBA 1] ++ (List.range 100).filter (fun site => site != siteBA 0 && site != siteBA 1)

/-- Step 4 ends: reports are judged, levels settled, die limits applied; step 5 turns the domains on (R364, R440, R441). -/
def endReports (s : State) : State :=
  let s := reportSites.foldl (fun s site => if failedStart s ∨ reportGood s site then s else dieRefused s site) s
  if failedStart s then s
  else
    let levels := (List.range 100).filterMap (fun site => if fencedSite s site ∨ !reportGood s site then none else (reportOf s site).map (fun r => r.2.2.1.toNat))
    let s := dset s Obj.interfaceLevel (min Config.topLevel (levels.foldl min 255))
    let s := overNats (List.range 16) (fun n s => if tilesOut s n ≥ dval s Obj.cupDieLimit then startFence s (siteCD n) 3 else s) s
    enterStep (overNats (List.range 82) (fun d s => if startDomain s d then wakeFromOff s d else s) s) 5

/-- Sites whose dies run a self-test in step 6: the switched dies in service. -/
def testSites (s : State) : List Nat :=
  (List.range 76).filter (fun site => decide (8 ≤ site ∧ site < 74) && !fencedSite s site && !fencedSite s (if site < 24 then site + 16 else if site < 40 then site - 16 else site))

/-- Step 6 ends: a die not through its self-test is fenced with cause 2 (R442). -/
def endTests (s : State) : State :=
  let bad := (testSites s).filter (fun site => !unitDone s site || !(match siteDomain site with | some d => domAt s d == .on | none => true))
  enterStep (bad.foldl (fun s site => startFence s site 2) s) 7

/-- Step 8 begins: module time starts from the last COMMIT, comb domains come on, the active broadcasts (R439). -/
def enterCombs (s : State) : State :=
  let c := carafeOf s s.active.val
  let s := enterStep { s with now := c.lastTime, mt := { ({} : ModTime) with tree := s.active, lit := [s.active.val] } } 8
  let s := overNats (List.range 8) (fun b s => updBt s b (fun x => { x with timing := { x.timing with tree := s.active } })) s
  overNats (List.range 10) (fun k s =>
    if (combAt s k).state = 6 then combOut s k
    else if s.startup.combsOut.contains k then s
    else if startDomain s (domLC k) then wakeFromOff s (domLC k) else s) s

/-- Combs that light in step 8. -/
def litCombs (s : State) : List Nat := (List.range 10).filter (fun c => domUpish s (domLC c))

/-- Rows of a stack's records that this start-up fuses: the first 64 not yet fused (R194). -/
def toFuse (st : Stack) : List RepairRec :=
  (st.records.filter (fun r => r.state != .fused && !st.fuses.contains r.at_)).take 64

def repairRecord (s : State) (m : Nat) (r : DieRow) (state : Nat) (immediate : Bool) : State :=
  queueRecord s 0x0030 (repairKey m r) (toLe 1 state) immediate

/-- Step 9 begins: rings acquire from their baselines; records are reconciled with the fuses, and rows about to be fused are
recorded and committed first (R153, R194). -/
def enterTraining (s : State) : State :=
  let s := enterStep s 9
  let s := overNats (List.range 366) (fun p s => if portPowered s p ∧ !(portAt s p).failed then
      acquireRings s p else s) (setCal s (fun c => { c with phase := 0, train := [], ports := [] }))
  let s := overNats (List.range 24) (fun m s =>
    let st := stackAt s m
    let fresh := st.fuses.filter (fun r => !st.records.any (fun x => x.at_ == r))
    let done := st.records.filter (fun x => x.state != .fused && st.fuses.contains x.at_)
    let s := (fresh ++ done.map (·.at_)).foldl (fun s r => repairRecord s m r 2 false) s
    let old := st.records.map (fun x => if st.fuses.contains x.at_ then { x with state := .fused } else x)
    let s := setStack s m { st with records := old ++ fresh.map (fun r => { at_ := r, state := .fused, committed := false }) }
    (toFuse (stackAt s m)).foldl (fun s r => repairRecord s m r.at_ 1 true) s) s
  commitDue s

/-- A stack's training ends: rows are fused, the rest soft-repaired, every line written to zero (R179, R194). -/
def stackTrained (s : State) (m : Nat) (badDie : Option (Fin 18)) : State :=
  let st := stackAt s m
  let fuse := (toFuse st).map (·.at_)
  let recs := st.records.map (fun x => if fuse.contains x.at_ then { x with state := .fused } else x)
  let soft := recs.filter (fun x => x.state != .fused)
  let s := setStack s m { st with
    off := false, bytes := [], check := [], lineBuf := [], scrubPos := 0, scrubbed := false, passRows := [], rowHits := [], candidates := [], fuses := st.fuses ++ fuse, records := recs
    spareUsed := recs.map (fun x => spareOf x.at_), softSincePower := soft.length }
  let s := fuse.foldl (fun s r => repairRecord s m r 2 false) s
  match badDie, st.marked with
  | some d, none => queueRecord (raise (updStack s m (fun x => { x with marked := some d })) (siteMD m) 0x05 0x29 4 false d.val) 0x0031 m [BitVec.ofNat 8 d.val]
  | some d, some e => if d = e then s else updStack s m (stackOut 3)
  | none, _ => s

/-- Stacks that train in step 9. -/
def trainStacks (s : State) : List Nat := (List.range 24).filter (fun m => domAt s (domMD m) == .on && !(stackAt s m).failed && !fencedSite s (siteMD m))

/-- Rings still on their way to lock. -/
def openRings (s : State) : List Nat := (s.light.rings.filter (fun e => [1, 2, 3].contains e.2.state)).map (·.1)

/-- The surviving sets are mapped in increasing number (R197). -/
def mapSets (s : State) : State :=
  let bad := fun n => (setMembers n).any (fun m => (stackAt s m).failed || (stackAt s m).off)
  let go := [0, 1, 2, 3].foldl (fun (r : List (Option Nat) × Nat) n => if bad n then (r.1 ++ [none], r.2) else (r.1 ++ [some (r.2 * setSize)], r.2 + 1)) ([], 0)
  let lost := [0, 1, 2, 3].foldl (fun a n => if bad n then a + 2 ^ n else a) 0
  dset (dset { s with setBase := go.1, setsLost := BitVec.ofNat 4 lost } Obj.memSetsLost lost) Obj.memCapacity (go.2 * setSize)

/-- Step 9 ends: rings that are not locked enter failed, the steps of calibration that still run end without result, stacks that are not trained fail, and the memory map is settled. -/
def endTraining (s : State) : State :=
  let s := setCal ((openRings s).foldl (fun s k => ringFailed s (k / 72) (decide (k % 72 ≥ 36)) (k % 36)) s) (fun c => { c with phase := 2, train := [], ports := [] })
  let s := ((List.range 24).filter (fun m => (stackAt s m).off)).foldl (fun s m => updStack s m (stackOut 2)) s
  enterStep (mapSets s) 10

/-- A line that LANE_EXCLUDE_CLEAR named and that passed leaves its sets (R443). -/
def clearLines (s : State) (p : Nat) : State :=
  let v := portAt s p
  if !v.clearAtStart then s
  else
    let keep := fun (rx : Bool) (set : BitVec 36) => (List.range 36).foldl (fun (b : BitVec 36) k =>
      let key := ringKey p rx k
      if set.getLsbD k ∧ (s.startup.badLines.contains key ∨ (ringAt_ s key).state ≠ 4 ∨ (if rx then v.jointRx else v.jointTx).getLsbD k) then b ||| BitVec.ofNat 36 (2 ^ k) else b) 0
    let s := setPort s p { v with txSet := keep false v.txSet, rxSet := keep true v.rxSet, clearAtStart := false }
    excludeRecord (excludeRecord s p false) p true

/-- Step 10 ends: lines return, and a port short of lines stays failed (R443). -/
def endQualification (s : State) : State :=
  let s := overNats (List.range 366) (fun p s => clearLines s p) s
  let short := (List.range 350).filter (fun p => (portAt s p).txSet.toNat ≠ 0 ∧ (List.range 350).any (fun q => pairShort s p q && pairCounts s p q))
  let short := short ++ (List.range 350).filter (fun q => (portAt s q).rxSet.toNat ≠ 0 ∧ (List.range 350).any (fun p => pairShort s p q && pairCounts s q p))
  let s := short.foldl (fun s p => updPort s p (fun x => { x with failed := true })) s
  let mode := dval s Obj.grinderStartMode
  enterStep (setStartup s (fun x => { x with grinder := if mode = 0 then 0 else 1, grinderMode := mode })) 11

/-- Step 12 begins: the house blend starts at a boundary that is named. -/
def enterBlend (s : State) : State :=
  let s := enterStep (setStartup s (fun x => { x with grinder := if x.grinder = 1 then 0 else x.grinder })) 12
  schedule s (boundaryAfter s 1024) .blendStart

/-- At that boundary every port takes the blend in the written mode. -/
def applyBlendStart (s : State) : State :=
  if s.startup.step ≠ 12 then s
  else setLight { s with blend := dval s Obj.houseBlendMode } (fun l => { l with cal := { l.cal with blendRuns := true } })

/-- The first condition of R449 that is not met, by its START_FAILURE code. -/
def readyCause (s : State) : Nat :=
  if !collectorUp s then 3
  else if !(List.range 16).any (fun n => domAt s (domCD n) == .on && !fencedSite s (siteCD n)) then 4
  else if s.setBase.all (·.isNone) then 5
  else if !(List.range 2).any (hostDieUp s) then 6
  else 0

/-- Ready is judged (R449): cupping starts, host ports and external links begin their bring-up. -/
def judgeReady (s : State) : State :=
  let c := readyCause s
  if c ≠ 0 ∨ !s.light.cal.blendRuns then startFail s c
  else
    let ms := (s.ticks - s.startup.began) / 1000000
    let s := dset (dset (dset s Obj.moduleState 1) Obj.readyTime s.now.toNat) Obj.startDuration ms
    let s := setStartup s (fun x => { x with step := 0, ended := 13, finished := [], readyTick := s.ticks })
    let s := setCup s (fun c => { c with ended := [(s.now.toNat, BitVec.ofNat 64 (dval s Obj.jobsEnded))] })
    let s := { s with fab := { s.fab with syncDie := ((List.range 8).find? (fdUp s)).getD 0 } }
    let s := overNats [0, 1] (fun n s => if hostDieUp s n then beginLink s n else s) s
    overNats (List.range 16) (fun l s => if linkMay s l then startTraining s l else s) s

/-- Have all units of the running step finished? -/
def stepDone (s : State) : Bool :=
  match s.startup.step with
  | 1 => unitDone s 0 && (match s.pow.good with | some t => decide (s.ticks ≥ t + 100000000) | none => false)
  | 2 => unitDone s 0 && unitDone s 1
  | 3 => [0, 1].all (fun n => !romLive s n || unitDone s n)
  | 4 => (List.range 100).all (fun site => (reportOf s site).isSome)
  | 5 => (List.range 82).all (fun d => match domAt s d with | .turningOn _ => false | _ => true)
  | 6 => (testSites s).all (unitDone s)
  | 7 => unitDone s 0 && !s.journal.pending.any (fun r => r.type == 0x0038)
  | 8 => (litCombs s).all (unitDone s)
  | 9 => s.light.cal.phase == 2 && (trainStacks s).all (unitDone s) && (openRings s).isEmpty
  | 10 => decide (s.ticks ≥ s.startup.stepAt + 3000000000)
  | 11 => decide (s.startup.grinder ≠ 1)
  | 12 => s.light.cal.blendRuns
  | _ => false

/-- The running step ends; units that have not finished take their outcomes (R442). -/
def endStep (s : State) : State :=
  match s.startup.step with
  | 1 => enterRom s s.startup.slotId s.startup.began s.ticks
  | 2 => endRom ([0, 1].foldl (fun s n => if unitDone s n then s else setRole s n .dead) s)
  | 3 => endRecovery ([0, 1].foldl (fun s n => if unitDone s n then s else setRole s n .dead) s)
  | 4 => endReports s
  | 5 => enterStep s 6
  | 6 => endTests s
  | 7 => enterCombs s
  | 8 => enterTraining ((List.range 10).foldl (fun s c => if (litCombs s).contains c ∧ !unitDone s c then combOut s c else s) s)
  | 9 => endTraining s
  | 10 => endQualification s
  | 11 => enterBlend s
  | 12 => judgeReady s
  | _ => s

/-! Vertical joints (R444, R445). -/

/-- The BUMP_SPARES record of a group. -/
def jointRecord (s : State) (key : Nat) (g : JointGroup) : State :=
  queueRecord s 0x0038 key (toLe 1 g.spared.length ++ g.spared.flatMap (toLe 1)) true

/-- A line that enters a set for its joints and no other reason: no record holds it (R445; DESIGN CHOICE, log 86). -/
def jointLine (s : State) (p : Nat) (rx : Bool) (line : Nat) : State :=
  let bit : BitVec 36 := BitVec.ofNat 36 (2 ^ line)
  updPort s p (fun v =>
    if (if rx then v.rxSet else v.txSet) &&& bit ≠ 0 then v
    else if rx then { v with jointRx := v.jointRx ||| bit } else { v with jointTx := v.jointTx ||| bit })

/-- A group beyond its spares (R445 Table 3). -/
def jointOutcome (s : State) (site : Nat) (carries : JointCarries) (fence : State → State) : State :=
  match carries with
  | .lines p rx mask => overNats (List.range 36) (fun k s => if mask.getLsbD k then applyExclude (jointLine s p.val rx k) p.val rx k else s) s
  | .deepData t => updTile s (64 * (site - 24) + t.val) (fun x => { x with half := true })
  | .deepBank t b => updTile s (64 * (site - 24) + t.val) (fun x => { x with banksOut := x.banksOut ||| BitVec.ofNat 16 (2 ^ b.val) })
  | .control => fence s

/-- A deep-store group belongs to a cache die. -/
def jointFits (site : Nat) (carries : JointCarries) : Bool :=
  match carries with
  | .deepData _ | .deepBank _ _ => decide (24 ≤ site ∧ site < 40)
  | _ => true

def jointAt (s : State) (key : Nat) : JointGroup := tget (fun _ => {}) s.startup.joints key
def setJoint (s : State) (key : Nat) (g : JointGroup) : State :=
  setStartup s (fun x => { x with joints := tset (fun _ => {}) x.joints key g })

/-- A joint fails: spared, or beyond its group's two spares. -/
def jointFails (s : State) (site group joint : Nat) (carries : JointCarries) (fence : State → State) : State :=
  let key := jointKey site group
  let g := jointAt s key
  if g.spared.contains joint ∨ !jointFits site carries then s
  else if g.spared.length < 2 then
    let g := { g with spared := g.spared ++ [joint] }
    let s := setJoint s key g
    -- start-up records a changed group once, when its step ends (R444)
    if s.startup.step = 7 then setStartup s (fun x => { x with jointsNew := addPos x.jointsNew key }) else jointRecord s key g
  else if g.beyond then s
  else jointOutcome (setJoint s key { g with beyond := true }) site carries fence

/-- The interconnect test is over: one record for each changed group (R444). -/
def jointsTested (s : State) : State :=
  let s := s.startup.jointsNew.foldl (fun s key => jointRecord s key (jointAt s key)) s
  commitDue (finishUnit (setStartup s (fun x => { x with jointsNew := [] })) 0)

/-- A die is fenced in service because of its joints (R445): cause 8, START_FENCE raised. -/
def jointFence (site : Nat) (s : State) : State :=
  let s := raise s site 0x00 0x58 5 false 8
  let s := match fenceHits s site none with | some (k, u) => jobLoss s k u | none => s
  fenceDie s site 8 false

/-- Do the joints that fail at a boundary take a group beyond its spares? -/
def jointBeyond (s : State) (due : List Change) (site group : Nat) : Bool :=
  let g := jointAt s (jointKey site group)
  !g.beyond && decide (2 < (due.foldl (fun l c => match c with | .joint a b j _ => if a = site ∧ b = group then addPos l j else l | _ => l) g.spared).length)

/-- A joint fails in service: its spare, or its group's outcome, is named for the first boundary at least 700 ns ahead. -/
def doJointFail (s : State) (site group joint : Nat) (carries : JointCarries) : State :=
  if dval s Obj.moduleState ≠ 1 ∨ !jointFits site carries then s
  else schedule s (boundaryAfter s 700) (.joint site group joint carries)

/-- At the boundary it takes effect; the new map is recorded. -/
def applyJoint (s : State) (site group joint : Nat) (carries : JointCarries) : State :=
  commitDue (jointFails s site group joint carries (jointFence site))

/-- JOINT_FAIL (R445). -/
def execJointFail (site : Fin 100) (group : BitVec 16) (carries : JointCarries) (joint : Fin 34) (s : State) : Host.Outcome State Fault Refusal :=
  .next (doJointFail s site.val group.toNat joint.val carries)

/-- JOINT_SPARES of a die (R452). -/
def jointSparesWord (s : State) (site : Nat) : Nat :=
  let gs := s.startup.joints.filter (fun e => e.1 / 65536 == site)
  (gs.map (fun e => e.2.spared.length)).sum % 65536 + (gs.filter (fun e => e.2.beyond)).length * 65536

/-- JOINT_LOSS of a die (R452). -/
def jointLossBytes (s : State) (site : Nat) : List Byte :=
  if 24 ≤ site ∧ site < 40 then (List.range 64).flatMap (fun t =>
    let x := tileAt s (64 * (site - 24) + t)
    toLe 4 (x.banksOut.toNat + 65536 * b2n x.half))
  else toLe 4 0

/-! START_UP. -/

/-- A boot ROM's results: its own test, the tamper sources, the key service (R424, R428, R439). -/
def romResult (s : State) (n : Nat) (pass plate : Bool) : State :=
  if plate then startFail s 7
  else
    let s := finishUnit s n
    if !pass then setRole s n .dead
    else
      let broken := s.sec.meshBroken
      let s := setSec s (fun x => { x with latch := tset (fun _ => false) x.latch n broken, sealed_ := tset (fun _ => false) x.sealed_ n (!broken) })
      if broken ∧ !s.sec.meshSeen then
        dset (setSec s (fun x => { x with meshSeen := true, owed := x.owed + 1, lastSource := 1 })) Obj.tamperLast s.now.toNat
      else s

/-- One event of start-up, in the step it belongs to. -/
def startEvent (s : State) (e : StartEvent) : State :=
  let n := s.startup.step
  match e with
  | .input slotId =>
    if n = 0 ∧ dval s Obj.moduleState = 0 ∧ !s.startup.inReset ∧ s.pow.good.isSome then
      { s with startup := { ({} : Startup) with step := 1, began := s.ticks, stepAt := s.ticks, slotId := slotId }
               pow := { s.pow with failed := false } }
    else s
  | .stages bad =>
    if n = 1 then setPow (finishUnit s 0) (fun w => { w with stagesFailed := [], stagesRetired := bad.foldl (fun l p => addPos l p.val) w.stagesRetired }) else s
  | .rom b pass plate => if n = 2 ∧ !unitDone s b.val then romResult s b.val pass plate else s
  | .carafe b erased lost =>
    if n = 3 ∧ romLive s b.val ∧ !unitDone s b.val then
      let c := recoverCarafe { eraseUnits (carafeOf s b.val) (erased.map (·.toNat)) with lost := lost }
      let s := finishUnit (setCarafe s b.val c) b.val
      if (newestGen c).isSome then finishUnit s (10 + b.val) else s
    else s
  | .report site kind rev level id =>
    if n = 4 then setStartup s (fun x => { x with reports := tset (fun _ => none) x.reports site.val (some (kind, rev, level, id)) }) else s
  | .selfTest site pass =>
    if n = 6 ∧ (testSites s).contains site.val then (if pass then finishUnit s site.val else startFence s site.val 2) else s
  | .joints site group carries failed =>
    if n = 7 then failed.foldl (fun s j => jointFails s site.val group.toNat j.val carries (fun s => startFence s site.val 8)) s else s
  | .jointsTested => if n = 7 then jointsTested s else s
  | .comb c locked => if n = 8 ∧ (litCombs s).contains c.val then (if locked then finishUnit (setDom s (domLC c.val) .on) c.val else combOut (finishUnit s c.val) c.val) else s
  | .stack m trained badDie =>
    if n = 9 ∧ (trainStacks s).contains m.val ∧ !unitDone s m.val ∧ !s.journal.pending.any (fun r => r.type == 0x0030 && leAt r.data 0 1 == 1) then
      finishUnit (if trained then stackTrained s m.val badDie else updStack s m.val (stackOut 2)) m.val
    else s
  | .line p rx line uncorrected corrected =>
    if n = 10 ∧ (uncorrected ∨ corrected.toNat > dval s Obj.laneErrLimit) then
      let s := if uncorrected ∨ corrected.toNat > 0 then setStartup s (fun x => { x with badLines := addPos x.badLines (ringKey p.val rx line.val) }) else s
      applyExclude s p.val rx line.val
    else if n = 10 ∧ corrected.toNat > 0 then setStartup s (fun x => { x with badLines := addPos x.badLines (ringKey p.val rx line.val) })
    else s
  | .ended => if stepDone s then endStep s else s

/-- START_UP (R439). -/
def execStartUp (e : StartEvent) (s : State) : Host.Outcome State Fault Refusal := .next (startEvent s e)

/-- STARTUP_STEP_LIMIT: the running step has reached its limit (R442). Step 1 has no end without the input's 100 ms. -/
def doStepLimit (s : State) : State :=
  if s.startup.step ≤ 1 ∨ s.ticks < s.startup.stepAt + stepLimit s s.startup.step then s else endStep s

def execStartupStepLimit (s : State) : Host.Outcome State Fault Refusal := .next (doStepLimit s)

/-! RESET_N (R460). -/

/-- RESET_N has been low for some time: 4 to 6 microseconds may reset or not. -/
def doResetN (s : State) (held : Nat) : State :=
  let free := decide (4000 ≤ held ∧ held < 6000)
  let hit := decide (6000 ≤ held) || (free && Config.freeBool s.freeCtr 0x10A0)
  let s' := if free then bumpFree s else s
  if s.pow.failed ∨ s.startup.inReset ∨ !powered s ∨ !hit then s'
  else
    let s := darken (commitBoth s' 2)
    let s := setFaults s (fun f => { f with
      alert := .released, alertByPower := false, busyUntil := 0, internal := [], repeaters := [], kept := [], recovery := none, waitingRec := [], forcedMsgs := [] })
    dset { s with role0 := .silent, role1 := .silent, startup := { ({} : Startup) with inReset := true, resetLow := s.ticks } } Obj.moduleState 0

def execResetN (held : BitVec 32) (s : State) : Host.Outcome State Fault Refusal := .next (doResetN s held.toNat)

/-- At its release start-up begins at step 2, 5 ms after assertion or at release, whichever is later. -/
def execResetRelease (slotId : BitVec 6) (s : State) : Host.Outcome State Fault Refusal :=
  .next (if s.startup.inReset then
    let at_ := max s.ticks (s.startup.resetLow + 5000000)
    enterRom s slotId at_ at_ else s)

/-! The grinder (R446 to R448). -/

/-- GRINDER_RUN: refused while a job is beyond QUEUED. -/
def doGrinderRun (s : State) (v : Nat) : Bool × State :=
  if s.job.isSome ∨ (v ≠ 1 ∧ v ≠ 2) ∨ s.startup.grinder = 1 then (false, s)
  else (true, setStartup s (fun x => { x with grinder := 1, grinderMode := v }))

def execGrinderRun (v : BitVec 8) (s : State) : Host.Outcome State Fault Refusal := .next (doGrinderRun s v.toNat).2

/-- A destructive march leaves every store zero, its check valid, no line marked. -/
def marchClear (s : State) : State :=
  overNats (List.range 1024) (fun k s =>
    if domAt s (domKD (k / 64)) == .on then
      let s := updTile s k (fun x => { x with deep := { ({} : Store) with cleared := true } })
      if domAt s (domCD (k / 64)) == .on then updTile s k (fun x => { x with store := { ({} : Store) with cleared := true } }) else s
    else s) s

/-- Failed lines are counted, and fence their tile, which TILE_CHECK names, or their die (R447). -/
def marchFail (s : State) (f : MarchFail) : State :=
  match f with
  | .store cd t deep lines => raise (bump s Obj.grinderFailures lines.toNat) (siteCD cd.val) 0x01 0x02 5 false (t.val * 2 ^ 34 + (if deep then 0xF1 else 0xF0))
  | .buffer site lines =>
    let s := bump s Obj.grinderFailures lines.toNat
    if s.startup.step ≠ 0 then startFence s site.val 2
    else if fencedSite s site.val then s else sendFence s site.val none 2 (boundaryAfter s 700)

/-- The march ends. -/
def doGrinderDone (s : State) (fails : List MarchFail) : State :=
  if s.startup.grinder ≠ 1 then s
  else
    let s := if s.startup.grinderMode = 1 then marchClear s else s
    fails.foldl marchFail (setStartup s (fun x => { x with grinder := if fails.isEmpty then 2 else 3 }))

def execGrinderDone (fails : List MarchFail) (s : State) : Host.Outcome State Fault Refusal := .next (doGrinderDone s fails)

end Sys2Proof.Machine
end

