-- ==== Sys2Proof/Machine/Dict.lean ====
section
/-! DEFINITION. Reading the dictionary: the value of every object as the state gives it (R401, R404, and the object tables of
chapters 3 to 17). -/
namespace Sys2Proof.Machine

/-- A value read: a number of the object's size, or bytes. -/
inductive ObjVal where
  | num (n : Nat)
  | bytes (bs : List Byte)
deriving DecidableEq, Repr

/-- A value the hardware measures and the model does not compute: a free value of the object, one for each tick (R225). -/
def measured (s : State) (code : Nat) : ObjVal := .num (Config.freeWord s.ticks code).toNat

/-- A field of a die that has not reported: free, and the same at every read (R225). -/
def unreported (code : Nat) : ObjVal := .num (Config.freeWord 0 code).toNat

/-- A temperature in 0.1 degrees as I16; -32,768 where there is none. -/
def tempWord (t : Option Int) : ObjVal := .num (ofInt 16 (t.getD (-32768)))

/-! Identity and communication (R419, R420, R452). -/

/-- DICT_LIST (R420). -/
def dictListBytes : List Byte :=
  dictRows.flatMap (fun e =>
    let last := e.code + e.step * (e.count - 1)
    toLe 2 (e.code / 256) ++ toLe 2 (last / 256) ++ toLe 1 (e.code % 256) ++ toLe 1 (last % 256) ++ toLe 1 e.type ++ toLe 1 (e.access + 4 * e.priv))

/-- Bytes of a value kept in the carafe by the factory. -/
def factoryBytes (code n : Nat) : List Byte := (List.range n).map (Config.factoryByte code)

/-- ORDERING_CODE as the factory wrote it: its length, at most 255, then its bytes. -/
def orderingCode : List Byte :=
  factoryBytes Obj.orderingCode (Config.factoryByte Obj.orderingCode 255).toNat

def readIdentity (s : State) (code : Nat) : Option ObjVal :=
  match code with
  | 0x100001 => some (.bytes (ascii "Lelaino"))
  | 0x100002 => some (.bytes (ascii "Baszia BZ3"))
  | 0x100003 => some (.bytes orderingCode)
  | 0x100004 => some (.bytes serialBytes)
  | 0x100005 => some (.bytes (factoryBytes code 2))
  | 0x100006 => some (.bytes (factoryBytes code 8))
  | 0x100007 => some (.num macBase)
  | 0x100008 => some (.num s.startup.slotId.toNat)
  | 0x101001 => some (.num (leAt (runningImage s) 8 4))
  | 0x101002 => some (.bytes (factoryBytes code 4))
  | 0x101006 => some (.num s.startup.step)
  | 0x110003 => some (.num s.punel.nodeId)
  | 0x110006 => some (.num s.punel.state)
  | 0x120001 => some (.bytes dictListBytes)
  | 0x120002 => some (.num s.punel.clients.length)
  | _ => none

/-- 0x1400 + s: the die at site s. A die that has not reported reads as free values. -/
def readDie (s : State) (site sub : Nat) : Option ObjVal :=
  let r := reportOf s site
  let code := Obj.dieKind - 1 + 256 * site + sub
  match sub with
  | 1 => some (match r with | some (k, _) => .num k.toNat | none => unreported code)
  | 2 => some (match r with | some (_, v, _) => .num v.toNat | none => unreported code)
  | 3 => some (match r with | some (_, _, l, _) => .num l.toNat | none => unreported code)
  | 4 => some (match r with | some (_, _, _, i) => .num i.toNat | none => unreported code)
  | 5 => some (.num (jointSparesWord s site))
  | 6 => some (.bytes (jointLossBytes s site))
  | _ => none

/-! Power and heat (R334, R346). -/

def readPower (s : State) (code : Nat) : Option ObjVal :=
  match code with
  | 0x210001 => some (.num s.pow.input)
  | 0x210002 => some (.num s.pow.power)
  | 0x210003 => some (.num s.pow.level)
  | 0x210004 => some (.num (shedCauseOf s))
  | 0x210005 => some (.num (s.pow.inputMin.getD s.pow.input))
  | 0x210006 => some (.num s.pow.bus)
  | 0x210007 => some (.num ((stagesInService s).foldl (fun n i => n + 2 ^ i) 0))
  | 0x312001 => some (.num (ofInt 16 s.coolant.inlet))
  | 0x312002 => some (.num (ofInt 16 s.coolant.outlet))
  | 0x312003 => some (.num s.coolant.flow)
  | _ => none

/-- 0x2400 + d. -/
def readDomain (s : State) (d sub : Nat) : Option ObjVal :=
  match sub with
  | 1 => some (.num (domainStateWord s d))
  | 2 => some (measured s (0x240000 + 256 * d + 2))
  | _ => none

/-- 0x2600 + s. -/
def readStage (s : State) (n sub : Nat) : Option ObjVal :=
  match sub with
  | 1 => some (.num (if s.pow.stagesRetired.contains n then 2 else if s.pow.stagesFailed.contains n then 1 else 0))
  | 2 => some (measured s (0x260000 + 256 * n + 2))
  | _ => none

/-- 0x3400 + s. -/
def readTherm (s : State) (site sub : Nat) : Option ObjVal :=
  let t := thermAt s site
  match sub with
  | 1 => some (tempWord t.reading)
  | 2 => some (tempWord t.rate)
  | 3 => some (.num (thermPauseOf s site))
  | 4 => some (.num t.sensor)
  | 5 => some (tempWord t.high)
  | 6 => some (tempWord t.value)
  | 7 => some (tempWord t.estimate)
  | 8 => some (.bytes (if 24 ≤ site ∧ site < 40 then kdModelBytes (site - 24) else List.replicate 12 0))
  | _ => none

/-! Light, combs and rings (R135, R163). -/

def shadowStateWord : ShadowState → Nat
  | .empty => 0 | .loading => 1 | .accepted => 2 | .rejected => 3 | .armed => 4

def activeGenOf (b : BaseTile) : Nat := match b.active with | some t => t.gen.toNat | none => 0

/-- What all base tiles whose ports R128 has not failed hold in common; `d` when they differ or there is none (R128, R135). -/
def common (s : State) (d : Nat) (f : BaseTile → Nat) : Nat :=
  match (soundTiles s).map (fun b => f (btAt s b)) with
  | [] => d
  | v :: vs => if vs.all (· == v) then v else d

/-- SHADOW_STATE: the common one; where the tiles differ, rejected when any rejected (R124), else loading. DESIGN CHOICE (log 107). -/
def shadowStateOf (s : State) : Nat :=
  let vs := (soundTiles s).map (fun b => shadowStateWord (btAt s b).shadow.state)
  common s (if vs.contains 3 then 3 else 1) (fun b => shadowStateWord b.shadow.state)

def readLight (s : State) (code : Nat) : Option ObjVal :=
  match code with
  | 0x411001 => some (.num (common s 0 activeGenOf))
  | 0x411002 => some (.num (common s 0 (·.shadow.gen.toNat)))
  | 0x411003 => some (.num (shadowStateOf s))
  | 0x411004 => some (.num (common s 0x7F (·.shadow.owner.toNat)))
  | 0x411007 => some (.bytes ((List.range 8).flatMap (fun n => toLe 1 (activeGenOf (btAt s n)) ++ toLe 1 (btAt s n).shadow.gen.toNat)))
  | 0x420003 => some (.num (calStateWord s))
  | _ => none

/-- CELL_GROUPS of a base tile: the factory fixes which ports share a group. -/
def cellGroupsBytes (s : State) (bt : Nat) : List Byte :=
  (List.range 512).flatMap (fun g =>
    let ps := attachedPorts bt g
    toLe 2 g ++ toLe 1 (b2n ((btAt s bt).spareUsed.contains g)) ++ toLe 1 ps.length ++
      (List.range 8).flatMap (fun i => toLe 2 (ps.getD i 0xFFFF)) ++ List.replicate 4 0)

/-- CAL_BASELINE of a port: the factory's values in the layout of CAL_LIVE (R154 Table 6). -/
def calBaselineBytes (p : Nat) : List Byte :=
  let body := (List.range 36).flatMap (fun k =>
    let t := ringKey p false k
    let r := ringKey p true k
    toLe 2 (Config.ringBase t 0) ++ toLe 2 (Config.ringBase r 0) ++ toLe 1 (Config.ringBase t 1) ++
      toLe 1 (if k = 32 then 0 else Config.ringBase r 2 % 64) ++ toLe 1 (if k = 32 then 0 else Config.ringBase r 3 % 64) ++ toLe 1 3)
  [1, 0] ++ toLe 2 p ++ toLe 4 (crc32c body) ++ toLe 8 0 ++ body

/-- 0x4400 + p. -/
def readPort (s : State) (p sub : Nat) : Option ObjVal :=
  let v := portAt s p
  match sub with
  | 1 => some (.num (portState s p))
  | 2 => some (.num v.txSet.toNat)
  | 3 => some (.num v.rxSet.toNat)
  | 4 => some (.num v.corrected.toNat)
  | 5 => some (.num v.uncorr.toNat)
  | 6 => some (.bytes ((List.range 36).flatMap (fun k => toLe 4 (tget (fun _ => 0) v.lineErr k : BitVec 32).toNat)))
  | 7 => some (.bytes (calLiveBytes s p))
  | 8 => some (.bytes (calBaselineBytes p))
  | 9 => some (.bytes ((List.range 72).map (fun i => BitVec.ofNat 8 (ringAt_ s (72 * p + i)).state)))
  | _ => none

/-- 0x4600 + n. -/
def readComb (s : State) (n sub : Nat) : Option ObjVal :=
  let c := combAt s n
  match sub with
  | 1 => some (.num c.state)
  | 2 => some (.num (c.serves.getD 0xFF))
  | 3 => some (.num (driveNow s n))
  | 4 => some (.num c.fade)
  | 5 => some (.bytes ((List.range 36).flatMap (fun k => toLe 2 (match c.power[k]? with
      | some v => permille v (Config.tapBase (combLowKey n k)) | none => (Config.freeWord 0 (0x460005 + 256 * n + 65536 * 256 * k)).toNat))))
  | 6 => some (.num (((List.range 8).map (fun b => wearOf s (3000 + 8 * n + b))).sum / 3600))
  | _ => none

/-! Memory and jobs (R198, R227). -/

/-- 0x5400 + n. -/
def readStack (s : State) (n sub : Nat) : Option ObjVal :=
  let st := stackAt s n
  match sub with
  | 1 => some (.num (if st.failed then 1 else if st.off then 4 else if st.selfRefresh then 3 else if setLostNow s (setOf n) then 2 else 0))
  | 2 => some (.num (match st.marked with | some d => d.val | none => 0xFF))
  | 3 => some (.bytes ((List.range 18).flatMap (fun d => toLe 4 (tget (fun _ => 0) st.dieCorrected d : BitVec 32).toNat)))
  | 4 => some (.num st.uncorrectable.toNat)
  | 5 => some (.bytes (toLe 2 st.softSincePower ++ toLe 2 st.fuses.length ++
      toLe 2 (st.records.filter (fun r => r.state != .fused)).length ++ toLe 2 (1152 - st.spareUsed.length)))
  | 6 => some (.num st.scrubPos)
  | _ => none

def jobPhaseWord : JobPhase → Nat
  | .checking => 1 | .loading => 2 | .starting => 3 | .running => 4 | .stopping => 5 | .draining => 6

def readJob (s : State) (code : Nat) : Option ObjVal :=
  match code with
  | 0x511003 => some (.bytes ((List.range 4).flatMap (fun n =>
      toLe 8 (match setBaseOf s n with | some b => if setLostNow s n then 2 ^ 64 - 1 else b | none => 2 ^ 64 - 1))))
  | 0x710001 => some (.num (match s.job with | some j => jobPhaseWord j.phase | none => 0))
  | 0x710002 => some (.num (match s.job with | some j => j.ring | none => 0xFF))
  | 0x710003 => some (.num (match s.job with
      | some j => if j.phase = .starting ∨ j.phase = .running ∨ j.phase = .draining ∨ j.phase = .stopping then j.variant.getD 0xFF else 0xFF
      | none => 0xFF))
  | 0x710004 => some (.num (match s.job with | some j => j.restarts | none => 0))
  | 0x732002 => some (.num (segmentsDown s))
  | 0x733004 => some (.num s.startup.grinder)
  | _ => none

/-! The fabric, host ports and time (R275, R295, R316). -/

def regionBytes (e : FabRegion) : List Byte :=
  toLe 8 e.base ++ toLe 1 e.sizeLog2 ++ toLe 1 e.perm.toNat ++ toLe 1 e.state ++ [0] ++ toLe 4 e.key.toNat ++ List.replicate 16 0

def windowBytes (e : WinE) : List Byte :=
  toLe 8 e.base ++ toLe 8 e.size ++ toLe 1 e.perm.toNat ++ toLe 1 (b2n e.on) ++ [0, 0] ++ toLe 4 e.key.toNat ++ List.replicate 8 0

/-- A queue pair's entry as written, with the state it is in now. -/
def qpBytes (v : QpSt) : List Byte := BitVec.ofNat 8 v.state :: slice v.entry 1 63

def readFabric (s : State) (code : Nat) : Option ObjVal :=
  match code with
  | 0x611005 => some (.num ((List.range 8).foldl (fun w n => w + tget (fun _ => 0) s.fab.throttle n * 4 ^ n) 0))
  | 0x630001 => some (.bytes (routeBytes s.fab.shadow))
  | 0x630002 => some (.bytes (routeBytes s.fab.active))
  | 0x630004 => some (.num (routeState s))
  | 0x632001 => some (.bytes ((List.range 1024).flatMap (fun g => toLe 8 (barAt s g).entry.toNat)))
  | 0x632002 => some (.bytes ((List.range 1024).flatMap (fun g => toLe 4 (barAt s g).epoch)))
  | 0x633001 => some (.bytes ((List.range 4096).flatMap (fun f =>
      let v := fabFlagAt s f
      toLe 2 v.home ++ toLe 1 v.notify ++ toLe 1 (b2n v.notifyOn) ++ toLe 4 0 ++ toLe 8 v.initial.toNat)))
  | _ => none

/-- 0x6400 + l. -/
def readLink (s : State) (l sub : Nat) : Option ObjVal :=
  let v := linkAt s l
  match sub with
  | 1 => some (.num (match v.mode with | .down => 0 | .training => 1 | .up => 2))
  | 2 => some (.num (match v.neighbour with
      | some (m, f, k) => if v.mode = .up then m + 4096 * f + 32768 * k else 0xFFFFFFFF
      | none => 0xFFFFFFFF))
  | _ => none

/-- 0xD400 + n. -/
def readHostPort (s : State) (n sub : Nat) : Option ObjVal :=
  let v := hostPortAt s n
  match sub with
  | 2 => some (.num v.link)
  | 3 => some (.num v.speed)
  | 4 => some (.num (portMac n))
  | 8 => some (.num v.ptp)
  | _ => none

def readTime (s : State) (code : Nat) : Option ObjVal :=
  let m := s.mt
  match code with
  | 0xB10001 => some (.num m.state)
  | 0xB10002 => some (.num m.source.kind)
  | 0xB10003 => some (.num (if m.source.kind = 3 then m.source.link else 0xFF))
  | 0xB10004 => some (.num m.source.hops)
  | 0xB10005 => some (.num (if m.source.cls = 2 then m.source.root else 0xFFFF))
  | 0xB10006 => some (.num (ofInt 32 (max (-2147483648) (min 2147483647 m.offset))))
  | 0xB10007 => some (.num (ofInt 32 m.freq))
  | 0xB10008 => some (.num m.tree.val)
  | _ => none

/-! Faults, the baristas and the carafe, security (R374, R400, R438). -/

def readFault (s : State) (c : Client) (code : Nat) : Option ObjVal :=
  match code with
  | 0x810004 => some (.num (alertStateWord s))
  | 0x820001 => some (.num s.faults.logCount.toNat)
  | 0x820002 => some (.num (tget (fun _ => 0) c.sel code).toNat)
  | 0x820003 => some (.bytes (logBytes s (tget (fun _ => 0) c.sel 0x820002).toNat))
  | 0x832001 => some (.bytes (cupReportBytes s))
  | _ => none

/-- 0x8500 + n. -/
def readTiles (s : State) (n sub : Nat) : Option ObjVal :=
  match sub with
  | 1 => some (.bytes ((List.range 64).map (fun t => BitVec.ofNat 8 (tileStateWord s (64 * n + t)))))
  | 2 => some (.bytes ((List.range 64).map (fun t => BitVec.ofNat 8 (lifeFences s (64 * n + t)))))
  | _ => none

def readBarista (s : State) (code : Nat) : Option ObjVal :=
  let c := carafeOf s s.active.val
  match code with
  | 0xC10001 => some (.num (activeSite s))
  | 0xC10002 => some (.num s.roleEpoch.toNat)
  | 0xC10003 => some (.num s.ctrlSeq.toNat)
  | 0xC11001 => some (.num (roleWord s.role0))
  | 0xC11101 => some (.num (roleWord s.role1))
  | 0xC11003 => some (.num (barOf s 0).cause)
  | 0xC11103 => some (.num (barOf s 1).cause)
  | 0xC12001 => some (.num c.lastCommit.toNat)
  | 0xC12002 => some (.num c.lastTime.toNat)
  | 0xC12003 => some (.num c.gen.toNat)
  | 0xC12004 => some (.num (journalFill c))
  | 0xC12005 => some (.num s.journal.pending.length)
  | 0xC12006 => some (.num c.torn.toNat)
  | 0xC12007 => some (.num (spareBlocks c))
  | 0xC20001 => some (.num (wearOf s 0 / 3600))
  | 0xC20002 => some (.bytes ((List.range 100).flatMap (fun i => toLe 4 (wearOf s (1000 + i)))))
  | 0xC20003 => some (.bytes ((List.range 366).flatMap (fun p => toLe 4 (wearOf s (2000 + p) / 3600000))))
  | 0xC20004 => some (.bytes ((List.range 80).flatMap (fun i => toLe 4 (wearOf s (3000 + i) / 3600))))
  | _ => none

def readSecurity (s : State) (c : Client) (code : Nat) : Option ObjVal :=
  match code with
  | 0x910005 => some (.bytes (blobAt s Obj.ownerKey 57))
  | 0x911003 => some (.num (tamperStateWord s))
  | 0x912001 => some (.bytes certBytes)
  | 0x912002 => some (.bytes c.nonce)
  | 0x912003 => some (.bytes (attestReport s c.nonce))
  | 0x913001 => some (.bytes (challengeBytes s c))
  | 0xA11001 => some (.num s.sec.updState)
  | 0xA11003 => some (.bytes (fwSlotsBytes s))
  | _ => none

/-! Every object. -/

/-- Is an object held for each client (R404)? -/
def perClient (code : Nat) : Bool := code == Obj.faultLogSel || code == Obj.attestNonce || code == Obj.vendorChallenge

/-- The value of an object that is more than a number or bytes kept in the dictionary. -/
def readSpecial (s : State) (c : Client) (code : Nat) : Option ObjVal :=
  let index := code / 256
  let sub := code % 256
  if 0x1400 ≤ index ∧ index ≤ 0x1463 then readDie s (index - 0x1400) sub
  else if index < 0x2000 then readIdentity s code
  else if 0x2400 ≤ index ∧ index ≤ 0x245B then readDomain s (index - 0x2400) sub
  else if 0x2600 ≤ index ∧ index ≤ 0x260B then readStage s (index - 0x2600) sub
  else if 0x3400 ≤ index ∧ index ≤ 0x3463 then readTherm s (index - 0x3400) sub
  else if index < 0x4000 then readPower s code
  else if 0x4130 ≤ index ∧ index ≤ 0x4137 then (if sub = 1 then some (.bytes (cellGroupsBytes s (index - 0x4130))) else none)
  else if 0x4400 ≤ index ∧ index ≤ 0x456D then readPort s (index - 0x4400) sub
  else if 0x4600 ≤ index ∧ index ≤ 0x4609 then readComb s (index - 0x4600) sub
  else if index < 0x5000 then readLight s code
  else if 0x5400 ≤ index ∧ index ≤ 0x5417 then readStack s (index - 0x5400) sub
  else if 0x6400 ≤ index ∧ index ≤ 0x640F then readLink s (index - 0x6400) sub
  else if 0x6800 ≤ index ∧ index ≤ 0x680F then some (.bytes (regionBytes (tget (fun _ => {}) s.fab.regions (code - 0x680000)).cur))
  else if 0x6000 ≤ index ∧ index < 0x7000 then readFabric s code
  else if index < 0x8000 then readJob s code
  else if 0x8400 ≤ index ∧ index ≤ 0x8463 then (if sub = 2 then some (.num (fenceStateWord s (index - 0x8400))) else none)
  else if 0x8500 ≤ index ∧ index ≤ 0x850F then readTiles s (index - 0x8500) sub
  else if index < 0x9000 then readFault s c code
  else if index < 0xB000 then readSecurity s c code
  else if index < 0xC000 then readTime s code
  else if index < 0xD000 then readBarista s code
  else if index = 0xD400 ∨ index = 0xD401 then readHostPort s (index - 0xD400) sub
  else if 0xD600 ≤ index ∧ index ≤ 0xD60F then some (.bytes (slice (ringAt s (index - 0xD600)).entry 0 32))
  else if index = 0xD700 then some (.bytes (windowBytes (tget (fun _ => {}) s.host.wins sub).cur))
  else if 0xD800 ≤ index ∧ index ≤ 0xD80F then some (.bytes (qpBytes (qpAt s (code - 0xD80000))))
  else none

/-- The bytes of an object's value. -/
def objBytes (s : State) (c : Client) (e : DictEntry) (code : Nat) : List Byte :=
  match readSpecial s c code with
  | some (.num n) => toLe (typeSize e.type) n
  | some (.bytes bs) => bs
  | none => if e.type = 9 then blobAt s code e.len else toLe (typeSize e.type) (dval s code)

end Sys2Proof.Machine
end

