-- ==== Sys2Proof/Machine/Punel.lean ====
section
/-! DEFINITION. The dictionary server: units, statuses, clients, snapshots, staged writes and answers (R401 to R418, R473, R474),
and the field network (R406, R407). -/
namespace Sys2Proof.Machine

/-! Units (R410). -/

/-- The fields of a unit (R410 Table 3). -/
structure PunelReq where
  version : Nat
  op : Nat
  txn : Nat
  index : Nat
  sub : Nat
  flags : Nat
  status : Nat
  type : Nat
  length : Nat
  offset : Nat
  total : Nat
  spare : Nat
  data : List Byte

/-- Length of a request: a READ carries no DATA. -/
def unitLen (u : List Byte) : Nat := if leAt u 1 1 = 1 then 28 else 28 + leAt u 10 2

def punelReq (u : List Byte) : PunelReq :=
  { version := leAt u 0 1, op := leAt u 1 1, txn := leAt u 2 2, index := leAt u 4 2, sub := leAt u 6 1, flags := leAt u 7 1
    status := leAt u 8 1, type := leAt u 9 1, length := leAt u 10 2, offset := leAt u 12 4, total := leAt u 16 4
    spare := leAt u 20 4, data := slice u 24 (unitLen u - 28) }

/-- A unit whose length agrees with LENGTH and whose CHECK holds; a frame of the field network may be padded (R408). -/
def unitGood (id : ClientId) (u : List Byte) : Bool :=
  let n := unitLen u
  let padded := match id with | .field _ => decide (n < 46 ∧ u.length = 46) | .udp _ _ _ => false
  decide (28 ≤ u.length) && (u.length == n || padded) && leAt u (n - 4) 4 == crc32c (u.take (n - 4))

def PunelReq.code (r : PunelReq) : Nat := 256 * r.index + r.sub
def PunelReq.first (r : PunelReq) : Bool := bitAt r.flags 0
def PunelReq.last (r : PunelReq) : Bool := bitAt r.flags 1

/-- An answer before it is framed: its status, the object's type, TOTAL, DATA, and what it waits for: a record's SEQ, and whether for
its commit. -/
structure Answer where
  status : Nat
  type : Nat := 0
  total : Nat := 0
  data : List Byte := []
  wait : Option (Word × Bool) := none

/-- The bytes of an answer (R410). -/
def answerUnit (r : PunelReq) (a : Answer) : List Byte :=
  let body := toLe 1 1 ++ toLe 1 (r.op + 0x80) ++ toLe 2 r.txn ++ toLe 2 r.index ++ toLe 1 r.sub ++ toLe 1 r.flags ++ toLe 1 a.status ++
    toLe 1 a.type ++ toLe 2 a.data.length ++ toLe 4 r.offset ++ toLe 4 a.total ++ toLe 4 0 ++ a.data
  body ++ toLe 4 (crc32c body)

/-! Privilege (R294, R403, R408, R409). -/

/-- Do the first n bits of two addresses agree? -/
def prefixAgrees (n : Nat) (a b : Nat) : Bool := a / 2 ^ (128 - n) == b / 2 ^ (128 - n)

/-- The privilege HOST_ACCESS_LIST gives an address: 0 none, 1 observer, 2 operator, 3 service (R294). -/
def accessPrivilege (s : State) (addr : Nat) : Nat :=
  let list := blobAt s Obj.hostAccessList 320
  let found := (List.range 16).foldl (fun (best : Option (Nat × Nat)) i =>
    let e := slice list (20 * i) 20
    let n := leAt e 16 1
    if bitAt (leAt e 18 1) 0 ∧ prefixAgrees n addr (beNat (e.take 16)) then
      (match best with
       | some b => if b.1 < n then some (n, leAt e 17 1) else some b
       | none => some (n, leAt e 17 1))
    else best) none
  match found with | some b => b.2 | none => 1

/-- The privilege a client is served with: 1 observer to 4 vendor; 0 where it is not served. -/
def privilegeOf (s : State) (id : ClientId) : Nat :=
  match id with
  | .field _ => if ((clientAt s id).map (·.vendor)).getD false then 4 else s.punel.privilege
  | .udp _ a _ => accessPrivilege s a.toNat

/-! Clients (R413) and what they hold (R414, R415). -/

/-- Snapshots and staged writes idle for 1 s and answers kept for 2 s are dropped. -/
def dropSnaps (s : State) : State := setPunel s (fun p => { p with snaps := p.snaps.filter (fun h => decide (s.ticks < h.last + 1000000000)) })

def dropStaged (s : State) : State :=
  let old := s.punel.staged.filter (fun h => decide (h.last + 1000000000 ≤ s.ticks))
  setPunel s (fun p => { p with
    staged := p.staged.filter (fun h => decide (s.ticks < h.last + 1000000000))
    expired := old.map (fun h => (h.id, h.index, h.sub)) ++ p.expired })

def dropReplies (s : State) : State :=
  setPunel s (fun p => { p with clients := p.clients.map (fun c => { c with replies := c.replies.filter (fun r => decide (s.ticks < r.2.2 + 2000000000)) }) })

/-- A new client entry: its nonce is drawn (R432). -/
def newClient (s : State) (id : ClientId) : Client :=
  { id := id, last := s.ticks, challenge := (List.range 32).map (fun i => Config.freeByte s.freeCtr (0x9130000 + i)) }

/-- The entry idle longest. -/
def idleLongest (cs : List Client) : Option Client :=
  cs.foldl (fun b c => match b with | some x => if c.last < x.last then some c else some x | none => some c) none

/-- A request's client has an entry: its own, a free one, or the one idle longest if idle for 2 s. -/
def admitClient (s : State) (id : ClientId) : Bool × State :=
  match clientAt s id with
  | some _ => (true, updClient s id (fun c => { c with last := s.ticks }))
  | none =>
    let add := fun (s : State) => bumpFree (setPunel s (fun p => { p with clients := p.clients ++ [newClient s id] }))
    if s.punel.clients.length < 32 then (true, add s)
    else match idleLongest s.punel.clients with
      | some old =>
        if s.ticks < old.last + 2000000000 then (false, s)
        else (true, add (setPunel s (fun p => { p with
          clients := p.clients.filter (fun c => c.id != old.id), snaps := p.snaps.filter (fun h => h.id != old.id)
          staged := p.staged.filter (fun h => h.id != old.id), expired := p.expired.filter (fun h => h.1 != old.id) })))
      | none => (false, s)

/-- Is a held value this client's of this object? -/
def heldBy (id : ClientId) (r : PunelReq) (h : Held_) : Bool := h.id == id && h.index == r.index && h.sub == r.sub

def snapOf (s : State) (id : ClientId) (r : PunelReq) : Option Held_ := s.punel.snaps.find? (heldBy id r)
def stagedOf (s : State) (id : ClientId) (r : PunelReq) : Option Held_ := s.punel.staged.find? (heldBy id r)
def dropSnap (s : State) (id : ClientId) (r : PunelReq) : State := setPunel s (fun p => { p with snaps := p.snaps.filter (fun h => !heldBy id r h) })
def dropStage (s : State) (id : ClientId) (r : PunelReq) : State :=
  setPunel s (fun p => { p with
    staged := p.staged.filter (fun h => !heldBy id r h), expired := p.expired.filter (fun e => e != (id, r.index, r.sub)) })

/-! Statuses (R412, R473, R474). -/

/-- The first condition of several that holds gives the status; 0 where none does. -/
def firstStatus : List (Bool × Nat) → Nat
  | [] => 0
  | (c, st) :: rest => if c then st else firstStatus rest

/-- The start-up step from whose end an object answers (R474 Table 10). -/
def needStep (index sub : Nat) : Nat :=
  if 0x1400 ≤ index ∧ index ≤ 0x1463 then 4
  else if index < 0x4000 then 3
  else if 0x4600 ≤ index ∧ index < 0x5000 then 8
  else if index < 0x6000 then 9
  else if index < 0x8000 then 5
  else if 0x8400 ≤ index ∧ index ≤ 0x8463 ∧ sub = 1 then 4
  else if index < 0xD000 then 3
  else 5

/-- Steps of start-up that have ended; a barista that serves has come past carafe recovery. -/
def stepsEnded (s : State) : Nat :=
  if dval s Obj.moduleState = 1 then 13 else max s.startup.ended (if collectorUp s then 3 else 0)

/-- CAL_LIVE of some port. -/
def isCalLive (r : PunelReq) : Bool := decide (0x4400 ≤ r.index ∧ r.index ≤ 0x456D ∧ r.sub = 7)

/-- What the boot ROM serves in recovery (R437). -/
def recoveryServes (index : Nat) : Bool := index == 0x1000 || index == 0x1010 || decide (0xA000 ≤ index ∧ index < 0xB000)

def notReady (s : State) (r : PunelReq) (e : DictEntry) : Bool :=
  if s.sec.recovery then !recoveryServes r.index
  else if isCalLive r then decide (dval s Obj.moduleState ≠ 1)
  else (e.access == 0 || e.access == 2) && decide (stepsEnded s < needStep r.index r.sub)

def malformed (r : PunelReq) : Bool :=
  r.version != 1 || !(r.op == 1 || r.op == 2 || r.op == 3) || r.spare != 0 || r.status != 0 || r.type != 0 || decide (4 ≤ r.flags) ||
  (r.op != 2 && r.flags != 0)

def tooLarge (r : PunelReq) : Bool :=
  decide (1024 < r.length) || (r.op == 2 && r.first && decide (65536 < r.total) && r.code != Obj.updateImage)

/-- Statuses that come before BUSY, whatever the operation. -/
def earlyStatus (s : State) (priv : Nat) (r : PunelReq) : Nat :=
  let vendor := decide (0xF000 ≤ r.index)
  match dictFind r.code with
  | none => firstStatus [(malformed r, 0x0C), (tooLarge r, 9), (!vendor || priv == 4, 1), (true, 3)]
  | some e =>
    let lacks := if r.op = 1 then e.priv == 3 && decide (priv < 4) else decide (priv < e.priv + 1)
    let wrong := if r.op = 1 then e.access == 2 else e.access == 0
    if r.op = 3 then firstStatus [(malformed r, 0x0C), (tooLarge r, 9)]
    else firstStatus [(malformed r, 0x0C), (tooLarge r, 9), (wrong, 2), (lacks, 3), (notReady s r e, 0x0B)]

/-! Reading (R411, R414). -/

/-- READ of an object. -/
def readObject (s : State) (c : Client) (e : DictEntry) (r : PunelReq) : Answer × State :=
  let bad := fun (st : Nat) => (({ status := st, type := e.type } : Answer), s)
  if e.type ≠ 9 then
    if r.offset ≠ 0 then bad 5
    else
      let v := objBytes s c e r.code
      ({ status := 0, type := e.type, total := v.length, data := v }, s)
  else
    let give := fun (s : State) (v : List Byte) =>
      (({ status := 0, type := e.type, total := v.length, data := (v.drop r.offset).take r.length } : Answer), s)
    if r.offset = 0 then
      let s' := dropSnap s c.id r
      if s'.punel.snaps.length ≥ 8 then bad 7
      else if r.length = 0 then bad 5
      else
        let v := objBytes s c e r.code
        give (setPunel s' (fun p => { p with snaps := p.snaps ++ [{ id := c.id, index := r.index, sub := r.sub, total := v.length, data := v, last := s.ticks }] })) v
    else match snapOf s c.id r with
      | none => bad 0x0A
      | some h =>
        if r.length = 0 ∨ r.offset ≥ h.total then bad 5
        else give (setPunel s (fun p => { p with snaps := p.snaps.map (fun x => if heldBy c.id r x then { x with last := s.ticks } else x) })) h.data

/-! Writing (R402, R405). -/

/-- What a write comes to: a status, what its answer waits for, and the state. -/
structure WriteOut where
  status : Nat
  wait : Option (Word × Bool) := none
  state : State

/-- SEQ of the newest record: one that waits for room in the pending set gets it after the next commit's (R392), or after that of the commit which
makes room for it. -/
def newestRecord (s : State) : Word :=
  let n := s.journal.held.length
  if n = 0 then s.journal.next - 1 else s.journal.next + BitVec.ofNat 64 (n + (n - 1) / 2048)

/-- The value that a write replaces, in case a takeover comes before its mirror does (R381, R384). -/
def keepOld (s : State) (code : Nat) (blob : Bool) : State :=
  if standbyHere s then
    setMirror s (fun m => if blob then { m with undoBlobs := (code, tget (fun _ => []) s.blobs code) :: m.undoBlobs }
      else { m with undo := (code, tget dictDefault s.dict code) :: m.undo })
  else s

/-- Parts of 40 bytes of a value (R398 DICT_VALUE). -/
def valueParts (bs : List Byte) : List (Nat × List Byte) := (List.range (max 1 (cdiv bs.length 40))).map (fun i => (i, (bs.drop (40 * i)).take 40))

/-- A written value is mirrored as a dictionary value that is not journalled (R381 KIND 5). -/
def mirrorValue (s : State) (code : Nat) (bs : List Byte) : State :=
  (valueParts bs).foldl (fun s x => mirrorItem s 5 (recBytes { type := 0x0010, part := x.1, key := code, seq := 0, data := x.2 })) s

/-- A value of class RWP changes: its record is created, and the answer waits for the standby, after the next commit when the pending
set is full. -/
def writeRwp (s : State) (code : Nat) (e : DictEntry) (bs : List Byte) : WriteOut :=
  let blob := e.type == 9
  let same := if blob then blobAt s code e.len == bs else dval s code == leNat bs
  if same then { status := 0, state := s }
  else
    let s := keepOld s code blob
    let s := if blob then setBlob s code bs else dset s code (leNat bs)
    let s := (valueParts bs).foldl (fun s x => queueRecord s 0x0010 code x.2 false x.1) s
    { status := 0, wait := some (newestRecord s, false), state := s }

def writeRw (s : State) (code : Nat) (bs : List Byte) : WriteOut :=
  { status := 0, state := mirrorValue (dset (keepOld s code false) code (leNat bs)) code bs }

/-- The range an object's table states (R405). -/
def inRange (s : State) (code v : Nat) : Bool :=
  let within := fun (lo hi : Nat) => decide (lo ≤ v ∧ v ≤ hi)
  match code with
  | 0x730001 => within 1 255
  | 0x730002 => within 1 1023
  | 0x730003 => within 2 8
  | 0x730005 => within 1 255
  | 0x730006 => within 1 1023
  | 0x733001 => within 0 1
  | 0x733002 => within 0 2
  | 0x733003 => within 1 2
  | 0x410001 => within 0 1
  | 0x410002 => within 1 65535
  | 0x410003 => within 2 64
  | 0x410004 => within 0 365
  | 0x420001 => within 0 3600000
  | 0x420002 => within 0 1
  | 0x510001 => within 4 168
  | 0x510002 => within 1 255
  | 0x510003 => within 1 1023
  | 0x510004 => within 8 4096
  | 0x510005 => within 64 65535
  | 0x610001 => within 0 4095 || v == 0xFFFF
  | 0x611001 => within 100 10000
  | 0x611002 => within 10 1000
  | 0x611003 => within 1 255
  | 0x611004 => within 1 1023
  | 0x630003 => within 1 1
  | 0x630005 => within 1 1
  | 0xD10001 => within 0 7
  | 0xD10002 => within 0 63
  | 0xD40001 => within 0 3
  | 0xD40101 => within 0 3
  | 0xD40007 => within 0 0x1FFF
  | 0xD40107 => within 0 0x1FFF
  | 0xB11001 => within 100 1000000
  | 0xB11002 => within 0 2
  | 0xB11003 => within 0 1
  | 0x310001 => within 50 1000
  | 0x310002 => within 500 10000
  | 0x310003 => within 100 2000 && decide (dval s Obj.thermWarnRate < v)
  | 0x310004 => within 200 10000
  | 0x810001 => within 0 7
  | 0x810002 => within 0 1
  | 0x810003 => within 1 1
  | 0x830001 => within 1000 10000000
  | 0x830002 => within 0 1
  | 0x830003 => within 1 64
  | 0xC12008 => within 1 1
  | 0x110001 => within 0 1
  | 0x110002 => within 2 255
  | 0x110004 => within 0 1
  | 0x110005 => within 1 3
  | 0xA10002 => within 1 1
  | 0xA10003 => within 1 1
  | _ => true

/-- Entries of HOST_ACCESS_LIST: a privilege of 0 to 3, reserved bits zero (R294). -/
def accessListOk (bs : List Byte) : Bool :=
  (List.range 16).all (fun i => decide (leAt bs (20 * i + 17) 1 ≤ 3 ∧ leAt bs (20 * i + 18) 1 ≤ 1) && leAt bs (20 * i + 19) 1 == 0)

/-- No prefix is longer than 128 bits. -/
def prefixesOk (bs : List Byte) : Bool := (List.range 16).all (fun i => decide (leAt bs (20 * i + 16) 1 ≤ 128))

/-- A write is refused by its object's own rule, or is done. -/
def ownRule (r : Bool × State) : WriteOut := { status := if r.1 then 0 else 6, state := r.2 }

/-- One that creates class I records waits for their commit (R405). -/
def ownRecord (s : State) (more : Nat) (r : Bool × State) : WriteOut :=
  if r.1 then { status := 0, wait := if s.sec.recovery then none else some (nextRecSeq s + BitVec.ofNat 64 more, true), state := r.2 }
  else { status := 6, state := r.2 }

/-- LANE_EXCLUDE_CLEAR (R107). -/
def clearAtStart (s : State) (p : Nat) : State :=
  excludeRecord (excludeRecord (updPort s p (fun v => { v with clearAtStart := true })) p false) p true

/-- Writes whose object acts: WO objects. -/
def writeWo (s : State) (id : ClientId) (code : Nat) (bs : List Byte) : WriteOut :=
  let v := leNat bs
  match code with
  | 0x410004 => { status := 0, state := clearAtStart s v }
  | 0x630003 => { status := 0, state := if s.fab.drain.isNone then startDrain s none else s }
  | 0x630005 => { status := 0, state := doFabricLeave s }
  | 0x810003 => { status := 0, state := doAlertClear s v }
  | 0xC12008 => { status := 0, state := tryCommit s 2 }
  | 0x910003 => let r := doLcRequest s bs
                ownRecord s 1 (r.1 == 0, r.2)
  | 0x913002 => ownRule (doVendorResponse s id bs)
  | 0xA10002 => ownRecord s 0 (doUpdateActivate s v)
  | 0xA10003 => ownRecord s 1 (confirmTrial s)
  | 0x733003 => ownRule (doGrinderRun s v)
  | _ => ownRule (doFaultForce s (code / 256 - 0x8400) (BitVec.ofNat 64 v))

/-- Writes of RW blobs, which the parts they configure hold. -/
def writeTable (s : State) (code : Nat) (bs : List Byte) : Bool × State :=
  let index := code / 256
  if code = 0x630001 then doRouteShadow s bs
  else if code = 0x632001 then doBarrierTable s bs
  else if code = 0x633001 then doFlagTable s bs
  else if index < 0x5000 then doCalLive s (index - 0x4400) bs
  else if index < 0x7000 then doRegion s (code - 0x680000) bs
  else if index < 0xD700 then doRingConfig s (index - 0xD600) bs
  else if index = 0xD700 then doWindow s (code % 256) bs
  else doQp s (code - 0xD80000) bs

/-- A write keeps 3 T + 40 microseconds within L (R267). -/
def lifetimeKept (s : State) (code v : Nat) : Bool :=
  if code = Obj.fabricTimeout then decide (3 * v + 40 ≤ dval s Obj.fabricDedupeLifetime)
  else if code = Obj.fabricDedupeLifetime then decide (3 * dval s Obj.fabricTimeout + 40 ≤ v)
  else true

/-- A whole value is written: length, range, the object's own rule, then its effect. -/
def writeValue (s : State) (id : ClientId) (e : DictEntry) (code : Nat) (bs : List Byte) : WriteOut :=
  if e.type ≠ 9 ∧ bs.length ≠ typeSize e.type then { status := 4, state := s }
  else if e.type ≠ 9 ∧ !inRange s code (leNat bs) then { status := 5, state := s }
  else if code = Obj.hostAccessList ∧ !accessListOk bs then { status := 5, state := s }
  else if code = Obj.hostAccessList ∧ !prefixesOk bs then { status := 6, state := s }
  else if code = Obj.cupEnable ∧ leNat bs = 0 ∧ dval s Obj.lcState = 2 then { status := 6, state := s }
  else if !lifetimeKept s code (leNat bs) then { status := 6, state := s }
  else if code = Obj.faultLogSel then
    { status := 0, state := updClient s id (fun c => { c with sel := tset (fun _ => 0) c.sel code (BitVec.ofNat 64 (leNat bs)) }) }
  else if code = Obj.attestNonce then { status := 0, state := updClient s id (fun c => { c with nonce := bs }) }
  else if e.access = 2 then writeWo s id code bs
  else if e.access = 3 then writeRwp s code e bs
  else if e.type = 9 then
    let r := writeTable s code bs
    { status := if r.1 then 0 else 6, state := if r.1 then mirrorValue r.2 code bs else r.2 }
  else writeRw s code bs

/-- A segment of UPDATE_IMAGE (R434). -/
def writeImage (s : State) (id : ClientId) (r : PunelReq) : WriteOut :=
  let a := updateSegment s id r.first r.last r.offset r.total r.data
  { status := a.status, wait := if a.waits then some (nextRecSeq s, true) else none, state := a.state }

/-- WRITE (R411, R414). -/
def writeObject (s : State) (id : ClientId) (e : DictEntry) (r : PunelReq) : WriteOut :=
  let no := fun (st : Nat) => ({ status := st, state := s } : WriteOut)
  if r.code = Obj.updateImage then writeImage s id r
  else if e.type ≠ 9 then
    if !r.first then no 8
    else if !r.last then no 4
    else if r.offset ≠ 0 then no (if r.data.length ≠ typeSize e.type then 4 else 5)
    else writeValue s id e r.code r.data
  else if r.first then
    let s' := dropStage s id r
    if s'.punel.staged.length ≥ 8 then no 7
    else if r.offset ≠ 0 then no 8
    else if r.total ≠ e.len ∨ (r.last ∧ r.data.length ≠ e.len) ∨ (!r.last ∧ r.data.length ≠ 1024) then no 4
    else if r.last then writeValue s' id e r.code r.data
    else { status := 0, state := setPunel s' (fun p => { p with
      staged := p.staged ++ [{ id := id, index := r.index, sub := r.sub, total := r.total, data := r.data, last := s.ticks }] }) }
  else match stagedOf s id r with
    | none => no (if s.punel.expired.contains (id, r.index, r.sub) then 0x0A else 8)
    | some h =>
      let all := h.data ++ r.data
      if r.offset ≠ h.data.length then no 8
      else if (!r.last ∧ r.data.length ≠ 1024) ∨ (r.last ∧ all.length ≠ h.total) then no 4
      else if all.length > h.total then no 5
      else if r.last then writeValue (dropStage s id r) id e r.code all
      else { status := 0, state := setPunel s (fun p => { p with
        staged := p.staged.map (fun x => if heldBy id r x then { x with data := all, last := s.ticks } else x) }) }

/-- ABORT drops the client's staged write and answers OK (R411). -/
def abortObject (s : State) (id : ClientId) (r : PunelReq) : State :=
  if r.code = Obj.updateImage then abortUpdate s id else dropStage s id r

/-! Handling a request (R413 to R417). -/

/-- The answer to a request of a client, and the state it leaves. -/
def handle (s : State) (id : ClientId) (admitted : Bool) (r : PunelReq) : Answer × State :=
  let st := earlyStatus s (privilegeOf s id) r
  let type := match dictFind r.code with | some e => e.type | none => 0
  if st ≠ 0 then ({ status := st, type := type }, s)
  else match admitted, clientAt s id, dictFind r.code with
    | true, some c, some e =>
      if r.op = 1 then readObject s c e r
      else if r.op = 2 then
        let w := writeObject s id e r
        ({ status := w.status, type := type, wait := w.wait }, w.state)
      else ({ status := 0, type := type }, abortObject s id r)
    | _, _, _ => ({ status := 7, type := type }, s)

/-- An answer leaves at once, or when what it waits for has happened. -/
def respond (s : State) (id : ClientId) (r : PunelReq) (a : Answer) : State :=
  let s := bump s Obj.punelRequests
  let s := if a.status ≠ 0 then bump s Obj.punelErrors else s
  let u := answerUnit r a
  match a.wait with
  | some (seq, commit) => releaseAnswers (setPunel s (fun p => { p with waiting := p.waiting ++ [{ id := id, answer := u, seq := seq, commit := commit }] }))
  | none => sendReply s id u

/-- A request within the rate: repeats are answered from the cache (R415), others handled. -/
def takeRequest (s : State) (id : ClientId) (u : List Byte) : State :=
  let r := punelReq u
  let q := admitClient s id
  let s := q.2
  match (clientAt s id).bind (fun c => c.replies.find? (fun x => x.1 == r.txn)) with
  | some old => sendUnit (bump s Obj.punelDuplicates) id old.2.1
  | none =>
    match s.punel.waiting.find? (fun w => w.id == id && leAt w.answer 2 2 == r.txn) with
    | some w => bump (setPunel s (fun p => { p with waiting := p.waiting ++ [w] })) Obj.punelDuplicates
    | none =>
      let a := handle s id q.1 r
      respond a.2 id r a.1

/-- Requests of the running second (R416). -/
def rateFull (s : State) : Bool × State :=
  if s.ticks ≥ s.punel.rateAt + 1000000000 then (false, setPunel s (fun p => { p with rateAt := s.ticks, rateN := 1 }))
  else if s.punel.rateN ≥ 20000 then (true, s)
  else (false, setPunel s (fun p => { p with rateN := p.rateN + 1 }))

/-- Does a request on its route reach a barista that answers (R408, R409, R417, R437)? -/
def routeServed (s : State) (id : ClientId) : Bool :=
  match id with
  | .field _ => s.punel.enable && (collectorUp s || s.sec.recovery)
  | .udp _ _ _ => collectorUp s

/-- A READ by broadcast is answered only for index 0x1000 or 0x1010 (R408). -/
def broadcastOk (u : List Byte) : Bool :=
  let r := punelReq u
  r.op == 1 && (r.index == 0x1000 || r.index == 0x1010)

/-- A unit arrives: its frame, its route, its check, then the request. -/
def doPunel (s : State) (id : ClientId) (bcast spoiled : Bool) (u : List Byte) : State :=
  let s := dropReplies (dropStaged (dropSnaps s))
  if !routeServed s id then s
  else if spoiled then (match id with | .field _ => bump s Obj.fieldFramesBad | .udp _ _ _ => s)
  else if privilegeOf s id = 0 ∨ !unitGood id u ∨ (bcast ∧ !broadcastOk u) then bump s Obj.punelDropped
  else
    let f := rateFull s
    if f.1 then bump f.2 Obj.punelDropped else takeRequest f.2 id u

/-- A host port takes a datagram (R278, R294, R409): its link up, the frame sound, its tag as HOST_VLAN sets, no fragment, sent to
HOST_PUNEL_PORT. -/
def datagramOk (s : State) (n : Nat) (f : UnitFrame) : Bool :=
  linkUp s n && !f.spoiled && !f.fragment && decide (f.bytes ≤ 9216) && f.vlan.map (·.val) == hostTag s n && decide (f.dport.toNat = dval s Obj.hostPunelPort)

/-- A unit comes in: on the field network, untagged (R406), at the barista; over UDP at a host port, whose die passes it to the active barista in a DICTIONARY
slot (R114, R294). -/
def unitIn (s : State) (id : ClientId) (bcast : Bool) (f : UnitFrame) (u : List Byte) : State :=
  match id with
  | .field _ => if f.vlan.isSome then s else doPunel s id bcast f.spoiled u
  | .udp n a p => if datagramOk s n.val f then sendDict s (siteHD n.val) (activeSite s) a.toNat p.toNat u else s

/-- PUNEL_READ: a READ unit, or one whose OP is unknown. -/
def execPunelRead (id : ClientId) (bcast : Bool) (f : UnitFrame) (unit : List Byte) (s : State) : Host.Outcome State Fault Refusal :=
  .next (if leAt unit 1 1 = 2 ∨ leAt unit 1 1 = 3 then s else unitIn s id bcast f unit)

/-- PUNEL_WRITE: a WRITE unit. -/
def execPunelWrite (id : ClientId) (bcast : Bool) (f : UnitFrame) (unit : List Byte) (s : State) : Host.Outcome State Fault Refusal :=
  .next (if leAt unit 1 1 = 2 then unitIn s id bcast f unit else s)

/-- PUNEL_ABORT: an ABORT unit. -/
def execPunelAbort (id : ClientId) (bcast : Bool) (f : UnitFrame) (unit : List Byte) (s : State) : Host.Outcome State Fault Refusal :=
  .next (if leAt unit 1 1 = 3 then unitIn s id bcast f unit else s)

/-- ATTEST_REPORT: a READ unit of that object (R430). -/
def execAttestReport (id : ClientId) (f : UnitFrame) (unit : List Byte) (s : State) : Host.Outcome State Fault Refusal :=
  .next (if leAt unit 1 1 = 1 ∧ (punelReq unit).code = Obj.attestReport then unitIn s id false f unit else s)

/-- SNAPSHOT_EXPIRY (R414). -/
def execSnapshotExpiry (s : State) : Host.Outcome State Fault Refusal := .next (dropSnaps s)

/-- STAGING_EXPIRY (R414). -/
def execStagingExpiry (s : State) : Host.Outcome State Fault Refusal := .next (dropStaged s)

/-- REPLY_CACHE_EXPIRY (R415). -/
def execReplyCacheExpiry (s : State) : Host.Outcome State Fault Refusal := .next (dropReplies s)

/-! The field network (R407). -/

/-- A beacon is heard, or sent as coordinator: in its transmit opportunity the module sends one frame. -/
def doBeacon (s : State) : State :=
  if s.punel.state = 0 then s
  else fieldSend (setPunel s (fun p => { p with beaconAt := some s.ticks, state := if p.state = 3 then 3 else 1 })) 1

def execPlcaBeacon (s : State) : Host.Outcome State Fault Refusal := .next (doBeacon s)

/-- 4 ms without a beacon: what waits is sent. -/
def doBeaconLoss (s : State) : State :=
  let s := match s.punel.beaconAt with
    | some t => if s.punel.state = 1 ∧ !s.punel.coordinator ∧ s.ticks ≥ t + 4000000 then setPunel s (fun p => { p with state := 2 }) else s
    | none => s
  if sendsFreely s then fieldSend s s.punel.fieldOut.length else s

def execPlcaBeaconLoss (s : State) : Host.Outcome State Fault Refusal := .next (doBeaconLoss s)

/-- A collision in the module's own opportunity: the sixteenth within 1 s leaves PLCA until start-up. -/
def doFieldCollision (s : State) : State :=
  if s.punel.state ≠ 1 then s
  else
    let cs := s.ticks :: s.punel.collisions.filter (fun t => decide (s.ticks < t + 1000000000))
    let s := bump (setPunel s (fun p => { p with collisions := cs.take 16, state := if cs.length ≥ 16 then 3 else p.state })) Obj.fieldCollisions
    if sendsFreely s then fieldSend s s.punel.fieldOut.length else s

def execNodeIdConflict (s : State) : Host.Outcome State Fault Refusal := .next (doFieldCollision s)

end Sys2Proof.Machine
end

