-- ==== Sys2Proof/Machine/HostSlots.lean ====
section
/-! DEFINITION. What the services of a house slot do with what it brought, and the command that delivers a slot (R22, R113, R114, R294). -/
namespace Sys2Proof.Machine

/-- A unit of a HOST slot at its die: a memory base die serves a host die's, a host die takes the answer to one of its requests (R282). -/
def takeHostUnit (s : State) (me peer : Nat) (p : FabPacket) : State :=
  match siteKind me with
  | some (.md, m) => serveUnit s m peer p
  | some (.hd, _) => takeHostAnswer s p
  | _ => s

/-- Units that HOST slots brought are taken. -/
def drainHost (s : State) : State :=
  s.host.slotIn.foldl (fun s e => takeHostUnit s ((e.1 - 32) / 128) ((e.1 - 32) % 128) e.2) { s with host := { s.host with slotIn := [] } }

/-- A Punel unit of a DICTIONARY slot: the active barista takes a request of the host die at `peer`; a host die sends an answer from
HOST_PUNEL_PORT to its client, on its own subnet (R279, R294, R409). -/
def takeDict (s : State) (me peer : Nat) (fs : List Flit) : State :=
  match fs with
  | [] => s
  | h :: rest =>
    let uport := leAt h.data 0 2
    let addr := leAt h.data 2 16
    let u := slice (rest.flatMap (fun f => slice f.data 0 64)) 0 (leAt h.data 18 2)
    match siteKind me with
    | some (.ba, _) => if me = activeSite s then doPunel s (.udp (Fin.ofNat 2 (peer - 72)) (BitVec.ofNat 128 addr) (BitVec.ofNat 16 uport)) false false u else s
    | some (.hd, n) =>
      if linkUp s n && onSubnet s n (toBe 16 addr) then
        ethSend s n .punelAnswer (toBe 16 addr ++ toBe 2 (dval s Obj.hostPunelPort) ++ toBe 2 uport ++ u)
      else s
    | _ => s

/-- DICTIONARY slots of a die are taken. -/
def drainDictAt (s : State) (site : Nat) : State :=
  let k := houseKey site 4
  (tget (fun _ => []) s.houseIn k).foldl (fun s e => takeDict s site e.1 e.2) { s with houseIn := tset (fun _ => []) s.houseIn k [] }

/-- What a delivered slot brought is taken by its service. -/
def drainSlots (s : State) : State := [siteBA 0, siteBA 1, siteHD 0, siteHD 1].foldl drainDictAt (drainHost (drainPaths s))

/-- SLOT_BURST: at an internal port or at an external link. -/
def execSlotBurst (q : Fin 366) (bits : BitVec 14336) (s : State) : Host.Outcome State Fault Refusal :=
  .next (if q.val < 350 then drainSlots (doSlotBurst s q.val bits) else doExtBurst s (q.val - 350) bits)

end Sys2Proof.Machine
end

