-- ==== Sys2Proof/Machine/Frame.lean ====
section
/-! DEFINITION. A frame boundary: the changes named for it take effect (R115, R127, R129, R133). -/
namespace Sys2Proof.Machine

/-- The next boundary: now, if a boundary falls now that has not arrived, else the next multiple of 1,024 ns. -/
def nextBoundary (s : State) : Nat :=
  if s.now.toNat % 1024 = 0 ∧ s.now ≠ s.boundary then s.now.toNat else (s.now.toNat / 1024 + 1) * 1024

/-- The write queues of the fault logs empty (R396). -/
def logClock (s : State) : State :=
  overNats [0, 1] (fun n s => if carafeWorks s n || roleOf s n == .remirroring then setCarafe s n (drainLog (carafeOf s n) s.ticks) else s) s

/-- What the clock drives: request packets (R93) and VC0 packets (R250) whose turn has come, the host ports (R279, R280) and their IEEE 1588 slaves
(R293), and the write queues of the carafes (R396). -/
def clockWork (s : State) : State := logClock (ptpClock (hostClock (fabricClock s)))

/-- The clock runs to the next boundary. -/
def toBoundary (s : State) : State :=
  let f := nextBoundary s
  clockWork { s with ticks := s.ticks + (f - s.now.toNat), now := BitVec.ofNat 64 f }

/-- Ports that go with a die: a cache die's compute die has them. -/
def diePorts (site : Nat) : List Nat :=
  match siteKind site with
  | some (.kd, n) => sitePorts (siteCD n)
  | _ => sitePorts site

/-- Ports that a change fails: one named by PORT_FAILED, or all of a die that is fenced, by FENCE or because of its joints (R133, R363). -/
def changePorts (s : State) (due : List Change) : Change → List Nat
  | .joint site group _ .control => if jointBeyond s due site group then diePorts site else []
  | .portFailed p => [p]
  | .fence site none _ _ => diePorts site
  | _ => []

/-- The ports of a boundary fail together; a link end that fails takes its link down. -/
def portsFail (s : State) (ps : List Nat) : State :=
  if ps.isEmpty then s
  else
    let s := lightPortsFail s ps
    let s := ps.foldl endCalAt s
    (ps.filter (fun p => decide (350 ≤ p))).foldl (fun s p => linkDown s (p - 350)) s

/-- A change takes effect at its boundary (R129). -/
def applyChange (s : State) : Change → State
  | .laneExclude p rx line => applyExclude s p rx line
  | .portFailed _ => s
  | .cellBypass bt i => bump (updBt s bt (fun b => { b with spareUsed := addPos b.spareUsed i })) Obj.cellBypasses
  | .fence site tile cause forced => cupRecheck (applyFence s site tile cause forced)
  | .setLost set _ => applySetLost s set
  | .combSwitch bt comb sudden => applyCombSwitch s bt comb sudden
  | .calStart rx step => applyCalStart s rx step
  | .swingRelease p rx _ _ => applySwingRelease s p rx
  | .linkExclude l rx line => applyLinkExclude s l rx line
  | .routeSwitch => applyRouteSwitch s
  | .timeStep d => applyTimeStep (voidCal s) d
  | .epoch v => applyEpoch s v
  | .handback => applyHandback s
  | .lightTree n => setMt s (fun m => { m with tree := Fin.ofNat 2 n, lit := addPos m.lit n })
  | .darkTree n => if s.active.val = n then s else setMt s (fun m => { m with lit := m.lit.filter (· != n) })
  | .jobStart => applyJobStart s
  | .cupStart => applyCupStart s
  | .joint site group joint carries => applyJoint s site group joint carries
  | .blendStart => applyBlendStart s

/-- The active barista's broadcast is on the tree of its tile: its generator lights the tree, and the comb that serves the tile shines (R116, R301). -/
def broadcastOn (s : State) : Bool :=
  let bt := if s.active.val = 0 then 0 else 7
  collectorUp s && s.mt.lit.contains s.mt.tree.val && (tfind s.light.lossAt bt).isNone && match servingComb s bt with | some c => domAt s (domLC c) == .on || domAt s (domLC c) == .ringKeep | none => false

/-- A frame marker reaches a die or base tile at a frame boundary; `phase` is its distance from a receiver's own marker in picoseconds. A
receiver in holdover leaves it at a marker of the broadcast (R300, R301, R306). -/
def doMarker (s : State) (site : Nat) (phase : Int) : State :=
  if s.now.toNat % 1024 ≠ 0 then s
  else
    let s := correctCount s site
    let b := btAt s site
    if site < 8 ∧ b.timing.holdover ∧ phase.natAbs ≤ 100 ∧ broadcastOn s then
      setBt s site { b with timing := { b.timing with tree := s.mt.tree, holdover := false, absentSince := none, phasePull := phase.natAbs } }
    else s

def execFrameMarker (site : Fin 100) (phase : Int) (s : State) : Host.Outcome State Fault Refusal := .next (doMarker s site.val phase)

/-- At frame 1,022 of every 1,024 the active barista sends TIME for the next frame that is a multiple of 1,024 (R307). -/
def sendTime (s : State) : State :=
  if frameNo s % 1024 = 1022 ∧ collectorUp s ∧ s.mt.stepAt.isNone then
    emit s (.sig (timePacket (activeSite s) (BitVec.ofNat 64 ((frameNo s + 2) * 1024))))
  else s

/-- Every base tile and every port passes into the new frame; a port whose rings have all locked since its bank came on enters service (R329). -/
def newFrame (s : State) : State :=
  let s := overNats (List.range 8) (fun b s => updBt s b (fun x => { x with timing := stepTiming x.timing })) s
  (s.ports.map (·.1)).foldl (fun s p => updPort s p (fun v => stepLaunch { v with acquiring := v.acquiring && !portLocked s p })) s

/-- A FENCE of a host die empties the shadows of its engine, armed or not, before anything swaps (R128). -/
def fenceShadows (s : State) : Change → State
  | .fence site none _ _ => shadowsOf s site
  | _ => s

/-- FRAME_BOUNDARY: the shadows of fenced engines and port failures first, then the other changes in the order they were named, swaps, a blend-mode change, the
steps of calibration and rings. -/
def doFrame (s : State) : State :=
  let s := doCalStepEnd (newFrame (toBoundary s))
  let due := s.changes.filter (fun c => decide (c.1 ≤ s.now))
  let s := { s with changes := s.changes.filter (fun c => decide (s.now < c.1)), boundary := s.now }
  let s := due.foldl (fun s c => fenceShadows s c.2) s
  let s := portsFail s (due.flatMap (fun c => changePorts s (due.map (·.2)) c.2))
  let s := overNats (List.range 8) (fun b s => applySwap s b) s
  let s := due.foldl (fun s c => applyChange s c.2) s
  let s := ringsBoundary (calAhead (applyBlend s))
  let s := sendTime s
  { s with boundary := s.now }

def execFrameBoundary (s : State) : Host.Outcome State Fault Refusal := .next (doFrame s)

end Sys2Proof.Machine
end

