-- ==== Sys2Proof/Machine/Csr.lean ====
section
/-! DEFINITION. The custom CSRs of a tile (R44 Table 11, R206 Table 6, R261 Table 9): reading, writing, and when a write stalls the
core. -/
namespace Sys2Proof.Machine

def flowBitsOf (t : Tile) : Nat := (flowSt t t.flowSel.toNat).status.toNat

/-- MQ_STATUS (R44): BUSY while a started descriptor has not retired. -/
def mqStatus (t : Tile) : Nat :=
  let q := t.mq
  b2n (!q.started.isEmpty) + 2 * b2n q.halted + 4 * b2n q.aborted + 256 * q.error.toNat + 65536 * q.tag.toNat

def mqFlagBits (q : Mq) : Nat := b2n q.intSat + 2 * b2n q.overflow + 4 * b2n q.nanOut + 8 * b2n q.specialIn

/-- FLAG_VALUE as a tile reads it: its die's copy when the tile subscribes (R209). -/
def flagSeen (s : State) (k : Nat) : Word :=
  let f := (tileAt s k).flagSel.toNat
  match flagOf s f, vtileOf s k with
  | some d, some v => if d.subs.contains v then tget (fun _ => 0) (dieAt s (k / 64)).flagCopy f else 0
  | _, _ => 0

/-- What a custom CSR reads as; a WO CSR reads 0. -/
def customRead (s : State) (k csr : Nat) : Word :=
  let t := tileAt s k
  match csr with
  | 0x800 => t.mq.base.zeroExtend 64
  | 0x801 => t.mq.tail
  | 0x802 => t.mq.head
  | 0x803 => t.mq.done
  | 0x804 => BitVec.ofNat 64 (mqStatus t)
  | 0x805 => BitVec.ofNat 64 (b2n t.mq.enable + 8 * b2n t.mq.notifyIe + 16 * b2n t.mq.errorIe)
  | 0x806 => BitVec.ofNat 64 (mqFlagBits t.mq)
  | 0x807 => t.mq.srSeed
  | 0x808 => t.dma.src.zeroExtend 64
  | 0x809 => t.dma.dst.zeroExtend 64
  | 0x80B => t.dma.done
  | 0x80D => BitVec.ofNat 64 (b2n t.dma.bad)
  | 0x80E => t.flowSel.zeroExtend 64
  | 0x80F => (flowSt t t.flowSel.toNat).count
  | 0x810 => BitVec.ofNat 64 (flowBitsOf t)
  | 0x812 => t.syncSel.zeroExtend 64
  | 0x813 => BitVec.ofNat 64 (epochOf t t.syncSel.toNat % 2 ^ 32)
  | 0x814 => t.flagSel.zeroExtend 64
  | 0x815 => flagSeen s k
  | 0x817 => t.jobInfo
  | 0x818 => t.jobIe.zeroExtend 64
  | 0x81B => t.fabBsel
  | 0x81C => BitVec.ofNat 64 (dieEpoch s (k / 64) t.fabBsel.toNat % 2 ^ 32)
  | 0x81D => t.fabFsel
  | 0x81E => tget (fun _ => 0) (dieAt s (k / 64)).fabCopy t.fabFsel.toNat
  | _ => 0

/-- Does a write of a custom CSR stall the core (R29, R203, R208, R259)? -/
def customStalls (s : State) (k csr : Nat) (v : Word) : Bool :=
  let t := tileAt s k
  match csr with
  | 0x80A => decide (t.dma.queue.length ≥ 8)
  | 0x80C => (partOf s k (v.toNat % 65536)).isSome && decide ((flowSt t (v.toNat % 65536)).open_.length ≥ 4)
  | 0x811 =>
    (match barrierOf s (v.toNat % 256), vtileOf s k with | some b, some x => b.members.contains x | _, _ => false) &&
      decide (arriveCount t (v.toNat % 256) ≥ epochOf t (v.toNat % 256) + 2)
  | 0x81A => tfind t.fabArr (v.toNat % 1024) == some (dieEpoch s (k / 64) (v.toNat % 1024))
  | _ => false

/-- FLOW_STATUS, write 1 to clear. -/
def clearFlowStatus (t : Tile) (v : Word) : Tile :=
  let n := t.flowSel.toNat
  match tfind t.flows n with
  | some f => { t with flows := tput t.flows n { f with status := f.status &&& ~~~(v.extractLsb' 0 4) } }
  | none => t

/-- A CSR whose write only stores the value, or clears what it writes 1 to (R44, R206, R261). -/
def plainCsr (t : Tile) (csr : Nat) (v : Word) : Tile :=
  match csr with
  | 0x806 => { t with mq := { t.mq with intSat := t.mq.intSat && !v.getLsbD 0, overflow := t.mq.overflow && !v.getLsbD 1,
                                        nanOut := t.mq.nanOut && !v.getLsbD 2, specialIn := t.mq.specialIn && !v.getLsbD 3 } }
  | 0x808 => { t with dma := { t.dma with src := v.extractLsb' 0 32 } }
  | 0x809 => { t with dma := { t.dma with dst := v.extractLsb' 0 32 } }
  | 0x80D => { t with dma := { t.dma with bad := t.dma.bad && !v.getLsbD 0 } }
  | 0x80E => { t with flowSel := v.extractLsb' 0 16 }
  | 0x810 => clearFlowStatus t v
  | 0x812 => { t with syncSel := v.extractLsb' 0 8 }
  | 0x814 => { t with flagSel := v.extractLsb' 0 12 }
  | 0x818 => { t with jobIe := v.extractLsb' 0 3 }
  | 0x81B => { t with fabBsel := BitVec.ofNat 64 (v.toNat % 1024) }
  | 0x81D => { t with fabFsel := BitVec.ofNat 64 (v.toNat % 4096) }
  | _ => t

/-- A write of a custom CSR by the core; a write to an RO CSR is ignored. -/
def customWrite (s : State) (k csr : Nat) (v : Word) : State :=
  match csr with
  | 0x800 => updTile s k (fun t => writeBase t v)
  | 0x801 => bumpFree (updTile s k (fun t => writeTail s.freeCtr t v))
  | 0x805 => updTile s k (fun t => writeCtrl t v)
  | 0x807 => updTile s k (fun t => writeSeed t v)
  | 0x80A => updTile s k (fun t => writeDmaLen t v)
  | 0x80C => doDmaFlow s k (v.toNat % 65536)
  | 0x811 => doSyncArrive s k (v.toNat % 256)
  | 0x815 => sendFlag s k 0 v
  | 0x816 => sendFlag s k 1 v
  | 0x819 => doJobExit s k (v.toNat % 65536)
  | 0x81A => doFabArrive s k (v.toNat % 1024)
  | 0x81E => fabSync s k 1 ((tileAt s k).fabFsel.toNat % 4096) v
  | 0x81F => fabSync s k 2 ((tileAt s k).fabFsel.toNat % 4096) v
  | _ => updTile s k (fun t => plainCsr t csr v)

/-- CSR_WRITE (R44): a write to a tile CSR. -/
def execCsrWrite (cd : Fin 16) (t : Fin 64) (csr : Fin 32) (v : Word) (s : State) : Host.Outcome State Fault Refusal :=
  .next (if tileLive s (tkey cd t) then customWrite s (tkey cd t) (0x800 + csr.val) v else s)

end Sys2Proof.Machine
end

