-- ==== Sys2Proof/Machine/Ieee.lean ====
section
/-! DEFINITION. IEEE 754 arithmetic of the control core and the vector unit with its exception flags (R26, R28, R31). Operands and
results are patterns of a format. The flags are those of `fflags`: NV 16, DZ 8, OF 4, UF 2, NX 1. PRESUMED from the RISC-V
standard that R26 and R28 name. -/
namespace Sys2Proof.Machine

/-- A result pattern and the flags it raises. -/
structure FOut where
  bits : Nat
  flags : Nat := 0
deriving DecidableEq, Repr

/-- Is a pattern a signalling NaN? -/
def isSnan (f : Fmt) (w : Nat) : Bool := (decodeF f w).isNan && !bitAt w (f.mbits - 1)

/-- Any signalling NaN among operands raises NV. -/
def nvOf (f : Fmt) (ws : List Nat) : Nat := if ws.any (isSnan f) then 16 else 0

/-- A value rounded, with its flags; `nv` when the operation was invalid. -/
def roundF (f : Fmt) (rm : Rm) (v : FV) (flags : Nat) : FOut :=
  let r := toIeee f rm v
  { bits := r.bits, flags := flags ||| (if r.ovf then 5 else if r.unf then 3 else if r.inexact then 1 else 0) }

/-- An operation whose exact result is a NaN without a NaN operand is invalid. -/
def roundNew (f : Fmt) (rm : Rm) (v : FV) (ws : List Nat) : FOut :=
  let made := v.isNan && !ws.any (fun w => (decodeF f w).isNan)
  roundF f rm v (nvOf f ws ||| (if made then 16 else 0))

def isRdn (rm : Rm) : Bool := rm == .rdn

def flipSign (f : Fmt) (w : Nat) : Nat := w ^^^ f.signBit true

def fAdd (f : Fmt) (rm : Rm) (a b : Nat) : FOut := roundNew f rm (fvSum (isRdn rm) [decodeF f a, decodeF f b]) [a, b]
/-- Subtraction: the second operand is negated unless it is a NaN. -/
def fSub (f : Fmt) (rm : Rm) (a b : Nat) : FOut := roundNew f rm (fvSum (isRdn rm) [decodeF f a, fvNeg (decodeF f b)]) [a, b]
def fMul (f : Fmt) (rm : Rm) (a b : Nat) : FOut := roundNew f rm (fvMul (decodeF f a) (decodeF f b)) [a, b]

def fDiv (f : Fmt) (rm : Rm) (a b : Nat) : FOut :=
  let x := decodeF f a
  let y := decodeF f b
  let dz := y.isZero && !x.isZero && !x.isNan && !x.isInf
  let r := roundNew f rm (fvDiv x y) [a, b]
  { r with flags := r.flags ||| (if dz then 8 else 0) }

def fSqrt (f : Fmt) (rm : Rm) (a : Nat) : FOut := roundNew f rm (fvSqrt (decodeF f a)) [a]

/-- `(-1)^np (a * b) + (-1)^nc c`, rounded once; infinity times zero is invalid even with a quiet NaN addend. -/
def fFma (f : Fmt) (rm : Rm) (np nc : Bool) (a b c : Nat) : FOut :=
  let p := fvMul (decodeF f a) (decodeF f b)
  let p' := if np then fvNeg p else p
  let c' := if nc then fvNeg (decodeF f c) else decodeF f c
  let bad := p.isNan && !(decodeF f a).isNan && !(decodeF f b).isNan
  let r := roundNew f rm (fvSum (isRdn rm) [p', c']) [a, b, c]
  { r with flags := r.flags ||| (if bad then 16 else 0) }

/-- Comparison: NaN answers none. -/
def fOrder (f : Fmt) (a b : Nat) : Option Ordering :=
  let x := decodeF f a
  let y := decodeF f b
  if x.isNan || y.isNan then none else some (fvCmp x y)

/-- The lesser or greater; a single NaN yields the other operand, and -0 lies below +0. -/
def fMinMax (f : Fmt) (max_ : Bool) (a b : Nat) : FOut :=
  let fl := nvOf f [a, b]
  let x := decodeF f a
  let y := decodeF f b
  if x.isNan && y.isNan then { bits := f.qnan, flags := fl }
  else if x.isNan then { bits := b, flags := fl }
  else if y.isNan then { bits := a, flags := fl }
  else
    let less := match fvCmp x y with
      | .lt => true
      | .gt => false
      | .eq => x.neg? && !y.neg?
    { bits := if less != max_ then a else b, flags := fl }

/-- Quiet comparison for equality; signalling for order. -/
def fEq (f : Fmt) (a b : Nat) : FOut := { bits := b2n (fOrder f a b == some .eq), flags := nvOf f [a, b] }
def fLt (f : Fmt) (a b : Nat) : FOut := { bits := b2n (fOrder f a b == some .lt), flags := if (fOrder f a b).isNone then 16 else 0 }
def fLe (f : Fmt) (a b : Nat) : FOut :=
  { bits := b2n (fOrder f a b == some .lt || fOrder f a b == some .eq), flags := if (fOrder f a b).isNone then 16 else 0 }

/-- Sign injection: 0 the sign of b, 1 its inverse, 2 the exclusive or. -/
def fSgnj (f : Fmt) (kind a b : Nat) : Nat :=
  let sa := bitAt a (f.ebits + f.mbits)
  let sb := bitAt b (f.ebits + f.mbits)
  let sg := match kind with | 0 => sb | 1 => !sb | _ => sa != sb
  a % 2 ^ (f.ebits + f.mbits) + f.signBit sg

/-- The class mask of a value. -/
def fClass (f : Fmt) (a : Nat) : Nat :=
  match decodeF f a with
  | .nan => if isSnan f a then 2 ^ 8 else 2 ^ 9
  | .inf s => if s then 1 else 2 ^ 7
  | .fin s m _ =>
    if m = 0 then (if s then 2 ^ 3 else 2 ^ 4)
    else if fld a f.mbits f.ebits = 0 then (if s then 2 ^ 2 else 2 ^ 5)
    else (if s then 2 else 2 ^ 6)

/-- To an integer of `w` bits: out of range and NaN saturate with NV. -/
def fToInt (f : Fmt) (rm : Rm) (signed : Bool) (w : Nat) (a : Nat) : FOut :=
  let hi : Int := if signed then 2 ^ (w - 1) - 1 else 2 ^ w - 1
  let lo : Int := if signed then -(2 ^ (w - 1)) else 0
  match decodeF f a with
  | .nan => { bits := ofInt w hi, flags := 16 }
  | .inf s => { bits := ofInt w (if s then lo else hi), flags := 16 }
  | .fin s m e =>
    let r := fvToInt rm s m e
    if r.1 > hi then { bits := ofInt w hi, flags := 16 }
    else if r.1 < lo then { bits := ofInt w lo, flags := 16 }
    else { bits := ofInt w r.1, flags := if r.2 then 1 else 0 }

def fOfInt (f : Fmt) (rm : Rm) (i : Int) : FOut := roundF f rm (fvOfInt i) 0

/-- From one format to another. -/
def fConv (from_ to_ : Fmt) (rm : Rm) (a : Nat) : FOut := roundF to_ rm (decodeF from_ a) (nvOf from_ [a])

/-- Rounding towards odd, for vfncvt.rod: truncated, the last bit set when inexact. -/
def fConvOdd (from_ to_ : Fmt) (a : Nat) : FOut :=
  let r := fConv from_ to_ .rtz a
  if r.flags % 2 = 1 then { r with bits := r.bits ||| 1 } else r

/-- The rounding mode of an `rm` field: none where it is reserved. -/
def rmOf (frm rm : Nat) : Option Rm :=
  let m := if rm = 7 then frm else rm
  match m with | 0 => some .rne | 1 => some .rtz | 2 => some .rdn | 3 => some .rup | 4 => some .rmm | _ => none

/-! Estimates of the vector unit: 7 bits of the reciprocal and of the reciprocal square root. -/

/-- Significand bits of the reciprocal estimate for an operand whose leading seven significand bits are `i`: the reciprocal of the
middle of its interval, rounded to eight bits. -/
def recTable (i : Nat) : Nat := (2 * 65536 / (257 + 2 * i) + 1) / 2 - 128

/-- Significand bits of the reciprocal square root estimate, for an index of the exponent's low bit and six significand bits. -/
def rsqrtTable (i : Nat) : Nat :=
  (isqrt (4 * 65536 * 128 / ((2 * (64 + i % 64) + 1) * (if i < 64 then 2 else 1))) + 1) / 2 - 128

/-- The exponent and mantissa fields of a nonzero finite pattern with a subnormal brought to a leading one: its exponent may be
zero or negative. -/
def normParts (f : Fmt) (a : Nat) : Int × Nat :=
  let ex := fld a f.mbits f.ebits
  let man := a % 2 ^ f.mbits
  if ex = 0 then
    let sh := f.mbits - Nat.log2 man
    (1 - (sh : Int), man * 2 ^ sh % 2 ^ f.mbits)
  else (ex, man)

/-- vfrec7. -/
def fRec7 (f : Fmt) (rm : Rm) (a : Nat) : FOut :=
  match decodeF f a with
  | .nan => { bits := f.qnan, flags := nvOf f [a] }
  | .inf s => { bits := f.signBit s }
  | .fin s m _ =>
    if m = 0 then { bits := f.signBit s + f.infPat, flags := 8 }
    else
      let p := normParts f a
      let outE : Int := 2 * (f.bias : Int) - 1 - p.1
      if p.1 < -1 then
        let toMax := match rm with
          | .rtz => true
          | .rdn => !s
          | .rup => s
          | _ => false
        { bits := f.signBit s + (if toMax then f.maxFin else f.infPat), flags := 5 }
      else
        let man := recTable (p.2 / 2 ^ (f.mbits - 7)) * 2 ^ (f.mbits - 7)
        if outE ≤ 0 then
          { bits := f.signBit s + (man + 2 ^ f.mbits) / 2 ^ (1 - outE).toNat }
        else { bits := f.signBit s + outE.toNat * 2 ^ f.mbits + man }

/-- vfrsqrt7. -/
def fRsqrt7 (f : Fmt) (a : Nat) : FOut :=
  match decodeF f a with
  | .nan => { bits := f.qnan, flags := nvOf f [a] }
  | .inf s => if s then { bits := f.qnan, flags := 16 } else { bits := 0 }
  | .fin s m _ =>
    if m = 0 then { bits := f.signBit s + f.infPat, flags := 8 }
    else if s then { bits := f.qnan, flags := 16 }
    else
      let p := normParts f a
      let i := (p.1 % 2).toNat * 64 + p.2 / 2 ^ (f.mbits - 6)
      let outE := (3 * (f.bias : Int) - 1 - p.1) / 2
      { bits := outE.toNat * 2 ^ f.mbits + rsqrtTable i * 2 ^ (f.mbits - 7) }

end Sys2Proof.Machine
end

