-- ==== Sys2Proof/Machine/RvState.lean ====
section
/-! DEFINITION. The control core's registers, machine CSRs, traps and memory accesses (R26, R27). What R26 takes from the RISC-V
standard without repeating it is PRESUMED from that standard. -/
namespace Sys2Proof.Machine

/-- How an instruction of a core ends: retired with the next pc, trapped with cause and trap value, or waiting unretired. -/
inductive RvOut where
  | ok (s : State) (pc : Word)
  | trap (s : State) (cause : Nat) (tval : Word)
  | stall
deriving DecidableEq, Repr

def coreAt (s : State) (k : Nat) : CoreSt := (tileAt s k).core
def updCore (s : State) (k : Nat) (f : CoreSt → CoreSt) : State := updTile s k (fun t => { t with core := f t.core })

/-- Integer register; `x0` reads as zero. -/
def xAt (c : CoreSt) (n : Nat) : Word := if n = 0 then 0 else tget (fun _ => 0) c.x n
/-- Write an integer register; a write of `x0` is discarded. -/
def putX (c : CoreSt) (n : Nat) (v : Word) : CoreSt := if n = 0 then c else { c with x := tset (fun _ => 0) c.x n v }
def fAt (c : CoreSt) (n : Nat) : Word := tget (fun _ => 0) c.f n

/-- mstatus with FS dirty; with VS dirty. -/
def dirtyFs (c : CoreSt) : CoreSt := { c with mstatus := c.mstatus ||| 0x6000 }
def dirtyVs (c : CoreSt) : CoreSt := { c with mstatus := c.mstatus ||| 0x600 }
def fsOff (c : CoreSt) : Bool := fld c.mstatus.toNat 13 2 == 0
def vsOff (c : CoreSt) : Bool := fld c.mstatus.toNat 9 2 == 0

/-- Write a floating-point register. -/
def putF (c : CoreSt) (n : Nat) (v : Word) : CoreSt := dirtyFs { c with f := tset (fun _ => 0) c.f n v }
/-- Accrue exception flags. -/
def accrue (c : CoreSt) (flags : Nat) : CoreSt := dirtyFs { c with fcsr := c.fcsr ||| BitVec.ofNat 8 (flags % 32) }

def frmOf (c : CoreSt) : Nat := (c.fcsr.extractLsb' 5 3).toNat

def setXs (s : State) (k n : Nat) (v : Word) : State := updCore s k (fun c => putX c n v)
def setFs (s : State) (k n : Nat) (v : Word) : State := updCore s k (fun c => putF c n v)

/-- A low part of `w` bits, sign-extended to a register. -/
def sx (w n : Nat) : Word := BitVec.ofNat 64 (ofInt 64 (sint w n))

/-! Counters (R27). -/

/-- `mcycle`: counting, or standing while it is inhibited. -/
def cycleNow (s : State) (k : Nat) : Word :=
  let c := coreAt s k
  if c.countInhibit.getLsbD 0 then c.cycle else c.cycle + BitVec.ofNat 64 (tileClocks s k)

/-- Set the count of core clocks. -/
def setCycle (s : State) (k : Nat) (v : Word) : State :=
  let v' := if (coreAt s k).countInhibit.getLsbD 0 then v else v - BitVec.ofNat 64 (tileClocks s k)
  updCore s k (fun c => { c with cycle := v' })

/-- `mcountinhibit`: the counts keep their value as they stop and as they start. -/
def setInhibit (s : State) (k : Nat) (v : Word) : State :=
  let now := cycleNow s k
  let s := updCore s k (fun c => { c with countInhibit := v.extractLsb' 0 3 &&& 5 })
  setCycle s k now

/-! CSRs. -/

/-- Local interrupts that can be enabled and pend (R44, R206): 16 to 20. -/
def localMask : Word := 0x1F0000

def mstatusRead (c : CoreSt) : Word :=
  let sd : Word := if fld c.mstatus.toNat 13 2 = 3 ∨ fld c.mstatus.toNat 9 2 = 3 then 0x8000000000000000 else 0
  c.mstatus ||| 0x1800 ||| sd

/-- RV64 with A, C, D, F, I, M and V. -/
def misaValue : Word := 0x800000000020112D

def isCustom (n : Nat) : Bool := decide (0x800 ≤ n ∧ n < 0x820)

/-- Value of a CSR; none where the core has none, or its unit is off. -/
def csrRead (s : State) (k n : Nat) : Option Word :=
  let c := coreAt s k
  let v := (tileAt s k).vec
  if isCustom n then some (customRead s k n)
  else match n with
  | 0x001 => if fsOff c then none else some ((c.fcsr &&& 31).zeroExtend 64)
  | 0x002 => if fsOff c then none else some (BitVec.ofNat 64 (frmOf c))
  | 0x003 => if fsOff c then none else some (c.fcsr.zeroExtend 64)
  | 0x008 => if vsOff c then none else some v.vstart
  | 0x009 => if vsOff c then none else some (BitVec.ofNat 64 (b2n v.vxsat))
  | 0x00A => if vsOff c then none else some (v.vxrm.zeroExtend 64)
  | 0x00F => if vsOff c then none else some (BitVec.ofNat 64 (b2n v.vxsat + 2 * v.vxrm.toNat))
  | 0xC20 => if vsOff c then none else some v.vl
  | 0xC21 => if vsOff c then none else some v.vtype
  | 0xC22 => if vsOff c then none else some 256
  | 0xC00 => some (cycleNow s k)
  | 0xC01 => some (BitVec.ofInt 64 (siteCount s (siteCD (k / 64))))
  | 0xC02 => some c.instret
  | 0x300 => some (mstatusRead c)
  | 0x301 => some misaValue
  | 0x304 => some c.mie
  | 0x305 => some c.mtvec
  | 0x320 => some (c.countInhibit.zeroExtend 64)
  | 0x340 => some c.mscratch
  | 0x341 => some c.mepc
  | 0x342 => some c.mcause
  | 0x343 => some c.mtval
  | 0x344 => some c.mip
  | 0xB00 => some (cycleNow s k)
  | 0xB02 => some c.instret
  | 0xF11 => some (Config.coreId 0xF11 k)
  | 0xF12 => some (Config.coreId 0xF12 k)
  | 0xF13 => some (Config.coreId 0xF13 k)
  | 0xF14 => some (Config.coreId 0xF14 k)
  | 0xF15 => some 0
  | _ => if (0xB03 ≤ n ∧ n ≤ 0xB1F) ∨ (0x323 ≤ n ∧ n ≤ 0x33F) then some 0 else none

/-- Write a CSR that `csrRead` finds and that is not read-only by its number. -/
def csrWrite (s : State) (k n : Nat) (v : Word) : State :=
  let up := updCore s k
  let uv (f : VecSt → VecSt) := updTile s k (fun t => { t with vec := f t.vec, core := dirtyVs t.core })
  if isCustom n then customWrite s k n v
  else match n with
  | 0x001 => up (fun c => dirtyFs { c with fcsr := (c.fcsr &&& 0xE0) ||| (v.extractLsb' 0 8 &&& 31) })
  | 0x002 => up (fun c => dirtyFs { c with fcsr := (c.fcsr &&& 31) ||| (v.extractLsb' 0 8 <<< 5) })
  | 0x003 => up (fun c => dirtyFs { c with fcsr := v.extractLsb' 0 8 })
  | 0x008 => uv (fun w => { w with vstart := v &&& 2047 })
  | 0x009 => uv (fun w => { w with vxsat := v.getLsbD 0 })
  | 0x00A => uv (fun w => { w with vxrm := v.extractLsb' 0 2 })
  | 0x00F => uv (fun w => { w with vxsat := v.getLsbD 0, vxrm := v.extractLsb' 1 2 })
  | 0x300 => up (fun c => { c with mstatus := v &&& 0x6688 })
  | 0x304 => up (fun c => { c with mie := v &&& localMask })
  | 0x305 => up (fun c => { c with mtvec := v &&& ~~~2 })
  | 0x320 => setInhibit s k v
  | 0x340 => up (fun c => { c with mscratch := v })
  | 0x341 => up (fun c => { c with mepc := v &&& ~~~1 })
  | 0x342 => up (fun c => { c with mcause := v })
  | 0x343 => up (fun c => { c with mtval := v })
  | 0x344 => up (fun c => { c with mip := v &&& localMask })
  | 0xB00 => setCycle s k v
  | 0xB02 => up (fun c => { c with instret := v })
  | _ => s

/-! Traps. -/

/-- Enter the machine-mode handler: `mepc`, `mcause`, `mtval`, MPIE takes MIE and MIE is cleared. -/
def enterTrap (c : CoreSt) (cause tval target : Word) : CoreSt :=
  let st := (c.mstatus &&& ~~~0x88) ||| (if c.mstatus.getLsbD 3 then 0x80 else 0)
  { c with mepc := c.pc, mcause := cause, mtval := tval, mstatus := st, pc := target }

/-- An exception: the handler's address is the base of `mtvec`, and nothing happens outside the tile (R26). -/
def takeException (c : CoreSt) (cause : Nat) (tval : Word) : CoreSt :=
  enterTrap c (BitVec.ofNat 64 cause) (if Config.tvalWritten cause then tval else 0) (c.mtvec &&& ~~~3)

/-- An interrupt: vectored when `mtvec` says so. -/
def takeInterrupt (c : CoreSt) (n : Nat) : CoreSt :=
  let base := c.mtvec &&& ~~~3
  enterTrap c (BitVec.ofNat 64 (2 ^ 63 + n)) 0 (if c.mtvec.getLsbD 0 then base + BitVec.ofNat 64 (4 * n) else base)

/-- The interrupts that are pending and enabled, while MIE is set. -/
def readyIrqs (c : CoreSt) : List Nat :=
  if c.mstatus.getLsbD 3 then upto 64 (fun n => (c.mip &&& c.mie).getLsbD n) else []

/-- MRET. -/
def doMret (c : CoreSt) : CoreSt :=
  { c with mstatus := (c.mstatus &&& ~~~8) ||| 0x80 ||| (if c.mstatus.getLsbD 7 then 8 else 0) }

/-- FENCE.I: nothing stays cached (R25, R26). -/
def flushCache (s : State) (k : Nat) : State := updTile s k (fun t => { t with icache := [] })

/-! Memory accesses. -/

/-- Is an access outside the core's address space, or in a bank that is mapped out (R26, R445)? -/
def accessBad (t : Tile) (a len : Nat) : Bool := (coreRange a len).isNone || touchesOut t a len

/-- The cause of the exception an access takes, if any: misaligned `mis`, access fault `acc`. -/
def accessCause (t : Tile) (a len mis acc : Nat) : Option Nat :=
  if a % len ≠ 0 ∧ Config.misalignedTraps then some mis
  else if accessBad t a len then some acc
  else none

/-- Read bytes at a core address: check-code effects, poison and content (R60, R72). -/
def coreLoad (s : State) (k a len : Nat) : State × List Byte :=
  match coreRange a len with
  | none => (s, [])
  | some (deep, off) =>
    let t := tileAt s k
    let hurt := storePoison (storeOf t deep) off len
    let s' := readEffects s k deep off len
    (if hurt then consumePoison s' k a else s', tileRead s.ticks t deep off len)

/-- Write bytes at a core address. -/
def coreStore (s : State) (k a : Nat) (bs : List Byte) : State :=
  match coreRange a bs.length with
  | none => s
  | some (deep, off) => updTile s k (fun t => tileWrite t deep off bs false)

end Sys2Proof.Machine
end

