-- ==== Sys2Proof/Machine/RvInt.lean ====
section
/-! DEFINITION. The integer instructions of the control core: RV64I, M, A, Zicsr and Zifencei (R26; the meanings PRESUMED from the
RISC-V standard). -/
namespace Sys2Proof.Machine

/-- Fields of a 32-bit instruction. -/
def iRd (w : Nat) : Nat := fld w 7 5
def iF3 (w : Nat) : Nat := fld w 12 3
def iRs1 (w : Nat) : Nat := fld w 15 5
def iRs2 (w : Nat) : Nat := fld w 20 5
def iF7 (w : Nat) : Nat := fld w 25 7
def immI (w : Nat) : Word := sx 12 (fld w 20 12)
def immS (w : Nat) : Word := sx 12 (fld w 7 5 + fld w 25 7 * 32)
def immB (w : Nat) : Word := sx 13 (fld w 8 4 * 2 + fld w 25 6 * 32 + fld w 7 1 * 2048 + fld w 31 1 * 4096)
def immU (w : Nat) : Word := sx 32 (fld w 12 20 * 4096)
def immJ (w : Nat) : Word := sx 21 (fld w 21 10 * 2 + fld w 20 1 * 2048 + fld w 12 8 * 4096 + fld w 31 1 * 2 ^ 20)

/-- Integer arithmetic of OP and OP-IMM; `alt` selects subtraction and the arithmetic shift. -/
def aluOp (f3 : Nat) (alt : Bool) (a b : Word) : Word :=
  match f3 with
  | 0 => if alt then a - b else a + b
  | 1 => a <<< (b.toNat % 64)
  | 2 => if a.slt b then 1 else 0
  | 3 => if a.ult b then 1 else 0
  | 4 => a ^^^ b
  | 5 => if alt then a.sshiftRight (b.toNat % 64) else a >>> (b.toNat % 64)
  | 6 => a ||| b
  | _ => a &&& b

/-- The same on the low words, the result sign-extended. -/
def aluW (f3 : Nat) (alt : Bool) (a b : Word) : Word :=
  let x := a.extractLsb' 0 32
  let y := b.extractLsb' 0 32
  let n := y.toNat % 32
  let r : BitVec 32 := match f3 with
    | 0 => if alt then x - y else x + y
    | 1 => x <<< n
    | _ => if alt then x.sshiftRight n else x >>> n
  r.signExtend 64

/-- Multiplication and division of integers of `n` bits: a division by zero answers all ones or the dividend, the one overflow
the dividend or zero. -/
def mulDiv (n f3 : Nat) (a b : BitVec n) : BitVec n :=
  match f3 with
  | 0 => a * b
  | 1 => BitVec.ofInt n (a.toInt * b.toInt / 2 ^ n)
  | 2 => BitVec.ofInt n (a.toInt * b.toNat / 2 ^ n)
  | 3 => BitVec.ofNat n (a.toNat * b.toNat / 2 ^ n)
  | 4 => if b = 0 then BitVec.allOnes n else a.sdiv b
  | 5 => if b = 0 then BitVec.allOnes n else a / b
  | 6 => if b = 0 then a else a.srem b
  | _ => if b = 0 then a else a % b

/-- Is a branch taken? None for a reserved condition. -/
def branchTaken (f3 : Nat) (a b : Word) : Option Bool :=
  match f3 with
  | 0 => some (a == b)
  | 1 => some (a != b)
  | 4 => some (a.slt b)
  | 5 => some (!a.slt b)
  | 6 => some (a.ult b)
  | 7 => some (!a.ult b)
  | _ => none

/-- OP and OP-32; none where the encoding is reserved. -/
def opResult (w32 : Bool) (f3 f7 : Nat) (a b : Word) : Option Word :=
  if f7 = 1 then
    if w32 then
      if f3 = 0 ∨ 4 ≤ f3 then some ((mulDiv 32 f3 (a.extractLsb' 0 32) (b.extractLsb' 0 32)).signExtend 64) else none
    else some (mulDiv 64 f3 a b)
  else if f7 = 0 ∨ (f7 = 0x20 ∧ (f3 = 0 ∨ f3 = 5)) then
    if w32 then (if f3 = 0 ∨ f3 = 1 ∨ f3 = 5 then some (aluW f3 (f7 == 0x20) a b) else none)
    else some (aluOp f3 (f7 == 0x20) a b)
  else none

/-- OP-IMM and OP-IMM-32. -/
def opImmResult (w32 : Bool) (w : Nat) (a : Word) : Option Word :=
  let f3 := iF3 w
  if f3 = 1 ∨ f3 = 5 then
    let sh := BitVec.ofNat 64 (if w32 then fld w 20 5 else fld w 20 6)
    let top := if w32 then iF7 w else 2 * fld w 26 6
    if top = 0 ∨ (top = 0x20 ∧ f3 = 5) then
      some (if w32 then aluW f3 (top == 0x20) a sh else aluOp f3 (top == 0x20) a sh)
    else none
  else if w32 then (if f3 = 0 then some (aluW 0 false a (immI w)) else none)
  else some (aluOp f3 false a (immI w))

/-- A loaded value as a register holds it. -/
def extendLoad (f3 : Nat) (bs : List Byte) : Word :=
  let n := leNat bs
  if f3 < 3 then sx (8 * bs.length) n else BitVec.ofNat 64 n

/-- The result an atomic operation stores. -/
def amoResult (n f5 : Nat) (old v : BitVec n) : Option (BitVec n) :=
  match f5 with
  | 0x01 => some v
  | 0x00 => some (old + v)
  | 0x04 => some (old ^^^ v)
  | 0x0C => some (old &&& v)
  | 0x08 => some (old ||| v)
  | 0x10 => some (if old.slt v then old else v)
  | 0x14 => some (if old.slt v then v else old)
  | 0x18 => some (if old.ult v then old else v)
  | 0x1C => some (if old.ult v then v else old)
  | _ => none

/-- An access of LR, SC or an AMO must be aligned. -/
def atomicCause (t : Tile) (a len mis acc : Nat) : Option Nat :=
  if a % len ≠ 0 then some mis else if accessBad t a len then some acc else none

/-- Does SC succeed? It fails without a reservation and outside the reserved 64 B line; elsewhere in the line freely. -/
def scSucceeds (s : State) (c : CoreSt) (a : Nat) : Bool :=
  match c.reservation with
  | none => false
  | some r => r / 64 == a / 64 && (r == a || Config.freeBool s.freeCtr 0x80000000)

/-- The A instructions. -/
def execAmo (s : State) (k w : Nat) (next : Word) : RvOut :=
  let c := coreAt s k
  let t := tileAt s k
  let a := xAt c (iRs1 w)
  let v := xAt c (iRs2 w)
  let f5 := fld w 27 5
  let len := if iF3 w = 2 then 4 else 8
  let old (bs : List Byte) : Word := sx (8 * len) (leNat bs)
  if iF3 w ≠ 2 ∧ iF3 w ≠ 3 then .trap s 2 (BitVec.ofNat 64 w)
  else if f5 = 2 then
    if iRs2 w ≠ 0 then .trap s 2 (BitVec.ofNat 64 w)
    else match atomicCause t a.toNat len 4 5 with
    | some e => .trap s e a
    | none =>
      let r := coreLoad s k a.toNat len
      .ok (updCore r.1 k (fun c => { putX c (iRd w) (old r.2) with reservation := some a.toNat })) next
  else match atomicCause t a.toNat len 6 7 with
  | some e => .trap s e a
  | none =>
    if f5 = 3 then
      let good := scSucceeds s c a.toNat
      let s' := if good then coreStore s k a.toNat (toLe len v.toNat) else s
      .ok (updCore s' k (fun c => { putX c (iRd w) (if good then 0 else 1) with reservation := none })) next
    else match amoResult (8 * len) f5 (BitVec.ofNat (8 * len) 0) (BitVec.ofNat (8 * len) 0) with
    | none => .trap s 2 (BitVec.ofNat 64 w)
    | some _ =>
      let r := coreLoad s k a.toNat len
      let new := (amoResult (8 * len) f5 (BitVec.ofNat (8 * len) (leNat r.2)) (BitVec.ofNat (8 * len) v.toNat)).getD 0
      .ok (setXs (coreStore r.1 k a.toNat (toLe len new.toNat)) k (iRd w) (old r.2)) next

/-- The CSR instructions (Zicsr). A write that the hardware holds leaves the instruction waiting; the instruction retires before its
write takes effect, so that a written count reads as written. -/
def execZicsr (s : State) (k w : Nat) (next : Word) : RvOut :=
  let c := coreAt s k
  let n := fld w 20 12
  let src := if iF3 w ≥ 4 then BitVec.ofNat 64 (iRs1 w) else xAt c (iRs1 w)
  let writes := iF3 w % 4 == 1 || iRs1 w != 0
  match csrRead s k n with
  | none => .trap s 2 (BitVec.ofNat 64 w)
  | some old =>
    let new := match iF3 w % 4 with
      | 1 => src
      | 2 => old ||| src
      | _ => old &&& ~~~src
    if writes && decide (n / 1024 = 3) then .trap s 2 (BitVec.ofNat 64 w)
    else if writes && isCustom n && customStalls s k n new then .stall
    else
      let s := setXs s k (iRd w) old
      if writes then .ok (csrWrite s k n new) next else .ok s next

/-- SYSTEM: ECALL, EBREAK, MRET, WFI (which ends at once) and the CSR instructions. -/
def execSystem (s : State) (k w : Nat) (pc next : Word) : RvOut :=
  if iF3 w = 0 then
    if w = 0x00000073 then .trap s 11 0
    else if w = 0x00100073 then .trap s 3 pc
    else if w = 0x30200073 then .ok (updCore s k doMret) (coreAt s k).mepc
    else if w = 0x10500073 then .ok s next
    else .trap s 2 (BitVec.ofNat 64 w)
  else if iF3 w = 4 then .trap s 2 (BitVec.ofNat 64 w)
  else execZicsr s k w next

def execLoad (s : State) (k w : Nat) (next : Word) : RvOut :=
  let a := xAt (coreAt s k) (iRs1 w) + immI w
  let len := 2 ^ (iF3 w % 4)
  if iF3 w = 7 then .trap s 2 (BitVec.ofNat 64 w)
  else match accessCause (tileAt s k) a.toNat len 4 5 with
  | some e => .trap s e a
  | none =>
    let r := coreLoad s k a.toNat len
    .ok (setXs r.1 k (iRd w) (extendLoad (iF3 w) r.2)) next

def execStoreI (s : State) (k w : Nat) (next : Word) : RvOut :=
  let c := coreAt s k
  let a := xAt c (iRs1 w) + immS w
  let len := 2 ^ iF3 w
  if iF3 w > 3 then .trap s 2 (BitVec.ofNat 64 w)
  else match accessCause (tileAt s k) a.toNat len 6 7 with
  | some e => .trap s e a
  | none => .ok (coreStore s k a.toNat (toLe len (xAt c (iRs2 w)).toNat)) next

/-- A register result, or an illegal instruction. -/
def retX (s : State) (k w : Nat) (next : Word) (r : Option Word) : RvOut :=
  match r with
  | some v => .ok (setXs s k (iRd w) v) next
  | none => .trap s 2 (BitVec.ofNat 64 w)

/-- An integer instruction of 32 bits, or the expansion of a compressed one. -/
def execInt (s : State) (k w : Nat) (pc next : Word) : RvOut :=
  let c := coreAt s k
  let a := xAt c (iRs1 w)
  let b := xAt c (iRs2 w)
  match w % 128 with
  | 0x37 => retX s k w next (some (immU w))
  | 0x17 => retX s k w next (some (pc + immU w))
  | 0x6F => .ok (setXs s k (iRd w) next) (pc + immJ w)
  | 0x67 => if iF3 w = 0 then .ok (setXs s k (iRd w) next) ((a + immI w) &&& ~~~1) else .trap s 2 (BitVec.ofNat 64 w)
  | 0x63 =>
    match branchTaken (iF3 w) a b with
    | some yes => .ok s (if yes then pc + immB w else next)
    | none => .trap s 2 (BitVec.ofNat 64 w)
  | 0x03 => execLoad s k w next
  | 0x23 => execStoreI s k w next
  | 0x13 => retX s k w next (opImmResult false w a)
  | 0x1B => retX s k w next (opImmResult true w a)
  | 0x33 => retX s k w next (opResult false (iF3 w) (iF7 w) a b)
  | 0x3B => retX s k w next (opResult true (iF3 w) (iF7 w) a b)
  | 0x0F => if iF3 w = 0 then .ok s next else if iF3 w = 1 then .ok (flushCache s k) next else .trap s 2 (BitVec.ofNat 64 w)
  | 0x2F => execAmo s k w next
  | 0x73 => execSystem s k w pc next
  | _ => .trap s 2 (BitVec.ofNat 64 w)

end Sys2Proof.Machine
end

