-- ==== Sys2Proof/Machine/RvFloat.lean ====
section
/-! DEFINITION. The floating-point instructions of the control core: F, D, and the half-precision moves and conversions that R28's
Zvfh and Zvfbfwma depend on (R26; the meanings PRESUMED from the RISC-V standard). -/
namespace Sys2Proof.Machine

/-- A value of a narrower format in a 64-bit register: the upper bits are ones. -/
def boxF (width n : Nat) : Word := BitVec.ofNat 64 (2 ^ 64 - 2 ^ width + n % 2 ^ width)

/-- A register read as a format: the canonical NaN where it is not boxed. -/
def unboxF (f : Fmt) (v : Word) : Nat :=
  if v.toNat / 2 ^ f.width = 2 ^ (64 - f.width) - 1 then v.toNat % 2 ^ f.width else f.qnan

/-- Formats by the `fmt` field: single, double, half. -/
def fmtCode (n : Nat) : Option Fmt :=
  match n with
  | 0 => some fmtF32
  | 1 => some fmtF64
  | 2 => some fmtF16
  | _ => none

/-- Write a result and accrue its flags. -/
def retF (s : State) (k w : Nat) (next : Word) (f : Fmt) (r : FOut) : RvOut :=
  .ok (updCore s k (fun c => accrue (putF c (iRd w) (boxF f.width r.bits)) r.flags)) next

def retFx (s : State) (k w : Nat) (next : Word) (v : Word) (flags : Nat) : RvOut :=
  .ok (updCore s k (fun c => accrue (putX c (iRd w) v) flags)) next

def illegal (s : State) (w : Nat) : RvOut := .trap s 2 (BitVec.ofNat 64 w)

/-- Loads and stores of the floating-point registers: 2, 4 or 8 bytes. -/
def execFload (s : State) (k w : Nat) (next : Word) : RvOut :=
  let a := xAt (coreAt s k) (iRs1 w) + immI w
  let len := 2 ^ iF3 w
  if iF3 w = 4 then illegal s w
  else match accessCause (tileAt s k) a.toNat len 4 5 with
  | some e => .trap s e a
  | none =>
    let r := coreLoad s k a.toNat len
    .ok (setFs r.1 k (iRd w) (boxF (8 * len) (leNat r.2))) next

def execFstore (s : State) (k w : Nat) (next : Word) : RvOut :=
  let c := coreAt s k
  let a := xAt c (iRs1 w) + immS w
  let len := 2 ^ iF3 w
  if iF3 w = 4 then illegal s w
  else match accessCause (tileAt s k) a.toNat len 6 7 with
  | some e => .trap s e a
  | none => .ok (coreStore s k a.toNat (toLe len (fAt c (iRs2 w)).toNat)) next

/-- Fused multiply-add: FMADD, FMSUB, FNMSUB, FNMADD of single and double. -/
def execFmaOp (s : State) (k w : Nat) (next : Word) : RvOut :=
  let c := coreAt s k
  match fmtCode (fld w 25 2), rmOf (frmOf c) (iF3 w) with
  | some f, some rm =>
    if f = fmtF16 then illegal s w
    else
      let kind := fld w 2 2
      let neg := kind == 2 || kind == 3
      let r := fFma f rm neg (kind == 1 || kind == 3) (unboxF f (fAt c (iRs1 w))) (unboxF f (fAt c (iRs2 w))) (unboxF f (fAt c (fld w 27 5)))
      retF s k w next f r
  | _, _ => illegal s w

/-- Conversion between formats: the source is named by `rs2`. -/
def convFormats (dst src : Nat) : Option (Fmt × Fmt) :=
  match dst, src with
  | 0, 1 => some (fmtF64, fmtF32)
  | 0, 2 => some (fmtF16, fmtF32)
  | 0, 6 => some (fmtBF16, fmtF32)
  | 1, 0 => some (fmtF32, fmtF64)
  | 1, 2 => some (fmtF16, fmtF64)
  | 2, 0 => some (fmtF32, fmtF16)
  | 2, 1 => some (fmtF64, fmtF16)
  | 2, 8 => some (fmtF32, fmtBF16)
  | _, _ => none

/-- Conversions and moves, and what half precision shares with the other formats. -/
def execFcvt (s : State) (k w : Nat) (next : Word) (f : Fmt) : RvOut :=
  let c := coreAt s k
  let rm := rmOf (frmOf c) (iF3 w)
  let raw := fAt c (iRs1 w)
  let half := f == fmtF16
  match fld w 27 5 with
  | 0x08 =>
    match convFormats (fld w 25 2) (iRs2 w), rm with
    | some (src, dst), some rm => retF s k w next dst (fConv src dst rm (unboxF src raw))
    | _, _ => illegal s w
  | 0x18 =>
    match rm with
    | some rm =>
      if half ∨ iRs2 w > 3 then illegal s w
      else
        let n := if iRs2 w < 2 then 32 else 64
        let r := fToInt f rm (iRs2 w % 2 == 0) n (unboxF f raw)
        retFx s k w next (sx n r.bits) r.flags
    | none => illegal s w
  | 0x1A =>
    match rm with
    | some rm =>
      if half ∨ iRs2 w > 3 then illegal s w
      else
        let x := xAt c (iRs1 w)
        let i : Int := match iRs2 w with
          | 0 => (x.extractLsb' 0 32).toInt
          | 1 => (x.extractLsb' 0 32).toNat
          | 2 => x.toInt
          | _ => x.toNat
        retF s k w next f (fOfInt f rm i)
    | none => illegal s w
  | 0x1C =>
    if iRs2 w ≠ 0 then illegal s w
    else if iF3 w = 0 then .ok (setXs s k (iRd w) (sx f.width raw.toNat)) next
    else if iF3 w = 1 ∧ !half then .ok (setXs s k (iRd w) (BitVec.ofNat 64 (fClass f (unboxF f raw)))) next
    else illegal s w
  | 0x1E =>
    if iRs2 w = 0 ∧ iF3 w = 0 then .ok (setFs s k (iRd w) (boxF f.width (xAt c (iRs1 w)).toNat)) next
    else illegal s w
  | _ => illegal s w

/-- OP-FP. -/
def execFpOp (s : State) (k w : Nat) (next : Word) : RvOut :=
  let c := coreAt s k
  match fmtCode (fld w 25 2) with
  | none => illegal s w
  | some f =>
    let f5 := fld w 27 5
    if f = fmtF16 ∨ f5 ∈ [0x08, 0x18, 0x1A, 0x1C, 0x1E] then execFcvt s k w next f
    else
      let a := unboxF f (fAt c (iRs1 w))
      let b := unboxF f (fAt c (iRs2 w))
      match f5 with
      | 0x04 => if iF3 w < 3 then .ok (setFs s k (iRd w) (boxF f.width (fSgnj f (iF3 w) a b))) next else illegal s w
      | 0x05 => if iF3 w < 2 then retF s k w next f (fMinMax f (iF3 w == 1) a b) else illegal s w
      | 0x14 =>
        let r : Option FOut := match iF3 w with
          | 0 => some (fLe f a b)
          | 1 => some (fLt f a b)
          | 2 => some (fEq f a b)
          | _ => none
        (match r with
         | some r => retFx s k w next (BitVec.ofNat 64 r.bits) r.flags
         | none => illegal s w)
      | _ =>
        match rmOf (frmOf c) (iF3 w) with
        | none => illegal s w
        | some rm =>
          match f5 with
          | 0x00 => retF s k w next f (fAdd f rm a b)
          | 0x01 => retF s k w next f (fSub f rm a b)
          | 0x02 => retF s k w next f (fMul f rm a b)
          | 0x03 => retF s k w next f (fDiv f rm a b)
          | 0x0B => if iRs2 w = 0 then retF s k w next f (fSqrt f rm a) else illegal s w
          | _ => illegal s w

/-- A floating-point instruction; illegal while the unit is off (mstatus.FS = 0). -/
def execFloat (s : State) (k w : Nat) (next : Word) : RvOut :=
  if fsOff (coreAt s k) then illegal s w
  else match w % 128 with
  | 0x07 => execFload s k w next
  | 0x27 => execFstore s k w next
  | 0x53 => execFpOp s k w next
  | _ => execFmaOp s k w next

/-- Is an opcode one of the floating-point unit's? -/
def isFloatOp (w : Nat) : Bool := [0x07, 0x27, 0x43, 0x47, 0x4B, 0x4F, 0x53].contains (w % 128)

/-- Is an instruction one of the vector unit's (R28)? -/
def isVectorOp (w : Nat) : Bool :=
  w % 128 == 0x57 || ((w % 128 == 0x07 || w % 128 == 0x27) && [0, 5, 6, 7].contains (iF3 w))

/-- A scalar instruction. -/
def execScalar (s : State) (k w : Nat) (pc next : Word) : RvOut :=
  if isFloatOp w then execFloat s k w next else execInt s k w pc next

end Sys2Proof.Machine
end

