-- ==== Sys2Proof/Machine/VecState.lean ====
section
/-! DEFINITION. The vector unit's registers, its type register, and how an instruction writes elements (R28; PRESUMED from the RISC-V
V extension version 1.0 that R28 names). -/
namespace Sys2Proof.Machine

/-- VLEN (R28). -/
def vlen : Nat := 2048

abbrev VRegs := Tbl (BitVec 2048)

def vreg (v : VRegs) (r : Nat) : BitVec 2048 := tget (fun _ => 0) v r

/-- Element `i` of width `e` in the group that starts at register `r`. -/
def vel (v : VRegs) (r e i : Nat) : Nat := ((vreg v (r + i * e / vlen)).extractLsb' (i * e % vlen) e).toNat

/-- Write an element. -/
def vput (v : VRegs) (r e i x : Nat) : VRegs :=
  let q := r + i * e / vlen
  let sh := i * e % vlen
  let ones : BitVec 2048 := BitVec.ofNat 2048 (2 ^ e - 1) <<< sh
  tset (fun _ => 0) v q ((vreg v q &&& ~~~ones) ||| (BitVec.ofNat 2048 (x % 2 ^ e) <<< sh))

def vbit (v : VRegs) (r i : Nat) : Bool := (vreg v r).getLsbD i

/-- What an arithmetic instruction reads: the registers, SEW, the log of LMUL, vl, vstart, the tail and mask policies, whether it is
masked, the rounding modes, and the counter of free values. -/
structure VCfg where
  v : VRegs
  sew : Nat
  lm : Int
  vl : Nat
  vstart : Nat
  ta : Bool
  ma : Bool
  masked : Bool
  vxrm : Nat
  rm : Rm
  ctr : Nat
  core : CoreSt
deriving DecidableEq, Repr

/-- One element's result. -/
structure EOut where
  bits : Nat
  flags : Nat := 0
  sat : Bool := false
deriving DecidableEq, Repr

/-- What an instruction leaves: the registers, flags accrued, vxsat, and a scalar result. -/
structure VOut where
  v : VRegs
  flags : Nat := 0
  sat : Bool := false
  x : Option Word := none
  f : Option Word := none
deriving DecidableEq, Repr

/-! The type register. -/

def vill : Word := 0x8000000000000000

/-- Log of LMUL from its field; none for the reserved one. -/
def lmulLog (n : Nat) : Option Int :=
  match n with
  | 0 => some 0 | 1 => some 1 | 2 => some 2 | 3 => some 3 | 5 => some (-3) | 6 => some (-2) | 7 => some (-1)
  | _ => none

/-- Registers of a group whose EMUL has a log. -/
def groupRegs (l : Int) : Nat := 2 ^ l.toNat

/-- Elements of width `e` that a group holds. -/
def groupLen (e : Nat) (l : Int) : Nat := if l ≥ 0 then 2 ^ l.toNat * vlen / e else vlen / 2 ^ (-l).toNat / e

/-- SEW and the log of LMUL that a vtype value asks for; none where it is not supported: SEW above 64, above 64 LMUL, or a reserved
bit set. -/
def vtypeParts (t : Word) : Option (Nat × Int) :=
  let n := t.toNat
  if n / 256 ≠ 0 ∨ fld n 3 3 > 3 then none
  else match lmulLog (n % 8) with
  | some l =>
    let sew := 2 ^ (3 + fld n 3 3)
    if l < 0 ∧ sew * 2 ^ (-l).toNat > 64 then none else some (sew, l)
  | none => none

/-- Log of the width of an element of `e` bits. -/
def wlog (e : Nat) : Int := Nat.log2 e

/-- Log of the EMUL of operands of width `e`. -/
def emul (g : VCfg) (e : Nat) : Int := g.lm + wlog e - wlog g.sew

/-- Is a register the base of a group of that EMUL, and the EMUL one there is? -/
def okGroup (r : Nat) (l : Int) : Bool := decide (-3 ≤ l ∧ l ≤ 3) && r % groupRegs l == 0 && decide (r + groupRegs l ≤ 32)

def groupsMeet (a : Nat) (la : Int) (b : Nat) (lb : Int) : Bool := decide (a < b + groupRegs lb ∧ b < a + groupRegs la)

/-- May a destination group overlap a source group? Widths 1 stand for masks. -/
def overlapOk (vd : Nat) (dl : Int) (de vs : Nat) (sl : Int) (se : Nat) : Bool :=
  !groupsMeet vd dl vs sl || de == se || (decide (de < se) && vd == vs) ||
    (decide (de > se) && decide (0 ≤ sl) && vs + groupRegs sl == vd + groupRegs dl)

/-- A masked instruction may not write over the mask it reads, unless what it writes is a mask or a scalar. -/
def maskOk (g : VCfg) (vd : Nat) : Bool := !(g.masked && vd == 0)

/-! Writing elements. -/

def activeEl (g : VCfg) (i : Nat) : Bool := !g.masked || vbit g.v 0 i

/-- An element whose policy is agnostic keeps its value or becomes all ones, freely. -/
def agnostic (g : VCfg) (yes : Bool) (v : VRegs) (vd e i : Nat) : VRegs :=
  if yes && Config.freeBool g.ctr (0x90000000 + 65536 * vd + i) then vput v vd e i (2 ^ e - 1) else v

/-- The elements of a destination group, those of the rest of its one register included while EMUL is below 1. -/
def tailEnd (e : Nat) (l : Int) : Nat := groupRegs l * vlen / e

/-- Elements from `a` on below `b`. -/
def span (a b : Nat) : List Nat := (List.range (b - a)).map (· + a)

/-- The tail of a destination. -/
def vTail (g : VCfg) (v : VRegs) (vd e from_ : Nat) (l : Int) : VRegs :=
  (span from_ (tailEnd e l)).foldl (fun v i => agnostic g g.ta v vd e i) v

/-- Write the body elements from `lo` on, then the tail. Nothing is written where there is no body. -/
def vMapFrom (g : VCfg) (vd e lo : Nat) (f : Nat → EOut) : VOut :=
  if g.vstart ≥ g.vl then { v := g.v }
  else
    let o := (span (max lo g.vstart) g.vl).foldl (fun (o : VOut) i =>
      if activeEl g i then
        let r := f i
        { o with v := vput o.v vd e i r.bits, flags := o.flags ||| r.flags, sat := o.sat || r.sat }
      else { o with v := agnostic g g.ma o.v vd e i }) { v := g.v }
    { o with v := vTail g o.v vd e g.vl (emul g e) }

def vMap (g : VCfg) (vd e : Nat) (f : Nat → EOut) : VOut := vMapFrom g vd e 0 f

/-- The tail of a mask destination is free: each bit is either. -/
def maskTail (g : VCfg) (v : VRegs) (vd : Nat) : VRegs :=
  (span g.vl vlen).foldl (fun v i => vput v vd 1 i (b2n (Config.freeBool g.ctr (0x90000000 + 65536 * vd + i)))) v

/-- Write a mask: bits of the body, then the tail. -/
def vMapMask (g : VCfg) (vd : Nat) (f : Nat → EOut) : VOut :=
  if g.vstart ≥ g.vl then { v := g.v }
  else
    let o := (span g.vstart g.vl).foldl (fun (o : VOut) i =>
      if activeEl g i then
        let r := f i
        { o with v := vput o.v vd 1 i r.bits, flags := o.flags ||| r.flags }
      else { o with v := agnostic g g.ma o.v vd 1 i }) { v := g.v }
    { o with v := maskTail g o.v vd }

/-- A scalar result in element 0; the rest of the register is tail. -/
def vScalar (g : VCfg) (vd e : Nat) (r : EOut) : VOut :=
  if g.vstart ≥ g.vl then { v := g.v }
  else { v := vTail g (vput g.v vd e 0 r.bits) vd e 1 0, flags := r.flags, sat := r.sat }

/-- The active elements of the body. -/
def bodyActive (g : VCfg) : List Nat := (List.range g.vl).filter (activeEl g)

/-! Operands. -/

def iVm (w : Nat) : Bool := bitAt w 25
def iF6 (w : Nat) : Nat := fld w 26 6

/-- The first operand, at width `e`: an element of vs1, the integer register, the immediate, or the floating-point register. -/
def vOp1 (g : VCfg) (w e i : Nat) : Nat :=
  match iF3 w with
  | 3 => ofInt e (sint 5 (iRs1 w))
  | 4 => (xAt g.core (iRs1 w)).toNat % 2 ^ e
  | 5 => (fAt g.core (iRs1 w)).toNat % 2 ^ e
  | 6 => (xAt g.core (iRs1 w)).toNat % 2 ^ e
  | _ => vel g.v (iRs1 w) e i

/-- Is the first operand a vector? -/
def op1Vec (w : Nat) : Bool := [0, 1, 2].contains (iF3 w)

/-- The first operand as an unsigned scalar: an immediate is not extended, a register is whole. -/
def vOff (g : VCfg) (w : Nat) : Nat := if iF3 w = 3 then iRs1 w else (xAt g.core (iRs1 w)).toNat

/-- Register checks of a plain instruction: destination of width `de`, vs2 of width `e2`, vs1 of width `e1` when it is a vector. -/
def regsOk (g : VCfg) (w de e2 e1 : Nat) : Bool :=
  let vd := iRd w
  okGroup vd (emul g de) && okGroup (iRs2 w) (emul g e2) && maskOk g vd &&
  overlapOk vd (emul g de) de (iRs2 w) (emul g e2) e2 &&
  (!op1Vec w || (okGroup (iRs1 w) (emul g e1) && overlapOk vd (emul g de) de (iRs1 w) (emul g e1) e1))

/-- The same for a mask destination. -/
def regsOkMask (g : VCfg) (w e : Nat) : Bool :=
  okGroup (iRs2 w) (emul g e) && overlapOk (iRd w) 0 1 (iRs2 w) (emul g e) e &&
  (!op1Vec w || (okGroup (iRs1 w) (emul g e) && overlapOk (iRd w) 0 1 (iRs1 w) (emul g e) e))

/-- A result where the check holds. -/
def whenOk (ok : Bool) (o : VOut) : Option VOut := if ok then some o else none

end Sys2Proof.Machine
end

