-- ==== Sys2Proof/Machine/VecInt.lean ====
section
/-! DEFINITION. Integer, fixed-point, reduction and mask instructions of the vector unit (R28; PRESUMED from the RISC-V V extension). -/
namespace Sys2Proof.Machine

/-- Rounding of a fixed-point shift by the mode of `vxrm`. -/
def roundoff (mode : Nat) (x : Int) (d : Nat) : Int :=
  if d = 0 then x
  else
    let q := x / 2 ^ d
    let r := x % 2 ^ d
    let half : Int := 2 ^ (d - 1)
    let up := match mode with
      | 0 => decide (r ≥ half)
      | 1 => decide (r > half) || (decide (r = half) && decide (q % 2 = 1))
      | 2 => false
      | _ => decide (q % 2 = 0) && decide (r ≠ 0)
    if up then q + 1 else q

/-- Saturate to `n` bits. -/
def satTo (signed : Bool) (n : Nat) (x : Int) : EOut :=
  let hi : Int := if signed then 2 ^ (n - 1) - 1 else 2 ^ n - 1
  let lo : Int := if signed then -(2 ^ (n - 1)) else 0
  if x > hi then { bits := ofInt n hi, sat := true } else if x < lo then { bits := ofInt n lo, sat := true } else { bits := ofInt n x }

/-- An integer, wrapped. -/
def wrapTo (n : Nat) (x : Int) : EOut := { bits := ofInt n x }

/-- The forms (funct3 0 VV, 4 VX, 3 VI) of an OPI instruction whose operands and result have one width; empty for any other. -/
def opiForms (f6 : Nat) : List Nat :=
  match f6 with
  | 0x00 => [0, 4, 3] | 0x02 => [0, 4] | 0x03 => [4, 3] | 0x04 => [0, 4] | 0x05 => [0, 4] | 0x06 => [0, 4] | 0x07 => [0, 4]
  | 0x09 => [0, 4, 3] | 0x0A => [0, 4, 3] | 0x0B => [0, 4, 3]
  | 0x20 => [0, 4, 3] | 0x21 => [0, 4, 3] | 0x22 => [0, 4] | 0x23 => [0, 4] | 0x25 => [0, 4, 3] | 0x27 => [0, 4]
  | 0x28 => [0, 4, 3] | 0x29 => [0, 4, 3] | 0x2A => [0, 4, 3] | 0x2B => [0, 4, 3]
  | _ => []

/-- Such an operation on `a` of vs2 and `b`. -/
def opiOp (f6 n mode a b : Nat) : EOut :=
  let sa := sint n a
  let sb := sint n b
  let sh := b % n
  match f6 with
  | 0x00 => wrapTo n (a + b)
  | 0x02 => wrapTo n (a - b)
  | 0x03 => wrapTo n (b - a)
  | 0x04 => { bits := if a ≤ b then a else b }
  | 0x05 => { bits := if sa ≤ sb then a else b }
  | 0x06 => { bits := if a ≤ b then b else a }
  | 0x07 => { bits := if sa ≤ sb then b else a }
  | 0x09 => { bits := a &&& b }
  | 0x0A => { bits := a ||| b }
  | 0x0B => { bits := a ^^^ b }
  | 0x20 => satTo false n (a + b)
  | 0x21 => satTo true n (sa + sb)
  | 0x22 => satTo false n (a - b)
  | 0x23 => satTo true n (sa - sb)
  | 0x25 => wrapTo n ((a * 2 ^ sh : Nat) : Int)
  | 0x27 => satTo true n (roundoff mode (sa * sb) (n - 1))
  | 0x28 => { bits := a / 2 ^ sh }
  | 0x29 => wrapTo n (sa / 2 ^ sh)
  | 0x2A => wrapTo n (roundoff mode a sh)
  | _ => wrapTo n (roundoff mode sa sh)

/-- The forms (2 VV, 6 VX) of an OPM instruction of one width. -/
def opmForms (f6 : Nat) : List Nat :=
  if (0x08 ≤ f6 ∧ f6 ≤ 0x0B) ∨ (0x20 ≤ f6 ∧ f6 ≤ 0x27) ∨ f6 ∈ [0x29, 0x2B, 0x2D, 0x2F] then [2, 6] else []

/-- Such an operation; `c` is the destination's element. -/
def opmOp (f6 n mode a b c : Nat) : EOut :=
  let sa := sint n a
  let sb := sint n b
  match f6 with
  | 0x08 => wrapTo n (roundoff mode ((a + b : Nat) : Int) 1)
  | 0x09 => wrapTo n (roundoff mode (sa + sb) 1)
  | 0x0A => wrapTo n (roundoff mode ((a : Int) - b) 1)
  | 0x0B => wrapTo n (roundoff mode (sa - sb) 1)
  | 0x20 => { bits := if b = 0 then 2 ^ n - 1 else a / b }
  | 0x21 => wrapTo n (if b = 0 then -1 else Int.tdiv sa sb)
  | 0x22 => { bits := if b = 0 then a else a % b }
  | 0x23 => wrapTo n (if b = 0 then sa else Int.tmod sa sb)
  | 0x24 => { bits := a * b / 2 ^ n }
  | 0x25 => wrapTo n (sa * sb)
  | 0x26 => wrapTo n (sa * b / 2 ^ n)
  | 0x27 => wrapTo n (sa * sb / 2 ^ n)
  | 0x29 => wrapTo n (sb * sint n c + sa)
  | 0x2B => wrapTo n (-(sb * sint n c) + sa)
  | 0x2D => wrapTo n (sb * sa + sint n c)
  | _ => wrapTo n (-(sb * sa) + sint n c)

/-- Shifts and the like read an immediate as unsigned. -/
def unsignedImm (f6 : Nat) : Bool := [0x25, 0x28, 0x29, 0x2A, 0x2B, 0x2C, 0x2D, 0x2E, 0x2F].contains f6

def vOp1u (g : VCfg) (w e i : Nat) : Nat := if iF3 w = 3 ∧ unsignedImm (iF6 w) then iRs1 w else vOp1 g w e i

/-- An operation of one width. -/
def vSame (g : VCfg) (w : Nat) (f : Nat → Nat → Nat → EOut) : Option VOut :=
  let n := g.sew
  whenOk (regsOk g w n n n) (vMap g (iRd w) n (fun i => f (vel g.v (iRs2 w) n i) (vOp1u g w n i) (vel g.v (iRd w) n i)))

/-! Add with carry and subtract with borrow; merges. -/

/-- VADC, VSBC: the carry is the mask, and every element is active. -/
def vAdc (g : VCfg) (w : Nat) : Option VOut :=
  let n := g.sew
  let g' := { g with masked := false }
  let sub := iF6 w == 0x12
  whenOk (!iVm w && (iF6 w == 0x10 || iF3 w != 3) && iRd w != 0 && regsOk g w n n n)
    (vMap g' (iRd w) n (fun i =>
      let a : Int := vel g.v (iRs2 w) n i
      let b : Int := vOp1 g w n i
      let c : Int := b2n (vbit g.v 0 i)
      wrapTo n (if sub then a - b - c else a + b + c)))

/-- VMADC, VMSBC: the carry or borrow out, with a carry in when vm is 0. -/
def vMadc (g : VCfg) (w : Nat) : Option VOut :=
  let n := g.sew
  let g' := { g with masked := false }
  let sub := iF6 w == 0x13
  whenOk ((iF6 w == 0x11 || iF3 w != 3) && regsOkMask g w n)
    (vMapMask g' (iRd w) (fun i =>
      let a := vel g.v (iRs2 w) n i
      let b := vOp1 g w n i
      let c := b2n (!iVm w && vbit g.v 0 i)
      { bits := b2n (if sub then decide (a < b + c) else decide (a + b + c ≥ 2 ^ n)) }))

/-- VMERGE and VMV.V. -/
def vMerge (g : VCfg) (w : Nat) : Option VOut :=
  let n := g.sew
  let g' := { g with masked := false }
  if iVm w then
    whenOk (iRs2 w == 0 && okGroup (iRd w) (emul g n) && (!op1Vec w || okGroup (iRs1 w) (emul g n)))
      (vMap g' (iRd w) n (fun i => { bits := vOp1 g w n i }))
  else
    whenOk (iRd w != 0 && regsOk g w n n n)
      (vMap g' (iRd w) n (fun i => { bits := if vbit g.v 0 i then vOp1 g w n i else vel g.v (iRs2 w) n i }))

/-! Comparisons. -/

def cmpForms (f6 : Nat) : List Nat :=
  match f6 with
  | 0x18 => [0, 4, 3] | 0x19 => [0, 4, 3] | 0x1A => [0, 4] | 0x1B => [0, 4] | 0x1C => [0, 4, 3] | 0x1D => [0, 4, 3]
  | 0x1E => [4, 3] | 0x1F => [4, 3]
  | _ => []

def cmpOp (f6 n a b : Nat) : Bool :=
  match f6 with
  | 0x18 => a == b
  | 0x19 => a != b
  | 0x1A => decide (a < b)
  | 0x1B => decide (sint n a < sint n b)
  | 0x1C => decide (a ≤ b)
  | 0x1D => decide (sint n a ≤ sint n b)
  | 0x1E => decide (a > b)
  | _ => decide (sint n a > sint n b)

def vCompare (g : VCfg) (w : Nat) : Option VOut :=
  whenOk (regsOkMask g w g.sew)
    (vMapMask g (iRd w) (fun i => { bits := b2n (cmpOp (iF6 w) g.sew (vel g.v (iRs2 w) g.sew i) (vOp1 g w g.sew i)) }))

/-! Widening and narrowing. -/

/-- Widening sums, differences and products (OPM, funct6 0x30 on). -/
def vWiden (g : VCfg) (w : Nat) : Option VOut :=
  let n := g.sew
  let f6 := iF6 w
  let wide2 := decide (0x34 ≤ f6 ∧ f6 ≤ 0x37)
  let forms := f6 != 0x39 && (f6 != 0x3E || iF3 w == 6)
  whenOk (forms && decide (n < 64) && regsOk g w (2 * n) (if wide2 then 2 * n else n) n)
    (vMap g (iRd w) (2 * n) (fun i =>
      let a := vel g.v (iRs2 w) (if wide2 then 2 * n else n) i
      let b := vOp1 g w n i
      let c := vel g.v (iRd w) (2 * n) i
      let sa := sint (if wide2 then 2 * n else n) a
      let sb := sint n b
      wrapTo (2 * n) (match f6 with
        | 0x30 => a + b
        | 0x31 => sa + sb
        | 0x32 => a - b
        | 0x33 => sa - sb
        | 0x34 => a + b
        | 0x35 => sa + sb
        | 0x36 => a - b
        | 0x37 => sa - sb
        | 0x38 => a * b
        | 0x3A => sa * b
        | 0x3B => sa * sb
        | 0x3C => b * a + c
        | 0x3D => sb * sa + c
        | 0x3E => b * sa + c
        | _ => sb * a + c)))

/-- VNSRL, VNSRA, VNCLIPU, VNCLIP. -/
def vNarrow (g : VCfg) (w : Nat) : Option VOut :=
  let n := g.sew
  whenOk (decide (n < 64) && regsOk g w n (2 * n) n)
    (vMap g (iRd w) n (fun i =>
      let a := vel g.v (iRs2 w) (2 * n) i
      let sa := sint (2 * n) a
      let sh := vOp1u g w n i % (2 * n)
      match iF6 w with
      | 0x2C => wrapTo n ((a / 2 ^ sh : Nat) : Int)
      | 0x2D => wrapTo n (sa / 2 ^ sh)
      | 0x2E => satTo false n (roundoff g.vxrm a sh)
      | _ => satTo true n (roundoff g.vxrm sa sh)))

/-- VZEXT, VSEXT. -/
def vExt (g : VCfg) (w : Nat) : Option VOut :=
  let n := g.sew
  let q := match iRs1 w / 2 with | 1 => 8 | 2 => 4 | _ => 2
  whenOk (decide (2 ≤ iRs1 w ∧ iRs1 w ≤ 7) && decide (n / q ≥ 8) && okGroup (iRd w) (emul g n) && okGroup (iRs2 w) (emul g (n / q)) && maskOk g (iRd w) &&
      overlapOk (iRd w) (emul g n) n (iRs2 w) (emul g (n / q)) (n / q))
    (vMap g (iRd w) n (fun i =>
      let a := vel g.v (iRs2 w) (n / q) i
      wrapTo n (if iRs1 w % 2 = 1 then sint (n / q) a else a)))

/-! Reductions. -/

/-- Sums, logic, and extremes of the active elements and element 0 of vs1. -/
def redOp (f6 n a b : Nat) : Nat :=
  match f6 with
  | 0 => (a + b) % 2 ^ n
  | 1 => a &&& b
  | 2 => a ||| b
  | 3 => a ^^^ b
  | 4 => (opiOp 0x04 n 0 a b).bits
  | 5 => (opiOp 0x05 n 0 a b).bits
  | 6 => (opiOp 0x06 n 0 a b).bits
  | _ => (opiOp 0x07 n 0 a b).bits

def vReduce (g : VCfg) (w : Nat) : Option VOut :=
  let n := g.sew
  whenOk (g.vstart == 0 && okGroup (iRs2 w) (emul g n))
    (vScalar g (iRd w) n
      { bits := (bodyActive g).foldl (fun a i => redOp (iF6 w) n a (vel g.v (iRs2 w) n i)) (vel g.v (iRs1 w) n 0) })

/-- VWREDSUMU, VWREDSUM. -/
def vWreduce (g : VCfg) (w : Nat) : Option VOut :=
  let n := g.sew
  whenOk (g.vstart == 0 && decide (n < 64) && okGroup (iRs2 w) (emul g n))
    (vScalar g (iRd w) (2 * n)
      { bits := (bodyActive g).foldl (fun a i =>
          let x := vel g.v (iRs2 w) n i
          ofInt (2 * n) (a + (if iF6 w = 0x31 then sint n x else x))) (vel g.v (iRs1 w) (2 * n) 0) })

/-! Masks. -/

/-- Mask logic. -/
def maskLogic (f6 : Nat) (a b : Bool) : Bool :=
  match f6 with
  | 0x18 => a && !b
  | 0x19 => a && b
  | 0x1A => a || b
  | 0x1B => a != b
  | 0x1C => a || !b
  | 0x1D => !(a && b)
  | 0x1E => !(a || b)
  | _ => a == b

def vMaskLogic (g : VCfg) (w : Nat) : Option VOut :=
  whenOk (iVm w) (vMapMask g (iRd w) (fun i => { bits := b2n (maskLogic (iF6 w) (vbit g.v (iRs2 w) i) (vbit g.v (iRs1 w) i)) }))

/-- The first set bit among the active elements of a mask. -/
def firstSet (g : VCfg) (vs2 : Nat) : Option Nat := (bodyActive g).find? (fun i => vbit g.v vs2 i)

/-- VMV.X.S, VCPOP, VFIRST. -/
def vToX (g : VCfg) (w : Nat) : Option VOut :=
  match iRs1 w with
  | 0 => whenOk (iVm w) { v := g.v, x := some (sx g.sew (vel g.v (iRs2 w) g.sew 0)) }
  | 16 => whenOk (g.vstart == 0) { v := g.v, x := some (BitVec.ofNat 64 ((bodyActive g).filter (fun i => vbit g.v (iRs2 w) i)).length) }
  | 17 => whenOk (g.vstart == 0)
      { v := g.v, x := some (match firstSet g (iRs2 w) with | some i => BitVec.ofNat 64 i | none => BitVec.allOnes 64) }
  | _ => none

/-- VMSBF, VMSOF, VMSIF, VIOTA, VID. -/
def vMaskUnary (g : VCfg) (w : Nat) : Option VOut :=
  let n := g.sew
  let first := (firstSet g (iRs2 w)).getD vlen
  match iRs1 w with
  | 1 => whenOk (g.vstart == 0 && iRd w != iRs2 w && maskOk g (iRd w)) (vMapMask g (iRd w) (fun i => { bits := b2n (decide (i < first)) }))
  | 2 => whenOk (g.vstart == 0 && iRd w != iRs2 w && maskOk g (iRd w)) (vMapMask g (iRd w) (fun i => { bits := b2n (i == first) }))
  | 3 => whenOk (g.vstart == 0 && iRd w != iRs2 w && maskOk g (iRd w)) (vMapMask g (iRd w) (fun i => { bits := b2n (decide (i ≤ first)) }))
  | 16 => whenOk (g.vstart == 0 && okGroup (iRd w) (emul g n) && maskOk g (iRd w) && !groupsMeet (iRd w) (emul g n) (iRs2 w) 0)
      (vMap g (iRd w) n (fun i => { bits := ((List.range i).filter (fun j => activeEl g j && vbit g.v (iRs2 w) j)).length }))
  | 17 => whenOk (iRs2 w == 0 && okGroup (iRd w) (emul g n) && maskOk g (iRd w)) (vMap g (iRd w) n (fun i => { bits := i }))
  | _ => none

/-! Permutation. -/

/-- Move an element of vs2 up or down; elements below the offset of a slide up keep their value. -/
def vSlide (g : VCfg) (w : Nat) (up : Bool) : Option VOut :=
  let n := g.sew
  let l := emul g n
  let off := vOff g w
  whenOk (okGroup (iRd w) l && okGroup (iRs2 w) l && maskOk g (iRd w) && !(up && groupsMeet (iRd w) l (iRs2 w) l))
    (if up then vMapFrom g (iRd w) n off (fun i => { bits := vel g.v (iRs2 w) n (i - off) })
     else vMap g (iRd w) n (fun i => { bits := if i + off < groupLen n l then vel g.v (iRs2 w) n (i + off) else 0 }))

/-- VSLIDE1UP, VSLIDE1DOWN and their floating-point forms: `x` enters. -/
def vSlide1 (g : VCfg) (w x : Nat) (up : Bool) : Option VOut :=
  let n := g.sew
  let l := emul g n
  whenOk (okGroup (iRd w) l && okGroup (iRs2 w) l && maskOk g (iRd w) && !(up && groupsMeet (iRd w) l (iRs2 w) l))
    (vMap g (iRd w) n (fun i =>
      { bits := if up then (if i = 0 then x else vel g.v (iRs2 w) n (i - 1))
                else (if i + 1 = g.vl then x else vel g.v (iRs2 w) n (i + 1)) }))

/-- VRGATHER with indices of width `e`. -/
def vGather (g : VCfg) (w e : Nat) : Option VOut :=
  let n := g.sew
  let l := emul g n
  let vv := op1Vec w
  whenOk (okGroup (iRd w) l && okGroup (iRs2 w) l && maskOk g (iRd w) && !groupsMeet (iRd w) l (iRs2 w) l &&
      (!vv || (okGroup (iRs1 w) (emul g e) && !groupsMeet (iRd w) l (iRs1 w) (emul g e))))
    (vMap g (iRd w) n (fun i =>
      let j := if vv then vel g.v (iRs1 w) e i else vOff g w
      { bits := if j < groupLen n l then vel g.v (iRs2 w) n j else 0 }))

/-- VCOMPRESS: the elements whose mask bit is set move to the front. -/
def vCompress (g : VCfg) (w : Nat) : Option VOut :=
  let n := g.sew
  let l := emul g n
  let kept := (List.range g.vl).filter (fun i => vbit g.v (iRs1 w) i)
  let put := (kept.zip (List.range kept.length)).foldl (fun v p => vput v (iRd w) n p.2 (vel g.v (iRs2 w) n p.1)) g.v
  whenOk (iVm w && g.vstart == 0 && okGroup (iRd w) l && okGroup (iRs2 w) l && !groupsMeet (iRd w) l (iRs2 w) l &&
      !groupsMeet (iRd w) l (iRs1 w) 0)
    { v := if g.vl = 0 then g.v else vTail g put (iRd w) n kept.length l }

/-- VMV1R, VMV2R, VMV4R, VMV8R. -/
def vMoveRegs (g : VCfg) (w : Nat) : Option VOut :=
  let nr := iRs1 w + 1
  let from_ := g.vstart * g.sew
  let regs := (List.range nr).foldl (fun v j =>
    let old := vreg g.v (iRd w + j)
    let new := vreg g.v (iRs2 w + j)
    let lo := from_ - vlen * j
    let keep : BitVec 2048 := BitVec.ofNat 2048 (2 ^ (min lo vlen) - 1)
    tset (fun _ => 0) v (iRd w + j) ((old &&& keep) ||| (new &&& ~~~keep))) g.v
  whenOk (iVm w && [1, 2, 4, 8].contains nr && iRd w % nr == 0 && iRs2 w % nr == 0) { v := regs }

/-! The instructions by funct6. -/

/-- OPIVV, OPIVX, OPIVI. -/
def vOpi (g : VCfg) (w : Nat) : Option VOut :=
  let f6 := iF6 w
  let f3 := iF3 w
  if (opiForms f6).contains f3 then vSame g w (fun a b _ => opiOp f6 g.sew g.vxrm a b)
  else if (cmpForms f6).contains f3 then vCompare g w
  else match f6 with
  | 0x0C => vGather g w g.sew
  | 0x0E => if f3 = 0 then vGather g w 16 else vSlide g w true
  | 0x0F => if f3 = 0 then none else vSlide g w false
  | 0x10 => vAdc g w
  | 0x11 => vMadc g w
  | 0x12 => vAdc g w
  | 0x13 => vMadc g w
  | 0x17 => vMerge g w
  | 0x27 => if f3 = 3 then vMoveRegs g w else none
  | 0x2C => vNarrow g w
  | 0x2D => vNarrow g w
  | 0x2E => vNarrow g w
  | 0x2F => vNarrow g w
  | 0x30 => if f3 = 0 then vWreduce g w else none
  | 0x31 => if f3 = 0 then vWreduce g w else none
  | _ => none

/-- OPMVV, OPMVX. -/
def vOpm (g : VCfg) (w : Nat) : Option VOut :=
  let f6 := iF6 w
  let vv := iF3 w == 2
  if (opmForms f6).contains (iF3 w) then vSame g w (fun a b c => opmOp f6 g.sew g.vxrm a b c)
  else if f6 ≥ 0x30 then vWiden g w
  else if f6 < 8 then (if vv then vReduce g w else none)
  else match f6 with
  | 0x0E => if vv then none else vSlide1 g w (vOp1 g w g.sew 0) true
  | 0x0F => if vv then none else vSlide1 g w (vOp1 g w g.sew 0) false
  | 0x10 =>
    if vv then vToX g w
    else whenOk (iVm w && iRs2 w == 0) (vScalar g (iRd w) g.sew { bits := vOp1 g w g.sew 0 })
  | 0x12 => if vv then vExt g w else none
  | 0x14 => if vv then vMaskUnary g w else none
  | 0x17 => if vv then vCompress g w else none
  | _ => if vv ∧ 0x18 ≤ f6 ∧ f6 ≤ 0x1F then vMaskLogic g w else none

end Sys2Proof.Machine
end

