-- ==== Sys2Proof/Machine/VecFloat.lean ====
section
/-! DEFINITION. Floating-point instructions of the vector unit, Zvfh and Zvfbfwma among them (R28; PRESUMED from the RISC-V V
extension). -/
namespace Sys2Proof.Machine

/-- The format of an element width. -/
def vFmt (n : Nat) : Option Fmt :=
  match n with
  | 16 => some fmtF16
  | 32 => some fmtF32
  | 64 => some fmtF64
  | _ => none

def toE (r : FOut) : EOut := { bits := r.bits, flags := r.flags }

/-- The first operand at a format: an element, or the register unboxed. -/
def fOp1 (g : VCfg) (w : Nat) (f : Fmt) (i : Nat) : Nat :=
  if iF3 w = 5 then unboxF f (fAt g.core (iRs1 w)) else vel g.v (iRs1 w) f.width i

/-- Operations of one width on `a` of vs2, `b`, and `c` of the destination; the Bool asks for the vector-scalar form. -/
def vfOp (f : Fmt) (rm : Rm) (f6 : Nat) (vf : Bool) (a b c : Nat) : Option FOut :=
  match f6 with
  | 0x00 => some (fAdd f rm a b)
  | 0x02 => some (fSub f rm a b)
  | 0x04 => some (fMinMax f false a b)
  | 0x06 => some (fMinMax f true a b)
  | 0x08 => some { bits := fSgnj f 0 a b }
  | 0x09 => some { bits := fSgnj f 1 a b }
  | 0x0A => some { bits := fSgnj f 2 a b }
  | 0x20 => some (fDiv f rm a b)
  | 0x21 => if vf then some (fDiv f rm b a) else none
  | 0x24 => some (fMul f rm a b)
  | 0x27 => if vf then some (fSub f rm b a) else none
  | 0x28 => some (fFma f rm false false b c a)
  | 0x29 => some (fFma f rm true true b c a)
  | 0x2A => some (fFma f rm false true b c a)
  | 0x2B => some (fFma f rm true false b c a)
  | 0x2C => some (fFma f rm false false b a c)
  | 0x2D => some (fFma f rm true true b a c)
  | 0x2E => some (fFma f rm false true b a c)
  | 0x2F => some (fFma f rm true false b a c)
  | _ => none

/-- Comparisons. -/
def vfCmp (f : Fmt) (f6 : Nat) (vf : Bool) (a b : Nat) : Option FOut :=
  match f6 with
  | 0x18 => some (fEq f a b)
  | 0x19 => some (fLe f a b)
  | 0x1B => some (fLt f a b)
  | 0x1C => let r := fEq f a b; some { r with bits := 1 - r.bits }
  | 0x1D => if vf then some (fLt f b a) else none
  | 0x1F => if vf then some (fLe f b a) else none
  | _ => none

/-- The wider format. -/
def wideFmt (f : Fmt) : Fmt := if f = fmtF16 then fmtF32 else fmtF64

/-- Widening operations: the narrow operands are converted exactly. -/
def vfWide (f : Fmt) (rm : Rm) (f6 : Nat) (a b c : Nat) : Option FOut :=
  let wf := wideFmt f
  let up (x : Nat) : FOut := fConv f wf .rne x
  let xa : FOut := if f6 = 0x34 ∨ f6 = 0x36 then { bits := a } else up a
  let xb := up b
  let fin (r : FOut) : Option FOut := some { r with flags := r.flags ||| xa.flags ||| xb.flags }
  match f6 with
  | 0x30 => fin (fAdd wf rm xa.bits xb.bits)
  | 0x32 => fin (fSub wf rm xa.bits xb.bits)
  | 0x34 => fin (fAdd wf rm xa.bits xb.bits)
  | 0x36 => fin (fSub wf rm xa.bits xb.bits)
  | 0x38 => fin (fMul wf rm xa.bits xb.bits)
  | 0x3C => fin (fFma wf rm false false xb.bits xa.bits c)
  | 0x3D => fin (fFma wf rm true true xb.bits xa.bits c)
  | 0x3E => fin (fFma wf rm false true xb.bits xa.bits c)
  | 0x3F => fin (fFma wf rm true false xb.bits xa.bits c)
  | _ => none

/-- VFWMACCBF16 (Zvfbfwma). -/
def vfBf16 (g : VCfg) (w : Nat) : Option VOut :=
  whenOk (g.sew == 16 && regsOk g w 32 16 16)
    (vMap g (iRd w) 32 (fun i =>
      let a := fConv fmtBF16 fmtF32 .rne (vel g.v (iRs2 w) 16 i)
      let b := fConv fmtBF16 fmtF32 .rne (fOp1 g w fmtBF16 i)
      let r := fFma fmtF32 g.rm false false b.bits a.bits (vel g.v (iRd w) 32 i)
      { bits := r.bits, flags := r.flags ||| a.flags ||| b.flags }))

/-! Conversions (VFUNARY0). -/

/-- An element converted: `to_` and `from_` widths, by the low bits of the selector (0 and 1 to an integer, 2 and 3 from one,
6 and 7 to an integer towards zero). -/
def cvtInt (rm : Rm) (sel to_ from_ x : Nat) : Option EOut :=
  let signed := sel % 2 == 1
  match sel with
  | 2 => (vFmt to_).map (fun f => toE (fOfInt f rm x))
  | 3 => (vFmt to_).map (fun f => toE (fOfInt f rm (sint from_ x)))
  | 0 => (vFmt from_).map (fun f => toE (fToInt f rm signed to_ x))
  | 1 => (vFmt from_).map (fun f => toE (fToInt f rm signed to_ x))
  | 6 => (vFmt from_).map (fun f => toE (fToInt f .rtz signed to_ x))
  | 7 => (vFmt from_).map (fun f => toE (fToInt f .rtz signed to_ x))
  | _ => none

/-- A conversion of an element by the whole selector; none where it is reserved. -/
def cvtEl (rm : Rm) (sel n x : Nat) : Option EOut :=
  if sel < 8 then cvtInt rm sel n n x
  else if sel < 16 then
    match sel with
    | 12 => (match vFmt n, vFmt (2 * n) with | some a, some b => some (toE (fConv a b rm x)) | _, _ => none)
    | 13 => if n = 16 then some (toE (fConv fmtBF16 fmtF32 rm x)) else none
    | _ => cvtInt rm (sel - 8) (2 * n) n x
  else
    match sel with
    | 20 => (match vFmt (2 * n), vFmt n with | some a, some b => some (toE (fConv a b rm x)) | _, _ => none)
    | 21 => (match vFmt (2 * n), vFmt n with | some a, some b => some (toE (fConvOdd a b x)) | _, _ => none)
    | 29 => if n = 16 then some (toE (fConv fmtF32 fmtBF16 rm x)) else none
    | _ => if sel < 24 then cvtInt rm (sel - 16) n (2 * n) x else none

def vfCvt (g : VCfg) (w : Nat) : Option VOut :=
  let n := g.sew
  let sel := iRs1 w
  let de := if 8 ≤ sel ∧ sel < 16 then 2 * n else n
  let se := if 16 ≤ sel then 2 * n else n
  whenOk ((cvtEl g.rm sel n 0).isSome && decide (de ≤ 64 ∧ se ≤ 64) && okGroup (iRd w) (emul g de) && okGroup (iRs2 w) (emul g se) &&
      maskOk g (iRd w) && overlapOk (iRd w) (emul g de) de (iRs2 w) (emul g se) se)
    (vMap g (iRd w) de (fun i => (cvtEl g.rm sel n (vel g.v (iRs2 w) se i)).getD { bits := 0 }))

/-- VFSQRT, VFRSQRT7, VFREC7, VFCLASS. -/
def vfUnary (g : VCfg) (w : Nat) (f : Fmt) : Option VOut :=
  let n := g.sew
  let op (x : Nat) : Option EOut := match iRs1 w with
    | 0 => some (toE (fSqrt f g.rm x))
    | 4 => some (toE (fRsqrt7 f x))
    | 5 => some (toE (fRec7 f g.rm x))
    | 16 => some { bits := fClass f x }
    | _ => none
  whenOk ((op 0).isSome && okGroup (iRd w) (emul g n) && okGroup (iRs2 w) (emul g n) && maskOk g (iRd w))
    (vMap g (iRd w) n (fun i => (op (vel g.v (iRs2 w) n i)).getD { bits := 0 }))

/-! Reductions. -/

/-- Sum a list in an order that is free: two of its values are replaced by their sum until one is left. -/
def sumTree (f : Fmt) (rm : Rm) (ctr : Nat) : Nat → List FOut → FOut
  | 0, xs => xs.headD { bits := 0 }
  | k + 1, xs =>
    match xs with
    | [] => { bits := 0 }
    | [x] => x
    | x :: y :: rest =>
      let all := x :: y :: rest
      let i := (Config.freeWord ctr (0xA0000000 + 2 * k)).toNat % all.length
      let a := all.getD i x
      let left := all.eraseIdx i
      let j := (Config.freeWord ctr (0xA0000001 + 2 * k)).toNat % left.length
      let b := left.getD j y
      let r := fAdd f rm a.bits b.bits
      sumTree f rm ctr k ({ r with flags := r.flags ||| a.flags ||| b.flags } :: left.eraseIdx j)

/-- VFREDOSUM, VFREDUSUM, VFREDMIN, VFREDMAX, and the widening sums; `wide` is the format of the result. An unordered sum of
nothing may turn a NaN into the canonical one, signalling if it signals. -/
def vfReduce (g : VCfg) (w : Nat) (f wide : Fmt) : Option VOut :=
  let f6 := iF6 w
  let ups := (bodyActive g).map (fun i =>
    let x := vel g.v (iRs2 w) g.sew i
    if wide = f then ({ bits := x } : FOut) else fConv f wide .rne x)
  let start := vel g.v (iRs1 w) wide.width 0
  let step (op : Nat → Nat → FOut) : FOut := ups.foldl (fun a x =>
    let r := op a.bits x.bits
    { r with flags := r.flags ||| a.flags ||| x.flags }) { bits := start }
  let canon := ups.isEmpty && (decodeF wide start).isNan && Config.freeBool g.ctr 0xA8000000
  let r : FOut := match f6 with
    | 0x03 => step (fAdd wide g.rm)
    | 0x33 => step (fAdd wide g.rm)
    | 0x05 => step (fMinMax wide false)
    | 0x07 => step (fMinMax wide true)
    | _ => if canon then { bits := wide.qnan, flags := nvOf wide [start] }
           else sumTree wide g.rm g.ctr ups.length ({ bits := start } :: ups)
  whenOk (g.vstart == 0 && okGroup (iRs2 w) (emul g g.sew)) (vScalar g (iRd w) wide.width (toE r))

/-! The instructions by funct6. -/

/-- VFMERGE and VFMV.V.F. -/
def vfMerge (g : VCfg) (w : Nat) (f : Fmt) : Option VOut :=
  let n := g.sew
  let x := fOp1 g w f 0
  let g' := { g with masked := false }
  if iVm w then whenOk (iRs2 w == 0 && okGroup (iRd w) (emul g n)) (vMap g' (iRd w) n (fun _ => { bits := x }))
  else whenOk (iRd w != 0 && regsOk g w n n n) (vMap g' (iRd w) n (fun i => { bits := if vbit g.v 0 i then x else vel g.v (iRs2 w) n i }))

/-- Those whose operands have the format of SEW. -/
def vfAt (g : VCfg) (w : Nat) (f : Fmt) : Option VOut :=
  let n := g.sew
  let f6 := iF6 w
  let vf := iF3 w == 5
  if (vfOp f g.rm f6 vf 0 0 0).isSome then
    whenOk (regsOk g w n n n)
      (vMap g (iRd w) n (fun i =>
        toE ((vfOp f g.rm f6 vf (vel g.v (iRs2 w) n i) (fOp1 g w f i) (vel g.v (iRd w) n i)).getD { bits := 0 })))
  else if (vfCmp f f6 vf 0 0).isSome then
    whenOk (regsOkMask g w n)
      (vMapMask g (iRd w) (fun i => toE ((vfCmp f f6 vf (vel g.v (iRs2 w) n i) (fOp1 g w f i)).getD { bits := 0 })))
  else if (vfWide f g.rm f6 0 0 0).isSome then
    let e2 := if f6 = 0x34 ∨ f6 = 0x36 then 2 * n else n
    whenOk (decide (n < 64) && regsOk g w (2 * n) e2 n)
      (vMap g (iRd w) (2 * n) (fun i =>
        toE ((vfWide f g.rm f6 (vel g.v (iRs2 w) e2 i) (fOp1 g w f i) (vel g.v (iRd w) (2 * n) i)).getD { bits := 0 })))
  else match f6 with
  | 0x01 => if vf then none else vfReduce g w f f
  | 0x03 => if vf then none else vfReduce g w f f
  | 0x05 => if vf then none else vfReduce g w f f
  | 0x07 => if vf then none else vfReduce g w f f
  | 0x31 => if vf ∨ n = 64 then none else vfReduce g w f (wideFmt f)
  | 0x33 => if vf ∨ n = 64 then none else vfReduce g w f (wideFmt f)
  | 0x0E => if vf then vSlide1 g w (fOp1 g w f 0) true else none
  | 0x0F => if vf then vSlide1 g w (fOp1 g w f 0) false else none
  | 0x10 =>
    if vf then whenOk (iVm w && iRs2 w == 0) (vScalar g (iRd w) n { bits := fOp1 g w f 0 })
    else whenOk (iVm w && iRs1 w == 0) { v := g.v, f := some (boxF n (vel g.v (iRs2 w) n 0)) }
  | 0x13 => if vf then none else vfUnary g w f
  | 0x17 => if vf then vfMerge g w f else none
  | _ => none

/-- OPFVV, OPFVF. -/
def vOpf (g : VCfg) (w : Nat) : Option VOut :=
  if iF6 w = 0x12 then (if iF3 w = 1 then vfCvt g w else none)
  else if iF6 w = 0x3B then vfBf16 g w
  else match vFmt g.sew with
  | some f => vfAt g w f
  | none => none

end Sys2Proof.Machine
end

