-- ==== Sys2Proof/Machine/VecMem.lean ====
section
/-! DEFINITION. Vector configuration, loads and stores, and one vector instruction (R28; PRESUMED from the RISC-V V extension). -/
namespace Sys2Proof.Machine

def vecAt (s : State) (k : Nat) : VecSt := (tileAt s k).vec
def updVec (s : State) (k : Nat) (f : VecSt → VecSt) : State :=
  updTile s k (fun t => { t with vec := f t.vec, core := dirtyVs t.core })

/-! VSETVLI, VSETIVLI, VSETVL. -/

/-- The vector length for an application length: all of it, or VLMAX, or between half the length and VLMAX as the implementation
chooses. -/
def newVl (avl vlmax : Nat) : Nat :=
  if avl ≤ vlmax then avl
  else if avl ≥ 2 * vlmax then vlmax
  else (avl + 1) / 2 + Config.vlChoice avl vlmax % (vlmax - (avl + 1) / 2 + 1)

/-- Set `vtype` and `vl`. `avl` is none where the length is kept, which needs an unchanged VLMAX. -/
def setVl (v : VecSt) (vtype : Word) (avl : Option Nat) : VecSt :=
  let bad := { v with vtype := vill, vl := 0, vstart := 0 }
  match vtypeParts vtype with
  | none => bad
  | some (sew, l) =>
    let vlmax := groupLen sew l
    match avl with
    | some a => { v with vtype := vtype, vl := BitVec.ofNat 64 (newVl a vlmax), vstart := 0 }
    | none =>
      match vtypeParts v.vtype with
      | some (sew0, l0) => if groupLen sew0 l0 = vlmax then { v with vtype := vtype, vstart := 0 } else bad
      | none => bad

def execVset (s : State) (k w : Nat) (next : Word) : RvOut :=
  let c := coreAt s k
  let avl : Option Nat :=
    if iRs1 w ≠ 0 then some (xAt c (iRs1 w)).toNat
    else if iRd w ≠ 0 then some (2 ^ 64 - 1)
    else none
  let fin (vt : Word) (a : Option Nat) : RvOut :=
    let s := updVec s k (fun v => setVl v vt a)
    .ok (setXs s k (iRd w) (vecAt s k).vl) next
  if !bitAt w 31 then fin (BitVec.ofNat 64 (fld w 20 11)) avl
  else if bitAt w 30 then fin (BitVec.ofNat 64 (fld w 20 10)) (some (iRs1 w))
  else if iF7 w = 0x40 then fin (xAt c (iRs2 w)) avl
  else illegal s w

/-! Loads and stores. -/

/-- Bytes at a core address without the effects of reading them. -/
def peekBytes (s : State) (k a len : Nat) : List Byte :=
  match coreRange a len with
  | some (deep, off) => tileRead s.ticks (tileAt s k) deep off len
  | none => []

/-- The effects of reading a list of accesses: each word's check once, and poison at the first access that finds it (R60, R72). -/
def vecReadEffects (s : State) (k : Nat) (accs : List Nat) (len : Nat) : State :=
  let ws := (accs.flatMap (fun a => match vecRange a len with
    | some (deep, off) => (wordsIn off len).map (fun w => coreAddr deep (8 * w))
    | none => [])).eraseDups
  let hurt := accs.find? (fun a => match vecRange a len with
    | some (deep, off) => storePoison (storeOf (tileAt s k) deep) off len
    | none => false)
  let s' := ws.foldl (fun s a => match vecRange a 8 with
    | some (deep, off) => readEffects s k deep off 8
    | none => s) s
  match hurt with
  | some a => consumePoison s' k a
  | none => s'

/-- What a load or store moves: element width, elements, fields of a segment, registers of a field, whether it is masked, fault-only-first,
its tail policies, and whether it has a tail at all. -/
structure VMem where
  eew : Nat
  evl : Nat
  fields : Nat
  regs : Nat
  masked : Bool
  ff : Bool
  tail : Bool
  ta : Bool
deriving DecidableEq, Repr

/-- The cause of the exception an access of the vector unit takes, if any: misaligned `mis`, access fault `acc`. The deep store is
outside its reach (R73). -/
def vecCause (a len mis acc : Nat) : Option Nat :=
  if a % len ≠ 0 ∧ Config.misalignedTraps then some mis
  else if (vecRange a len).isNone then some acc
  else none

/-- The first element that takes an exception: its index, the cause, the address. -/
def firstFault (m : VMem) (segs : List Nat) (addr : Nat → Nat → Nat) (mis acc : Nat) : Option (Nat × Nat × Nat) :=
  segs.findSome? (fun i => (List.range m.fields).findSome? (fun j =>
    (vecCause (addr i j) (m.eew / 8) mis acc).map (fun e => (i, e, addr i j))))

/-- Elements of every field. -/
def overFields (m : VMem) (is : List Nat) (f : Nat → Nat → VRegs → VRegs) (v : VRegs) : VRegs :=
  is.foldl (fun v i => (List.range m.fields).foldl (fun v j => f i j v) v) v

/-- A vector load. -/
def vLoad (s : State) (k : Nat) (g : VCfg) (m : VMem) (vd : Nat) (addr : Nat → Nat → Nat) (next : Word) : RvOut :=
  let body := span g.vstart m.evl
  let active (i : Nat) : Bool := !m.masked || vbit g.v 0 i
  let segs := body.filter active
  let fault := firstFault m segs addr 4 5
  let stop := match fault with | some (i, _) => i | none => m.evl
  let got := segs.filter (fun i => decide (i < stop))
  let len := m.eew / 8
  let reg (j : Nat) : Nat := vd + j * m.regs
  let v1 := overFields m got (fun i j v => vput v (reg j) m.eew i (leNat (peekBytes s k (addr i j) len))) g.v
  let v2 := overFields m ((body.filter (fun i => !active i && decide (i < stop)))) (fun i j v => agnostic g g.ma v (reg j) m.eew i) v1
  let s' := vecReadEffects s k (got.flatMap (fun i => (List.range m.fields).map (addr i))) len
  let trapped := match fault with | some (i, _) => i == 0 || !m.ff | none => false
  match fault, trapped with
  | some (i, e, a), true =>
    .trap (updVec s' k (fun v => { v with v := v2, vstart := BitVec.ofNat 64 i })) e (BitVec.ofNat 64 a)
  | _, _ =>
    let v3 := overFields m ((segs.filter (fun i => decide (stop ≤ i)))) (fun i j v =>
      if Config.freeBool g.ctr (0xB0000000 + 65536 * reg j + i) then vput v (reg j) m.eew i (Config.freeWord g.ctr (0xB8000000 + 65536 * reg j + i)).toNat
      else v) v2
    let last := m.regs * vlen / m.eew
    let v4 := if m.tail ∧ g.vstart < m.evl then
        overFields m (span m.evl last) (fun i j v => agnostic g m.ta v (reg j) m.eew i) v3
      else v3
    .ok (updVec s' k (fun v => { v with v := v4, vstart := 0, vl := if fault.isSome then BitVec.ofNat 64 stop else v.vl })) next

/-- A vector store: the elements in order, up to the one that takes an exception. -/
def vStore (s : State) (k : Nat) (g : VCfg) (m : VMem) (vs3 : Nat) (addr : Nat → Nat → Nat) (next : Word) : RvOut :=
  let segs := (span g.vstart m.evl).filter (fun i => !m.masked || vbit g.v 0 i)
  let fault := firstFault m segs addr 6 7
  let stop := match fault with | some (i, _) => i | none => m.evl
  let len := m.eew / 8
  let s' := (segs.filter (fun i => decide (i < stop))).foldl (fun s i =>
    (List.range m.fields).foldl (fun s j => coreStore s k (addr i j) (toLe len (vel g.v (vs3 + j * m.regs) m.eew i))) s) s
  match fault with
  | some (i, e, a) => .trap (updVec s' k (fun v => { v with vstart := BitVec.ofNat 64 i })) e (BitVec.ofNat 64 a)
  | none => .ok (updVec s' k (fun v => { v with vstart := 0 })) next

/-- Element width of a width field. -/
def widthEew (n : Nat) : Nat := match n with | 0 => 8 | 5 => 16 | 6 => 32 | _ => 64

/-- The description of a load or store, its addresses, and whether it needs a legal vtype; none where it is reserved. -/
def vMemOf (g : VCfg) (legal load : Bool) (w : Nat) : Option (VMem × (Nat → Nat → Nat)) :=
  let base := (xAt g.core (iRs1 w)).toNat
  let nf := fld w 29 3 + 1
  let ew := widthEew (iF3 w)
  let vd := iRd w
  let masked := !iVm w
  let lum := iRs2 w
  let mop := fld w 26 2
  let stride := (xAt g.core (iRs2 w)).toNat
  let fits (l : Int) (r : Nat) : Bool :=
    decide (-3 ≤ l ∧ l ≤ 3) && decide (groupRegs l * nf ≤ 8) && r % groupRegs l == 0 && decide (r + nf * groupRegs l ≤ 32)
  let l := emul g ew
  let okMask := !(masked && load && vd == 0)
  let plain : VMem := { eew := ew, evl := g.vl, fields := nf, regs := groupRegs l, masked := masked, ff := false, tail := true, ta := g.ta }
  if bitAt w 28 then none
  else if mop = 0 ∧ lum = 8 then
    if [1, 2, 4, 8].contains nf && iVm w && vd % nf == 0 && (load || iF3 w == 0) then
      some ({ eew := ew, evl := nf * vlen / ew, fields := 1, regs := nf, masked := false, ff := false, tail := false, ta := false },
        fun i _ => (base + i * (ew / 8)) % 2 ^ 64)
    else none
  else if !legal then none
  else if mop = 0 then
    if lum = 11 then
      if nf = 1 ∧ iVm w ∧ iF3 w = 0 then
        some ({ eew := 8, evl := (g.vl + 7) / 8, fields := 1, regs := 1, masked := false, ff := false, tail := true, ta := true },
          fun i _ => (base + i) % 2 ^ 64)
      else none
    else if (lum = 0 ∨ (lum = 16 ∧ load)) ∧ fits l vd ∧ okMask then
      some ({ plain with ff := lum == 16 }, fun i j => (base + (i * nf + j) * (ew / 8)) % 2 ^ 64)
    else none
  else if mop = 2 then
    if fits l vd ∧ okMask then some (plain, fun i j => (base + i * stride + j * (ew / 8)) % 2 ^ 64) else none
  else
    let dl := emul g g.sew
    let ok := fits dl vd && okMask && okGroup (iRs2 w) l &&
      (!load || (if nf = 1 then overlapOk vd dl g.sew (iRs2 w) l ew
                 else (List.range nf).all (fun j => !groupsMeet (vd + j * groupRegs dl) dl (iRs2 w) l)))
    if ok then
      some ({ plain with eew := g.sew, regs := groupRegs dl }, fun i j => (base + vel g.v (iRs2 w) ew i + j * (g.sew / 8)) % 2 ^ 64)
    else none

/-- Are the unit's type and the memory instruction's width such that it runs? -/
def execVmem (s : State) (k : Nat) (g : VCfg) (legal : Bool) (w : Nat) (next : Word) : RvOut :=
  let load := w % 128 == 0x07
  match vMemOf g legal load w with
  | none => illegal s w
  | some (m, addr) => if load then vLoad s k g m (iRd w) addr next else vStore s k g m (iRd w) addr next

/-! One instruction. -/

/-- What an instruction reads, from the state; SEW 8 and LMUL 1 stand in for an illegal type. -/
def vCfgOf (s : State) (k w : Nat) (rm : Rm) : VCfg :=
  let v := vecAt s k
  let p := (vtypeParts v.vtype).getD (8, 0)
  { v := v.v, sew := p.1, lm := p.2, vl := v.vl.toNat, vstart := v.vstart.toNat, ta := v.vtype.getLsbD 6, ma := v.vtype.getLsbD 7,
    masked := !iVm w, vxrm := v.vxrm.toNat, rm := rm, ctr := s.freeCtr, core := coreAt s k }

/-- Put the results of an arithmetic instruction into the state. -/
def putVOut (s : State) (k w : Nat) (float : Bool) (o : VOut) : State :=
  let s := updVec s k (fun v => { v with v := o.v, vstart := 0, vxsat := v.vxsat || o.sat })
  let s := if float then updCore s k (fun c => accrue c o.flags) else s
  let s := match o.x with | some x => setXs s k (iRd w) x | none => s
  match o.f with | some x => setFs s k (iRd w) x | none => s

def retV (s : State) (k w : Nat) (float : Bool) (next : Word) (o : Option VOut) : RvOut :=
  match o with
  | some o => .ok (putVOut s k w float o) next
  | none => illegal s w

/-- A vector instruction; illegal while the unit is off (mstatus.VS = 0) or its type is (vtype.vill), except for those that need no
type, and for floating point while that unit is off or its rounding mode is reserved. -/
def execVector (s : State) (k w : Nat) (next : Word) : RvOut :=
  let c := coreAt s k
  let legal := (vtypeParts (vecAt s k).vtype).isSome
  let float := iF3 w == 1 || iF3 w == 5
  if vsOff c then illegal s w
  else if w % 128 ≠ 0x57 then execVmem s k (vCfgOf s k w .rne) legal w next
  else if iF3 w = 7 then execVset s k w next
  else if !legal then illegal s w
  else if float then
    match fsOff c, rmOf (frmOf c) 7 with
    | false, some rm => retV s k w true next (vOpf (vCfgOf s k w rm) w)
    | _, _ => illegal s w
  else
    let g := vCfgOf s k w .rne
    retV s k w false next (if iF3 w = 2 ∨ iF3 w = 6 then vOpm g w else vOpi g w)

end Sys2Proof.Machine
end

