-- ==== Sys2Proof/Machine/Riscv.lean ====
section
/-! DEFINITION. One instruction of a tile's control core or vector unit (R26, R28). -/
namespace Sys2Proof.Machine

/-- An instruction that sets `minstret` is not counted in it. -/
def setsInstret (w : Nat) : Bool :=
  w % 128 == 0x73 && iF3 w % 4 != 0 && fld w 20 12 == 0xB02 && (iF3 w % 4 == 1 || iRs1 w != 0)

/-- Retire: the pc moves on, and the instruction is counted unless the count is inhibited. -/
def retire (s : State) (k w : Nat) (inhibited : Bool) (pc : Word) : State :=
  updCore s k (fun c => { c with pc := pc, instret := if inhibited || setsInstret w then c.instret else c.instret + 1 })

/-- How an instruction's end shows in the state; one that waits leaves the state before its fetch. -/
def settle (s0 : State) (k w raw : Nat) (inhibited : Bool) (r : RvOut) : State :=
  match r with
  | .ok s pc => bumpFree (retire s k w inhibited pc)
  | .trap s cause tval =>
    bumpFree (updCore s k (fun c => takeException c cause (if cause = 2 then BitVec.ofNat 64 raw else tval)))
  | .stall => s0

/-! The instruction cache (R25 Table 1): 16 KiB, here 256 lines of 64 B. PRESUMED from the RISC-V standard (Zifencei): a fetch may find a
line as it was cached until FENCE.I empties the cache; whether a line is still cached is free (log 105). -/

/-- The bytes of a line as the cache still holds them. -/
def cachedLine (s : State) (k line : Nat) : Option (List Byte) :=
  (tfind (tileAt s k).icache line).bind (fun bs => if Config.freeBool s.freeCtr (0xD0000000 + line) then some bs else none)

/-- Bytes as an instruction fetch finds them. -/
def fetchBytes (s : State) (k a len : Nat) : List Byte :=
  (List.range len).map (fun i => match cachedLine s k ((a + i) / 64) with
    | some bs => bs.getD ((a + i) % 64) 0
    | none => (peekBytes s k (a + i) 1).headD 0)

/-- A line enters the cache; when it holds 256 others, one of them, freely, leaves. -/
def cachePut (ctr : Nat) (c : Tbl (List Byte)) (line : Nat) (bs : List Byte) : Tbl (List Byte) :=
  let c := tdel c line
  let c := if c.length < 256 then c else tdel c ((c.getD ((Config.freeWord ctr 0xD8000000).toNat % c.length) (0, [])).1)
  tput c line bs

/-- A fetch of `n` bytes of one line: cached, or read from the store, with what that read does, and then cached. -/
def fetchLine (s : State) (k a n : Nat) : State :=
  let line := a / 64
  if (cachedLine s k line).isSome then s
  else
    let bs := peekBytes s k (64 * line) 64
    updTile (coreLoad s k a n).1 k (fun t => { t with icache := cachePut s.freeCtr t.icache line bs })

/-- The bytes of the next instruction: its length and its word, or the address at which its fetch fails. -/
def fetchWord (s : State) (k : Nat) : Except Word (Nat × Nat) :=
  let pc := (coreAt s k).pc
  let t := tileAt s k
  if accessBad t pc.toNat 2 then .error pc
  else
    let lo := leNat (fetchBytes s k pc.toNat 2)
    if lo % 4 ≠ 3 then .ok (2, lo)
    else if accessBad t (pc.toNat + 2) 2 then .error (pc + 2)
    else .ok (4, leNat (fetchBytes s k pc.toNat 4))

/-- Effects of the fetch's reads (R60, R72). -/
def fetchEffects (s : State) (k len : Nat) : State :=
  let a := (coreAt s k).pc.toNat
  if a % 64 + len ≤ 64 then fetchLine s k a len
  else fetchLine (fetchLine s k a (64 - a % 64)) k (a / 64 * 64 + 64) (len + a % 64 - 64)

/-- The instruction at the pc, if it is of the unit asked for: `vec` the vector unit, else the control core. -/
def runInstr (s : State) (k : Nat) (vec : Bool) : State :=
  let c := coreAt s k
  let inhibited := c.countInhibit.getLsbD 2
  match fetchWord s k with
  | .error a => if vec then s else settle s k 0 0 inhibited (.trap s 1 a)
  | .ok (len, raw) =>
    let next := c.pc + BitVec.ofNat 64 len
    let w := if len = 4 then some raw else expandC raw
    match w with
    | none => if vec then s else settle s k 0 raw inhibited (.trap (fetchEffects s k len) 2 0)
    | some w =>
      if isVectorOp w ≠ vec then s
      else
        let s' := fetchEffects s k len
        settle s k w raw inhibited (if vec then execVector s' k w next else execScalar s' k w c.pc next)

/-- A core that runs takes a pending interrupt it has enabled, one of them freely, or runs its next instruction. -/
def stepCore (s : State) (k : Nat) (vec : Bool) : State :=
  let t := tileAt s k
  if !t.core.running || t.halted then s
  else
    let irqs := readyIrqs t.core
    if irqs.isEmpty then runInstr s k vec
    else
      let n := irqs.getD ((Config.freeWord s.freeCtr 0xC0000000).toNat % irqs.length) 0
      bumpFree (updCore s k (fun c => takeInterrupt c n))

/-- CORE_INSTRUCTION: one RV64GC instruction of the control core (R26). -/
def execCoreInstruction (cd : Fin 16) (t : Fin 64) (s : State) : Host.Outcome State Fault Refusal :=
  .next (if tileIssues s (tkey cd t) then stepCore s (tkey cd t) false else s)

/-- VECTOR_INSTRUCTION: one instruction of the vector unit, which the control core meets in its program (R28). -/
def execVectorInstruction (cd : Fin 16) (t : Fin 64) (s : State) : Host.Outcome State Fault Refusal :=
  .next (if tileIssues s (tkey cd t) then stepCore s (tkey cd t) true else s)

end Sys2Proof.Machine
end

