-- ==== Sys2Proof/Machine/Dispatch.lean ====
section
/-! DEFINITION. One arm per constructor of `Instr`: the meaning of every command, one direct call each. -/
namespace Sys2Proof.Machine

def exec (i : Instr) (s : State) : Host.Outcome State Fault Refusal :=
  match i with
  | .nop cd t => Sys2Proof.Machine.execNop cd t s
  | .mma cd t => Sys2Proof.Machine.execMma cd t s
  | .accLoad cd t => Sys2Proof.Machine.execAccLoad cd t s
  | .accStore cd t => Sys2Proof.Machine.execAccStore cd t s
  | .accZero cd t => Sys2Proof.Machine.execAccZero cd t s
  | .mark cd t => Sys2Proof.Machine.execMark cd t s
  | .descriptorRetire cd t => Sys2Proof.Machine.execDescriptorRetire cd t s
  | .mqTail cd t v => Sys2Proof.Machine.execMqTail cd t v s
  | .mqClear cd t v => Sys2Proof.Machine.execMqClear cd t v s
  | .mqAbort cd t v => Sys2Proof.Machine.execMqAbort cd t v s
  | .mqAborted cd t => Sys2Proof.Machine.execMqAborted cd t s
  | .mqBase cd t v => Sys2Proof.Machine.execMqBase cd t v s
  | .srSeed cd t v => Sys2Proof.Machine.execSrSeed cd t v s
  | .dmaLen cd t v => Sys2Proof.Machine.execDmaLen cd t v s
  | .dmaCopyDone cd t => Sys2Proof.Machine.execDmaCopyDone cd t s
  | .dmaFlow cd t v => Sys2Proof.Machine.execDmaFlow cd t v s
  | .coreInstruction cd t => Sys2Proof.Machine.execCoreInstruction cd t s
  | .vectorInstruction cd t => Sys2Proof.Machine.execVectorInstruction cd t s
  | .csrWrite cd t csr v => Sys2Proof.Machine.execCsrWrite cd t csr v s
  | .packedUnit p => Sys2Proof.Machine.execPackedUnit p s
  | .unitCheckDone p => Sys2Proof.Machine.execUnitCheckDone p s
  | .engineGuard cd t => Sys2Proof.Machine.execEngineGuard cd t s
  | .deepStoreWake n => Sys2Proof.Machine.execDeepStoreWake n s
  | .write cd p eng => Sys2Proof.Machine.execWrite cd p eng s
  | .readReq cd p => Sys2Proof.Machine.execReadReq cd p s
  | .readRsp cd p eng => Sys2Proof.Machine.execReadRsp cd p eng s
  | .reduce cd r p => Sys2Proof.Machine.execReduce cd r p s
  | .combineWaitExpiry cd r n => Sys2Proof.Machine.execCombineWaitExpiry cd r n s
  | .combineFlit cd p n eng => Sys2Proof.Machine.execCombineFlit cd p n eng s
  | .notice cd p => Sys2Proof.Machine.execNotice cd p s
  | .unitChecked cd p => Sys2Proof.Machine.execUnitChecked cd p s
  | .reduceDone cd p => Sys2Proof.Machine.execReduceDone cd p s
  | .meshHop cd r p => Sys2Proof.Machine.execMeshHop cd r p s
  | .meshDiscard cd r p => Sys2Proof.Machine.execMeshDiscard cd r p s
  | .sigFlit l w crc => Sys2Proof.Machine.execSigFlit l w crc s
  | .sigLinkFail l => Sys2Proof.Machine.execSigLinkFail l s
  | .sigDiscard site p => Sys2Proof.Machine.execSigDiscard site p s
  | .barrierArrive cd src g e => Sys2Proof.Machine.execBarrierArrive cd src g e s
  | .barrierRelease cd src g e => Sys2Proof.Machine.execBarrierRelease cd src g e s
  | .flagWrite cd src f op v => Sys2Proof.Machine.execFlagWrite cd src f op v s
  | .flagNotify cd src f v => Sys2Proof.Machine.execFlagNotify cd src f v s
  | .loadReq md r => Sys2Proof.Machine.execLoadReq md r s
  | .storeReq md r => Sys2Proof.Machine.execStoreReq md r s
  | .reqDone cd md tile tag status => Sys2Proof.Machine.execReqDone cd md tile tag status s
  | .time src v => Sys2Proof.Machine.execTime src v s
  | .arbiterDecision kind n rs => Sys2Proof.Machine.execArbiterDecision kind n rs s
  | .holdCut kind n item => Sys2Proof.Machine.execHoldCut kind n item s
  | .arbiterWindowEnd kind n => Sys2Proof.Machine.execArbiterWindowEnd kind n s
  | .frameBoundary => Sys2Proof.Machine.execFrameBoundary s
  | .slotStart sl short => Sys2Proof.Machine.execSlotStart sl short s
  | .slotBurst q bits => Sys2Proof.Machine.execSlotBurst q bits s
  | .tableHeaderSlot bt src fs => Sys2Proof.Machine.execTableHeaderSlot bt src fs s
  | .tableRowsSlot bt src fs => Sys2Proof.Machine.execTableRowsSlot bt src fs s
  | .tableChecked bt => Sys2Proof.Machine.execTableChecked bt s
  | .tableVerdict hd bt seq gen result cause => Sys2Proof.Machine.execTableVerdict hd bt seq gen result cause s
  | .tableSwap bt src gen t => Sys2Proof.Machine.execTableSwap bt src gen t s
  | .tableClear src seq gen owner => Sys2Proof.Machine.execTableClear src seq gen owner s
  | .portFailed src seq p t => Sys2Proof.Machine.execPortFailed src seq p t s
  | .laneExclude src seq p rx line t => Sys2Proof.Machine.execLaneExclude src seq p rx line t s
  | .laneExcludeClear p => Sys2Proof.Machine.execLaneExcludeClear p s
  | .houseBlendChange => Sys2Proof.Machine.execHouseBlendChange s
  | .lineMarginal q line => Sys2Proof.Machine.execLineMarginal q line s
  | .uncorrFrameLimit q => Sys2Proof.Machine.execUncorrFrameLimit q s
  | .cellFailure bt n => Sys2Proof.Machine.execCellFailure bt n s
  | .loadReqTimeout cd tag => Sys2Proof.Machine.execLoadReqTimeout cd tag s
  | .storeReqTimeout md src tile tag => Sys2Proof.Machine.execStoreReqTimeout md src tile tag s
  | .flowTransferTimeout cd t flow => Sys2Proof.Machine.execFlowTransferTimeout cd t flow s
  | .monitorSample ms => Sys2Proof.Machine.execMonitorSample ms s
  | .combLoss c => Sys2Proof.Machine.execCombLoss c s
  | .portLineLoss p line => Sys2Proof.Machine.execPortLineLoss p line s
  | .ringUnlocked r => Sys2Proof.Machine.execRingUnlocked r s
  | .ringInputDark bt cw => Sys2Proof.Machine.execRingInputDark bt cw s
  | .heaterUpdate asks => Sys2Proof.Machine.execHeaterUpdate asks s
  | .toneWindowEnd ws => Sys2Proof.Machine.execToneWindowEnd ws s
  | .holdTimeout r => Sys2Proof.Machine.execHoldTimeout r s
  | .calCycleStart => Sys2Proof.Machine.execCalCycleStart s
  | .calStep src seq stp rx t => Sys2Proof.Machine.execCalStep src seq stp rx t s
  | .calStepEnd last => Sys2Proof.Machine.execCalStepEnd last s
  | .swingHold src seq p rx line t => Sys2Proof.Machine.execSwingHold src seq p rx line t s
  | .swingRelease src seq p rx t => Sys2Proof.Machine.execSwingRelease src seq p rx t s
  | .resweepEnd p rx => Sys2Proof.Machine.execResweepEnd p rx s
  | .calLive p bs => Sys2Proof.Machine.execCalLive p bs s
  | .fadeEvaluation c lanes others => Sys2Proof.Machine.execFadeEvaluation c lanes others s
  | .spareReady c => Sys2Proof.Machine.execSpareReady c s
  | .combSwitchPlanned src seq c bt t => Sys2Proof.Machine.execCombSwitchPlanned src seq c bt t s
  | .combSwitchSudden src seq c bt t => Sys2Proof.Machine.execCombSwitchSudden src seq c bt t s
  | .add md site r poison => Sys2Proof.Machine.execAdd md site r poison s
  | .swap md site r poison => Sys2Proof.Machine.execSwap md site r poison s
  | .cas md site r poison => Sys2Proof.Machine.execCas md site r poison s
  | .min md site r poison => Sys2Proof.Machine.execMin md site r poison s
  | .max md site r poison => Sys2Proof.Machine.execMax md site r poison s
  | .minu md site r poison => Sys2Proof.Machine.execMinu md site r poison s
  | .maxu md site r poison => Sys2Proof.Machine.execMaxu md site r poison s
  | .and md site r poison => Sys2Proof.Machine.execAnd md site r poison s
  | .or md site r poison => Sys2Proof.Machine.execOr md site r poison s
  | .xor md site r poison => Sys2Proof.Machine.execXor md site r poison s
  | .reduceAdd md site r data => Sys2Proof.Machine.execReduceAdd md site r data s
  | .reduceMin md site r data => Sys2Proof.Machine.execReduceMin md site r data s
  | .reduceMax md site r data => Sys2Proof.Machine.execReduceMax md site r data s
  | .invalidRecord md site r => Sys2Proof.Machine.execInvalidRecord md site r s
  | .refresh md bank busy => Sys2Proof.Machine.execRefresh md bank busy s
  | .patrolScrub md => Sys2Proof.Machine.execPatrolScrub md s
  | .softRepair md die row => Sys2Proof.Machine.execSoftRepair md die row s
  | .softRepairDone md => Sys2Proof.Machine.execSoftRepairDone md s
  | .stackLockLoss md => Sys2Proof.Machine.execStackLockLoss md s
  | .setLost src seq set stack t => Sys2Proof.Machine.execSetLost src seq set stack t s
  | .flowTransferComplete cd t flow => Sys2Proof.Machine.execFlowTransferComplete cd t flow s
  | .syncArrive cd t v => Sys2Proof.Machine.execSyncArrive cd t v s
  | .flagValue cd t v => Sys2Proof.Machine.execFlagValue cd t v s
  | .flagAddWrite cd t v => Sys2Proof.Machine.execFlagAddWrite cd t v s
  | .jobExit cd t v => Sys2Proof.Machine.execJobExit cd t v s
  | .jobTake => Sys2Proof.Machine.execJobTake s
  | .imageChecked => Sys2Proof.Machine.execImageChecked s
  | .jobStart hd seq variant gen restarts t scratch => Sys2Proof.Machine.execJobStart hd seq variant gen restarts t scratch s
  | .tileBoot cd t => Sys2Proof.Machine.execTileBoot cd t s
  | .jobRunning => Sys2Proof.Machine.execJobRunning s
  | .jobStop hd seq reason => Sys2Proof.Machine.execJobStop hd seq reason s
  | .jobStopped hd seq site => Sys2Proof.Machine.execJobStopped hd seq site s
  | .jobStopTimeout => Sys2Proof.Machine.execJobStopTimeout s
  | .jobDrained => Sys2Proof.Machine.execJobDrained s
  | .recordWriteAck ring => Sys2Proof.Machine.execRecordWriteAck ring s
  | .runLimitExpiry => Sys2Proof.Machine.execRunLimitExpiry s
  | .remoteUnit fd cd => Sys2Proof.Machine.execRemoteUnit fd cd s
  | .fabLoad l p => Sys2Proof.Machine.execFabLoad l p s
  | .fabStore l p => Sys2Proof.Machine.execFabStore l p s
  | .fabAtomic l p => Sys2Proof.Machine.execFabAtomic l p s
  | .fabReduce l p => Sys2Proof.Machine.execFabReduce l p s
  | .mcastStore l p => Sys2Proof.Machine.execMcastStore l p s
  | .rsp l p => Sys2Proof.Machine.execRsp l p s
  | .barArrive l p => Sys2Proof.Machine.execBarArrive l p s
  | .barRelease l p => Sys2Proof.Machine.execBarRelease l p s
  | .flagStore l p => Sys2Proof.Machine.execFlagStore l p s
  | .flagAdd l p => Sys2Proof.Machine.execFlagAdd l p s
  | .flagRead l p => Sys2Proof.Machine.execFlagRead l p s
  | .fabFlagNotify l p => Sys2Proof.Machine.execFabFlagNotify l p s
  | .fabTime l p ps => Sys2Proof.Machine.execFabTime l p ps s
  | .hello l p => Sys2Proof.Machine.execHello l p s
  | .leave l p => Sys2Proof.Machine.execLeave l p s
  | .drained l p => Sys2Proof.Machine.execDrained l p s
  | .linkExclude l p => Sys2Proof.Machine.execLinkExclude l p s
  | .linkCal l p => Sys2Proof.Machine.execLinkCal l p s
  | .fabricDiscard l p => Sys2Proof.Machine.execFabricDiscard l p s
  | .attemptTimeout fd tag => Sys2Proof.Machine.execAttemptTimeout fd tag s
  | .dedupeExpiry => Sys2Proof.Machine.execDedupeExpiry s
  | .memoryAnswerTimeout fd => Sys2Proof.Machine.execMemoryAnswerTimeout fd s
  | .throttleReview fd => Sys2Proof.Machine.execThrottleReview fd s
  | .linkSilence l dark => Sys2Proof.Machine.execLinkSilence l dark s
  | .linkTrainingRetry l => Sys2Proof.Machine.execLinkTrainingRetry l s
  | .routeSwap v => Sys2Proof.Machine.execRouteSwap v s
  | .drainFlushEnd => Sys2Proof.Machine.execDrainFlushEnd s
  | .fabricLeave v => Sys2Proof.Machine.execFabricLeave v s
  | .leaveTimeout => Sys2Proof.Machine.execLeaveTimeout s
  | .region r bs => Sys2Proof.Machine.execRegion r bs s
  | .routeShadow bs => Sys2Proof.Machine.execRouteShadow bs s
  | .barrierTable bs => Sys2Proof.Machine.execBarrierTable bs s
  | .flagTable bs => Sys2Proof.Machine.execFlagTable bs s
  | .fabArrive cd t v => Sys2Proof.Machine.execFabArrive cd t v s
  | .fabFlagValue cd t v => Sys2Proof.Machine.execFabFlagValue cd t v s
  | .fabFlagAdd cd t v => Sys2Proof.Machine.execFabFlagAdd cd t v s
  | .fabSyncArrive cd seq g e => Sys2Proof.Machine.execFabSyncArrive cd seq g e s
  | .fabSyncFlagStore cd seq f v => Sys2Proof.Machine.execFabSyncFlagStore cd seq f v s
  | .fabSyncFlagAdd cd seq f v => Sys2Proof.Machine.execFabSyncFlagAdd cd seq f v s
  | .fabSyncRelease fd seq g e => Sys2Proof.Machine.execFabSyncRelease fd seq g e s
  | .fabSyncFlag fd seq f v => Sys2Proof.Machine.execFabSyncFlag fd seq f v s
  | .barrierResend g => Sys2Proof.Machine.execBarrierResend g s
  | .syncDieTakeover => Sys2Proof.Machine.execSyncDieTakeover s
  | .rdmaWrite f q p ce => Sys2Proof.Machine.execRdmaWrite f q p ce s
  | .rdmaRead f q psn va rkey len ce => Sys2Proof.Machine.execRdmaRead f q psn va rkey len ce s
  | .send f q psn data ce => Sys2Proof.Machine.execSend f q psn data ce s
  | .fetchAdd f q psn va rkey addend ce => Sys2Proof.Machine.execFetchAdd f q psn va rkey addend ce s
  | .cmpSwap f q psn va rkey cmp swap ce => Sys2Proof.Machine.execCmpSwap f q psn va rkey cmp swap ce s
  | .invalidRequest f q psn answerable writeImm => Sys2Proof.Machine.execInvalidRequest f q psn answerable writeImm s
  | .roceAck f q psn k => Sys2Proof.Machine.execRoceAck f q psn k s
  | .cnp f q => Sys2Proof.Machine.execCnp f q s
  | .arp f senderMac senderIp targetIp => Sys2Proof.Machine.execArp f senderMac senderIp targetIp s
  | .neighbourDiscovery f source target => Sys2Proof.Machine.execNeighbourDiscovery f source target s
  | .icmpEcho f source dst payload => Sys2Proof.Machine.execIcmpEcho f source dst payload s
  | .pfcFrame f prio pause => Sys2Proof.Machine.execPfcFrame f prio pause s
  | .pauseFrame f => Sys2Proof.Machine.execPauseFrame f s
  | .hostMemoryTimeout q => Sys2Proof.Machine.execHostMemoryTimeout q s
  | .qp q bs => Sys2Proof.Machine.execQp q bs s
  | .qpAckTimeout q => Sys2Proof.Machine.execQpAckTimeout q s
  | .window w bs => Sys2Proof.Machine.execWindow w bs s
  | .ringConfig r bs => Sys2Proof.Machine.execRingConfig r bs s
  | .tail r v => Sys2Proof.Machine.execTail r v s
  | .abort r a => Sys2Proof.Machine.execAbort r a s
  | .hostLinkBringup cage => Sys2Proof.Machine.execHostLinkBringup cage s
  | .hostLinkUp port modes => Sys2Proof.Machine.execHostLinkUp port modes s
  | .fecLockLoss port => Sys2Proof.Machine.execFecLockLoss port s
  | .ptpSync f sender seq origin twoStep err => Sys2Proof.Machine.execPtpSync f sender seq origin twoStep err s
  | .ptpFollowUp f sender seq origin => Sys2Proof.Machine.execPtpFollowUp f sender seq origin s
  | .ptpDelayResp f sender seq receive => Sys2Proof.Machine.execPtpDelayResp f sender seq receive s
  | .ptpAnnounce f a => Sys2Proof.Machine.execPtpAnnounce f a s
  | .holdoverEntry bt => Sys2Proof.Machine.execHoldoverEntry bt s
  | .frameMarker site phase => Sys2Proof.Machine.execFrameMarker site phase s
  | .broadcastAbsent => Sys2Proof.Machine.execBroadcastAbsent s
  | .treeTrim tree bt late => Sys2Proof.Machine.execTreeTrim tree bt late s
  | .droop cd t => Sys2Proof.Machine.execDroop cd t s
  | .timeSourceReview => Sys2Proof.Machine.execTimeSourceReview s
  | .sourceLost => Sys2Proof.Machine.execSourceLost s
  | .timeStepDue => Sys2Proof.Machine.execTimeStepDue s
  | .timeStep src seq f d => Sys2Proof.Machine.execTimeStep src seq f d s
  | .inputReading rs bus => Sys2Proof.Machine.execInputReading rs bus s
  | .inputDisconnect => Sys2Proof.Machine.execInputDisconnect s
  | .inputReconnect => Sys2Proof.Machine.execInputReconnect s
  | .overvoltageNotice => Sys2Proof.Machine.execOvervoltageNotice s
  | .shedFalling => Sys2Proof.Machine.execShedFalling s
  | .shedRising => Sys2Proof.Machine.execShedRising s
  | .powerLimitReview w => Sys2Proof.Machine.execPowerLimitReview w s
  | .powerLimitRelease w => Sys2Proof.Machine.execPowerLimitRelease w s
  | .stageFail stage => Sys2Proof.Machine.execStageFail stage s
  | .domainFault d => Sys2Proof.Machine.execDomainFault d s
  | .powerFail => Sys2Proof.Machine.execPowerFail s
  | .sensorSample site v power pc => Sys2Proof.Machine.execSensorSample site v power pc s
  | .thermalReview site => Sys2Proof.Machine.execThermalReview site s
  | .thermalRelease site => Sys2Proof.Machine.execThermalRelease site s
  | .dramTempRead md ts => Sys2Proof.Machine.execDramTempRead md ts s
  | .sensorBroken site how => Sys2Proof.Machine.execSensorBroken site how s
  | .coolantRead inlet outlet flow => Sys2Proof.Machine.execCoolantRead inlet outlet flow s
  | .lowFlow => Sys2Proof.Machine.execLowFlow s
  | .fault n m rep => Sys2Proof.Machine.execFault n m rep s
  | .faultAck src seq m => Sys2Proof.Machine.execFaultAck src seq m s
  | .faultRepeat m => Sys2Proof.Machine.execFaultRepeat m s
  | .keptMessageExpiry => Sys2Proof.Machine.execKeptMessageExpiry s
  | .faultForce site v => Sys2Proof.Machine.execFaultForce site v s
  | .alertPulseEnd => Sys2Proof.Machine.execAlertPulseEnd s
  | .alertClear v => Sys2Proof.Machine.execAlertClear v s
  | .fence src seq site tile cause t => Sys2Proof.Machine.execFence src seq site tile cause t s
  | .recoveryEnd => Sys2Proof.Machine.execRecoveryEnd s
  | .cuppingPeriod => Sys2Proof.Machine.execCuppingPeriod s
  | .cupStart src seq m period t seed => Sys2Proof.Machine.execCupStart src seq m period t seed s
  | .cupTest cd t => Sys2Proof.Machine.execCupTest cd t s
  | .cupTestEnd cd t wrong => Sys2Proof.Machine.execCupTestEnd cd t wrong s
  | .cupHung cd t => Sys2Proof.Machine.execCupHung cd t s
  | .cupResult cd j seq period fin sums => Sys2Proof.Machine.execCupResult cd j seq period fin sums s
  | .cupJudgementTimeout => Sys2Proof.Machine.execCupJudgementTimeout s
  | .heartbeatTick n => Sys2Proof.Machine.execHeartbeatTick n s
  | .heartbeat n role seq => Sys2Proof.Machine.execHeartbeat n role seq s
  | .heartbeatLoss n => Sys2Proof.Machine.execHeartbeatLoss n s
  | .standbyLoss => Sys2Proof.Machine.execStandbyLoss s
  | .baristaActive src seq site epoch => Sys2Proof.Machine.execBaristaActive src seq site epoch s
  | .handbackDue => Sys2Proof.Machine.execHandbackDue s
  | .handback src seq th first epoch => Sys2Proof.Machine.execHandback src seq th first epoch s
  | .watchdog n => Sys2Proof.Machine.execWatchdog n s
  | .knownAnswerTest n found => Sys2Proof.Machine.execKnownAnswerTest n found s
  | .oscillatorCheck n cycles => Sys2Proof.Machine.execOscillatorCheck n cycles s
  | .silenceReset n => Sys2Proof.Machine.execSilenceReset n s
  | .remirrorDone n => Sys2Proof.Machine.execRemirrorDone n s
  | .baristaSlot n => Sys2Proof.Machine.execBaristaSlot n s
  | .periodicCommit => Sys2Proof.Machine.execPeriodicCommit s
  | .earlyCommit => Sys2Proof.Machine.execEarlyCommit s
  | .compaction n => Sys2Proof.Machine.execCompaction n s
  | .compactionDone n => Sys2Proof.Machine.execCompactionDone n s
  | .carafeCommitNow v => Sys2Proof.Machine.execCarafeCommitNow v s
  | .punelRead id bcast f unit => Sys2Proof.Machine.execPunelRead id bcast f unit s
  | .punelWrite id bcast f unit => Sys2Proof.Machine.execPunelWrite id bcast f unit s
  | .punelAbort id bcast f unit => Sys2Proof.Machine.execPunelAbort id bcast f unit s
  | .snapshotExpiry => Sys2Proof.Machine.execSnapshotExpiry s
  | .stagingExpiry => Sys2Proof.Machine.execStagingExpiry s
  | .replyCacheExpiry => Sys2Proof.Machine.execReplyCacheExpiry s
  | .plcaBeacon => Sys2Proof.Machine.execPlcaBeacon s
  | .plcaBeaconLoss => Sys2Proof.Machine.execPlcaBeaconLoss s
  | .nodeIdConflict => Sys2Proof.Machine.execNodeIdConflict s
  | .lcRequest bs => Sys2Proof.Machine.execLcRequest bs s
  | .tamper source => Sys2Proof.Machine.execTamper source s
  | .attestReport id f unit => Sys2Proof.Machine.execAttestReport id f unit s
  | .vendorResponse id sig => Sys2Proof.Machine.execVendorResponse id sig s
  | .updateImage id first last offset total data => Sys2Proof.Machine.execUpdateImage id first last offset total data s
  | .imageVerified => Sys2Proof.Machine.execImageVerified s
  | .imageCopied => Sys2Proof.Machine.execImageCopied s
  | .updateActivate v => Sys2Proof.Machine.execUpdateActivate v s
  | .updateConfirm v => Sys2Proof.Machine.execUpdateConfirm v s
  | .confirmTimer => Sys2Proof.Machine.execConfirmTimer s
  | .startUp e => Sys2Proof.Machine.execStartUp e s
  | .startupStepLimit => Sys2Proof.Machine.execStartupStepLimit s
  | .resetN held => Sys2Proof.Machine.execResetN held s
  | .resetRelease slotId => Sys2Proof.Machine.execResetRelease slotId s
  | .grinderRun v => Sys2Proof.Machine.execGrinderRun v s
  | .grinderDone fails => Sys2Proof.Machine.execGrinderDone fails s
  | .jointFail site group carries joint => Sys2Proof.Machine.execJointFail site group carries joint s
  | .ptpDelayReq port err => Sys2Proof.Machine.execPtpDelayReq port err s
  | .domainOn d => Sys2Proof.Machine.execDomainOn d s
  | .baristaSupplyOutOfRange n => Sys2Proof.Machine.execBaristaSupplyOutOfRange n s

end Sys2Proof.Machine
end

