-- ==== Sys2Proof/Machine/Step.lean ====
section
/-! DEFINITION. One step: the command at the front of the queue, or one tick of the clock. -/
namespace Sys2Proof.Machine

/-- One tick of the 1 GHz timing clock: one nanosecond of module time (R306), in which a die may send the next of its request packets
(R93), the sync die its next VC0 packet (R250). -/
def State.tick (s : State) : State := clockWork { s with ticks := s.ticks + 1, now := s.now + 1 }

/-- Take the command at the front of the queue and run it; on an empty queue the clock ticks. -/
def step (s : State) : Host.Outcome State Fault Refusal :=
  match s.pending with
  | [] => .next s.tick
  | c :: rest => exec c { s with pending := rest }

/-- The state with the command a table word spells at the front of its queue; the table gives no row any bits,
so a word spells none and the state is unchanged. -/
def State.withFetchWord (s : State) (nbits w : Nat) : State :=
  match Sys2Proof.decodeTableWord nbits w with
  | some c => { s with pending := c :: s.pending }
  | none => s

end Sys2Proof.Machine
end

