-- ==== Sys2Proof/WellFormed.lean ====
section
/-! DEFINITION. Well-formed commands: what a link or a medium can present. Most operands are bounded by their types; what is left is
the length of what a packet carries and that a reading covers what it reads. -/
namespace Sys2Proof

/-- A flit carries 64 B (R77). -/
def flitOk (f : Flit) : Bool := f.data.length == 64

/-- A mesh packet's flits are as many as its header says, 16 at most (R79). -/
def meshPacketOk (p : MeshPacket) : Bool :=
  p.flits.length == p.len.toNat && decide (p.len.toNat ≤ 16) && p.flits.all flitOk

/-- A signal packet's words are as many as its header says (R91). -/
def sigPacketOk (p : SigPacket) : Bool := p.payload.length == p.len.toNat

/-- A fabric packet's payload is as long as its header says, 16 flits at most (R239). -/
def fabPacketOk (p : FabPacket) : Bool :=
  p.data.length == p.len.toNat && decide (p.len.toNat ≤ 16) && p.data.all flitOk

/-- What a slot carries: 26 flits at most (R109). -/
def slotFlitsOk (fs : List Flit) : Bool := decide (fs.length ≤ 26) && fs.all flitOk

/-- Engine writes of the same cycle lie in the tile store (R67). -/
def engOk (eng : List (Nat × Byte)) : Bool := eng.all (fun e => decide (e.1 < 0x100000))

/-- No number stands twice. -/
def distinct : List Nat → Bool
  | [] => true
  | n :: ns => !ns.contains n && distinct ns

def cutOk : CutItem → Bool
  | .nothing => true
  | .bank _ => true
  | .mesh p _ => meshPacketOk p
  | .sig p => sigPacketOk p

def ringKey (r : RingId) : Nat := (r.port.val * 2 + (if r.rx then 1 else 0)) * 36 + r.line.val

def marchKey : MarchFail → Nat
  | .store cd t deep _ => (cd.val * 64 + t.val) * 2 + (if deep then 1 else 0)
  | .buffer site _ => 4096 + site.val

def marchLines : MarchFail → BitVec 32
  | .store _ _ _ lines => lines
  | .buffer _ lines => lines

/-- Is a command one that can be presented? -/
def Instr.wf : Instr → Bool
  | .nop _ _ => true
  | .mma _ _ => true
  | .accLoad _ _ => true
  | .accStore _ _ => true
  | .accZero _ _ => true
  | .mark _ _ => true
  | .descriptorRetire _ _ => true
  | .mqTail _ _ _ => true
  | .mqClear _ _ _ => true
  | .mqAbort _ _ _ => true
  | .mqAborted _ _ => true
  | .mqBase _ _ _ => true
  | .srSeed _ _ _ => true
  | .dmaLen _ _ _ => true
  | .dmaCopyDone _ _ => true
  | .dmaFlow _ _ _ => true
  | .coreInstruction _ _ => true
  | .vectorInstruction _ _ => true
  | .csrWrite _ _ _ _ => true
  | .packedUnit _ => true
  | .unitCheckDone _ => true
  | .engineGuard _ _ => true
  | .deepStoreWake _ => true
  | .write _ p eng => meshPacketOk p && engOk eng
  | .readReq _ p => meshPacketOk p
  | .readRsp _ p eng => meshPacketOk p && engOk eng
  | .reduce _ _ p => meshPacketOk p
  | .combineWaitExpiry _ _ _ => true
  | .combineFlit _ p _ eng => meshPacketOk p && engOk eng
  | .notice _ p => meshPacketOk p
  | .unitChecked _ p => meshPacketOk p
  | .reduceDone _ p => meshPacketOk p
  | .meshHop _ _ p => meshPacketOk p
  | .meshDiscard _ _ p => meshPacketOk p
  | .sigFlit _ _ _ => true
  | .sigLinkFail _ => true
  | .sigDiscard _ p => sigPacketOk p
  | .barrierArrive _ _ _ _ => true
  | .barrierRelease _ _ _ _ => true
  | .flagWrite _ _ _ _ _ => true
  | .flagNotify _ _ _ _ => true
  | .loadReq _ _ => true
  | .storeReq _ _ => true
  | .reqDone _ _ _ _ _ => true
  | .time _ _ => true
  | .arbiterDecision _ _ rs => distinct (rs.map (·.requester.val))
  | .holdCut _ _ item => cutOk item
  | .arbiterWindowEnd _ _ => true
  | .frameBoundary => true
  | .slotStart _ short => distinct (short.map (·.1)) && short.all (fun e => decide (e.1 < 366 ∧ e.2 ≤ 26))
  | .slotBurst _ _ => true
  | .tableHeaderSlot _ _ fs => slotFlitsOk fs
  | .tableRowsSlot _ _ fs => slotFlitsOk fs
  | .tableChecked _ => true
  | .tableVerdict _ _ _ _ _ _ => true
  | .tableSwap _ _ _ _ => true
  | .tableClear _ _ _ _ => true
  | .portFailed _ _ _ _ => true
  | .laneExclude _ _ _ _ _ _ => true
  | .laneExcludeClear _ => true
  | .houseBlendChange => true
  | .lineMarginal _ _ => true
  | .uncorrFrameLimit _ => true
  | .cellFailure _ _ => true
  | .loadReqTimeout _ _ => true
  | .storeReqTimeout _ _ _ _ => true
  | .flowTransferTimeout _ _ _ => true
  | .monitorSample _ => true
  | .combLoss _ => true
  | .portLineLoss _ _ => true
  | .ringUnlocked _ => true
  | .ringInputDark _ _ => true
  | .heaterUpdate asks => distinct (asks.map (fun a => ringKey a.1))
  | .toneWindowEnd ws => distinct (ws.map (fun x => ringKey x.ring))
  | .holdTimeout _ => true
  | .calCycleStart => true
  | .calStep _ _ _ _ _ => true
  | .calStepEnd _ => true
  | .swingHold _ _ _ _ _ _ => true
  | .swingRelease _ _ _ _ _ => true
  | .resweepEnd _ _ => true
  | .calLive _ _ => true
  | .fadeEvaluation _ lanes others => lanes.length == 32 && others.length == 4
  | .spareReady _ => true
  | .combSwitchPlanned _ _ _ _ _ => true
  | .combSwitchSudden _ _ _ _ _ => true
  | .add _ _ _ _ => true
  | .swap _ _ _ _ => true
  | .cas _ _ _ _ => true
  | .min _ _ _ _ => true
  | .max _ _ _ _ => true
  | .minu _ _ _ _ => true
  | .maxu _ _ _ _ => true
  | .and _ _ _ _ => true
  | .or _ _ _ _ => true
  | .xor _ _ _ _ => true
  | .reduceAdd _ _ _ data => slotFlitsOk data
  | .reduceMin _ _ _ data => slotFlitsOk data
  | .reduceMax _ _ _ data => slotFlitsOk data
  | .invalidRecord _ _ _ => true
  | .refresh _ _ _ => true
  | .patrolScrub _ => true
  | .softRepair _ _ _ => true
  | .softRepairDone _ => true
  | .stackLockLoss _ => true
  | .setLost _ _ _ _ _ => true
  | .flowTransferComplete _ _ _ => true
  | .syncArrive _ _ _ => true
  | .flagValue _ _ _ => true
  | .flagAddWrite _ _ _ => true
  | .jobExit _ _ _ => true
  | .jobTake => true
  | .imageChecked => true
  | .jobStart _ _ _ _ _ _ _ => true
  | .tileBoot _ _ => true
  | .jobRunning => true
  | .jobStop _ _ _ => true
  | .jobStopped _ _ _ => true
  | .jobStopTimeout => true
  | .jobDrained => true
  | .recordWriteAck _ => true
  | .runLimitExpiry => true
  | .remoteUnit _ _ => true
  | .fabLoad _ p => fabPacketOk p
  | .fabStore _ p => fabPacketOk p
  | .fabAtomic _ p => fabPacketOk p
  | .fabReduce _ p => fabPacketOk p
  | .mcastStore _ p => fabPacketOk p
  | .rsp _ p => fabPacketOk p
  | .barArrive _ p => fabPacketOk p
  | .barRelease _ p => fabPacketOk p
  | .flagStore _ p => fabPacketOk p
  | .flagAdd _ p => fabPacketOk p
  | .flagRead _ p => fabPacketOk p
  | .fabFlagNotify _ p => fabPacketOk p
  | .fabTime _ p _ => fabPacketOk p
  | .hello _ p => fabPacketOk p
  | .leave _ p => fabPacketOk p
  | .drained _ p => fabPacketOk p
  | .linkExclude _ p => fabPacketOk p
  | .linkCal _ p => fabPacketOk p
  | .fabricDiscard _ p => fabPacketOk p
  | .attemptTimeout _ _ => true
  | .dedupeExpiry => true
  | .memoryAnswerTimeout _ => true
  | .throttleReview _ => true
  | .linkSilence _ _ => true
  | .linkTrainingRetry _ => true
  | .routeSwap _ => true
  | .drainFlushEnd => true
  | .fabricLeave _ => true
  | .leaveTimeout => true
  | .region _ _ => true
  | .routeShadow _ => true
  | .barrierTable _ => true
  | .flagTable _ => true
  | .fabArrive _ _ _ => true
  | .fabFlagValue _ _ _ => true
  | .fabFlagAdd _ _ _ => true
  | .fabSyncArrive _ _ _ _ => true
  | .fabSyncFlagStore _ _ _ _ => true
  | .fabSyncFlagAdd _ _ _ _ => true
  | .fabSyncRelease _ _ _ _ => true
  | .fabSyncFlag _ _ _ _ => true
  | .barrierResend _ => true
  | .syncDieTakeover => true
  | .rdmaWrite _ _ p _ => decide (p.data.length ≤ 4096)
  | .rdmaRead _ _ _ _ _ _ _ => true
  | .send _ _ _ data _ => decide (data.length ≤ 4096)
  | .fetchAdd _ _ _ _ _ _ _ => true
  | .cmpSwap _ _ _ _ _ _ _ _ => true
  | .invalidRequest _ _ _ _ _ => true
  | .roceAck _ _ _ _ => true
  | .cnp _ _ => true
  | .arp _ _ _ _ => true
  | .neighbourDiscovery _ source target => source.length == 16 && target.length == 16
  | .icmpEcho _ source dst _ => (source.length == 4 || source.length == 16) && dst.length == source.length
  | .pfcFrame _ _ _ => true
  | .pauseFrame _ => true
  | .hostMemoryTimeout _ => true
  | .qp _ _ => true
  | .qpAckTimeout _ => true
  | .window _ _ => true
  | .ringConfig _ _ => true
  | .tail _ _ => true
  | .abort _ _ => true
  | .hostLinkBringup _ => true
  | .hostLinkUp _ _ => true
  | .fecLockLoss _ => true
  | .ptpSync _ _ _ _ _ _ => true
  | .ptpFollowUp _ _ _ _ => true
  | .ptpDelayResp _ _ _ _ => true
  | .ptpAnnounce _ _ => true
  | .holdoverEntry _ => true
  | .frameMarker _ _ => true
  | .broadcastAbsent => true
  | .treeTrim _ _ _ => true
  | .droop _ _ => true
  | .timeSourceReview => true
  | .sourceLost => true
  | .timeStepDue => true
  | .timeStep _ _ _ _ => true
  | .inputReading rs _ => rs.length == 12
  | .inputDisconnect => true
  | .inputReconnect => true
  | .overvoltageNotice => true
  | .shedFalling => true
  | .shedRising => true
  | .powerLimitReview _ => true
  | .powerLimitRelease _ => true
  | .stageFail _ => true
  | .domainFault _ => true
  | .powerFail => true
  | .sensorSample _ _ _ _ => true
  | .thermalReview _ => true
  | .thermalRelease _ => true
  | .dramTempRead _ ts => ts.length == 18
  | .sensorBroken _ _ => true
  | .coolantRead _ _ _ => true
  | .lowFlow => true
  | .fault _ _ _ => true
  | .faultAck _ _ _ => true
  | .faultRepeat _ => true
  | .keptMessageExpiry => true
  | .faultForce _ _ => true
  | .alertPulseEnd => true
  | .alertClear _ => true
  | .fence _ _ _ _ _ _ => true
  | .recoveryEnd => true
  | .cuppingPeriod => true
  | .cupStart _ _ _ _ _ _ => true
  | .cupTest _ _ => true
  | .cupTestEnd _ _ _ => true
  | .cupHung _ _ => true
  | .cupResult _ _ _ _ _ sums => decide (sums.length ≤ 6)
  | .cupJudgementTimeout => true
  | .heartbeatTick _ => true
  | .heartbeat _ _ _ => true
  | .heartbeatLoss _ => true
  | .standbyLoss => true
  | .baristaActive _ _ _ _ => true
  | .handbackDue => true
  | .handback _ _ _ _ _ => true
  | .watchdog _ => true
  | .knownAnswerTest _ _ => true
  | .oscillatorCheck _ _ => true
  | .silenceReset _ => true
  | .remirrorDone _ => true
  | .baristaSlot _ => true
  | .periodicCommit => true
  | .earlyCommit => true
  | .compaction _ => true
  | .compactionDone _ => true
  | .carafeCommitNow _ => true
  | .punelRead _ _ _ unit => decide (unit.length ≤ 1500)
  | .punelWrite _ _ _ unit => decide (unit.length ≤ 1500)
  | .punelAbort _ _ _ unit => decide (unit.length ≤ 1500)
  | .snapshotExpiry => true
  | .stagingExpiry => true
  | .replyCacheExpiry => true
  | .plcaBeacon => true
  | .plcaBeaconLoss => true
  | .nodeIdConflict => true
  | .lcRequest _ => true
  | .tamper _ => true
  | .attestReport _ _ unit => decide (unit.length ≤ 1500)
  | .vendorResponse _ _ => true
  | .updateImage _ _ _ _ _ data => decide (data.length ≤ 1024)
  | .imageVerified => true
  | .imageCopied => true
  | .updateActivate _ => true
  | .updateConfirm _ => true
  | .confirmTimer => true
  | .startUp _ => true
  | .startupStepLimit => true
  | .resetN _ => true
  | .resetRelease _ => true
  | .grinderRun _ => true
  | .grinderDone fails => distinct (fails.map marchKey) && fails.all (fun f => marchLines f != 0)
  | .jointFail _ _ _ _ => true
  | .ptpDelayReq _ _ => true
  | .domainOn _ => true
  | .baristaSupplyOutOfRange _ => true

end Sys2Proof
end

