-- ==== Sys2Proof/Safety.lean ====
section
/-! DEFINITION. What the claims speak of: a command's completion, what no command touches, and the canonical form of what is stored. -/
namespace Sys2Proof.Machine

/-- A command completes: `exec` answers a next state of which `P` holds. -/
def Completes (c : Instr) (s : State) (P : State → Prop) : Prop := ∃ t, exec c s = .next t ∧ P t

/-- The queue: what is outside every command's reach. -/
def State.outer (s : State) : List Instr := s.pending

/-- A store's canonical form: addresses strictly rising, and in a cleared store no listed byte that reads as an unlisted one does. -/
def Store.wf (st : Store) : Bool := tsorted st.bytes && (!st.cleared || st.bytes.all (fun e => e.2 != 0))

/-- A tile's two stores are in canonical form. -/
def Tile.wf (t : Tile) : Bool := t.store.wf && t.deep.wf

/-- A write-back buffer is in order: at most 256 lines, each once and each of 64 bytes (R187). -/
def bufWf (bs : List BufLine) : Bool :=
  decide (bs.length ≤ 256) && bs.all (fun b => b.data.length == 64) && decide ((bs.map (·.line)).Nodup)

/-- A stack's bytes are in canonical form, addresses strictly rising and no zero byte listed (R179), and its write-back buffer is in order. -/
def Stack.wf (st : Stack) : Bool := twf (fun _ => (0 : Byte)) st.bytes && bufWf st.lineBuf

/-- The canonical form of everything stored (tile stores, deep stores, DRAM), and of the map to it: each mapped set starts at a
whole multiple of 768 GiB (R166). -/
def Memory.wf (s : State) : Bool :=
  s.tiles.all (fun e => e.2.wf) && s.dramStacks.all (fun e => e.2.wf) && s.setBase.all (fun b => b.getD 0 % setSize == 0)

/-- The descriptor at the head of a tile's queue. -/
def nextDesc (s : State) (k : Nat) : Desc := decodeDesc (fetchDesc s.freeCtr (tileAt s k))

/-- The ranges of the tile store a descriptor reads when it starts (R60). -/
def descReads (d : Desc) : List (Nat × Nat) := if d.op = 1 then mmaRanges d else if d.op = 2 then ioRanges d else []

/-- The engine of tile `k` starts the descriptor at its head: the tile is in service and its cycle is no idle one (R337), the queue runs and is not empty (R45), the
entry and what it reads are unpoisoned (R60), the operation is `op`, it need not wait (R46) and no check of it fails (R48). -/
abbrev EngineStarts (s : State) (k op : Nat) : Prop :=
  tileIssues s k = true ∧ mayStart (tileAt s k) = true ∧
  storePoison (tileAt s k).store ((tileAt s k).mq.base.toNat + 64 * ((tileAt s k).mq.head.toNat % 64)) 64 = false ∧
  (nextDesc s k).op = op ∧ ((nextDesc s k).sync = true → (tileAt s k).mq.started = []) ∧
  descErrors (nextDesc s k) (accOf (tileAt s k).mq (nextDesc s k).acc).kind = [] ∧
  firstPoison s.freeCtr (completeWhere (mustEnd (nextDesc s k)) (tileAt s k)).store (descReads (nextDesc s k)) = none

/-- The state after the engine has read its ring entry: corrected words counted, double errors marked (R72). -/
def entryRead (s : State) (k : Nat) : State :=
  readEffects s k false ((tileAt s k).mq.base.toNat + 64 * ((tileAt s k).mq.head.toNat % 64)) 64

/-- The state after the reads of a starting descriptor: its ring entry and its operands (R72). -/
def afterReads (s : State) (k : Nat) : State := (descReads (nextDesc s k)).foldl (fun s r => readEffects s k false r.1 r.2) (entryRead s k)

/-- The queue after a descriptor starts: MQ_HEAD passes it, and it waits among the started ones with its writes (R46) and the free-value counter it
drew from. -/
def startedQueue (ctr : Nat) (q : Mq) (d : Desc) (writes : List Host.Cell) : Mq :=
  { q with head := q.head + 1, started := q.started ++ [{ number := q.head, notify := d.notify, op := d.op, acc := accNamed d, complete := false, writes := writes, seed := ctr }] }

/-- The line of a stack that a record's address names. -/
def recordLine (s : State) (r : OpRecord) : Nat := ((mapAddr s r.addr.toNat).getD (0, 0)).2 / 64

/-- The 64-bit word a record names, as the stack reads it. -/
def recordWord (s : State) (md : Nat) (r : OpRecord) : Word :=
  BitVec.ofNat 64 (leAt (lineRead (stackAt s md) (recordLine s r)).1 (((mapAddr s r.addr.toNat).getD (0, 0)).2 % 64) 8)

/-- The bank of a line that a record covers is held by a repair (R193). -/
def recordHeld (s : State) (md : Nat) (r : OpRecord) : Bool :=
  (List.range (max 1 r.lines.toNat)).any (fun i => bankHeldAt s md (r.addr.toNat + 64 * i))

/-- A stack executes a record with an OP: it serves, the record is well formed and names it (R183, R185), no bank
it needs is under repair (R193), and the line is not poison. -/
abbrev RecordRuns (s : State) (md : Nat) (r : OpRecord) (op : Nat) : Prop :=
  stackServes s md = true ∧ recordValid s md r = true ∧ r.op.toNat = op ∧
  recordHeld s md r = false ∧ (lineRead (stackAt s md) (recordLine s r)).2 = false

/-- The state after an atomic (R184 to R187): the line read with its effects, the atomic counted, the line in the write-back buffer, the
new word written, and a result record with STATUS 0 and the old word sent to the carrier, unless the stack failed in the access (R195). -/
def atomicDone (s : State) (md site : Nat) (r : OpRecord) (poison : Bool) (new : Word) : State :=
  let l := recordLine s r
  let v := lineRead (stackAt s md) l
  let s1 := updStack (bump (lineReadEffects s md l) Obj.atomics) md (fun st => bufTake st { line := l, data := v.1, poison := false })
  sendResult (memWriteLine s1 md l (splice v.1 (((mapAddr s r.addr.toNat).getD (0, 0)).2 % 64) (toLe 8 new.toNat)) poison) md site
    (resultBytes 0 r (recordWord s md r))

/-- The state after a one-line reduce record (R180 to R183): the line read with its effects and counted, the combined line written, poisoned
if either was, and a result record with STATUS 0, or 1 with OLD all ones when the stored line was poison, sent to the carrier, unless the stack failed in the access (R195). -/
def reduceDone (s : State) (md site : Nat) (r : OpRecord) (fl : Flit) : State :=
  let l := recordLine s r
  let v := lineRead (stackAt s md) l
  sendResult (memWriteLine (bump (lineReadEffects s md l) Obj.reduceLines) md l (redLine r.op.toNat r.fmt.toNat v.1 fl.data) (v.2 || fl.poison)) md site
    (resultBytes (if v.2 then 1 else 0) r (if v.2 then BitVec.allOnes 64 else 0))

/-- The state after a packet is taken at its destination node. -/
def meshTaken (s : State) (cd : Nat) (p : MeshPacket) : State := deliver s (.mesh cd (128 + p.dst.toNat) p)

/-- A packet can be taken at its destination node: the die is on, none of its source, destination and channel comes before it
(R78), and its lines are inside the store (R79). -/
abbrev MeshArrives (s : State) (cd : Nat) (p : MeshPacket) : Prop :=
  meshOn s cd = true ∧ meshOrder s cd (128 + p.dst.toNat) p = true ∧ rangePast p = false

/-- A packet can be taken at a tile in service. -/
abbrev TileArrives (s : State) (cd : Nat) (p : MeshPacket) : Prop :=
  MeshArrives s cd p ∧ p.dst.toNat < 64 ∧ tileOut s (64 * cd + p.dst.toNat) = false

end Sys2Proof.Machine
end

