-- ==== Sys2Proof/Certificates/Slice0/Obligations.lean ====
section
/-! DEFINITION. The statements for the provers: what each command does, when it completes, and what holds of every step. -/
open Sys2Proof Sys2Proof.Machine

/-- NOP, MARK, ACC_ZERO, MMA, ACC_LOAD and ACC_STORE start, with their results. When the engine may start a NOP, MARK or ACC_ZERO descriptor, exec answers the next state after the effects of reading its ring entry and the end of the earlier descriptors it must follow, in which MQ_HEAD has passed it and it is among the started descriptors, and ACC_ZERO has emptied its accumulator. Every other field of the module is as that read left it but the counter of free values. When the engine may start an MMA, ACC_LOAD or ACC_STORE descriptor, exec answers the next state, after the effects of reading its ring entry and its operands and the end of the earlier descriptors it must follow (mustEnd), in which MQ_HEAD has passed it and it is among the started descriptors: MMA and ACC_LOAD have written their accumulator and joined their flags to MQ_FLAGS, ACC_STORE holds its bytes until it completes, has joined its flags, and has advanced the generator. Every other field of the module is as the reads left it but the counter of free values. (R42, R45, R46, R36, R55, R58) -/
def Obligations.EngineStartsDescriptors : Prop :=
  (
    ∀ (cd : Fin 16) (t : Fin 64) (s : State),
    (EngineStarts s (tkey cd t) 0 → exec (.nop cd t) s = .next (bumpFree (updTile (afterReads s (tkey cd t)) (tkey cd t) (fun x =>
      { x with mq := startedQueue s.freeCtr x.mq (nextDesc s (tkey cd t)) [] })))) ∧
    (EngineStarts s (tkey cd t) 5 → exec (.mark cd t) s = .next (bumpFree (updTile (afterReads s (tkey cd t)) (tkey cd t) (fun x =>
      { x with mq := startedQueue s.freeCtr x.mq (nextDesc s (tkey cd t)) [] })))) ∧
    (EngineStarts s (tkey cd t) 4 → exec (.accZero cd t) s = .next (bumpFree (updTile (afterReads s (tkey cd t)) (tkey cd t) (fun y =>
      let x := completeWhere (mustEnd (nextDesc s (tkey cd t))) y
      { x with mq := startedQueue s.freeCtr { x.mq with accs := tset (fun _ => {}) x.mq.accs (nextDesc s (tkey cd t)).acc {} } (nextDesc s (tkey cd t)) [] }))))
  ) ∧ (
    ∀ (cd : Fin 16) (t : Fin 64) (s : State),
    (EngineStarts s (tkey cd t) 1 → exec (.mma cd t) s = .next (bumpFree (updTile (afterReads s (tkey cd t)) (tkey cd t) (fun y =>
      let x := completeWhere (mustEnd (nextDesc s (tkey cd t))) y
      { x with mq := startedQueue s.freeCtr (setFlags (setAcc x.mq (nextDesc s (tkey cd t)).acc
          (mmaAcc (seenByte s.ticks x) (nextDesc s (tkey cd t)) (accOf x.mq (nextDesc s (tkey cd t)).acc)).1)
          (mmaAcc (seenByte s.ticks x) (nextDesc s (tkey cd t)) (accOf x.mq (nextDesc s (tkey cd t)).acc)).2) (nextDesc s (tkey cd t)) [] })))) ∧
    (EngineStarts s (tkey cd t) 2 → exec (.accLoad cd t) s = .next (bumpFree (updTile (afterReads s (tkey cd t)) (tkey cd t) (fun y =>
      let x := completeWhere (mustEnd (nextDesc s (tkey cd t))) y
      { x with mq := startedQueue s.freeCtr (setFlags (setAcc x.mq (nextDesc s (tkey cd t)).acc
          (Sys2Proof.Machine.accLoad (storeByte x.store) (nextDesc s (tkey cd t))).1)
          (Sys2Proof.Machine.accLoad (storeByte x.store) (nextDesc s (tkey cd t))).2) (nextDesc s (tkey cd t)) [] })))) ∧
    (EngineStarts s (tkey cd t) 3 → ∀ x o, x = completeWhere (mustEnd (nextDesc s (tkey cd t))) (tileAt (afterReads s (tkey cd t)) (tkey cd t)) →
        o = Sys2Proof.Machine.accStore (nextDesc s (tkey cd t)) (accOf x.mq (nextDesc s (tkey cd t)).acc) x.mq.srSeed x.mq.srPos →
      exec (.accStore cd t) s = .next (bumpFree (setTile (afterReads s (tkey cd t)) (tkey cd t)
        { x with mq := startedQueue s.freeCtr { setFlags x.mq o.flags with srSeed := o.seed, srPos := o.pos } (nextDesc s (tkey cd t)) o.writes })))
  )

/-- The queue registers take what is written, and MQ_CTRL enables, clears and aborts the queue. At a tile in service: MQ_BASE takes bits 19:12 of the value, 4 KiB aligned, when MQ_DONE equals MQ_TAIL and is unchanged otherwise; MQ_TAIL between the tail and MQ_HEAD + 64 is stored and publishes the entries passed, and outside that range it leaves the tail and sets error 0x09 to halt the queue, but changes nothing of a queue that is halted or halting already (log 104); SR_SEED stores the value, 0 as 1, and starts at its first 16 bits. Nothing else changes but the counter of free values. At a tile in service: a write of MQ_CTRL with CLEAR stores the enables and, on a halted queue, sets MQ_HEAD and MQ_DONE to MQ_TAIL and clears HALTED, ERROR and ABORTED, on another only ABORTED, and with ABORT set too it also begins the abort; with ABORT and no CLEAR it stores the enables and begins the abort; MQ_ABORTED ends the abort, once no started descriptor is left, with MQ_HEAD and MQ_DONE at MQ_TAIL and ABORTED set, and changes nothing before that. Nothing else of the module changes. (R44, R45, R49, R58) -/
def Obligations.QueueRegistersAndControl : Prop :=
  (
    ∀ (cd : Fin 16) (t : Fin 64) (v : Word) (s : State), tileLive s (tkey cd t) = true →
    ((tileAt s (tkey cd t)).mq.done = (tileAt s (tkey cd t)).mq.tail → exec (.mqBase cd t v) s = .next (updTile s (tkey cd t) (fun x =>
      { x with mq := { x.mq with base := v.extractLsb' 12 8 ++ (0 : BitVec 12) } }))) ∧
    ((tileAt s (tkey cd t)).mq.done ≠ (tileAt s (tkey cd t)).mq.tail →
      exec (.mqBase cd t v) s = .next (setTile s (tkey cd t) (tileAt s (tkey cd t)))) ∧
    ((tileAt s (tkey cd t)).mq.tail ≤ v ∧ v.toNat ≤ (tileAt s (tkey cd t)).mq.head.toNat + 64 →
      exec (.mqTail cd t v) s = .next (bumpFree (updTile s (tkey cd t) (fun x => { x with mq :=
        { x.mq with
          tail := v
          published := List.foldl (fun p i => tput p i (wordsOf 8 (storeRead x.store (x.mq.base.toNat + 64 * i) 64)))
            x.mq.published ((List.range (v - x.mq.tail).toNat).map (fun j => (x.mq.tail.toNat + j) % 64)) } })))) ∧
    (¬((tileAt s (tkey cd t)).mq.tail ≤ v ∧ v.toNat ≤ (tileAt s (tkey cd t)).mq.head.toNat + 64) →
      (tileAt s (tkey cd t)).mq.halted = false → (tileAt s (tkey cd t)).mq.haltPending = none →
      exec (.mqTail cd t v) s = .next (bumpFree (updTile s (tkey cd t) (fun x => settleHalt { x with mq := { x.mq with haltPending := some (0x09, 0) } })))) ∧
    (¬((tileAt s (tkey cd t)).mq.tail ≤ v ∧ v.toNat ≤ (tileAt s (tkey cd t)).mq.head.toNat + 64) →
      ((tileAt s (tkey cd t)).mq.halted = true ∨ (tileAt s (tkey cd t)).mq.haltPending ≠ none) →
      exec (.mqTail cd t v) s = .next (bumpFree (setTile s (tkey cd t) (tileAt s (tkey cd t))))) ∧
    exec (.srSeed cd t v) s = .next (updTile s (tkey cd t) (fun x =>
      { x with mq := { x.mq with srSeed := if v = 0 then 1 else v, srPos := 0 } }))
  ) ∧ (
    ∀ (cd : Fin 16) (t : Fin 64) (v : Word) (s : State), tileLive s (tkey cd t) = true →
    ((tileAt s (tkey cd t)).mq.halted = true → exec (.mqClear cd t v) s = .next (updTile s (tkey cd t) (fun x =>
      { x with mq := { x.mq with enable := v.getLsbD 0, notifyIe := v.getLsbD 3, errorIe := v.getLsbD 4, head := x.mq.tail, done := x.mq.tail,
                                 halted := false, error := 0, aborted := false, aborting := x.mq.aborting || v.getLsbD 2 } }))) ∧
    ((tileAt s (tkey cd t)).mq.halted = false → exec (.mqClear cd t v) s = .next (updTile s (tkey cd t) (fun x =>
      { x with mq := { x.mq with enable := v.getLsbD 0, notifyIe := v.getLsbD 3, errorIe := v.getLsbD 4, aborted := false,
                                 aborting := x.mq.aborting || v.getLsbD 2 } }))) ∧
    (v.getLsbD 1 = false → exec (.mqAbort cd t v) s = .next (updTile s (tkey cd t) (fun x =>
      { x with mq := { x.mq with enable := v.getLsbD 0, notifyIe := v.getLsbD 3, errorIe := v.getLsbD 4, aborting := true } }))) ∧
    (v.getLsbD 1 = true → exec (.mqAbort cd t v) s = exec (.mqClear cd t (v ||| 4)) s) ∧
    ((tileAt s (tkey cd t)).mq.aborting = true → (tileAt s (tkey cd t)).mq.started = [] →
      exec (.mqAborted cd t) s = .next (updTile s (tkey cd t) (fun x =>
        { x with mq := { x.mq with head := x.mq.tail, done := x.mq.tail, aborted := true, aborting := false } }))) ∧
    ((tileAt s (tkey cd t)).mq.aborting = false ∨ (tileAt s (tkey cd t)).mq.started ≠ [] →
      exec (.mqAborted cd t) s = .next (setTile s (tkey cd t) (tileAt s (tkey cd t))))
  )

/-- The oldest started descriptor retires. At a tile in service whose oldest started descriptor is d: its writes become visible, MQ_DONE passes it, interrupt 16 follows if it asks and is enabled, and a queue that waits for its last started descriptor halts. Nothing outside the tile changes. With none started nothing changes. (R46, R47, R48) -/
def Obligations.DescriptorRetires : Prop :=
  ∀ (cd : Fin 16) (t : Fin 64) (s : State) (d : Started) (rest : List Started), tileLive s (tkey cd t) = true →
  ((tileAt s (tkey cd t)).mq.started = d :: rest → ∃ y, exec (.descriptorRetire cd t) s = .next (setTile s (tkey cd t) (settleHalt y)) ∧
    y.mq = { (tileAt s (tkey cd t)).mq with started := rest, done := (tileAt s (tkey cd t)).mq.done + 1 } ∧
    y.store.bytes = (storePutCells (tileAt s (tkey cd t)).store d.writes).bytes ∧
    y.core.mip = (tileAt s (tkey cd t)).core.mip ||| (if d.notify && (tileAt s (tkey cd t)).mq.notifyIe then 1 <<< 16 else 0) ∧
    y.core.x = (tileAt s (tkey cd t)).core.x ∧ y.core.pc = (tileAt s (tkey cd t)).core.pc ∧ y.deep = (tileAt s (tkey cd t)).deep) ∧
  ((tileAt s (tkey cd t)).mq.started = [] → exec (.descriptorRetire cd t) s = .next (setTile s (tkey cd t) (tileAt s (tkey cd t))))

/-- Copies of the DMA unit: queued, refused with BAD, completed. At a tile in service: a write of DMA_LEN with fewer than eight copies outstanding queues the copy DMA_SRC, DMA_DST and bits 25:0 describe, or, where the copy is not legal or either range touches a bank mapped out, sets BAD and queues an empty one; with eight outstanding it changes nothing. DMA_COPY_DONE completes the oldest copy: DMA_DONE + 1, and each 64 B line of the destination gets the source's bytes and poison (free values where the ranges overlap), after the effects of reading the source; an empty one only counts, and with none outstanding nothing changes. Nothing else of the module changes but the counter of free values. That the source is read and the destination written at completion is the model's choice (log 104). (R29, R44) -/
def Obligations.DmaCopies : Prop :=
  ∀ (cd : Fin 16) (t : Fin 64) (v : Word) (s : State), tileLive s (tkey cd t) = true →
  ((tileAt s (tkey cd t)).dma.queue.length < 8 →
    copyLegal (tileAt s (tkey cd t)).dma.src.toNat (tileAt s (tkey cd t)).dma.dst.toNat (v.extractLsb' 0 26).toNat = true →
    touchesOut (tileAt s (tkey cd t)) (tileAt s (tkey cd t)).dma.src.toNat (v.extractLsb' 0 26).toNat = false →
    touchesOut (tileAt s (tkey cd t)) (tileAt s (tkey cd t)).dma.dst.toNat (v.extractLsb' 0 26).toNat = false →
    exec (.dmaLen cd t v) s = .next (updTile s (tkey cd t) (fun x => { x with dma := { x.dma with queue :=
      x.dma.queue ++ [some (x.dma.src.toNat, x.dma.dst.toNat, (v.extractLsb' 0 26).toNat)] } }))) ∧
  ((tileAt s (tkey cd t)).dma.queue.length < 8 →
    (copyLegal (tileAt s (tkey cd t)).dma.src.toNat (tileAt s (tkey cd t)).dma.dst.toNat (v.extractLsb' 0 26).toNat = false ∨
      touchesOut (tileAt s (tkey cd t)) (tileAt s (tkey cd t)).dma.src.toNat (v.extractLsb' 0 26).toNat = true ∨
      touchesOut (tileAt s (tkey cd t)) (tileAt s (tkey cd t)).dma.dst.toNat (v.extractLsb' 0 26).toNat = true) →
    exec (.dmaLen cd t v) s = .next (updTile s (tkey cd t) (fun x => { x with dma := { x.dma with bad := true, queue := x.dma.queue ++ [none] } }))) ∧
  (8 ≤ (tileAt s (tkey cd t)).dma.queue.length → exec (.dmaLen cd t v) s = .next (setTile s (tkey cd t) (tileAt s (tkey cd t)))) ∧
  ((tileAt s (tkey cd t)).dma.queue = [] → exec (.dmaCopyDone cd t) s = .next s) ∧
  (∀ rest, (tileAt s (tkey cd t)).dma.queue = none :: rest → exec (.dmaCopyDone cd t) s = .next (updTile s (tkey cd t) (fun x =>
    { x with dma := { x.dma with queue := rest, done := x.dma.done + 1 } }))) ∧
  (∀ src dst len rest a b, (tileAt s (tkey cd t)).dma.queue = some (src, dst, len) :: rest → coreRange src len = some a → coreRange dst len = some b →
    ∀ s', s' = readEffects (updTile s (tkey cd t) (fun x => { x with dma := { x.dma with queue := rest, done := x.dma.done + 1 } }))
      (tkey cd t) a.1 a.2 len →
    exec (.dmaCopyDone cd t) s = .next (bumpFree (updTile s' (tkey cd t) (fun x =>
      List.foldl (copyLine s.freeCtr s.ticks x a b (overlap src dst len)) x (List.range (len / 64))))))

/-- CSR_WRITE stores the plain tile CSRs and ignores the read-only ones. At a tile in service, CSR_WRITE of DMA_SRC, DMA_DST, FLOW_SEL, SYNC_SEL, FLAG_SEL, JOB_IE, FAB_BSEL and FAB_FSEL stores the field's bits of the value; of MQ_FLAGS and DMA_FLAGS it clears the bits written 1; of MQ_HEAD, MQ_DONE, MQ_STATUS, DMA_DONE, FLOW_COUNT, SYNC_EPOCH, JOB_INFO and FAB_EPOCH it changes nothing of the tile. Nothing outside the tile changes. (R44, R206, R261) -/
def Obligations.TileCsrWrites : Prop :=
  ∀ (cd : Fin 16) (t : Fin 64) (v : Word) (s : State), tileLive s (tkey cd t) = true →
  exec (.csrWrite cd t 8 v) s = .next (updTile s (tkey cd t) (fun x => { x with dma := { x.dma with src := v.extractLsb' 0 32 } })) ∧
  exec (.csrWrite cd t 9 v) s = .next (updTile s (tkey cd t) (fun x => { x with dma := { x.dma with dst := v.extractLsb' 0 32 } })) ∧
  exec (.csrWrite cd t 14 v) s = .next (updTile s (tkey cd t) (fun x => { x with flowSel := v.extractLsb' 0 16 })) ∧
  exec (.csrWrite cd t 18 v) s = .next (updTile s (tkey cd t) (fun x => { x with syncSel := v.extractLsb' 0 8 })) ∧
  exec (.csrWrite cd t 20 v) s = .next (updTile s (tkey cd t) (fun x => { x with flagSel := v.extractLsb' 0 12 })) ∧
  exec (.csrWrite cd t 24 v) s = .next (updTile s (tkey cd t) (fun x => { x with jobIe := v.extractLsb' 0 3 })) ∧
  exec (.csrWrite cd t 27 v) s = .next (updTile s (tkey cd t) (fun x => { x with fabBsel := BitVec.ofNat 64 (v.toNat % 1024) })) ∧
  exec (.csrWrite cd t 29 v) s = .next (updTile s (tkey cd t) (fun x => { x with fabFsel := BitVec.ofNat 64 (v.toNat % 4096) })) ∧
  exec (.csrWrite cd t 6 v) s = .next (updTile s (tkey cd t) (fun x => { x with mq := { x.mq with
    intSat := x.mq.intSat && !v.getLsbD 0, overflow := x.mq.overflow && !v.getLsbD 1,
    nanOut := x.mq.nanOut && !v.getLsbD 2, specialIn := x.mq.specialIn && !v.getLsbD 3 } })) ∧
  exec (.csrWrite cd t 13 v) s = .next (updTile s (tkey cd t) (fun x => { x with dma := { x.dma with bad := x.dma.bad && !v.getLsbD 0 } })) ∧
  (∀ c : Fin 32, c.val ∈ [2, 3, 4, 11, 15, 19, 23, 28] → exec (.csrWrite cd t c v) s = .next (setTile s (tkey cd t) (tileAt s (tkey cd t))))

/-- One instruction of a tile's program: ADDI, an undefined encoding and vsetivli, and what is not issued changes nothing. Where a core in service runs in a cycle that temperature and supply let it use, takes no interrupt, and its next four bytes are an ADDI, CORE_INSTRUCTION answers the state in which the destination holds the sum (x0 is discarded), the pc has passed the instruction and the retirement is counted unless inhibited, after the effects of the fetch's reads; where they are an all-ones word of 32 bits or more, which no RV64GC instruction is, it takes the illegal-instruction exception. A core that does not run, and one in an idle cycle or out of service, is unchanged. Where a core in service runs in a cycle that temperature and supply let it use, takes no interrupt, VS is not off and its next four bytes are a vsetivli, VECTOR_INSTRUCTION answers the state in which vtype and vl are set from the immediates, vl is in the destination, and the pc has passed the instruction. A core that does not run, and one in an idle cycle or out of service, is unchanged. (R26, R27, R337, R28) -/
def Obligations.ProgramsRun : Prop :=
  (
    ∀ (cd : Fin 16) (t : Fin 64) (s : State),
    (tileIssues s (tkey cd t) = false → exec (.coreInstruction cd t) s = .next s) ∧ (tileIssues s (tkey cd t) = true →
    ((tileAt s (tkey cd t)).core.running = true → (tileAt s (tkey cd t)).halted = false → readyIrqs (tileAt s (tkey cd t)).core = [] →
      (∀ w, fetchWord s (tkey cd t) = .ok (4, w) → w % 128 = 0x13 → iF3 w = 0 →
        exec (.coreInstruction cd t) s = .next (bumpFree (updCore (fetchEffects s (tkey cd t) 4) (tkey cd t) (fun c =>
          { putX c (iRd w) (xAt c (iRs1 w) + immI w) with
            pc := (coreAt s (tkey cd t)).pc + 4,
            instret := if (coreAt s (tkey cd t)).countInhibit.getLsbD 2 then c.instret else c.instret + 1 })))) ∧
      (∀ w, fetchWord s (tkey cd t) = .ok (4, w) → w % 128 = 0x7F →
        exec (.coreInstruction cd t) s = .next (bumpFree (updCore (fetchEffects s (tkey cd t) 4) (tkey cd t) (fun c =>
          takeException c 2 (BitVec.ofNat 64 w)))))) ∧
    ((tileAt s (tkey cd t)).core.running = false → exec (.coreInstruction cd t) s = .next s))
  ) ∧ (
    ∀ (cd : Fin 16) (t : Fin 64) (s : State),
    (tileIssues s (tkey cd t) = false → exec (.vectorInstruction cd t) s = .next s) ∧ (tileIssues s (tkey cd t) = true →
    ((tileAt s (tkey cd t)).core.running = true → (tileAt s (tkey cd t)).halted = false → readyIrqs (tileAt s (tkey cd t)).core = [] →
      ∀ w, fetchWord s (tkey cd t) = .ok (4, w) → w % 128 = 0x57 → iF3 w = 7 → bitAt w 31 = true → bitAt w 30 = true →
        vsOff (coreAt (fetchEffects s (tkey cd t) 4) (tkey cd t)) = false →
        ∀ s1, s1 = updVec (fetchEffects s (tkey cd t) 4) (tkey cd t) (fun v => setVl v (BitVec.ofNat 64 (fld w 20 10)) (some (iRs1 w))) →
        ∃ u, exec (.vectorInstruction cd t) s = .next u ∧ vecAt u (tkey cd t) = vecAt s1 (tkey cd t) ∧
          (coreAt u (tkey cd t)).pc = (coreAt s (tkey cd t)).pc + 4 ∧
          (iRd w ≠ 0 → xAt (coreAt u (tkey cd t)) (iRd w) = (vecAt s1 (tkey cd t)).vl) ∧ u.sent = s1.sent ∧ u.dict = s1.dict) ∧
    ((tileAt s (tkey cd t)).core.running = false → exec (.vectorInstruction cd t) s = .next s))
  )

/-- A flow transfer of every kind starts, and completes. At a tile in service, a write of DMA_FLOW: names a flow the tile has no part in, sets BAD; at the receiver of a SEND starts its part while fewer than four such are outstanding, else changes nothing; at another with four transfers outstanding changes nothing; with a place free, x being the next transfer, a SEND sends its lines, read with their effects, to the port adapters as WRITE packets for the receiver's die; a MESH_REDUCE sends the contributor's lines as REDUCE packets (startReduce); a flow whose region is not resolved, or whose range is outside it, begins a transfer that ends REFUSED; a remote one sends its units to the fabric die (startRemote); a local one outside mapped DRAM is refused with its message, one that touches a lost set ends at the die (lostLocal), and another issues its request packets, a store, reduce or atomic after its lines have left in WRITE packets; a flow of no such kind sets BAD. When the oldest transfer of a flow has its ending (of a SEND at its receiver, once that has started it), FLOW_TRANSFER_COMPLETE counts it, joins its status, frees its place and its answered requests' TAGs, and raises interrupt 18 if JOB_IE asks; without it nothing changes. (R29, R30, R170, R196, R201, R203, R204, R206, R211, R246) -/
def Obligations.FlowTransfers : Prop :=
  ∀ (cd : Fin 16) (t : Fin 64) (v : Word) (s : State), tileLive s (tkey cd t) = true →
  (partOf s (tkey cd t) (v.toNat % 65536) = none → exec (.dmaFlow cd t v) s = .next (updTile s (tkey cd t) (fun x => { x with dma := { x.dma with bad := true } }))) ∧
  (∀ d p f, partOf s (tkey cd t) (v.toNat % 65536) = some (d, p) → d.kind = 4 → sendReceives s (tkey cd t) d p = true → f = flowSt (tileAt s (tkey cd t)) d.flow →
    (f.asked < f.count.toNat + 4 → exec (.dmaFlow cd t v) s = .next (updTile s (tkey cd t) (fun y =>
      setFlow (openRecv y d.flow p.outLines f.asked) d.flow { flowSt (openRecv y d.flow p.outLines f.asked) d.flow with asked := f.asked + 1 }))) ∧
    (f.count.toNat + 4 ≤ f.asked → exec (.dmaFlow cd t v) s = .next s)) ∧
  (∀ d p, partOf s (tkey cd t) (v.toNat % 65536) = some (d, p) → (d.kind = 4 → sendReceives s (tkey cd t) d p = false) →
    4 ≤ (flowSt (tileAt s (tkey cd t)) (v.toNat % 65536)).open_.length → exec (.dmaFlow cd t v) s = .next s) ∧
  (∀ d p, partOf s (tkey cd t) (v.toNat % 65536) = some (d, p) → (d.kind = 4 → sendReceives s (tkey cd t) d p = false) →
    (flowSt (tileAt s (tkey cd t)) (v.toNat % 65536)).open_.length < 4 →
    ∀ x, x = newXfer (flowSt (tileAt s (tkey cd t)) (v.toNat % 65536)).begun →
    (d.kind = 4 → exec (.dmaFlow cd t v) s = .next (bumpFree (txWrite
      (beginXfer (bufEffects s (tkey cd t) (bufLine p x.n) p.lines) (tkey cd t) d.flow { x with reqDone := true, lastSlot := some s.ticks, expect := p.lines })
      (tkey cd t) d.flow (bufLine p x.n) ((bufFlits s (tkey cd t) (bufLine p x.n) p.lines).zipIdx.map (fun e =>
        { dstSite := siteCD ((physOf s p.peer).getD 0 / 64), req := false, tile := BitVec.ofNat 6 (tkey cd t % 64), tag := 0, offset := e.2, flit := e.1,
          last := e.2 + 1 == (bufFlits s (tkey cd t) (bufLine p x.n) p.lines).length, xfer := x.n }))))) ∧
    (d.kind = 5 → exec (.dmaFlow cd t v) s = .next (startReduce s (tkey cd t) d p x)) ∧
    (d.kind = 8 → exec (.dmaFlow cd t v) s = .next (updTile s (tkey cd t) (fun x => { x with dma := { x.dma with bad := true } }))) ∧
    (d.kind ≠ 4 → d.kind ≠ 5 → d.kind ≠ 8 →
      (regionOf s d.region = none → exec (.dmaFlow cd t v) s =
        .next (beginXfer s (tkey cd t) (v.toNat % 65536) { x with status := 2, reqDone := true })) ∧
      (∀ r, regionOf s d.region = some r →
        (r.size < xferOffset p x.n + 64 * p.lines → exec (.dmaFlow cd t v) s =
          .next (beginXfer s (tkey cd t) (v.toNat % 65536) { x with status := 2, reqDone := true })) ∧
        (xferOffset p x.n + 64 * p.lines ≤ r.size → r.remote = true → exec (.dmaFlow cd t v) s = .next (startRemote s (tkey cd t) d p r x)) ∧
        (xferOffset p x.n + 64 * p.lines ≤ r.size → r.remote = false → ∀ a, a = r.base + xferOffset p x.n →
          (rangeRefused s a (64 * p.lines) = true → exec (.dmaFlow cd t v) s =
            .next (refuseAddr (beginXfer s (tkey cd t) d.flow { x with status := 2, reqDone := true }) (tkey cd t / 64) a)) ∧
          (rangeRefused s a (64 * p.lines) = false → rangeLost s a (64 * p.lines) = true → exec (.dmaFlow cd t v) s =
            .next (lostLocal s (tkey cd t) d p a x)) ∧
          (rangeRefused s a (64 * p.lines) = false → rangeLost s a (64 * p.lines) = false →
            (d.kind = 1 ∨ d.kind = 3 → exec (.dmaFlow cd t v) s = .next (bumpFree (issueReq
              (beginXfer s (tkey cd t) d.flow { x with expect := 0, lastSlot := some s.ticks }) (tkey cd t / 64) (tkey cd t % 64)
              d.flow x.n true a p.lines (rangeStacks s a (64 * p.lines))))) ∧
            (d.kind ≠ 1 → d.kind ≠ 3 → ∀ fs, fs = bufFlits s (tkey cd t) (bufLine p x.n) p.lines → exec (.dmaFlow cd t v) s = .next (bumpFree (issueReq
              (txWrite (beginXfer (bufEffects s (tkey cd t) (bufLine p x.n) p.lines) (tkey cd t) d.flow
                { x with expect := if d.kind = 7 then (recordsIn fs).length else 0, lastSlot := some s.ticks }) (tkey cd t) d.flow (bufLine p x.n)
                (storeItems s (tkey cd t % 64) (freeTag (dieAt s (tkey cd t / 64))) a (d.kind == 7) fs)) (tkey cd t / 64) (tkey cd t % 64)
              d.flow x.n false a p.lines (if d.kind = 7 then [((mapAddr s a).getD (0, 0)).1] else rangeStacks s a (64 * p.lines)))))))))) ∧
  (∀ (flow : BitVec 16) d p x rest, partOf s (tkey cd t) flow.toNat = some (d, p) → (flowSt (tileAt s (tkey cd t)) flow.toNat).open_ = x :: rest →
    (xferDone d.kind p.outLines x = true →
      (d.kind = 4 → sendReceives s (tkey cd t) d p = true → (flowSt (tileAt s (tkey cd t)) flow.toNat).count.toNat < (flowSt (tileAt s (tkey cd t)) flow.toNat).asked) →
      exec (.flowTransferComplete cd t flow) s = .next (setTile (setDie s (tkey cd t / 64) { dieAt s (tkey cd t / 64) with
          reqs := (dieAt s (tkey cd t / 64)).reqs.filter (fun r =>
            !(answered r && r.for_ == .transfer && r.tile.toNat == tkey cd t % 64 && r.flow.toNat == flow.toNat && r.transfer == x.n)) }) (tkey cd t)
        (let y := tileAt s (tkey cd t)
         let z := setFlow y flow.toNat { flowSt y flow.toNat with count := (flowSt y flow.toNat).count + 1, status := (flowSt y flow.toNat).status ||| x.status, open_ := rest }
         if z.jobIe.getLsbD 0 then localIrq z 18 else z))) ∧
    (xferDone d.kind p.outLines x = false → exec (.flowTransferComplete cd t flow) s = .next s))

/-- A deep store wakes, the engine guard counts, and the inflater expands and checks units. When a cache die finishes waking from Off, its domain is On and each of its 64 deep stores lists nothing, reading as zero if clear-on-wake was set when the wake began and as undefined otherwise; every other tile and the rest of each of the 64 is as before. ENGINE_GUARD at a tile in service counts one refusal in TS_ENGINE_GUARD and changes nothing else. On a compute die that is on, for the oldest whole unit of the inflater: with its transfer ended, PACKED_UNIT frees its flits; while the header of an earlier unit is outstanding it changes nothing; a unit that starts past the output lines is freed; a bad header raises INFLATE_ERR row 1, writes the rest of the transfer's output poison-marked with free bytes, counts it as checked and marks the transfer's POISON; sections that do not expand raise row 2 and their output is written so; else the expanded lines are written to the tile (poisoned if any input flit was) and the check is left pending. With no whole unit nothing changes. When the oldest pending check is good, UNIT_CHECK_DONE sends the tile its lines, noting the transfer they belong to; when it is not, it raises INFLATE_ERR row 3 and writes the range again, poison-marked with free bytes; with none pending nothing changes. Which lines a bad header ends, and that a unit past the output lines is dropped, is the model's choice (log 104). (R71, R76, R61, R63, R64, R65) -/
def Obligations.StoreAndInflater : Prop :=
  (
    (∀ (n : Fin 16) (s : State), domAt s (domKD n.val) = .turningOn .off →
      ∃ u, exec (.deepStoreWake n) s = .next u ∧ domAt u (domKD n.val) = .on ∧
        (∀ t, t < 64 → tileAt u (64 * n.val + t) = { tileAt s (64 * n.val + t) with deep := { cleared := s.wakeClears.contains n.val } }) ∧
        (∀ j, j / 64 ≠ n.val → tileAt u j = tileAt s j) ∧ { u with tiles := s.tiles, domains := s.domains } = s) ∧
    (∀ (cd : Fin 16) (t : Fin 64) (s : State), tileLive s (tkey cd t) = true → exec (.engineGuard cd t) s = .next (bump s Obj.tsEngineGuard))
  ) ∧ (
    ∀ (p : Fin 192) (s : State), meshOn s (p.val / 12) = true →
    ((inflAt s p.val).buf.find? (fun x => (unitFlits (inflAt s p.val) x).length == 64) = none → exec (.packedUnit p) s = .next s) ∧
    (∀ x0, (inflAt s p.val).buf.find? (fun x => (unitFlits (inflAt s p.val) x).length == 64) = some x0 →
      ∀ fs h s1, fs = unitFlits (inflAt s p.val) x0 → h = unitHead (fs.flatMap (fun y => y.flit.data)) →
      s1 = setInfl s p.val { inflAt s p.val with buf := (inflAt s p.val).buf.filter (fun y => !fs.contains y) } →
      (xferOf s (64 * (p.val / 12) + x0.tile) x0.flow x0.transfer = none → exec (.packedUnit p) s = .next s1) ∧
      (∀ x d pt, xferOf s (64 * (p.val / 12) + x0.tile) x0.flow x0.transfer = some x → partOf s (64 * (p.val / 12) + x0.tile) x0.flow = some (d, pt) →
        (unitStart x (x0.offset / 64) = none → exec (.packedUnit p) s = .next s) ∧
        (∀ st, unitStart x (x0.offset / 64) = some st → pt.outLines ≤ st → exec (.packedUnit p) s = .next s1) ∧
        (∀ st, unitStart x (x0.offset / 64) = some st → st < pt.outLines → headOk s1 h = false →
          exec (.packedUnit p) s = .next (bumpFree (updTile (adapterWrite (inflateErr s1 p.val 1 x0.flow) p.val x0.tile x0.flow (bufLine pt x0.transfer + st)
            (poisonLines (inflateErr s1 p.val 1 x0.flow).freeCtr st (pt.outLines - st))) (64 * (p.val / 12) + x0.tile) (fun t => updXfer t x0.flow x0.transfer (fun y =>
            { y with checked := y.checked + (pt.outLines - st), status := y.status ||| 1 }))))) ∧
        (∀ st, unitStart x (x0.offset / 64) = some st → st < pt.outLines → headOk s1 h = true → expandUnit s1 h (fs.flatMap (fun y => y.flit.data)) = none →
          exec (.packedUnit p) s = .next (bumpFree (adapterWrite (inflateErr s1 p.val 2 x0.flow) p.val x0.tile x0.flow (bufLine pt x0.transfer + st)
            (poisonLines s.freeCtr st (unitLines h))))) ∧
        (∀ st out, unitStart x (x0.offset / 64) = some st → st < pt.outLines → headOk s1 h = true → expandUnit s1 h (fs.flatMap (fun y => y.flit.data)) = some out →
          exec (.packedUnit p) s = .next (setInfl (adapterWrite s1 p.val x0.tile x0.flow (bufLine pt x0.transfer + st)
            ((List.range (unitLines h)).map (fun i => { data := slice out (64 * i) 64, poison := fs.any (fun y => y.flit.poison) }))) p.val
            { buf := (inflAt s p.val).buf.filter (fun y => !fs.contains y), owed := (inflAt s p.val).owed, dropped := (inflAt s p.val).dropped,
              check := (inflAt s p.val).check ++ [{ flow := x0.flow, tile := x0.tile, transfer := x0.transfer, firstLine := bufLine pt x0.transfer + st,
                                                    lines := unitLines h, good := decide (crc32c out = h.check) }] })))) ∧
    ((inflAt s p.val).check = [] → exec (.unitCheckDone p) s = .next s) ∧
    (∀ c rest, (inflAt s p.val).check = c :: rest → ∀ s1, s1 = setInfl s p.val { inflAt s p.val with check := rest } →
      (c.good = true → ∀ key, key = txKey (64 + p.val % 12) c.tile c.flow → exec (.unitCheckDone p) s = .next (meshSend
        (setDie s1 (p.val / 12) { dieAt s (p.val / 12) with
          unitMeta := tput (dieAt s (p.val / 12)).unitMeta key ((tfind (dieAt s (p.val / 12)).unitMeta key).getD [] ++ [c.transfer]) })
        (p.val / 12) (progress (64 + p.val % 12) c.tile 0 c.lines c.flow))) ∧
      (c.good = false → exec (.unitCheckDone p) s = .next (bumpFree (adapterWrite
        (raise s1 (siteCD (p.val / 12)) 0x04 0x09 3 true (p.val + 3 * 512 + c.flow * 65536)) p.val c.tile c.flow c.firstLine
          (poisonLines s1.freeCtr c.firstLine c.lines)))))
  )

/-- Packets at a mesh router: on their way, discarded, combined, let go. On a compute die that is on, a packet next in its order at a router: of a listed KIND, MESH_HOP sends it on to the next router, x before y, or to its destination, on a link when it has credits; leaves everything as it is while the next input has no space; and at the router of its destination tile, out of service, discards it, telling the source of a WRITE, READ_REQ or REDUCE; of an unlisted KIND, MESH_HOP and MESH_DISCARD discard it and raise kind 0x0B with router and KIND, and MESH_DISCARD so discards a range past line 16,383 at its destination. A REDUCE is so discarded at a tile out of service; goes on when MESH_COMBINE_WAIT is 0; is combined with the first packet waiting there for the same output that it is a partner of and goes on as their sum; else it waits, counted from the arrival of its head flit, while fewer than 32 do and its wait is not over, and otherwise goes on. At the end of a wait, or while 32 wait, the packet goes on unchanged, or is discarded at a tile out of service; before, it waits. None goes on while the next input has no space. A packet not next in its order stays as it is. (R78, R79, R80, R83, R86, R101, R302) -/
def Obligations.MeshMoves : Prop :=
  ∀ (cd : Fin 16) (r : Fin 64) (p : MeshPacket) (s : State), meshOn s cd.val = true →
  (meshOrder s cd.val r.val p = false → exec (.meshHop cd r p) s = .next s ∧ exec (.reduce cd r p) s = .next s) ∧
  (kindListed p = true → meshOrder s cd.val r.val p = true →
    (atFenced s cd.val r.val p = true → exec (.meshHop cd r p) s = .next (fencedDiscard (dropHead (deliver s (.mesh cd.val r.val p)) cd.val r.val p) cd.val p)) ∧
    (atFenced s cd.val r.val p = false → meshRoom s cd.val r.val p = true → exec (.meshHop cd r p) s = .next (meshPut
      (dropHead (takeLink (deliver s (.mesh cd.val r.val p)) cd.val r.val (routeOut r.val p.dst.toNat) (linkEntries p)) cd.val r.val p)
      cd.val (nextHop r.val p.dst.toNat) p)) ∧
    (atFenced s cd.val r.val p = false → meshRoom s cd.val r.val p = false → exec (.meshHop cd r p) s = .next s)) ∧
  (kindListed p = false → meshOrder s cd.val r.val p = true → exec (.meshHop cd r p) s = .next (raise (deliver s (.mesh cd.val r.val p)) (siteCD cd.val) 0x02 0x0B 1 false
    (r.val * 2 ^ 34 + p.kind.toNat + 0))) ∧
  (kindListed p = false → exec (.meshDiscard cd r p) s = .next (raise (deliver s (.mesh cd.val r.val p)) (siteCD cd.val) 0x02 0x0B 1 false
    (r.val * 2 ^ 34 + p.kind.toNat + 0))) ∧
  (kindListed p = true → rangePast p = true → exec (.meshDiscard cd r p) s = .next (raise (deliver s (.mesh cd.val (128 + p.dst.toNat) p))
    (siteCD cd.val) 0x02 0x0B 1 false (nodeRouter p.dst.toNat * 2 ^ 34 + p.kind.toNat + 16))) ∧
  (meshOrder s cd.val r.val p = true → ∀ go me, go = (if meshRoom s cd.val r.val p then forward (deliver s (.mesh cd.val r.val p)) cd.val r.val p else s) →
    me = { packet := p, out := nextHop r.val p.dst.toNat, since := headSince s cd.val r.val p } →
    (atFenced s cd.val r.val p = true → exec (.reduce cd r p) s = .next (fencedDiscard (dropHead (deliver s (.mesh cd.val r.val p)) cd.val r.val p) cd.val p)) ∧
    (atFenced s cd.val r.val p = false →
      (dval s Obj.meshCombineWait = 0 → exec (.reduce cd r p) s = .next go) ∧
      (∀ w, dval s Obj.meshCombineWait ≠ 0 →
        (waitsAt (dieAt s cd.val) r.val).find? (fun w => w.out == nextHop r.val p.dst.toNat && partners w.packet p && !waitOver s cd.val r.val w) = some w →
        (meshRoom s cd.val r.val p = true → exec (.reduce cd r p) s = .next (bumpFree (forward (dropHead (setDie (deliver s (.mesh cd.val r.val p)) cd.val
          (setWaits (dieAt s cd.val) r.val ((waitsAt (dieAt s cd.val) r.val).erase w))) cd.val r.val p) cd.val r.val (combine s.freeCtr w.packet p)))) ∧
        (meshRoom s cd.val r.val p = false → exec (.reduce cd r p) s = .next s)) ∧
      (dval s Obj.meshCombineWait ≠ 0 →
        (waitsAt (dieAt s cd.val) r.val).find? (fun w => w.out == nextHop r.val p.dst.toNat && partners w.packet p && !waitOver s cd.val r.val w) = none →
        (32 ≤ (waitsAt (dieAt s cd.val) r.val).length ∨ waitOver s cd.val r.val me = true → exec (.reduce cd r p) s = .next go) ∧
        ((waitsAt (dieAt s cd.val) r.val).length < 32 → waitOver s cd.val r.val me = false →
          exec (.reduce cd r p) s = .next (dropHead (setDie (deliver s (.mesh cd.val r.val p)) cd.val (setWaits (dieAt s cd.val) r.val
            (waitsAt (dieAt s cd.val) r.val ++ [me]))) cd.val r.val p))))) ∧
  (∀ (i : Fin 32) w, (waitsAt (dieAt s cd.val) r.val)[i.val]? = some w →
    ∀ t, t = setDie s cd.val (setWaits (dieAt s cd.val) r.val ((waitsAt (dieAt s cd.val) r.val).erase w)) →
    (atFenced s cd.val r.val w.packet = true → exec (.combineWaitExpiry cd r i) s = .next (fencedDiscard t cd.val w.packet)) ∧
    (atFenced s cd.val r.val w.packet = false → meshRoom s cd.val r.val w.packet = true →
      (w.since + dval s Obj.meshCombineWait ≤ tileClocks s (64 * cd.val + r.val) ∨ 32 ≤ (waitsAt (dieAt s cd.val) r.val).length →
        exec (.combineWaitExpiry cd r i) s = .next (forward t cd.val r.val w.packet)) ∧
      (tileClocks s (64 * cd.val + r.val) < w.since + dval s Obj.meshCombineWait → (waitsAt (dieAt s cd.val) r.val).length < 32 →
        exec (.combineWaitExpiry cd r i) s = .next s)) ∧
    (atFenced s cd.val r.val w.packet = false → meshRoom s cd.val r.val w.packet = false → exec (.combineWaitExpiry cd r i) s = .next s))

/-- WRITE, READ_REQ and READ_RSP complete at their node. On a compute die that is on, with a packet next in its order whose lines are inside the store: at a tile in service, WRITE completes with its lines written together with the bytes the engine writes in the same cycle, the writer told of every collision, and the flow's transfer advanced by each line; READ_RSP completes with its lines so written; READ_REQ completes with the lines read, with the effects of reading them, and sent to the requester in a READ_RSP at its RLINE. At an adapter WRITE completes with its flits in its port's queue for the flow, each with the receiver and place its transfer has for it. The packet is off the way. (R69, R70, R72, R79, R82, R85, R205) -/
def Obligations.MeshWritesAndReads : Prop :=
  ∀ (cd : Fin 16) (p : MeshPacket) (eng : List (Nat × Byte)) (s : State),
  (TileArrives s cd.val p →
    exec (.write cd p eng) s = .next (List.foldl
      (fun s x => bootLine (flowLine s (64 * cd.val + p.dst.toNat) (pktFlow p) (pktLine p + x.2) x.1.poison) (64 * cd.val + p.dst.toNat) (pktFlow p) x.1.poison)
      (collisionNotices (netWrite (meshTaken s cd.val p) (64 * cd.val + p.dst.toNat) (pktLine p) p.flits eng) cd.val p.dst.toNat p.src.toNat (pktFlow p)
        (collided (pktLine p) p.flits eng)) p.flits.zipIdx)) ∧
  (TileArrives s cd.val p →
    exec (.readRsp cd p eng) s = .next (collisionNotices (netWrite (meshTaken s cd.val p) (64 * cd.val + p.dst.toNat) (pktLine p) p.flits eng)
      cd.val p.dst.toNat p.src.toNat 0 (collided (pktLine p) p.flits eng))) ∧
  (TileArrives s cd.val p →
    exec (.readReq cd p) s = .next (
      let n := (p.fields.extractLsb' 6 4).toNat + 1
      let u := readEffects (meshTaken s cd.val p) (64 * cd.val + p.dst.toNat) false (64 * pktLine p) (64 * n)
      bumpFree (meshSend u cd.val
        { dst := p.src, src := p.dst, vc := 2, kind := 3, len := BitVec.ofNat 5 n,
          fields := BitVec.ofNat 39 ((p.fields.extractLsb' 11 14).toNat * 2 ^ 25 + (p.fields.extractLsb' 0 6).toNat),
          flits := (List.range n).map (fun i =>
            { data := tileRead s.ticks (tileAt u (64 * cd.val + p.dst.toNat)) false (64 * (pktLine p + i)) 64,
              poison := storePoison (tileAt u (64 * cd.val + p.dst.toNat)).store (64 * (pktLine p + i)) 64 }) }))) ∧
  (MeshArrives s cd.val p → 64 ≤ p.dst.toNat → ∀ key, key = txKey p.dst.toNat p.src.toNat (pktFlow p) →
    exec (.write cd p eng) s = .next (setDie (meshTaken s cd.val p) cd.val { dieAt s cd.val with
      txMeta := tput (dieAt s cd.val).txMeta key (((tfind (dieAt s cd.val).txMeta key).getD []).drop p.flits.length)
      txq := tput (dieAt s cd.val).txq (txqKey (p.dst.toNat - 64) (pktFlow p)) ((tfind (dieAt s cd.val).txq (txqKey (p.dst.toNat - 64) (pktFlow p))).getD [] ++ (p.flits.zipIdx.map (fun x =>
        { ((tfind (dieAt s cd.val).txMeta key).getD []).getD x.2
            { dstSite := 127, req := false, tile := 0, tag := 0, offset := pktLine p + x.2, flit := { data := [], poison := false }, last := false } with
          flit := x.1 })).filter (fun x => x.dstSite != noSite)) }))

/-- REDUCE flits at the combining unit, NOTICE, UNIT_CHECKED and REDUCE_DONE complete. At a tile in service of a compute die that is on, with a packet next in its order: the next flit of a REDUCE completes with the unit's step for it, and the first flit of a flow of one line that is alone in the unit, when it is not the last of its contributors, is written there with the bytes of the engine, each collision told, and counts its contributors; the flit of a fifth flow changes nothing while it waits. A NOTICE completes: code 2 ends the flow's transfer fenced, every other code only leaves the way. UNIT_CHECKED completes and adds its lines to the transfer its unit belongs to (log 37: the inflater's packets for one tile and flow keep their order), or to none if that has ended; REDUCE_DONE completes and marks the oldest transfer of the flow that awaits it, if one does. The packet is off the way. (R83, R85, R88, R204, R205) -/
def Obligations.MeshCombinesAndNotes : Prop :=
  ∀ (cd : Fin 16) (p : MeshPacket) (s : State),
  (∀ (i : Fin 16) (eng : List (Nat × Byte)) fl, TileArrives s cd.val p → p.flits[i.val]? = some fl →
    combNext (tileAt s (64 * cd.val + p.dst.toNat)) p = i.val →
    (combWaits s (64 * cd.val + p.dst.toNat) (pktFlow p) (pktLine p + i.val) = true → exec (.combineFlit cd p i eng) s = .next s) ∧
    (combWaits s (64 * cd.val + p.dst.toNat) (pktFlow p) (pktLine p + i.val) = false →
      exec (.combineFlit cd p i eng) s = .next (doCombineFlit (combTake s cd.val p i.val) cd.val p.dst.toNat p.src.toNat (pktFlow p) (pktLine p + i.val)
        (redCount p) (redBf16 p) fl eng)) ∧
    (∀ c, combEntry s (64 * cd.val + p.dst.toNat) (pktFlow p) (pktLine p + i.val) = some c →
      (tileAt s (64 * cd.val + p.dst.toNat)).combFlows = [c] → c.flow.toNat = pktFlow p →
      combCount (tileAt s (64 * cd.val + p.dst.toNat)) (pktLine p + i.val) = 0 → redCount p < c.contributors → redCount p ≤ 127 →
      c.first = pktLine p + i.val → c.lines = 1 →
      exec (.combineFlit cd p i eng) s = .next (bumpFree (updTile
        (collisionNotices (netWrite (combTake s cd.val p i.val) (64 * cd.val + p.dst.toNat) (pktLine p + i.val) [fl] eng) cd.val p.dst.toNat p.dst.toNat
          (pktFlow p) (collided (pktLine p + i.val) [fl] eng))
        (64 * cd.val + p.dst.toNat) (fun x =>
          { x with combFlows := [c], combCounts := tset (fun _ => 0) x.combCounts (pktLine p + i.val) (redCount p) }))))) ∧
  (meshOn s cd.val = true → meshOrder s cd.val (128 + p.dst.toNat) p = true → p.dst.toNat < 64 → tileOut s (64 * cd.val + p.dst.toNat) = false →
    ((p.fields.extractLsb' 35 4) = 2 → exec (.notice cd p) s = .next (flowFenced (meshTaken s cd.val p) (64 * cd.val + p.dst.toNat) (pktFlow p) (pktLine p))) ∧
    ((p.fields.extractLsb' 35 4) ≠ 2 → exec (.notice cd p) s = .next (meshTaken s cd.val p)) ∧
    (∀ key ns u, (p.fields.extractLsb' 36 3).toNat = 0 → key = txKey p.src.toNat p.dst.toNat (pktFlow p) → ns = (tfind (dieAt s cd.val).unitMeta key).getD [] →
      u = setDie (meshTaken s cd.val p) cd.val { dieAt s cd.val with unitMeta := tput (dieAt s cd.val).unitMeta key ns.tail } →
      ∀ d pt, partOf s (64 * cd.val + p.dst.toNat) (pktFlow p) = some (d, pt) →
      (∀ x, (flowSt (tileAt s (64 * cd.val + p.dst.toNat)) (pktFlow p)).open_.find? (takesCheck ns.head? pt.outLines) = some x →
        exec (.unitChecked cd p) s = .next (updTile u (64 * cd.val + p.dst.toNat) (fun t => updXfer t (pktFlow p) x.n (fun y =>
          { y with checked := y.checked + (p.fields.extractLsb' 24 12).toNat })))) ∧
      ((flowSt (tileAt s (64 * cd.val + p.dst.toNat)) (pktFlow p)).open_.find? (takesCheck ns.head? pt.outLines) = none →
        exec (.unitChecked cd p) s = .next u)) ∧
    ((p.fields.extractLsb' 36 3).toNat = 1 → (flowSt (tileAt s (64 * cd.val + p.dst.toNat)) (pktFlow p)).open_.find? (fun x => !x.reduced) = none →
      exec (.reduceDone cd p) s = .next (meshTaken s cd.val p)) ∧
    (∀ x, (p.fields.extractLsb' 36 3).toNat = 1 → (flowSt (tileAt s (64 * cd.val + p.dst.toNat)) (pktFlow p)).open_.find? (fun x => !x.reduced) = some x →
      exec (.reduceDone cd p) s = .next (updTile (meshTaken s cd.val p) (64 * cd.val + p.dst.toNat) (fun t => updXfer t (pktFlow p) x.n
        (fun y => { y with reduced := true })))))

/-- Signal flits and their repeats, failed links, discarded packets and TIME. On a link in service, SIG_FLIT with the right check code clears its count of failures in a row; with a wrong one it counts one more (four at most), answers with a negative acknowledgement and, below the fourth, counts a retry and sends the flit again from the link's replay buffer; a repeat that was pending is taken, and the buffer holds the latest sixteen flits (the word of a flit first heard wrong is a free value, log 105). A link out of service takes no flit. A link that has failed four times in a row goes out of service and its buffer is dropped: a hub link of a die raises 0x10 at its base tile after the die is lost, a ring segment raises 0x11; a link short of four failures, or already out of service, stays. SIG_DISCARD of an unlisted TYPE takes the packet and raises 0x12 with the TYPE, and of a listed TYPE discards nothing. TIME is taken and notes its module time for the boundary it names when that lies ahead, else nothing more. (R90, R91, R99, R349) -/
def Obligations.SignalLinks : Prop :=
  (∀ (l : Fin 144) (w : Word) (crc : BitVec 8) (s : State),
    let heard := fun good => { s with sent := s.sent.eraseP (Output.isRepeat l.val), freeCtr := s.freeCtr + 1
                                      sigReplay := tset (fun _ => []) s.sigReplay l.val (replayWith s l.val w good) }
    (s.sigDown.contains l.val = false → crc = flitCrc w → exec (.sigFlit l w crc) s = .next { heard true with sigFails := tset (fun _ => 0) s.sigFails l.val 0 }) ∧
    (s.sigDown.contains l.val = false → crc ≠ flitCrc w → sigFail s l.val < 3 → exec (.sigFlit l w crc) s =
      .next (bump (emit (emit { heard false with sigFails := tset (fun _ => 0) s.sigFails l.val (sigFail s l.val + 1) } (.nak l.val))
        (.sigRepeat l.val ((replayWith s l.val w false).headD 0))) Obj.sigRetries)) ∧
    (s.sigDown.contains l.val = false → crc ≠ flitCrc w → 3 ≤ sigFail s l.val → exec (.sigFlit l w crc) s =
      .next (emit { heard false with sigFails := tset (fun _ => 0) s.sigFails l.val 4 } (.nak l.val))) ∧
    (s.sigDown.contains l.val = true → exec (.sigFlit l w crc) s = .next s) ∧
    (sigFail s l.val < 4 ∨ s.sigDown.contains l.val = true → exec (.sigLinkFail l) s = .next s) ∧
    (let out := { s with sent := s.sent.eraseP (Output.isRepeat l.val), sigDown := s.sigDown ++ [l.val], sigReplay := tdel s.sigReplay l.val }
     4 ≤ sigFail s l.val → s.sigDown.contains l.val = false →
      (128 ≤ l.val → exec (.sigLinkFail l) s = .next (raise out ((l.val - 128) / 2) 0x07 0x11 4 false ((l.val - 128) / 2 + 8 * (l.val % 2)))) ∧
      (8 ≤ l.val → l.val < 100 → exec (.sigLinkFail l) s = .next (raise (hubLost out l.val) (siteTile l.val) 0x07 0x10 5 false l.val)))) ∧
  (∀ (site : Fin 100) (p : SigPacket) (s : State),
    (p.ptype.toNat = 0 ∨ 10 < p.ptype.toNat → exec (.sigDiscard site p) s = .next (raise (sigArrive s p) site.val 0x07 0x12 1 false p.ptype.toNat)) ∧
    (1 ≤ p.ptype.toNat → p.ptype.toNat ≤ 10 → exec (.sigDiscard site p) s = .next s)) ∧
  (∀ (src : BitVec 7) (v : Word) (s : State),
    (s.now < v → exec (.time src v) s = .next (schedule (sigArrive s (timePacket src.toNat v)) v (.epoch v))) ∧
    (v ≤ s.now → exec (.time src v) s = .next (sigArrive s (timePacket src.toNat v))))

/-- The common arbiter grants, forces, falls back and cuts. On a resource that is free, among the waiters whose slot is open: with one requester waiting at its limit, the decision grants it, forced, and sets its waits to 0; with none, it grants the first high-class waiter after the last granted in order, of those not held back by the quota in fall-back, else the first of the rest; every other waiter counts one decision, up to the limit. A resource in use, or with no open waiter, decides nothing. The window's end, after 1,024 cycles of the resource and not before, clears the grants used and fall-back, takes the written settings (the origin injection of a fabric die keeps its own), and counts a fall-back window of the mesh or engine. A hold that has lasted its factor times the declared burst, counted from its bank's last refresh or repair where it holds a bank, and its bank not busy, releases the resource, counts the cut and raises 0x0C, POISON where lines are marked; the packet cut is taken away, and at an origin injection the unit ends unanswered. A shorter hold, a busy bank, or nothing held: nothing changes. (R92, R97, R99, R100, R188, R340) -/
def Obligations.CommonArbiter : Prop :=
  ∀ (kind : ArbKind) (n : Fin 100000) (s : State),
  (∀ (rs : List ArbReq), arbFree s kind n.val = false → exec (.arbiterDecision kind n rs) s = .next s) ∧
  (∀ (rs qs : List ArbReq) g fb forced, arbFree s kind n.val = true → qs = arbOpen s kind n.val rs → arbChoose (arbHigh kind n.val) (arbLimits kind (arbAt s kind n.val)).1 (arbLimits kind (arbAt s kind n.val)).2 (arbAt s kind n.val) qs = some (g, forced, fb) →
    ∃ u, exec (.arbiterDecision kind n rs) s = .next u ∧
      (arbAt u kind n.val).holder = some g ∧ (arbAt u kind n.val).since = s.ticks ∧ (arbAt u kind n.val).last = g ∧ arbWait (arbAt u kind n.val) g = 0 ∧
      arbUsed (arbAt u kind n.val) g = arbUsed (arbAt s kind n.val) g + 1 ∧
      ((arbAt u kind n.val).fallback = ((arbAt s kind n.val).fallback || fb)) ∧
      (∀ r, r ≠ g → r ∈ qs.map (fun q => q.requester.val) → arbWait (arbAt u kind n.val) r =
        min (arbWait (arbAt s kind n.val) r + 1) (arbLimits kind (arbAt s kind n.val)).1) ∧
      (∀ r, r ≠ g → r ∉ qs.map (fun q => q.requester.val) → arbWait (arbAt u kind n.val) r = arbWait (arbAt s kind n.val) r) ∧
      u.tiles = s.tiles ∧ u.sent = s.sent ∧
      u.dict = (if forced && (kind == .mesh || kind == .engine) then (bump s Obj.meshForcedWins).dict else s.dict)) ∧
  (∀ (rs : List ArbReq), arbFree s kind n.val = true → arbOpen s kind n.val rs = [] → exec (.arbiterDecision kind n rs) s = .next s) ∧
  (arbCycles kind (s.ticks - (arbAt s kind n.val).winStart) < 1024 → exec (.arbiterWindowEnd kind n) s = .next s) ∧
  (1024 ≤ arbCycles kind (s.ticks - (arbAt s kind n.val).winStart) → exec (.arbiterWindowEnd kind n) s = .next (
    let s' := setArb s kind n.val { arbAt s kind n.val with
      used := [], fallback := false, winStart := s.ticks
      waitLimit := (arbSettings s kind n.val).1, quota := (arbSettings s kind n.val).2, holdFactor := arbFactor s kind }
    if (arbAt s kind n.val).fallback && (kind == .mesh || kind == .engine) then bump s' Obj.meshFallbackWindows else s')) ∧
  (∀ g item, (arbAt s kind n.val).holder = some g → (arbAt s kind n.val).holdFactor * (arbAt s kind n.val).burst ≤ heldCycles s kind { arbAt s kind n.val with since := heldSince s kind n.val item (arbAt s kind n.val) } →
    bankBusy s kind n.val item = false → exec (.holdCut kind n item) s = .next (
      let free := setArb s kind n.val { arbAt s kind n.val with holder := none }
      let u := match arbCutCounter kind with
        | some c => bump free c
        | none => free
      let t := cutEffect (raise u (arbPlace kind n.val).1 (arbPlace kind n.val).2.1 0x0C 1 (cutMarks s kind n.val item)
        ((arbPlace kind n.val).2.2 % 256 + g * 256)) kind n.val item
      if kind = .fabric ∧ 16 ≤ n.val ∧ n.val < 24 then cutUnit t (n.val - 16) g else t)) ∧
  (∀ item, (arbAt s kind n.val).holder = none → exec (.holdCut kind n item) s = .next s) ∧
  (∀ g item, (arbAt s kind n.val).holder = some g → (heldCycles s kind { arbAt s kind n.val with since := heldSince s kind n.val item (arbAt s kind n.val) } <
      (arbAt s kind n.val).holdFactor * (arbAt s kind n.val).burst ∨ bankBusy s kind n.val item = true) → exec (.holdCut kind n item) s = .next s)

/-- Barriers and flags of a job, their releases and notices. A member tile in service that is less than two arrivals ahead counts its arrival, and its die sends BARRIER_ARRIVE once all its own members are ahead of what it has sent; a member two ahead waits (nothing is counted); a tile that is no member raises SYNC_MISUSE. A write of FLAG_VALUE or FLAG_ADD sends the flag's home a store or an add; of a flag the job does not have, nothing. A tile out of service does none of these. At the barrier's home, on and reached over a path of the signal network, the arrival of the last die with members sends the release to every such die, an earlier one is kept; an arrival at another die, or for no barrier of the job, is taken and does no more. At a flag's home the next write on its way from a die (one die's arrive in order) stores or adds, and notifies every die with subscribers of the new value; at another die, for no flag of the job, or of another OP, it is taken and does no more. What cannot arrive, its die off, no path, or an earlier write of that die still on its way, stays as it is. On a compute die that is on, reached over a path of the signal network, BARRIER_RELEASE moves SYNC_EPOCH of each of the die's member tiles that stands at the released epoch on by one and raises interrupt 19 there where JOB_IE asks; the next FLAG_NOTIFY on its way from a home (successive ones arrive in order) stores the flag's value in the die's copy and raises interrupt 20 at each subscriber of the die that asks. Nothing else changes, but that the packet is off the way and SIG_LATENCY_MAX may note its latency. A release of no barrier of the job is taken and changes nothing; a notice of no flag of the job changes the copy alone. What cannot arrive, the die off, no path, or an earlier notice of that home still on its way, stays as it is. (R90, R203, R206, R208, R209) -/
def Obligations.JobBarriersAndFlags : Prop :=
  (
    (∀ (cd : Fin 16) (t : Fin 64) (v : Word) (s : State),
      (tileLive s (tkey cd t) = false → exec (.syncArrive cd t v) s = .next s ∧ exec (.flagValue cd t v) s = .next s ∧ exec (.flagAddWrite cd t v) s = .next s) ∧
      (∀ b x u, tileLive s (tkey cd t) = true → barrierOf s (v.toNat % 256) = some b → vtileOf s (tkey cd t) = some x → b.members.contains x = true →
        u = updTile s (tkey cd t) (fun y => { y with arrivals := tset (fun _ => 0) y.arrivals (v.toNat % 256) (arriveCount y (v.toNat % 256) + 1) }) →
        (epochOf (tileAt s (tkey cd t)) (v.toNat % 256) + 2 ≤ arriveCount (tileAt s (tkey cd t)) (v.toNat % 256) → exec (.syncArrive cd t v) s = .next s) ∧
        (arriveCount (tileAt s (tkey cd t)) (v.toNat % 256) < epochOf (tileAt s (tkey cd t)) (v.toNat % 256) + 2 → exec (.syncArrive cd t v) s = .next (
          let d := dieAt s (tkey cd t / 64)
          let e := tget (fun _ => 0) d.sent (v.toNat % 256)
          if (b.members.filter (fun w => vtileDie s w == tkey cd t / 64)).all (fun w => decide (arriveCount (tileAt u ((physOf s w).getD 0)) (v.toNat % 256) > e)) then
            emit (setDie u (tkey cd t / 64) { d with sent := tset (fun _ => 0) d.sent (v.toNat % 256) (e + 1) })
              (.sig (syncPacket (siteCD (homeOf s b.members)) (siteCD (tkey cd t / 64)) 1 (v.toNat % 256 * 2 ^ 32 + e % 2 ^ 32) []))
          else u))) ∧
      (tileLive s (tkey cd t) = true → (∀ b x, barrierOf s (v.toNat % 256) = some b → vtileOf s (tkey cd t) = some x → b.members.contains x = false) →
        exec (.syncArrive cd t v) s = .next (raise s (siteCD (tkey cd t / 64)) 0x01 0x13 1 false
          (v.toNat % 256 % 1024 + epochOf (tileAt s (tkey cd t)) (v.toNat % 256) % 2 ^ 30 * 1024))) ∧
      (flagOf s (tileAt s (tkey cd t)).flagSel.toNat = none → exec (.flagValue cd t v) s = .next s ∧ exec (.flagAddWrite cd t v) s = .next s) ∧
      (∀ d, tileLive s (tkey cd t) = true → flagOf s (tileAt s (tkey cd t)).flagSel.toNat = some d →
        exec (.flagValue cd t v) s = .next (emit s (.sig (syncPacket (siteCD (homeOf s d.subs)) (siteCD (tkey cd t / 64)) 3
          ((tileAt s (tkey cd t)).flagSel.toNat * 2 ^ 28) [v]))) ∧
        exec (.flagAddWrite cd t v) s = .next (emit s (.sig (syncPacket (siteCD (homeOf s d.subs)) (siteCD (tkey cd t / 64)) 3
          ((tileAt s (tkey cd t)).flagSel.toNat * 2 ^ 28 + 2 ^ 24) [v]))))) ∧
    (∀ (cd : Fin 16) (src : BitVec 7) (g : BitVec 8) (e : BitVec 32) (s : State) p, p = syncPacket (siteCD cd.val) src.toNat 1 (g.toNat * 2 ^ 32 + e.toNat) [] →
      (¬(meshOn s cd.val = true ∧ sigPath s src.toNat (siteCD cd.val) = true) → exec (.barrierArrive cd src g e) s = .next s) ∧
      (meshOn s cd.val = true → sigPath s src.toNat (siteCD cd.val) = true → (∀ b, barrierOf s g.toNat = some b → homeOf s b.members ≠ cd.val) →
        exec (.barrierArrive cd src g e) s = .next (sigArrive s p)) ∧
      (∀ b m, meshOn s cd.val = true → sigPath s src.toNat (siteCD cd.val) = true → barrierOf s g.toNat = some b → homeOf s b.members = cd.val →
        m = addPos (tget (fun _ => []) (dieAt s cd.val).arrived (mapKey g.toNat e.toNat)) src.toNat →
        exec (.barrierArrive cd src g e) s = .next (
          if (diesOf s b.members).all (fun x => m.contains (siteCD x)) then
            (diesOf s b.members).foldl (fun s x => emit s (.sig (syncPacket (siteCD x) (siteCD cd.val) 2 (g.toNat * 2 ^ 32 + e.toNat) [])))
              (setDie (sigArrive s p) cd.val { dieAt s cd.val with arrived := tdel (dieAt s cd.val).arrived (mapKey g.toNat e.toNat) })
          else setDie (sigArrive s p) cd.val { dieAt s cd.val with arrived := tset (fun _ => []) (dieAt s cd.val).arrived (mapKey g.toNat e.toNat) m }))) ∧
    (∀ (cd : Fin 16) (src : BitVec 7) (f : BitVec 12) (op : BitVec 4) (v : Word) (s : State) p,
      p = syncPacket (siteCD cd.val) src.toNat 3 (f.toNat * 2 ^ 28 + op.toNat * 2 ^ 24) [v] →
      (¬(meshOn s cd.val = true ∧ sigPath s src.toNat (siteCD cd.val) = true ∧ sigNext s p = true) → exec (.flagWrite cd src f op v) s = .next s) ∧
      (meshOn s cd.val = true → sigPath s src.toNat (siteCD cd.val) = true → sigNext s p = true →
        (2 ≤ op.toNat ∨ ∀ d, flagOf s f.toNat = some d → homeOf s d.subs ≠ cd.val) → exec (.flagWrite cd src f op v) s = .next (sigArrive s p)) ∧
      (∀ d new, meshOn s cd.val = true → sigPath s src.toNat (siteCD cd.val) = true → sigNext s p = true → flagOf s f.toNat = some d → homeOf s d.subs = cd.val → op.toNat < 2 →
        new = (if op = 0 then v else tget (fun _ => 0) (dieAt s cd.val).homeFlag f.toNat + v) →
        exec (.flagWrite cd src f op v) s = .next ((diesOf s d.subs).foldl (fun s x => emit s (.sig (syncPacket (siteCD x) (siteCD cd.val) 4 (f.toNat * 2 ^ 28) [new])))
          (setDie (sigArrive s p) cd.val { dieAt s cd.val with homeFlag := tset (fun _ => 0) (dieAt s cd.val).homeFlag f.toNat new }))))
  ) ∧ (
    ∀ (cd : Fin 16) (src : BitVec 7) (s : State),
    (∀ (g : BitVec 8) (e : BitVec 32) p, p = syncPacket (siteCD cd.val) src.toNat 2 (g.toNat * 2 ^ 32 + e.toNat) [] →
      (¬(meshOn s cd.val = true ∧ sigPath s src.toNat (siteCD cd.val) = true) → exec (.barrierRelease cd src g e) s = .next s) ∧
      (meshOn s cd.val = true → sigPath s src.toNat (siteCD cd.val) = true → barrierOf s g.toNat = none → exec (.barrierRelease cd src g e) s = .next (sigArrive s p)) ∧
      (∀ b, meshOn s cd.val = true → sigPath s src.toNat (siteCD cd.val) = true → barrierOf s g.toNat = some b →
        ∃ u, exec (.barrierRelease cd src g e) s = .next u ∧ u = { sigArrive s p with tiles := u.tiles } ∧
          ∀ k, tileAt u k = (if b.members.any (fun v => vtileDie s v == cd.val && (physOf s v).getD 0 == k) && decide (epochOf (tileAt s k) g.toNat % 2 ^ 32 = e.toNat) then
              { tileAt s k with
                epochs := tset (fun _ => 0) (tileAt s k).epochs g.toNat (epochOf (tileAt s k) g.toNat + 1)
                core := { (tileAt s k).core with mip := if (tileAt s k).jobIe.getLsbD 1 then (tileAt s k).core.mip ||| (1 <<< 19) else (tileAt s k).core.mip } }
            else tileAt s k))) ∧
    (∀ (f : BitVec 12) (v : Word) p, p = syncPacket (siteCD cd.val) src.toNat 4 (f.toNat * 2 ^ 28) [v] →
      (¬(meshOn s cd.val = true ∧ sigPath s src.toNat (siteCD cd.val) = true ∧ sigNext s p = true) → exec (.flagNotify cd src f v) s = .next s) ∧
      (meshOn s cd.val = true → sigPath s src.toNat (siteCD cd.val) = true → sigNext s p = true →
        ∃ u, exec (.flagNotify cd src f v) s = .next u ∧
          u = { setDie (sigArrive s p) cd.val { dieAt s cd.val with flagCopy := tset (fun _ => 0) (dieAt s cd.val).flagCopy f.toNat v } with tiles := u.tiles } ∧
          (flagOf s f.toNat = none → u.tiles = s.tiles) ∧
          (∀ d k, flagOf s f.toNat = some d → tileAt u k =
            (if d.subs.any (fun x => vtileDie s x == cd.val && (physOf s x).getD 0 == k) && (tileAt s k).jobIe.getLsbD 2 then
              { tileAt s k with core := { (tileAt s k).core with mip := (tileAt s k).core.mip ||| (1 <<< 20) } }
            else tileAt s k))))
  )

/-- The ten atomic operations, the three reduces, and records refused. Where a stack serves, the record is well formed and names it, no repair holds its bank, and the line reads without poison: ADD writes OLD + OPERAND, SWAP OPERAND, CAS OPERAND where OLD equals COMPARE, MIN and MAX the smaller and larger of the signed values, MINU and MAXU of the unsigned ones, AND, OR and XOR the bitwise result; the old word goes back in a result record with STATUS 0, the atomic is counted, and nothing else changes but the effects of reading the line and its place in the write-back buffer; a stack that fails in that access sends no result. There too REDUCE_ADD, REDUCE_MIN and REDUCE_MAX combine each incoming line with the stored one in order, element by element in the record's format, and answer in a result record; for one line: poisoned if either was, counted, STATUS 0, or 1 with OLD all ones when the stored line was poison. An atomic on a poison line counts, has the effects of reading it, and answers STATUS 1 with OLD all ones. For every record with the command's OP: one that is not valid is answered STATUS 2, with a fault message; one whose bank a repair holds waits for it (log entry 109); a working stack of a lost set answers STATUS 3; a stack that serves nothing does nothing, as does a record with another OP (it is another command's). INVALID_RECORD answers the records of OP not 0 that no other command names, the same way; of OP 0 or a valid one it does nothing. (R183, R184, R185, R186, R187, R193, R170, R180, R181, R182, R195, R196) -/
def Obligations.AtomicsAndReduces : Prop :=
  (
    ∀ (md : Fin 24) (site : Fin 100) (r : OpRecord) (p : Bool) (s : State) (old : Word), old = recordWord s md.val r →
    (RecordRuns s md.val r 1 → exec (.add md site r p) s = .next (atomicDone s md.val site.val r p (old + r.operand))) ∧
    (RecordRuns s md.val r 2 → exec (.swap md site r p) s = .next (atomicDone s md.val site.val r p r.operand)) ∧
    (RecordRuns s md.val r 3 → exec (.cas md site r p) s = .next (atomicDone s md.val site.val r p (if old = r.compare then r.operand else old))) ∧
    (RecordRuns s md.val r 4 → exec (.min md site r p) s = .next (atomicDone s md.val site.val r p (if old.toInt < r.operand.toInt then old else r.operand))) ∧
    (RecordRuns s md.val r 5 → exec (.max md site r p) s = .next (atomicDone s md.val site.val r p (if old.toInt < r.operand.toInt then r.operand else old))) ∧
    (RecordRuns s md.val r 6 → exec (.minu md site r p) s = .next (atomicDone s md.val site.val r p (if old.toNat < r.operand.toNat then old else r.operand))) ∧
    (RecordRuns s md.val r 7 → exec (.maxu md site r p) s = .next (atomicDone s md.val site.val r p (if old.toNat < r.operand.toNat then r.operand else old))) ∧
    (RecordRuns s md.val r 8 → exec (.and md site r p) s = .next (atomicDone s md.val site.val r p (old &&& r.operand))) ∧
    (RecordRuns s md.val r 9 → exec (.or md site r p) s = .next (atomicDone s md.val site.val r p (old ||| r.operand))) ∧
    (RecordRuns s md.val r 10 → exec (.xor md site r p) s = .next (atomicDone s md.val site.val r p (old ^^^ r.operand)))
  ) ∧ (
    ∀ (md : Fin 24) (site : Fin 100) (r : OpRecord) (data : List Flit) (p : Bool) (s : State),
    (stackServes s md.val = true → recordValid s md.val r = true → recordHeld s md.val r = false →
      (∀ fl, r.lines = 1 →
        (r.op = 0x11 → exec (.reduceAdd md site r [fl]) s = .next (reduceDone s md.val site.val r fl)) ∧
        (r.op = 0x12 → exec (.reduceMin md site r [fl]) s = .next (reduceDone s md.val site.val r fl)) ∧
        (r.op = 0x13 → exec (.reduceMax md site r [fl]) s = .next (reduceDone s md.val site.val r fl))) ∧
      (∀ u status, (status, u) = reduceApply s md.val r data →
        (r.op = 0x11 → exec (.reduceAdd md site r data) s = .next (sendResult u md.val site.val (resultBytes status r (reduceOld status)))) ∧
        (r.op = 0x12 → exec (.reduceMin md site r data) s = .next (sendResult u md.val site.val (resultBytes status r (reduceOld status)))) ∧
        (r.op = 0x13 → exec (.reduceMax md site r data) s = .next (sendResult u md.val site.val (resultBytes status r (reduceOld status)))))) ∧
    (∀ op c q ds, (op, c, q, ds) ∈ [(1, Instr.add md site r p, p, []), (2, .swap md site r p, p, []), (3, .cas md site r p, p, []), (4, .min md site r p, p, []), (5, .max md site r p, p, []), (6, .minu md site r p, p, []), (7, .maxu md site r p, p, []),
        (8, .and md site r p, p, []), (9, .or md site r p, p, []), (10, .xor md site r p, p, []), (0x11, .reduceAdd md site r data, false, data), (0x12, .reduceMin md site r data, false, data), (0x13, .reduceMax md site r data, false, data)] →
      (r.op.toNat ≠ op → exec c s = .next s) ∧
      (r.op.toNat = op → setLostNow s (setOf md.val) = true → stackWorks s md.val = true → exec c s = .next (emit s (.result md.val site.val (resultBytes 3 r 0)))) ∧
      (stackServes s md.val = false → ¬(setLostNow s (setOf md.val) = true ∧ stackWorks s md.val = true) → exec c s = .next s) ∧
      (r.op.toNat = op → stackServes s md.val = true →
        (recordValid s md.val r = false → exec c s = .next (emit (raise s (siteMD md.val) 0x06 0x2C 1 false (lineDetail r.addr.toNat)) (.result md.val site.val (resultBytes 2 r 0)))) ∧
        (recordValid s md.val r = true → recordHeld s md.val r = true → exec c s = .next (updStack s md.val (fun st => { st with bankWait := st.bankWait ++ [.record site.val r ds q] }))) ∧
        (op ≤ 10 → recordValid s md.val r = true → recordHeld s md.val r = false → (lineRead (stackAt s md.val) (recordLine s r)).2 = true →
          exec c s = .next (sendResult (bump (lineReadEffects s md.val (recordLine s r)) Obj.atomics) md.val site.val (resultBytes 1 r (BitVec.allOnes 64)))))) ∧
    (r.op = 0 ∨ recordValid s md.val r = true → exec (.invalidRecord md site r) s = .next s) ∧
    (r.op ≠ 0 → recordValid s md.val r = false →
      (setLostNow s (setOf md.val) = true → stackWorks s md.val = true → exec (.invalidRecord md site r) s = .next (emit s (.result md.val site.val (resultBytes 3 r 0)))) ∧
      (stackServes s md.val = false → ¬(setLostNow s (setOf md.val) = true ∧ stackWorks s md.val = true) → exec (.invalidRecord md site r) s = .next s) ∧
      (stackServes s md.val = true → exec (.invalidRecord md site r) s = .next (emit (raise s (siteMD md.val) 0x06 0x2C 1 false (lineDetail r.addr.toNat))
        (.result md.val site.val (resultBytes 2 r 0)))))
  )

/-- Requests at the stacks and their answers. A request reaches its stack over a path of the signal network; with no path it stays on its way. A stack that serves refuses a range outside the map (STATUS 2, message 0x2C). A LOAD_REQ there waits for a bank under repair that it touches (log entry 109); else on a copy flow it reads the stack's share, queues each line for its place and holds the request, unless the stack failed in reading; with no share it answers 0, and on another flow 2. A STORE_REQ holds its share (on an ATOMIC flow every record), or answers 0 with none. At a working stack of a lost set a LOAD_REQ is held with its share as poison-marked free bytes, a STORE_REQ answers 2. A stack that serves nothing takes the packet and answers nothing. REQ_DONE takes the stack off those the request waits for and keeps the worst STATUS; at the last one the request is finished, before it the die goes on sending; of a request that does not wait for the stack nothing changes. After 20 us a held STORE_REQ at a working stack writes its missing lines poison-marked with free bytes (on an ATOMIC flow or of a lost set it writes none) and answers STATUS 1 (2 of a lost set); before, or with none held, nothing changes. (R90, R132, R170, R171, R172, R174, R191, R193, R195, R196) -/
def Obligations.StackRequests : Prop :=
  (∀ (md : Fin 24) (r : Request) (s : State) a pos, a = sigArrive s (requestPacket md.val r true) → pos = sharePositions s md.val r.addr.toNat (reqLines r) →
    (sigPath s r.src.toNat (siteMD md.val) = false → exec (.loadReq md r) s = .next s) ∧
    (sigPath s r.src.toNat (siteMD md.val) = true →
      (setLostNow s (setOf md.val) = true → stackWorks s md.val = true → exec (.loadReq md r) s = .next (bumpFree (updStack a md.val (fun st =>
        { stackQueue st r.flow.toNat (pos.map (fun i => { dstSite := r.src.toNat, req := true, tile := r.tile, tag := r.tag, offset := i, flit := freePoison (s.freeCtr + 1) i, last := false })) with
          held := st.held ++ [{ req := r, load := true, need := pos, got := [], poisoned := true, at_ := s.ticks }] })))) ∧
      (stackServes s md.val = false → ¬(setLostNow s (setOf md.val) = true ∧ stackWorks s md.val = true) → exec (.loadReq md r) s = .next a) ∧
      (stackServes s md.val = true →
        (rangeRefused s r.addr.toNat (64 * reqLines r) = true → exec (.loadReq md r) s =
          .next (sendDone (raise a (siteMD md.val) 0x05 0x2C 1 false (lineDetail r.addr.toNat)) md.val r 2)) ∧
        (rangeRefused s r.addr.toNat (64 * reqLines r) = false → pos.any (fun i => bankHeldAt s md.val (r.addr.toNat + 64 * i)) = true →
          exec (.loadReq md r) s = .next (updStack a md.val (fun st => { st with bankWait := st.bankWait ++ [.load r] }))) ∧
        (rangeRefused s r.addr.toNat (64 * reqLines r) = false → pos.any (fun i => bankHeldAt s md.val (r.addr.toNat + 64 * i)) = false →
          (kindOf s r.flow.toNat ≠ .copy → exec (.loadReq md r) s = .next (sendDone a md.val r 2)) ∧
          (kindOf s r.flow.toNat = .copy → pos = [] → exec (.loadReq md r) s = .next (sendDone a md.val r 0)) ∧
          (∀ x, kindOf s r.flow.toNat = .copy → pos ≠ [] → x = List.foldl (loadLine md.val r) ([], false, a) pos →
            exec (.loadReq md r) s = .next (if (stackAt x.2.2 md.val).failed then x.2.2 else updStack x.2.2 md.val (fun st => { stackQueue st r.flow.toNat x.1 with
              held := st.held ++ [{ req := r, load := true, need := pos, got := [], poisoned := x.2.1, at_ := s.ticks }] }))))))) ∧
  (∀ (md : Fin 24) (r : Request) (s : State) a pos, a = sigArrive s (requestPacket md.val r false) →
    pos = (if isAtomicKind (kindOf s r.flow.toNat) then List.range (reqLines r) else sharePositions s md.val r.addr.toNat (reqLines r)) →
    (sigPath s r.src.toNat (siteMD md.val) = false → exec (.storeReq md r) s = .next s) ∧
    (sigPath s r.src.toNat (siteMD md.val) = true →
      (setLostNow s (setOf md.val) = true → stackWorks s md.val = true → isAtomicKind (kindOf s r.flow.toNat) = false → exec (.storeReq md r) s = .next (sendDone a md.val r 2)) ∧
      (stackServes s md.val = false → ¬(setLostNow s (setOf md.val) = true ∧ stackWorks s md.val = true) → exec (.storeReq md r) s = .next a) ∧
      (stackServes s md.val = true ∨ (setLostNow s (setOf md.val) = true ∧ stackWorks s md.val = true ∧ isAtomicKind (kindOf s r.flow.toNat) = true) →
        (rangeRefused s r.addr.toNat (64 * reqLines r) = true → exec (.storeReq md r) s =
          .next (sendDone (raise a (siteMD md.val) 0x05 0x2C 1 false (lineDetail r.addr.toNat)) md.val r 2)) ∧
        (rangeRefused s r.addr.toNat (64 * reqLines r) = false → pos = [] → exec (.storeReq md r) s = .next (sendDone a md.val r 0)) ∧
        (rangeRefused s r.addr.toNat (64 * reqLines r) = false → pos ≠ [] → exec (.storeReq md r) s = .next (updStack a md.val (fun st => { st with
          held := st.held ++ [{ req := r, load := false, need := pos, got := [], poisoned := false, at_ := s.ticks }] })))))) ∧
  (∀ (cd : Fin 16) (md : Fin 24) (tile : BitVec 6) (tag : BitVec 10) (status : BitVec 2) (s : State) a,
    a = sigArrive s (donePacket md.val { src := BitVec.ofNat 7 (siteCD cd.val), tile := tile, tag := tag, flow := 0, linesM1 := 0, addr := 0 } status.toNat) →
    (sigPath s (siteMD md.val) (siteCD cd.val) = false → exec (.reqDone cd md tile tag status) s = .next s) ∧
    (sigPath s (siteMD md.val) (siteCD cd.val) = true →
      ((dieAt s cd.val).reqs.find? (fun r => r.tag == tag && r.waiting.contains md.val) = none → exec (.reqDone cd md tile tag status) s = .next a) ∧
      (∀ r r' u, (dieAt s cd.val).reqs.find? (fun r => r.tag == tag && r.waiting.contains md.val) = some r →
        r' = { r with waiting := r.waiting.erase md.val, worst := worseStatus r.worst status } →
        u = setDie a cd.val { dieAt s cd.val with reqs := (dieAt s cd.val).reqs.map (fun x => if x.tag = r.tag then r' else x) } →
        exec (.reqDone cd md tile tag status) s = .next (if reqComplete r' then finishReq u cd.val r' else pumpReqs cd.val u)))) ∧
  (∀ (md : Fin 24) (src : BitVec 7) (tile : BitVec 6) (tag : BitVec 10) (s : State) o,
    o = (stackAt s md.val).held.find? (fun h => !h.load && h.req.src == src && h.req.tile == tile && h.req.tag == tag) →
    (o = none → exec (.storeReqTimeout md src tile tag) s = .next s) ∧
    (∀ h, o = some h → (s.ticks < h.at_ + 20000 ∨ stackWorks s md.val = false) → exec (.storeReqTimeout md src tile tag) s = .next s) ∧
    (∀ h, o = some h → h.at_ + 20000 ≤ s.ticks → stackWorks s md.val = true →
      ((isAtomicKind (kindOf s h.req.flow.toNat) = true ∨ setLostNow s (setOf md.val) = true) →
        exec (.storeReqTimeout md src tile tag) s = .next (bumpFree (closeHeld s md.val { h with poisoned := true }))) ∧
      (isAtomicKind (kindOf s h.req.flow.toNat) = false → setLostNow s (setOf md.val) = false →
        exec (.storeReqTimeout md src tile tag) s = .next (bumpFree (closeHeld (List.foldl (fun s' i => match mapAddr s' (h.req.addr.toNat + 64 * i) with
          | some (_, o) => memWriteLine s' md.val (o / 64) ((List.range 64).map (fun b => Config.freeByte s.freeCtr (64 * i + b))) true
          | none => s') s (h.need.filter (fun i => !h.got.contains i))) md.val { h with poisoned := true })))))

/-- Refresh, scrub, repair and loss of a stack. A refresh of a running stack postpones when its bank is busy, up to eight, and else, or as the ninth, runs: the bank is busy for 90 ns, and on a free bank one postponed refresh goes with it. The patrol scrub of a serving stack, in a command slot its pause count does not leave idle, reads four lines at its position, starting a pass at 0, moves on by one, and counts a pass at the end. A candidate row's repair at a serving stack that repairs no other takes its bank and raises the notice 0x2A, with the spare used it only counts the exhaustion. The repair's end rewrites the row's lines, and, unless the stack failed in that, uses the spare, counts the repair, queues its record and lets go on what waited for the bank. A serving stack whose interface loses lock fails with row 2 and raises 0x2B. A stack that is off, in self-refresh or failed refreshes nothing; one that does not serve scrubs, repairs and loses nothing; an idle slot, no candidate, a repair under way, or none to end: nothing changes. (R188, R190, R191, R192, R193, R195, R340, R349) -/
def Obligations.StackUpkeep : Prop :=
  ∀ (md : Fin 24) (s : State),
  (∀ (bank : Fin 64) (busy : Bool), let n := tget (fun _ => 0) (stackAt s md.val).postponed bank.val
    ((stackAt s md.val).off = false → (stackAt s md.val).selfRefresh = false → (stackAt s md.val).failed = false →
      exec (.refresh md bank busy) s = .next (updStack s md.val (fun st => { st with
        postponed := tset (fun _ => 0) st.postponed bank.val (if busy then min (n + 1) 8 else n - 1)
        busyTo := if busy ∧ n < 8 then st.busyTo else tset (fun _ => 0) st.busyTo bank.val (s.ticks + 90) }))) ∧
    ((stackAt s md.val).off = true ∨ (stackAt s md.val).selfRefresh = true ∨ (stackAt s md.val).failed = true → exec (.refresh md bank busy) s = .next s)) ∧
  (stackServes s md.val = false ∨ idleCycle (thermAt s (siteMD md.val)).p (s.ticks / 2) = true → exec (.patrolScrub md) s = .next s) ∧
  (stackServes s md.val = true → idleCycle (thermAt s (siteMD md.val)).p (s.ticks / 2) = false → ∀ u,
    u = List.foldl (fun u i => scrubLine u md.val (4 * (stackAt s md.val).scrubPos + i))
      (if (stackAt s md.val).scrubPos = 0 then updStack s md.val startPass else s) (List.range 4) →
    ((stackAt s md.val).scrubPos + 1 ≠ 2 ^ 29 → exec (.patrolScrub md) s = .next (updStack u md.val
      (fun st => { st with scrubPos := (stackAt s md.val).scrubPos + 1 }))) ∧
    ((stackAt s md.val).scrubPos + 1 = 2 ^ 29 → exec (.patrolScrub md) s = .next (bump (updStack u md.val
      (fun st => { st with scrubPos := 0, scrubbed := true })) Obj.scrubPasses))) ∧
  (∀ (die : Fin 18) (row : Fin 8388608),
    (stackServes s md.val = false ∨ (stackAt s md.val).candidates.contains { die := die.val, row := row.val } = false ∨ (stackAt s md.val).repairing ≠ none →
      exec (.softRepair md die row) s = .next s) ∧
    (stackServes s md.val = true → (stackAt s md.val).candidates.contains { die := die.val, row := row.val } = true → (stackAt s md.val).repairing = none →
      ((stackAt s md.val).spareUsed.contains (spareOf { die := die.val, row := row.val }) = true → exec (.softRepair md die row) s = .next (bump (updStack s md.val
        (fun st => { st with candidates := st.candidates.erase { die := die.val, row := row.val } })) Obj.repairExhausted)) ∧
      ((stackAt s md.val).spareUsed.contains (spareOf { die := die.val, row := row.val }) = false → exec (.softRepair md die row) s = .next (raise (updStack s md.val
        (fun st => { st with candidates := st.candidates.erase { die := die.val, row := row.val }, repairing := some { die := die.val, row := row.val } }))
        (siteMD md.val) 0x05 0x2A 0 false (die.val + row.val / 2097152 * 32 + row.val / 131072 % 16 * 128 + row.val % 131072 * 2048))))) ∧
  ((stackAt s md.val).repairing = none → exec (.softRepairDone md) s = .next s) ∧
  (∀ r u, (stackAt s md.val).repairing = some r → u = (rowLines r.row).foldl (repairLine md.val) s →
    ((stackAt u md.val).failed = true → exec (.softRepairDone md) s = .next u) ∧
    ((stackAt u md.val).failed = false → exec (.softRepairDone md) s = .next (runBankWait (queueRecord (bump (updStack u md.val (fun st =>
      { st with repairing := none, rowHits := st.rowHits.filter (fun h => h.at_ != r), spareUsed := st.spareUsed ++ [spareOf r], softSincePower := st.softSincePower + 1
                busyTo := tset (fun _ => 0) st.busyTo (r.row / 131072) u.ticks
                records := st.records ++ [{ at_ := r, state := .soft, committed := false }] })) Obj.repairsSoft) 0x0030 (repairKey md.val r) [0]) md.val))) ∧
  (stackServes s md.val = true → exec (.stackLockLoss md) s = .next (raise (updStack s md.val (stackOut 2)) (siteMD md.val) 0x05 0x2B 5 false (md.val + 2 * 32))) ∧
  (stackServes s md.val = false → exec (.stackLockLoss md) s = .next s)

/-- A slot begins at every port. SLOT_START of the slot that begins now, not yet begun, makes it the current one and, with the house blend running, lets every port whose pair the house blend or the set in force lights send its burst, in port order, then every fabric link; while start-up checks the links (steps 9 and 10) the ports of house slots send test bursts instead. A house slot carries the frame of a service the arbiter grants, the units of a path or host packets of the pair for those two services, IDLE when none waits or none is granted; a job slot carries the run of flits next in line for the receiver, as many as the transmit buffer holds (a memory die counts an underrun where that is fewer), in a FLOW burst with the set's generation, the run's length, flow, offset and poison bits, or IDLE when there is none. Every burst names the lines that carry PRBS-15 instead. A slot that does not begin now changes nothing. (R22, R108, R109, R110, R111, R121, R149, R173) -/
def Obligations.SlotsSend : Prop :=
  ∀ (sl : Fin 64) (short : List (Nat × Nat)) (s : State),
  (slotDue s sl = true → s.light.cal.blendRuns = true → exec (.slotStart sl short) s = .next (List.foldl (fun u l => extSlot u sl.val l) (List.foldl (fun u p => match slotTarget u sl.val p with
    | none => u
    | some (q, none) => sendHouse u sl.val p q
    | some (q, some flow) => sendJob u sl.val p q flow (((short.find? (fun e => e.1 == p)).map (·.2)).getD 26)) { s with slotNow := sl, slotAt := some s.ticks } (List.range 350)) (List.range 16))) ∧
  (slotDue s sl = true → s.light.cal.blendRuns = false → exec (.slotStart sl short) s = .next (List.foldl (fun u l => extSlot u sl.val l)
    (if (s.startup.step = 9 ∨ s.startup.step = 10) ∧ sl.val < houseSlots s.blend then List.foldl (fun u p => match slotTarget u sl.val p with
      | some (q, _) => emit u (.slot p q { mark := markFor sl.val, head := headFor u p q, flits := [], prbs := testLines u p q })
      | none => u) { s with slotNow := sl, slotAt := some s.ticks } (List.range 350)
     else { s with slotNow := sl, slotAt := some s.ticks }) (List.range 16))) ∧
  (slotDue s sl = false → exec (.slotStart sl short) s = .next s) ∧
  (∀ p q site u ws, site = (portSite p).1 → u = tableStep s site q → ws = houseWaiters u site q →
    (ws = [] → sendHouse s sl.val p q = emit u (.slot p q { mark := markFor sl.val, head := headFor u p q, flits := [], prbs := prbsLines u p q })) ∧
    (∀ v w x, ws ≠ [] → (arbAt (doArbiter u .house site ws) .house site).holder = some v → w = arbRelease (doArbiter u .house site ws) .house site →
      (v ≠ 1 → v ≠ 2 → (houseQ w site v).find? (houseFor q) = some x → x.2 ≠ [] →
        sendHouse s sl.val p q = (let y := if v = 5 ∧ (tableBusy w site (portTile q)).isSome then w else setHouseQ w site v ((houseQ w site v).erase x)
          emit y (.slot p q { mark := markFor sl.val, flits := x.2, prbs := prbsLines y p q, head := { headFor u p q with kind := 2, flits := BitVec.ofNat 5 x.2.length, service := BitVec.ofNat 4 v, poison := poisonBits x.2 } }))) ∧
      (v = 2 → sendHouse s sl.val p q = (match fillSlot w (pathKey site (portSite q).1) (headFor u p q) with
        | (some x, y) => emit y (.slot p q { mark := markFor sl.val, head := x.1, flits := x.2, prbs := prbsLines y p q })
        | (none, y) => emit y (.slot p q { mark := markFor sl.val, head := headFor u p q, flits := [], prbs := prbsLines y p q }))) ∧
      (∀ fs y, v = 1 → hostWaits w site q = true → (fs, y) = hostSlot w site (portSite q).1 → sendHouse s sl.val p q = emit y (.slot p q { mark := markFor sl.val, flits := fs, prbs := prbsLines y p q, head := { headFor u p q with kind := 2, flits := BitVec.ofNat 5 fs.length, service := 1, poison := poisonBits fs } })))) ∧
  (∀ p q flow avail fit full run u, fit = (txQueue s p flow).filter (fun x => x.dstSite == (portSite q).1 || x.dstSite == 127) → full = takeRun 26 fit → run = full.take avail →
    u = (if 192 ≤ p ∧ run.length < full.length then bump s Obj.slotUnderruns else s) →
    (run = [] → sendJob s sl.val p q flow avail = emit u (.slot p q { mark := markFor sl.val, head := headFor u p q, flits := [], prbs := prbsLines u p q })) ∧
    (∀ a l v w, run = a :: l → v = setTxQueue u p flow (run.foldl (fun l x => l.erase x) (txQueue s p flow)) →
      w = (match siteKind (portSite p).1 with
        | some (.cd, n) => if a.req then dueReq v (siteCD n) a else dueSlot v q (64 * n + a.tile.toNat) flow a.xfer
        | _ => dueReq v (portSite q).1 a) →
      sendJob s sl.val p q flow avail = runSent (emit w (.slot p q { mark := markFor sl.val, flits := run.map (·.flit), prbs := prbsLines w p q, head := { headFor u p q with
        kind := 1, flits := BitVec.ofNat 5 run.length,
        last := (run.getLast?.map (·.last)).getD false || (decide (192 ≤ p) && !fit.any (fun x => x.req == a.req && x.tile == a.tile && x.tag == a.tag && !run.contains x)),
        flow := BitVec.ofNat 16 flow, gen := ((btAt u (portTile p)).active.map (·.gen)).getD 0, poison := poisonBits (run.map (·.flit)),
        offset := BitVec.ofNat 32 a.offset, tile := if a.req then a.tile else 0, tag := if a.req then a.tag else 0, req := a.req } })) p flow run))

/-- A burst is received. At a port in service, with the house blend running, a burst that its code cannot correct, whose check is wrong, or that a dark tile's or latched barista's port sent or receives is discarded by condition 1; one whose mark, frame, places or kind are not the slot's by the first condition that fails, 2 to 5. A discard on a house slot also breaks the path of the house pair. A discard counts at its object and at the port, enters the port's list of bad frames with its sender, and raises 0x18 with the port, slot and condition, its POISON set (log entry 117). An accepted FLOW burst goes to its flow and a HOUSE burst to its service, after corrected symbols are counted; an accepted IDLE burst changes nothing more. On a link in service a bad burst is discarded too, one that is good takes the far end's changes of lines and, a HOUSE burst, joins the link's stream of packets. A port out of service, or any before the house blend runs, takes the burst and nothing more; what waits in slots' services is then served. A link that is down, or whose die is off, takes nothing. (R112, R113, R114, R158, R234, R236, R349) -/
def Obligations.SlotsArrive : Prop :=
  ∀ (q : Fin 366) (bits : BitVec 14336) (s : State),
  (q.val < 350 → ∀ s1 e sl, s1 = { s with sent := takeSlot q.val s.sent } → e = expectedSender s1 s.slotNow.val q.val → sl = s.slotNow.val →
    (portRuns s q.val = false ∨ s.light.cal.blendRuns = false → exec (.slotBurst q bits) s = .next (drainSlots s1)) ∧
    (portRuns s q.val = true → s.light.cal.blendRuns = true →
      ((q.val :: e.toList).any (darkPort s) = true ∨ e.any (portLatched s) = true → exec (.slotBurst q bits) s = .next (drainSlots (breakPath (discardSlot s1 sl q.val 1 e) sl q.val e none))) ∧
      ((q.val :: e.toList).any (darkPort s) = false → e.any (portLatched s) = false → exec (.slotBurst q bits) s = .next (drainSlots (match receive bits with
        | none => breakPath (discardSlot s1 sl q.val 1 e) sl q.val e none
        | some r =>
          if r.checkOk = false then breakPath (discardSlot s1 sl q.val 1 e) sl q.val e none
          else
            let u := match e with | some p => countCorrected s1 p q.val r.wrong | none => s1
            match badCondition u sl q.val r.mark (natHead r.head) with
            | some c => breakPath (discardSlot u sl q.val c e) sl q.val e (some (natHead r.head, receivedFlits r))
            | none =>
              if (natHead r.head).kind = 1 then deliverFlow u q.val (natHead r.head) (receivedFlits r)
              else if (natHead r.head).kind = 2 then deliverHouseSlot u q.val (natHead r.head) (receivedFlits r)
              else u))))) ∧
  (∀ c sender, discardSlot s s.slotNow.val q.val c sender = raise (setPort (bump s (if c = 1 then Obj.slotsUncorrectable else Obj.slotsMisdelivered)) q.val { portAt s q.val with
        uncorr := (portAt s q.val).uncorr + 1,
        badLog := (portAt s q.val).badLog.filter (fun x => x != (frameNo s, sender) && decide (x.1 ≤ frameNo s ∧ frameNo s < x.1 + 64)) ++ [(frameNo s, sender)] })
    (portTile q.val) 0x03 0x18 3 true (portForm q.val 0 s.slotNow.val + c * 2 ^ 21)) ∧
  (∀ l, q.val = 350 + l → ((linkAt s l).mode = .down ∨ fdUp s (linkFd l) = false → exec (.slotBurst q bits) s = .next s) ∧
    ((linkAt s l).mode ≠ .down → fdUp s (linkFd l) = true → exec (.slotBurst q bits) s = .next (match receive bits with
      | none => extDiscard s l 1 none
      | some r => if r.checkOk = false then extDiscard s l 1 none
        else
          let h := natHead r.head
          let u := countLines (if (extCondition s l r.mark h).isNone then takeRxChanges s l h.frame.toNat else s)
            (extLane (if (extCondition s l r.mark h).isNone then takeRxChanges s l h.frame.toNat else s) l) (linkPort l) (linkPort l) r.wrong
          match extCondition s l r.mark h with
          | some c => extDiscard u l c (some (h, receivedFlits r))
          | none =>
            let v := setLink u l (takeCounts { linkAt u l with predict := some (h.frame.toNat * 64 + r.mark.toNat % 64, u.ticks) } h)
            if h.kind = 2 then (joinStream v l (headOf h) (receivedFlits r)).1.foldl (fun w p => emit w (.fabIn l p)) (joinStream v l (headOf h) (receivedFlits r)).2
            else setLink u l { linkAt u l with predict := some (h.frame.toNat * 64 + r.mark.toNat % 64, u.ticks) })))

/-- Slot tables at a base tile. A header slot claims a shadow that is not armed and not another sender's, else it answers RESULT 3 (and counts a misdelivered slot where another holds it); a rows slot of its sender and generation stores its rows there, of another sender it counts a misdelivered slot, of another generation or with no set loading it changes nothing. A whole set that meets no cause is accepted with RESULT 0 unless another tile has rejected it, one that meets a cause is rejected with RESULT 1 and the cause, at every tile that accepted it; a set that is not whole stays. TABLE_SWAP of the accepted set arms it for its T; repeated it changes nothing; too late or with no such set it answers RESULT 2 or 1 and raises 0x1D. TABLE_CLEAR, where a die takes it, empties every shadow of the owner the active barista names, and of a host die its own set of that generation that is not armed; another sender's clears nothing. At the host die that loads a job's set, RESULT 0 of the last sound base tile starts a loading job or ends the loading of a running one, RESULT 1 fails a loading job with the cause, RESULT 3 sends the set to that tile again; a verdict on no set being loaded, or of another RESULT, is taken and changes nothing. (R122, R124, R125, R126, R127, R128, R471, R349) -/
def Obligations.SlotTables : Prop :=
  (∀ (bt : Fin 8) (src : BitVec 7) (fs : List Flit) (s : State) f0 h n, f0 = (fs.getD 0 { data := [], poison := false }).data → h = shadowOf s bt.val → n = leAt f0 4 1 →
    (claimedByOther h src = true → exec (.tableHeaderSlot bt src fs) s = .next (sendVerdict (bump s Obj.slotsMisdelivered) bt.val src.toNat (leAt f0 0 1) 3 0) ∧
      exec (.tableRowsSlot bt src fs) s = .next (bump s Obj.slotsMisdelivered)) ∧
    (claimedByOther h src = false →
      (h.state = .armed → exec (.tableHeaderSlot bt src fs) s = .next (sendVerdict s bt.val src.toNat (leAt f0 0 1) 3 0)) ∧
      (h.state ≠ .armed → exec (.tableHeaderSlot bt src fs) s = .next (updBt s bt.val (fun b => { b with shadow := {
        state := .loading, gen := BitVec.ofNat 8 (leAt f0 0 1), owner := src, header := slice ((fs.drop 1).flatMap (·.data)) 0 128, entries := [], rows := [],
          badCheck := !slotCheckOk fs, swapAt := 0 } }))) ∧
      (¬(h.owner = src ∧ h.state = .loading ∧ h.gen.toNat = leAt f0 0 1) → exec (.tableRowsSlot bt src fs) s = .next s) ∧
      (∀ rows, h.owner = src → h.state = .loading → h.gen.toNat = leAt f0 0 1 → rows = (List.range n).filter (fun i => decide (leAt f0 2 2 + i < 350)) →
        exec (.tableRowsSlot bt src fs) s = .next (updBt s bt.val (fun b => { b with shadow := { h with
          entries := rows.foldl (fun es i => storeRow es (leAt f0 2 2 + i) (slice ((fs.drop 1).flatMap (·.data)) (256 * i) 256)) h.entries,
          rows := rows.foldl (fun rs i => addPos rs (leAt f0 2 2 + i)) h.rows, badCheck := h.badCheck || !slotCheckOk fs } }))))) ∧
  (∀ (bt : Fin 8) (s : State) h, h = shadowOf s bt.val →
    (h.state ≠ .loading ∨ h.rows.length < 350 → exec (.tableChecked bt) s = .next s) ∧
    (h.state = .loading → 350 ≤ h.rows.length → rejectCause s bt.val h = 0 → exec (.tableChecked bt) s = .next (sendVerdict (updBt s bt.val (fun b => { b with shadow := { h with
        state := if setRejected s h then .rejected else .accepted } })) bt.val h.owner.toNat h.gen.toNat 0 0)) ∧
    (h.state = .loading → 350 ≤ h.rows.length → rejectCause s bt.val h ≠ 0 → exec (.tableChecked bt) s = .next (sendVerdict (rejectWhole
        (updBt (if setRejected s h then s else bump s Obj.tableRejects) bt.val (fun b => { b with shadow := { h with state := .rejected } })) h)
        bt.val h.owner.toNat h.gen.toNat 1 (rejectCause s bt.val h)))) ∧
  (∀ s bt site gen cause, sendVerdict s bt site gen 1 cause = ctrlSendFrom (dset s Obj.rejectCause cause) bt site 0x30 (gen + 1 * 256) [BitVec.ofNat 64 cause]) ∧
  (∀ (bt : Fin 8) (src : BitVec 7) (gen : BitVec 8) (t : Word) (s : State) h, h = shadowOf s bt.val →
    (s.now.toNat + 512 ≤ t.toNat → h.state = .accepted → h.gen = gen → h.owner = src → exec (.tableSwap bt src gen t) s =
      .next (updBt s bt.val (fun b => { b with shadow := { h with state := .armed, swapAt := t } }))) ∧
    (h.state = .armed ∧ h.gen = gen ∧ h.owner = src ∧ h.swapAt = t → exec (.tableSwap bt src gen t) s = .next s) ∧
    (¬ (h.state = .armed ∧ h.gen = gen ∧ h.owner = src ∧ h.swapAt = t) → t.toNat < s.now.toNat + 512 ∨ h.state ≠ .accepted ∨ h.gen ≠ gen ∨ h.owner ≠ src → exec (.tableSwap bt src gen t) s = .next (raise
      (updBt (if s.now.toNat + 512 > t.toNat then sendVerdict s bt.val src.toNat gen.toNat 2 0 else sendVerdict s bt.val src.toNat gen.toNat 1 (causeWord 8 0 0))
        bt.val (fun b => { b with unswapped := some t })) bt.val 0x03 0x1D 5 false (bt.val + gen.toNat * 8)))) ∧
  (∀ (src : BitVec 7) (seq : BitVec 32) (gen : BitVec 8) (owner : BitVec 7) (s s1 : State),
    (ctrlTakeAll (sigArrive s (ctrlPacket src.toNat 0x7F 0x32 seq (gen.toNat + owner.toNat * 256) [])) src seq = (false, s1) → exec (.tableClear src seq gen owner) s = .next s1) ∧
    (ctrlTakeAll (sigArrive s (ctrlPacket src.toNat 0x7F 0x32 seq (gen.toNat + owner.toNat * 256) [])) src seq = (true, s1) → ∃ u, exec (.tableClear src seq gen owner) s = .next u ∧
      u = { s1 with bts := u.bts } ∧
      ∀ k, k < 8 → btAt u k = (if (hostOf src).isSome ∧ (shadowOf s1 k).owner = src ∧ (shadowOf s1 k).gen = gen ∧ (shadowOf s1 k).state ≠ .armed ∨
          hostOf src = none ∧ src.toNat = activeSite s1 ∧ (shadowOf s1 k).owner = owner ∧ owner ≠ 0x7F then { btAt s1 k with shadow := {} } else btAt s1 k))) ∧
  (∀ (hd : Fin 2) (bt : Fin 8) (seq : BitVec 32) (gen result : BitVec 8) (cause : Word) (s a : State), a = sigArrive s (ctrlPacket bt.val (siteHD hd.val) 0x30 seq (gen.toNat + result.toNat * 256) [cause]) →
    ((∀ j, loadOf s hd.val gen.toNat = some j → j.loading = none) → exec (.tableVerdict hd bt seq gen result cause) s = .next a) ∧
    (∀ j v, loadOf s hd.val gen.toNat = some j → j.loading = some v →
      (result = 3 → exec (.tableVerdict hd bt seq gen result cause) s = .next (queueTables (setJob a { j with busy := addPos j.busy bt.val }) hd.val [bt.val] gen.toNat j.tableBuf.1 j.tableBuf.2)) ∧
      (result = 1 → exec (.tableVerdict hd bt seq gen result cause) s = .next (if j.phase = .loading then finishJob a 5 (cause.toNat % 2 ^ 32) else releaseShadow (setJob a { j with loading := none }) hd.val)) ∧
      (result = 0 → ∀ s1, s1 = setJob a { j with verdicts := tput j.verdicts bt.val 0 } → exec (.tableVerdict hd bt seq gen result cause) s = .next (
        if (soundTiles s1).all (fun b => (tfind (tput j.verdicts bt.val 0) b).isSome) then
          if j.phase = .loading then goStart s1 true j.loadGen else setJob s1 { j with verdicts := tput j.verdicts bt.val 0, loading := none }
        else s1)) ∧
      (result ≠ 0 → result ≠ 1 → result ≠ 3 → exec (.tableVerdict hd bt seq gen result cause) s = .next a)))

/-- Failing ports, excluded lines, marginal lines and cells. Where a die takes it, PORT_FAILED is counted, stops a job that the port lights and takes effect at its boundary; LANE_EXCLUDE for an internal port, or an external one whose link is not up, takes effect at its boundary, at once when that has passed, for one on a link that is up it goes to the far end as a LINK_EXCLUDE; where none takes them they change no more. LANE_EXCLUDE_CLEAR is kept in both exclusion records; at a boundary with no job a written house blend takes effect, and written back to 0 ends the sets of the other blend, and with a job, off the boundary or unwritten nothing changes; LINE_MARGINAL reports the line at the receiving end when it is past its limit there with two senders, or one that sends nowhere else, and at each sending end past it at two receivers; UNCORR_FRAME_LIMIT reports a port past its limit of bad frames by the same rule; a failed cell is bypassed over its spare from the boundary that follows 700 ns, or, with the spare used or named, fails the group's ports. (R105, R107, R118, R130, R131, R133, R134, R349) -/
def Obligations.PortsAndLines : Prop :=
  (∀ (src : BitVec 7) (seq : BitVec 32) (p : Fin 366) (t : Word) (s s1 s2 : State),
    (ctrlTakeAll (sigArrive s (ctrlPacket src.toNat 0x7F 0x34 seq p.val [t])) src seq = (false, s1) → exec (.portFailed src seq p t) s = .next s1) ∧
    (ctrlTakeAll (sigArrive s (ctrlPacket src.toNat 0x7F 0x34 seq p.val [t])) src seq = (true, s1) → s2 = schedule (bump s1 Obj.portsFailed) t (.portFailed p.val) →
    exec (.portFailed src seq p t) s = .next (if lightsPort s2 p.val then jobLoss s2 3 p.val else s2))) ∧
  (∀ (src : BitVec 7) (seq : BitVec 32) (p : Fin 366) (rx : Bool) (line : Fin 36) (t : Word) (s s1 : State),
    (ctrlTakeAll (sigArrive s (ctrlPacket src.toNat 0x7F 0x35 seq (p.val + 512 * b2n rx + 1024 * line.val) [t])) src seq = (false, s1) → exec (.laneExclude src seq p rx line t) s = .next s1) ∧
    (ctrlTakeAll (sigArrive s (ctrlPacket src.toNat 0x7F 0x35 seq (p.val + 512 * b2n rx + 1024 * line.val) [t])) src seq = (true, s1) →
      (p.val < 350 ∨ (linkAt s1 (p.val - 350)).mode ≠ .up → exec (.laneExclude src seq p rx line t) s =
        .next (if t ≤ s1.now then applyExclude s1 p.val rx line.val else schedule s1 t (.laneExclude p.val rx line.val))) ∧
      (350 ≤ p.val → (linkAt s1 (p.val - 350)).mode = .up → exec (.laneExclude src seq p rx line t) s =
        .next (queueVc3 s1 (p.val - 350) (vc3Packet s1 0x24 [] (b2n rx + 2 * line.val) (t.toNat / 1024)))))) ∧
  (∀ (p : Fin 366) (s : State), exec (.laneExcludeClear p) s = .next (excludeRecord (excludeRecord (updPort s p.val (fun v => { v with clearAtStart := true }))
    p.val false) p.val true)) ∧
  (∀ (s : State), s.now.toNat % 1024 = 0 → s.job = none → dval s Obj.houseBlendMode ≠ s.blend → dval s Obj.houseBlendMode ≠ 0 →
    exec .houseBlendChange s = .next { s with blend := dval s Obj.houseBlendMode }) ∧
  (∀ (s : State), s.now.toNat % 1024 = 0 → s.job = none → s.blend ≠ 0 → dval s Obj.houseBlendMode = 0 → exec .houseBlendChange s = .next (List.foldl (fun u bt =>
    updBt u bt (fun b =>
      let b := match b.active with
        | some a => if a.blend = 1 then { b with active := none } else b
        | none => b
      if (b.shadow.state = .accepted ∨ b.shadow.state = .armed) ∧ leAt b.shadow.header 1 1 = 1 then { b with shadow := {} } else b)) { s with blend := 0 } (List.range 8))) ∧
  (∀ (s : State), s.now.toNat % 1024 ≠ 0 ∨ s.job ≠ none ∨ dval s Obj.houseBlendMode = s.blend → exec .houseBlendChange s = .next s) ∧
  (∀ (q : Fin 366) (line : Fin 36) (s : State) senders, senders = ((errsAt s q.val line.val).map (·.sender)).eraseDups →
    (rxMarginal s q.val line.val = true ↔ ((errsAt s q.val line.val).map (·.count)).sum > dval s Obj.laneErrLimit ∧
      (350 ≤ q.val ∨ senders.length ≥ 2 ∨ senders.any (fun p => sendsOnlyTo s p q.val) = true)) ∧
    exec (.lineMarginal q line) s = .next (List.foldl (fun u p => if p < 350 ∧ txMarginal s p line.val = true
        then raise u (portTile p) 0x03 0x19 4 false (portForm p line.val 0) else u)
      (if rxMarginal s q.val line.val = true then raise s (portTile q.val) 0x03 0x19 4 false (portForm q.val line.val 0 + 2 ^ 21) else s)
      (q.val :: senders.filter (· != q.val)))) ∧
  (∀ (p line : Nat) (s : State), txMarginal s p line = true ↔ ((errsFrom s p line).map (·.2.count)).sum > dval s Obj.laneErrLimit ∧
      ((errsFrom s p line).map (·.1)).eraseDups.length ≥ 2) ∧
  (∀ (q : Fin 366) (s : State), exec (.uncorrFrameLimit q) s = .next (List.foldl (fun u p => if p < 350 ∧ txUncorr s p = true
        then raise u (portTile p) 0x03 0x1B 5 false (portForm p 0 0 + 3 * 2 ^ 22) else u)
      (if rxUncorr s q.val = true then raise s (portTile q.val) 0x03 0x1B 5 false (portForm q.val 0 0 + 3 * 2 ^ 22) else s)
      (q.val :: (((badAt s q.val).filterMap (·.2.2)).eraseDups).filter (· != q.val)))) ∧
  (∀ (bt : Fin 8) (i : Fin 512) (s : State),
    ((btAt s bt.val).spareUsed.contains i.val = true ∨ bypassNamed s bt.val i.val = true → exec (.cellFailure bt i) s = .next (List.foldl (fun u p => raise u (portTile p) 0x03 0x1B 5 false (portForm p 0 0 + 5 * 2 ^ 22))
      (raise (updBt s bt.val (fun b => { b with cellDown := addPos b.cellDown i.val })) bt.val 0x0B 0x1C 5 false (512 * bt.val + i.val + 4096))
      (attachedPorts bt.val i.val))) ∧
    ((btAt s bt.val).spareUsed.contains i.val = false → bypassNamed s bt.val i.val = false → exec (.cellFailure bt i) s =
      .next (schedule (raise s bt.val 0x0B 0x1C 4 false (512 * bt.val + i.val)) (boundaryAfter s 700) (.cellBypass bt.val i.val))))

/-- Requests and transfers whose data was lost, and the loss of a set. On a compute die that is on, twenty microseconds after it was sent, a LOAD_REQ whose data has not all arrived gets its missing lines delivered poison-marked, with free data, and completes with STATUS 1 at least; a transfer of a flow twenty microseconds after its last slot is over with status bit 0 set, its request ended, its lines sent and signalled, and its missing lines are poison-marked first: at a receiver of a SEND, of a LOAD or an ATOMIC its buffer (the return flow's) takes them, a SEND's sender, a STORE and a REDUCE's sender have none. Before that time, of a request or flow with none open, with nothing missing, or at a die that is off, nothing changes. SET_LOST, where a die takes it, takes effect at its boundary, at once when that has passed, and stops a job that uses the set; where none takes it it changes no more. (R132, R174, R195, R196, R204, R474) -/
def Obligations.LostData : Prop :=
  (∀ (cd : Fin 16) (tag : BitVec 10) (s : State), let o := (dieAt s cd.val).reqs.find? (fun r => r.tag == tag && r.load)
    (meshOn s cd.val = false ∨ o = none → exec (.loadReqTimeout cd tag) s = .next s) ∧
    (∀ r, o = some r → (s.ticks < r.sentAt + 20000 ∨ r.waiting = [] ∧ r.unsent = [] ∧ r.lines ≤ r.got.length) → exec (.loadReqTimeout cd tag) s = .next s) ∧
    (∀ r, meshOn s cd.val = true → o = some r → r.sentAt + 20000 ≤ s.ticks → (r.waiting ≠ [] ∨ r.unsent ≠ [] ∨ r.got.length < r.lines) →
      exec (.loadReqTimeout cd tag) s = .next (bumpFree (finishReq (List.foldl (fun u i => landLines u (12 * cd.val) cd.val r i [freePoison s.freeCtr i])
        s ((List.range r.lines).filter (fun i => !r.got.contains i))) cd.val { r with worst := worseStatus r.worst 1 })))) ∧
  (∀ (cd : Fin 16) (t : Fin 64) (flow : BitVec 16) (s : State), let o := (flowSt (tileAt s (64 * cd.val + t.val)) flow.toNat).open_.head?
    (meshOn s cd.val = false ∨ o = none ∨ partOf s (64 * cd.val + t.val) flow.toNat = none → exec (.flowTransferTimeout cd t flow) s = .next s) ∧
    (∀ x, o = some x → (∀ t0, x.lastSlot = some t0 → s.ticks < t0 + 20000) → exec (.flowTransferTimeout cd t flow) s = .next s) ∧
    (∀ x t0 pt fd buf lines u, meshOn s cd.val = true → o = some x → partOf s (64 * cd.val + t.val) flow.toNat = some (fd, pt) → x.lastSlot = some t0 → t0 + 20000 ≤ s.ticks →
      buf = (if fd.kind = 7 then (partOf s (64 * cd.val + t.val) fd.returnFlow).map (·.2) else some pt) →
      lines = (if fd.kind = 7 then cdiv x.expect 4 else if fd.kind = 4 ∧ x.left = false ∨ fd.kind = 2 ∨ fd.kind = 6 ∨ fd.kind = 5 ∧ x.reduced = true then 0 else pt.outLines) →
      u = (match buf with
        | some b => List.foldl (fun u i => adapterWrite u (12 * cd.val) t.val (if fd.kind = 7 then fd.returnFlow else flow.toNat) (bufLine b x.n + i) (poisonLines s.freeCtr i 1)) s
            ((List.range lines).filter (fun i => !x.got.contains i))
        | none => s) →
      exec (.flowTransferTimeout cd t flow) s = .next (bumpFree (updTile (setDie u cd.val { dieAt u cd.val with reqs := (dieAt u cd.val).reqs.filter (fun r =>
          !(r.for_ == .transfer && r.tile.toNat == t.val && r.flow.toNat == flow.toNat && r.transfer == x.n)) }) (64 * cd.val + t.val)
        (fun tl => updXfer tl flow.toNat x.n (fun y => { y with checked := max y.checked (max pt.outLines y.expect), status := y.status ||| 1, lastSlot := none,
                                                                expect := if fd.kind = 4 ∧ y.left = false then 0 else y.expect,
                                                                reqDone := true, left := true, reduced := true })))))) ∧
  (∀ (src : BitVec 7) (seq : BitVec 32) (set : Fin 4) (stack : Fin 24) (t : Word) (s s1 s2 : State),
    (ctrlTakeAll (sigArrive s (ctrlPacket src.toNat 0x7F 0x40 seq (set.val + stack.val * 256) [t])) src seq = (false, s1) → exec (.setLost src seq set stack t) s = .next s1) ∧
    (ctrlTakeAll (sigArrive s (ctrlPacket src.toNat 0x7F 0x40 seq (set.val + stack.val * 256) [t])) src seq = (true, s1) →
      s2 = (if t ≤ s1.now then applySetLost s1 set.val else schedule s1 t (.setLost set.val stack.val)) →
      exec (.setLost src seq set stack t) s = .next (if setHits s2 set.val then jobLoss s2 2 set.val else s2)))

/-- What happens at a frame boundary. FRAME_BOUNDARY runs the clock to the next boundary, whose time is a multiple of 1,024 ns later than the last one taken, passes every base tile into the new frame, ends a calibration step whose time is over, empties the shadows of what a fence names now, fails the ports named for it, swaps every armed table whose time has come and drops what the new set never lights, makes the other named changes in their order, lets a written house blend take effect, steps rings and calibration, sends module time, and keeps the changes named for later. (R115, R118, R127, R128, R129, R133) -/
def Obligations.FrameBoundaries : Prop :=
  (∀ (s : State), nextBoundary s % 1024 = 0 ∧ s.now.toNat ≤ nextBoundary s ∧
    (nextBoundary s = s.now.toNat → s.now ≠ s.boundary) ∧ nextBoundary s ≤ s.now.toNat + 1024 ∧
    toBoundary s = clockWork { s with ticks := s.ticks + (nextBoundary s - s.now.toNat), now := BitVec.ofNat 64 (nextBoundary s) }) ∧
  (∀ (s s0 : State) due s1, s0 = doCalStepEnd (newFrame (toBoundary s)) → due = s0.changes.filter (fun c => decide (c.1 ≤ s0.now)) →
    s1 = List.foldl (fun u c => fenceShadows u c.2) { s0 with changes := s0.changes.filter (fun c => decide (s0.now < c.1)), boundary := s0.now } due →
    exec .frameBoundary s = .next (
      let u := List.foldl (fun u b => applySwap u b) (portsFail s1 (due.flatMap (fun c => changePorts s1 (due.map (·.2)) c.2))) (List.range 8)
      let u := sendTime (ringsBoundary (calAhead (applyBlend (List.foldl (fun u c => applyChange u c.2) u due))))
      { u with boundary := u.now })) ∧
  (∀ (s : State) b, ((btAt s b).shadow.state = .armed → (btAt s b).shadow.swapAt ≤ s.now →
      applySwap s b = dropUnlit (setBt (dset s Obj.lastSwap (btAt s b).shadow.swapAt.toNat) b { btAt s b with active := some (shadowSet (btAt s b).shadow), shadow := {} })
        b (btAt s b).shadow.entries) ∧
    ((btAt s b).shadow.state ≠ .armed ∨ s.now < (btAt s b).shadow.swapAt → applySwap s b = s))

/-- Monitors, lost light, heaters and tones. MONITOR_SAMPLE takes its readings in turn; a reading below a quarter of the baseline, and the next one 16 ns later, make a loss, one that is not below ends it. A serving comb's loss makes its tile dark, which holds its locked rings, raises 0x20, and retires it when that was pending, once; any other comb's, not retired or failed, retires it, and one that lit for a tile starts the next choice. A port line's loss, or an unlocked ring's in service, asks for its exclusion unless the tile's comb was lost within 64 ns, when the rings are held; an excluded line asks no more; a ring out of service acquires again; HOLD lasts 100 us. With no loss, no lock, or in HOLD for less, nothing changes. A dark hub input raises 0x23. Heaters move at most 3 codes in service and 32 out of service at an update, and two updates lie a microsecond apart. At a window's end, a boundary of 256 frames, unless a time step fell into it, each reported ring is judged once: a locked one whose window is whole and passes, its tone at least 0.5 % deep and four times every other, clears its failures; a second failure in a row makes it wrong, and on line 32 fails its port. (R140, R141, R142, R143, R144, R145, R159, R160, R349) -/
def Obligations.LightLosses : Prop :=
  (∀ (ms : List Monitor) (s : State), exec (.monitorSample ms) s = .next (List.foldl sample s ms)) ∧
  (∀ (s : State) (p : Fin 366) (line : Fin 36) (power : BitVec 16) k, k = tapLowKey p.val line.val →
    sample s (.tap p line power) = noteLow s k (decide (4 * power.toNat < Config.tapBase k))) ∧
  (∀ (s : State) k low, lowSince (noteLow s k low) k = (if low then some ((lowSince s k).getD s.ticks) else none)) ∧
  (∀ (s : State) k, lowTwice s k = true ↔ ∃ t, lowSince s k = some t ∧ t + 16 ≤ s.ticks) ∧
  (∀ (c : Fin 10) (s : State),
    (combLow s c.val = false → exec (.combLoss c) s = .next s) ∧
    (∀ bt, (combAt s c.val).serves = some bt → (tfind s.light.lossAt bt).isSome = true → exec (.combLoss c) s = .next s) ∧
    (∀ bt, combLow s c.val = true → (combAt s c.val).serves = some bt → tfind s.light.lossAt bt = none → exec (.combLoss c) s =
      .next (if (combAt s c.val).state = 5 then retireComb (raise (tileDark s bt) bt 0x0A 0x20 4 false (c.val + bt * 16)) c.val
        else raise (tileDark s bt) bt 0x0A 0x20 4 false (c.val + bt * 16))) ∧
    ((combAt s c.val).serves = none → (combAt s c.val).state = 6 ∨ (combAt s c.val).state = 7 → exec (.combLoss c) s = .next s) ∧
    (combLow s c.val = true → (combAt s c.val).serves = none → (combAt s c.val).state ≠ 6 → (combAt s c.val).state ≠ 7 →
      ((combAt s c.val).state ≠ 2 ∨ (combAt s c.val).target = none → exec (.combLoss c) s = .next (retireComb s c.val)) ∧
      (∀ bt, (combAt s c.val).state = 2 → (combAt s c.val).target = some bt → exec (.combLoss c) s = .next (match lightSpare (retireComb s c.val) bt with
        | some u => u
        | none => match servingComb (retireComb s c.val) bt with
          | some o => combFadeMsg (retireComb s c.val) o (combAt (retireComb s c.val) o).fade true
          | none => retireComb s c.val)))) ∧
  (∀ (p : Fin 366) (line : Fin 36) (s : State),
    (lowTwice s (tapLowKey p.val line.val) = false → exec (.portLineLoss p line) s = .next s) ∧
    (lowTwice s (tapLowKey p.val line.val) = true → combsFault s (portTile p.val) = true → exec (.portLineLoss p line) s = .next (holdRings s (portTile p.val))) ∧
    (lowTwice s (tapLowKey p.val line.val) = true → combsFault s (portTile p.val) = false → exec (.portLineLoss p line) s =
      .next (if excluded s p.val false line.val then s else lineLost s p.val false line.val))) ∧
  (∀ (r : RingId) (s : State) k, k = Machine.ringKey r.port.val r.rx r.line.val →
    ((ringAt_ s k).state ≠ 4 ∨ lowTwice s (dropLowKey k) = false → exec (.ringUnlocked r) s = .next s) ∧
    ((ringAt_ s k).state = 4 → lowTwice s (dropLowKey k) = true →
      (combsFault s (portTile r.port.val) = true → exec (.ringUnlocked r) s = .next (holdRings s (portTile r.port.val))) ∧
      (combsFault s (portTile r.port.val) = false → inService s r.port.val r.rx r.line.val = true → exec (.ringUnlocked r) s =
        .next (lineLost (setRing_ s k { ringAt_ s k with reacquire := true }) r.port.val r.rx r.line.val)) ∧
      (combsFault s (portTile r.port.val) = false → inService s r.port.val r.rx r.line.val = false → exec (.ringUnlocked r) s =
        .next (setLight (setRing_ s k { ringAt_ s k with state := 1, fails := 0, passes := 0 }) (fun l => { l with
          unlocked := l.unlocked.filter (fun e => decide (s.ticks ≤ e.1 + 64)) ++ [(s.ticks, k)] })))) ∧
    ((ringAt_ s k).state = 5 → (ringAt_ s k).holdAt + 100000 ≤ s.ticks → exec (.holdTimeout r) s =
      .next (ringLost (setRing_ s k { ringAt_ s k with state := 4 }) r.port.val r.rx r.line.val)) ∧
    ((ringAt_ s k).state ≠ 5 ∨ s.ticks < (ringAt_ s k).holdAt + 100000 → exec (.holdTimeout r) s = .next s)) ∧
  (∀ (bt : Fin 8) (s : State), exec (.ringInputDark bt true) s = .next (raise s bt.val 0x07 0x23 4 false ((bt.val + 7) % 8)) ∧
    exec (.ringInputDark bt false) s = .next (raise s bt.val 0x07 0x23 4 false ((bt.val + 1) % 8))) ∧
  (∀ (asks : List (RingId × BitVec 16)) (s s1 : State),
    (s.light.heatAt.any (fun t => decide (s.ticks < t + 1000)) = true → exec (.heaterUpdate asks) s = .next s) ∧
    (s.light.heatAt.any (fun t => decide (s.ticks < t + 1000)) = false →
      s1 = List.foldl (fun u a => setRing_ u (ringIdKey a.1) { ringAt_ u (ringIdKey a.1) with heaterTo := some a.2.toNat }) s asks →
      exec (.heaterUpdate asks) s = .next (setLight (List.foldl heatRing s1 (s1.light.rings.map (·.1))) (fun l => { l with heatAt := some s1.ticks })))) ∧
  (∀ (s : State) k t, (ringAt_ s k).heaterTo = some t → heaterMoves (ringAt_ s k) = true → ∃ h, heatRing s k = setRing_ s k { ringAt_ s k with
      heater := some h, heaterTo := if h = t then none else some t, from_ := if (ringAt_ s k).state = 2 ∨ (ringAt_ s k).state = 3 then s.now.toNat else (ringAt_ s k).from_ } ∧
      h ≤ max (heaterOf k (ringAt_ s k)) t ∧ min (heaterOf k (ringAt_ s k)) t ≤ h ∧
      h ≤ heaterOf k (ringAt_ s k) + 32 ∧ heaterOf k (ringAt_ s k) ≤ h + 32 ∧
      (inService s (k / 72) (k % 72 / 36 == 1) (k % 36) = true → h ≤ heaterOf k (ringAt_ s k) + 3 ∧ heaterOf k (ringAt_ s k) ≤ h + 3)) ∧
  (∀ (ws : List RingWindow) (s : State),
    (s.now.toNat % 262144 ≠ 0 → exec (.toneWindowEnd ws) s = .next s) ∧
    (s.now.toNat % 262144 = 0 → s.light.toneVoid = true → exec (.toneWindowEnd ws) s = .next (setLight s (fun l => { l with toneVoid := false }))) ∧
    (s.now.toNat % 262144 = 0 → s.light.toneVoid = false → exec (.toneWindowEnd ws) s = .next (List.foldl judgeWindow s ws))) ∧
  (∀ (tones : List (BitVec 16)) k, toneAt tones k = true ↔ 50 ≤ (tones.getD k 0).toNat ∧
    ∀ j < 36, j ≠ k → 4 * (tones.getD j 0).toNat ≤ (tones.getD k 0).toNat) ∧
  (∀ (w : RingWindow) (s u : State) k v, k = ringIdKey w.ring → v = { ringAt_ s k with judgedAt := some s.ticks } → u = setRing_ s k v →
    (ringAt_ s k).state = 4 →
    ((ringAt_ s k).judgedAt = some s.ticks ∨ s.now.toNat < (ringAt_ s k).from_ + 262144 → judgeWindow s w = s) ∧
    ((ringAt_ s k).judgedAt ≠ some s.ticks → (ringAt_ s k).from_ + 262144 ≤ s.now.toNat →
      (toneAt w.tones w.ring.line.val = true → judgeWindow s w = setRing_ u k { v with fails := 0 }) ∧
      (toneAt w.tones w.ring.line.val = false → v.fails = 0 → judgeWindow s w = setRing_ u k { v with fails := 1, seen := toneLine w.tones }) ∧
      (toneAt w.tones w.ring.line.val = false → v.fails ≠ 0 → ∀ z,
        z = ringExit (setRing_ (bump u Obj.wrongLine) k { v with state := 6, fails := 0, seen := (toneLine w.tones).orElse (fun _ => v.seen) })
          w.ring.port.val w.ring.rx w.ring.line.val false →
        judgeWindow s w = (if w.ring.line = 32 then raisePortFail z w.ring.port.val 2 else z))))

/-- Calibration cycles, the swing and restored values. With calibration on, none active, its interval past at the boundary of 256 frames that follows nine, the active barista working and no time step named, CAL_CYCLE_START sends CAL_STEP for transmit step 0 of that boundary, unless a hold of the other side stands, when it waits; otherwise nothing starts. CAL_STEP, SWING_HOLD and SWING_RELEASE have their effect where a die takes them: a step whose time has not passed takes effect there, a port is kept on the swing, a release takes effect at its boundary. After 1,024 frames, and no sooner, the monitors' last samples taken, each ring whose step is open and not ended counts a step when it met its peak and its tests, and a failure else, the second in a row raising 0x19; the ports' lanes go home but those held on the swing, and the last receive step ends the cycle. A held ring that has settled sends SWING_RELEASE for the boundary that follows 700 ns, with LANE_EXCLUDE when it is not locked; an unsettled one, or a port without a hold, sends nothing. CAL_LIVE of a ready module restores a record that checks, and nothing otherwise. (R148, R149, R150, R151, R155, R237, R314, R385) -/
def Obligations.CalibrationAndSwing : Prop :=
  (∀ (s u : State) t, t = boundary256 s (9 * 1024) → u = setCal s (fun c => { c with active := true, cycleAt := some (s.ticks + (t.toNat - s.now.toNat)), waiting := none }) →
    (dval s Obj.calEnable = 1 → s.light.cal.active = false → cycleDue s (s.ticks + (t.toNat - s.now.toNat)) = true → roleOf s s.active.val = .active → s.mt.stepAt = none → exec .calCycleStart s =
      .next (if heldBack u 0 then setCal u (fun c => { c with waiting := some (0, 0) }) else sendCalStep u 0 0 t)) ∧
    (dval s Obj.calEnable ≠ 1 ∨ s.light.cal.active = true ∨ cycleDue s (s.ticks + (t.toNat - s.now.toNat)) = false ∨ roleOf s s.active.val ≠ .active ∨ s.mt.stepAt ≠ none →
      exec .calCycleStart s = .next s)) ∧
  (∀ (src : BitVec 7) (seq : BitVec 32) (step : Fin 35) (rx : Bool) (t : Word) (s s1 : State) took,
    ctrlTakeAll (sigArrive s (ctrlPacket src.toNat 0x7F 0x38 seq (step.val + 64 * b2n rx) [t])) src seq = (took, s1) →
    exec (.calStep src seq step rx t) s = .next (if took = true ∧ s.now ≤ t then schedule s1 t (.calStart rx step.val) else s1)) ∧
  (∀ (last : List Monitor) (s0 s : State), s = last.foldl sample s0 →
    (s.light.cal.running = none → exec (.calStepEnd last) s0 = .next s) ∧
    (∀ t, s.light.cal.running = some t → s.now.toNat < t.toNat + 1048576 → exec (.calStepEnd last) s0 = .next s) ∧
    (∀ t rx line s1, s.light.cal.running = some t → t.toNat + 1048576 ≤ s.now.toNat → rx = (s.light.cal.side == 1) → line = stepLine s.light.cal.step →
      s1 = List.foldl (fun u p => if calLine u p rx ≠ some line then u
          else if keepsSwing u p rx line then setCal u (fun c => { c with holds := c.holds.filter (fun h => !(h.1 == p && h.2.1 == rx)) ++ [(p, rx, line)] })
          else setCalLine u p rx none) (List.foldl calResult (stepFrames s) (calKeys (stepFrames s) none)) (List.range 366) →
      exec (.calStepEnd last) s0 = .next (setCal s1 (fun c => { c with running := none, active := c.active && (c.again || !(c.side == 1 && c.step == 34)), again := false, ports := trainingSteps c })))) ∧
  (∀ (s : State) k,
    (calOpen s k = false ∨ (calPortAt s k).ended = true → calResult s k = s) ∧
    (calOpen s k = true → (calPortAt s k).ended = false → (calPortAt s k).peak = true → (calPortAt s k).rejected = false → calResult s k =
      setCal (bump s Obj.calSteps) (fun c => { c with fails := tset (fun _ => 0) c.fails k 0 })) ∧
    (∀ n u, calOpen s k = true → (calPortAt s k).ended = false → (calPortAt s k).peak = false ∨ (calPortAt s k).rejected = true → n = tget (fun _ => 0) s.light.cal.fails k + 1 →
      u = setCal (bump s Obj.calFailures) (fun c => { c with fails := tset (fun _ => 0) c.fails k n }) →
      calResult s k = if n = 2 then raise u (portTile (k / 72)) 0x03 0x19 4 false (portForm (k / 72) (k % 36) 0 + k % 72 / 36 * 2 ^ 21) else u)) ∧
  (∀ (src : BitVec 7) (seq : BitVec 32) (p : Fin 366) (rx : Bool) (line : Fin 36) (t : Word) (s s1 : State) took,
    (ctrlTakeAll (sigArrive s (ctrlPacket src.toNat 0x7F 0x39 seq (p.val + 512 * b2n rx + 1024 * line.val) [t])) src seq = (took, s1) →
      exec (.swingHold src seq p rx line t) s = .next (if took then setCal s1 (fun c => { c with
        holds := c.holds.filter (fun h => !(h.1 == p.val && h.2.1 == rx)) ++ [(p.val, rx, line.val)] }) else s1)) ∧
    (ctrlTakeAll (sigArrive s (ctrlPacket src.toNat 0x7F 0x3A seq (p.val + 512 * b2n rx) [t])) src seq = (took, s1) →
      exec (.swingRelease src seq p rx t) s = .next (if took then schedule s1 t (.swingRelease p.val rx
        (((s.light.cal.holds.find? (fun h => h.1 == p.val && h.2.1 == rx)).map (·.2.2)).getD 0) false) else s1))) ∧
  (∀ (p : Fin 366) (rx : Bool) (s : State) o, o = s.light.cal.holds.find? (fun h => h.1 == p.val && h.2.1 == rx) →
    (o = none ∨ o.any (fun h => unsettled s p.val rx h.2.2) = true → exec (.resweepEnd p rx) s = .next s) ∧
    (∀ h, o = some h → unsettled s p.val rx h.2.2 = false →
      exec (.resweepEnd p rx) s = .next (ctrlSend (if (ringAt_ s (Machine.ringKey p.val rx h.2.2)).state = 4 then s
        else ctrlSend s 0x7F 0x35 (p.val + 512 * b2n rx + 1024 * h.2.2) [boundaryAfter s 700]) 0x7F 0x3A (p.val + 512 * b2n rx) [boundaryAfter s 700]))) ∧
  (∀ (p : Fin 366) (bs : List Byte) (s : State), exec (.calLive p bs) s = .next (if calLiveOk p.val bs = true ∧ dval s Obj.moduleState = 1
      then List.foldl (fun u k => restoreSide (restoreSide u p.val false k bs) p.val true k bs) s (List.range 36) else s))

/-- Fading combs and switches between them. At a comb's evaluation, of its 36 taps and a second after the last at least, its fade is judged at the present drive, its drive rises toward what brings its weakest line to 90 %, 65 % when it serves none, by at most 1 % of the maximum and never past it; its counts of weak and faded evaluations are kept. A comb that serves none is retired after two faded ones in a row; one that serves a tile for which none lights has a spare lit after two weak ones (a message the first time, or when there is no spare), and its retirement is pending after two faded ones with no spare. A comb that is retired, off or in Ring-keep, or evaluated within the second, is not. A lighting spare at full drive sends COMB_SWITCH for a boundary after 2,048 ns, a serving one is raised to full drive. COMB_SWITCH, planned or sudden, taken by a die, takes effect at its time (a planned one not when its tile has lost its comb), when the spare serves the tile, the comb it replaces stays warm at idle drive, or is retired when it is dead, faded or was pending, and both are recorded. (R137, R156, R157, R158, R159, R160, R162, R349) -/
def Obligations.CombUse : Prop :=
  (∀ (c : Fin 10) (lanes others : List (BitVec 16)) (s : State),
    (((combAt s c.val).state = 6 ∨ (combAt s c.val).state = 7 ∨ (combAt s c.val).state = 8) ∨ lanes.length + others.length ≠ 36 ∨ (combAt s c.val).evalAt.any (fun t => decide (s.ticks < t + 1000000000)) = true →
      exec (.fadeEvaluation c lanes others) s = .next s) ∧
    (∀ ts f v light u, ts = (lanes ++ others).map (·.toNat) → lanes.length + others.length = 36 →
      ((combAt s c.val).state ≠ 6 ∧ (combAt s c.val).state ≠ 7 ∧ (combAt s c.val).state ≠ 8) → (combAt s c.val).evalAt.any (fun t => decide (s.ticks < t + 1000000000)) = false →
      f = fadeOf s c.val (driveNow s c.val) ts → light = (decide (f < 750) || decide (10 * driveNow s c.val > 9 * Config.combFactory c.val 2)) →
      v = { combAt s c.val with
        drive := some (raisedDrive c.val (driveNow s c.val) (if (combAt s c.val).serves.isSome then 900 else 650) ts)
        fade := f, power := ts, evalAt := some s.ticks
        lightN := if light then (combAt s c.val).lightN + 1 else 0, retireN := if f < 600 then (combAt s c.val).retireN + 1 else 0 } →
      u = bumpFree (setComb s c.val v) →
      ((combAt s c.val).serves = none → exec (.fadeEvaluation c lanes others) s = .next (if 2 ≤ v.retireN then retireComb u c.val else u)) ∧
      (∀ bt lit w, (combAt s c.val).serves = some bt → lit = (List.range 10).any (fun d => (combAt u d).target == some bt) →
        w = (if 2 ≤ v.retireN ∧ lit = false ∧ chooseSpare u bt = none then setComb u c.val { v with state := 5 } else u) →
        exec (.fadeEvaluation c lanes others) s = .next (if v.lightN < 2 ∨ lit = true then w
          else match lightSpare w bt with
            | some x => if v.lightN = 2 then combFadeMsg x c.val f false else x
            | none => combFadeMsg w c.val f true)))) ∧
  (∀ c drive floor taps, drive ≤ raisedDrive c drive floor taps ∧ (raisedDrive c drive floor taps ≤ drive + Config.combFactory c 2 / 100) ∧
    (drive ≤ Config.combFactory c 2 → raisedDrive c drive floor taps ≤ Config.combFactory c 2) ∧
    ((∀ e ∈ taps.zipIdx, floor * Config.tapBase (combLowKey c e.2) ≤ 1000 * e.1) → raisedDrive c drive floor taps = drive)) ∧
  (∀ (c : Fin 10) (s : State),
    (∀ bt, (combAt s c.val).target = some bt → (combAt s c.val).state = 2 →
      exec (.spareReady c) s = .next (ctrlSend (bump (fullDrive s c.val) Obj.combSwitches) 0x7F 0x3B (c.val + bt * 16 + b2n false * 128) [boundaryAfter s 2048])) ∧
    ((combAt s c.val).serves.isSome = true → (combAt s c.val).state = 0 ∨ (combAt s c.val).state = 3 → exec (.spareReady c) s = .next (fullDrive s c.val)) ∧
    (((combAt s c.val).state = 2 → (combAt s c.val).target = none) → ((combAt s c.val).state = 0 ∨ (combAt s c.val).state = 3 → (combAt s c.val).serves = none) → exec (.spareReady c) s = .next s)) ∧
  (∀ (src : BitVec 7) (seq : BitVec 32) (c : Fin 10) (bt : Fin 8) (t : Word) (s s1 : State) took,
    (ctrlTakeAll (sigArrive s (ctrlPacket src.toNat 0x7F 0x3B seq (c.val + bt.val * 16 + b2n false * 128) [t])) src seq = (took, s1) →
      exec (.combSwitchPlanned src seq c bt t) s = .next (if took = true ∧ tfind s.light.lossAt bt.val = none then schedule s1 t (.combSwitch bt.val c.val false) else s1)) ∧
    (ctrlTakeAll (sigArrive s (ctrlPacket src.toNat 0x7F 0x3B seq (c.val + bt.val * 16 + b2n true * 128) [t])) src seq = (took, s1) →
      exec (.combSwitchSudden src seq c bt t) s = .next (if took then schedule s1 t (.combSwitch bt.val c.val true) else s1))) ∧
  (∀ (s : State) bt c, ((combAt s c).state = 6 ∨ (combAt s c).serves.isSome = true ∨ combLit s c = false → ∀ sudden, applyCombSwitch s bt c sudden = s) ∧
    (∀ u, (combAt s c).state ≠ 6 → (combAt s c).serves = none → combLit s c = true →
      u = (match servingComb s bt with
        | none => s
        | some o => if (combAt s o).fade < 600 ∨ (combAt s o).state = 5 then retireComb s o
          else combRecord (setComb s o { combAt s o with state := 4, serves := none, lightN := 0, retireN := 0, drive := some (Config.combFactory o 3) }) o) →
      applyCombSwitch s bt c false = combRecord (setComb u c { combAt u c with state := if c = bt then 0 else 3, serves := some bt, target := none, drive := some (driveNow u c) }) c))

/-- A job is taken, checked, started, booted and run. With no job and the dies its entry needs on, the next ring in order with an entry and an engine gives its entry to that engine, which starts checking it; else no entry is taken. A failed check ends the job with its cause, a good image goes on to loading; with no job in checking nothing happens. JOB_START starts the job's dies at its boundary, at once when that has passed. In a job that starts, its boot requests sent, a live bound tile not yet booted whose die record and boot lines have all arrived boots: JOB_INFO is set and the core runs at 0; with one of them poisoned the job is stopped with status 6; with some still to come, booted already, not live or outside a job that starts, nothing happens. A tile no vtile names whose boot record came poisoned stops the job with status 6 too, with a free value for its detail (log entry 110). When every bound core has started the job runs, and not before, and its standby variant is loaded behind it unless its image has none or the shadow already holds it; the last exit with code 0 makes a running job drain, and a first other code stops it with status 1, the code and the tile; further exits of a vtile, or of a tile that has none, change nothing. (R213, R214, R215, R217, R218, R223, R327) -/
def Obligations.JobStarts : Prop :=
  (∀ (s : State), (mayTake s = false ∨ nextRing s = none → exec .jobTake s = .next s) ∧
    ∀ r e, mayTake s = true → nextRing s = some r → e = ringEntry (dramBytes s ((ringAt s r).base + 64 * ((ringAt s r).head % (ringAt s r).entries)) 64) →
      exec .jobTake s = .next (if diesReady s e = false then s else { setRing s r { ringAt s r with head := (ringAt s r).head + 1 } with
        lastRing := r, job := some { phase := .checking, ring := r, entryNo := (ringAt s r).head, owner := ringServer s r, entry := e, takenAt := s.ticks } })) ∧
  (∀ (s : State), (s.job = none → exec .imageChecked s = .next s) ∧
    ∀ j, s.job = some j → (j.phase ≠ .checking → exec .imageChecked s = .next s) ∧
      (j.phase = .checking → (∀ c, checkImage s j.entry = .inl c → exec .imageChecked s = .next (endJob s 3 c)) ∧
        ∀ im, checkImage s j.entry = .inr im → exec .imageChecked s = .next (startLoading (setJob s { j with image := some im })))) ∧
  (∀ (hd : Fin 2) (seq : BitVec 32) (variant gen : BitVec 8) (restarts : BitVec 16) (t scratch : Word) (s s1 : State),
    s1 = sigArrive s (ctrlPacket (siteHD hd.val) 0x7F 0x60 seq (variant.toNat + gen.toNat * 256 + restarts.toNat * 65536) [t, scratch]) →
    exec (.jobStart hd seq variant gen restarts t scratch) s = .next (if t ≤ s.now then applyJobStart s1 else schedule s1 t .jobStart)) ∧
  (∀ (cd : Fin 16) (t : Fin 64) (s : State), (tileLive s (tkey cd t) = false ∨ s.job = none → exec (.tileBoot cd t) s = .next s) ∧
    ∀ j, tileLive s (tkey cd t) = true → s.job = some j →
      (j.phase ≠ .starting ∨ j.bootSent = false ∨ j.booted.contains (tkey cd t) = true → exec (.tileBoot cd t) s = .next s) ∧
      (j.phase = .starting → j.bootSent = true → j.booted.contains (tkey cd t) = false →
        (vtileOf s (tkey cd t) = none → exec (.tileBoot cd t) s = .next
          (if (boundDies j.binding).contains (tkey cd t / 64) = true ∧ (tileAt s (tkey cd t)).bootBad = true
            then bumpFree (beginStop s 1 (some (6, (Config.freeWord s.freeCtr (tkey cd t)).toNat % 65536, true)) 0 0) else s)) ∧
        ∀ v, vtileOf s (tkey cd t) = some v →
          ((tileAt s (tkey cd t)).bootBad = true ∨ (dieAt s (tkey cd t / 64)).dieRec = some true → exec (.tileBoot cd t) s = .next (beginStop s 1 (some (6, v, true)) 0 0)) ∧
          ((tileAt s (tkey cd t)).bootBad = false → (dieAt s (tkey cd t / 64)).dieRec = none → exec (.tileBoot cd t) s = .next s) ∧
          ((tileAt s (tkey cd t)).bootBad = false → (dieAt s (tkey cd t / 64)).dieRec = some false →
            exec (.tileBoot cd t) s = .next (if (tileAt s (tkey cd t)).bootGot < 1 + (bootLines (tileAt s (tkey cd t))).1 + (bootLines (tileAt s (tkey cd t))).2 then s
              else setJob (updTile s (tkey cd t) (fun y => { y with
                jobInfo := BitVec.ofNat 64 (v + j.variant.getD 0 * 65536 + j.restarts % 65536 * 2 ^ 32), core := { y.core with running := true, pc := 0 } }))
              { j with booted := j.booted ++ [tkey cd t] })))) ∧
  (∀ (s : State), (s.job = none → exec .jobRunning s = .next s) ∧
    ∀ j, s.job = some j → (j.phase ≠ .starting ∨ j.binding.all (fun k => j.booted.contains k) = false → exec .jobRunning s = .next s) ∧
      ∀ s1, j.phase = .starting → j.binding.all (fun k => j.booted.contains k) = true → s1 = setJob s { j with phase := .running } →
        exec .jobRunning s = .next (judgeExits (match (runVariant s1).bind (fun v => j.image.bind (fun im => im.variants.find? (fun e => e.variant == v.standby))) with
          | none => s1
          | some st => if (heldShadow s1 j.owner (variantSet s1 j.entry st).1 (variantSet s1 j.entry st).2).isSome then s1
            else setJob (queueTables s1 j.owner (List.range 8) (nextGen s1 j.loadGen).toNat (variantSet s1 j.entry st).1 (variantSet s1 j.entry st).2) { j with
              phase := .running, loadGen := nextGen s1 j.loadGen, verdicts := [], loading := some st.variant, tableBuf := variantSet s1 j.entry st, busy := [] }))) ∧
  (∀ (cd : Fin 16) (t : Fin 64) (w : Word) (s : State),
    (tileLive s (tkey cd t) = false ∨ s.job = none ∨ vtileOf s (tkey cd t) = none → exec (.jobExit cd t w) s = .next s) ∧
    ∀ j v, tileLive s (tkey cd t) = true → s.job = some j → vtileOf s (tkey cd t) = some v →
      ((j.phase = .starting ∨ j.phase = .running) → (tfind j.exits v = none ∨ w.toNat % 65536 ≠ 0 ∧ tfind j.exits v = some 0) →
        exec (.jobExit cd t w) s = .next (judgeExits (setJob s { j with exits := tput j.exits v (w.toNat % 65536) }))) ∧
      (j.phase ≠ .starting ∧ j.phase ≠ .running ∨ (∃ c, tfind j.exits v = some c ∧ (w.toNat % 65536 = 0 ∨ c ≠ 0)) → exec (.jobExit cd t w) s = .next s)) ∧
  (∀ (s : State) j, s.job = some j → (j.phase ≠ .running → judgeExits s = s) ∧ (j.phase = .running →
    (∀ e, j.exits.find? (fun e => e.2 ≠ 0) = some e → judgeExits s = beginStop s 1 (some (1, e.2 + e.1 * 65536, true)) 0 0) ∧
    (j.exits.find? (fun e => e.2 ≠ 0) = none → judgeExits s = if (List.range j.binding.length).all (fun v => (tfind j.exits v).isSome) = true
      then setJob s { j with phase := .draining, status := some (0, 0), decided := s.now } else s)))

/-- A job is stopped, drained and ended. JOB_STOP makes every compute and fabric die in service halt its bound cores, abort their queues, end the requests it has not sent and the remote units not yet sent, and answer. The last answer at the owner engine, or 25 us, ends the stop; an earlier answer is noted, and an answer at the other engine, without a job or outside a stop changes nothing but the signal traffic. A stop ended with a status to drain by leaves the job draining, one that ends it outright ends it once its requests have ended. A draining job ends when its requests and transfers have ended, a stopped one when its requests have, and not before; a job without a status, or in a stop, does not. A job past its run limit is stopped to end with status 0x0A; before its limit, without one or without a job nothing happens. A job's end clears the job and writes its record. The record body's acknowledgement lets SEQ be written and the next record go; with no record, or its body not acknowledged, nothing is written. (R216, R218, R220, R222, R223, R288, R290, R291, R292, R327) -/
def Obligations.JobStops : Prop :=
  (∀ (hd : Fin 2) (seq : BitVec 32) (reason : BitVec 8) (s s1 : State), s1 = sigArrive s (ctrlPacket (siteHD hd.val) 0x7F 0x61 seq reason.toNat []) →
    exec (.jobStop hd seq reason) s = .next (List.foldl (fun u site => stopDie u (siteHD hd.val) site) s1 (stopSites s1))) ∧
  (∀ (s u : State) n j owner, siteKind (siteCD n) = some (.cd, n) → s.job = some j →
    u = List.foldl (fun u k => updTile u k (fun t => { t with
        halted := true, core := { t.core with running := false }, mq := { t.mq with aborting := true } })) s (j.binding.filter (fun k => k / 64 == n && !tileOut s k)) →
    stopDie s owner (siteCD n) = ctrlSendFrom (stopUnits (List.foldl (stopReq n) u (dieAt u n).reqs) (fun x => x.cd == n)) (siteCD n) owner 0x62 (siteCD n)) ∧
  (∀ (s : State) n j owner, siteKind (siteFD n) = some (.fd, n) → s.job = some j →
    stopDie s owner (siteFD n) = ctrlSendFrom (stopUnits s (fun x => x.fd == n)) (siteFD n) owner 0x62 (siteFD n)) ∧
  (∀ (s : State) n r, (r.unsent = [] → stopReq n s r = s) ∧ (r.unsent ≠ [] → (r.waiting ≠ [] ∨ r.load = true) → stopReq n s r = setDie s n { dieAt s n with
    reqs := (dieAt s n).reqs.map (fun x => if x.tag = r.tag then { r with unsent := [], worst := worseStatus r.worst 1 } else x) })) ∧
  (∀ (hd : Fin 2) (seq : BitVec 32) (site : Fin 100) (s s1 : State), s1 = sigArrive s (ctrlPacket site.val (siteHD hd.val) 0x62 seq site.val []) →
    (s.job = none → exec (.jobStopped hd seq site) s = .next s1) ∧
    ∀ j, s.job = some j → (j.stop = none ∨ j.owner ≠ hd.val → exec (.jobStopped hd seq site) s = .next s1) ∧
      ∀ st st', j.stop = some st → j.owner = hd.val →
        st' = { st with awaiting := st.awaiting.filter (fun x => x != site.val && !fencedSite s1 x) } →
        exec (.jobStopped hd seq site) s = .next (if st'.awaiting = [] then stopDone (setJob s1 { j with stop := some st' }) else setJob s1 { j with stop := some st' })) ∧
  (∀ (s : State), (s.job.bind (·.stop) = none → exec .jobStopTimeout s = .next s) ∧
    ∀ st, s.job.bind (·.stop) = some st → exec .jobStopTimeout s = .next (if st.at_ + 25000 ≤ s.ticks then stopDone s else s)) ∧
  (∀ (s u : State) j st status detail drain, s.job = some j → j.stop = some st → st.ending = some (status, detail, drain) →
    u = setJob s { j with status := some (status, detail), decided := st.decided, phase := if drain then .draining else .stopping, stop := none } →
    stopDone s = if drain = false ∧ requestsEnded u = true then endJob u status detail else u) ∧
  (∀ (s : State), (s.job.bind (·.status) = none → exec .jobDrained s = .next s) ∧
    ∀ j status detail, s.job = some j → j.status = some (status, detail) →
      (j.phase = .draining → exec .jobDrained s = .next (if (requestsEnded s && transfersEnded s j) = true then endJob s status detail else s)) ∧
      (j.phase ≠ .draining → exec .jobDrained s = .next (if j.stop = none ∧ requestsEnded s = true then endJob s status detail else s))) ∧
  (∀ (s : State), (s.job = none → exec .runLimitExpiry s = .next s) ∧
    ∀ j, s.job = some j → exec .runLimitExpiry s =
      .next (if j.entry.runLimit ≠ 0 ∧ j.takenAt + 1000 * j.entry.runLimit ≤ s.ticks then beginStop s 5 (some (0x0A, 0, false)) 0 0 else s)) ∧
  (∀ (s s1 : State) j status detail, s.job = some j → s1 = endEntry { releaseShadow s j.owner with job := none, flowKinds := [] } j.ring status detail j.restarts j.entry.tag
      (if j.status.isSome then j.decided else (releaseShadow s j.owner).now) →
    endJob s status detail = match (ringAt s1 j.ring).reach with
      | none => s1
      | some a => abortQueued 4096 (setRing s1 j.ring { ringAt s1 j.ring with reach := none }) j.ring a) ∧
  (∀ (ring : Fin 16) (s : State),
    ((ringAt s ring.val).recs = [] ∨ (ringAt s ring.val).acked = false → exec (.recordWriteAck ring) s = .next s) ∧
    ∀ n bs rest, (ringAt s ring.val).recs = (n, bs) :: rest → (ringAt s ring.val).acked = true → ∃ u,
      u = queueRequest s (ringAt s ring.val).qp {
        psn := 0, ring := ring.val, setup := (ringAt s ring.val).setup, n := n, va := (ringAt s ring.val).recBase + 64 * ((n - 1) % max (ringAt s ring.val).entries 1),
        rkey := (ringAt s ring.val).recKey, data := bs.take 8, seqPart := true, sentAt := 0, tries := 0 } ∧
      exec (.recordWriteAck ring) s = .next (sendBody (setRing u ring.val { ringAt u ring.val with seq := n, recs := rest, acked := false }) ring.val))

/-- Packets that arrive on an external link. A packet of the command's OPC whose VC and LEN agree, on an up link, frees its buffer; FAB_LOAD, FAB_STORE, FAB_ATOMIC and FAB_REDUCE for this module are executed there, RSP is taken at the die it names or passed on to it, and any other module's is routed on; MCAST_STORE holds its buffer until its copies are sent, is copied on over its group and executed by a member; on a link that is not up, with another OPC, or not agreeing, these commands change nothing. FABRIC_DISCARD discards and counts a packet that does not agree on a link that is not down, and does nothing else. A load or store that is fresh and passes the checks is counted and passed on to its memory base die; one that fails a check is answered with that STATUS; a stale one is only counted. A serving stack's base die runs a unit and answers over the path (log entry 111 names how a bad record is answered); a stack that does not serve answers nothing, one of a lost set SET_LOST. An operation that must not run twice goes to the home die in service, and a repeat of a decided one is answered from the dedupe entry. (R238, R240, R241, R242, R244, R246, R247, R250, R255, R256, R266, R268) -/
def Obligations.FabricPackets : Prop :=
  (∀ (l : Fin 16) (p : FabPacket) (s s1 : State), s1 = freeInput { s with sent := s.sent.erase (.fabIn l.val p) } l.val p →
    (linkIsUp s l.val = true → shapeOk p = true →
      (p.opc = 0x01 → exec (.fabLoad l p) s = .next (if isOwn s p.dst.toNat = true then executeMem s1 (l.val / 2) p else routeUni s1 (l.val / 2) (some l.val) p)) ∧
      (p.opc = 0x02 → exec (.fabStore l p) s = .next (if isOwn s p.dst.toNat = true then executeMem s1 (l.val / 2) p else routeUni s1 (l.val / 2) (some l.val) p)) ∧
      (p.opc = 0x03 → exec (.fabAtomic l p) s = .next (if isOwn s p.dst.toNat = true then executeMem s1 (l.val / 2) p else routeUni s1 (l.val / 2) (some l.val) p)) ∧
      (p.opc = 0x04 → exec (.fabReduce l p) s = .next (if isOwn s p.dst.toNat = true then executeMem s1 (l.val / 2) p else routeUni s1 (l.val / 2) (some l.val) p)) ∧
      (p.opc = 0x08 → exec (.rsp l p) s = .next (if isOwn s p.dst.toNat = true then answerHere s1 (l.val / 2) p else routeUni s1 (l.val / 2) (some l.val) p)) ∧
      (p.opc = 0x05 → ∃ u, u = routeMulti (holdMulti { s with sent := s.sent.erase (.fabIn l.val p) } l.val
          (copyCount { s with sent := s.sent.erase (.fabIn l.val p) } (l.val / 2) (some l.val) (p.group.toNat % 256) p) p) (l.val / 2) (some l.val) (p.group.toNat % 256) p ∧
        exec (.mcastStore l p) s = .next (if groupLocal u (p.group.toNat % 256) = true then executeMem u (l.val / 2) p else u))) ∧
    ((linkIsUp s l.val = false ∨ p.opc ≠ 0x01 ∨ shapeOk p = false) → exec (.fabLoad l p) s = .next s) ∧
    ((linkIsUp s l.val = false ∨ p.opc ≠ 0x02 ∨ shapeOk p = false) → exec (.fabStore l p) s = .next s) ∧
    ((linkIsUp s l.val = false ∨ p.opc ≠ 0x03 ∨ shapeOk p = false) → exec (.fabAtomic l p) s = .next s) ∧
    ((linkIsUp s l.val = false ∨ p.opc ≠ 0x04 ∨ shapeOk p = false) → exec (.fabReduce l p) s = .next s) ∧
    ((linkIsUp s l.val = false ∨ p.opc ≠ 0x08 ∨ shapeOk p = false) → exec (.rsp l p) s = .next s) ∧
    ((linkIsUp s l.val = false ∨ p.opc ≠ 0x05 ∨ shapeOk p = false) → exec (.mcastStore l p) s = .next s) ∧
    ((linkAt s l.val).mode ≠ .down → shapeOk p = false → exec (.fabricDiscard l p) s = .next (bump s1 Obj.fabricDiscards)) ∧
    ((linkAt s l.val).mode = .down ∨ shapeOk p = true → exec (.fabricDiscard l p) s = .next s)) ∧
  (∀ (p : FabPacket) u f, (p.origFd.toNat = f → answerHere u f p = takeAnswer u p) ∧ (p.origFd.toNat ≠ f → answerHere u f p = pathSend u (siteFD f) (siteFD p.origFd.toNat) p)) ∧
  (∀ (s : State) f (p : FabPacket), nonIdempotent p.opc.toNat = false →
    (isStale s p = true → executeMem s f p = bump s Obj.fabricStale) ∧
    (∀ c, isStale s p = false → checkReq s p = some c → executeMem s f p = refuseReq s f p c.1 c.2) ∧
    (∀ u, isStale s p = false → checkReq s p = none → u = bump s Obj.fabricServed →
      executeMem s f p = pathSend { u with fab := { u.fab with memWaits := u.fab.memWaits ++ [{ fd := f, packet := p, at_ := s.ticks }] } }
        (siteFD f) (siteMD ((mapAddr s (p.addr.toNat % 2 ^ 44)).getD (0, 0)).1) { p with addr := BitVec.ofNat 56 (p.addr.toNat % 2 ^ 44) })) ∧
  (∀ (s : State) (m : Fin 24) f (p : FabPacket),
    (stackServes s m.val = true → (linesOf (p.addr.toNat % 2 ^ 44) (rangeOf p)).any (fun l => bankHeldAt s m.val (64 * l)) = false →
      serveUnit s m.val f p = unitAnswer (memServe s p).2.2.2 m.val f p (memServe s p).1 (memServe s p).2.1 (memServe s p).2.2.1) ∧
    (setLostNow s (setOf m.val) = true → stackWorks s m.val = true → serveUnit s m.val f p = unitAnswer s m.val f p 5 none (if p.opc = 1 then onesLines (sizeFlits p.w4) else [])) ∧
    (stackServes s m.val = false → stackWorks s m.val = false → serveUnit s m.val f p = s)) ∧
  (∀ (s : State) f (p : FabPacket), nonIdempotent p.opc.toNat = true → tget (fun _ => 0) s.fab.deadShares (homeDie p) ≤ s.ticks →
    (nextUp s (homeDie p) ≠ f → executeMem s f p = pathSend s (siteFD f) (siteFD (nextUp s (homeDie p))) p) ∧
    (∀ e o, isStale s p = false → nextUp s (homeDie p) = f → dedupeOf s p = some e → e.outcome = some o →
      executeMem s f p = sendAnswer (bump s Obj.fabricDedupeHits) f p o.1 (some (cachedResult p o)) []))

/-- Remote requests at their origin, time limits and regions. A fabric die in service takes the first unit of a compute die that has arrived and need not wait, when the injection arbiter has granted it to that die, and frees the grant: with no valid route the unit is answered NO_ROUTE, else it becomes an operation with the lowest free tag, is counted and sent, and throttles the die; ungranted it stays, and with no such unit nothing happens. A window that passes retries the attempt, unless its targets are drained, and after the third ends it unanswered; before that nothing happens. A retry is not sent while the module originates nothing. Dedupe entries live for the lifetime; a memory base die silent for 20 us is answered for; the throttle rises at once and falls a level after 10 us. A fabric die out of service does none of these. REGION is refused whole, changing nothing, or replaces the entry. (R243, R246, R247, R251, R264, R265, R266, R268) -/
def Obligations.FabricOrigin : Prop :=
  (∀ (fd : Fin 8) (cd : Fin 16) (s u1 : State), u1 = inject s fd.val →
    (fdUp s fd.val = false ∨ headUnit s fd.val cd.val = none → exec (.remoteUnit fd cd) s = .next s) ∧
    (∀ u, fdUp s fd.val = true → headUnit s fd.val cd.val = some u → exec (.remoteUnit fd cd) s = .next
      (if (arbAt u1 .fabric (16 + fd.val)).holder = some cd.val then originate (arbRelease u1 .fabric (16 + fd.val)) fd.val u else u1))) ∧
  (∀ (s : State) f (u : RemoteUnit),
    (u.opc ≠ 5 → noRoute s (u.addr / 2 ^ 44) = true → originate s f u = answerRemote (unitStage s u 2) u 11 [] []) ∧
    (u.opc = 5 → s.fab.own = 0xFFFF → originate s f u = answerRemote (unitStage s u 2) u 11 [] []) ∧
    (∀ tag s1, (u.opc = 5 ∧ s.fab.own ≠ 0xFFFF ∨ u.opc ≠ 5 ∧ noRoute s (u.addr / 2 ^ 44) = false) → freeFabTag s f = some tag → s1 = bump (unitStage s u 2) Obj.fabricRequests →
      originate s f u = sendAttempt { s1 with fab := { s1.fab with
        ops := s1.fab.ops ++ [{ fd := f, tag := tag, packet := unitPacket s u tag, first := s1.ticks, attempt := 0, owner := .unit u, members := if u.opc = 5 then groupMembers s1 u.group else 1, done := [], other := none }],
        throttleFree := tset (fun _ => 0) s1.fab.throttleFree f (s1.ticks + throttleTime (tget (fun _ => 0) s.fab.throttle f) (u.data.length + 1)) } }
        f (unitPacket s u tag))) ∧
  (∀ (s : State) (o : FabOp) u status result data, o.owner = .unit u →
    endOp s o status result data = answerRemote { s with fab := { s.fab with ops := s.fab.ops.erase o } } u status result data) ∧
  (∀ (fd : Fin 8) (tag : BitVec 12) (s : State),
    (fdUp s fd.val = false ∨ s.fab.ops.find? (fun o => o.fd == fd.val && o.tag == tag.toNat) = none → exec (.attemptTimeout fd tag) s = .next s) ∧
    ∀ o, fdUp s fd.val = true → s.fab.ops.find? (fun o => o.fd == fd.val && o.tag == tag.toNat) = some o →
      (s.ticks < o.first + (o.attempt + 1) * (o.packet.tmo.toNat * 1000) → exec (.attemptTimeout fd tag) s = .next s) ∧
      (o.first + (o.attempt + 1) * (o.packet.tmo.toNat * 1000) ≤ s.ticks →
        (2 ≤ o.attempt → exec (.attemptTimeout fd tag) s = .next (endUnanswered s o)) ∧
        (∀ o', o.attempt < 2 → o' = { o with attempt := o.attempt + 1, packet := { o.packet with attempt := BitVec.ofNat 2 (o.attempt + 1), sent := s.now } } →
          exec (.attemptTimeout fd tag) s = .next (if opDrained s o = true then s
            else resend { s with fab := { s.fab with ops := s.fab.ops.map (fun x => if x = o then o' else x) } } fd.val o')))) ∧
  (∀ (s : State) f (o : FabOp), (originatesNone s = true → resend s f o = s) ∧
    (originatesNone s = false → o.packet.opc ≠ 5 → noRoute s o.packet.dst.toNat = true → resend s f o = endOp s o 11 [] []) ∧
    (originatesNone s = false → (o.packet.opc = 5 ∨ noRoute s o.packet.dst.toNat = false) → resend s f o =
      (if o.packet.vc = 0 then originateVc0 (bump s Obj.fabricRetries) o.packet else sendAttempt (bump s Obj.fabricRetries) f o.packet))) ∧
  (∀ (s : State), exec .dedupeExpiry s = .next { s with fab := { s.fab with dedupe := s.fab.dedupe.filter (fun e => decide (s.ticks < e.madeAt + lifetime s)) } }) ∧
  (∀ (fd : Fin 8) (s : State),
    (fdUp s fd.val = false ∨ s.fab.memWaits.find? (fun w => w.fd == fd.val && decide (s.ticks ≥ w.at_ + 20000)) = none → exec (.memoryAnswerTimeout fd) s = .next s) ∧
    ∀ w, fdUp s fd.val = true → s.fab.memWaits.find? (fun w => w.fd == fd.val && decide (s.ticks ≥ w.at_ + 20000)) = some w →
      exec (.memoryAnswerTimeout fd) s = .next (if w.packet.opc = 1
        then decide_ { s with fab := { s.fab with memWaits := s.fab.memWaits.erase w } } fd.val w.packet 1 none (onesLines (sizeFlits w.packet.w4))
        else decide_ { s with fab := { s.fab with memWaits := s.fab.memWaits.erase w } } fd.val w.packet 10 none [])) ∧
  (∀ (fd : Fin 8) (s : State), (fdUp s fd.val = false → exec (.throttleReview fd) s = .next s) ∧
    ∀ now lvl, fdUp s fd.val = true → now = fillLevel (egressFill s fd.val) → lvl = tget (fun _ => 0) s.fab.throttle fd.val →
    (lvl ≤ now → exec (.throttleReview fd) s = .next { s with fab := { s.fab with
      throttle := tset (fun _ => 0) s.fab.throttle fd.val now, throttleSince := tset (fun _ => 0) s.fab.throttleSince fd.val s.ticks } }) ∧
    (now < lvl → exec (.throttleReview fd) s = .next (if tget (fun _ => 0) s.fab.throttleSince fd.val + 10000 ≤ s.ticks then { s with fab := { s.fab with
      throttle := tset (fun _ => 0) s.fab.throttle fd.val (lvl - 1), throttleSince := tset (fun _ => 0) s.fab.throttleSince fd.val s.ticks } } else s))) ∧
  (∀ (r : Fin 4096) (bs : List Byte) (s : State) e v, e = regionOfBytes bs →
    v = { s with fab := { s.fab with regions := tset (fun _ => {}) s.fab.regions r.val { cur := e, prev := (tget (fun _ => {}) s.fab.regions r.val).cur, at_ := some s.ticks } } } →
    (regionBytesOk bs = false → exec (.region r bs) s = .next s) ∧
    (regionBytesOk bs = true → e.state ≠ 1 → e.state ≠ 2 → exec (.region r bs) s = .next v) ∧
    (regionBytesOk bs = true → (e.state = 1 ∨ e.state = 2) → exec (.region r bs) s = .next
      (if 21 ≤ e.sizeLog2 ∧ e.sizeLog2 ≤ 41 ∧ e.base % 2 ^ e.sizeLog2 = 0 ∧ inMapped s e.base (2 ^ e.sizeLog2) = true ∧ s.fab.regions.any (fun x => x.1 != r.val && overlaps e x.2.cur) = false
        then v else s)))

/-- External links train, come up, announce and fall. A link that may train starts from DOWN, its rings sent to acquire, and again 4 s later, then each second; one that may not, is up, or is not yet due does nothing. HELLO on a link that may train, with its shape, is taken: in training with ACK from a set, different module it brings the link up with that neighbour and its counts at 0, without ACK or from no such module only its sets are noted; when up, the same neighbour's sets are added and another takes the link down; when down, or not allowed or malformed, nothing changes but the buffer freed of a taken one. Silence of 32 slots or a dark line 32 takes an up link down, and else nothing: its packets are discarded, its named exclusions take effect, the neighbour is noted as vanished, the link counted and 0x30 raised. LINK_EXCLUDE of the far receiver's line takes effect at its frame, of the far sender's line from the first burst of its frame or a later one; LINK_CAL is noted, and ends a running step that gives way to it; TIME records what the far end offers, with offset and delay when its echo is of a TIME this end sent, else the old ones, and the source's own link takes the offset. Packets of these three that do not arrive whole on an up link change nothing. (R235, R236, R237, R271, R273, R311, R349) -/
def Obligations.FabricLinkStates : Prop :=
  (∀ (l : Fin 16) (s : State),
    (linkMay s l.val = false ∨ (linkAt s l.val).mode = .up → exec (.linkTrainingRetry l) s = .next s) ∧
    (linkMay s l.val = true →
      ((linkAt s l.val).mode = .down → exec (.linkTrainingRetry l) s = .next (acquireRings (setLink s l.val { mode := .training, since := s.ticks, retried := (linkAt s l.val).retried }) (linkPort l.val))) ∧
      ((linkAt s l.val).mode = .training → exec (.linkTrainingRetry l) s = .next
        (if (linkAt s l.val).since + (if (linkAt s l.val).retried = true then 1000000000 else 4000000000) ≤ s.ticks
          then setLink (startTraining s l.val) l.val { linkAt (startTraining s l.val) l.val with retried := true } else s)))) ∧
  (∀ (l : Fin 16) (p : FabPacket) (s : State), (p.opc ≠ 0x21 ∨ shapeOk p = false ∨ linkMay s l.val = false → exec (.hello l p) s = .next s) ∧
    ∀ s1 bs old v, linkMay s l.val = true → p.opc = 0x21 → shapeOk p = true →
    s1 = freeInput { s with sent := s.sent.erase (.fabIn l.val p) } l.val p → bs = ((p.data.head?).map (·.data)).getD [] →
    old = (fun (x : BitVec 36) => if (linkAt s l.val).mode = .up then x else 0) →
    v = { linkAt s1 l.val with heard := true, farTx := old (linkAt s1 l.val).farTx ||| BitVec.ofNat 36 (leAt bs 8 8), farRx := old (linkAt s1 l.val).farRx ||| BitVec.ofNat 36 (leAt bs 16 8) } →
    ((linkAt s l.val).mode = .down → exec (.hello l p) s = .next s1) ∧
    ((linkAt s l.val).mode = .training → exec (.hello l p) s = .next (setLink s1 l.val
      (if bitAt (leAt bs 4 1) 0 = true ∧ leAt bs 0 2 < 4096 ∧ leAt bs 0 2 ≠ s.fab.own
        then { v with mode := .up, since := s.ticks, neighbour := some (leAt bs 0 2, leAt bs 2 1, leAt bs 3 1), sent := [], got := [], freed := [], told := [], vc0Out := [] } else v))) ∧
    ((linkAt s l.val).mode = .up → exec (.hello l p) s = .next
      (if (linkAt s l.val).neighbour = some (leAt bs 0 2, leAt bs 2 1, leAt bs 3 1) then setLink s1 l.val v else linkDown s1 l.val))) ∧
  (∀ (l : Fin 16) (dark : Bool) (s : State), exec (.linkSilence l dark) s = .next
    (if (linkAt s l.val).mode = .up ∧ (dark = true ∨ ((linkAt s l.val).predict.map (·.2)).getD (linkAt s l.val).since + 512 ≤ s.ticks) then linkDown s l.val else s)) ∧
  (∀ (s x : State) l v, v = linkAt s l →
    x = List.foldl (fun u p => applyExclude u (linkPort l) (bitAt p.w4.toNat 0) (fld p.w4.toNat 1 6))
      (List.foldl (fun u e => applyExclude u (linkPort l) true e.2.2)
        (List.foldl copySent (setLink (bump s Obj.fabricRouteDiscards v.queue.length) l { mode := .down, since := s.ticks }) v.queue)
        (v.rxChanges.filter (·.2.1)))
      (v.queue.filter (fun p => p.opc == 0x24)) →
    (v.mode = .down → linkDown s l = s) ∧ (v.mode = .training → linkDown s l = x) ∧
    (v.mode = .up → linkDown s l = raise (bump (match v.neighbour with | some n => noteVanished x n.1 | none => x)
      (Obj.linkDowns + 256 * l)) (siteFD (linkFd l)) 0x0C 0x30 4 false (l + ((v.neighbour.map (·.1)).getD 0) * 16))) ∧
  (∀ (l : Fin 16) (p : FabPacket) (s : State),
    (linkIsUp s l.val = false ∨ shapeOk p = false ∨ p.opc ≠ 0x24 → exec (.linkExclude l p) s = .next s) ∧
    (linkIsUp s l.val = false ∨ shapeOk p = false ∨ p.opc ≠ 0x25 → exec (.linkCal l p) s = .next s) ∧
    (linkIsUp s l.val = false ∨ shapeOk p = false ∨ p.opc ≠ 0x20 → ∀ ps, exec (.fabTime l p ps) s = .next s) ∧
    ∀ s1, linkIsUp s l.val = true → shapeOk p = true → s1 = freeInput { s with sent := s.sent.erase (.fabIn l.val p) } l.val p →
    (p.opc = 0x24 → exec (.linkExclude l p) s = .next (if bitAt p.w4.toNat 0 then schedule s1 (BitVec.ofNat 64 (1024 * p.w5.toNat)) (.linkExclude l.val true (fld p.w4.toNat 1 6))
      else addRxChange s1 l.val p.w5.toNat false (fld p.w4.toNat 1 6))) ∧
    (∀ u, p.opc = 0x25 → u = setLink s1 l.val { linkAt s1 l.val with
        calFrames := (linkAt s1 l.val).calFrames.filter (fun e => decide (frameNo s1 < e.2.1 + 1024)) ++ [(stepLine (p.w4.toNat % 64), p.w5.toNat, bitAt p.w4.toNat 6)] } →
      exec (.linkCal l p) s = .next (match s.light.cal.running with
        | some t => if givesWay u l.val = true ∧ linkClash u l.val (!bitAt p.w4.toNat 6) (t.toNat / 1024) = true ∧ (s.light.cal.side = 1) = !bitAt p.w4.toNat 6
            then endStepAt u (linkPort l.val) (!bitAt p.w4.toNat 6) else u
        | none => u)) ∧
    (∀ (ps : Fin 1000) bs e th dl u, p.opc = 0x20 → bs = ((p.data.head?).map (·.data)).getD [] → e = (linkAt s1 l.val).txs.any (fun t => t.toNat == leAt bs 8 8) →
      th = (if e = true then some ((((leAt bs 16 8 * 1000 + leAt bs 24 2 : Int) - leAt bs 8 8 * 1000) + ((leAt bs 0 8 : Int) * 1000 - (s.now.toNat * 1000 + ps.val)) - linkAsym s l.val) / 2)
        else (tfind s.mt.offers l.val).bind (·.theta)) →
      dl = (if e = true then some ((((s.now.toNat * 1000 + ps.val : Int) - leAt bs 8 8 * 1000) - ((leAt bs 0 8 : Int) * 1000 - (leAt bs 16 8 * 1000 + leAt bs 24 2))) / 2)
        else (tfind s.mt.offers l.val).bind (·.delay)) →
      u = setMt (setLink s1 l.val { linkAt s1 l.val with lastTime := some (BitVec.ofNat 64 (leAt bs 0 8), s.now, ps.val) })
        (fun m => { m with offers := tput m.offers l.val {
          cls := leAt bs 26 1, hops := leAt bs 27 1, root := leAt bs 28 2 % 4096, state := leAt bs 30 1,
          theta := th, delay := dl, at_ := s.ticks } }) →
      exec (.fabTime l p ps) s = .next (if s.mt.source.kind = 3 ∧ s.mt.source.link = l.val
        then setMt u (fun m => { m with offset := th.getD 0, known := th.isSome }) else u)))

/-- Routing sets, drains and leaving the fabric. ROUTE_SHADOW replaces the shadow by a set that is accepted and nothing else; ROUTE_SWAP of 1 starts a drain of every module and group whose entries differ, which keeps the shadow it will switch to, and any other value, or 1 while one runs, changes nothing. 195 us after it started, and only then and once, the packets it queued are discarded and the switch is named for a boundary after 1,024 ns. LEAVE on an up link starts a drain for its link, or joins it to the one that runs; DRAINED is noted of a module that leaves; neither does anything when it does not arrive whole. FABRIC_LEAVE of 1 sends LEAVE on every up link, once; when all have answered, or after 250 us, every link goes dark and the module has left, at once when its queues are empty, and else 20 us after the first LEAVE_TIMEOUT that found them so (log entry 56). (R257, R271, R272, R273) -/
def Obligations.FabricRouting : Prop :=
  (∀ (bs : List Byte) (s : State), exec (.routeShadow bs) s = .next (if routeSetOk s bs = true then { s with fab := { s.fab with shadow := routeEntries bs } } else s)) ∧
  (∀ (s : State) hit, s.fab.drain = none → hit = (fun p : FabPacket => if isMulti p = true then (((routeDiff s).filter (4096 ≤ ·)).map (· - 4096)).contains (multiGroup s p) else ((routeDiff s).filter (· < 4096)).contains p.dst.toNat) →
    exec (.routeSwap 1) s = .next { s with fab := { s.fab with drain := some {
      at_ := s.ticks, modules := (routeDiff s).filter (· < 4096), groups := ((routeDiff s).filter (4096 ≤ ·)).map (· - 4096), leavers := [],
      queued := s.fab.links.flatMap (fun e => e.2.queue.filter hit), flushed := false, shadow := s.fab.shadow } } }) ∧
  (∀ (v : BitVec 8) (s : State), v ≠ 1 ∨ s.fab.drain.isSome = true → exec (.routeSwap v) s = .next s) ∧
  (∀ (s : State), (s.fab.drain = none → exec .drainFlushEnd s = .next s) ∧
    ∀ d, s.fab.drain = some d → (d.flushed = true ∨ s.ticks < d.at_ + 195000 → exec .drainFlushEnd s = .next s) ∧
    (d.flushed = false → d.at_ + 195000 ≤ s.ticks → ∃ u, u = List.foldl (fun u l =>
      bump (List.foldl copySent (setLink u l { linkAt u l with queue := (linkAt u l).queue.filter (fun p => !d.queued.contains p) }) ((linkAt u l).queue.filter (fun p => d.queued.contains p))) Obj.fabricDrainDiscards
        ((linkAt u l).queue.length - ((linkAt u l).queue.filter (fun p => !d.queued.contains p)).length)) s (s.fab.links.map (·.1)) ∧
    exec .drainFlushEnd s = .next (schedule { u with fab := { u.fab with drain := some { d with flushed := true } } } (boundaryAfter u 1024) .routeSwitch))) ∧
  (∀ (l : Fin 16) (p : FabPacket) (s : State),
    (linkIsUp s l.val = false ∨ shapeOk p = false ∨ p.opc ≠ 0x22 → exec (.leave l p) s = .next s) ∧
    (linkIsUp s l.val = false ∨ shapeOk p = false ∨ p.opc ≠ 0x23 → exec (.drained l p) s = .next s) ∧
    ∀ s1, linkIsUp s l.val = true → shapeOk p = true → s1 = freeInput { s with sent := s.sent.erase (.fabIn l.val p) } l.val p →
    (∀ d, p.opc = 0x22 → s.fab.drain = some d → exec (.leave l p) s = .next { s1 with fab := { s1.fab with drain := some { d with leavers := addPos d.leavers l.val } } }) ∧
    (p.opc = 0x22 → s.fab.drain = none → ∃ d, exec (.leave l p) s = .next { s1 with fab := { s1.fab with drain := some d } } ∧
      d.leavers = [l.val] ∧ d.at_ = s.ticks ∧ d.flushed = false ∧ d.shadow = s.fab.shadow ∧ d.modules = (routeDiff s).filter (· < 4096) ∧ d.groups = ((routeDiff s).filter (4096 ≤ ·)).map (· - 4096)) ∧
    (p.opc = 0x23 → exec (.drained l p) s = .next { s1 with fab := { s1.fab with drainedFrom := if s.fab.leaving.isSome then addPos s1.fab.drainedFrom l.val else s1.fab.drainedFrom } })) ∧
  (∀ (v : BitVec 8) (s : State), v ≠ 1 ∨ s.fab.leaving ≠ none ∨ s.fab.left = true → exec (.fabricLeave v) s = .next s) ∧
  (∀ (s : State), s.fab.leaving = none → s.fab.left = false → ∃ u, u = List.foldl (fun u l => queueVc3 u l (vc3Packet u 0x22 [] 0 0)) s ((List.range 16).filter (linkIsUp s)) ∧
    exec (.fabricLeave 1) s = .next { u with fab := { u.fab with leaving := some u.ticks, drainedFrom := [] } }) ∧
  (∀ (s : State) ups, ups = (List.range 16).filter (linkIsUp s) → (s.fab.leaving = none → exec .leaveTimeout s = .next s) ∧
    ∀ t, s.fab.leaving = some t →
      (s.ticks < t + 250000 → ups.all (fun l => s.fab.drainedFrom.contains l) = false → exec .leaveTimeout s = .next s) ∧
      (t + 250000 ≤ s.ticks ∨ ups.all (fun l => s.fab.drainedFrom.contains l) = true →
        (ups.all (fun l => (linkAt s l).queue.isEmpty && (linkAt s l).out.isEmpty) = true → exec .leaveTimeout s = .next (goDark s)) ∧
        (ups.all (fun l => (linkAt s l).queue.isEmpty && (linkAt s l).out.isEmpty) = false → exec .leaveTimeout s = .next (match s.fab.leaveEnd with
          | none => { s with fab := { s.fab with leaveEnd := some s.ticks } }
          | some e => if s.ticks < e + 20000 then s else goDark s)))) ∧
  (∀ (s u : State), u = List.foldl (fun u l => linkDown u l) s (List.range 16) → goDark s = { u with fab := { u.fab with leaving := none, left := true, leaveEnd := none } })

/-- Barriers and flags between modules. At the home, with its sync die up, the arrival that completes the running epoch releases it over the group, an earlier one of this epoch or the next is kept, one that lies too far ahead raises 0x13, and one of an epoch already released is answered with its release. An arrival at another module than its home, or with the sync die down, changes nothing; one for another module is routed on. A release for one module, or over a group this module belongs to, gives its tiles the next epoch; a notify that is newer gives them the value; both are copied on over the group. FLAG_STORE, FLAG_ADD and FLAG_READ for this module run like requests, when its sync die is up, and answer the old value; for another they are routed on; the store and the add change the flag, and notify it. Packets of another OPC, malformed or on a link that is not up change nothing. A barrier with no release in time arrives again, unless its arrival still waits, nothing is originated or the sync die is down, and else does nothing. The table writes set every entry, or change nothing when refused; the next fabric die takes over a lost sync die's part, and none when it is up or no die is. (R240, R250, R256, R259, R260, R262, R263, R266, R272, R326, R349) -/
def Obligations.FabricBarriersAndFlags : Prop :=
  (∀ (l : Fin 16) (p : FabPacket) (s : State), (linkIsUp s l.val = false ∨ shapeOk p = false ∨ p.opc ≠ 0x10 → exec (.barArrive l p) s = .next s) ∧
    ∀ s1, linkIsUp s l.val = true → shapeOk p = true → p.opc = 0x10 → s1 = freeInput { s with sent := s.sent.erase (.fabIn l.val p) } l.val p →
    exec (.barArrive l p) s = .next (if isOwn s p.dst.toNat = true then doBarArrive s1 p.src.toNat p.group.toNat (p.w5.toNat % 2 ^ 32) else routeUni s1 (l.val / 2) (some l.val) p)) ∧
  (∀ (s : State) src g e b m, b = barAt s g → m = addPos (tget (fun _ => []) b.maps e) src → e < 2 ^ 32 → b.homeEpoch < 2 ^ 32 →
    (barHome b ≠ s.fab.own ∨ syncUp s = false → doBarArrive s src g e = s) ∧
    (barHome b = s.fab.own → syncUp s = true →
      (e = b.homeEpoch → barExpect b ≤ m.length → doBarArrive s src g e = sendRelease (setBar s g { b with maps := tdel b.maps e, homeEpoch := (e + 1) % 2 ^ 32 }) g e) ∧
      (e = b.homeEpoch → m.length < barExpect b → doBarArrive s src g e = setBar s g { b with maps := tset (fun _ => []) b.maps e m }) ∧
      ((e + 2 ^ 32 - b.homeEpoch) % 2 ^ 32 = 1 → doBarArrive s src g e = setBar s g { b with maps := tset (fun _ => []) b.maps e m }) ∧
      (2 ≤ (e + 2 ^ 32 - b.homeEpoch) % 2 ^ 32 → (e + 2 ^ 32 - b.homeEpoch) % 2 ^ 32 < 2 ^ 31 →
        doBarArrive s src g e = raise s (siteFD s.fab.syncDie) 0x0D 0x13 1 false (g % 1024 + e % 2 ^ 30 * 1024)) ∧
      (2 ^ 31 ≤ (e + 2 ^ 32 - b.homeEpoch) % 2 ^ 32 → doBarArrive s src g e = if isOwn s src = true then doReleased s g e else originateVc0 s (releasePacket s g e src)))) ∧
  (∀ (s : State) g e, (barLocal (barAt s g) = 0 ∨ syncUp s = false ∨ (barAt s g).epoch ≠ e → doReleased s g e = s) ∧
    (barLocal (barAt s g) ≠ 0 → syncUp s = true → (barAt s g).epoch = e → doReleased s g e =
      syncUpdate (setBar s g { barAt s g with epoch := (e + 1) % 2 ^ 32, arrived := 0, sentAt := none }) 0 g (BitVec.ofNat 64 ((e + 1) % 2 ^ 32)))) ∧
  (∀ (s : State) f c v, doNotified s f c v = if 1 ≤ (c + 2 ^ 32 - (fabFlagAt s f).copyCount) % 2 ^ 32 ∧ (c + 2 ^ 32 - (fabFlagAt s f).copyCount) % 2 ^ 32 < 2 ^ 31 ∧ syncUp s = true
    then syncUpdate (setFabFlag s f { fabFlagAt s f with copy := v, copyCount := c }) 1 f v else s) ∧
  (∀ (l : Fin 16) (p : FabPacket) (s : State),
    (linkIsUp s l.val = false ∨ shapeOk p = false ∨ p.opc ≠ 0x11 → exec (.barRelease l p) s = .next s) ∧
    (linkIsUp s l.val = false ∨ shapeOk p = false ∨ p.opc ≠ 0x15 → exec (.fabFlagNotify l p) s = .next s) ∧
    (linkIsUp s l.val = false ∨ shapeOk p = false ∨ p.opc ≠ 0x12 → exec (.flagStore l p) s = .next s) ∧
    (linkIsUp s l.val = false ∨ shapeOk p = false ∨ p.opc ≠ 0x13 → exec (.flagAdd l p) s = .next s) ∧
    (linkIsUp s l.val = false ∨ shapeOk p = false ∨ p.opc ≠ 0x14 → exec (.flagRead l p) s = .next s) ∧
    ∀ s0 s1, linkIsUp s l.val = true → shapeOk p = true → s0 = { s with sent := s.sent.erase (.fabIn l.val p) } → s1 = freeInput s0 l.val p →
    (p.opc = 0x11 → p.dst ≠ p.src → exec (.barRelease l p) s = .next (if isOwn s p.dst.toNat = true then doReleased s1 p.group.toNat (p.w5.toNat % 2 ^ 32)
      else routeUni s1 (l.val / 2) (some l.val) p)) ∧
    (∀ g u, p.opc = 0x11 → p.dst = p.src → g = barRelease (barAt s p.group.toNat) → u = routeMulti (holdMulti s0 l.val (copyCount s (l.val / 2) (some l.val) g p) p) (l.val / 2) (some l.val) g p →
      exec (.barRelease l p) s = .next (if groupLocal u g = true then doReleased u p.group.toNat (p.w5.toNat % 2 ^ 32) else u)) ∧
    (∀ g u, p.opc = 0x15 → g = p.group.toNat % 256 → u = routeMulti (holdMulti s0 l.val (copyCount s (l.val / 2) (some l.val) g p) p) (l.val / 2) (some l.val) g p →
      exec (.fabFlagNotify l p) s = .next (if groupLocal u g = true then doNotified u p.flag.toNat (p.w4.toNat % 2 ^ 32) p.w5 else u)) ∧
    (∀ r, r = (if isOwn s p.dst.toNat = true then (if syncUp s = true then executeReq s1 (l.val / 2) p (fun u f => runFlag u f p) else s1) else routeUni s1 (l.val / 2) (some l.val) p) →
      (p.opc = 0x12 → exec (.flagStore l p) s = .next r) ∧ (p.opc = 0x13 → exec (.flagAdd l p) s = .next r) ∧ (p.opc = 0x14 → exec (.flagRead l p) s = .next r))) ∧
  (∀ (s : State) f (p : FabPacket) old, old = (fabFlagAt s p.flag.toNat).value →
    (p.opc = 0x12 → runFlag s f p = decide_ (flagChanged s p.flag.toNat p.w5) f p 0 (some (resultBytes 0 (fabRecord p) old)) []) ∧
    (p.opc = 0x13 → runFlag s f p = decide_ (flagChanged s p.flag.toNat (old + p.w5)) f p 0 (some (resultBytes 0 (fabRecord p) old)) []) ∧
    (p.opc = 0x14 → runFlag s f p = decide_ s f p 0 (some (resultBytes 0 (fabRecord p) old)) [])) ∧
  (∀ (g : Fin 1024) (s : State), ((barAt s g.val).sentAt = none → exec (.barrierResend g) s = .next s) ∧
    ∀ t, (barAt s g.val).sentAt = some t → exec (.barrierResend g) s = .next
      (if t + fabricT s ≤ s.ticks ∧ syncUp s = true ∧ originatesNone s = false ∧ s.fab.paced.any (fun e => e.2.opc == 0x10 && e.2.group.toNat == g.val) = false then sendBarArrive s g.val else s)) ∧
  (∀ (bs : List Byte) (s : State), exec (.barrierTable bs) s = .next (if bs.length = 8192 ∧ (List.range 1024).all (fun g => barEntryOk (leAt bs (8 * g) 8)) = true
    then List.foldl (fun u n => setDie u n { dieAt u n with fabEpoch := [] })
      (List.foldl (fun u g => setBar u g { entry := BitVec.ofNat 64 (leAt bs (8 * g) 8) }) s (List.range 1024)) (List.range 16) else s)) ∧
  (∀ (bs : List Byte) (s : State), exec (.flagTable bs) s = .next (if bs.length = 65536 ∧ (List.range 4096).all (fun f => flagEntryOk (slice bs (16 * f) 16)) = true
    then List.foldl (fun u f => setFabFlag u f { fabFlagAt u f with
        home := leAt (slice bs (16 * f) 16) 0 2, notify := leAt (slice bs (16 * f) 16) 2 1, notifyOn := leAt (slice bs (16 * f) 16) 3 1 == 1,
        initial := BitVec.ofNat 64 (leAt (slice bs (16 * f) 16) 8 8), value := BitVec.ofNat 64 (leAt (slice bs (16 * f) 16) 8 8) }) s (List.range 4096) else s)) ∧
  (∀ (s : State), ((List.range 8).find? (fdUp s) = none ∨ syncUp s = true → exec .syncDieTakeover s = .next s) ∧
    ∀ n, (List.range 8).find? (fdUp s) = some n → syncUp s = false → exec .syncDieTakeover s = .next (raise { s with fab := { s.fab with
      syncDie := n, syncLost := none, bars := s.fab.bars.map (fun e => (e.1, { e.2 with maps := [], homeEpoch := 0 })),
      flags := s.fab.flags.map (fun e => (e.1, { e.2 with value := e.2.initial })) } } (siteFD n) 0x0D 0x33 4 false n))

/-- Tiles, the sync die and its announcements. Every command of the FAB_SYNC exchange completes. A live tile's write of FAB_ARRIVE sends one arrival for the epoch it sees, and nothing when it has sent that one; its write of FAB_FLAG_VALUE or FAB_FLAG_ADD sends the flag it selected, to the sync die; a tile that is not live sends nothing. At a sync die that hears the compute die the last local arrival of the epoch has BAR_ARRIVE sent, an earlier one is counted, and one of another epoch, of a barrier with no local tile, or after its BAR_ARRIVE went, only arrives; a flag operation waits to leave in its turn; a sync die that does not hear takes nothing. A packet of the sync die leaves 64 ns after the one before it at the soonest and when the injection arbiter grants it: a flag operation then takes the lowest free tag, is counted and kept until its answer; without a route it ends and nothing is sent. The sync die's announcements set the epoch or the flag's copy at every compute die that hears them. (R242, R250, R251, R259, R260, R261, R262, R263, R264, R265) -/
def Obligations.FabricSyncDie : Prop :=
  (∀ (cd : Fin 16) (t : Fin 64) (v : Word) (s : State),
    (tileLive s (tkey cd t) = false → exec (.fabArrive cd t v) s = .next s ∧ exec (.fabFlagValue cd t v) s = .next s ∧ exec (.fabFlagAdd cd t v) s = .next s) ∧
    (tileLive s (tkey cd t) = true →
      exec (.fabArrive cd t v) s = .next (if tfind (tileAt s (tkey cd t)).fabArr (v.toNat % 1024) = some (dieEpoch s (tkey cd t / 64) (v.toNat % 1024)) then s
        else ctrlSendFrom (updTile s (tkey cd t) (fun y => { y with fabArr := tput y.fabArr (v.toNat % 1024) (dieEpoch s (tkey cd t / 64) (v.toNat % 1024)) }))
          (siteCD (tkey cd t / 64)) (siteFD s.fab.syncDie) 0x70 (0 + 4 * (v.toNat % 1024)) [BitVec.ofNat 64 (dieEpoch s (tkey cd t / 64) (v.toNat % 1024))]) ∧
      exec (.fabFlagValue cd t v) s = .next (ctrlSendFrom s (siteCD (tkey cd t / 64)) (siteFD s.fab.syncDie) 0x70 (1 + 4 * ((tileAt s (tkey cd t)).fabFsel.toNat % 4096)) [v]) ∧
      exec (.fabFlagAdd cd t v) s = .next (ctrlSendFrom s (siteCD (tkey cd t / 64)) (siteFD s.fab.syncDie) 0x70 (2 + 4 * ((tileAt s (tkey cd t)).fabFsel.toNat % 4096)) [v]))) ∧
  (∀ (cd : Fin 16) (seq : BitVec 32) (g : BitVec 12) (e : Word) (s : State), (syncHears s cd = false → exec (.fabSyncArrive cd seq g e) s = .next s) ∧
    ∀ u b, syncHears s cd = true → u = sigArrive s (fabSyncPacket s cd seq 0 g.toNat e) → b = barAt s (g.toNat % 1024) →
    (barLocal b = 0 ∨ e.toNat ≠ b.epoch ∨ b.sentAt ≠ none → exec (.fabSyncArrive cd seq g e) s = .next u) ∧
    (barLocal b ≠ 0 → e.toNat = b.epoch → b.sentAt = none →
      (b.arrived + 1 < barLocal b → exec (.fabSyncArrive cd seq g e) s = .next (setBar u (g.toNat % 1024) { b with arrived := b.arrived + 1 })) ∧
      (barLocal b ≤ b.arrived + 1 → exec (.fabSyncArrive cd seq g e) s = .next (sendBarArrive (setBar u (g.toNat % 1024) { b with arrived := b.arrived + 1 }) (g.toNat % 1024))))) ∧
  (∀ (cd : Fin 16) (seq : BitVec 32) (f : BitVec 12) (v : Word) (s : State),
    (syncHears s cd = false → exec (.fabSyncFlagStore cd seq f v) s = .next s ∧ exec (.fabSyncFlagAdd cd seq f v) s = .next s) ∧
    (syncHears s cd = true →
      exec (.fabSyncFlagStore cd seq f v) s = .next (originateVc0 (sigArrive s (fabSyncPacket s cd seq 1 f.toNat v)) (flagOpPacket (sigArrive s (fabSyncPacket s cd seq 1 f.toNat v)) 0x12 f.toNat v)) ∧
      exec (.fabSyncFlagAdd cd seq f v) s = .next (originateVc0 (sigArrive s (fabSyncPacket s cd seq 2 f.toNat v)) (flagOpPacket (sigArrive s (fabSyncPacket s cd seq 2 f.toNat v)) 0x13 f.toNat v)))) ∧
  (∀ (s : State) p, (originateVc0 s p).fab.paced = s.fab.paced ++ [(s.ticks, p)] ∧ (originateVc0 s p).fab.ops = s.fab.ops ∧ (originateVc0 s p).fab.links = s.fab.links) ∧
  (∀ (s u : State) f, f = s.fab.syncDie → u = inject s f →
    (∀ t, tfind s.fab.lastVc0 f = some t → s.ticks < t + 64 → releasePaced s = s) ∧
    (∀ e, nextVc0 s = some e → releasePaced s = if (arbAt u .fabric (16 + f)).holder = some 18
      then sendVc0 { arbRelease u .fabric (16 + f) with fab := { (arbRelease u .fabric (16 + f)).fab with
        paced := (arbRelease u .fabric (16 + f)).fab.paced.erase e, lastVc0 := tput (arbRelease u .fabric (16 + f)).fab.lastVc0 f (arbRelease u .fabric (16 + f)).ticks } } e.2
      else u)) ∧
  (∀ (s : State) (p : FabPacket), p.opc = 0x12 ∨ p.opc = 0x13 → p.attempt = 0 →
    (noRoute s p.dst.toNat = true → sendVc0 s p = s) ∧
    (∀ tag q u, noRoute s p.dst.toNat = false → freeFabTag s s.fab.syncDie = some tag → u = bump s Obj.fabricRequests →
      q = { p with origFd := BitVec.ofNat 3 s.fab.syncDie, tag := BitVec.ofNat 12 tag, sent := s.now, w4 := BitVec.ofNat 64 (s.now.toNat % 2 ^ 32 * 2 ^ 32) } →
      sendVc0 s p = launchVc0 { u with fab := { u.fab with ops := u.fab.ops ++
        [{ fd := s.fab.syncDie, tag := tag, packet := q, first := s.ticks, attempt := 0, owner := .sync p.flag.toNat, members := 1, done := [], other := none }] } } s.fab.syncDie q)) ∧
  (∀ (fd : Fin 8) (seq : BitVec 32) (n : BitVec 12) (v : Word) (s : State),
    exec (.fabSyncRelease fd seq n v) s = .next (List.foldl (fun u d => setDie u d { dieAt u d with fabEpoch := tset (fun _ => 0) (dieAt u d).fabEpoch n.toNat (v.toNat % 2 ^ 32) })
      (sigArrive s (updatePacket fd seq 0 n.toNat v)) (hearing s fd))) ∧
  (∀ (fd : Fin 8) (seq : BitVec 32) (n : BitVec 12) (v : Word) (s : State),
    exec (.fabSyncFlag fd seq n v) s = .next (List.foldl (fun u d => setDie u d { dieAt u d with fabCopy := tset (fun _ => 0) (dieAt u d).fabCopy n.toNat v })
      (sigArrive s (updatePacket fd seq 1 n.toNat v)) (hearing s fd)))

/-- Requests of a host on a queue pair. On a ready pair a marked packet is answered with a CNP first. A packet the pair does not take (not ready, a bad frame, no room in the buffer for its data) changes nothing more. A duplicate WRITE or SEND is acknowledged again, a duplicate atomic answered from the replay if it is there, a duplicate READ read again; a packet ahead gets a sequence NAK in its place, once. An expected WRITE whose window and lengths are right is taken and advances the pair, one of 8 bytes on window 0 is a doorbell write; outside its window, or its permission, it is refused with a counted Access NAK, with wrong lengths, or a middle part without a message, with NAK Invalid. READ alike, up to 16 outstanding; a SEND of 64 bytes to a ring is taken, any other NAK Invalid; FETCH_ADD and CMP_SWAP of an aligned word in a window are taken. An invalid request that has an answer is refused with its NAK and else ignored. A taken request whose units are all answered ends: a READ that fits one packet with its bytes, an atomic with the old value, a SEND by advancing TAIL and an acknowledgement; a full ring answers RNR. With the oldest request's units unanswered for 20 us the pair answers NAK Remote Operational, what it was to write undefined from then on; else the timeout does nothing. That the 17th outstanding READ or atomic is refused is the model's choice (log entry 112). (R278, R280, R281, R282, R283, R284, R285, R286, R289) -/
def Obligations.HostRequests : Prop :=
  (∀ (f : HostFrame) (q : Fin 4096) (p : WritePkt) (ce : Bool) (s s1 : State), s1 = congest s q.val (ce && qpReady s f q.val) →
    (qpReady s1 f q.val = false ∨ hostTakes s1 f p.data.length = false → exec (.rdmaWrite f q p ce) s = .next s1) ∧
    ∀ v n, qpReady s1 f q.val = true → hostTakes s1 f p.data.length = true → v = qpAt s1 q.val → n = p.data.length →
    (psnPlace v p.psn = .lt → exec (.rdmaWrite f q p ce) s = .next (answer s1 q.val .ack (donePsn v) [])) ∧
    (psnPlace v p.psn = .gt → exec (.rdmaWrite f q p ce) s = .next (outOfOrder s1 q.val)) ∧
    (p.psn = v.ePsn → p.first = true →
      (winOf s1 p.rkey = none → exec (.rdmaWrite f q p ce) s = .next (refuse s1 q.val .nakAccess true p.psn)) ∧
      (∀ e, winOf s1 p.rkey = some (0, e) → exec (.rdmaWrite f q p ce) s = .next (if 65536 < p.va.toNat + p.len.toNat then refuse s1 q.val .nakAccess true p.psn
        else if p.last = true ∧ p.len = 8 ∧ n = 8 ∧ p.va.toNat % 8 = 0
          then takeReq (advance s1 q.val 1) q.val { id := 0, op := .bell, psn := p.psn, addr := p.va.toNat, len := 8, data := p.data }
          else refuse s1 q.val .nakInvalid false p.psn)) ∧
      (∀ w e, winOf s1 p.rkey = some (w, e) → w ≠ 0 → exec (.rdmaWrite f q p ce) s = .next (if winCovers e p.va.toNat p.len.toNat 1 = false then refuse s1 q.val .nakAccess true p.psn
        else if p.len.toNat > 2 ^ 31 ∨ (p.last = true ∧ n ≠ p.len.toNat) ∨ (p.last = false ∧ (n ≠ mtuBytes v ∨ p.len.toNat ≤ mtuBytes v)) ∨ n > mtuBytes v
          then refuse s1 q.val .nakInvalid false p.psn else writePart s1 q.val p p.va.toNat p.len.toNat p.rkey))) ∧
    (p.psn = v.ePsn → p.first = false →
      (v.msg = none → exec (.rdmaWrite f q p ce) s = .next (refuse s1 q.val .nakInvalid false p.psn)) ∧
      (∀ va left key, v.msg = some (va, left, key) → exec (.rdmaWrite f q p ce) s = .next (if (p.last = true ∧ n ≠ left) ∨ (p.last = false ∧ (n ≠ mtuBytes v ∨ left ≤ mtuBytes v)) ∨ n > mtuBytes v
        then refuse s1 q.val .nakInvalid false p.psn else writePart s1 q.val p va left key)))) ∧
  (∀ (f : HostFrame) (q : Fin 4096) (psn : BitVec 24) (va : Word) (rkey len : BitVec 32) (ce : Bool) (s s1 : State), s1 = congest s q.val (ce && qpReady s f q.val) →
    (qpReady s1 f q.val = false → exec (.rdmaRead f q psn va rkey len ce) s = .next s1) ∧
    ∀ v u, qpReady s1 f q.val = true → v = qpAt s1 q.val → u = (if psnPlace v psn = .eq then advance s1 q.val (max 1 (cdiv len.toNat (mtuBytes v))) else s1) →
    (psnPlace v psn = .gt → exec (.rdmaRead f q psn va rkey len ce) s = .next (outOfOrder s1 q.val)) ∧
    (psnPlace v psn ≠ .gt →
      (winOf s1 rkey = none → exec (.rdmaRead f q psn va rkey len ce) s = .next (refuse s1 q.val .nakAccess true psn)) ∧
      (∀ e, winOf s1 rkey = some (0, e) → exec (.rdmaRead f q psn va rkey len ce) s = .next (if 65536 < va.toNat + len.toNat then refuse s1 q.val .nakAccess true psn
        else if len.toNat = 8 ∧ va.toNat % 8 = 0 then takeReq u q.val { id := 0, op := .bell, psn := psn, addr := va.toNat, len := 8 } else refuse s1 q.val .nakInvalid false psn)) ∧
      (∀ w e, winOf s1 rkey = some (w, e) → w ≠ 0 → exec (.rdmaRead f q psn va rkey len ce) s = .next (if winCovers e va.toNat len.toNat 0 = false then refuse s1 q.val .nakAccess true psn
        else if len.toNat > 2 ^ 31 ∨ 16 ≤ outstanding v .read then refuse s1 q.val .nakInvalid false psn
          else takeReq u q.val { id := 0, op := .read, psn := psn, addr := va.toNat, len := len.toNat })))) ∧
  (∀ (f : HostFrame) (q : Fin 4096) (psn : BitVec 24) (data : List Byte) (ce : Bool) (s s1 : State), s1 = congest s q.val (ce && qpReady s f q.val) →
    (qpReady s1 f q.val = false ∨ hostTakes s1 f data.length = false → exec (.send f q psn data ce) s = .next s1) ∧
    ∀ v, qpReady s1 f q.val = true → hostTakes s1 f data.length = true → v = qpAt s1 q.val →
    (psnPlace v psn = .lt → exec (.send f q psn data ce) s = .next (answer s1 q.val .ack (donePsn v) [])) ∧
    (psnPlace v psn = .gt → exec (.send f q psn data ce) s = .next (outOfOrder s1 q.val)) ∧
    (psn = v.ePsn → exec (.send f q psn data ce) s = .next (if data.length ≠ 64 ∨ v.ring > 15 then refuse s1 q.val .nakInvalid false psn
      else takeReq (hostFill (advance s1 q.val 1) f.port.val 64) q.val { id := 0, op := .entry, psn := psn, len := 64, data := data }))) ∧
  (∀ (f : HostFrame) (q : Fin 4096) (psn : BitVec 24) (va : Word) (rkey : BitVec 32) (x y : Word) (ce : Bool) (s s1 : State) c op o k, s1 = congest s q.val (ce && qpReady s f q.val) →
    (c, op, o, k) ∈ [(Instr.fetchAdd f q psn va rkey x ce, 1, x, 0), (.cmpSwap f q psn va rkey x y ce, 3, y, x)] →
    (qpReady s1 f q.val = false ∨ hostTakes s1 f 8 = false → exec c s = .next s1) ∧
    ∀ v, qpReady s1 f q.val = true → hostTakes s1 f 8 = true → v = qpAt s1 q.val →
    (psnPlace v psn = .gt → exec c s = .next (outOfOrder s1 q.val)) ∧
    (psnPlace v psn = .lt → exec c s = .next (match v.replay.find? (fun r => r.1 == psn.toNat) with | some r => answer s1 q.val .atomicAck psn (toBe 8 r.2.toNat) | none => s1)) ∧
    (psn = v.ePsn →
      (va.toNat % 8 ≠ 0 → exec c s = .next (refuse s1 q.val .nakInvalid true psn)) ∧
      (va.toNat % 8 = 0 → winOf s1 rkey = none → exec c s = .next (refuse s1 q.val .nakAccess true psn)) ∧
      (∀ e, va.toNat % 8 = 0 → winOf s1 rkey = some (0, e) → exec c s = .next (if 65536 < va.toNat + 8 then refuse s1 q.val .nakAccess true psn else refuse s1 q.val .nakInvalid false psn)) ∧
      (∀ w e, va.toNat % 8 = 0 → winOf s1 rkey = some (w, e) → w ≠ 0 → exec c s = .next (if winCovers e va.toNat 8 2 = false then refuse s1 q.val .nakAccess true psn
        else if 16 ≤ outstanding v .atomic then refuse s1 q.val .nakInvalid false psn
          else takeReq (hostFill (advance s1 q.val 1) f.port.val 8) q.val { id := 0, op := .atomic, psn := psn, addr := va.toNat, len := 8, code := op, operand := o, compare := k })))) ∧
  (∀ (f : HostFrame) (q : Fin 4096) (psn : BitVec 24) (a w : Bool) (s : State),
    exec (.invalidRequest f q psn a w) s = .next (if qpReady s f q.val = true ∧ a = true then refuse s q.val .nakInvalid w psn else s)) ∧
  (∀ (s : State) q r v, v = qpAt s q → r.got.any (fun e => e.2.status != 0) = false →
    (r.op = .read → r.len ≤ mtuBytes v → finishHost s q r = endReq (answer s q .readResponse r.psn (answeredBytes v r)) q r.id) ∧
    (∀ old u, r.op = .atomic → old = (r.got.head?.map (fun e => e.2.w5)).getD 0 → u = endReq s q r.id →
      finishHost s q r = answer (setQp u q { qpAt u q with replay := ((r.psn.toNat, old) :: (qpAt u q).replay).take 16 }) q .atomicAck r.psn (toBe 8 old.toNat)) ∧
    (∀ u, r.op = .entry → u = endReq s q r.id → finishHost s q r = answer (setRing u v.ring { ringAt u v.ring with tail := (ringAt u v.ring).tail + 1 }) q .ack r.psn []) ∧
    (r.op = .write → finishHost s q r = answer (endReq s q r.id) q .ack r.psn [])) ∧
  (∀ (s : State) q r v g, v = qpAt s q → g = ringAt s v.ring → r.op = .entry → g.head + g.entries ≤ g.tail →
    beginReq s q r = answer (setQp (hostDrain s v.port (reqBytes v)) q { v with ePsn := r.psn, reqs := [] }) q .rnrNak r.psn []) ∧
  (∀ (q : Fin 4096) (s : State), ((qpAt s q.val).reqs = [] → exec (.hostMemoryTimeout q) s = .next s) ∧
    ∀ r rest, (qpAt s q.val).reqs = r :: rest → (r.at_ = none → exec (.hostMemoryTimeout q) s = .next s) ∧
      ∀ t s2, r.at_ = some t → s2 = (if r.op = .read then s else dramWrite s r.addr (freeBytes s.freeCtr r.addr r.len) (Config.freeBool s.freeCtr r.addr)) →
        exec (.hostMemoryTimeout q) s = .next (if reqAnswered (qpAt s q.val) r = true ∨ s.ticks < t + 20000 then s else bumpFree (pumpPairs (nakCounted s2 q.val .nakOperational r.psn) q.val)))

/-- Queue pairs, windows, rings, doorbells and host ports. QP readies a pair in reset or resets one, WINDOW replaces an entry, RING_CONFIG sets a ring up empty unless a job of it runs; refused, they change nothing. TAIL within the ring is taken; ABORT of queued entries ends them, and of the running entry too stops its job, what lies below it following at its end; both are refused and counted otherwise. For the outstanding request of a ready pair an ACK frees it and lets its ring go on if it was not set up anew, RNR and a sequence error send it again while retries of that kind are left, and another error fails the pair; a passed timeout sends it again; any other answer, and a timeout not passed or of no request, changes nothing. CNP holds the pair's own requests for a free time (log entry 112). A port that is up and takes the frame answers ARP, neighbour discovery and, from its own subnet, echo to its addresses, and nothing else; a PFC pause holds sending on the port's priority and its end sends what was held; PAUSE changes nothing. HOST_LINK_BRINGUP reads the cage in a bring-up that runs, or starts one, with the mode and addresses written, at first or a second after the port went down; HOST_LINK_UP brings the port up in the highest mode that cage, partner and setting allow, in time; and FEC_LOCK_LOSS takes an up port down; each does nothing else. (R277, R278, R279, R280, R281, R283, R287, R289, R290, R292, R295, R420) -/
def Obligations.HostQueuesAndPorts : Prop :=
  (∀ (q : Fin 4096) (bs : List Byte) (s : State),
    (bs.length = 64 → leAt bs 0 1 = 0 → exec (.qp q bs) s =
      .next (pumpPairs (pairRecordsKept (setQp (hostDrain s (qpAt s q.val).port (reqBytes (qpAt s q.val))) q.val { entry := bs }) q.val) q.val)) ∧
    (leAt bs 0 1 = 1 → (qpAt s q.val).state = 0 → qpEntryOk bs = true → exec (.qp q bs) s = .next (setQp s q.val {
      entry := bs, state := 1, port := leAt bs 1 1, mtu := leAt bs 2 1, ring := leAt bs 3 1, sPsn := BitVec.ofNat 24 (leAt bs 8 3), ePsn := BitVec.ofNat 24 (leAt bs 12 3),
      timeout := leAt bs 32 1, retry := leAt bs 33 1, rnrRetry := leAt bs 34 1 })) ∧
    ((bs.length ≠ 64 ∨ leAt bs 0 1 ≠ 0) → (leAt bs 0 1 ≠ 1 ∨ (qpAt s q.val).state ≠ 0 ∨ qpEntryOk bs = false) → exec (.qp q bs) s = .next s)) ∧
  (∀ (w : Fin 256) (bs : List Byte) (s : State), (windowOf s w.val bs = none → exec (.window w bs) s = .next s) ∧
    (∀ e, windowOf s w.val bs = some e → exec (.window w bs) s = .next { s with host := { s.host with
      wins := tset (fun _ => {}) s.host.wins w.val { cur := e, prev := (tget (fun _ => {}) s.host.wins w.val).cur, at_ := some s.ticks } } })) ∧
  (∀ (r : Fin 16) (bs : List Byte) (s : State) v, v = ringAt s r.val →
    (s.job.map (·.ring) ≠ some r.val → ringConfigOk bs = true → exec (.ringConfig r bs) s =
      .next (setRing (setQp s v.qp { qpAt s v.qp with queue := (qpAt s v.qp).queue.filter (fun x => x.ring != r.val) }) r.val {
        entry := bs, base := leAt bs 0 8, entries := leAt bs 8 2, mode := leAt bs 10 1, qp := leAt bs 12 2, recBase := leAt bs 16 8, recKey := leAt bs 24 4, setup := v.setup + 1 })) ∧
    (ringConfigOk bs = false ∨ s.job.map (·.ring) = some r.val → exec (.ringConfig r bs) s = .next s)) ∧
  (∀ (r : Fin 16) (v : Word) (s u : State) g, g = ringAt s r.val → u = setRing s r.val { g with abort := v.toNat } →
    exec (.tail r v) s = .next (if g.tail ≤ v.toNat ∧ v.toNat ≤ g.head + g.entries then setRing s r.val { g with tail := v.toNat } else bump s Obj.hostDoorbellRefused) ∧
    (¬ (g.head < v.toNat ∧ v.toNat ≤ g.tail) → exec (.abort r v) s = .next (bump s Obj.hostDoorbellRefused)) ∧
    (s.job = none → g.head < v.toNat → v.toNat ≤ g.tail → exec (.abort r v) s = .next (abortQueued 4096 u r.val v.toNat)) ∧
    (∀ j, s.job = some j → g.head < v.toNat → v.toNat ≤ g.tail → exec (.abort r v) s = .next (if j.ring = r.val ∧ j.entryNo < v.toNat
      then beginStop (setRing u r.val { ringAt u r.val with reach := some (max v.toNat (g.reach.getD 0)) }) 2 (some (2, 0, false)) 0 0 else abortQueued 4096 u r.val v.toNat))) ∧
  (∀ (f : HostFrame) (q : Fin 4096) (psn : BitVec 24) (k : AckKind) (s : State),
    (qpReady s f q.val = false ∨ (qpAt s q.val).out.map (·.psn) ≠ some psn.toNat → exec (.roceAck f q psn k) s = .next s) ∧
    ∀ r, qpReady s f q.val = true → (qpAt s q.val).out = some r → r.psn = psn.toNat →
      exec (.roceAck f q psn .error) s = .next (qpFail s q.val 1) ∧ exec (.roceAck f q psn .sequence) s = .next (retryRequest s q.val false) ∧ exec (.roceAck f q psn .rnr) s = .next (retryRequest s q.val true) ∧
      (∀ u, u = setQp s q.val { qpAt s q.val with out := none } → exec (.roceAck f q psn .ack) s = .next (pumpQp (if r.seqPart = true ∨ (ringAt u r.ring).setup ≠ r.setup then u
        else setRing u r.ring { ringAt u r.ring with acked := true }) q.val))) ∧
  (∀ (q : Fin 4096) (s : State), ((qpAt s q.val).out = none → exec (.qpAckTimeout q) s = .next s) ∧
    ∀ r, (qpAt s q.val).out = some r → exec (.qpAckTimeout q) s = .next (if r.sentAt + 4096 * 2 ^ (qpAt s q.val).timeout ≤ s.ticks then retryRequest s q.val false else s)) ∧
  (∀ (s : State) q rnr r, (qpAt s q).out = some r →
    ((if rnr = true then (qpAt s q).rnrRetry ≠ 7 ∧ (qpAt s q).rnrRetry ≤ r.rnr else (qpAt s q).retry ≤ r.tries) → retryRequest s q rnr = qpFail s q 1) ∧
    (∀ r', (if rnr = true then (qpAt s q).rnrRetry = 7 ∨ r.rnr < (qpAt s q).rnrRetry else r.tries < (qpAt s q).retry) →
      r' = (if rnr = true then { r with rnr := r.rnr + 1, sentAt := s.ticks } else { r with tries := r.tries + 1, sentAt := s.ticks }) →
      retryRequest s q rnr = wireRequest (setQp s q { qpAt s q with out := some r' }) q r')) ∧
  (∀ (f : HostFrame) (q : Fin 4096) (s : State), exec (.cnp f q) s = .next (if qpReady s f q.val = true
    then bumpFree (setQp s q.val { qpAt s q.val with slowTo := s.ticks + (Config.freeWord s.freeCtr (0x5B0000 + q.val)).toNat }) else s)) ∧
  (∀ (f : HostFrame) (s : State),
    (∀ (mac : BitVec 48) (ip target : BitVec 32) a, a = (hostPortAt s f.port.val).ipv4 % 2 ^ 32 → exec (.arp f mac ip target) s =
      .next (if linkUp s f.port.val = true ∧ frameOk s f = true ∧ a ≠ 0 ∧ target.toNat = a
        then ethSend s f.port.val .arpReply (toBe 6 (portMac f.port.val) ++ toBe 4 target.toNat ++ toBe 6 mac.toNat ++ toBe 4 ip.toNat) else s)) ∧
    (∀ (source target : List Byte), exec (.neighbourDiscovery f source target) s =
      .next (if linkUp s f.port.val = true ∧ frameOk s f = true ∧ target.length = 16 ∧ leNat target ≠ 0 ∧ target = portIpv6 s f.port.val
        then ethSend s f.port.val .neighbourAdvert (source ++ target ++ toBe 6 (portMac f.port.val)) else s)) ∧
    (∀ (source dst payload : List Byte), exec (.icmpEcho f source dst payload) s =
      .next (if linkUp s f.port.val = true ∧ frameOk s f = true ∧ ownAddress s f.port.val dst = true ∧ onSubnet s f.port.val (mapped source) = true
        then ethSend s f.port.val .echoReply (source ++ payload) else s)) ∧
    (∀ (prio : Fin 8) pause g, g = { f with vlan := (hostTag s f.port.val).map (Fin.ofNat 4096) } →
      (linkUp s f.port.val = false ∨ frameOk s g = false ∨ prio.val ≠ dval s Obj.hostPfcPriority → exec (.pfcFrame f prio pause) s = .next s) ∧
      (linkUp s f.port.val = true → frameOk s g = true → prio.val = dval s Obj.hostPfcPriority →
        exec (.pfcFrame f prio true) s = .next (setHostPort s f.port.val { hostPortAt s f.port.val with pausedTx := true }) ∧
        (∀ u, u = List.foldl (fun u o => emit u (.host f.port.val o)) (setHostPort s f.port.val { hostPortAt s f.port.val with pausedTx := false, heldTx := [] }) (hostPortAt s f.port.val).heldTx →
          exec (.pfcFrame f prio false) s = .next (List.foldl (fun u e => if (qpAt u e.1).port = f.port.val then wireHeld u e.1 else u) u u.host.qps)))) ∧
    exec (.pauseFrame f) s = .next s) ∧
  (∀ (port : Fin 2) (s : State),
    ((hostPortAt s port.val).link = 2 → exec (.fecLockLoss port) s = .next (setHostPort s port.val { hostPortAt s port.val with link := 0, since := s.ticks, speed := 0, ptp := 0, pausedTx := false, heldTx := [] })) ∧
    ((hostPortAt s port.val).link ≠ 2 → exec (.fecLockLoss port) s = .next s)) ∧
  (∀ (c : Cage) (s : State) p, p = hostPortAt s c.port.val →
    (hostDieUp s c.port.val = false ∨ s.light.cal.blendRuns = false → exec (.hostLinkBringup c) s = .next s) ∧
    (hostDieUp s c.port.val = true → s.light.cal.blendRuns = true → exec (.hostLinkBringup c) s = .next (if p.link = 1 ∧ p.step = 1 then cageRead s c
      else if p.link ≠ 0 ∨ (p.step ≠ 0 ∧ s.ticks < p.since + 1000000000) then s else cageRead (beginLink s c.port.val) c))) ∧
  (∀ (s : State) (c : Cage) n, cageRead s c = setHostPort s c.port.val { hostPortAt s c.port.val with step := 2, since := s.ticks, copper := c.copper, modes := c.modes, lowPower := decide (17 < c.watts.toNat) } ∧
    beginLink s n = setHostPort s n { hostPortAt s n with link := 1, step := 1, since := s.ticks, speed := 0, pausedTx := false, heldTx := [], mode := dval s (Obj.hostPortMode + 256 * n), ipv4 := dval s (Obj.hostIpv4 + 256 * n), ipv6 := hostIpv6 s n }) ∧
  (∀ (p : HostPort) (modes : BitVec 4), p.lowPower = true → linkMode p modes = none) ∧
  (∀ (port : Fin 2) (modes : BitVec 4) (s : State) p, p = hostPortAt s port.val →
    (linkMode p modes = none → exec (.hostLinkUp port modes) s = .next s) ∧
    (∀ m, linkMode p modes = some m → exec (.hostLinkUp port modes) s = .next (if hostDieUp s port.val = true ∧ p.link = 1 ∧ p.step = 2 ∧ s.ticks ≤ p.since + bringupTime p
      then setHostPort s port.val { p with link := 2, step := 4, speed := modeSpeed m, since := s.ticks } else s)))

/-- The light clock, frame markers, source changes and time steps. A base tile without an edge enters holdover, counted and reported, once; a marker at a boundary, and only there, corrects a die's count to the nearest multiple of 1,024 and, with the broadcast on its tree again, ends a base tile's holdover within 100 ps; the broadcast absent at every tile for 1 ms darkens every port, ends the job DOUBLE and raises 0x51, and else nothing happens; a measurement of a tree by a working barista, due each 1,024 frames, sets where the tile's delay goes, by 1 ps at each boundary; droop of a die that is on stretches at most one edge in four, and the links of the tile miss it. A due step with no job and none named names a time later than every named boundary, and else none; TIME_STEP takes effect there for the dies that take it, at once when past. A lost source gives the next best, or HOLDOVER; one not lost does nothing. The review of the active barista each 64 frames keeps the source, moves to another after four reviews, and steers by its offset; else it does nothing. That HOLDOVER is trusted only when the time was LOCKED before is the model's choice (log entry 113). (R299, R300, R301, R303, R306, R310, R312, R314, R349) -/
def Obligations.LightClockAndSteps : Prop :=
  (∀ (bt : Fin 8) (s : State), ((btAt s bt.val).timing.holdover = true → exec (.holdoverEntry bt) s = .next s) ∧
    ((btAt s bt.val).timing.holdover = false → exec (.holdoverEntry bt) s = .next (timeEvent (bump (setBt s bt.val { btAt s bt.val with
      timing := { (btAt s bt.val).timing with holdover := true, absentSince := some s.ticks } }) Obj.timeHoldovers) bt.val 0))) ∧
  (∀ (site : Fin 100) (phase : Int) (s : State), (s.now.toNat % 1024 ≠ 0 → exec (.frameMarker site phase) s = .next s) ∧
    ∀ u, s.now.toNat % 1024 = 0 → u = correctCount s site.val → exec (.frameMarker site phase) s = .next (
      if site.val < 8 ∧ (btAt u site.val).timing.holdover = true ∧ phase.natAbs ≤ 100 ∧ broadcastOn u = true then setBt u site.val { btAt u site.val with
        timing := { (btAt u site.val).timing with tree := u.mt.tree, holdover := false, absentSince := none, phasePull := phase.natAbs } }
      else u)) ∧
  (∀ (s : State) site d, d = nearest1024 (siteCount s site) - siteCount s site →
    (s.mt.unset.contains site = true ∨ d = 0 → correctCount s site = s) ∧
    (∀ u, s.mt.unset.contains site = false → d ≠ 0 → u = bump (setMt s (fun m => { m with skew := tupd (fun _ => 0) m.skew site (· + d) })) Obj.timeMarkerCorrections →
      correctCount s site = if d.natAbs > 1 then timeEvent u site 1 else u)) ∧
  (∀ c : Int, nearest1024 c % 1024 = 0 ∧ (nearest1024 c - c).natAbs ≤ 512) ∧
  (∀ (s : State), ((∃ b, b < 8 ∧ ((btAt s b).timing.holdover = false ∨ ∀ t, (btAt s b).timing.absentSince = some t → s.ticks < t + 1000000)) → exec .broadcastAbsent s = .next s) ∧
    ((∀ b, b < 8 → ∃ t, (btAt s b).timing.absentSince = some t ∧ (btAt s b).timing.holdover = true ∧ t + 1000000 ≤ s.ticks) → ∃ u,
    u = List.foldl (fun u l => linkDown u l) (List.foldl (fun u p => updPort u p (fun v => { v with unpowered := true })) s (List.range 366)) (List.range 16) ∧
    exec .broadcastAbsent s = .next (raise (endAny u 4 9 0) 0 0x10 0x51 7 false 0))) ∧
  (∀ (bt : Fin 8) (late : Int) (s : State) t, t = (btAt s bt.val).timing →
    (roleOf s 0 = .silent ∨ roleOf s 0 = .dead ∨ trimDue s t.measuredA = false → exec (.treeTrim 0 bt late) s = .next s) ∧
    (roleOf s 1 = .silent ∨ roleOf s 1 = .dead ∨ trimDue s t.measuredB = false → exec (.treeTrim 1 bt late) s = .next s) ∧
    (roleOf s 0 ≠ .silent → roleOf s 0 ≠ .dead → trimDue s t.measuredA = true → exec (.treeTrim 0 bt late) s =
      .next (updBt s bt.val (fun b => { b with timing := { b.timing with targetA := trimTo b.timing.delayA late, measuredA := some (frameNo s) } }))) ∧
    (roleOf s 1 ≠ .silent → roleOf s 1 ≠ .dead → trimDue s t.measuredB = true → exec (.treeTrim 1 bt late) s =
      .next (updBt s bt.val (fun b => { b with timing := { b.timing with targetB := trimTo b.timing.delayB late, measuredB := some (frameNo s) } }))) ∧
    (∀ d to_, trimTo d late < 2048 ∧ trimStep d to_ ≤ d + 1 ∧ d ≤ trimStep d to_ + 1 ∧ (d = to_ → trimStep d to_ = d) ∧ (d < to_ → trimStep d to_ = d + 1) ∧ (to_ < d → trimStep d to_ = d - 1))) ∧
  (∀ (cd : Fin 16) (t : Fin 64) (s : State), (domAt s (domCD cd.val) ≠ .on → exec (.droop cd t) s = .next s) ∧
    (domAt s (domCD cd.val) = .on → ∀ u, u = cutEdge (setTile s (tkey cd t) { tileAt s (tkey cd t) with
        droopAt := some s.ticks, stretched := (tileAt s (tkey cd t)).stretched + 1 }) (tkey cd t / 64) (tkey cd t % 64) →
      ((tileAt s (tkey cd t)).droopAt = none → exec (.droop cd t) s = .next u) ∧
      (∀ a, (tileAt s (tkey cd t)).droopAt = some a → exec (.droop cd t) s = .next (if s.ticks < a + 4 then s else u)))) ∧
  (∀ (s : State), (s.mt.stepD = none ∨ s.mt.stepAt ≠ none ∨ s.job ≠ none → exec .timeStepDue s = .next s) ∧
    ∀ d f, s.mt.stepD = some d → s.mt.stepAt = none → s.job = none →
    f = BitVec.ofNat 64 (max (boundaryAfter s 2048).toNat ((s.changes.map (fun c => c.1.toNat)).foldl max 0 / 1024 * 1024 + 1024)) →
    exec .timeStepDue s = .next (ctrlSend (setMt s (fun m => { m with stepAt := some f })) 0x7F 0x50 0 [f, BitVec.ofNat 64 (ofInt 64 d)])) ∧
  (∀ (src : BitVec 7) (seq : BitVec 32) (f d : Word) (s s1 : State) took, ctrlTakeAll (sigArrive s (ctrlPacket src.toNat 0x7F 0x50 seq 0 [f, d])) src seq = (took, s1) →
    exec (.timeStep src seq f d) s = .next (if took = true ∧ s.now < f then schedule s1 f (.timeStep d) else s1)) ∧
  (∀ (s : State), (sourceGone s = false → exec .sourceLost s = .next s) ∧ (sourceGone s = true →
    ((bestSource s).kind ≠ 0 → exec .sourceLost s = .next (judgeTime (takeSource s (bestSource s)))) ∧
    ((bestSource s).kind = 0 → exec .sourceLost s = .next (setMt s (fun m => { m with
      source := noSource, cand := none, held := 0, known := false, state := 3, holdSince := if m.state = 2 then some s.ticks else if m.state = 3 then m.holdSince else none }))))) ∧
  (∀ (s : State), (reviewDue s = false ∨ roleOf s s.active.val ≠ .active → exec .timeSourceReview s = .next s) ∧
    ∀ v b n u, reviewDue s = true → roleOf s s.active.val = .active → v = setMt s (fun m => { m with reviewed := some (frameNo s) }) → b = bestSource v →
      n = (if (match v.mt.cand with | some c => sameSource c b | none => false) = true then v.mt.held + 1 else 1) →
      u = (if sameSource b v.mt.source = true ∨ b.kind ≠ 0 ∧ 4 ≤ n then judgeTime (takeSource v b)
        else if b.kind = 0 then setMt v (fun m => { m with cand := none, held := 0 }) else setMt v (fun m => { m with cand := some b, held := n })) →
      exec .timeSourceReview s = .next (if u.mt.source.kind = 0 ∨ u.mt.source.kind = 4 ∨ u.mt.known = false then u else setMt u servo))

/-- IEEE 1588 at a host port. An Announce of the port's domain, on a port that is up, is taken as the port's best master unless a better one from another sender is held, and the best over both ports is followed, through that port alone; any other Announce changes nothing. At a port that follows the sender of a message of its domain, a one-step Sync gives the offset at once and a two-step one waits for the Follow_Up of its number; Delay_Resp of the number last sent gives the mean path delay, once an offset is known; messages of others, and Follow_Up and Delay_Resp of other numbers, change nothing. The first Sync ends the port's bring-up, and a port that is the source gives module time its offset. A following port that is up sends Delay_Req with the next number, another sends nothing. (R278, R279, R293, R310, R312) -/
def Obligations.PrecisionTime : Prop :=
  (∀ (f : HostFrame) (sender : PtpSender) (seq : BitVec 16) (origin receive : Word) (err : Fin 9) (two : Bool) (s : State) v, v = ptpAt s f.port.val →
    (follows s f sender = false → exec (.ptpSync f sender seq origin two err) s = .next s) ∧
    (follows s f sender = true →
      exec (.ptpSync f sender seq origin true err) s = .next (setPtp s f.port.val { v with waiting := true, syncSeq := seq.toNat, syncRx := (s.now.toNat + err.val - 4) * 1000 }) ∧
      exec (.ptpSync f sender seq origin false err) s = .next (syncOffset s f.port.val (origin.toNat * 1000) ((s.now.toNat + err.val - 4) * 1000))) ∧
    exec (.ptpFollowUp f sender seq origin) s = .next (if follows s f sender = true ∧ v.waiting = true ∧ v.syncSeq = seq.toNat
      then syncOffset s f.port.val (origin.toNat * 1000) v.syncRx else s) ∧
    exec (.ptpDelayResp f sender seq receive) s = .next (if follows s f sender = true ∧ v.reqOut = true ∧ v.reqSeq = seq.toNat ∧ v.offset.isSome = true
      then setPtp s f.port.val { v with reqOut := false, delay := ((v.t2 - v.t1) + (receive.toNat * 1000 - v.t3)) / 2 } else s)) ∧
  (∀ (s : State) n t1 t2, ∃ u, u = setHostPort (setPtp s n { ptpAt s n with t1 := t1, t2 := t2, waiting := false, offset := some (t1 + (ptpAt s n).delay - t2) }) n { hostPortAt s n with ptp := 2, step := 5 } ∧
    syncOffset s n t1 t2 = if s.mt.source.kind = 1 + n then setMt u (fun m => { m with offset := t1 + (ptpAt s n).delay - t2, known := true }) else u) ∧
  (∀ (port : Fin 2) (err : Fin 9) (s : State) n, n = ((ptpAt s port.val).reqSeq + 1) % 65536 →
    exec (.ptpDelayReq port err) s = .next (if ptpOn s port.val = true ∧ s.mt.master.map (·.1) = some port.val
      then ethSend (setPtp s port.val { ptpAt s port.val with t3 := (s.now.toNat + err.val - 4) * 1000, reqSeq := n, reqOut := true }) port.val .ptpDelayReq (toBe 2 n) else s)) ∧
  (∀ (f : HostFrame) (a : AnnounceMsg) (s : State) n, n = f.port.val →
    (ptpOn s n = false ∨ frameOk s f = false ∨ a.domain.toNat ≠ dval s Obj.hostPtpDomain → exec (.ptpAnnounce f a) s = .next s) ∧
    (ptpOn s n = true → frameOk s f = true → a.domain.toNat = dval s Obj.hostPtpDomain →
      ((ptpAt s n).best = none → exec (.ptpAnnounce f a) s = .next (electMaster (setPtp s n { ptpAt s n with best := some (masterOf a), heardAt := s.ticks }))) ∧
      (∀ b, (ptpAt s n).best = some b → exec (.ptpAnnounce f a) s = .next (electMaster (if b.rank < (masterOf a).rank ∧ b.port ≠ (masterOf a).port then s
        else setPtp s n { ptpAt s n with best := some (masterOf a), heardAt := s.ticks }))))) ∧
  (∀ (s : State) (best : Option (Nat × Master)), best = List.foldl (fun b e => match b with | none => some e | some x => if e.2.rank < x.2.rank then some e else some x) none
      ((List.range 2).filterMap (fun i => if ptpOn s i then (ptpAt s i).best.map (fun b => (i, b)) else none)) →
    (best.map (fun e => (e.1, e.2.port)) = s.mt.master.map (fun e => (e.1, e.2.port)) → electMaster s = setMt s (fun m => { m with master := best })) ∧
    (best.map (fun e => (e.1, e.2.port)) ≠ s.mt.master.map (fun e => (e.1, e.2.port)) → electMaster s =
      List.foldl (fun u i => setHostPort u i { hostPortAt u i with ptp := if best.map (·.1) = some i then 1 else 0 }) (setMt s (fun m => { m with master := best })) (List.range 2)))

/-- The power input, stages and shedding. A reading, each microsecond at most, takes the bus and the median of the stages in service, keeps the lowest and crosses the levels four low readings call for; below 45 V in a start-up it begins again at step 1. With no stage in service only the bus is taken; after a power-fail a reading of no input (or, with no stage, no bus) releases ALERT_N (the model's choice, log entry 114). Over 64 V for 1 us opens the disconnect, 62 V for 10 us closes it, a notice comes each second between 58 and 64 V. A stage's failure isolates it and raises 0x41. Each 1 ms above 4.5 kW adds a pause step up to 8, each 10 ms below 4.3 kW removes one. Shedding in operation goes one level deeper with its actions and reports it, or one level up after 1 ms, undoing them. Where its time or its condition has not come, each command changes nothing. (R317, R318, R319, R321, R325, R326, R328, R329, R330, R349, R439) -/
def Obligations.PowerInput : Prop :=
  (∀ (rs : List (BitVec 16)) (bus : BitVec 16) (s : State),
    (readingDue s = false → exec (.inputReading rs bus) s = .next s) ∧
    ∀ vs w, readingDue s = true → vs = (stagesInService s).filterMap (fun n => (rs.map (·.toNat))[n]?) →
      w = { s.pow with readAt := some s.ticks, bus := bus.toNat, busLow := since s s.pow.busLow (decide (bus.toNat < 5400)) } →
      (vs = [] → exec (.inputReading rs bus) s = .next (if bus.toNat = 0 then alertRelease { s with pow := w } else { s with pow := w })) ∧
      (∀ v, vs ≠ [] → v = median vs → ∃ u c,
        u.input = v ∧ u.readAt = some s.ticks ∧ u.inputMin = some (min (s.pow.inputMin.getD v) v) ∧ u.bus = bus.toNat ∧ u.level = s.pow.level ∧ u.inputLevel = s.pow.inputLevel ∧ u.failed = s.pow.failed ∧
        (∀ n, n ∈ [1, 2, 3, 4, 5] → tget (fun _ => 0) u.below n = if v < fallsBelow n then tget (fun _ => 0) s.pow.below n + 1 else 0) ∧
        c = (if s.pow.failed = true then (if v = 0 then alertRelease { s with pow := u } else { s with pow := u }) else crossings { s with pow := u }) ∧
        exec (.inputReading rs bus) s = .next (if s.startup.step ≠ 0 ∧ v < 4500 then { c with startup := { s.startup with step := 1, began := s.ticks, stepAt := s.ticks, finished := [] } } else c))) ∧
  (∀ (s : State), (s.pow.overAt = none → exec .inputDisconnect s = .next s) ∧ (s.pow.under = none → exec .inputReconnect s = .next s) ∧
    (∀ t, s.pow.overAt = some t → exec .inputDisconnect s = .next (if s.pow.disconnected = false ∧ t + 1000 ≤ s.ticks
      then supplyMsg (bump (setPow s (fun w => { w with disconnected := true })) Obj.inputOverEvents) (s.pow.level + 16) else s)) ∧
    (∀ t, s.pow.under = some t → exec .inputReconnect s = .next (if s.pow.disconnected = true ∧ t + 10000 ≤ s.ticks then setPow s (fun w => { w with disconnected := false }) else s))) ∧
  (∀ (s u : State), u = supplyMsg (setPow s (fun w => { w with noticeAt := some s.ticks })) (s.pow.level + 8) →
    (s.pow.noticeAt = none → exec .overvoltageNotice s = .next (if 5800 < s.pow.input ∧ s.pow.input ≤ 6400 then u else s)) ∧
    (∀ t, s.pow.noticeAt = some t → exec .overvoltageNotice s = .next (if 5800 < s.pow.input ∧ s.pow.input ≤ 6400 ∧ t + 1000000000 ≤ s.ticks then u else s))) ∧
  (∀ (n : Fin 12) (s : State), (stageOut s n.val = true → exec (.stageFail n) s = .next s) ∧
    (stageOut s n.val = false → exec (.stageFail n) s = .next (raise (bump (setPow s (fun w => { w with stagesFailed := w.stagesFailed ++ [n.val] })) Obj.stageFaults)
      (sitePS n.val) 0x08 0x41 4 false n.val))) ∧
  (∀ (w : BitVec 16) (s : State),
    exec (.powerLimitReview w) s = .next (if s.ticks < s.pow.reviewAt + 1000000 then s
      else if 4500 < w.toNat ∧ s.pow.pause < 8 then bump (setPow s (fun x => { x with reviewAt := s.ticks, power := w.toNat, pause := x.pause + 1 })) Obj.powerLimitSteps
      else setPow s (fun x => { x with reviewAt := s.ticks, power := w.toNat })) ∧
    exec (.powerLimitRelease w) s = .next (if s.ticks < s.pow.releaseAt + 10000000 then s
      else setPow s (fun x => { x with releaseAt := s.ticks, pause := if w.toNat < 4300 then x.pause - 1 else x.pause }))) ∧
  (∀ (s : State), exec .shedFalling s = .next (if operating s = true ∧ s.pow.level < 4 ∧ s.pow.level < wantedLevel s
    then supplyMsg (shedActions (setPow s (fun w => { w with level := s.pow.level + 1 })) (s.pow.level + 1)) (s.pow.level + 1) else s)) ∧
  (∀ (s s1 : State), s1 = (if 0 < s.pow.inputLevel ∧ (tfind s.pow.above s.pow.inputLevel).any (fun t => decide (t + 1000000 ≤ s.ticks)) = true
      then setPow s (fun w => { w with inputLevel := w.inputLevel - 1 }) else s) →
    exec .shedRising s = .next (if operating s1 = true ∧ wantedLevel s1 < s1.pow.level
      then shedUndo (setPow s1 (fun w => { w with level := s1.pow.level - 1 })) s1.pow.level else s1))

/-- Domains, sensors, pauses and coolant. A domain on its way reaches On when what it needs is On and, in start-up step 5, its place in the order has come, and its die, store, stack, bank, link, port or comb starts; else it waits, and one not on its way is unchanged. A regulator fault takes its domain down for good and raises 0x40. A conversion, each 50 us at most, out of range counts; in range it gives the value the die acts on (a cache die's from the estimate too), the rate over 20 samples and, unless the die has tripped, the checks. Each 1 ms review at Act or Limit adds a pause step, each 10 ms review of a cool die removes one down to what is held. A DRAM readout each 1 ms keeps the hottest and trips at 105 degrees. A sensor bad three times, still for 10 s while its die is on, or unmoved 10 s after its die's power moved is broken; of a die without pauses the message comes again each minute; a tripped die's sensor changes nothing. The coolant is read each 100 ms at most; outside its limits it is reported once a second. A low flow for 1 s holds the compute dies at 8, and 10 s of full flow ends that. (R322, R324, R329, R335, R336, R338, R340, R341, R342, R343, R344, R345) -/
def Obligations.DomainsAndHeat : Prop :=
  (∀ (s : State) (d e : Nat) f, s.startup.step = 5 → e < 82 → riseClass e < riseClass d → domAt s e = .turningOn f → domReady s d = false) ∧
  (∀ (d : Fin 92) (s : State), ((∀ f, domAt s d.val ≠ .turningOn f) → exec (.domainOn d) s = .next s) ∧
    ∀ f, domAt s d.val = .turningOn f → (domReady s d.val = false → exec (.domainOn d) s = .next s) ∧
      ∀ u, domReady s d.val = true → u = setDom s d.val .on →
        (d.val < 16 → exec (.domainOn d) s = .next (setDie u d.val { dieAt u d.val with clockFrom := u.ticks })) ∧
        (16 ≤ d.val → d.val < 32 → exec (.domainOn d) s = .next (if f = .off then wakeDeep u (d.val - 16) else u)) ∧
        (32 ≤ d.val → d.val < 56 → exec (.domainOn d) s = .next (updStack u (d.val - 32) (fun st => { st with selfRefresh := false, closing := false, off := st.off && decide (dval u Obj.moduleState = 0) }))) ∧
        (56 ≤ d.val → d.val < 72 → exec (.domainOn d) s = .next (bankRings u d.val 1)) ∧
        (72 ≤ d.val → d.val < 80 → exec (.domainOn d) s = .next (overNats [2 * (d.val - 72), 2 * (d.val - 72) + 1] (fun l x => if linkMay x l = true ∧ dval x Obj.moduleState = 1 then startTraining x l else x) u)) ∧
        (80 ≤ d.val → d.val < 82 → exec (.domainOn d) s = .next (hostBack u)) ∧
        (∀ c v w, 82 ≤ d.val → c = d.val - 82 → v = combAt u c → w = setComb u c { v with state := v.parked.getD v.state, parked := none } →
          exec (.domainOn d) s = .next (if v.parked = none then w else if v.serves ≠ none then fullDrive w c else setComb w c { combAt w c with drive := some (Config.combFactory c 3) }))) ∧
  (∀ (d : Fin 92) (s : State), (domAt s d.val = .faulted → exec (.domainFault d) s = .next s) ∧
    (domAt s d.val ≠ .faulted → exec (.domainFault d) s = .next (raise (domLost s d.val .faulted) (siteTile (domSite d.val)) 0x08 0x40 5 false d.val))) ∧
  (∀ (site : Fin 100) (v : Option (BitVec 16)) (power pc : BitVec 32) (s : State), (sampleDue s site.val = false → exec (.sensorSample site v power pc) s = .next s) ∧
    ∀ x kd t y est val, sampleDue s site.val = true → x = v.map (fun b => sint 16 b.toNat) → kd = decide (24 ≤ site.val ∧ site.val < 40) → t = thermAt s site.val →
      y = watchPower s site.val { t with
        reading := if sampleOk x = true then x else t.reading, bad := if sampleOk x = true then 0 else t.bad + 1,
        still := if (sampleOk x && x == t.reading && dieOn s site.val) = true then t.still else if sampleOk x = true then some s.ticks else none,
        pk := if kd = true then filtered (site.val - 24) t.pk power.toNat else t.pk, pc := if kd = true then filtered (site.val - 24) t.pc pc.toNat else t.pc, sampledAt := some s.ticks } power.toNat →
      est = (if kd = true then some (kdEstimate (setTherm s site.val y) (site.val - 24) y.pk y.pc) else none) → val = dieValue site.val y (if sampleOk x = true then x else none) est →
      (val = none → exec (.sensorSample site v power pc) s = .next (setTherm (setTherm s site.val y) site.val { y with
        value := if y.sensor = 0 ∨ y.sensor = 4 then y.value else none, estimate := est, warnN := 0, actN := 0, tripN := 0, hist := (y.hist.headD 0 :: y.hist).take (if y.hist.isEmpty = true then 0 else 20) })) ∧
      (∀ z r u, val = some z → r = (y.hist[19]?).map (fun old => (z - old) * 10) → u = setTherm (setTherm s site.val y) site.val { y with
          value := some z, estimate := est, rate := r, high := some (max (y.high.getD z) z), hist := (z :: y.hist).take 20 } →
        exec (.sensorSample site v power pc) s = .next (if y.sensor = 4 then u else checkSample (thermalCycle u site.val z) site.val z r))) ∧
  (∀ (site : Fin 100) (s : State) t, t = thermAt s site.val →
    (t.reviewFrom = none → exec (.thermalReview site) s = .next s ∧ exec (.thermalRelease site) s = .next s) ∧
    ∀ r, t.reviewFrom = some r →
      (∀ u, u = setTherm s site.val { t with reviews := t.reviews + 1 } → exec (.thermalReview site) s = .next (if s.ticks < r + (t.reviews + 1) * 1000000 then s
        else if (t.act = true ∨ t.limit = true) ∧ t.p < 15 then addPause u site.val 1 3 (r + (t.reviews + 1) * 1000000) else u)) ∧
      (∀ t' u q, t' = { t with releases := t.releases + 1 } → u = setTherm s site.val t' → q = max (t.p - 1) (pauseFloor u site.val t') → exec (.thermalRelease site) s = .next (
        if s.ticks < r + (t.releases + 1) * 10000000 then s
        else if t.act = false ∧ t.limit = false ∧ (∀ x ∈ t.rate, x < (dval u Obj.thermWarnRate : Int)) ∧ t.value.any (fun v => decide (v < 970)) = true ∧ q ≠ t.p then thermEvent (setTherm u site.val (setPause u t' q)) site.val 3 q
        else u))) ∧
  (∀ (md : Fin 24) (s : State), exec (.dramTempRead md []) s = .next s ∧ ∀ (a : BitVec 16) (as : List (BitVec 16)),
    (dramDue s md.val = false → exec (.dramTempRead md (a :: as)) s = .next s) ∧
    ∀ hot u, dramDue s md.val = true → hot = List.foldl max (sint 16 a.toNat) (as.map (fun x => sint 16 x.toNat)) →
    u = (let u := updStack s md.val (fun st => { st with
        window16 := decide (hot > 850)
        temps := (List.range (as.length + 1)).foldl (fun t i => tset (fun _ => 0) t i (BitVec.ofInt 16 (((a :: as).map (fun x => sint 16 x.toNat)).getD i 0))) st.temps })
      setTherm u (siteMD md.val) { thermAt u (siteMD md.val) with dram := some hot, dramAt := some s.ticks }) →
    exec (.dramTempRead md (a :: as)) s = .next (if hot ≥ 1050 then doTrip u (siteMD md.val) else u)) ∧
  (∀ (site : Fin 100) (how : Fin 3) (s : State) t, t = thermAt s site.val →
    (t.sensor = 4 → exec (.sensorBroken site how) s = .next s) ∧
    (t.sensor ≠ 4 → t.sensor ≠ 0 → t.minuteAt = none → exec (.sensorBroken site how) s = .next s) ∧
    (∀ m, t.sensor ≠ 4 → t.sensor ≠ 0 → t.minuteAt = some m → exec (.sensorBroken site how) s = .next (if pauses site.val = false ∧ m + 60000000000 ≤ s.ticks
      then thermEvent (setTherm s site.val { t with minuteAt := some s.ticks }) site.val 5 0 else s)) ∧
    (t.sensor = 0 → exec (.sensorBroken site 0) s = .next (if 3 ≤ t.bad then breakSensor s site.val 1 else s) ∧
      (t.still = none → exec (.sensorBroken site 1) s = .next s) ∧
      (∀ a, t.still = some a → exec (.sensorBroken site 1) s = .next (if dieOn s site.val = true ∧ a + 10000000000 ≤ s.ticks then breakSensor s site.val 2 else s)) ∧
      exec (.sensorBroken site 2) s = .next (if t.steps.any (fun x => decide (x.1 + 10000000000 ≤ s.ticks)) = true then breakSensor s site.val 3 else s))) ∧
  (∀ (inlet outlet flow : BitVec 16) (s : State), (coolantDue s = false → exec (.coolantRead inlet outlet flow) s = .next s) ∧
    ∀ ok u calm due, coolantDue s = true → (calm = true ↔ ∃ a, ok = some a ∧ a + 10000000000 ≤ s.ticks) → (due = true ↔ ∀ a, s.coolant.saidAt = some a → a + 1000000000 ≤ s.ticks) → ok = since s s.coolant.okSince (decide (flow.toNat ≥ 400)) →
      u = { s.coolant with
        readAt := some s.ticks, inlet := sint 16 inlet.toNat, outlet := sint 16 outlet.toNat, flow := flow.toNat, lowSince := since s s.coolant.lowSince (decide (flow.toNat < 200)), okSince := ok,
        hold := s.coolant.hold && !calm } →
      exec (.coolantRead inlet outlet flow) s = .next (
        if (sint 16 inlet.toNat > 450 ∨ sint 16 inlet.toNat < 150 ∨ flow.toNat < 400) ∧ due = true
        then raise { s with coolant := { u with saidAt := some s.ticks } } (siteTile (activeSite { s with coolant := u })) 0x09 0x48 1 false (4 * 128)
        else { s with coolant := u })) ∧
  (∀ (s : State), (s.coolant.lowSince = none → exec .lowFlow s = .next s) ∧
    ∀ t, s.coolant.lowSince = some t → exec .lowFlow s = .next (if s.ticks < t + 1000000000 ∨ s.coolant.hold = true then s else List.foldl (fun u n => if (thermAt u (siteCD n)).p < 8
        then thermEvent (setTherm u (siteCD n) (setPause u (thermAt u (siteCD n)) 8)) (siteCD n) 3 8 else u)
      { s with coolant := { s.coolant with hold := true } } (List.range 16)))

/-- The collector, ALERT_N and recoveries. A message for a barista that is not active, or that does not work, is lost; a standby BA1 passes it on. One that finds the collector at work, or its own queue not empty, only counts an overrun; one lost, if its kind does not repeat, takes its mark of a forced one with it (the model's choice, log entry 117). The head of the collector's own queue waits while it is at work. A repeat of a kept message is counted and acknowledged. Any other is logged, pulses ALERT_N at the level, is acted on, and is acknowledged after that if it repeats. An acknowledgement ends the repeats, unless its packet is not taken; without one a copy leaves each 2 us; a kept message goes 100 us after. A forced message must name a block and kind of its site. 10 us after the last pulse the line stays low in mode 1 or after power-fail; ALERT_CLEAR with 1 releases a held line, or at the pulse's end. A recovery ends at its boundary and the next waiting one that is needed starts; a tile that lost its comb again meanwhile is switched in once more. (R347, R349, R350, R351, R352, R353, R354, R358, R359, R387) -/
def Obligations.FaultsCollected : Prop :=
  (∀ (n : Fin 2) (m : FaultMsg) (rep : Bool) (s d : State), d = sigArrive s (faultPacket (siteBA n.val) m rep) →
    (n.val ≠ s.active.val → exec (.fault n m rep) s = .next (if n.val = 1 ∧ roleOf s 1 = .standby then emit d (.sig (faultPacket (siteBA 0) m rep)) else dropMark d m)) ∧
    (n.val = s.active.val → collectorUp s = false → exec (.fault n m rep) s = .next (dropMark d m)) ∧
    (n.val = s.active.val → collectorUp s = true → s.faults.internal.head? = some m → rep = false →
      exec (.fault n m rep) s = .next (if s.ticks < s.faults.busyUntil then s else handleMsg (setFaults s (fun f => { f with internal := f.internal.tail })) m false)) ∧
    (n.val = s.active.val → collectorUp s = true → ¬ (s.faults.internal.head? = some m ∧ rep = false) →
      exec (.fault n m rep) s = .next (if s.ticks < s.faults.busyUntil ∨ s.faults.internal ≠ [] then dropMark (bump d Obj.faultOverruns) m else handleMsg d m rep))) ∧
  (∀ (m : FaultMsg) (s u : State), u = setFaults s (fun f => { f with busyUntil := s.ticks + 200 }) →
    dropMark s m = (if kindRepeats m.kind.toNat = true then s else setFaults s (fun f => { f with forcedMsgs := f.forcedMsgs.erase m })) ∧
    (s.faults.kept.any (fun k => k.msg == m) = true → handleMsg s m true = sendAck (setFaults (bump u Obj.faultRepeats) (fun f =>
      { f with kept := f.kept.map (fun k => if k.msg = m then { k with ackAt := s.ticks } else k) })) m) ∧
    (∀ rep forced alerting v w x, (rep = false ∨ s.faults.kept.any (fun k => k.msg == m) = false) → forced = s.faults.forcedMsgs.contains m → alerting = decide (dval s Obj.alertLevel ≤ m.severity.toNat) →
      v = dropMark (logMessage u m forced alerting) m → w = (if alerting = true then setFaults v (fun f => { f with alert := .pulsing, alertSince := v.ticks }) else v) →
      x = actMessage (if kindRepeats m.kind.toNat = true then setFaults w (fun f => { f with kept := f.kept ++ [{ site := m.site.toNat, msg := m, ackAt := w.ticks }] }) else w) m forced →
      handleMsg s m rep = if kindRepeats m.kind.toNat = true then sendAck x m else x)) ∧
  (∀ (src : BitVec 7) (seq : BitVec 32) (m : FaultMsg) (s : State) r,
    r = ctrlTake (sigArrive s (ctrlPacket src.toNat m.site.toNat 0x81 seq (m.kind.toNat + 256 * m.block.toNat) [faultEnc m])) m.site.toNat src seq →
    exec (.faultAck src seq m) s = .next (if r.1 = true then setFaults r.2 (fun f => { f with
      repeaters := f.repeaters.filter (fun e => e.msg != m), forcedMsgs := f.forcedMsgs.filter (· != m) }) else r.2)) ∧
  (∀ (m : FaultMsg) (s : State), exec (.faultRepeat m) s = .next (if s.faults.repeaters.any (fun e => e.msg == m && decide (s.ticks ≥ e.sentAt + 2000)) = true then
      emit (setFaults s (fun f => { f with repeaters := f.repeaters.map (fun e => if e.msg = m then { e with sentAt := s.ticks } else e) }))
        (.sig (faultPacket (siteBA s.named.val) m true))
    else s)) ∧
  (∀ (s : State), exec .keptMessageExpiry s = .next (setFaults s (fun f => { f with kept := f.kept.filter (fun k => decide (s.ticks < k.ackAt + 100000)) }))) ∧
  (∀ (site : Fin 100) (v : Word) (s : State) k n, siteKind site.val = some (k, n) → (kindRow (fld v.toNat 40 8) = none → exec (.faultForce site v) s = .next s) ∧
    ∀ bs sev (m : FaultMsg), kindRow (fld v.toNat 40 8) = some (bs, sev) →
      m = { site := BitVec.ofNat 7 site, block := BitVec.ofNat 5 (fld v.toNat 48 5), kind := BitVec.ofNat 8 (fld v.toNat 40 8), poison := false, detail := BitVec.ofNat 40 v.toNat,
            severity := BitVec.ofNat 3 (if fld v.toNat 40 8 = 0x1C ∧ bitAt v.toNat 12 = true then 5 else sev) } →
      exec (.faultForce site v) s = .next (if dval s Obj.lcState = 2 ∨ 2 ^ 53 ≤ v.toNat ∨ fld v.toNat 48 5 ∉ blocksOf k ∨ fld v.toNat 48 5 ∉ bs then s
        else raiseMsg (setFaults s (fun f => { f with forcedMsgs := f.forcedMsgs ++ [m] })) m)) ∧
  (∀ (s : State), exec .alertPulseEnd s = .next (if s.faults.alert = .pulsing ∧ s.faults.alertSince + 10000 ≤ s.ticks then setFaults s (fun f => { f with
    alert := if s.faults.alertByPower = true ∨ (dval s Obj.alertMode = 1 ∧ s.faults.clearPending = false) then .held else .released, clearPending := false }) else s)) ∧
  (∀ (v : BitVec 8) (s : State), exec (.alertClear v) s = .next (if v ≠ 1 ∨ s.faults.alert = .released then s
    else if s.faults.alert = .pulsing then setFaults s (fun f => { f with clearPending := true })
    else if s.faults.alertByPower = true then s else setFaults s (fun f => { f with alert := .released }))) ∧
  (∀ (s : State), (s.faults.recovery = none → exec .recoveryEnd s = .next s) ∧ ∀ r, s.faults.recovery = some r →
    (∀ t, r.until_ = some t → s.now.toNat < t.toNat → exec .recoveryEnd s = .next s) ∧
    (∀ dark u, (∀ t, r.until_ = some t → t.toNat ≤ s.now.toNat) → u = raiseMax s Obj.recoveryMax (s.ticks - r.from_) →
      dark = (unitsOf s r.msg).filter (fun x => match x with | .comb bt => (tfind s.light.lossAt bt).isSome && !(tilePorts s bt true).isEmpty | _ => false) →
      (dark = [] ∨ r.msg.kind ≠ 0x20 → exec .recoveryEnd s = .next (startWaiting u u.faults.waitingRec)) ∧
      (dark ≠ [] → r.msg.kind = 0x20 → exec .recoveryEnd s = .next (setFaults (dark.foldl (fun y x => match x with | .comb bt => switchIn y bt (boundaryAfter s 700) | _ => y) s)
        (fun f => { f with recovery := some { r with until_ := some (boundaryAfter s 700) } }))))) ∧
  (∀ (s : State) m forced rest, startWaiting s [] = setFaults s (fun f => { f with recovery := none, waitingRec := [] }) ∧
    ∀ u, u = startRecovery (setFaults s (fun f => { f with recovery := none, waitingRec := rest })) m forced →
      startWaiting s ((m, forced) :: rest) = if u.faults.recovery.isSome = true then u else startWaiting u rest)

/-- Fences and the cupping test. A FENCE that is taken ends or stops the job it hits at once and names its boundary. A period is started with M = 1 + k mod 15 and a seed that is not zero, at a boundary 2,048 ns ahead and a period after the last, while cupping is on, the module operates and none is open or named; else nothing is. A CUP_START that is taken names its boundary. A waiting tile between descriptors runs the test, no other; its sum after 200 us (the checksum of a working engine with the bits in which it is wrong; log entry 117) or its hang after 8 us is kept, and the last tile of a die sends the die's results. A result for the open period is kept, once; when all dies have reported, or 50 ms after T, the judgement closes. Any other result, and a timeout not passed, changes nothing. (R220, R352, R363, R366, R367, R368, R370, R371) -/
def Obligations.FencesAndCupping : Prop :=
  (∀ (src : BitVec 7) (seq : BitVec 32) (site : Fin 100) (tile : Option (Fin 64)) (cause : BitVec 4) (t : Word) (s : State) r,
    r = ctrlTakeAll (sigArrive s (ctrlPacket src.toNat 0x7F 0x80 seq (site.val + 128 * b2n (tile.map (·.val)).isSome + 256 * (tile.map (·.val)).getD 0 + 16384 * cause.toNat) [t])) src seq →
    (r.1 = false → exec (.fence src seq site tile cause t) s = .next r.2) ∧
    ∀ s2, r.1 = true → s2 = schedule r.2 t (.fence site.val (tile.map (·.val)) cause.toNat (cause.toNat == 9)) →
    (fenceHits s2 site.val (tile.map (·.val)) = none → exec (.fence src seq site tile cause t) s = .next s2) ∧
    (∀ k u, fenceHits s2 site.val (tile.map (·.val)) = some (k, u) → exec (.fence src seq site tile cause t) s = .next (jobLoss s2 k u))) ∧
  (∀ (s : State), ((dval s Obj.cupEnable ≠ 1 ∨ dval s Obj.moduleState ≠ 1 ∨ s.faults.cup.open_ = true ∨ s.faults.cup.named ≠ none ∨ collectorUp s = false) → exec .cuppingPeriod s = .next s) ∧
    (dval s Obj.cupEnable = 1 → dval s Obj.moduleState = 1 → s.faults.cup.open_ = false → s.faults.cup.named = none → collectorUp s = true →
    ∃ (seed t : Word) (m : Nat), seed ≠ 0 ∧ t = (if s.faults.cup.k = 0 then boundaryAfter s 2048 else BitVec.ofNat 64 (max (boundaryAfter s 2048).toNat (s.faults.cup.t.toNat + cupP s))) ∧ m = 1 + s.faults.cup.k % 15 ∧
      exec .cuppingPeriod s = .next (ctrlSend (bumpFree (setCup s (fun c => { c with named := some (t, m, seed) }))) 0x7F 0x82 (m + s.faults.cup.k % 65536 * 16) [t, seed]))) ∧
  (∀ (src : BitVec 7) (seq : BitVec 32) (m : BitVec 4) (period : BitVec 16) (t seed : Word) (s : State) r,
    r = ctrlTakeAll (sigArrive s (ctrlPacket src.toNat 0x7F 0x82 seq (m.toNat + period.toNat * 16) [t, seed])) src seq →
    exec (.cupStart src seq m period t seed) s = .next (if r.1 = true then schedule (setCup r.2 (fun c => { c with named := some (t, m.toNat, seed) })) t .cupStart else r.2)) ∧
  (∀ (cd : Fin 16) (t : Fin 64) (s : State), exec (.cupTest cd t) s = .next (
      if tileIssues s (tkey cd t) = true ∧ (tileAt s (tkey cd t)).cup = .waiting ∧ (tileAt s (tkey cd t)).mq.started = [] then
        setTile s (tkey cd t) { tileAt s (tkey cd t) with cup := .running, cupFrom := s.ticks }
      else s)) ∧
  (∀ (cd : Fin 16) (t : Fin 64) (s : State) (wrong : Word), ((tileLive s (tkey cd t) = false ∨ (tileAt s (tkey cd t)).cup ≠ .running) →
      exec (.cupTestEnd cd t wrong) s = .next s ∧ exec (.cupHung cd t) s = .next s) ∧
    ∀ u v, tileLive s (tkey cd t) = true → (tileAt s (tkey cd t)).cup = .running →
    u = setTile s (tkey cd t) { tileAt s (tkey cd t) with cup := .finished, cupSum := cupChecksum s.faults.cup.seed ^^^ wrong } → v = setTile s (tkey cd t) { tileAt s (tkey cd t) with cup := .hung, cupSum := 0 } →
    exec (.cupTestEnd cd t wrong) s = .next (if s.ticks < (tileAt s (tkey cd t)).cupFrom + 200000 then s else if cupDone u cd.val = true then cupSend u cd.val else u) ∧
    exec (.cupHung cd t) s = .next (if s.ticks < (tileAt s (tkey cd t)).cupFrom + 8000 then s else if cupDone v cd.val = true then cupSend v cd.val else v)) ∧
  (∀ (cd : Fin 16) (j : Fin 11) (seq : BitVec 32) (period : BitVec 16) (fin : BitVec 6) (sums : List Word) (s d : State),
    d = sigArrive s (ctrlPacket (siteCD cd) (activeSite s) 0x83 seq (cupField period.toNat j fin.toNat) sums) →
    ((s.faults.cup.open_ = false ∨ period.toNat ≠ (s.faults.cup.k - 1) % 65536 ∨ s.faults.cup.expect.contains cd.val = false ∨ collectorUp s = false) → exec (.cupResult cd j seq period fin sums) s = .next d) ∧
    (s.faults.cup.open_ = true → period.toNat = (s.faults.cup.k - 1) % 65536 → s.faults.cup.expect.contains cd.val = true → collectorUp s = true → ∃ u,
      u = setCup d (fun c => { c with
        reported := addPos c.reported (16 * cd.val + j)
        sums := List.foldl (fun t i => if bitAt fin.toNat i then tput t (64 * cd.val + 6 * j + i) (sums.getD i 0) else t) c.sums (List.range (cupTiles j).length) }) ∧
      exec (.cupResult cd j seq period fin sums) s = .next (if cupAllIn u = true then judgeCup u else u))) ∧
  (∀ (s : State), exec .cupJudgementTimeout s = .next (if s.faults.cup.open_ = true ∧ s.faults.cup.startAt + 50000000 ≤ s.ticks then judgeCup s else s)) ∧
  (∀ s, (judgeCup s).faults.cup.open_ = false)

/-- The judge's verdicts. Over every set of reports: pairing is symmetric and never pairs a tile with itself for M of 1 to 15. Partners that finished with one sum both pass. A tile that did not finish is hung, never a loser. A loser finished, disagreed with its partner, and another die's tile of its number passed with its own pair and holds another sum; a tile unreported is unjudged. (R369, R370) -/
def Obligations.CupVerdicts : Prop :=
  ∀ (c : Cupping) (k : Nat), k < 1024 → 1 ≤ c.m → c.m < 16 →
    cupPair c (cupPair c k) = k ∧ cupPair c k < 1024 ∧ cupPair c k ≠ k ∧ cupPair c k % 64 = k % 64 ∧
    pairAgrees c (cupPair c k) = pairAgrees c k ∧
    (dieReported c (k / 64) = false → verdictOf c k = .unjudged) ∧
    (dieReported c (k / 64) = true → tfind c.sums k = none → verdictOf c k = .hung) ∧
    (∀ x, dieReported c (k / 64) = true → tfind c.sums k = some x → tfind c.sums (cupPair c k) = some x → verdictOf c k = .passes) ∧
    (verdictOf c k = .loses → ∃ x y n, n < 16 ∧ n ≠ k / 64 ∧ n ≠ cupPair c k / 64 ∧ tfind c.sums k = some x ∧ tfind c.sums (cupPair c k) ≠ some x ∧
      pairAgrees c (64 * n + k % 64) = true ∧ tfind c.sums (64 * n + k % 64) = some y ∧ x ≠ y)

/-- Heartbeats, takeover and handback. Each 1 us an open barista sends HEARTBEAT with its role and last committed SEQ; receipt is noted. 6 us without one: a standby takes over, and any other barista does not; the active works alone and logs TAKEOVER, once. BARISTA_ACTIVE, if taken, names the barista served, and silences an active of a lower epoch by check 10. BA1 hands back, at a boundary 2,048 ns ahead, when nothing is under way, and at no other time; the first SEQ it names leaves room for 1,024 packets (the model's choice, log entry 116). HANDBACK, if taken, falls due at its boundary. After a takeover the standby is active, one epoch up, its numbering 1,024 on, no message in hand and the cupping period abandoned; then it switches in the tiles left dark. (R160, R376, R377, R379, R380, R383, R384, R385, R386, R387, R388) -/
def Obligations.BaristaBeats : Prop :=
  (∀ (n : Fin 2) (s : State), exec (.heartbeatTick n) s = .next (if outputsOpen s n.val = true ∧ (barOf s n.val).sentAt + 1000 ≤ s.ticks then emit (setBarOf s n.val { barOf s n.val with sentAt := s.ticks })
      (.sig (ctrlPacket (siteBA n.val) (siteBA (1 - n.val)) 0x91 0 (if roleOf s n.val = .active then 0 else 1) [(carafeOf s n.val).lastCommit])) else s)) ∧
  (∀ (n role : Fin 2) (seq : Word) (s : State), exec (.heartbeat n role seq) s = .next (setBarOf
    (sigArrive s (ctrlPacket (siteBA (1 - n.val)) (siteBA (1 - (1 - n.val))) 0x91 0 role.val [seq])) n.val { barOf s n.val with beatAt := s.ticks })) ∧
  (∀ (n : Fin 2) (s : State), exec (.heartbeatLoss n) s = .next (if n ≠ s.active ∧ roleOf s n.val = .standby ∧ (barOf s n.val).beatAt + 6000 ≤ s.ticks then takeover s n.val else s)) ∧
  (∀ (s : State) (n : Fin 2), ∃ X t, takeover s n.val = takeoverMsg (relight (schedule X t (.lightTree n.val))) ∧ X.active = n ∧ X.roleEpoch = s.roleEpoch + 1 ∧ roleOf X n.val = .active ∧
    X.ctrlSeq = s.ctrlSeq + 1024 ∧ X.faults.cup.open_ = false ∧ X.faults.kept = [] ∧ X.faults.recovery = none ∧ X.journal.pending = s.mirror.pending ∧ X.punel.clients = []) ∧
  (∀ (s : State), ((collectorUp s = false ∨ (barOf s s.active.val).partnerLost = true ∨ s.ticks < (barOf s s.active.val).beatAt + 6000) → exec .standbyLoss s = .next s) ∧
    (collectorUp s = true → (barOf s s.active.val).partnerLost = false → (barOf s s.active.val).beatAt + 6000 ≤ s.ticks → exec .standbyLoss s = .next (commitDue (releaseAnswers (raise
      (setBarOf s s.active.val { barOf s s.active.val with partnerLost := true }) (activeSite s) 0x11 0x68 4 false s.active.val))))) ∧
  (∀ (src : BitVec 7) (seq : BitVec 32) (site : BitVec 7) (epoch : BitVec 32) (s : State) r, r = ctrlTakeAll (sigArrive s (ctrlPacket src.toNat 0x7F 0x90 seq site.toNat [epoch.zeroExtend 64])) src seq →
    ((r.1 = false ∨ (site ≠ 74 ∧ site ≠ 75)) → exec (.baristaActive src seq site epoch) s = .next r.2) ∧
    (∀ (n : Fin 2), r.1 = true → site = BitVec.ofNat 7 (74 + n.val) → exec (.baristaActive src seq site epoch) s = .next (
      if roleOf r.2 (1 - n.val) = .active ∧ (barOf r.2 (1 - n.val)).epoch < epoch then silence { r.2 with named := n } (1 - n.val) 10 else { r.2 with named := n }))) ∧
  (∀ (s : State), exec .handbackDue s = .next (
    if s.active = 1 ∧ collectorUp s = true ∧ roleOf s 0 = .standby ∧ s.faults.recovery = none ∧ s.light.cal.holds = [] ∧ s.pow.level = 0 ∧ s.mt.stepD = none ∧ s.handback = none
    then ctrlSend { s with handback := some (s.ctrlSeq + 1024, s.roleEpoch + 1) } 0x7F 0x92 0 [boundaryAfter s 2048, (s.roleEpoch + 1) ++ (s.ctrlSeq + 1024)] else s)) ∧
  (∀ (src : BitVec 7) (seq : BitVec 32) (th : Word) (first epoch : BitVec 32) (s : State) r,
    r = ctrlTakeAll (sigArrive s (ctrlPacket src.toNat 0x7F 0x92 seq 0 [th, epoch ++ first])) src seq →
    exec (.handback src seq th first epoch) s = .next (if r.1 = true then schedule { r.2 with handback := some (first, epoch) } th .handback else r.2))

/-- Self-checks, silence, re-mirroring and power-fail. A missed refresh, a wrong answer of the 10 ms test, a double error of its SRAM, a failed unit with no spare block left (else its block is replaced), an oscillator more than 100 ppm off and a supply out of range each silence the barista with their check's number; the third silence within 24 h, or check 8, lasts until start-up. A test or count that is not due, or of a barista whose outputs are cut, does nothing. A silent barista resets its cores after 1 ms: if its self-test (a free value, log entry 117) and its firmware pass it recovers its carafe and re-mirrors, else it stays silent until start-up. It is standby with the active's pending records when it holds the active's last commit and log entry, and asks on until then. At power-fail both baristas fall silent, ALERT_N is held whatever the mode, and the job is gone; without the readings for it nothing happens. (R330, R375, R383, R386, R388, R389, R394, R399) -/
def Obligations.BaristaChecks : Prop :=
  (∀ (s : State) (n : Fin 2) (c : Nat), (roleOf s n.val = .dead → silence s n.val c = s) ∧
    (roleOf s n.val = .silent → silence s n.val c = if c = 8 then setRole s n.val .dead else s) ∧
    (roleOf s n.val ≠ .silent → roleOf s n.val ≠ .dead →
    roleOf (silence s n.val c) n.val = (if c = 8 ∨ 2 ≤ ((barOf s n.val).silences.filter (fun t => decide (s.now.toNat < t + 86400000000000))).length then .dead else .silent) ∧
    (barOf (silence s n.val c) n.val).cause = c ∧ (barOf (silence s n.val c) n.val).silentAt = some s.ticks)) ∧
  (∀ (n : Fin 2) (s : State), exec (.watchdog n) s = .next (silence s n.val 1) ∧ exec (.baristaSupplyOutOfRange n) s = .next (silence s n.val 7)) ∧
  (∀ (n : Fin 2) (s : State), (outputsOpen s n.val = false → ∀ f, exec (.knownAnswerTest n f) s = .next s) ∧
    ∀ u, outputsOpen s n.val = true → u = setBarOf s n.val { barOf s n.val with testAt := s.ticks } →
      exec (.knownAnswerTest n .sramDouble) s = .next (silence s n.val 3) ∧
      (∀ (o : BitVec 29), (replaceBlock (carafeOf s n.val) (o.toNat / 65536) = none → exec (.knownAnswerTest n (.badUnit o)) s = .next (silence s n.val 5)) ∧
        ∀ c, replaceBlock (carafeOf s n.val) (o.toNat / 65536) = some c → exec (.knownAnswerTest n (.badUnit o)) s = .next (setCarafe s n.val c)) ∧
      exec (.knownAnswerTest n .right) s = .next (if s.ticks < (barOf s n.val).testAt + 10000000 then s else u) ∧
      exec (.knownAnswerTest n .wrong) s = .next (if s.ticks < (barOf s n.val).testAt + 10000000 then s else silence u n.val 2)) ∧
  (∀ (c : Carafe) (block : Nat), replaceBlock c block = if c.spares.length < 3071 then some { c with spares := c.spares ++ [(block, 5120 + c.spares.length)] } else none) ∧
  (∀ (n : Fin 2) (c : BitVec 32) (s u : State), u = setBarOf s n.val { barOf s n.val with countAt := s.ticks } →
    exec (.oscillatorCheck n c) s = .next (if outputsOpen s n.val = false ∨ s.ticks < (barOf s n.val).countAt + 1000000 then s
      else if c.toNat < 999900 ∨ 1000100 < c.toNat then silence u n.val 4 else u)) ∧
  (∀ (n : Fin 2) (s : State), ((barOf s n.val).silentAt = none → exec (.silenceReset n) s = .next s) ∧
    ∀ t u v w k x, (barOf s n.val).silentAt = some t → k = ((bootedOf u n.val).map (·.val)).getD 0 → x = (if slotUsable u n.val k = true then u else setBooted u n.val (some (Fin.ofNat 2 (1 - k)))) → u = bumpFree { setBarOf s n.val { barOf s n.val with silentAt := none } with ctrlWin := tdel s.ctrlWin (siteBA n.val) } →
      v = setSec (setRole (setCarafe x n.val (recoverCarafe (carafeOf x n.val))) n.val .remirroring)
        (fun x => { x with latch := tset (fun _ => false) x.latch n.val x.meshBroken, sealed_ := tset (fun _ => false) x.sealed_ n.val (!x.meshBroken) }) →
      w = { v with mirror := { held := (carafeOf v n.val).lastCommit } } →
      exec (.silenceReset n) s = .next (if roleOf s n.val ≠ .silent ∨ s.ticks < t + 1000000 then s
        else if Config.freeBool s.freeCtr 0xE40 = false ∨ (slotUsable u n.val k = false ∧ slotUsable u n.val (1 - k) = false) then setRole u n.val .dead
        else slotItem w n.val 3 (ackBytes w n.val))) ∧
  (∀ (n : Fin 2) (s : State), ((roleOf s n.val ≠ .remirroring ∨ collectorUp s = false ∨ n = s.active) → exec (.remirrorDone n) s = .next s) ∧
    (roleOf s n.val = .remirroring → collectorUp s = true → n ≠ s.active →
      (((carafeOf s n.val).lastCommit ≠ (carafeOf s s.active.val).lastCommit ∨ logHigh (carafeOf s n.val) ≠ logHigh (carafeOf s s.active.val)) →
        exec (.remirrorDone n) s = .next (slotItem s n.val 3 (ackBytes s n.val))) ∧
      ((carafeOf s n.val).lastCommit = (carafeOf s s.active.val).lastCommit → logHigh (carafeOf s n.val) = logHigh (carafeOf s s.active.val) →
      ∃ t, exec (.remirrorDone n) s = .next t ∧ roleOf t n.val = .standby ∧
        t.mirror.pending = s.journal.pending ∧ t.mirror.held = s.journal.next - 1 ∧ t.mirror.cupK = s.faults.cup.k ∧ t.journal.acked = s.journal.next - 1 ∧ (barOf t n.val).beatAt = s.ticks))) ∧
  (∀ (s : State), ((s.pow.failed = true ∨ powerFailing s = false) → exec .powerFail s = .next s) ∧
    (s.pow.failed = false → powerFailing s = true → ∃ t, exec .powerFail s = .next t ∧ t.role0 = .silent ∧ t.role1 = .silent ∧ t.faults.alert = .held ∧ t.faults.alertByPower = true ∧
      t.job = none ∧ t.sent = [] ∧ dval t Obj.moduleState = 0))

/-- Commits, mirroring slots and compaction. A commit requested by the service, by 1,024 pending records or by the passing second is done once the standby has acknowledged the batch, and is due until then; without a working active barista, before the second has passed, with fewer records or a value other than 1 nothing is. At 122,880 records no class C record is made. 65,536 records start a compaction of a barista that works; its end raises GEN, takes the other area and moves JOURNAL_FROM past the last commit copied; with none under way nothing ends. A slot's flits are taken in order by their KIND, and the standby, or a barista that re-mirrors, acknowledges; with no slot received nothing happens. (R381, R391, R392, R393, R400) -/
def Obligations.CarafeCommits : Prop :=
  (∀ (s : State) (cause : Nat), tryCommit s cause = if collectorUp s = false then s else if mayCommit s = true then commitNow s cause else setJournal s (fun j => { j with due := some (s.journal.due.getD cause) })) ∧
  (∀ (v : BitVec 8) (s : State), exec (.carafeCommitNow v) s = .next (if v = 1 then tryCommit s 2 else s) ∧
    exec .earlyCommit s = .next (if 1024 ≤ s.journal.pending.length then tryCommit s 1 else s)) ∧
  (∀ (s : State), ((collectorUp s = false ∨ s.ticks < s.journal.periodicAt + 1000000000) → exec .periodicCommit s = .next s) ∧
    ∀ u, collectorUp s = true → s.journal.periodicAt + 1000000000 ≤ s.ticks → u = wearSeconds s ((s.ticks - s.journal.periodicAt) / 1000000000) →
    ((carafeOf u u.active.val).journalFrom.toNat + 122880 ≤ (carafeOf u u.active.val).lastCommit.toNat + 1 →
      exec .periodicCommit s = .next (tryCommit (setJournal u (fun j => { j with periodicAt := u.ticks })) 0)) ∧
    ((carafeOf u u.active.val).lastCommit.toNat + 1 < (carafeOf u u.active.val).journalFrom.toNat + 122880 →
      exec .periodicCommit s = .next (tryCommit (List.foldl addRecord (setJournal u (fun j => { j with periodicAt := u.ticks, classC := [] })) (u.journal.classC ++ wearRecords u)) 0))) ∧
  (∀ (n : Fin 2) (s : State), exec (.compaction n) s = .next (
      if carafeWorks s n.val = true ∧ (carafeOf s n.val).compacting = none ∧ 65536 ≤ (carafeOf s n.val).lastCommit.toNat + 1 - (carafeOf s n.val).journalFrom.toNat then
        setCarafe s n.val (startCompact (carafeOf s n.val))
      else s)) ∧
  (∀ (n : Fin 2) (s : State), ((carafeOf s n.val).compacting = none → exec (.compactionDone n) s = .next s) ∧
    (∀ last, (carafeOf s n.val).compacting = some last → exec (.compactionDone n) s = .next (setCarafe s n.val (endCompact (carafeOf s n.val) last)))) ∧
  (∀ (c : Carafe) (last : Word), (startCompact c).compacting = some c.lastCommit ∧ (endCompact c last).gen = c.gen + 1 ∧ (endCompact c last).area = 1 - c.area ∧ (endCompact c last).journalFrom = last + 1 ∧ (endCompact c last).compacting = none ∧
    (endCompact c last).lastCommit = c.lastCommit) ∧
  (∀ (n : Fin 2) (s : State), (tget (fun _ => []) s.houseIn (houseKey (siteBA n.val) 3) = [] → exec (.baristaSlot n) s = .next s) ∧
    (∀ k rest, tget (fun _ => []) s.houseIn (houseKey (siteBA n.val) 3) = (k, []) :: rest →
      exec (.baristaSlot n) s = .next { s with houseIn := tset (fun _ => []) s.houseIn (houseKey (siteBA n.val) 3) rest }) ∧
    (∀ k d fs rest u, tget (fun _ => []) s.houseIn (houseKey (siteBA n.val) 3) = (k, d :: fs) :: rest →
      u = overNats (List.range (min fs.length 25)) (fun i x => takeItem x n.val (leAt d.data i 1) ((fs.getD i { data := [], poison := false }).data))
        { s with houseIn := tset (fun _ => []) s.houseIn (houseKey (siteBA n.val) 3) rest } →
      exec (.baristaSlot n) s = .next (if n.val ≠ u.active.val ∧ (roleOf u n.val = .standby ∨ roleOf u n.val = .remirroring) then slotItem u n.val 3 (ackBytes u n.val) else u)))

/-- Punel requests, what the server holds, and PLCA's beacons and collisions. A unit on the field network reaches the server unless its frame is tagged; over UDP a host port that takes its frame passes it on in a DICTIONARY slot. Each unit first drops what has expired. A unit on a route that is not served has no other effect; a spoiled field frame is counted; a client without privilege, a wrong CHECK or length, and a broadcast of anything but a READ of 0x1000 or 0x1010 count as dropped, as does a request beyond 20,000 in a second. Any other is taken: a TXN of a kept answer gets it again, one whose answer waits waits again, and any new one is handled and answered. A status before BUSY is answered and changes nothing, a client with no entry finds BUSY, a READ reads, a WRITE writes, ABORT drops the staged write. Snapshots and staged writes go after 1 s, answers after 2 s. A beacon, or the coordinator's own, puts an enabled module in PLCA (state 1) unless collisions put it in state 3. 4 ms without one puts it in state 2. A collision in its own opportunity is counted, and the sixteenth within 1 s sets state 3. A unit for the field route waits in PLCA until a beacon gives an opportunity, one a beacon; in states 2 (4 ms after the last beacon) and 3 it goes at once, with all that wait; a unit over UDP goes to its host die. In other states a beacon's loss and a collision change no state. (R294, R403, R406, R409, R411, R412, R413, R414, R415, R416, R417, R407) -/
def Obligations.DictionaryAndFieldNetwork : Prop :=
  (
    (∀ (id : ClientId) (b : Bool) (f : UnitFrame) (u : List Byte) (s : State),
      exec (.punelRead id b f u) s = .next (if leAt u 1 1 = 2 ∨ leAt u 1 1 = 3 then s else unitIn s id b f u) ∧
      exec (.punelWrite id b f u) s = .next (if leAt u 1 1 = 2 then unitIn s id b f u else s) ∧
      exec (.punelAbort id b f u) s = .next (if leAt u 1 1 = 3 then unitIn s id b f u else s)) ∧
    (∀ (b : Bool) (f : UnitFrame) (u : List Byte) (s : State), (∀ mac, unitIn s (.field mac) b f u = if f.vlan ≠ none then s else doPunel s (.field mac) b f.spoiled u) ∧
      (∀ n a p, unitIn s (.udp n a p) b f u = if datagramOk s n.val f = true then sendDict s (siteHD n.val) (activeSite s) a.toNat p.toNat u else s)) ∧
    (∀ (id : ClientId) (b sp : Bool) (u : List Byte) (s d : State), d = dropReplies (dropStaged (dropSnaps s)) →
      (routeServed d id = false → doPunel s id b sp u = d) ∧
      (∀ mac, id = .field mac → routeServed d id = true → sp = true → doPunel s id b sp u = bump d Obj.fieldFramesBad) ∧
      (routeServed d id = true → sp = false → (privilegeOf d id = 0 ∨ unitGood id u = false ∨ (b = true ∧ broadcastOk u = false)) → doPunel s id b sp u = bump d Obj.punelDropped) ∧
      (routeServed d id = true → sp = false → privilegeOf d id ≠ 0 → unitGood id u = true → (b = false ∨ broadcastOk u = true) →
        doPunel s id b sp u = if d.punel.rateAt + 1000000000 ≤ d.ticks then takeRequest (setPunel d (fun p => { p with rateAt := d.ticks, rateN := 1 })) id u
          else if 20000 ≤ d.punel.rateN then bump d Obj.punelDropped else takeRequest (setPunel d (fun p => { p with rateN := p.rateN + 1 })) id u)) ∧
    (∀ (id : ClientId) (u : List Byte) (s : State) q r, q = admitClient s id → r = punelReq u →
      (∀ x, (clientAt q.2 id).bind (fun c => c.replies.find? (fun x => x.1 == r.txn)) = some x → takeRequest s id u = sendUnit (bump q.2 Obj.punelDuplicates) id x.2.1) ∧
      ((clientAt q.2 id).bind (fun c => c.replies.find? (fun x => x.1 == r.txn)) = none →
        (∀ w, q.2.punel.waiting.find? (fun w => w.id == id && leAt w.answer 2 2 == r.txn) = some w → takeRequest s id u = bump (setPunel q.2 (fun p => { p with waiting := p.waiting ++ [w] })) Obj.punelDuplicates) ∧
        (q.2.punel.waiting.find? (fun w => w.id == id && leAt w.answer 2 2 == r.txn) = none → takeRequest s id u = respond (handle q.2 id q.1 r).2 id r (handle q.2 id q.1 r).1))) ∧
    (∀ (s : State) (id : ClientId) (ad : Bool) (r : PunelReq),
      (earlyStatus s (privilegeOf s id) r ≠ 0 → (handle s id ad r).2 = s ∧ (handle s id ad r).1.status = earlyStatus s (privilegeOf s id) r) ∧
      (earlyStatus s (privilegeOf s id) r = 0 → (handle s id false r).2 = s ∧ (handle s id false r).1.status = 7) ∧
      (∀ (c : Client) (e : DictEntry), earlyStatus s (privilegeOf s id) r = 0 → clientAt s id = some c → dictFind r.code = some e →
        (r.op = 1 → handle s id true r = readObject s c e r) ∧
        (r.op = 2 → (handle s id true r).1.status = (writeObject s id e r).status ∧ (handle s id true r).2 = (writeObject s id e r).state) ∧
        (r.op = 3 → (handle s id true r).1.status = 0 ∧ (handle s id true r).2 = if r.code = Obj.updateImage then abortUpdate s id else dropStage s id r))) ∧
    (∀ (s : State) (v : Nat) (r : PunelReq) e, dictFind r.code = some e → malformed r = false → tooLarge r = false →
      (r.op = 2 → e.access = 0 → earlyStatus s v r = 2) ∧ (r.op = 1 → e.access = 2 → earlyStatus s v r = 2) ∧
      (r.op = 2 → e.access ≠ 0 → v ≤ e.priv → earlyStatus s v r = 3)) ∧
    (∀ (s : State), exec .snapshotExpiry s = .next (setPunel s (fun p => { p with snaps := p.snaps.filter (fun h => decide (s.ticks < h.last + 1000000000)) })) ∧
      exec .stagingExpiry s = .next (setPunel s (fun p => { p with
        staged := p.staged.filter (fun h => decide (s.ticks < h.last + 1000000000))
        expired := (s.punel.staged.filter (fun h => decide (h.last + 1000000000 ≤ s.ticks))).map (fun h => (h.id, h.index, h.sub)) ++ p.expired })) ∧
      exec .replyCacheExpiry s = .next (setPunel s (fun p => { p with
        clients := p.clients.map (fun c => { c with replies := c.replies.filter (fun r => decide (s.ticks < r.2.2 + 2000000000)) }) })))
  ) ∧ (
    (∀ (s : State), (sendsFreely s = true ↔ s.punel.state = 3 ∨ (s.punel.state = 2 ∧ s.punel.beaconAt.getD s.punel.phyAt + 4000000 ≤ s.ticks))) ∧
    (∀ (s : State), exec .plcaBeacon s = .next (if s.punel.state = 0 then s else
        fieldSend (setPunel s (fun p => { p with beaconAt := some s.ticks, state := if p.state = 3 then 3 else 1 })) 1)) ∧
    (∀ (s : State), (s.punel.beaconAt = none → exec .plcaBeaconLoss s = .next (if sendsFreely s = true then fieldSend s s.punel.fieldOut.length else s)) ∧
      ∀ t u, s.punel.beaconAt = some t → u = (if s.punel.state = 1 ∧ s.punel.coordinator = false ∧ t + 4000000 ≤ s.ticks then setPunel s (fun p => { p with state := 2 }) else s) →
        exec .plcaBeaconLoss s = .next (if sendsFreely u = true then fieldSend u u.punel.fieldOut.length else u)) ∧
    (∀ (s : State), (s.punel.state ≠ 1 → exec .nodeIdConflict s = .next s) ∧
      ∀ (cs : List Nat), s.punel.state = 1 → cs = s.ticks :: s.punel.collisions.filter (fun t => decide (s.ticks < t + 1000000000)) →
      exec .nodeIdConflict s = .next (let u := bump (setPunel s (fun p => { p with collisions := cs.take 16, state := if 16 ≤ cs.length then 3 else 1 })) Obj.fieldCollisions
        if 16 ≤ cs.length then fieldSend u s.punel.fieldOut.length else u)) ∧
    (∀ (s : State) (mac : BitVec 48) (u : List Byte), sendUnit s (.field mac) u = if sendsFreely s = true then emit s (.punel (.field mac) u)
      else setPunel s (fun p => { p with fieldOut := p.fieldOut ++ [(.field mac, u)] })) ∧
    (∀ (s : State) n a p (u : List Byte), sendUnit s (.udp n a p) u = sendDict s (activeSite s) (siteHD n.val) a.toNat p.toNat u)
  )

/-- Life cycle, tamper, attestation, vendor challenge. A request that fails a check leaves only its cause in LC_RESULT; else the LIFECYCLE record is made, and the state changes when it commits. A tamper source with supply wipes both sealed SRAMs, sets both latches and is counted; without supply only the mesh is remembered, and a broken mesh does not break again. A READ of the report is a unit like any other; a report carries no signature while the latch is set. Only while a barista serves may a field client in SERVICE with fewer than three failures answer its challenge, and any other response changes nothing. The debug contacts are alive only in SERVICE while a field client holds vendor privilege. (R424, R426, R427, R428, R429, R430, R432, R462) -/
def Obligations.LifeCycleAndTamper : Prop :=
  (∀ (bs : List Byte) (s : State), collectorUp s = true → exec (.lcRequest bs) s = .next (
      if lcCause s bs = 0 then commitDue (lcRecord (dset s Obj.lcResult 0) (leAt bs 1 1) (lcKey (lcView s).1 (leAt bs 1 1) (lcView s).2.1 (slice bs 24 57))
          (((lcView s).2.2.1 + 1) % 2 ^ 32) (lcView s).2.2.2 (b2n (leAt bs 1 1 == 0 || leAt bs 1 1 == 4)))
      else dset s Obj.lcResult (lcCause s bs))) ∧
  (∀ (bs : List Byte) (s : State), (collectorUp s = false → exec (.lcRequest bs) s = .next s) ∧ (bs.length ≠ 202 → lcCause s bs = 1)) ∧
  (∀ (s : State), (s.sec.meshBroken = true → exec (.tamper 0) s = .next s) ∧
    (s.sec.meshBroken = false → powered s = false → exec (.tamper 0) s = .next (setSec s (fun x => { x with meshBroken := true }))) ∧
    (s.sec.meshBroken = false → powered s = true → exec (.tamper 0) s = .next (countTamper (dset (setSec s (fun x => { x with
      meshBroken := true, sealed_ := [], latch := [(0, true), (1, true)], lastSource := 1, owed := x.owed + 1, meshSeen := true })) Obj.tamperLast s.now.toNat)))) ∧
  (∀ (src : Fin 3) (s : State), src ≠ 0 → (powered s = false → exec (.tamper src) s = .next s) ∧
    (powered s = true → exec (.tamper src) s = .next (countTamper (dset (setSec s (fun x => { x with
      sealed_ := [], latch := [(0, true), (1, true)], lastSource := src.val + 1, owed := x.owed + 1, meshSeen := x.meshSeen })) Obj.tamperLast s.now.toNat)))) ∧
  (∀ (id : ClientId) (f : UnitFrame) (u : List Byte) (s : State),
    exec (.attestReport id f u) s = .next (if leAt u 1 1 = 1 ∧ (punelReq u).code = Obj.attestReport then unitIn s id false f u else s)) ∧
  (∀ (s : State) (nonce : List Byte), tget (fun _ => false) s.sec.latch s.active.val = true → attestReport s nonce = attestBody s nonce ++ List.replicate 114 0) ∧
  (∀ (mac : BitVec 48) (sig : List Byte) (s : State), ((collectorUp s = false ∨ clientAt s (.field mac) = none) → exec (.vendorResponse (.field mac) sig) s = .next s) ∧
    ∀ (c : Client), clientAt s (.field mac) = some c →
    ((dval s Obj.lcState ≠ 3 ∨ 3 ≤ c.fails) → exec (.vendorResponse (.field mac) sig) s = .next s) ∧
    (collectorUp s = true → dval s Obj.lcState = 3 → c.fails < 3 → exec (.vendorResponse (.field mac) sig) s = .next (
      if sigOk vendorKey "BZ3VCHAL" (challengeBytes s c) sig = true then updClient s (.field mac) (fun c => { c with vendor := true })
      else updClient s (.field mac) (fun c => { c with fails := c.fails + 1 })))) ∧
  (∀ (n : Fin 2) (a : BitVec 128) (p : BitVec 16) (sig : List Byte) (s : State), exec (.vendorResponse (.udp n a p) sig) s = .next s) ∧
  (∀ (s : State), debugContacts s = .alive ↔ dval s Obj.lcState = 3 ∧ ∃ c ∈ s.punel.clients, c.vendor = true ∧ ∃ mac, c.id = .field mac)

/-- Updating and confirming firmware. A segment that continues the client's own image is stored; one of another client, out of place or of a wrong length changes nothing. A first segment begins an image if none is under way: the slot is emptied, by a record, or by the boot ROM in recovery; a retired module takes none. A whole image is checked: if it fails, the slot is emptied and the check's number is the result; else it is copied to a standby's carafe, and marked staged (armed at once in recovery). ACTIVATE arms a staged slot, and in recovery starts the module again with an armed one. CONFIRM, or the confirm time, confirms a running trial and raises the rollback counter to its version. Without a barista that serves it, out of its state, before its time or with a value other than 1, each changes nothing. (R411, R433, R434, R435, R436, R437) -/
def Obligations.FirmwareUpdate : Prop :=
  (∀ (id : ClientId) (first last : Bool) (offset total : BitVec 32) (data : List Byte) (s : State), (collectorUp s = false → s.sec.recovery = false → exec (.updateImage id first last offset total data) s = .next s) ∧
    ((collectorUp s = true ∨ s.sec.recovery = true) →
      exec (.updateImage id false last offset total data) s = .next (
        if s.sec.updState ≠ 1 ∨ s.sec.updClient ≠ some id ∨ offset.toNat ≠ s.sec.updBuf.length ∨ (last = false ∧ data.length ≠ 1024) ∨ (last = true ∧ s.sec.updBuf.length + data.length ≠ s.sec.updTotal) ∨
          s.sec.updTotal < s.sec.updBuf.length + data.length then s
        else afterSegment (setSec s (fun x => { x with updBuf := x.updBuf ++ data })) last) ∧
      ∀ k u p, k = inactiveSlot s → u = setSec s (fun x => { x with updState := 1, updClient := some id, updTotal := total.toNat, updBuf := data }) → p = withSlot u k 0 →
      exec (.updateImage id true last offset total data) s = .next (
        if (s.sec.updState = 1 ∧ s.sec.updClient ≠ some id) ∨ s.sec.updState = 2 ∨ s.sec.updState = 3 ∨ offset.toNat ≠ 0 ∨ total.toNat ≠ 512 + leAt data 16 4 ∨ data.length < 20 ∨
          (last = false ∧ data.length ≠ 1024) ∨ (last = true ∧ data.length ≠ total.toNat) then s
        else if dval s Obj.lcState = 4 then dset s Obj.updateResult 6
        else afterSegment (if s.sec.recovery = true then romSlots u p.1 p.2 else commitDue (fwSlotRecord u k 0)) last))) ∧
  (∀ (s u : State) (last : Bool), u = (if s.sec.pendingFw = [] then setFwImage s s.active.val (inactiveSlot s) s.sec.updBuf else s) →
    afterSegment s last = if last = true then setSec u (fun x => { x with updState := 2 }) else u) ∧
  (∀ (s : State) k p, k = inactiveSlot s → p = withSlot s k 3 →
    markStaged s = if s.sec.recovery = true then setSec (romSlots s p.1 p.2) (fun x => { x with updState := 5, updBuf := [] }) else commitDue (fwSlotRecord s k 1)) ∧
  (∀ (s : State), ((s.sec.updState ≠ 2 ∨ s.sec.pendingFw ≠ []) → exec .imageVerified s = .next s) ∧ ((s.sec.updState ≠ 3 ∨ s.sec.pendingFw ≠ []) → exec .imageCopied s = .next s) ∧
    (∀ u v, s.sec.updState = 2 → s.sec.pendingFw = [] → u = dset s Obj.updateResult (imageCheck s s.sec.updBuf) → v = setSec u (fun x => { x with updState := 3 }) →
      exec .imageVerified s = .next (if imageCheck s s.sec.updBuf ≠ 0 then dropUpdate u 7 else if standbyHere u = true ∧ s.sec.recovery = false then v else markStaged v)) ∧
    (s.sec.updState = 3 → s.sec.pendingFw = [] → exec .imageCopied s = .next (markStaged (setFwImage s (1 - s.active.val) (inactiveSlot s) s.sec.updBuf)))) ∧
  (∀ (v : BitVec 8) (s : State), (collectorUp s = false → s.sec.recovery = false → exec (.updateActivate v) s = .next s) ∧
    (s.sec.recovery = true → exec (.updateActivate v) s = .next (if v = 1 ∧ slotSt s (inactiveSlot s) = 3 then enterRom s s.startup.slotId s.ticks s.ticks else s)) ∧
    (collectorUp s = true → s.sec.recovery = false → exec (.updateActivate v) s = .next (if v = 1 ∧ slotSt s (inactiveSlot s) = 1 ∧ s.sec.pendingFw = []
      then commitDue (fwSlotRecord (setSec s (fun x => { x with updState := 4 })) (inactiveSlot s) 3) else s))) ∧
  (∀ (v : BitVec 8) (s : State), exec (.updateConfirm v) s = .next (if collectorUp s = true ∧ v = 1 then (confirmTrial s).2 else s) ∧
    exec .confirmTimer s = .next (if dval s Obj.updateConfirmTime = 0 ∨ dval s Obj.moduleState ≠ 1 ∨ collectorUp s = false ∨ s.ticks < s.startup.readyTick + dval s Obj.updateConfirmTime * 1000000000
      then s else (confirmTrial s).2)) ∧
  (∀ (s : State), (bootedOf s s.active.val = none → (confirmTrial s).2 = s) ∧ ∀ b, bootedOf s s.active.val = some b →
    (confirmTrial s).2 = if s.sec.trial = false ∨ s.sec.pendingFw ≠ [] then s else commitDue (fwRecord (setSec s (fun x => { x with updState := 6 }))
      (if b = 0 then 2 else 1) (if b = 0 then 1 else 2) (some (max (dval s Obj.rollbackSvn) (leAt (runningImage s) 12 4)))))

/-- The steps of start-up and their limits. Start-up begins with SLOT_ID at a good input. Each event acts in its own step only, and changes nothing in another: stages found bad retired, the boot ROM's result once for each barista (the cold plate fails start-up with cause 7, a failed test leaves the barista out, a broken mesh not yet counted is owed), the carafe recovered from what its units hold, a die's report, a self-test that fences its die with cause 2, joints spared, two in a group, each changed group recorded once, combs lit or out, stacks trained or failed once, lines excluded or noted. A step ends when its units have finished, or at its limit, step 1 excepted. (R394, R397, R439, R440, R441, R442, R443, R444, R450) -/
def Obligations.StartUpSteps : Prop :=
  (∀ (slotId : BitVec 6) (s : State), exec (.startUp (.input slotId)) s = .next (if s.startup.step = 0 ∧ dval s Obj.moduleState = 0 ∧ s.startup.inReset = false ∧ s.pow.good ≠ none then
    { s with
      startup := { ({} : Startup) with step := 1, began := s.ticks, stepAt := s.ticks, slotId := slotId }
      pow := { s.pow with failed := false } } else s)) ∧
  (∀ (bad : List (Fin 12)) (s : State), exec (.startUp (.stages bad)) s = .next (if s.startup.step = 1 then
    setPow (finishUnit s 0) (fun w => { w with stagesFailed := [], stagesRetired := List.foldl (fun l p => addPos l p.val) w.stagesRetired bad }) else s)) ∧
  (∀ (b : Fin 2) (pass plate : Bool) (s : State), exec (.startUp (.rom b pass plate)) s = .next (if s.startup.step = 2 ∧ unitDone s b.val = false then romResult s b.val pass plate else s)) ∧
  (∀ (b : Fin 2) (pass : Bool) (s u : State), romResult s b.val pass true = startFail s 7 ∧ romResult s b.val false false = setRole (finishUnit s b.val) b.val .dead ∧
    (u = setSec (finishUnit s b.val) (fun x => { x with latch := tset (fun _ => false) x.latch b.val s.sec.meshBroken, sealed_ := tset (fun _ => false) x.sealed_ b.val (!s.sec.meshBroken) }) →
      romResult s b.val true false = if s.sec.meshBroken = true ∧ s.sec.meshSeen = false then dset (setSec u (fun x => { x with meshSeen := true, owed := x.owed + 1, lastSource := 1 })) Obj.tamperLast s.now.toNat else u)) ∧
  (∀ (b : Fin 2) (erased : List (BitVec 24)) (lost : List (Fin 2 × FactoryItem)) (s : State) c u, c = recoverCarafe { eraseUnits (carafeOf s b.val) (erased.map (·.toNat)) with lost := lost } →
    u = finishUnit (setCarafe s b.val c) b.val →
    exec (.startUp (.carafe b erased lost)) s = .next (if s.startup.step = 3 ∧ romLive s b.val = true ∧ unitDone s b.val = false then (if newestGen c ≠ none then finishUnit u (10 + b.val) else u) else s)) ∧
  (∀ (site : Fin 100) k rev level id (s : State), exec (.startUp (.report site k rev level id)) s = .next (if s.startup.step = 4 then
    setStartup s (fun x => { x with reports := tset (fun _ => none) x.reports site.val (some (k, rev, level, id)) }) else s)) ∧
  (∀ (site : Fin 100) (pass : Bool) (s : State), exec (.startUp (.selfTest site pass)) s = .next (if s.startup.step = 6 ∧ (testSites s).contains site.val = true then
    (if pass = true then finishUnit s site.val else startFence s site.val 2) else s)) ∧
  (∀ (site : Fin 100) (group : BitVec 16) (carries : JointCarries) (failed : List (Fin 34)) (s : State), exec (.startUp (.joints site group carries failed)) s = .next (if s.startup.step = 7 then
    failed.foldl (fun u j => jointFails u site.val group.toNat j.val carries (fun x => startFence x site.val 8)) s else s) ∧
    exec (.startUp .jointsTested) s = .next (if s.startup.step = 7 then commitDue (finishUnit (setStartup
      (s.startup.jointsNew.foldl (fun u key => jointRecord u key (jointAt u key)) s) (fun x => { x with jointsNew := [] })) 0) else s)) ∧
  (∀ (site group joint : Nat) (carries : JointCarries) (fence : State → State) (s : State) key g g', key = jointKey site group → g = jointAt s key → g' = { g with spared := g.spared ++ [joint] } →
    jointFails s site group joint carries fence = if joint ∈ g.spared ∨ jointFits site carries = false then s
      else if g.spared.length < 2 then
        (if s.startup.step = 7 then setStartup (setJoint s key g') (fun x => { x with jointsNew := addPos x.jointsNew key }) else jointRecord (setJoint s key g') key g')
      else if g.beyond = true then s else jointOutcome (setJoint s key { g with beyond := true }) site carries fence) ∧
  (∀ (c : Fin 10) (locked : Bool) (s : State), exec (.startUp (.comb c locked)) s = .next (if s.startup.step = 8 ∧ (litCombs s).contains c.val = true then
    (if locked = true then finishUnit (setDom s (domLC c.val) .on) c.val else combOut (finishUnit s c.val) c.val) else s)) ∧
  (∀ (m : Fin 24) (trained : Bool) (bd : Option (Fin 18)) (s : State), exec (.startUp (.stack m trained bd)) s = .next (
    if s.startup.step = 9 ∧ (trainStacks s).contains m.val = true ∧ unitDone s m.val = false ∧ s.journal.pending.any (fun r => r.type == 0x0030 && leAt r.data 0 1 == 1) = false then
      finishUnit (if trained = true then stackTrained s m.val bd else updStack s m.val (stackOut 2)) m.val else s)) ∧
  (∀ (p : Fin 366) (rx : Bool) (line : Fin 36) (bad : Bool) (n : BitVec 32) (s u : State), u = setStartup s (fun x => { x with badLines := addPos x.badLines (Machine.ringKey p.val rx line.val) }) →
    exec (.startUp (.line p rx line bad n)) s = .next (if s.startup.step = 10 ∧ (bad = true ∨ dval s Obj.laneErrLimit < n.toNat) then applyExclude (if bad = true ∨ 0 < n.toNat then u else s) p.val rx line.val
      else if s.startup.step = 10 ∧ 0 < n.toNat then u else s)) ∧
  (∀ (s : State), exec (.startUp .ended) s = .next (if stepDone s = true then endStep s else s) ∧
    exec .startupStepLimit s = .next (if s.startup.step ≤ 1 ∨ s.ticks < s.startup.stepAt + stepLimit s s.startup.step then s else endStep s))

/-- RESET_N, the grinder and failing joints. RESET_N low for less than 4 us does nothing; for 6 us or more it resets a powered module, and between the two it may (a free value): both baristas silent, the job gone, ALERT_N released. On release start-up enters step 2, 5 ms after assertion or at release, and nothing but what is kept remains; without a reset it does nothing. GRINDER_RUN of 1 or 2 runs without a job and without a march only; a march ends in state 2, or in 3 after counting each failed line, which raises TILE_CHECK or has its die fenced; a destructive one clears the stores. A joint that fails in service is named for a boundary 700 ns ahead; in no other state is it. (R332, R358, R444, R445, R446, R447, R460) -/
def Obligations.ResetGrinderJoints : Prop :=
  (∀ (held : BitVec 32) (s : State) hit u, hit = (decide (6000 ≤ held.toNat) || (decide (4000 ≤ held.toNat ∧ held.toNat < 6000) && Config.freeBool s.freeCtr 0x10A0)) → u = (if 4000 ≤ held.toNat ∧ held.toNat < 6000 then bumpFree s else s) →
    ((s.pow.failed = true ∨ s.startup.inReset = true ∨ powered s = false ∨ hit = false) → exec (.resetN held) s = .next u) ∧
    (hit = true → s.pow.failed = false → s.startup.inReset = false → powered s = true → ∃ t, exec (.resetN held) s = .next t ∧ t.role0 = .silent ∧ t.role1 = .silent ∧
      t.faults.alert = .released ∧ t.startup.inReset = true ∧ t.job = none ∧ t.sent = [] ∧ dval t Obj.moduleState = 0)) ∧
  (∀ (slotId : BitVec 6) (s : State), (s.startup.inReset = false → exec (.resetRelease slotId) s = .next s) ∧
    (s.startup.inReset = true → ∃ t, exec (.resetRelease slotId) s = .next t ∧ t.startup.step = 2 ∧ t.startup.slotId = slotId ∧
      t.startup.stepAt = max s.ticks (s.startup.resetLow + 5000000) ∧ t.dict = State.reset.dict ∧ t.tiles = [] ∧ t.job = none ∧ (carafeOf t 0).units = (carafeOf s 0).units ∧
      (carafeOf t 1).units = (carafeOf s 1).units ∧ t.sec.meshBroken = s.sec.meshBroken ∧ t.now = s.now)) ∧
  (∀ (v : BitVec 8) (s : State), exec (.grinderRun v) s = .next (
    if s.job = none ∧ s.startup.grinder ≠ 1 ∧ (v = 1 ∨ v = 2) then setStartup s (fun x => { x with grinder := 1, grinderMode := v.toNat }) else s)) ∧
  (∀ (s : State) (fs : List MarchFail), exec (.grinderDone fs) s = .next (if s.startup.grinder ≠ 1 then s
    else fs.foldl marchFail (setStartup (if s.startup.grinderMode = 1 then marchClear s else s) (fun x => { x with grinder := if fs.isEmpty = true then 2 else 3 })))) ∧
  (∀ (s u : State) (cd : Fin 16) (t : Fin 64) (deep : Bool) (site : Fin 100) (n : BitVec 32), u = bump s Obj.grinderFailures n.toNat →
    marchFail s (.store cd t deep n) = raise u (siteCD cd.val) 0x01 0x02 5 false (t.val * 2 ^ 34 + (if deep = true then 0xF1 else 0xF0)) ∧
    marchFail s (.buffer site n) = if u.startup.step ≠ 0 then startFence u site.val 2 else if fencedSite u site.val = true then u else sendFence u site.val none 2 (boundaryAfter u 700)) ∧
  (∀ (site : Fin 100) (g : BitVec 16) (carries : JointCarries) (j : Fin 34) (s : State), exec (.jointFail site g carries j) s = .next (
    if dval s Obj.moduleState = 1 ∧ jointFits site.val carries = true then schedule s (boundaryAfter s 700) (.joint site.val g.toNat j.val carries) else s))

/-- A step runs the command at the front of the queue on the rest. For every command c and state s, a step of s with c at the front of its queue is exec of c on s; so the queue's rest is what exec sees and the command runs once. On an empty queue the step is one tick: module time and the tick count each rise by one, and then, in this order, what the dies do by themselves is done: waiting memory requests and paced fabric packets leave (fabricClock), host bring-up steps past their limit fail and slowed requests go on (hostClock), a silent best PTP master is dropped (ptpClock), and the fault log's write queue empties (logClock) (the model's choice, log entry 1). (00_scope.md, R306) -/
def Obligations.StepTakesFront : Prop :=
  (∀ (c : Instr) (s : State), step { s with pending := c :: s.pending } = exec c s) ∧
  (∀ (c : Instr) (rest : List Instr) (s : State), s.pending = c :: rest → step s = exec c { s with pending := rest }) ∧
  (∀ s : State, s.pending = [] → step s = .next (logClock (ptpClock (hostClock (fabricClock { s with ticks := s.ticks + 1, now := s.now + 1 })))))

/-- What the machine holds after reset. After reset the queue is empty, module start-up has not begun (MODULE_STATE 0), and what is stored has its canonical form. Every register of Table 11 of every tile is zero but SR_SEED, which is 64 n + t + 1 for tile t of CDn; every accumulator is empty. Settings stand at the defaults their tables give: MESH_COMBINE_WAIT 8, CAL_INTERVAL 10,000 ms, MEM_MARK_LIMIT 64, MEM_STACK_FAIL_LIMIT 4,096. (R36, R44, R50, R169, R148, R178, R195, R439) -/
def Obligations.ResetValues : Prop :=
  State.reset.pending = [] ∧ Memory.wf State.reset = true ∧ dval State.reset Obj.moduleState = 0 ∧
  (∀ (n : Fin 16) (t : Fin 64) (q : Mq) (d : Dma), q = (tileAt State.reset (tkey n t)).mq → d = (tileAt State.reset (tkey n t)).dma →
    q.srSeed = BitVec.ofNat 64 (64 * n.val + t.val + 1) ∧ q.base = 0 ∧ q.tail = 0 ∧ q.head = 0 ∧ q.done = 0 ∧
    q.started = [] ∧ q.halted = false ∧ q.aborted = false ∧ q.error = 0 ∧ q.tag = 0 ∧ q.enable = false ∧ q.notifyIe = false ∧ q.errorIe = false ∧
    q.intSat = false ∧ q.overflow = false ∧ q.nanOut = false ∧ q.specialIn = false ∧ (∀ a, (accOf q a).kind = .empty) ∧
    d.src = 0 ∧ d.dst = 0 ∧ d.done = 0 ∧ d.bad = false ∧ d.queue = []) ∧
  dval State.reset Obj.meshCombineWait = 8 ∧ dval State.reset Obj.calInterval = 10000 ∧
  dval State.reset Obj.memMarkLimit = 64 ∧ dval State.reset Obj.memStackFailLimit = 4096

/-- No command in any state stops the block, and a step uses up exactly the front of the queue. For every command with every operand value, in every state, exec answers a next state (no fault, no refusal), and the queue of waiting commands is as it was. So a step with commands waiting always goes on and leaves exactly the commands behind the first, in their order, and a step with none leaves none. That an event whose condition does not hold changes nothing, where a stop would be the alternative, is the model's choice (log entry 2). (00_scope.md, R22, R23) -/
def Obligations.NoCommandStops : Prop :=
  (∀ (c : Instr) (s : State), ∃ t, exec c s = .next t ∧ t.pending = s.pending) ∧
  (∀ s : State, ∃ t, step s = .next t ∧ t.pending = s.pending.tail)

/-- An atomic changes one word of one DRAM line, and the word reads back. Where a stack executes an atomic, the line decodes clean and what is stored has its canonical form (StoredFormKept), the command completes, and afterwards the line reads as it did with only the record's 8 bytes replaced by the new word of Table 10, marked exactly where the record carried poison; the word the record names reads back as the new word; and every other line of every stack reads as before, data and mark, whether the buffer holds it, gave it back or never held it. (R165, R175, R184, R187) -/
def Obligations.AtomicsChangeOneWord : Prop :=
  ∀ (md : Fin 24) (site : Fin 100) (r : OpRecord) (p : Bool) (s : State) (op : Nat) (c : Instr),
    (op, c) ∈ [(1, Instr.add md site r p), (2, .swap md site r p), (3, .cas md site r p), (4, .min md site r p), (5, .max md site r p), (6, .minu md site r p),
      (7, .maxu md site r p), (8, .and md site r p), (9, .or md site r p), (10, .xor md site r p)] →
    Memory.wf s = true → RecordRuns s md.val r op → lineState (stackAt s md.val) (recordLine s r) = .clean →
    ∃ t new, new = atomicNew op (recordWord s md.val r) r.operand r.compare ∧ exec c s = .next t ∧
      lineRead (stackAt t md.val) (recordLine s r) =
        (splice (lineBytes (stackAt s md.val) (recordLine s r)) (((mapAddr s r.addr.toNat).getD (0, 0)).2 % 64) (toLe 8 new.toNat), p) ∧
      recordLine t r = recordLine s r ∧ recordWord t md.val r = new ∧
      ∀ m l, (m ≠ md.val ∨ l ≠ recordLine s r) → lineRead (stackAt t m) l = lineRead (stackAt s m) l

/-- The check code corrects any error of one die, and never passes two where one is marked. Take 64 bytes written to a line with their check symbols P and Q, and read a line of the DRAM (not in the write-back buffer) whose symbols differ from them in one die only, by any nonzero pattern: with no die marked, or that die marked, the line decodes as corrected for that die and the bytes come back as written, unmarked. With die m marked and any other die in error, whatever the error on m, the line is delivered poison-marked. (R175, R176) -/
def Obligations.DramCorrectsOneDie : Prop :=
  ∀ (d : List Byte) (st : Stack) (l : Nat) (i j : Fin 18) (e f : BitVec 32), d.length = 64 → i ≠ j → e ≠ 0 → bufLineAt st l = none →
    (∀ k : Nat, k < 16 → symbol (lineBytes st l) k = symbol d k ^^^ (if k = i.val then e else if k = j.val then f else 0)) →
    lineCheck st l = (checkQ d ^^^ (if i.val = 17 then e else if j.val = 17 then f else 0)) ++ (checkP d ^^^ (if i.val = 16 then e else if j.val = 16 then f else 0)) →
    (f = 0 → (st.marked = none ∨ st.marked = some i) → lineState st l = .corrected i ∧ lineRead st l = (d, false)) ∧
    (st.marked = some j → (lineRead st l).2 = true)

/-- In every period each tile has the same tile of another die as its partner, and 15 periods pair every two dies. With M of a period, 1 to 15, tile t of CDn has as its partner tile t of CD(n xor M), which is another compute die, and is that tile's partner in turn. In any 15 periods in a row, with M = 1 + (k mod 15), each compute die meets each other one. (R369) -/
def Obligations.CupPartners : Prop :=
  (∀ (c : Cupping) (n t : Nat), n < 16 → t < 64 → 1 ≤ c.m → c.m ≤ 15 →
    cupPair c (64 * n + t) = 64 * (n ^^^ c.m) + t ∧ cupPair c (64 * n + t) % 64 = (64 * n + t) % 64 ∧ n ^^^ c.m < 16 ∧
    cupPair c (64 * n + t) / 64 ≠ (64 * n + t) / 64 ∧ cupPair c (cupPair c (64 * n + t)) = 64 * n + t) ∧
  (∀ k0 n n' t, n < 16 → n' < 16 → n ≠ n' → t < 64 → ∃ k, k0 ≤ k ∧ k < k0 + 15 ∧ ∀ c : Cupping, c.m = 1 + k % 15 → cupPair c (64 * n + t) = 64 * n' + t)

/-- Every kind of die has the code of Table 7. Base tiles are coded 0, compute dies 1, cache dies 2, memory base dies 3, fabric dies 4, host dies 5, baristas 6, comb sources 7, reference oscillators 8 and power stages 9, at every site that holds one. (R419) -/
def Obligations.DieKindsCoded : Prop :=
  ∀ site k n, siteKind site = some (k, n) →
    (k = .bt → kindCode site = 0) ∧ (k = .cd → kindCode site = 1) ∧ (k = .kd → kindCode site = 2) ∧ (k = .md → kindCode site = 3) ∧ (k = .fd → kindCode site = 4) ∧
    (k = .hd → kindCode site = 5) ∧ (k = .ba → kindCode site = 6) ∧ (k = .lc → kindCode site = 7) ∧ (k = .os → kindCode site = 8) ∧ (k = .ps → kindCode site = 9)

/-- An integer cell adds exact products, saturates with INT_SAT, and cannot saturate from zero. Each further k adds the exact product of the two INT8 elements to a cell of an integer accumulator: the cell holds the sum where it lies within the INT32 range, else the nearer end of the range with INT_SAT set, which stays set. A cell that starts at zero ends, after at most 65,535 values of k, with the exact sum of all products and no flag. (R54) -/
def Obligations.IntegerCellsExact : Prop :=
  (∀ (rd : Nat → Byte) (d : Desc) (m n k : Nat) (c0 c : BitVec 32) (f : QFlags), mmaInt rd { d with k := k } m n c0 = (c, f) →
    ∀ x : Int, x = c.toInt + aInt rd d m k * bInt rd d k n →
      mmaInt rd { d with k := k + 1 } m n c0 =
        (BitVec.ofInt 32 (max (-2147483648) (min 2147483647 x)), { f with intSat := f.intSat || decide (x < -2147483648 ∨ 2147483647 < x) })) ∧
  (∀ (rd : Nat → Byte) (d : Desc) (m n : Nat), d.k ≤ 65535 →
    (mmaInt rd d m n 0).1.toInt = ((List.range d.k).map (fun k => aInt rd d m k * bInt rd d k n)).sum ∧ (mmaInt rd d m n 0).2 = {})

/-- Every step keeps what is stored in its canonical form. From every state whose tile stores, deep stores and DRAM are in canonical form (addresses strictly rising, no listed byte that reads as an unlisted one) whose write-back buffers hold at most 256 lines of 64 bytes, each once, and whose mapped sets start at whole multiples of 768 GiB, every command with every operand value, and every step, leaves a state of that form: so equal contents are equal data, whatever wrote them. The form is the model's way to hold stores (log entries 24 and 49). (R166, R175, R179) -/
def Obligations.StoredFormKept : Prop :=
  (∀ (c : Instr) (s t : State), Memory.wf s = true → exec c s = .next t → Memory.wf t = true) ∧
  (∀ s t : State, Memory.wf s = true → step s = .next t → Memory.wf t = true)
end

