-- ==== Sys2Proof/Laws/QueueOps.lean ====
section
/-! SUPPORT. No command touches the queue: base lemmas, and those of Ops.lean. -/
set_option linter.unusedTactic false
set_option linter.unreachableTactic false
namespace Sys2Proof.Machine
@[simp] theorem State.outer_mk : ∀ x0 x1 x2 x3 x4 x5 x6 x7 x8 x9 x10 x11 x12 x13 x14 x15 x16 x17 x18 x19 x20 x21 x22 x23 x24 x25 x26 x27 x28 x29 x30 x31 x32 x33 x34 x35 x36 x37 x38 x39 x40 x41 x42 x43 x44 x45 x46 x47 x48 x49 x50 x51 x52 x53 x54 x55 x56 x57 x58, (State.mk x0 x1 x2 x3 x4 x5 x6 x7 x8 x9 x10 x11 x12 x13 x14 x15 x16 x17 x18 x19 x20 x21 x22 x23 x24 x25 x26 x27 x28 x29 x30 x31 x32 x33 x34 x35 x36 x37 x38 x39 x40 x41 x42 x43 x44 x45 x46 x47 x48 x49 x50 x51 x52 x53 x54 x55 x56 x57 x58).outer = x0 := by intros; rfl
@[simp] theorem State.outer_eta (s : State) : s.pending = s.outer := rfl
@[simp] theorem State.outer_ite (c : Prop) [Decidable c] (a b : State) : (if c then a else b).outer = if c then a.outer else b.outer := by split <;> rfl
@[simp] theorem State.outer_ite2 {α : Type} (c : Prop) [Decidable c] (a b : α × State) : (if c then a else b).2.outer = if c then a.2.outer else b.2.outer := by split <;> rfl
@[simp] theorem State.outer_ite1 {α : Type} (c : Prop) [Decidable c] (a b : State × α) : (if c then a else b).1.outer = if c then a.1.outer else b.1.outer := by split <;> rfl
theorem State.outer_foldl {α : Type} (g : State → α → State) (l : List α) (s : State) (h : ∀ s x, (g s x).outer = s.outer) : (l.foldl g s).outer = s.outer := by
  induction l generalizing s with
  | nil => rfl
  | cons x l ih => simp only [List.foldl_cons]; rw [ih, h]
theorem State.outer_foldl_2 {α β : Type} (g : β × State → α → β × State) (l : List α) (r : β × State) (h : ∀ r x, (g r x).2.outer = r.2.outer) : (l.foldl g r).2.outer = r.2.outer := by
  induction l generalizing r with
  | nil => rfl
  | cons x l ih => simp only [List.foldl_cons]; rw [ih, h]
theorem State.outer_foldl_1 {α β : Type} (g : State × β → α → State × β) (l : List α) (r : State × β) (h : ∀ r x, (g r x).1.outer = r.1.outer) : (l.foldl g r).1.outer = r.1.outer := by
  induction l generalizing r with
  | nil => rfl
  | cons x l ih => simp only [List.foldl_cons]; rw [ih, h]
theorem State.outer_foldl_3 {α β γ : Type} (g : β × γ × State → α → β × γ × State) (l : List α) (r : β × γ × State) (h : ∀ r x, (g r x).2.2.outer = r.2.2.outer) : (l.foldl g r).2.2.outer = r.2.2.outer := by
  induction l generalizing r with
  | nil => rfl
  | cons x l ih => simp only [List.foldl_cons]; rw [ih, h]
theorem outer_let {s v : State} {P : State → Prop} (h1 : v.outer = s.outer) (h2 : ∀ x, x.outer = s.outer → P x) : have x := v; P x := h2 v h1
theorem outer_let2 {α : Type} {s : State} {v : α × State} {P : α × State → Prop} (h1 : v.2.outer = s.outer) (h2 : ∀ x, x.2.outer = s.outer → P x) : have x := v; P x := h2 v h1
theorem outer_let1 {α : Type} {s : State} {v : State × α} {P : State × α → Prop} (h1 : v.1.outer = s.outer) (h2 : ∀ x, x.1.outer = s.outer → P x) : have x := v; P x := h2 v h1
@[simp] theorem outer_overNats (ns : List Nat) (f : Nat → State → State) (s : State) (h : ∀ n s, (f n s).outer = s.outer) : (overNats ns f s).outer = s.outer :=
  State.outer_foldl _ ns s (fun s n => h n s)
@[simp] theorem outer_dset (s : State) (a1 : Nat) (a2 : Nat) : (dset s a1 a2).outer = s.outer := by unfold dset; rfl
@[simp] theorem outer_bump (s : State) (a1 : Nat) (a2 : Nat) : (bump s a1 a2).outer = s.outer := by unfold bump; rfl
@[simp] theorem outer_setBlob (s : State) (a1 : Nat) (a2 : List Byte) : (setBlob s a1 a2).outer = s.outer := by unfold setBlob; rfl
@[simp] theorem outer_raiseMax (s : State) (a1 : Nat) (a2 : Nat) : (raiseMax s a1 a2).outer = s.outer := by unfold raiseMax; (try lift_lets); (repeat' (first | intro _ | (split <;> (try lift_lets)))) <;> simp +zetaDelta
@[simp] theorem outer_setTile (s : State) (a1 : Nat) (a2 : Machine.Tile) : (setTile s a1 a2).outer = s.outer := by unfold setTile; rfl
@[simp] theorem outer_updTile (s : State) (a1 : Nat) (a2 : Machine.Tile → Machine.Tile) : (updTile s a1 a2).outer = s.outer := by unfold updTile; rfl
@[simp] theorem outer_setDie (s : State) (a1 : Nat) (a2 : Machine.ComputeDie) : (setDie s a1 a2).outer = s.outer := by unfold setDie; rfl
@[simp] theorem outer_setInfl (s : State) (a1 : Nat) (a2 : Machine.Inflater) : (setInfl s a1 a2).outer = s.outer := by unfold setInfl; rfl
@[simp] theorem outer_setPort (s : State) (a1 : Nat) (a2 : Machine.PortSt) : (setPort s a1 a2).outer = s.outer := by unfold setPort; rfl
@[simp] theorem outer_updPort (s : State) (a1 : Nat) (a2 : Machine.PortSt → Machine.PortSt) : (updPort s a1 a2).outer = s.outer := by unfold updPort; rfl
@[simp] theorem outer_setBt (s : State) (a1 : Nat) (a2 : Machine.BaseTile) : (setBt s a1 a2).outer = s.outer := by unfold setBt; rfl
@[simp] theorem outer_updBt (s : State) (a1 : Nat) (a2 : Machine.BaseTile → Machine.BaseTile) : (updBt s a1 a2).outer = s.outer := by unfold updBt; rfl
@[simp] theorem outer_setStack (s : State) (a1 : Nat) (a2 : Machine.Stack) : (setStack s a1 a2).outer = s.outer := by unfold setStack; rfl
@[simp] theorem outer_updStack (s : State) (a1 : Nat) (a2 : Machine.Stack → Machine.Stack) : (updStack s a1 a2).outer = s.outer := by unfold updStack; rfl
@[simp] theorem outer_setDom (s : State) (a1 : Nat) (a2 : Machine.DomSt) : (setDom s a1 a2).outer = s.outer := by unfold setDom; rfl
@[simp] theorem outer_wakeFromOff (s : State) (a1 : Nat) : (wakeFromOff s a1).outer = s.outer := by unfold wakeFromOff; (try lift_lets); (repeat' (first | intro _ | (split <;> (try lift_lets)))) <;> simp +zetaDelta
@[simp] theorem outer_emit (s : State) (a1 : Machine.Output) : (emit s a1).outer = s.outer := by unfold emit; rfl
@[simp] theorem outer_deliver (s : State) (a1 : Machine.Output) : (deliver s a1).outer = s.outer := by unfold deliver; rfl
@[simp] theorem outer_sigArrive (s : State) (a1 : SigPacket) : (sigArrive s a1).outer = s.outer := by unfold sigArrive; (try lift_lets); (repeat' (first | intro _ | (split <;> (try lift_lets)))) <;> simp +zetaDelta
@[simp] theorem outer_raiseMsg (s : State) (a1 : FaultMsg) : (raiseMsg s a1).outer = s.outer := by unfold raiseMsg; (try lift_lets); (repeat' (first | intro _ | (split <;> (try lift_lets)))) <;> simp +zetaDelta
@[simp] theorem outer_raise (s : State) (a1 : Nat) (a2 : Nat) (a3 : Nat) (a4 : Nat) (a5 : Bool) (a6 : Nat) : (raise s a1 a2 a3 a4 a5 a6).outer = s.outer := by unfold raise; (try lift_lets); (repeat' (first | intro _ | (split <;> (try lift_lets)))) <;> simp +zetaDelta
@[simp] theorem outer_setRole (s : State) (a1 : Nat) (a2 : Machine.BaristaRole) : (setRole s a1 a2).outer = s.outer := by unfold setRole; (try lift_lets); (repeat' (first | intro _ | (split <;> (try lift_lets)))) <;> simp +zetaDelta
@[simp] theorem outer_ctrlSend (s : State) (a1 : Nat) (a2 : Nat) (a3 : Nat) (a4 : (List Word)) : (ctrlSend s a1 a2 a3 a4).outer = s.outer := by unfold ctrlSend; (try lift_lets); (repeat' (first | intro _ | (split <;> (try lift_lets)))) <;> simp +zetaDelta
@[simp] theorem outer_ctrlSendFrom (s : State) (a1 : Nat) (a2 : Nat) (a3 : Nat) (a4 : Nat) (a5 : (List Word)) : (ctrlSendFrom s a1 a2 a3 a4 a5).outer = s.outer := by unfold ctrlSendFrom; rfl
@[simp] theorem outer_ctrlTake (s : State) (a1 : Nat) (a2 : BitVec 7) (a3 : BitVec 32) : (ctrlTake s a1 a2 a3).2.outer = s.outer := by unfold ctrlTake; (try lift_lets); (repeat' (first | intro _ | (split <;> (try lift_lets)))) <;> simp +zetaDelta
@[simp] theorem outer_ctrlTakeAll (s : State) (a1 : BitVec 7) (a2 : BitVec 32) : (ctrlTakeAll s a1 a2).2.outer = s.outer := by unfold ctrlTakeAll; exact State.outer_foldl_2 _ _ _ (fun r x => by simp)
@[simp] theorem outer_schedule (s : State) (a1 : Word) (a2 : Machine.Change) : (schedule s a1 a2).outer = s.outer := by unfold schedule; rfl
@[simp] theorem outer_bumpFree (s : State) : (bumpFree s).outer = s.outer := by unfold bumpFree; rfl
@[simp] theorem outer_setCarafe (s : State) (a1 : Nat) (a2 : Machine.Carafe) : (setCarafe s a1 a2).outer = s.outer := by unfold setCarafe; (try lift_lets); (repeat' (first | intro _ | (split <;> (try lift_lets)))) <;> simp +zetaDelta
@[simp] theorem outer_slotItem (s : State) (a1 : Nat) (a2 : Nat) (a3 : List Byte) : (slotItem s a1 a2 a3).outer = s.outer := by unfold slotItem; rfl
@[simp] theorem outer_mirrorItem (s : State) (a1 : Nat) (a2 : List Byte) : (mirrorItem s a1 a2).outer = s.outer := by unfold mirrorItem; (try lift_lets); (repeat' (first | intro _ | (split <;> (try lift_lets)))) <;> simp +zetaDelta
@[simp] theorem outer_addRecord (s : State) (a1 : Machine.Rec) : (addRecord s a1).outer = s.outer := by unfold addRecord; (try lift_lets); (repeat' (first | intro _ | (split <;> (try lift_lets)))) <;> simp +zetaDelta
@[simp] theorem outer_queueRecord (s : State) (a1 : Nat) (a2 : Nat) (a3 : List Byte) (a4 : Bool) (a5 : Nat) : (queueRecord s a1 a2 a3 a4 a5).outer = s.outer := by unfold queueRecord; (try lift_lets); (repeat' (first | intro _ | (split <;> (try lift_lets)))) <;> simp +zetaDelta
@[simp] theorem outer_queueClassC (s : State) (a1 : Nat) (a2 : Nat) (a3 : List Byte) (a4 : Nat) : (queueClassC s a1 a2 a3 a4).outer = s.outer := by unfold queueClassC; rfl
end Sys2Proof.Machine
end

