-- ==== Sys2Proof/Laws/QueueStore.lean ====
section
/-! SUPPORT. No operation of Store.lean touches the queue. -/
set_option linter.unusedTactic false
set_option linter.unreachableTactic false
namespace Sys2Proof.Machine
@[simp] theorem outer_readEffects (s : State) (a1 : Nat) (a2 : Bool) (a3 : Nat) (a4 : Nat) : (readEffects s a1 a2 a3 a4).outer = s.outer := by unfold readEffects; (try lift_lets); (repeat' (first | intro _ | (split <;> (try lift_lets)) | (refine State.outer_foldl _ _ _ ?_) | (refine (State.outer_foldl _ _ _ ?_).trans ?_) | (refine outer_overNats _ _ _ ?_) | (refine (outer_overNats _ _ _ ?_).trans ?_))) <;> simp +zetaDelta
@[simp] theorem outer_consumePoison (s : State) (a1 : Nat) (a2 : Nat) : (consumePoison s a1 a2).outer = s.outer := by unfold consumePoison; (try lift_lets); (repeat' (first | intro _ | (split <;> (try lift_lets)))) <;> simp +zetaDelta
end Sys2Proof.Machine
end

