-- ==== Sys2Proof/Laws/QueueEngine.lean ====
section
/-! SUPPORT. No operation of Engine.lean touches the queue. -/
set_option linter.unusedTactic false
set_option linter.unreachableTactic false
namespace Sys2Proof.Machine
@[simp] theorem outer_setTherm (s : State) (a1 : Nat) (a2 : Machine.Therm) : (setTherm s a1 a2).outer = s.outer := by unfold setTherm; rfl
@[simp] theorem outer_startDesc (a0 : Nat) (a1 : Nat) (s : State) : (startDesc a0 a1 s).outer = s.outer := by unfold startDesc; (try lift_lets); (repeat' (first | intro _ | (split <;> (try lift_lets)))) <;> simp +zetaDelta [State.outer_foldl]
@[simp] theorem outer_doRetire (a0 : Nat) (s : State) : (doRetire a0 s).outer = s.outer := by unfold doRetire; (try lift_lets); (repeat' (first | intro _ | (split <;> (try lift_lets)))) <;> simp +zetaDelta
@[simp] theorem outer_onTile (a0 : Nat) (a1 : Machine.Tile → Machine.Tile) (s : State) : (onTile a0 a1 s).outer = s.outer := by unfold onTile; (try lift_lets); (repeat' (first | intro _ | (split <;> (try lift_lets)))) <;> simp +zetaDelta
end Sys2Proof.Machine
end

