-- ==== Sys2Proof/Laws/QueueDram.lean ====
section
/-! SUPPORT. No operation of Dram.lean touches the queue. -/
set_option linter.unusedTactic false
set_option linter.unreachableTactic false
namespace Sys2Proof.Machine
@[simp] theorem outer_settleStack (s : State) (a1 : Nat) : (settleStack s a1).outer = s.outer := by unfold settleStack; (try lift_lets); (repeat' (first | intro _ | (split <;> (try lift_lets)))) <;> simp +zetaDelta
@[simp] theorem outer_stackFail (s : State) (a1 : Nat) (a2 : Nat) : (stackFail s a1 a2).outer = s.outer := by unfold stackFail; (try lift_lets); (repeat' (first | intro _ | (split <;> (try lift_lets)))) <;> simp +zetaDelta
@[simp] theorem outer_creditDie (s : State) (a1 : Nat) (a2 : Nat) (a3 : Fin 18) (a4 : Bool) : (creditDie s a1 a2 a3 a4).outer = s.outer := by unfold creditDie; (try lift_lets); (repeat' (first | intro _ | (split <;> (try lift_lets)))) <;> simp +zetaDelta
@[simp] theorem outer_countUncorr (s : State) (a1 : Nat) (a2 : Nat) : (countUncorr s a1 a2).outer = s.outer := by unfold countUncorr; (try lift_lets); (repeat' (first | intro _ | (split <;> (try lift_lets)))) <;> simp +zetaDelta
@[simp] theorem outer_lineReadEffects (s : State) (a1 : Nat) (a2 : Nat) : (lineReadEffects s a1 a2).outer = s.outer := by unfold lineReadEffects; (try lift_lets); (repeat' (first | intro _ | (split <;> (try lift_lets)))) <;> simp +zetaDelta
@[simp] theorem outer_memWriteLine (s : State) (a1 : Nat) (a2 : Nat) (a3 : List Byte) (a4 : Bool) : (memWriteLine s a1 a2 a3 a4).outer = s.outer := by unfold memWriteLine; (try lift_lets); (repeat' (first | intro _ | (split <;> (try lift_lets)))) <;> simp +zetaDelta
@[simp] theorem outer_memMerge (s : State) (a1 : Nat) (a2 : Nat) (a3 : Nat) (a4 : List Byte) (a5 : Bool) : (memMerge s a1 a2 a3 a4 a5).outer = s.outer := by unfold memMerge; (try lift_lets); (repeat' (first | intro _ | (split <;> (try lift_lets)))) <;> simp +zetaDelta
@[simp] theorem outer_dramWriteGo (a0 : State → Nat → Bool) (a1 : Nat) (s : State) (a3 : Nat) (a4 : List Byte) (a5 : Bool) : (dramWriteGo a0 a1 s a3 a4 a5).outer = s.outer := by
  induction a1 generalizing s a3 a4 with
  | zero => rfl
  | succ n ih => simp only [dramWriteGo]; split; rfl; rw [ih]; split <;> (try split) <;> simp
@[simp] theorem outer_dramWrite (s : State) (a1 : Nat) (a2 : List Byte) (a3 : Bool) : (dramWrite s a1 a2 a3).outer = s.outer := by unfold dramWrite; (try lift_lets); (repeat' (first | intro _ | (split <;> (try lift_lets)))) <;> simp +zetaDelta
@[simp] theorem outer_rangeReadEffects (s : State) (a1 : Nat) (a2 : Nat) : (rangeReadEffects s a1 a2).outer = s.outer := by unfold rangeReadEffects; (try lift_lets); (repeat' (first | intro _ | (split <;> (try lift_lets)) | (refine State.outer_foldl _ _ _ ?_) | (refine (State.outer_foldl _ _ _ ?_).trans ?_) | (refine outer_overNats _ _ _ ?_) | (refine (outer_overNats _ _ _ ?_).trans ?_))) <;> simp +zetaDelta
end Sys2Proof.Machine
end

