-- ==== Sys2Proof/Laws/QueueFlow.lean ====
section
/-! SUPPORT. No operation of Flow.lean touches the queue. -/
set_option linter.unusedTactic false
set_option linter.unreachableTactic false
namespace Sys2Proof.Machine
@[simp] theorem outer_flowLine (s : State) (a1 : Nat) (a2 : Nat) (a3 : Nat) (a4 : Bool) : (flowLine s a1 a2 a3 a4).outer = s.outer := by unfold flowLine <;> (try lift_lets); (repeat' (first | intro _ | (split <;> (try lift_lets)) | (refine State.outer_foldl _ _ _ ?_) | (refine (State.outer_foldl _ _ _ ?_).trans ?_) | (refine outer_overNats _ _ _ ?_) | (refine (outer_overNats _ _ _ ?_).trans ?_))) <;> (try simp +zetaDelta) <;> (repeat' split) <;> (try simp +zetaDelta)
@[simp] theorem outer_flowChecked (s : State) (a1 : Nat) (a2 : Nat) (a3 : Option Nat) (a4 : Nat) : (flowChecked s a1 a2 a3 a4).outer = s.outer := by unfold flowChecked; (try lift_lets); (repeat' (first | intro _ | (split <;> (try lift_lets)))) <;> simp +zetaDelta
@[simp] theorem outer_flowReduced (s : State) (a1 : Nat) (a2 : Nat) : (flowReduced s a1 a2).outer = s.outer := by unfold flowReduced; (try lift_lets); (repeat' (first | intro _ | (split <;> (try lift_lets)))) <;> simp +zetaDelta
@[simp] theorem outer_flowFenced (s : State) (a1 : Nat) (a2 : Nat) (a3 : Nat) : (flowFenced s a1 a2 a3).outer = s.outer := by unfold flowFenced; (try lift_lets); (repeat' (first | intro _ | (split <;> (try lift_lets)))) <;> simp +zetaDelta
@[simp] theorem outer_pumpReqs (a0 : Nat) (s : State) : (pumpReqs a0 s).outer = s.outer := by unfold pumpReqs <;> (try lift_lets); (repeat' (first | intro _ | (split <;> (try lift_lets)) | (refine State.outer_foldl _ _ _ ?_) | (refine (State.outer_foldl _ _ _ ?_).trans ?_) | (refine outer_overNats _ _ _ ?_) | (refine (outer_overNats _ _ _ ?_).trans ?_))) <;> (try simp +zetaDelta) <;> (repeat' split) <;> (try simp +zetaDelta)
@[simp] theorem outer_pumpAll (s : State) : (pumpAll s).outer = s.outer := by unfold pumpAll; (try lift_lets); (repeat' (first | intro _ | (split <;> (try lift_lets)) | (refine State.outer_foldl _ _ _ ?_) | (refine (State.outer_foldl _ _ _ ?_).trans ?_) | (refine outer_overNats _ _ _ ?_) | (refine (outer_overNats _ _ _ ?_).trans ?_))) <;> simp +zetaDelta
@[simp] theorem outer_issueReqFor (s : State) (a1 : Machine.ReqFor) (a2 : Nat) (a3 : Nat) (a4 : Nat) (a5 : Nat) (a6 : Bool) (a7 : Nat) (a8 : Nat) (a9 : List Nat) : (issueReqFor s a1 a2 a3 a4 a5 a6 a7 a8 a9).outer = s.outer := by unfold issueReqFor; (try lift_lets); (repeat' (first | intro _ | (split <;> (try lift_lets)))) <;> simp +zetaDelta
@[simp] theorem outer_issueReq (s : State) (a1 : Nat) (a2 : Nat) (a3 : Nat) (a4 : Nat) (a5 : Bool) (a6 : Nat) (a7 : Nat) (a8 : List Nat) : (issueReq s a1 a2 a3 a4 a5 a6 a7 a8).outer = s.outer := by unfold issueReq; (try lift_lets); (repeat' (first | intro _ | (split <;> (try lift_lets)))) <;> simp +zetaDelta
@[simp] theorem outer_finishReq (s : State) (a1 : Nat) (a2 : Machine.DieReq) : (finishReq s a1 a2).outer = s.outer := by unfold finishReq <;> (try lift_lets); (repeat' (first | intro _ | (split <;> (try lift_lets)) | (refine State.outer_foldl _ _ _ ?_) | (refine (State.outer_foldl _ _ _ ?_).trans ?_) | (refine outer_overNats _ _ _ ?_) | (refine (outer_overNats _ _ _ ?_).trans ?_))) <;> (try simp +zetaDelta) <;> (repeat' split) <;> (try simp +zetaDelta)
@[simp] theorem outer_reqDone (s : State) (a1 : Nat) (a2 : Nat) (a3 : BitVec 10) (a4 : BitVec 2) : (reqDone s a1 a2 a3 a4).outer = s.outer := by unfold reqDone; (try lift_lets); (repeat' (first | intro _ | (split <;> (try lift_lets)))) <;> simp +zetaDelta
@[simp] theorem outer_refuseAddr (s : State) (a1 : Nat) (a2 : Nat) : (refuseAddr s a1 a2).outer = s.outer := by unfold refuseAddr; (try lift_lets); (repeat' (first | intro _ | (split <;> (try lift_lets)))) <;> simp +zetaDelta
@[simp] theorem outer_bootRefused (s : State) (a1 : Machine.ReqFor) (a2 : Nat) (a3 : Nat) (a4 : Nat) (a5 : Nat) : (bootRefused s a1 a2 a3 a4 a5).outer = s.outer := by unfold bootRefused; (try lift_lets); (repeat' (first | intro _ | (split <;> (try lift_lets)))) <;> simp +zetaDelta
@[simp] theorem outer_bootLoad (s : State) (a1 : Machine.ReqFor) (a2 : Nat) (a3 : Nat) (a4 : Nat) (a5 : Nat) : (bootLoad s a1 a2 a3 a4 a5).outer = s.outer := by unfold bootLoad; (try lift_lets); (repeat' (first | intro _ | (split <;> (try lift_lets)))) <;> simp +zetaDelta
@[simp] theorem outer_bootNext (s : State) (a1 : Nat) : (bootNext s a1).outer = s.outer := by unfold bootNext; (try lift_lets); (repeat' (first | intro _ | (split <;> (try lift_lets)))) <;> simp +zetaDelta
@[simp] theorem outer_bootLine (s : State) (a1 : Nat) (a2 : Nat) (a3 : Bool) : (bootLine s a1 a2 a3).outer = s.outer := by unfold bootLine; (try lift_lets); (repeat' (first | intro _ | (split <;> (try lift_lets)))) <;> simp +zetaDelta
end Sys2Proof.Machine
end

