-- ==== Sys2Proof/Laws/QueueMesh.lean ====
section
/-! SUPPORT. No operation of Mesh.lean touches the queue. -/
set_option linter.unusedTactic false
set_option linter.unreachableTactic false
namespace Sys2Proof.Machine
@[simp] theorem outer_noteHead (s : State) (a1 : Nat) (a2 : Nat) (a3 : MeshPacket) : (noteHead s a1 a2 a3).outer = s.outer := by unfold noteHead; (try lift_lets); (repeat' (first | intro _ | (split <;> (try lift_lets)))) <;> simp +zetaDelta
@[simp] theorem outer_dropHead (s : State) (a1 : Nat) (a2 : Nat) (a3 : MeshPacket) : (dropHead s a1 a2 a3).outer = s.outer := by unfold dropHead; rfl
@[simp] theorem outer_meshPut (s : State) (a1 : Nat) (a2 : Nat) (a3 : MeshPacket) : (meshPut s a1 a2 a3).outer = s.outer := by unfold meshPut; (try lift_lets); (repeat' (first | intro _ | (split <;> (try lift_lets)))) <;> simp +zetaDelta
@[simp] theorem outer_meshSend (s : State) (a1 : Nat) (a2 : MeshPacket) : (meshSend s a1 a2).outer = s.outer := by unfold meshSend; (try lift_lets); (repeat' (first | intro _ | (split <;> (try lift_lets)))) <;> simp +zetaDelta
@[simp] theorem outer_takeLink (s : State) (a1 : Nat) (a2 : Nat) (a3 : Nat) (a4 : Nat) : (takeLink s a1 a2 a3 a4).outer = s.outer := by unfold takeLink; (try lift_lets); (repeat' (first | intro _ | (split <;> (try lift_lets)))) <;> simp +zetaDelta
@[simp] theorem outer_cutEdge (s : State) (a1 : Nat) (a2 : Nat) : (cutEdge s a1 a2).outer = s.outer := by unfold cutEdge; rfl
@[simp] theorem outer_forward (s : State) (a1 : Nat) (a2 : Nat) (a3 : MeshPacket) : (forward s a1 a2 a3).outer = s.outer := by unfold forward; (try lift_lets); (repeat' (first | intro _ | (split <;> (try lift_lets)))) <;> simp +zetaDelta
@[simp] theorem outer_discardPacket (s : State) (a1 : Nat) (a2 : Nat) (a3 : MeshPacket) (a4 : Bool) : (discardPacket s a1 a2 a3 a4).outer = s.outer := by unfold discardPacket; (try lift_lets); (repeat' (first | intro _ | (split <;> (try lift_lets)))) <;> simp +zetaDelta
@[simp] theorem outer_fencedDiscard (s : State) (a1 : Nat) (a2 : MeshPacket) : (fencedDiscard s a1 a2).outer = s.outer := by unfold fencedDiscard; (try lift_lets); (repeat' (first | intro _ | (split <;> (try lift_lets)))) <;> simp +zetaDelta
@[simp] theorem outer_hop (s : State) (a1 : Nat) (a2 : Nat) (a3 : MeshPacket) : (hop s a1 a2 a3).outer = s.outer := by unfold hop; (try lift_lets); (repeat' (first | intro _ | (split <;> (try lift_lets)))) <;> simp +zetaDelta
@[simp] theorem outer_netWrite (s : State) (a1 : Nat) (a2 : Nat) (a3 : List Flit) (a4 : List Host.Cell) : (netWrite s a1 a2 a3 a4).outer = s.outer := by unfold netWrite; rfl
@[simp] theorem outer_collisionNotices (s : State) (a1 : Nat) (a2 : Nat) (a3 : Nat) (a4 : Nat) (a5 : List Nat) : (collisionNotices s a1 a2 a3 a4 a5).outer = s.outer := by unfold collisionNotices; (try lift_lets); (repeat' (first | intro _ | (split <;> (try lift_lets)) | (refine State.outer_foldl _ _ _ ?_) | (refine (State.outer_foldl _ _ _ ?_).trans ?_) | (refine outer_overNats _ _ _ ?_) | (refine (outer_overNats _ _ _ ?_).trans ?_))) <;> simp +zetaDelta
@[simp] theorem outer_portWrite (s : State) (a1 : Nat) (a2 : Nat) (a3 : Nat) (a4 : Nat) (a5 : Nat) (a6 : List Flit) (a7 : List Host.Cell) : (portWrite s a1 a2 a3 a4 a5 a6 a7).outer = s.outer := by unfold portWrite; (try lift_lets); (repeat' (first | intro _ | (split <;> (try lift_lets)) | (refine State.outer_foldl _ _ _ ?_) | (refine (State.outer_foldl _ _ _ ?_).trans ?_) | (refine outer_overNats _ _ _ ?_) | (refine (outer_overNats _ _ _ ?_).trans ?_))) <;> simp +zetaDelta
@[simp] theorem outer_doWrite (s : State) (a1 : Nat) (a2 : MeshPacket) (a3 : List Host.Cell) : (doWrite s a1 a2 a3).outer = s.outer := by unfold doWrite; (try lift_lets); (repeat' (first | intro _ | (split <;> (try lift_lets)))) <;> simp +zetaDelta
@[simp] theorem outer_doReadReq (s : State) (a1 : Nat) (a2 : MeshPacket) : (doReadReq s a1 a2).outer = s.outer := by unfold doReadReq; (try lift_lets); (repeat' (first | intro _ | (split <;> (try lift_lets)))) <;> simp +zetaDelta
@[simp] theorem outer_doReadRsp (s : State) (a1 : Nat) (a2 : MeshPacket) (a3 : List Host.Cell) : (doReadRsp s a1 a2 a3).outer = s.outer := by unfold doReadRsp; (try lift_lets); (repeat' (first | intro _ | (split <;> (try lift_lets)))) <;> simp +zetaDelta
@[simp] theorem outer_doReduce (s : State) (a1 : Nat) (a2 : Nat) (a3 : MeshPacket) : (doReduce s a1 a2 a3).outer = s.outer := by unfold doReduce; (try lift_lets); (repeat' (first | intro _ | (split <;> (try lift_lets)))) <;> simp +zetaDelta
@[simp] theorem outer_doCombineExpiry (s : State) (a1 : Nat) (a2 : Nat) (a3 : Nat) : (doCombineExpiry s a1 a2 a3).outer = s.outer := by unfold doCombineExpiry; (try lift_lets); (repeat' (first | intro _ | (split <;> (try lift_lets)))) <;> simp +zetaDelta
@[simp] theorem outer_doCombineFlit (s : State) (a1 : Nat) (a2 : Nat) (a3 : Nat) (a4 : Nat) (a5 : Nat) (a6 : Nat) (a7 : Bool) (a8 : Flit) (a9 : List Host.Cell) : (doCombineFlit s a1 a2 a3 a4 a5 a6 a7 a8 a9).outer = s.outer := by unfold doCombineFlit; (try lift_lets); (repeat' (first | intro _ | (split <;> (try lift_lets)))) <;> simp +zetaDelta
@[simp] theorem outer_combTake (s : State) (a1 : Nat) (a2 : MeshPacket) (a3 : Nat) : (combTake s a1 a2 a3).outer = s.outer := by unfold combTake; (try lift_lets); (repeat' (first | intro _ | (split <;> (try lift_lets)))) <;> simp +zetaDelta
@[simp] theorem outer_doNotice (s : State) (a1 : Nat) (a2 : MeshPacket) : (doNotice s a1 a2).outer = s.outer := by unfold doNotice; (try lift_lets); (repeat' (first | intro _ | (split <;> (try lift_lets)))) <;> simp +zetaDelta
@[simp] theorem outer_doProgress (s : State) (a1 : Nat) (a2 : Nat) (a3 : MeshPacket) : (doProgress s a1 a2 a3).outer = s.outer := by unfold doProgress; (try lift_lets); (repeat' (first | intro _ | (split <;> (try lift_lets)))) <;> simp +zetaDelta
end Sys2Proof.Machine
end

