-- ==== Sys2Proof/Laws/QueueSignal.lean ====
section
/-! SUPPORT. No operation of Signal.lean touches the queue. -/
set_option linter.unusedTactic false
set_option linter.unreachableTactic false
namespace Sys2Proof.Machine
@[simp] theorem outer_doSigFlit (s : State) (a1 : Nat) (a2 : Word) (a3 : BitVec 8) : (doSigFlit s a1 a2 a3).outer = s.outer := by unfold doSigFlit; (try lift_lets); (repeat' (first | intro _ | (split <;> (try lift_lets)))) <;> simp +zetaDelta
@[simp] theorem outer_setArb (s : State) (a1 : ArbKind) (a2 : Nat) (a3 : Machine.ArbSt) : (setArb s a1 a2 a3).outer = s.outer := by unfold setArb; rfl
@[simp] theorem outer_doArbiter (s : State) (a1 : ArbKind) (a2 : Nat) (a3 : List ArbReq) : (doArbiter s a1 a2 a3).outer = s.outer := by unfold doArbiter <;> (try lift_lets); (repeat' (first | intro _ | (split <;> (try lift_lets)) | (refine State.outer_foldl _ _ _ ?_) | (refine (State.outer_foldl _ _ _ ?_).trans ?_) | (refine outer_overNats _ _ _ ?_) | (refine (outer_overNats _ _ _ ?_).trans ?_))) <;> (try simp +zetaDelta) <;> (repeat' split) <;> (try simp +zetaDelta)
@[simp] theorem outer_arbRelease (s : State) (a1 : ArbKind) (a2 : Nat) : (arbRelease s a1 a2).outer = s.outer := by unfold arbRelease; rfl
@[simp] theorem outer_doWindowEnd (s : State) (a1 : ArbKind) (a2 : Nat) : (doWindowEnd s a1 a2).outer = s.outer := by unfold doWindowEnd; (try lift_lets); (repeat' (first | intro _ | (split <;> (try lift_lets)))) <;> simp +zetaDelta
@[simp] theorem outer_cutEffect (s : State) (a1 : ArbKind) (a2 : Nat) (a3 : CutItem) : (cutEffect s a1 a2 a3).outer = s.outer := by unfold cutEffect; (try lift_lets); (repeat' (first | intro _ | (split <;> (try lift_lets)))) <;> simp +zetaDelta
@[simp] theorem outer_doHoldCut (s : State) (a1 : ArbKind) (a2 : Nat) (a3 : CutItem) : (doHoldCut s a1 a2 a3).outer = s.outer := by unfold doHoldCut <;> (try lift_lets); (repeat' (first | intro _ | (split <;> (try lift_lets)) | (refine State.outer_foldl _ _ _ ?_) | (refine (State.outer_foldl _ _ _ ?_).trans ?_) | (refine outer_overNats _ _ _ ?_) | (refine (outer_overNats _ _ _ ?_).trans ?_))) <;> (try simp +zetaDelta) <;> (repeat' split) <;> (try simp +zetaDelta)
end Sys2Proof.Machine
end

