-- ==== Sys2Proof/Laws/QueueMem.lean ====
section
/-! SUPPORT. No operation of Mem.lean touches the queue. -/
set_option linter.unusedTactic false
set_option linter.unreachableTactic false
namespace Sys2Proof.Machine
@[simp] theorem outer_sendDone (s : State) (a1 : Nat) (a2 : Request) (a3 : Nat) : (sendDone s a1 a2 a3).outer = s.outer := by unfold sendDone; rfl
@[simp] theorem outer_waitBank (s : State) (a1 : Nat) (a2 : Machine.BankItem) : (waitBank s a1 a2).outer = s.outer := by unfold waitBank; rfl
@[simp] theorem outer_refuseHere (s : State) (a1 : Nat) (a2 : Nat) (a3 : Nat) : (refuseHere s a1 a2 a3).outer = s.outer := by unfold refuseHere; (try lift_lets); (repeat' (first | intro _ | (split <;> (try lift_lets)))) <;> simp +zetaDelta
@[simp] theorem outer_loadLost (s : State) (a1 : Nat) (a2 : Request) : (loadLost s a1 a2).outer = s.outer := by unfold loadLost; rfl
@[simp] theorem outer_loadHere (s : State) (a1 : Nat) (a2 : Request) : (loadHere s a1 a2).outer = s.outer := by
  have hf : ∀ (l : List Nat) (r : List TxFlit × Bool × State), (l.foldl (loadLine a1 a2) r).2.2.outer = r.2.2.outer :=
    fun l r => State.outer_foldl_3 _ _ _ (fun r x => by simp only [loadLine]; split <;> simp)
  unfold loadHere; dsimp only
  split; simp
  split; simp
  split
  · split
    · simp
    · split <;> simp [hf]
  · simp
@[simp] theorem outer_doLoadReq (s : State) (a1 : Nat) (a2 : Request) : (doLoadReq s a1 a2).outer = s.outer := by unfold doLoadReq; split; simp; split; rfl; simp
@[simp] theorem outer_doStoreReq (s : State) (a1 : Nat) (a2 : Request) : (doStoreReq s a1 a2).outer = s.outer := by unfold doStoreReq; (try lift_lets); (repeat' (first | intro _ | (split <;> (try lift_lets)))) <;> simp +zetaDelta
@[simp] theorem outer_closeHeld (s : State) (a1 : Nat) (a2 : Machine.Held) : (closeHeld s a1 a2).outer = s.outer := by unfold closeHeld <;> (try lift_lets); (repeat' (first | intro _ | (split <;> (try lift_lets)) | (refine State.outer_foldl _ _ _ ?_) | (refine (State.outer_foldl _ _ _ ?_).trans ?_) | (refine outer_overNats _ _ _ ?_) | (refine (outer_overNats _ _ _ ?_).trans ?_))) <;> (try simp +zetaDelta) <;> (repeat' split) <;> (try simp +zetaDelta)
@[simp] theorem outer_serveHeld (s : State) (a1 : Nat) (a2 : Machine.Held) (a3 : Nat) : (serveHeld s a1 a2 a3).outer = s.outer := by unfold serveHeld; (try lift_lets); (repeat' (first | intro _ | (split <;> (try lift_lets)))) <;> simp +zetaDelta
@[simp] theorem outer_atomicApply (s : State) (a1 : Nat) (a2 : OpRecord) (a3 : Bool) : (atomicApply s a1 a2 a3).2.2.outer = s.outer := by unfold atomicApply; (try lift_lets); (repeat' (first | intro _ | (split <;> (try lift_lets)))) <;> simp +zetaDelta
@[simp] theorem outer_reduceLine (s : State) (a1 : Nat) (a2 : Nat) (a3 : Nat) (a4 : Nat) (a5 : Flit) : (reduceLine s a1 a2 a3 a4 a5).2.outer = s.outer := by unfold reduceLine; (try lift_lets); (repeat' (first | intro _ | (split <;> (try lift_lets)))) <;> simp +zetaDelta
@[simp] theorem outer_reduceApply (s : State) (a1 : Nat) (a2 : OpRecord) (a3 : List Flit) : (reduceApply s a1 a2 a3).2.outer = s.outer := by
  unfold reduceApply; dsimp only; exact State.outer_foldl_2 _ _ _ (fun r x => by split <;> simp)
@[simp] theorem outer_sendResult (s : State) (a1 : Nat) (a2 : Nat) (a3 : List Byte) : (sendResult s a1 a2 a3).outer = s.outer := by unfold sendResult; (try lift_lets); (repeat' (first | intro _ | (split <;> (try lift_lets)))) <;> simp +zetaDelta
@[simp] theorem outer_recordHere (s : State) (a1 : Nat) (a2 : Nat) (a3 : OpRecord) (a4 : List Flit) (a5 : Bool) : (recordHere s a1 a2 a3 a4 a5).outer = s.outer := by unfold recordHere; (try lift_lets); (repeat' (first | intro _ | (split <;> (try lift_lets)))) <;> simp +zetaDelta
@[simp] theorem outer_doRecord (s : State) (a1 : Nat) (a2 : Nat) (a3 : OpRecord) (a4 : List Flit) (a5 : Bool) : (doRecord s a1 a2 a3 a4 a5).outer = s.outer := by unfold doRecord; (try lift_lets); (repeat' (first | intro _ | (split <;> (try lift_lets)))) <;> simp +zetaDelta
@[simp] theorem outer_recordCmd (a0 : Nat) (a1 : Fin 24) (a2 : Fin 100) (a3 : OpRecord) (a4 : List Flit) (a5 : Bool) (s : State) : (recordCmd a0 a1 a2 a3 a4 a5 s).outer = s.outer := by unfold recordCmd; (try lift_lets); (repeat' (first | intro _ | (split <;> (try lift_lets)))) <;> simp +zetaDelta
@[simp] theorem outer_atomicRecord (s : State) (a1 : Nat) (a2 : OpRecord) (a3 : Bool) : (atomicRecord s a1 a2 a3).2.outer = s.outer := by unfold atomicRecord; (try lift_lets); (repeat' (first | intro _ | (split <;> (try lift_lets)))) <;> simp +zetaDelta
@[simp] theorem outer_atomicFlit (s : State) (a1 : Nat) (a2 : Machine.Held) (a3 : Nat) (a4 : Flit) : (atomicFlit s a1 a2 a3 a4).1.outer = s.outer := by
  have hf : ∀ (l : List OpRecord) (r : List Byte × State), (l.foldl (fun (acc : List Byte × State) r =>
    let y := atomicRecord acc.2 a1 r a4.poison
    (acc.1 ++ y.1, y.2)) r).2.outer = r.2.outer := fun l r => State.outer_foldl_2 _ _ _ (fun r x => by simp)
  simp only [atomicFlit, outer_setStack, hf]
@[simp] theorem outer_storeFlit (s : State) (a1 : Nat) (a2 : Nat) (a3 : BitVec 6) (a4 : BitVec 10) (a5 : Nat) (a6 : Flit) : (storeFlit s a1 a2 a3 a4 a5 a6).outer = s.outer := by unfold storeFlit <;> (try lift_lets); (repeat' (first | intro _ | (split <;> (try lift_lets)) | (refine State.outer_foldl _ _ _ ?_) | (refine (State.outer_foldl _ _ _ ?_).trans ?_) | (refine outer_overNats _ _ _ ?_) | (refine (outer_overNats _ _ _ ?_).trans ?_))) <;> (try simp +zetaDelta) <;> (repeat' split) <;> (try simp +zetaDelta)
@[simp] theorem outer_doStoreTimeout (s : State) (a1 : Nat) (a2 : BitVec 7) (a3 : BitVec 6) (a4 : BitVec 10) : (doStoreTimeout s a1 a2 a3 a4).outer = s.outer := by simp only [doStoreTimeout] <;> (repeat' (first | split | (refine State.outer_foldl _ _ _ ?_; intro _ _) | (refine (State.outer_foldl _ _ _ ?_).trans ?_) | rfl)) <;> (try simp) <;> (repeat' (first | split | (refine (State.outer_foldl _ _ _ ?_).trans ?_) | intro _ )) <;> (try simp)
@[simp] theorem outer_doRefresh (s : State) (a1 : Nat) (a2 : Nat) (a3 : Bool) : (doRefresh s a1 a2 a3).outer = s.outer := by unfold doRefresh; (try lift_lets); (repeat' (first | intro _ | (split <;> (try lift_lets)))) <;> simp +zetaDelta
@[simp] theorem outer_scrubLine (s : State) (a1 : Nat) (a2 : Nat) : (scrubLine s a1 a2).outer = s.outer := by unfold scrubLine; (try lift_lets); (repeat' (first | intro _ | (split <;> (try lift_lets)))) <;> simp +zetaDelta
@[simp] theorem outer_doScrub (s : State) (a1 : Nat) : (doScrub s a1).outer = s.outer := by unfold doScrub; (try lift_lets); (repeat' (first | intro _ | (split <;> (try lift_lets)))) <;> simp +zetaDelta [State.outer_foldl]
@[simp] theorem outer_doRepair (s : State) (a1 : Nat) (a2 : Machine.DieRow) : (doRepair s a1 a2).outer = s.outer := by unfold doRepair; (try lift_lets); (repeat' (first | intro _ | (split <;> (try lift_lets)))) <;> simp +zetaDelta
end Sys2Proof.Machine
end

