-- ==== Sys2Proof/Laws/QueueInflate.lean ====
section
/-! SUPPORT. No operation of Inflate.lean touches the queue. -/
set_option linter.unusedTactic false
set_option linter.unreachableTactic false
namespace Sys2Proof.Machine
@[simp] theorem outer_writeLinesGo (a0 : Nat) (a1 : Nat) (a2 : Nat) (a3 : Nat) (a4 : Nat) (s : State) (a6 : Nat) (a7 : List Flit) : (writeLinesGo a0 a1 a2 a3 a4 s a6 a7).outer = s.outer := by
  induction a4 generalizing s a6 a7 with
  | zero => rfl
  | succ n ih => simp only [writeLinesGo]; split; rfl; rw [ih]; simp
@[simp] theorem outer_adapterWrite (s : State) (a1 : Nat) (a2 : Nat) (a3 : Nat) (a4 : Nat) (a5 : List Flit) : (adapterWrite s a1 a2 a3 a4 a5).outer = s.outer := by unfold adapterWrite; (try lift_lets); (repeat' (first | intro _ | (split <;> (try lift_lets)))) <;> simp +zetaDelta
@[simp] theorem outer_inflateErr (s : State) (a1 : Nat) (a2 : Nat) (a3 : Nat) : (inflateErr s a1 a2 a3).outer = s.outer := by unfold inflateErr; (try lift_lets); (repeat' (first | intro _ | (split <;> (try lift_lets)))) <;> simp +zetaDelta
@[simp] theorem outer_noteUnit (s : State) (a1 : Nat) (a2 : Nat) (a3 : Nat) (a4 : Nat) (a5 : Machine.UnitHead) : (noteUnit s a1 a2 a3 a4 a5).outer = s.outer := by unfold noteUnit; (try lift_lets); (repeat' (first | intro _ | (split <;> (try lift_lets)))) <;> simp +zetaDelta
theorem outer_poisonUnit_some {s t : State} {p tile flow n u : Nat} (h : poisonUnit s p tile flow n u = some t) : t.outer = s.outer := by
  unfold poisonUnit at h; dsimp only at h
  split at h
  · split at h
    · cases h; simp
    · cases h
  · cases h
@[simp] theorem outer_settleOwed (s : State) (a1 : Nat) : (settleOwed s a1).outer = s.outer := by
  unfold settleOwed
  refine State.outer_foldl _ _ _ (fun s x => ?_)
  split
  · rename_i h; simp [outer_poisonUnit_some h]
  · rfl
@[simp] theorem outer_noteHeader (s : State) (a1 : Nat) (a2 : Nat) (a3 : Nat) (a4 : Nat) (a5 : Nat) (a6 : Machine.UnitHead) : (noteHeader s a1 a2 a3 a4 a5 a6).outer = s.outer := by unfold noteHeader; (try lift_lets); (repeat' (first | intro _ | (split <;> (try lift_lets)))) <;> simp +zetaDelta
@[simp] theorem outer_inflateFlit (s : State) (a1 : Nat) (a2 : Nat) (a3 : Nat) (a4 : Nat) (a5 : Nat) (a6 : Flit) : (inflateFlit s a1 a2 a3 a4 a5 a6).outer = s.outer := by
  unfold inflateFlit; lift_lets; intro k u s1 f
  have h1 : s1.outer = s.outer := by simp only [s1]; split <;> simp
  clear_value s1; dsimp only
  split; exact h1
  split
  · split
    · rename_i h; rw [outer_poisonUnit_some h]; simp [h1]
    · simp [h1]
  · simp [h1]
@[simp] theorem outer_doPackedUnit (s : State) (a1 : Nat) : (doPackedUnit s a1).outer = s.outer := by unfold doPackedUnit; (try lift_lets); (repeat' (first | intro _ | (split <;> (try lift_lets)))) <;> simp +zetaDelta
@[simp] theorem outer_doUnitCheck (s : State) (a1 : Nat) : (doUnitCheck s a1).outer = s.outer := by unfold doUnitCheck <;> (try lift_lets); (repeat' (first | intro _ | (split <;> (try lift_lets)) | (refine State.outer_foldl _ _ _ ?_) | (refine (State.outer_foldl _ _ _ ?_).trans ?_) | (refine outer_overNats _ _ _ ?_) | (refine (outer_overNats _ _ _ ?_).trans ?_))) <;> (try simp +zetaDelta) <;> (repeat' split) <;> (try simp +zetaDelta)
end Sys2Proof.Machine
end

