-- ==== Sys2Proof/Laws/QueueFabFlits.lean ====
section
/-! SUPPORT. No operation of FabFlits.lean touches the queue. -/
set_option linter.unusedTactic false
set_option linter.unreachableTactic false
namespace Sys2Proof.Machine
@[simp] theorem outer_setLink (s : State) (a1 : Nat) (a2 : Machine.LinkSt) : (setLink s a1 a2).outer = s.outer := by unfold setLink; rfl
@[simp] theorem outer_enqueue (s : State) (a1 : Nat) (a2 : FabPacket) : (enqueue s a1 a2).outer = s.outer := by unfold enqueue; rfl
@[simp] theorem outer_pathSend (s : State) (a1 : Nat) (a2 : Nat) (a3 : FabPacket) : (pathSend s a1 a2 a3).outer = s.outer := by unfold pathSend; rfl
@[simp] theorem outer_setHostPath (s : State) (a1 : Nat) (a2 : List FabPacket) : (setHostPath s a1 a2).outer = s.outer := by unfold setHostPath; rfl
@[simp] theorem outer_freeInput (s : State) (a1 : Nat) (a2 : FabPacket) : (freeInput s a1 a2).outer = s.outer := by unfold freeInput; rfl
@[simp] theorem outer_grantPacket (s : State) (a1 : Nat) : (grantPacket s a1).2.outer = s.outer := by unfold grantPacket; (try lift_lets); (repeat' (first | intro _ | (split <;> (try lift_lets)))) <;> simp +zetaDelta
@[simp] theorem outer_copySent (s : State) (a1 : FabPacket) : (copySent s a1).outer = s.outer := by unfold copySent; (try lift_lets); (repeat' (first | intro _ | (split <;> (try lift_lets)))) <;> simp +zetaDelta
@[simp] theorem outer_stampExclude (s : State) (a1 : Nat) (a2 : FabPacket) : (stampExclude s a1 a2).2.outer = s.outer := by unfold stampExclude; (try lift_lets); (repeat' (first | intro _ | (split <;> (try lift_lets)))) <;> simp +zetaDelta
@[simp] theorem outer_stampOut (s : State) (a1 : Nat) (a2 : FabPacket) : (stampOut s a1 a2).2.outer = s.outer := by unfold stampOut; (try lift_lets); (repeat' (first | intro _ | (split <;> (try lift_lets)))) <;> simp +zetaDelta
@[simp] theorem outer_fillFlits (a0 : Nat) (s : State) (a2 : Nat) (a3 : List (Flit × Bool)) : (fillFlits a0 s a2 a3).1.outer = s.outer := by
  induction a0 generalizing s a3 with
  | zero => rfl
  | succ n ih =>
    have hg := outer_grantPacket s a2
    simp only [fillFlits]; split
    · rw [ih]; split <;> simp
    · revert hg; split
      · simp_all
      · intro hg; rw [ih]; split <;> simp_all
@[simp] theorem outer_fillSlot (s : State) (a1 : Nat) (a2 : SlotHeader) : (fillSlot s a1 a2).2.outer = s.outer := by unfold fillSlot; (try lift_lets); (repeat' (first | intro _ | (split <;> (try lift_lets)))) <;> simp +zetaDelta
@[simp] theorem outer_breakStream (s : State) (a1 : Nat) (a2 : Option (SlotHeader × List Flit)) : (breakStream s a1 a2).outer = s.outer := by unfold breakStream; rfl
@[simp] theorem outer_joinStream (s : State) (a1 : Nat) (a2 : Nat) (a3 : List Flit) : (joinStream s a1 a2 a3).2.outer = s.outer := by unfold joinStream; (try lift_lets); (repeat' (first | intro _ | (split <;> (try lift_lets)) | (refine State.outer_foldl _ _ _ ?_) | (refine (State.outer_foldl _ _ _ ?_).trans ?_) | (refine outer_overNats _ _ _ ?_) | (refine (outer_overNats _ _ _ ?_).trans ?_))) <;> simp +zetaDelta
@[simp] theorem outer_pathBurst (s : State) (a1 : Nat) (a2 : SlotHeader) (a3 : List Flit) : (pathBurst s a1 a2 a3).outer = s.outer := by unfold pathBurst; (try lift_lets); (repeat' (first | intro _ | (split <;> (try lift_lets)))) <;> simp +zetaDelta
@[simp] theorem outer_dropPaths (s : State) (a1 : Nat) : (dropPaths s a1).outer = s.outer := by unfold dropPaths; (try lift_lets); (repeat' (first | intro _ | (split <;> (try lift_lets)) | (refine State.outer_foldl _ _ _ ?_) | (refine (State.outer_foldl _ _ _ ?_).trans ?_) | (refine outer_overNats _ _ _ ?_) | (refine (outer_overNats _ _ _ ?_).trans ?_))) <;> simp +zetaDelta
end Sys2Proof.Machine
end

