-- ==== Sys2Proof/Laws/QueueSlots.lean ====
section
/-! SUPPORT. No operation of Slots.lean touches the queue. -/
set_option linter.unusedTactic false
set_option linter.unreachableTactic false
namespace Sys2Proof.Machine
@[simp] theorem outer_setHouseQ (s : State) (a1 : Nat) (a2 : Nat) (a3 : List (Nat × List Flit)) : (setHouseQ s a1 a2 a3).outer = s.outer := by unfold setHouseQ; rfl
@[simp] theorem outer_setHostPort (s : State) (a1 : Nat) (a2 : Machine.HostPort) : (setHostPort s a1 a2).outer = s.outer := by unfold setHostPort; rfl
@[simp] theorem outer_hostFill (s : State) (a1 : Nat) (a2 : Nat) : (hostFill s a1 a2).outer = s.outer := by unfold hostFill; (try lift_lets); (repeat' (first | intro _ | (split <;> (try lift_lets)))) <;> simp +zetaDelta
@[simp] theorem outer_hostDrain (s : State) (a1 : Nat) (a2 : Nat) : (hostDrain s a1 a2).outer = s.outer := by unfold hostDrain; (try lift_lets); (repeat' (first | intro _ | (split <;> (try lift_lets)))) <;> simp +zetaDelta
@[simp] theorem outer_hostSlot (s : State) (a1 : Nat) (a2 : Nat) : (hostSlot s a1 a2).2.outer = s.outer := by unfold hostSlot; (try lift_lets); (repeat' (first | intro _ | (split <;> (try lift_lets)))) <;> simp +zetaDelta
@[simp] theorem outer_setTxQueue (s : State) (a1 : Nat) (a2 : Nat) (a3 : List Machine.TxFlit) : (setTxQueue s a1 a2 a3).outer = s.outer := by unfold setTxQueue; (try lift_lets); (repeat' (first | intro _ | (split <;> (try lift_lets)))) <;> simp +zetaDelta
@[simp] theorem outer_sendLeft (s : State) (a1 : Nat) (a2 : Nat) (a3 : Nat) (a4 : Nat) : (sendLeft s a1 a2 a3 a4).outer = s.outer := by unfold sendLeft; (try lift_lets); (repeat' (first | intro _ | (split <;> (try lift_lets)))) <;> simp +zetaDelta
@[simp] theorem outer_dueSlot (s : State) (a1 : Nat) (a2 : Nat) (a3 : Nat) (a4 : Nat) : (dueSlot s a1 a2 a3 a4).outer = s.outer := by unfold dueSlot; (try lift_lets); (repeat' (first | intro _ | (split <;> (try lift_lets)))) <;> simp +zetaDelta
@[simp] theorem outer_dueReq (s : State) (a1 : Nat) (a2 : Machine.TxFlit) : (dueReq s a1 a2).outer = s.outer := by unfold dueReq; (try lift_lets); (repeat' (first | intro _ | (split <;> (try lift_lets)))) <;> simp +zetaDelta
@[simp] theorem outer_runSent (s : State) (a1 : Nat) (a2 : Nat) (a3 : List Machine.TxFlit) : (runSent s a1 a2 a3).outer = s.outer := by unfold runSent; (try lift_lets); (repeat' (first | intro _ | (split <;> (try lift_lets)) | (refine State.outer_foldl _ _ _ ?_) | (refine (State.outer_foldl _ _ _ ?_).trans ?_) | (refine outer_overNats _ _ _ ?_) | (refine (outer_overNats _ _ _ ?_).trans ?_))) <;> simp +zetaDelta
@[simp] theorem outer_sendBurst (s : State) (a1 : Nat) (a2 : Nat) (a3 : Burst) : (sendBurst s a1 a2 a3).outer = s.outer := by unfold sendBurst; rfl
@[simp] theorem outer_sendJob (s : State) (a1 : Nat) (a2 : Nat) (a3 : Nat) (a4 : Nat) (a5 : Nat) : (sendJob s a1 a2 a3 a4 a5).outer = s.outer := by unfold sendJob <;> (try lift_lets); (repeat' (first | intro _ | (split <;> (try lift_lets)) | (refine State.outer_foldl _ _ _ ?_) | (refine (State.outer_foldl _ _ _ ?_).trans ?_) | (refine outer_overNats _ _ _ ?_) | (refine (outer_overNats _ _ _ ?_).trans ?_))) <;> (try simp +zetaDelta) <;> (repeat' split) <;> (try simp +zetaDelta)
@[simp] theorem outer_tableStep (s : State) (a1 : Nat) (a2 : Nat) : (tableStep s a1 a2).outer = s.outer := by unfold tableStep; (try lift_lets); (repeat' (first | intro _ | (split <;> (try lift_lets)))) <;> simp +zetaDelta
@[simp] theorem outer_sendHouse (s : State) (a1 : Nat) (a2 : Nat) (a3 : Nat) : (sendHouse s a1 a2 a3).outer = s.outer := by
  unfold sendHouse; dsimp only
  split; simp
  split; simp
  split
  · rename_i v _ _
    have hg := fun s' x y => outer_fillSlot s' x y
    split
    all_goals (rename_i h; have hg := congrArg (fun x => x.2.outer) h; simp at hg; simp [← hg])
  split; simp
  split; simp
  split <;> simp
@[simp] theorem outer_testSlot (s : State) (a1 : Nat) : (testSlot s a1).outer = s.outer := by unfold testSlot <;> (try lift_lets); (repeat' (first | intro _ | (split <;> (try lift_lets)) | (refine State.outer_foldl _ _ _ ?_) | (refine (State.outer_foldl _ _ _ ?_).trans ?_) | (refine outer_overNats _ _ _ ?_) | (refine (outer_overNats _ _ _ ?_).trans ?_))) <;> (try simp +zetaDelta) <;> (repeat' split) <;> (try simp +zetaDelta)
@[simp] theorem outer_doSlotStart (s : State) (a1 : Fin 64) (a2 : List (Nat × Nat)) : (doSlotStart s a1 a2).outer = s.outer := by unfold doSlotStart <;> (try lift_lets); (repeat' (first | intro _ | (split <;> (try lift_lets)) | (refine State.outer_foldl _ _ _ ?_) | (refine (State.outer_foldl _ _ _ ?_).trans ?_) | (refine outer_overNats _ _ _ ?_) | (refine (outer_overNats _ _ _ ?_).trans ?_))) <;> (try simp +zetaDelta) <;> (repeat' split) <;> (try simp +zetaDelta)
@[simp] theorem outer_countLines (s : State) (a1 : Nat → Nat) (a2 : Nat) (a3 : Nat) (a4 : List (List Nat)) : (countLines s a1 a2 a3 a4).outer = s.outer := by unfold countLines; (try lift_lets); (repeat' (first | intro _ | (split <;> (try lift_lets)))) <;> simp +zetaDelta
@[simp] theorem outer_countCorrected (s : State) (a1 : Nat) (a2 : Nat) (a3 : List (List Nat)) : (countCorrected s a1 a2 a3).outer = s.outer := by unfold countCorrected; (try lift_lets); (repeat' (first | intro _ | (split <;> (try lift_lets)))) <;> simp +zetaDelta
@[simp] theorem outer_discardSlot (s : State) (a1 : Nat) (a2 : Nat) (a3 : Nat) (a4 : Option Nat) : (discardSlot s a1 a2 a3 a4).outer = s.outer := by unfold discardSlot; (try lift_lets); (repeat' (first | intro _ | (split <;> (try lift_lets)))) <;> simp +zetaDelta
@[simp] theorem outer_deliverLines (s : State) (a1 : Nat) (a2 : Nat) (a3 : Machine.FlowDesc) (a4 : Machine.Part) (a5 : Nat) (a6 : Nat) (a7 : List Flit) : (deliverLines s a1 a2 a3 a4 a5 a6 a7).outer = s.outer := by unfold deliverLines; (try lift_lets); (repeat' (first | intro _ | (split <;> (try lift_lets)) | (refine State.outer_foldl _ _ _ ?_) | (refine (State.outer_foldl _ _ _ ?_).trans ?_) | (refine outer_overNats _ _ _ ?_) | (refine (outer_overNats _ _ _ ?_).trans ?_))) <;> simp +zetaDelta
@[simp] theorem outer_landLines (s : State) (a1 : Nat) (a2 : Nat) (a3 : Machine.DieReq) (a4 : Nat) (a5 : List Flit) : (landLines s a1 a2 a3 a4 a5).outer = s.outer := by unfold landLines; (try lift_lets); (repeat' (first | intro _ | (split <;> (try lift_lets)))) <;> simp +zetaDelta
@[simp] theorem outer_deliverReq (s : State) (a1 : Nat) (a2 : Nat) (a3 : SlotHeader) (a4 : List Flit) : (deliverReq s a1 a2 a3 a4).outer = s.outer := by simp only [deliverReq] <;> (repeat' (first | split | (refine State.outer_foldl _ _ _ ?_; intro _ _) | (refine (State.outer_foldl _ _ _ ?_).trans ?_) | rfl)) <;> (try simp) <;> (repeat' (first | split | (refine (State.outer_foldl _ _ _ ?_).trans ?_) | intro _ )) <;> (try simp)
@[simp] theorem outer_deliverSend (s : State) (a1 : Nat) (a2 : Nat) (a3 : SlotHeader) (a4 : List Flit) : (deliverSend s a1 a2 a3 a4).outer = s.outer := by unfold deliverSend; (try lift_lets); (repeat' (first | intro _ | (split <;> (try lift_lets)))) <;> simp +zetaDelta
@[simp] theorem outer_deliverFlow (s : State) (a1 : Nat) (a2 : SlotHeader) (a3 : List Flit) : (deliverFlow s a1 a2 a3).outer = s.outer := by unfold deliverFlow; (try lift_lets); (repeat' (first | intro _ | (split <;> (try lift_lets)) | (refine State.outer_foldl _ _ _ ?_) | (refine (State.outer_foldl _ _ _ ?_).trans ?_) | (refine outer_overNats _ _ _ ?_) | (refine (outer_overNats _ _ _ ?_).trans ?_))) <;> simp +zetaDelta
@[simp] theorem outer_deliverHouse (s : State) (a1 : Nat) (a2 : SlotHeader) (a3 : List Flit) : (deliverHouse s a1 a2 a3).outer = s.outer := by unfold deliverHouse; (try lift_lets); (repeat' (first | intro _ | (split <;> (try lift_lets)))) <;> simp +zetaDelta
end Sys2Proof.Machine
end

