-- ==== Sys2Proof/Laws/QueueTables.lean ====
section
/-! SUPPORT. No operation of Tables.lean touches the queue. -/
set_option linter.unusedTactic false
set_option linter.unreachableTactic false
namespace Sys2Proof.Machine
@[simp] theorem outer_sendVerdict (s : State) (a1 : Nat) (a2 : Nat) (a3 : Nat) (a4 : Nat) (a5 : Nat) : (sendVerdict s a1 a2 a3 a4 a5).outer = s.outer := by unfold sendVerdict; (try lift_lets); (repeat' (first | intro _ | (split <;> (try lift_lets)))) <;> simp +zetaDelta
@[simp] theorem outer_setShadow (s : State) (a1 : Nat) (a2 : Machine.Shadow) : (setShadow s a1 a2).outer = s.outer := by unfold setShadow; rfl
@[simp] theorem outer_takeHeader (s : State) (a1 : Nat) (a2 : BitVec 7) (a3 : List Flit) : (takeHeader s a1 a2 a3).outer = s.outer := by unfold takeHeader; (try lift_lets); (repeat' (first | intro _ | (split <;> (try lift_lets)))) <;> simp +zetaDelta
@[simp] theorem outer_takeRows (s : State) (a1 : Nat) (a2 : BitVec 7) (a3 : List Flit) : (takeRows s a1 a2 a3).outer = s.outer := by unfold takeRows; (try lift_lets); (repeat' (first | intro _ | (split <;> (try lift_lets)))) <;> simp +zetaDelta
@[simp] theorem outer_rejectWhole (s : State) (a1 : Machine.Shadow) : (rejectWhole s a1).outer = s.outer := by unfold rejectWhole; (try lift_lets); (repeat' (first | intro _ | (split <;> (try lift_lets)))) <;> simp +zetaDelta
@[simp] theorem outer_doTableChecked (s : State) (a1 : Nat) : (doTableChecked s a1).outer = s.outer := by unfold doTableChecked; (try lift_lets); (repeat' (first | intro _ | (split <;> (try lift_lets)))) <;> simp +zetaDelta
@[simp] theorem outer_doTableSwap (s : State) (a1 : Nat) (a2 : BitVec 7) (a3 : BitVec 8) (a4 : Word) : (doTableSwap s a1 a2 a3 a4).outer = s.outer := by unfold doTableSwap; (try lift_lets); (repeat' (first | intro _ | (split <;> (try lift_lets)))) <;> simp +zetaDelta
@[simp] theorem outer_clearShadow (s : State) (a1 : Nat) : (clearShadow s a1).outer = s.outer := by unfold clearShadow; rfl
@[simp] theorem outer_doTableClear (s : State) (a1 : BitVec 7) (a2 : BitVec 8) (a3 : BitVec 7) : (doTableClear s a1 a2 a3).outer = s.outer := by unfold doTableClear; (try lift_lets); (repeat' (first | intro _ | (split <;> (try lift_lets)))) <;> simp +zetaDelta
@[simp] theorem outer_deliverHouseSlot (s : State) (a1 : Nat) (a2 : SlotHeader) (a3 : List Flit) : (deliverHouseSlot s a1 a2 a3).outer = s.outer := by unfold deliverHouseSlot; (try lift_lets); (repeat' (first | intro _ | (split <;> (try lift_lets)))) <;> simp +zetaDelta
@[simp] theorem outer_breakPath (s : State) (a1 : Nat) (a2 : Nat) (a3 : Option Nat) (a4 : Option (SlotHeader × List Flit)) : (breakPath s a1 a2 a3 a4).outer = s.outer := by unfold breakPath; (try lift_lets); (repeat' (first | intro _ | (split <;> (try lift_lets)))) <;> simp +zetaDelta
@[simp] theorem outer_doSlotBurst (s : State) (a1 : Nat) (a2 : BitVec 14336) : (doSlotBurst s a1 a2).outer = s.outer := by unfold doSlotBurst <;> (try lift_lets); (repeat' (first | intro _ | (split <;> (try lift_lets)) | (refine State.outer_foldl _ _ _ ?_) | (refine (State.outer_foldl _ _ _ ?_).trans ?_) | (refine outer_overNats _ _ _ ?_) | (refine (outer_overNats _ _ _ ?_).trans ?_))) <;> (try simp +zetaDelta) <;> (repeat' split) <;> (try simp +zetaDelta)
@[simp] theorem outer_nameChange (s : State) (a1 : Word) (a2 : Machine.Change) (a3 : State → State) (h3 : ∀ s, (a3 s).outer = s.outer) : (nameChange s a1 a2 a3).outer = s.outer := by unfold nameChange; (try lift_lets); (repeat' (first | intro _ | (split <;> (try lift_lets)) | (refine State.outer_foldl _ _ _ ?_) | (refine (State.outer_foldl _ _ _ ?_).trans ?_) | (refine outer_overNats _ _ _ ?_) | (refine (outer_overNats _ _ _ ?_).trans ?_))) <;> simp +zetaDelta [*]
@[simp] theorem outer_raisePortFail (s : State) (a1 : Nat) (a2 : Nat) : (raisePortFail s a1 a2).outer = s.outer := by unfold raisePortFail; (try lift_lets); (repeat' (first | intro _ | (split <;> (try lift_lets)))) <;> simp +zetaDelta
@[simp] theorem outer_excludeRecord (s : State) (a1 : Nat) (a2 : Bool) : (excludeRecord s a1 a2).outer = s.outer := by unfold excludeRecord; (try lift_lets); (repeat' (first | intro _ | (split <;> (try lift_lets)))) <;> simp +zetaDelta
@[simp] theorem outer_excludeLine (s : State) (a1 : Nat) (a2 : Bool) (a3 : Nat) : (excludeLine s a1 a2 a3).outer = s.outer := by unfold excludeLine; (try lift_lets); (repeat' (first | intro _ | (split <;> (try lift_lets)))) <;> simp +zetaDelta
@[simp] theorem outer_endStepAt (s : State) (a1 : Nat) (a2 : Bool) : (endStepAt s a1 a2).outer = s.outer := by unfold endStepAt; rfl
@[simp] theorem outer_applyExclude (s : State) (a1 : Nat) (a2 : Bool) (a3 : Nat) : (applyExclude s a1 a2 a3).outer = s.outer := by unfold applyExclude <;> (try lift_lets); (repeat' (first | intro _ | (split <;> (try lift_lets)) | (refine State.outer_foldl _ _ _ ?_) | (refine (State.outer_foldl _ _ _ ?_).trans ?_) | (refine outer_overNats _ _ _ ?_) | (refine (outer_overNats _ _ _ ?_).trans ?_))) <;> (try simp +zetaDelta) <;> (repeat' split) <;> (try simp +zetaDelta)
@[simp] theorem outer_doLineMarginal (s : State) (a1 : Nat) (a2 : Nat) : (doLineMarginal s a1 a2).outer = s.outer := by unfold doLineMarginal; (try lift_lets); (repeat' (first | intro _ | (split <;> (try lift_lets)) | (refine State.outer_foldl _ _ _ ?_) | (refine (State.outer_foldl _ _ _ ?_).trans ?_) | (refine outer_overNats _ _ _ ?_) | (refine (outer_overNats _ _ _ ?_).trans ?_))) <;> simp +zetaDelta
@[simp] theorem outer_doUncorrLimit (s : State) (a1 : Nat) : (doUncorrLimit s a1).outer = s.outer := by unfold doUncorrLimit; (try lift_lets); (repeat' (first | intro _ | (split <;> (try lift_lets)) | (refine State.outer_foldl _ _ _ ?_) | (refine (State.outer_foldl _ _ _ ?_).trans ?_) | (refine outer_overNats _ _ _ ?_) | (refine (outer_overNats _ _ _ ?_).trans ?_))) <;> simp +zetaDelta
@[simp] theorem outer_doCellFailure (s : State) (a1 : Nat) (a2 : Nat) : (doCellFailure s a1 a2).outer = s.outer := by unfold doCellFailure; (try lift_lets); (repeat' (first | intro _ | (split <;> (try lift_lets)) | (refine State.outer_foldl _ _ _ ?_) | (refine (State.outer_foldl _ _ _ ?_).trans ?_) | (refine outer_overNats _ _ _ ?_) | (refine (outer_overNats _ _ _ ?_).trans ?_))) <;> simp +zetaDelta
@[simp] theorem outer_dropUnlit (s : State) (a1 : Nat) (a2 : Machine.Tbl (BitVec 32)) : (dropUnlit s a1 a2).outer = s.outer := by unfold dropUnlit; (try lift_lets); (repeat' (first | intro _ | (split <;> (try lift_lets)))) <;> simp +zetaDelta
@[simp] theorem outer_tilePortsFail (s : State) (a1 : Nat) (a2 : List Nat) : (tilePortsFail s a1 a2).outer = s.outer := by unfold tilePortsFail; (try lift_lets); (repeat' (first | intro _ | (split <;> (try lift_lets)))) <;> simp +zetaDelta
@[simp] theorem outer_lightPortsFail (s : State) (a1 : List Nat) : (lightPortsFail s a1).outer = s.outer := by unfold lightPortsFail; (try lift_lets); (repeat' (first | intro _ | (split <;> (try lift_lets)) | (refine State.outer_foldl _ _ _ ?_) | (refine (State.outer_foldl _ _ _ ?_).trans ?_) | (refine outer_overNats _ _ _ ?_) | (refine (outer_overNats _ _ _ ?_).trans ?_))) <;> simp +zetaDelta
@[simp] theorem outer_applySwap (s : State) (a1 : Nat) : (applySwap s a1).outer = s.outer := by unfold applySwap; (try lift_lets); (repeat' (first | intro _ | (split <;> (try lift_lets)))) <;> simp +zetaDelta
@[simp] theorem outer_applyBlend (s : State) : (applyBlend s).outer = s.outer := by unfold applyBlend; (try lift_lets); (repeat' (first | intro _ | (split <;> (try lift_lets)))) <;> simp +zetaDelta
@[simp] theorem outer_doLoadTimeout (s : State) (a1 : Nat) (a2 : BitVec 10) : (doLoadTimeout s a1 a2).outer = s.outer := by simp only [doLoadTimeout] <;> (repeat' (first | split | (refine State.outer_foldl _ _ _ ?_; intro _ _) | (refine (State.outer_foldl _ _ _ ?_).trans ?_) | rfl)) <;> (try simp) <;> (repeat' (first | split | (refine (State.outer_foldl _ _ _ ?_).trans ?_) | intro _ )) <;> (try simp)
@[simp] theorem outer_doFlowTimeout (s : State) (a1 : Nat) (a2 : Nat) (a3 : Nat) : (doFlowTimeout s a1 a2 a3).outer = s.outer := by simp only [doFlowTimeout] <;> (repeat' (first | split | (refine State.outer_foldl _ _ _ ?_; intro _ _) | (refine (State.outer_foldl _ _ _ ?_).trans ?_) | rfl)) <;> (try simp) <;> (repeat' (first | split | (refine (State.outer_foldl _ _ _ ?_).trans ?_) | intro _ )) <;> (try simp)
end Sys2Proof.Machine
end

