-- ==== Sys2Proof/Laws/QueueDma.lean ====
section
/-! SUPPORT. No operation of Dma.lean touches the queue. -/
set_option linter.unusedTactic false
set_option linter.unreachableTactic false
namespace Sys2Proof.Machine
@[simp] theorem outer_doCopyDone (s : State) (a1 : Nat) : (doCopyDone s a1).outer = s.outer := by unfold doCopyDone <;> (try lift_lets); (repeat' (first | intro _ | (split <;> (try lift_lets)) | (refine State.outer_foldl _ _ _ ?_) | (refine (State.outer_foldl _ _ _ ?_).trans ?_) | (refine outer_overNats _ _ _ ?_) | (refine (outer_overNats _ _ _ ?_).trans ?_))) <;> (try simp +zetaDelta) <;> (repeat' split) <;> (try simp +zetaDelta)
@[simp] theorem outer_wakeDeep (s : State) (a1 : Nat) : (wakeDeep s a1).outer = s.outer := by unfold wakeDeep; (try lift_lets); (repeat' (first | intro _ | (split <;> (try lift_lets)))) <;> simp +zetaDelta
end Sys2Proof.Machine
end

