-- ==== Sys2Proof/Laws/QueueBank.lean ====
section
/-! SUPPORT. No operation of Bank.lean touches the queue. -/
set_option linter.unusedTactic false
set_option linter.unreachableTactic false
namespace Sys2Proof.Machine
@[simp] theorem outer_storeFlits (s : State) (a1 : Nat) (a2 : Nat) (a3 : List Flit) : (storeFlits s a1 a2 a3).outer = s.outer := by unfold storeFlits; (try lift_lets); (repeat' (first | intro _ | (split <;> (try lift_lets)) | (refine State.outer_foldl _ _ _ ?_) | (refine (State.outer_foldl _ _ _ ?_).trans ?_) | (refine outer_overNats _ _ _ ?_) | (refine (outer_overNats _ _ _ ?_).trans ?_))) <;> simp +zetaDelta
@[simp] theorem outer_memServe (s : State) (a1 : FabPacket) : (memServe s a1).2.2.2.outer = s.outer := by unfold memServe; (try lift_lets); (repeat' (first | intro _ | (split <;> (try lift_lets)))) <;> simp +zetaDelta
@[simp] theorem outer_hostSend (s : State) (a1 : Nat) (a2 : Nat) (a3 : FabPacket) : (hostSend s a1 a2 a3).outer = s.outer := by unfold hostSend; rfl
@[simp] theorem outer_unitAnswer (s : State) (a1 : Nat) (a2 : Nat) (a3 : FabPacket) (a4 : Nat) (a5 : Option (List Byte)) (a6 : List Flit) : (unitAnswer s a1 a2 a3 a4 a5 a6).outer = s.outer := by unfold unitAnswer; (try lift_lets); (repeat' (first | intro _ | (split <;> (try lift_lets)))) <;> simp +zetaDelta
@[simp] theorem outer_unitHere (s : State) (a1 : Nat) (a2 : Nat) (a3 : FabPacket) : (unitHere s a1 a2 a3).outer = s.outer := by unfold unitHere; (try lift_lets); (repeat' (first | intro _ | (split <;> (try lift_lets)))) <;> simp +zetaDelta
@[simp] theorem outer_unitLost (s : State) (a1 : Nat) (a2 : Nat) (a3 : FabPacket) : (unitLost s a1 a2 a3).outer = s.outer := by unfold unitLost; (try lift_lets); (repeat' (first | intro _ | (split <;> (try lift_lets)))) <;> simp +zetaDelta
@[simp] theorem outer_serveUnit (s : State) (a1 : Nat) (a2 : Nat) (a3 : FabPacket) : (serveUnit s a1 a2 a3).outer = s.outer := by unfold serveUnit; (try lift_lets); (repeat' (first | intro _ | (split <;> (try lift_lets)))) <;> simp +zetaDelta
@[simp] theorem outer_runBankItem (a0 : Nat) (s : State) (a2 : Machine.BankItem) : (runBankItem a0 s a2).outer = s.outer := by unfold runBankItem; (try lift_lets); (repeat' (first | intro _ | (split <;> (try lift_lets)))) <;> simp +zetaDelta
@[simp] theorem outer_runBankWait (s : State) (a1 : Nat) : (runBankWait s a1).outer = s.outer := by unfold runBankWait; (try lift_lets); (repeat' (first | intro _ | (split <;> (try lift_lets)))) <;> simp +zetaDelta [State.outer_foldl]
@[simp] theorem outer_repairLine (a0 : Nat) (s : State) (a2 : Nat) : (repairLine a0 s a2).outer = s.outer := by unfold repairLine; (try lift_lets); (repeat' (first | intro _ | (split <;> (try lift_lets)))) <;> simp +zetaDelta
@[simp] theorem outer_doRepairDone (s : State) (a1 : Nat) : (doRepairDone s a1).outer = s.outer := by unfold doRepairDone; (try lift_lets); (repeat' (first | intro _ | (split <;> (try lift_lets)))) <;> simp +zetaDelta [State.outer_foldl]
@[simp] theorem outer_flushHeld (s : State) (a1 : Nat) : (flushHeld s a1).outer = s.outer := by unfold flushHeld; (try lift_lets); (repeat' (first | intro _ | (split <;> (try lift_lets)))) <;> simp +zetaDelta [State.outer_foldl]
@[simp] theorem outer_giveUpSet (s : State) (a1 : Nat) : (giveUpSet s a1).outer = s.outer := by unfold giveUpSet; (try lift_lets); (repeat' (first | intro _ | (split <;> (try lift_lets)))) <;> simp +zetaDelta [State.outer_foldl]
end Sys2Proof.Machine
end

