-- ==== Sys2Proof/Laws/QueueXfer.lean ====
section
/-! SUPPORT. No operation of Xfer.lean touches the queue. -/
set_option linter.unusedTactic false
set_option linter.unreachableTactic false
namespace Sys2Proof.Machine
@[simp] theorem outer_beginXfer (s : State) (a1 : Nat) (a2 : Nat) (a3 : Machine.Transfer) : (beginXfer s a1 a2 a3).outer = s.outer := by unfold beginXfer; rfl
@[simp] theorem outer_bufEffects (s : State) (a1 : Nat) (a2 : Nat) (a3 : Nat) : (bufEffects s a1 a2 a3).outer = s.outer := by unfold bufEffects; (try lift_lets); (repeat' (first | intro _ | (split <;> (try lift_lets)))) <;> simp +zetaDelta
@[simp] theorem outer_txGo (a0 : Nat) (a1 : Nat) (a2 : Nat) (s : State) (a4 : Nat) (a5 : List Machine.TxFlit) : (txGo a0 a1 a2 s a4 a5).outer = s.outer := by
  induction a2 generalizing s a4 a5 with
  | zero => rfl
  | succ n ih => unfold txGo; split; rfl; dsimp only; rw [ih]; simp
@[simp] theorem outer_txWrite (s : State) (a1 : Nat) (a2 : Nat) (a3 : Nat) (a4 : List Machine.TxFlit) : (txWrite s a1 a2 a3 a4).outer = s.outer := by unfold txWrite; (try lift_lets); (repeat' (first | intro _ | (split <;> (try lift_lets)))) <;> simp +zetaDelta
@[simp] theorem outer_addUnit (s : State) (a1 : Machine.RemoteUnit) : (addUnit s a1).outer = s.outer := by unfold addUnit; rfl
@[simp] theorem outer_unitEnded (s : State) (a1 : Machine.RemoteUnit) (a2 : BitVec 4) : (unitEnded s a1 a2).2.outer = s.outer := by unfold unitEnded; rfl
@[simp] theorem outer_startRemote (s : State) (a1 : Nat) (a2 : Machine.FlowDesc) (a3 : Machine.Part) (a4 : Machine.Resolved) (a5 : Machine.Transfer) : (startRemote s a1 a2 a3 a4 a5).outer = s.outer := by unfold startRemote; (try lift_lets); (repeat' (first | intro _ | (split <;> (try lift_lets)) | (refine State.outer_foldl _ _ _ ?_) | (refine (State.outer_foldl _ _ _ ?_).trans ?_) | (refine outer_overNats _ _ _ ?_) | (refine (outer_overNats _ _ _ ?_).trans ?_))) <;> simp +zetaDelta
@[simp] theorem outer_lostResults (s : State) (a1 : Nat) (a2 : Nat) (a3 : Nat) (a4 : List Flit) : (lostResults s a1 a2 a3 a4).outer = s.outer := by unfold lostResults; (try lift_lets); (repeat' (first | intro _ | (split <;> (try lift_lets)))) <;> simp +zetaDelta
@[simp] theorem outer_lostLocal (s : State) (a1 : Nat) (a2 : Machine.FlowDesc) (a3 : Machine.Part) (a4 : Nat) (a5 : Machine.Transfer) : (lostLocal s a1 a2 a3 a4 a5).outer = s.outer := by unfold lostLocal; (try lift_lets); (repeat' (first | intro _ | (split <;> (try lift_lets)))) <;> simp +zetaDelta
@[simp] theorem outer_lostRecords (s : State) (a1 : Nat) (a2 : Machine.DieReq) (a3 : List Machine.TxFlit) : (lostRecords s a1 a2 a3).outer = s.outer := by unfold lostRecords; (try lift_lets); (repeat' (first | intro _ | (split <;> (try lift_lets)))) <;> simp +zetaDelta
@[simp] theorem outer_lostShare (a0 : Nat) (a1 : Nat) (s : State) (a3 : Machine.DieReq) : (lostShare a0 a1 s a3).outer = s.outer := by unfold lostShare; (try lift_lets); (repeat' (first | intro _ | (split <;> (try lift_lets)))) <;> simp +zetaDelta [State.outer_foldl]
@[simp] theorem outer_applySetLost (s : State) (a1 : Nat) : (applySetLost s a1).outer = s.outer := by unfold applySetLost; (try lift_lets); (repeat' (first | intro _ | (split <;> (try lift_lets)))) <;> simp +zetaDelta [State.outer_foldl]
@[simp] theorem outer_startLocal (s : State) (a1 : Nat) (a2 : Machine.FlowDesc) (a3 : Machine.Part) (a4 : Machine.Resolved) (a5 : Machine.Transfer) : (startLocal s a1 a2 a3 a4 a5).outer = s.outer := by unfold startLocal; (try lift_lets); (repeat' (first | intro _ | (split <;> (try lift_lets)))) <;> simp +zetaDelta
@[simp] theorem outer_startSend (s : State) (a1 : Nat) (a2 : Machine.FlowDesc) (a3 : Machine.Part) (a4 : Machine.Transfer) : (startSend s a1 a2 a3 a4).outer = s.outer := by unfold startSend; (try lift_lets); (repeat' (first | intro _ | (split <;> (try lift_lets)))) <;> simp +zetaDelta
@[simp] theorem outer_startRecv (s : State) (a1 : Nat) (a2 : Machine.FlowDesc) (a3 : Machine.Part) : (startRecv s a1 a2 a3).outer = s.outer := by unfold startRecv; (try lift_lets); (repeat' (first | intro _ | (split <;> (try lift_lets)))) <;> simp +zetaDelta
@[simp] theorem outer_startReduce (s : State) (a1 : Nat) (a2 : Machine.FlowDesc) (a3 : Machine.Part) (a4 : Machine.Transfer) : (startReduce s a1 a2 a3 a4).outer = s.outer := by unfold startReduce; (try lift_lets); (repeat' (first | intro _ | (split <;> (try lift_lets)) | (refine State.outer_foldl _ _ _ ?_) | (refine (State.outer_foldl _ _ _ ?_).trans ?_) | (refine outer_overNats _ _ _ ?_) | (refine (outer_overNats _ _ _ ?_).trans ?_))) <;> simp +zetaDelta
@[simp] theorem outer_doDmaFlow (s : State) (a1 : Nat) (a2 : Nat) : (doDmaFlow s a1 a2).outer = s.outer := by unfold doDmaFlow; (try lift_lets); (repeat' (first | intro _ | (split <;> (try lift_lets)))) <;> simp +zetaDelta
@[simp] theorem outer_doXferComplete (s : State) (a1 : Nat) (a2 : Nat) : (doXferComplete s a1 a2).outer = s.outer := by unfold doXferComplete <;> (try lift_lets); (repeat' (first | intro _ | (split <;> (try lift_lets)) | (refine State.outer_foldl _ _ _ ?_) | (refine (State.outer_foldl _ _ _ ?_).trans ?_) | (refine outer_overNats _ _ _ ?_) | (refine (outer_overNats _ _ _ ?_).trans ?_))) <;> (try simp +zetaDelta) <;> (repeat' split) <;> (try simp +zetaDelta)
end Sys2Proof.Machine
end

