-- ==== Sys2Proof/Laws/QueueSync.lean ====
section
/-! SUPPORT. No operation of Sync.lean touches the queue. -/
set_option linter.unusedTactic false
set_option linter.unreachableTactic false
namespace Sys2Proof.Machine
@[simp] theorem outer_syncMisuse (s : State) (a1 : Nat) (a2 : Nat) (a3 : Nat) (a4 : Nat) : (syncMisuse s a1 a2 a3 a4).outer = s.outer := by unfold syncMisuse; (try lift_lets); (repeat' (first | intro _ | (split <;> (try lift_lets)))) <;> simp +zetaDelta
@[simp] theorem outer_sendArrive (s : State) (a1 : Nat) (a2 : Nat) : (sendArrive s a1 a2).outer = s.outer := by unfold sendArrive; (try lift_lets); (repeat' (first | intro _ | (split <;> (try lift_lets)))) <;> simp +zetaDelta
@[simp] theorem outer_doSyncArrive (s : State) (a1 : Nat) (a2 : Nat) : (doSyncArrive s a1 a2).outer = s.outer := by unfold doSyncArrive; (try lift_lets); (repeat' (first | intro _ | (split <;> (try lift_lets)))) <;> simp +zetaDelta
@[simp] theorem outer_doBarrierArrive (s : State) (a1 : Nat) (a2 : Nat) (a3 : Nat) (a4 : Nat) : (doBarrierArrive s a1 a2 a3 a4).outer = s.outer := by unfold doBarrierArrive; (try lift_lets); (repeat' (first | intro _ | (split <;> (try lift_lets)) | (refine State.outer_foldl _ _ _ ?_) | (refine (State.outer_foldl _ _ _ ?_).trans ?_) | (refine outer_overNats _ _ _ ?_) | (refine (outer_overNats _ _ _ ?_).trans ?_))) <;> simp +zetaDelta
@[simp] theorem outer_doBarrierRelease (s : State) (a1 : Nat) (a2 : Nat) (a3 : Nat) : (doBarrierRelease s a1 a2 a3).outer = s.outer := by unfold doBarrierRelease; (try lift_lets); (repeat' (first | intro _ | (split <;> (try lift_lets)) | (refine State.outer_foldl _ _ _ ?_) | (refine (State.outer_foldl _ _ _ ?_).trans ?_) | (refine outer_overNats _ _ _ ?_) | (refine (outer_overNats _ _ _ ?_).trans ?_))) <;> simp +zetaDelta
@[simp] theorem outer_sendFlag (s : State) (a1 : Nat) (a2 : Nat) (a3 : Word) : (sendFlag s a1 a2 a3).outer = s.outer := by unfold sendFlag; (try lift_lets); (repeat' (first | intro _ | (split <;> (try lift_lets)))) <;> simp +zetaDelta
@[simp] theorem outer_doFlagWrite (s : State) (a1 : Nat) (a2 : Nat) (a3 : Nat) (a4 : Word) : (doFlagWrite s a1 a2 a3 a4).outer = s.outer := by unfold doFlagWrite; (try lift_lets); (repeat' (first | intro _ | (split <;> (try lift_lets)) | (refine State.outer_foldl _ _ _ ?_) | (refine (State.outer_foldl _ _ _ ?_).trans ?_) | (refine outer_overNats _ _ _ ?_) | (refine (outer_overNats _ _ _ ?_).trans ?_))) <;> simp +zetaDelta
@[simp] theorem outer_doFlagNotify (s : State) (a1 : Nat) (a2 : Nat) (a3 : Word) : (doFlagNotify s a1 a2 a3).outer = s.outer := by unfold doFlagNotify; (try lift_lets); (repeat' (first | intro _ | (split <;> (try lift_lets)) | (refine State.outer_foldl _ _ _ ?_) | (refine (State.outer_foldl _ _ _ ?_).trans ?_) | (refine outer_overNats _ _ _ ?_) | (refine (outer_overNats _ _ _ ?_).trans ?_))) <;> simp +zetaDelta
end Sys2Proof.Machine
end

