-- ==== Sys2Proof/Laws/QueueRings.lean ====
section
/-! SUPPORT. No operation of Rings.lean touches the queue. -/
set_option linter.unusedTactic false
set_option linter.unreachableTactic false
namespace Sys2Proof.Machine
@[simp] theorem outer_setQp (s : State) (a1 : Nat) (a2 : Machine.QpSt) : (setQp s a1 a2).outer = s.outer := by unfold setQp; rfl
@[simp] theorem outer_setRing (s : State) (a1 : Nat) (a2 : Machine.RingSt) : (setRing s a1 a2).outer = s.outer := by unfold setRing; rfl
@[simp] theorem outer_hostError (s : State) (a1 : Nat) (a2 : Nat) (a3 : Nat) : (hostError s a1 a2 a3).outer = s.outer := by unfold hostError; (try lift_lets); (repeat' (first | intro _ | (split <;> (try lift_lets)))) <;> simp +zetaDelta
@[simp] theorem outer_wireRequest (s : State) (a1 : Nat) (a2 : Machine.QpReq) : (wireRequest s a1 a2).outer = s.outer := by unfold wireRequest; (try lift_lets); (repeat' (first | intro _ | (split <;> (try lift_lets)))) <;> simp +zetaDelta
@[simp] theorem outer_wireHeld (s : State) (a1 : Nat) : (wireHeld s a1).outer = s.outer := by unfold wireHeld; (try lift_lets); (repeat' (first | intro _ | (split <;> (try lift_lets)))) <;> simp +zetaDelta
@[simp] theorem outer_pumpQp (s : State) (a1 : Nat) : (pumpQp s a1).outer = s.outer := by unfold pumpQp <;> (try lift_lets); (repeat' (first | intro _ | (split <;> (try lift_lets)) | (refine State.outer_foldl _ _ _ ?_) | (refine (State.outer_foldl _ _ _ ?_).trans ?_) | (refine outer_overNats _ _ _ ?_) | (refine (outer_overNats _ _ _ ?_).trans ?_))) <;> (try simp +zetaDelta) <;> (repeat' split) <;> (try simp +zetaDelta)
@[simp] theorem outer_queueRequest (s : State) (a1 : Nat) (a2 : Machine.QpReq) : (queueRequest s a1 a2).outer = s.outer := by unfold queueRequest; (try lift_lets); (repeat' (first | intro _ | (split <;> (try lift_lets)))) <;> simp +zetaDelta
@[simp] theorem outer_recordKept (s : State) (a1 : Nat) (a2 : Nat) : (recordKept s a1 a2).outer = s.outer := by unfold recordKept; (try lift_lets); (repeat' (first | intro _ | (split <;> (try lift_lets)))) <;> simp +zetaDelta
@[simp] theorem outer_sendBody (s : State) (a1 : Nat) : (sendBody s a1).outer = s.outer := by unfold sendBody; (try lift_lets); (repeat' (first | intro _ | (split <;> (try lift_lets)))) <;> simp +zetaDelta
@[simp] theorem outer_recordsKept (s : State) (a1 : Nat) : (recordsKept s a1).outer = s.outer := by unfold recordsKept; (try lift_lets); (repeat' (first | intro _ | (split <;> (try lift_lets)) | (refine State.outer_foldl _ _ _ ?_) | (refine (State.outer_foldl _ _ _ ?_).trans ?_) | (refine outer_overNats _ _ _ ?_) | (refine (outer_overNats _ _ _ ?_).trans ?_))) <;> simp +zetaDelta
@[simp] theorem outer_pairRecordsKept (s : State) (a1 : Nat) : (pairRecordsKept s a1).outer = s.outer := by unfold pairRecordsKept; (try lift_lets); (repeat' (first | intro _ | (split <;> (try lift_lets)))) <;> simp +zetaDelta
@[simp] theorem outer_qpFail (s : State) (a1 : Nat) (a2 : Nat) : (qpFail s a1 a2).outer = s.outer := by unfold qpFail; (try lift_lets); (repeat' (first | intro _ | (split <;> (try lift_lets)))) <;> simp +zetaDelta
@[simp] theorem outer_deliverRecord (s : State) (a1 : Nat) (a2 : Nat) (a3 : List Byte) : (deliverRecord s a1 a2 a3).outer = s.outer := by unfold deliverRecord; (try lift_lets); (repeat' (first | intro _ | (split <;> (try lift_lets)))) <;> simp +zetaDelta
@[simp] theorem outer_hostBack (s : State) : (hostBack s).outer = s.outer := by unfold hostBack; (try lift_lets); (repeat' (first | intro _ | (split <;> (try lift_lets)))) <;> simp +zetaDelta [State.outer_foldl]
@[simp] theorem outer_doRecordAck (s : State) (a1 : Nat) : (doRecordAck s a1).outer = s.outer := by unfold doRecordAck <;> (try lift_lets); (repeat' (first | intro _ | (split <;> (try lift_lets)) | (refine State.outer_foldl _ _ _ ?_) | (refine (State.outer_foldl _ _ _ ?_).trans ?_) | (refine outer_overNats _ _ _ ?_) | (refine (outer_overNats _ _ _ ?_).trans ?_))) <;> (try simp +zetaDelta) <;> (repeat' split) <;> (try simp +zetaDelta)
@[simp] theorem outer_endEntry (s : State) (a1 : Nat) (a2 : Nat) (a3 : Nat) (a4 : Nat) (a5 : Word) (a6 : Word) : (endEntry s a1 a2 a3 a4 a5 a6).outer = s.outer := by unfold endEntry; (try lift_lets); (repeat' (first | intro _ | (split <;> (try lift_lets)))) <;> simp +zetaDelta
@[simp] theorem outer_abortQueued (a0 : Nat) (s : State) (a2 : Nat) (a3 : Nat) : (abortQueued a0 s a2 a3).outer = s.outer := by
  induction a0 generalizing s with
  | zero => rfl
  | succ n ih => simp only [abortQueued]; split; rfl; rw [ih]; simp
@[simp] theorem outer_doRingConfig (s : State) (a1 : Nat) (a2 : List Byte) : (doRingConfig s a1 a2).2.outer = s.outer := by unfold doRingConfig; (try lift_lets); (repeat' (first | intro _ | (split <;> (try lift_lets)))) <;> simp +zetaDelta
end Sys2Proof.Machine
end

