-- ==== Sys2Proof/Laws/QueueJobs.lean ====
section
/-! SUPPORT. No operation of Jobs.lean touches the queue. -/
set_option linter.unusedTactic false
set_option linter.unreachableTactic false
namespace Sys2Proof.Machine
@[simp] theorem outer_setJob (s : State) (a1 : Machine.Job) : (setJob s a1).outer = s.outer := by unfold setJob; rfl
@[simp] theorem outer_queueTables (s : State) (a1 : Nat) (a2 : List Nat) (a3 : Nat) (a4 : List Byte) (a5 : Machine.Tbl (BitVec 32)) : (queueTables s a1 a2 a3 a4 a5).outer = s.outer := by unfold queueTables; rfl
@[simp] theorem outer_dropTables (s : State) (a1 : Nat) : (dropTables s a1).outer = s.outer := by unfold dropTables; rfl
@[simp] theorem outer_writeScratch (s : State) (a1 : Machine.RingEntry) (a2 : Machine.Image) (a3 : Machine.VariantE) (a4 : List Nat) : (writeScratch s a1 a2 a3 a4).outer = s.outer := by unfold writeScratch; (try lift_lets); (repeat' (first | intro _ | (split <;> (try lift_lets)))) <;> simp +zetaDelta
@[simp] theorem outer_releaseShadow (s : State) (a1 : Nat) : (releaseShadow s a1).outer = s.outer := by unfold releaseShadow; (try lift_lets); (repeat' (first | intro _ | (split <;> (try lift_lets)) | (refine State.outer_foldl _ _ _ ?_) | (refine (State.outer_foldl _ _ _ ?_).trans ?_) | (refine outer_overNats _ _ _ ?_) | (refine (outer_overNats _ _ _ ?_).trans ?_))) <;> simp +zetaDelta
@[simp] theorem outer_endJob (s : State) (a1 : Nat) (a2 : Nat) : (endJob s a1 a2).outer = s.outer := by unfold endJob; (try lift_lets); (repeat' (first | intro _ | (split <;> (try lift_lets)))) <;> simp +zetaDelta
@[simp] theorem outer_finishJob (s : State) (a1 : Nat) (a2 : Nat) : (finishJob s a1 a2).outer = s.outer := by unfold finishJob; (try lift_lets); (repeat' (first | intro _ | (split <;> (try lift_lets)))) <;> simp +zetaDelta
@[simp] theorem outer_goStart (s : State) (a1 : Bool) (a2 : BitVec 8) : (goStart s a1 a2).outer = s.outer := by unfold goStart; (try lift_lets); (repeat' (first | intro _ | (split <;> (try lift_lets)))) <;> simp +zetaDelta
@[simp] theorem outer_startLoading (s : State) : (startLoading s).outer = s.outer := by unfold startLoading <;> (try lift_lets); (repeat' (first | intro _ | (split <;> (try lift_lets)) | (refine State.outer_foldl _ _ _ ?_) | (refine (State.outer_foldl _ _ _ ?_).trans ?_) | (refine outer_overNats _ _ _ ?_) | (refine (outer_overNats _ _ _ ?_).trans ?_))) <;> (try simp +zetaDelta) <;> (repeat' split) <;> (try simp +zetaDelta)
@[simp] theorem outer_allOn (s : State) : (allOn s).outer = s.outer := by unfold allOn; (try lift_lets); (repeat' (first | intro _ | (split <;> (try lift_lets)))) <;> simp +zetaDelta
@[simp] theorem outer_doJobTake (s : State) : (doJobTake s).outer = s.outer := by unfold doJobTake; (try lift_lets); (repeat' (first | intro _ | (split <;> (try lift_lets)))) <;> simp +zetaDelta
@[simp] theorem outer_doImageChecked (s : State) : (doImageChecked s).outer = s.outer := by unfold doImageChecked; (try lift_lets); (repeat' (first | intro _ | (split <;> (try lift_lets)))) <;> simp +zetaDelta
@[simp] theorem outer_doVerdict (s : State) (a1 : Nat) (a2 : Nat) (a3 : Nat) (a4 : Nat) (a5 : Word) : (doVerdict s a1 a2 a3 a4 a5).outer = s.outer := by unfold doVerdict; (try lift_lets); (repeat' (first | intro _ | (split <;> (try lift_lets)))) <;> simp +zetaDelta
@[simp] theorem outer_bootDie (a0 : Machine.Job) (s : State) (a2 : Nat) : (bootDie a0 s a2).outer = s.outer := by unfold bootDie; (try lift_lets); (repeat' (first | intro _ | (split <;> (try lift_lets)))) <;> simp +zetaDelta
@[simp] theorem outer_applyJobStart (s : State) : (applyJobStart s).outer = s.outer := by unfold applyJobStart; (try lift_lets); (repeat' (first | intro _ | (split <;> (try lift_lets)))) <;> simp +zetaDelta [State.outer_foldl]
@[simp] theorem outer_stopDone (s : State) : (stopDone s).outer = s.outer := by unfold stopDone; (try lift_lets); (repeat' (first | intro _ | (split <;> (try lift_lets)))) <;> simp +zetaDelta
@[simp] theorem outer_beginStop (s : State) (a1 : Nat) (a2 : Option (Nat × Nat × Bool)) (a3 : Nat) (a4 : Nat) : (beginStop s a1 a2 a3 a4).outer = s.outer := by unfold beginStop; (try lift_lets); (repeat' (first | intro _ | (split <;> (try lift_lets)))) <;> simp +zetaDelta
@[simp] theorem outer_endAny (s : State) (a1 : Nat) (a2 : Nat) (a3 : Nat) : (endAny s a1 a2 a3).outer = s.outer := by unfold endAny; (try lift_lets); (repeat' (first | intro _ | (split <;> (try lift_lets)))) <;> simp +zetaDelta
@[simp] theorem outer_jobLoss (s : State) (a1 : Nat) (a2 : Nat) : (jobLoss s a1 a2).outer = s.outer := by unfold jobLoss; (try lift_lets); (repeat' (first | intro _ | (split <;> (try lift_lets)))) <;> simp +zetaDelta
@[simp] theorem outer_judgeExits (s : State) : (judgeExits s).outer = s.outer := by unfold judgeExits; (try lift_lets); (repeat' (first | intro _ | (split <;> (try lift_lets)))) <;> simp +zetaDelta
@[simp] theorem outer_doTileBoot (s : State) (a1 : Nat) : (doTileBoot s a1).outer = s.outer := by unfold doTileBoot; (try lift_lets); (repeat' (first | intro _ | (split <;> (try lift_lets)))) <;> simp +zetaDelta
@[simp] theorem outer_doJobRunning (s : State) : (doJobRunning s).outer = s.outer := by unfold doJobRunning <;> (try lift_lets); (repeat' (first | intro _ | (split <;> (try lift_lets)) | (refine State.outer_foldl _ _ _ ?_) | (refine (State.outer_foldl _ _ _ ?_).trans ?_) | (refine outer_overNats _ _ _ ?_) | (refine (outer_overNats _ _ _ ?_).trans ?_))) <;> (try simp +zetaDelta) <;> (repeat' split) <;> (try simp +zetaDelta)
@[simp] theorem outer_doJobExit (s : State) (a1 : Nat) (a2 : Nat) : (doJobExit s a1 a2).outer = s.outer := by unfold doJobExit; (try lift_lets); (repeat' (first | intro _ | (split <;> (try lift_lets)))) <;> simp +zetaDelta
@[simp] theorem outer_stopReq (a0 : Nat) (s : State) (a2 : Machine.DieReq) : (stopReq a0 s a2).outer = s.outer := by unfold stopReq; (try lift_lets); (repeat' (first | intro _ | (split <;> (try lift_lets)))) <;> simp +zetaDelta
@[simp] theorem outer_unqueueUnit (s : State) (a1 : Machine.RemoteUnit) : (unqueueUnit s a1).outer = s.outer := by unfold unqueueUnit; (try lift_lets); (repeat' (first | intro _ | (split <;> (try lift_lets)))) <;> simp +zetaDelta
@[simp] theorem outer_stopUnits (s : State) (a1 : Machine.RemoteUnit → Bool) : (stopUnits s a1).outer = s.outer := by unfold stopUnits; (try lift_lets); (repeat' (first | intro _ | (split <;> (try lift_lets)) | (refine State.outer_foldl _ _ _ ?_) | (refine (State.outer_foldl _ _ _ ?_).trans ?_) | (refine outer_overNats _ _ _ ?_) | (refine (outer_overNats _ _ _ ?_).trans ?_))) <;> simp +zetaDelta
@[simp] theorem outer_stopDie (s : State) (a1 : Nat) (a2 : Nat) : (stopDie s a1 a2).outer = s.outer := by simp only [stopDie] <;> (repeat' (first | split | (refine State.outer_foldl _ _ _ ?_; intro _ _) | (refine (State.outer_foldl _ _ _ ?_).trans ?_) | rfl)) <;> (try simp) <;> (repeat' (first | split | (refine (State.outer_foldl _ _ _ ?_).trans ?_) | intro _ )) <;> (try simp)
@[simp] theorem outer_doJobStopped (s : State) (a1 : Nat) (a2 : Nat) : (doJobStopped s a1 a2).outer = s.outer := by unfold doJobStopped; (try lift_lets); (repeat' (first | intro _ | (split <;> (try lift_lets)))) <;> simp +zetaDelta
@[simp] theorem outer_doJobDrained (s : State) : (doJobDrained s).outer = s.outer := by unfold doJobDrained; (try lift_lets); (repeat' (first | intro _ | (split <;> (try lift_lets)))) <;> simp +zetaDelta
@[simp] theorem outer_doTail (s : State) (a1 : Nat) (a2 : Nat) : (doTail s a1 a2).outer = s.outer := by unfold doTail; (try lift_lets); (repeat' (first | intro _ | (split <;> (try lift_lets)))) <;> simp +zetaDelta
@[simp] theorem outer_doAbort (s : State) (a1 : Nat) (a2 : Nat) : (doAbort s a1 a2).outer = s.outer := by unfold doAbort; (try lift_lets); (repeat' (first | intro _ | (split <;> (try lift_lets)))) <;> simp +zetaDelta
end Sys2Proof.Machine
end

