-- ==== Sys2Proof/Laws/QueueHostPorts.lean ====
section
/-! SUPPORT. No operation of HostPorts.lean touches the queue. -/
set_option linter.unusedTactic false
set_option linter.unreachableTactic false
namespace Sys2Proof.Machine
@[simp] theorem outer_portSend (s : State) (a1 : Nat) (a2 : Machine.HostOut) : (portSend s a1 a2).outer = s.outer := by unfold portSend; (try lift_lets); (repeat' (first | intro _ | (split <;> (try lift_lets)))) <;> simp +zetaDelta
@[simp] theorem outer_answer (s : State) (a1 : Nat) (a2 : Machine.RoceKind) (a3 : BitVec 24) (a4 : List Byte) : (answer s a1 a2 a3 a4).outer = s.outer := by unfold answer; (try lift_lets); (repeat' (first | intro _ | (split <;> (try lift_lets)))) <;> simp +zetaDelta
@[simp] theorem outer_nak (s : State) (a1 : Nat) (a2 : Machine.RoceKind) (a3 : BitVec 24) : (nak s a1 a2 a3).outer = s.outer := by unfold nak; (try lift_lets); (repeat' (first | intro _ | (split <;> (try lift_lets)))) <;> simp +zetaDelta
@[simp] theorem outer_nakCounted (s : State) (a1 : Nat) (a2 : Machine.RoceKind) (a3 : BitVec 24) : (nakCounted s a1 a2 a3).outer = s.outer := by unfold nakCounted; (try lift_lets); (repeat' (first | intro _ | (split <;> (try lift_lets)))) <;> simp +zetaDelta
@[simp] theorem outer_congest (s : State) (a1 : Nat) (a2 : Bool) : (congest s a1 a2).outer = s.outer := by unfold congest; (try lift_lets); (repeat' (first | intro _ | (split <;> (try lift_lets)))) <;> simp +zetaDelta
@[simp] theorem outer_doWindow (s : State) (a1 : Nat) (a2 : List Byte) : (doWindow s a1 a2).2.outer = s.outer := by unfold doWindow; (try lift_lets); (repeat' (first | intro _ | (split <;> (try lift_lets)))) <;> simp +zetaDelta
@[simp] theorem outer_doorbellWrite (s : State) (a1 : Nat) (a2 : Nat) : (doorbellWrite s a1 a2).outer = s.outer := by unfold doorbellWrite; (try lift_lets); (repeat' (first | intro _ | (split <;> (try lift_lets)))) <;> simp +zetaDelta
@[simp] theorem outer_updReq (s : State) (a1 : Nat) (a2 : Nat) (a3 : Machine.HostReq → Machine.HostReq) : (updReq s a1 a2 a3).outer = s.outer := by unfold updReq; rfl
@[simp] theorem outer_sendUnits (s : State) (a1 : Nat) (a2 : Machine.HostReq) : (sendUnits s a1 a2).outer = s.outer := by unfold sendUnits; (try lift_lets); (repeat' (first | intro _ | (split <;> (try lift_lets)) | (refine State.outer_foldl _ _ _ ?_) | (refine (State.outer_foldl _ _ _ ?_).trans ?_) | (refine outer_overNats _ _ _ ?_) | (refine (outer_overNats _ _ _ ?_).trans ?_))) <;> simp +zetaDelta
@[simp] theorem outer_endReq (s : State) (a1 : Nat) (a2 : Nat) : (endReq s a1 a2).outer = s.outer := by unfold endReq; rfl
@[simp] theorem outer_hostRefuse (s : State) (a1 : Nat) (a2 : Nat) : (hostRefuse s a1 a2).outer = s.outer := by unfold hostRefuse; (try lift_lets); (repeat' (first | intro _ | (split <;> (try lift_lets)))) <;> simp +zetaDelta
@[simp] theorem outer_beginReq (s : State) (a1 : Nat) (a2 : Machine.HostReq) : (beginReq s a1 a2).outer = s.outer := by unfold beginReq; (try lift_lets); (repeat' (first | intro _ | (split <;> (try lift_lets)))) <;> simp +zetaDelta
@[simp] theorem outer_finishHost (s : State) (a1 : Nat) (a2 : Machine.HostReq) : (finishHost s a1 a2).outer = s.outer := by unfold finishHost; (try lift_lets); (repeat' (first | intro _ | (split <;> (try lift_lets)))) <;> simp +zetaDelta
@[simp] theorem outer_pumpPair (a0 : Nat) (s : State) (a2 : Nat) : (pumpPair a0 s a2).outer = s.outer := by
  induction a0 generalizing s with
  | zero => rfl
  | succ n ih => simp only [pumpPair]; split; rw [ih]; simp; split; rw [ih]; simp; rfl
@[simp] theorem outer_pumpPairs (s : State) (a1 : Nat) : (pumpPairs s a1).outer = s.outer := by unfold pumpPairs; (try lift_lets); (repeat' (first | intro _ | (split <;> (try lift_lets)) | (refine State.outer_foldl _ _ _ ?_) | (refine (State.outer_foldl _ _ _ ?_).trans ?_) | (refine outer_overNats _ _ _ ?_) | (refine (outer_overNats _ _ _ ?_).trans ?_))) <;> simp +zetaDelta
@[simp] theorem outer_takeReq (s : State) (a1 : Nat) (a2 : Machine.HostReq) : (takeReq s a1 a2).outer = s.outer := by unfold takeReq; (try lift_lets); (repeat' (first | intro _ | (split <;> (try lift_lets)))) <;> simp +zetaDelta
@[simp] theorem outer_takeHostAnswer (s : State) (a1 : FabPacket) : (takeHostAnswer s a1).outer = s.outer := by unfold takeHostAnswer; (try lift_lets); (repeat' (first | intro _ | (split <;> (try lift_lets)))) <;> simp +zetaDelta
@[simp] theorem outer_doQp (s : State) (a1 : Nat) (a2 : List Byte) : (doQp s a1 a2).2.outer = s.outer := by unfold doQp; (try lift_lets); (repeat' (first | intro _ | (split <;> (try lift_lets)))) <;> simp +zetaDelta
@[simp] theorem outer_advance (s : State) (a1 : Nat) (a2 : Nat) : (advance s a1 a2).outer = s.outer := by unfold advance; rfl
@[simp] theorem outer_refuse (s : State) (a1 : Nat) (a2 : Machine.RoceKind) (a3 : Bool) (a4 : BitVec 24) : (refuse s a1 a2 a3 a4).outer = s.outer := by unfold refuse; (try lift_lets); (repeat' (first | intro _ | (split <;> (try lift_lets)))) <;> simp +zetaDelta
@[simp] theorem outer_outOfOrder (s : State) (a1 : Nat) : (outOfOrder s a1).outer = s.outer := by unfold outOfOrder; (try lift_lets); (repeat' (first | intro _ | (split <;> (try lift_lets)))) <;> simp +zetaDelta
@[simp] theorem outer_writePart (s : State) (a1 : Nat) (a2 : WritePkt) (a3 : Nat) (a4 : Nat) (a5 : BitVec 32) : (writePart s a1 a2 a3 a4 a5).outer = s.outer := by unfold writePart; (try lift_lets); (repeat' (first | intro _ | (split <;> (try lift_lets)))) <;> simp +zetaDelta
@[simp] theorem outer_doRdmaWrite (s : State) (a1 : HostFrame) (a2 : Nat) (a3 : WritePkt) : (doRdmaWrite s a1 a2 a3).outer = s.outer := by unfold doRdmaWrite; (try lift_lets); (repeat' (first | intro _ | (split <;> (try lift_lets)))) <;> simp +zetaDelta
@[simp] theorem outer_doRdmaRead (s : State) (a1 : HostFrame) (a2 : Nat) (a3 : BitVec 24) (a4 : Nat) (a5 : Nat) (a6 : Nat) : (doRdmaRead s a1 a2 a3 a4 a5 a6).outer = s.outer := by unfold doRdmaRead; (try lift_lets); (repeat' (first | intro _ | (split <;> (try lift_lets)))) <;> simp +zetaDelta
@[simp] theorem outer_doSend (s : State) (a1 : HostFrame) (a2 : Nat) (a3 : BitVec 24) (a4 : List Byte) : (doSend s a1 a2 a3 a4).outer = s.outer := by unfold doSend; (try lift_lets); (repeat' (first | intro _ | (split <;> (try lift_lets)))) <;> simp +zetaDelta
@[simp] theorem outer_doHostAtomic (s : State) (a1 : HostFrame) (a2 : Nat) (a3 : BitVec 24) (a4 : Nat) (a5 : Nat) (a6 : Nat) (a7 : Word) (a8 : Word) : (doHostAtomic s a1 a2 a3 a4 a5 a6 a7 a8).outer = s.outer := by unfold doHostAtomic <;> (try lift_lets); (repeat' (first | intro _ | (split <;> (try lift_lets)) | (refine State.outer_foldl _ _ _ ?_) | (refine (State.outer_foldl _ _ _ ?_).trans ?_) | (refine outer_overNats _ _ _ ?_) | (refine (outer_overNats _ _ _ ?_).trans ?_))) <;> (try simp +zetaDelta) <;> (repeat' split) <;> (try simp +zetaDelta)
@[simp] theorem outer_doHostMemTimeout (s : State) (a1 : Nat) : (doHostMemTimeout s a1).outer = s.outer := by unfold doHostMemTimeout <;> (try lift_lets); (repeat' (first | intro _ | (split <;> (try lift_lets)) | (refine State.outer_foldl _ _ _ ?_) | (refine (State.outer_foldl _ _ _ ?_).trans ?_) | (refine outer_overNats _ _ _ ?_) | (refine (outer_overNats _ _ _ ?_).trans ?_))) <;> (try simp +zetaDelta) <;> (repeat' split) <;> (try simp +zetaDelta)
@[simp] theorem outer_retryRequest (s : State) (a1 : Nat) (a2 : Bool) : (retryRequest s a1 a2).outer = s.outer := by unfold retryRequest; (try lift_lets); (repeat' (first | intro _ | (split <;> (try lift_lets)))) <;> simp +zetaDelta
@[simp] theorem outer_doRoceAck (s : State) (a1 : HostFrame) (a2 : Nat) (a3 : BitVec 24) (a4 : AckKind) : (doRoceAck s a1 a2 a3 a4).outer = s.outer := by unfold doRoceAck; (try lift_lets); (repeat' (first | intro _ | (split <;> (try lift_lets)))) <;> simp +zetaDelta
@[simp] theorem outer_ethSend (s : State) (a1 : Nat) (a2 : Machine.EthKind) (a3 : List Byte) : (ethSend s a1 a2 a3).outer = s.outer := by unfold ethSend; rfl
@[simp] theorem outer_doPfc (s : State) (a1 : HostFrame) (a2 : Nat) (a3 : Bool) : (doPfc s a1 a2 a3).outer = s.outer := by unfold doPfc; (try lift_lets); (repeat' (first | intro _ | (split <;> (try lift_lets)) | (refine State.outer_foldl _ _ _ ?_) | (refine (State.outer_foldl _ _ _ ?_).trans ?_) | (refine outer_overNats _ _ _ ?_) | (refine (outer_overNats _ _ _ ?_).trans ?_))) <;> simp +zetaDelta
@[simp] theorem outer_beginLink (s : State) (a1 : Nat) : (beginLink s a1).outer = s.outer := by unfold beginLink; rfl
@[simp] theorem outer_cageRead (s : State) (a1 : Cage) : (cageRead s a1).outer = s.outer := by unfold cageRead; rfl
@[simp] theorem outer_doBringup (s : State) (a1 : Cage) : (doBringup s a1).outer = s.outer := by unfold doBringup; (try lift_lets); (repeat' (first | intro _ | (split <;> (try lift_lets)))) <;> simp +zetaDelta
@[simp] theorem outer_doLinkUp (s : State) (a1 : Nat) (a2 : BitVec 4) : (doLinkUp s a1 a2).outer = s.outer := by unfold doLinkUp; (try lift_lets); (repeat' (first | intro _ | (split <;> (try lift_lets)))) <;> simp +zetaDelta
@[simp] theorem outer_doPortDown (s : State) (a1 : Nat) : (doPortDown s a1).outer = s.outer := by unfold doPortDown; (try lift_lets); (repeat' (first | intro _ | (split <;> (try lift_lets)))) <;> simp +zetaDelta
@[simp] theorem outer_bringupFailed (s : State) (a1 : Nat) : (bringupFailed s a1).outer = s.outer := by unfold bringupFailed; (try lift_lets); (repeat' (first | intro _ | (split <;> (try lift_lets)))) <;> simp +zetaDelta
@[simp] theorem outer_hostClock (s : State) : (hostClock s).outer = s.outer := by unfold hostClock; (try lift_lets); (repeat' (first | intro _ | (split <;> (try lift_lets)) | (refine State.outer_foldl _ _ _ ?_) | (refine (State.outer_foldl _ _ _ ?_).trans ?_) | (refine outer_overNats _ _ _ ?_) | (refine (outer_overNats _ _ _ ?_).trans ?_))) <;> simp +zetaDelta
@[simp] theorem outer_hostDieLost (s : State) (a1 : Nat) : (hostDieLost s a1).outer = s.outer := by unfold hostDieLost; (try lift_lets); (repeat' (first | intro _ | (split <;> (try lift_lets)))) <;> simp +zetaDelta [State.outer_foldl]
end Sys2Proof.Machine
end

