-- ==== Sys2Proof/Laws/QueueFab.lean ====
section
/-! SUPPORT. No operation of Fab.lean touches the queue. -/
set_option linter.unusedTactic false
set_option linter.unreachableTactic false
namespace Sys2Proof.Machine
@[simp] theorem outer_egress (s : State) (a1 : Nat) (a2 : FabPacket) : (egress s a1 a2).outer = s.outer := by unfold egress; (try lift_lets); (repeat' (first | intro _ | (split <;> (try lift_lets)))) <;> simp +zetaDelta
@[simp] theorem outer_routeUni (s : State) (a1 : Nat) (a2 : Option Nat) (a3 : FabPacket) : (routeUni s a1 a2 a3).outer = s.outer := by unfold routeUni; (try lift_lets); (repeat' (first | intro _ | (split <;> (try lift_lets)))) <;> simp +zetaDelta
@[simp] theorem outer_copyMulti (s : State) (a1 : Nat) (a2 : Option Nat) (a3 : Nat) (a4 : FabPacket) : (copyMulti s a1 a2 a3 a4).outer = s.outer := by unfold copyMulti; (try lift_lets); (repeat' (first | intro _ | (split <;> (try lift_lets)))) <;> simp +zetaDelta
@[simp] theorem outer_holdMulti (s : State) (a1 : Nat) (a2 : Nat) (a3 : FabPacket) : (holdMulti s a1 a2 a3).outer = s.outer := by unfold holdMulti; (try lift_lets); (repeat' (first | intro _ | (split <;> (try lift_lets)))) <;> simp +zetaDelta
@[simp] theorem outer_routeMulti (s : State) (a1 : Nat) (a2 : Option Nat) (a3 : Nat) (a4 : FabPacket) : (routeMulti s a1 a2 a3 a4).outer = s.outer := by unfold routeMulti; (try lift_lets); (repeat' (first | intro _ | (split <;> (try lift_lets)))) <;> simp +zetaDelta
@[simp] theorem outer_writeResults (s : State) (a1 : Machine.RemoteUnit) : (writeResults s a1).outer = s.outer := by unfold writeResults; (try lift_lets); (repeat' (first | intro _ | (split <;> (try lift_lets)))) <;> simp +zetaDelta
@[simp] theorem outer_endUnit (s : State) (a1 : Machine.RemoteUnit) (a2 : BitVec 4) (a3 : List Flit) (a4 : List Byte) : (endUnit s a1 a2 a3 a4).outer = s.outer := by unfold endUnit <;> (try lift_lets); (repeat' (first | intro _ | (split <;> (try lift_lets)) | (refine State.outer_foldl _ _ _ ?_) | (refine (State.outer_foldl _ _ _ ?_).trans ?_) | (refine outer_overNats _ _ _ ?_) | (refine (outer_overNats _ _ _ ?_).trans ?_))) <;> (try simp +zetaDelta) <;> (repeat' split) <;> (try simp +zetaDelta)
@[simp] theorem outer_answerRemote (s : State) (a1 : Machine.RemoteUnit) (a2 : Nat) (a3 : List Byte) (a4 : List Flit) : (answerRemote s a1 a2 a3 a4).outer = s.outer := by unfold answerRemote; rfl
@[simp] theorem outer_unitAnswered (s : State) (a1 : Nat) (a2 : FabPacket) : (unitAnswered s a1 a2).outer = s.outer := by unfold unitAnswered; (try lift_lets); (repeat' (first | intro _ | (split <;> (try lift_lets)))) <;> simp +zetaDelta
@[simp] theorem outer_endOp (s : State) (a1 : Machine.FabOp) (a2 : Nat) (a3 : List Byte) (a4 : List Flit) : (endOp s a1 a2 a3 a4).outer = s.outer := by unfold endOp; (try lift_lets); (repeat' (first | intro _ | (split <;> (try lift_lets)))) <;> simp +zetaDelta
@[simp] theorem outer_unanswered (s : State) (a1 : Machine.FabOp) : (unanswered s a1).outer = s.outer := by unfold unanswered; (try lift_lets); (repeat' (first | intro _ | (split <;> (try lift_lets)))) <;> simp +zetaDelta
@[simp] theorem outer_endUnanswered (s : State) (a1 : Machine.FabOp) : (endUnanswered s a1).outer = s.outer := by unfold endUnanswered; (try lift_lets); (repeat' (first | intro _ | (split <;> (try lift_lets)))) <;> simp +zetaDelta
@[simp] theorem outer_takeAnswer (s : State) (a1 : FabPacket) : (takeAnswer s a1).outer = s.outer := by unfold takeAnswer; (try lift_lets); (repeat' (first | intro _ | (split <;> (try lift_lets)))) <;> simp +zetaDelta
@[simp] theorem outer_answerHere (s : State) (a1 : Nat) (a2 : FabPacket) : (answerHere s a1 a2).outer = s.outer := by unfold answerHere; (try lift_lets); (repeat' (first | intro _ | (split <;> (try lift_lets)))) <;> simp +zetaDelta
@[simp] theorem outer_sendAnswer (s : State) (a1 : Nat) (a2 : FabPacket) (a3 : Nat) (a4 : Option (List Byte)) (a5 : List Flit) : (sendAnswer s a1 a2 a3 a4 a5).outer = s.outer := by unfold sendAnswer; (try lift_lets); (repeat' (first | intro _ | (split <;> (try lift_lets)))) <;> simp +zetaDelta
@[simp] theorem outer_keyFault (s : State) (a1 : Nat) (a2 : Nat) (a3 : Nat) : (keyFault s a1 a2 a3).outer = s.outer := by unfold keyFault; (try lift_lets); (repeat' (first | intro _ | (split <;> (try lift_lets)))) <;> simp +zetaDelta
@[simp] theorem outer_decide_ (s : State) (a1 : Nat) (a2 : FabPacket) (a3 : Nat) (a4 : Option (List Byte)) (a5 : List Flit) : (decide_ s a1 a2 a3 a4 a5).outer = s.outer := by unfold decide_; (try lift_lets); (repeat' (first | intro _ | (split <;> (try lift_lets)) | (refine State.outer_foldl _ _ _ ?_) | (refine (State.outer_foldl _ _ _ ?_).trans ?_) | (refine outer_overNats _ _ _ ?_) | (refine (outer_overNats _ _ _ ?_).trans ?_))) <;> simp +zetaDelta
@[simp] theorem outer_passOn (s : State) (a1 : Nat) (a2 : FabPacket) : (passOn s a1 a2).outer = s.outer := by unfold passOn; (try lift_lets); (repeat' (first | intro _ | (split <;> (try lift_lets)))) <;> simp +zetaDelta
@[simp] theorem outer_memAnswered (s : State) (a1 : Nat) (a2 : FabPacket) : (memAnswered s a1 a2).outer = s.outer := by unfold memAnswered; (try lift_lets); (repeat' (first | intro _ | (split <;> (try lift_lets)))) <;> simp +zetaDelta
@[simp] theorem outer_refuseReq (s : State) (a1 : Nat) (a2 : FabPacket) (a3 : Nat) (a4 : Option Nat) : (refuseReq s a1 a2 a3 a4).outer = s.outer := by unfold refuseReq <;> (try lift_lets); (repeat' (first | intro _ | (split <;> (try lift_lets)) | (refine State.outer_foldl _ _ _ ?_) | (refine (State.outer_foldl _ _ _ ?_).trans ?_) | (refine outer_overNats _ _ _ ?_) | (refine (outer_overNats _ _ _ ?_).trans ?_))) <;> (try simp +zetaDelta) <;> (repeat' split) <;> (try simp +zetaDelta)
@[simp] theorem outer_executeReq (s : State) (a1 : Nat) (a2 : FabPacket) (a3 : State → Nat → State) (h3 : ∀ s n, (a3 s n).outer = s.outer) : (executeReq s a1 a2 a3).outer = s.outer := by unfold executeReq <;> (try lift_lets); (repeat' (first | intro _ | (split <;> (try lift_lets)) | (refine State.outer_foldl _ _ _ ?_) | (refine (State.outer_foldl _ _ _ ?_).trans ?_) | (refine outer_overNats _ _ _ ?_) | (refine (outer_overNats _ _ _ ?_).trans ?_))) <;> (try simp +zetaDelta) <;> (repeat' split) <;> (try simp_all +zetaDelta)
@[simp] theorem outer_executeMem (s : State) (a1 : Nat) (a2 : FabPacket) : (executeMem s a1 a2).outer = s.outer := by unfold executeMem; (try lift_lets); (repeat' (first | intro _ | (split <;> (try lift_lets)))) <;> simp +zetaDelta
@[simp] theorem outer_arriveUni (s : State) (a1 : Nat) (a2 : FabPacket) (a3 : State → State) (h3 : ∀ s, (a3 s).outer = s.outer) : (arriveUni s a1 a2 a3).outer = s.outer := by unfold arriveUni; (try lift_lets); (repeat' (first | intro _ | (split <;> (try lift_lets)) | (refine State.outer_foldl _ _ _ ?_) | (refine (State.outer_foldl _ _ _ ?_).trans ?_) | (refine outer_overNats _ _ _ ?_) | (refine (outer_overNats _ _ _ ?_).trans ?_))) <;> simp +zetaDelta [*]
@[simp] theorem outer_doMcastStore (s : State) (a1 : Nat) (a2 : FabPacket) : (doMcastStore s a1 a2).outer = s.outer := by unfold doMcastStore; (try lift_lets); (repeat' (first | intro _ | (split <;> (try lift_lets)))) <;> simp +zetaDelta
@[simp] theorem outer_sendAttempt (s : State) (a1 : Nat) (a2 : FabPacket) : (sendAttempt s a1 a2).outer = s.outer := by unfold sendAttempt; (try lift_lets); (repeat' (first | intro _ | (split <;> (try lift_lets)))) <;> simp +zetaDelta
@[simp] theorem outer_unitStage (s : State) (a1 : Machine.RemoteUnit) (a2 : Nat) : (unitStage s a1 a2).outer = s.outer := by unfold unitStage; rfl
@[simp] theorem outer_unitArrived (s : State) (a1 : Nat) (a2 : Nat) (a3 : FabPacket) : (unitArrived s a1 a2 a3).outer = s.outer := by unfold unitArrived; (try lift_lets); (repeat' (first | intro _ | (split <;> (try lift_lets)))) <;> simp +zetaDelta
@[simp] theorem outer_inject (s : State) (a1 : Nat) : (inject s a1).outer = s.outer := by unfold inject; (try lift_lets); (repeat' (first | intro _ | (split <;> (try lift_lets)))) <;> simp +zetaDelta
@[simp] theorem outer_originate (s : State) (a1 : Nat) (a2 : Machine.RemoteUnit) : (originate s a1 a2).outer = s.outer := by unfold originate; (try lift_lets); (repeat' (first | intro _ | (split <;> (try lift_lets)))) <;> simp +zetaDelta
@[simp] theorem outer_doRemoteUnit (s : State) (a1 : Nat) (a2 : Nat) : (doRemoteUnit s a1 a2).outer = s.outer := by unfold doRemoteUnit; (try lift_lets); (repeat' (first | intro _ | (split <;> (try lift_lets)))) <;> simp +zetaDelta
@[simp] theorem outer_unitUnanswered (s : State) (a1 : Nat) (a2 : Machine.RemoteUnit) : (unitUnanswered s a1 a2).outer = s.outer := by unfold unitUnanswered; (try lift_lets); (repeat' (first | intro _ | (split <;> (try lift_lets)))) <;> simp +zetaDelta
@[simp] theorem outer_cutUnit (s : State) (a1 : Nat) (a2 : Nat) : (cutUnit s a1 a2).outer = s.outer := by unfold cutUnit; (try lift_lets); (repeat' (first | intro _ | (split <;> (try lift_lets)))) <;> simp +zetaDelta
@[simp] theorem outer_doMemoryTimeout (s : State) (a1 : Nat) : (doMemoryTimeout s a1).outer = s.outer := by unfold doMemoryTimeout; (try lift_lets); (repeat' (first | intro _ | (split <;> (try lift_lets)))) <;> simp +zetaDelta
@[simp] theorem outer_doThrottle (s : State) (a1 : Nat) : (doThrottle s a1).outer = s.outer := by unfold doThrottle; (try lift_lets); (repeat' (first | intro _ | (split <;> (try lift_lets)))) <;> simp +zetaDelta
@[simp] theorem outer_doRegion (s : State) (a1 : Nat) (a2 : List Byte) : (doRegion s a1 a2).2.outer = s.outer := by unfold doRegion; (try lift_lets); (repeat' (first | intro _ | (split <;> (try lift_lets)))) <;> simp +zetaDelta
end Sys2Proof.Machine
end

