-- ==== Sys2Proof/Laws/QueueFabSync.lean ====
section
/-! SUPPORT. No operation of FabSync.lean touches the queue. -/
set_option linter.unusedTactic false
set_option linter.unreachableTactic false
namespace Sys2Proof.Machine
@[simp] theorem outer_setBar (s : State) (a1 : Nat) (a2 : Machine.FabBar) : (setBar s a1 a2).outer = s.outer := by unfold setBar; rfl
@[simp] theorem outer_setFabFlag (s : State) (a1 : Nat) (a2 : Machine.FabFlag) : (setFabFlag s a1 a2).outer = s.outer := by unfold setFabFlag; rfl
@[simp] theorem outer_syncUpdate (s : State) (a1 : Nat) (a2 : Nat) (a3 : Word) : (syncUpdate s a1 a2 a3).outer = s.outer := by unfold syncUpdate; rfl
@[simp] theorem outer_originateVc0 (s : State) (a1 : FabPacket) : (originateVc0 s a1).outer = s.outer := by unfold originateVc0; (try lift_lets); (repeat' (first | intro _ | (split <;> (try lift_lets)))) <;> simp +zetaDelta
@[simp] theorem outer_doReleased (s : State) (a1 : Nat) (a2 : Nat) : (doReleased s a1 a2).outer = s.outer := by unfold doReleased; (try lift_lets); (repeat' (first | intro _ | (split <;> (try lift_lets)))) <;> simp +zetaDelta
@[simp] theorem outer_doNotified (s : State) (a1 : Nat) (a2 : Nat) (a3 : Word) : (doNotified s a1 a2 a3).outer = s.outer := by unfold doNotified; (try lift_lets); (repeat' (first | intro _ | (split <;> (try lift_lets)))) <;> simp +zetaDelta
@[simp] theorem outer_sendRelease (s : State) (a1 : Nat) (a2 : Nat) : (sendRelease s a1 a2).outer = s.outer := by unfold sendRelease; (try lift_lets); (repeat' (first | intro _ | (split <;> (try lift_lets)))) <;> simp +zetaDelta
@[simp] theorem outer_doBarArrive (s : State) (a1 : Nat) (a2 : Nat) (a3 : Nat) : (doBarArrive s a1 a2 a3).outer = s.outer := by unfold doBarArrive; (try lift_lets); (repeat' (first | intro _ | (split <;> (try lift_lets)))) <;> simp +zetaDelta
@[simp] theorem outer_flagChanged (s : State) (a1 : Nat) (a2 : Word) : (flagChanged s a1 a2).outer = s.outer := by unfold flagChanged; (try lift_lets); (repeat' (first | intro _ | (split <;> (try lift_lets)))) <;> simp +zetaDelta
@[simp] theorem outer_runFlag (s : State) (a1 : Nat) (a2 : FabPacket) : (runFlag s a1 a2).outer = s.outer := by unfold runFlag <;> (try lift_lets); (repeat' (first | intro _ | (split <;> (try lift_lets)) | (refine State.outer_foldl _ _ _ ?_) | (refine (State.outer_foldl _ _ _ ?_).trans ?_) | (refine outer_overNats _ _ _ ?_) | (refine (outer_overNats _ _ _ ?_).trans ?_))) <;> (try simp +zetaDelta) <;> (repeat' split) <;> (try simp +zetaDelta)
@[simp] theorem outer_executeFlag (s : State) (a1 : Nat) (a2 : FabPacket) : (executeFlag s a1 a2).outer = s.outer := by unfold executeFlag; (try lift_lets); (repeat' (first | intro _ | (split <;> (try lift_lets)))) <;> simp +zetaDelta
@[simp] theorem outer_takeVc0 (s : State) (a1 : FabPacket) : (takeVc0 s a1).outer = s.outer := by unfold takeVc0; (try lift_lets); (repeat' (first | intro _ | (split <;> (try lift_lets)))) <;> simp +zetaDelta
@[simp] theorem outer_spreadVc0 (s : State) (a1 : Nat) (a2 : Option Nat) (a3 : FabPacket) : (spreadVc0 s a1 a2 a3).outer = s.outer := by unfold spreadVc0 <;> (try lift_lets); (repeat' (first | intro _ | (split <;> (try lift_lets)) | (refine State.outer_foldl _ _ _ ?_) | (refine (State.outer_foldl _ _ _ ?_).trans ?_) | (refine outer_overNats _ _ _ ?_) | (refine (outer_overNats _ _ _ ?_).trans ?_))) <;> (try simp +zetaDelta) <;> (repeat' split) <;> (try simp +zetaDelta)
@[simp] theorem outer_doBarRelease (s : State) (a1 : Nat) (a2 : FabPacket) : (doBarRelease s a1 a2).outer = s.outer := by unfold doBarRelease; (try lift_lets); (repeat' (first | intro _ | (split <;> (try lift_lets)))) <;> simp +zetaDelta
@[simp] theorem outer_doFabNotify (s : State) (a1 : Nat) (a2 : FabPacket) : (doFabNotify s a1 a2).outer = s.outer := by unfold doFabNotify; (try lift_lets); (repeat' (first | intro _ | (split <;> (try lift_lets)))) <;> simp +zetaDelta
@[simp] theorem outer_launchVc0 (s : State) (a1 : Nat) (a2 : FabPacket) : (launchVc0 s a1 a2).outer = s.outer := by unfold launchVc0; (try lift_lets); (repeat' (first | intro _ | (split <;> (try lift_lets)))) <;> simp +zetaDelta
@[simp] theorem outer_startFlagOp (s : State) (a1 : FabPacket) : (startFlagOp s a1).outer = s.outer := by unfold startFlagOp; (try lift_lets); (repeat' (first | intro _ | (split <;> (try lift_lets)))) <;> simp +zetaDelta
@[simp] theorem outer_sendVc0 (s : State) (a1 : FabPacket) : (sendVc0 s a1).outer = s.outer := by unfold sendVc0; (try lift_lets); (repeat' (first | intro _ | (split <;> (try lift_lets)))) <;> simp +zetaDelta
@[simp] theorem outer_releasePaced (s : State) : (releasePaced s).outer = s.outer := by unfold releasePaced; (try lift_lets); (repeat' (first | intro _ | (split <;> (try lift_lets)) | (refine State.outer_foldl _ _ _ ?_) | (refine (State.outer_foldl _ _ _ ?_).trans ?_) | (refine outer_overNats _ _ _ ?_) | (refine (outer_overNats _ _ _ ?_).trans ?_))) <;> simp +zetaDelta
@[simp] theorem outer_fabricClock (s : State) : (fabricClock s).outer = s.outer := by unfold fabricClock; (try lift_lets); (repeat' (first | intro _ | (split <;> (try lift_lets)))) <;> simp +zetaDelta
@[simp] theorem outer_sendBarArrive (s : State) (a1 : Nat) : (sendBarArrive s a1).outer = s.outer := by unfold sendBarArrive; (try lift_lets); (repeat' (first | intro _ | (split <;> (try lift_lets)))) <;> simp +zetaDelta
@[simp] theorem outer_fabSync (s : State) (a1 : Nat) (a2 : Nat) (a3 : Nat) (a4 : Word) : (fabSync s a1 a2 a3 a4).outer = s.outer := by unfold fabSync; rfl
@[simp] theorem outer_doFabArrive (s : State) (a1 : Nat) (a2 : Nat) : (doFabArrive s a1 a2).outer = s.outer := by unfold doFabArrive; (try lift_lets); (repeat' (first | intro _ | (split <;> (try lift_lets)))) <;> simp +zetaDelta
@[simp] theorem outer_doSyncArrived (s : State) (a1 : Nat) (a2 : Word) : (doSyncArrived s a1 a2).outer = s.outer := by unfold doSyncArrived; (try lift_lets); (repeat' (first | intro _ | (split <;> (try lift_lets)))) <;> simp +zetaDelta
@[simp] theorem outer_sendFlagOp (s : State) (a1 : Nat) (a2 : Nat) (a3 : Word) : (sendFlagOp s a1 a2 a3).outer = s.outer := by unfold sendFlagOp; (try lift_lets); (repeat' (first | intro _ | (split <;> (try lift_lets)))) <;> simp +zetaDelta
@[simp] theorem outer_resend (s : State) (a1 : Nat) (a2 : Machine.FabOp) : (resend s a1 a2).outer = s.outer := by unfold resend; (try lift_lets); (repeat' (first | intro _ | (split <;> (try lift_lets)))) <;> simp +zetaDelta
@[simp] theorem outer_doAttemptTimeout (s : State) (a1 : Nat) (a2 : Nat) : (doAttemptTimeout s a1 a2).outer = s.outer := by unfold doAttemptTimeout; (try lift_lets); (repeat' (first | intro _ | (split <;> (try lift_lets)))) <;> simp +zetaDelta
@[simp] theorem outer_doBarrierTable (s : State) (a1 : List Byte) : (doBarrierTable s a1).2.outer = s.outer := by unfold doBarrierTable; (try lift_lets); (repeat' (first | intro _ | (split <;> (try lift_lets)))) <;> simp +zetaDelta
@[simp] theorem outer_doFlagTable (s : State) (a1 : List Byte) : (doFlagTable s a1).2.outer = s.outer := by unfold doFlagTable; (try lift_lets); (repeat' (first | intro _ | (split <;> (try lift_lets)))) <;> simp +zetaDelta
@[simp] theorem outer_doSyncTakeover (s : State) : (doSyncTakeover s).outer = s.outer := by unfold doSyncTakeover; (try lift_lets); (repeat' (first | intro _ | (split <;> (try lift_lets)))) <;> simp +zetaDelta
end Sys2Proof.Machine
end

