-- ==== Sys2Proof/Laws/QueueFabLinks.lean ====
section
/-! SUPPORT. No operation of FabLinks.lean touches the queue. -/
set_option linter.unusedTactic false
set_option linter.unreachableTactic false
namespace Sys2Proof.Machine
@[simp] theorem outer_queueVc3 (s : State) (a1 : Nat) (a2 : FabPacket) : (queueVc3 s a1 a2).outer = s.outer := by unfold queueVc3; rfl
@[simp] theorem outer_linkChatter (s : State) (a1 : Nat) (a2 : Nat) : (linkChatter s a1 a2).outer = s.outer := by unfold linkChatter; (try lift_lets); (repeat' (first | intro _ | (split <;> (try lift_lets)))) <;> simp +zetaDelta
@[simp] theorem outer_extSlot (s : State) (a1 : Nat) (a2 : Nat) : (extSlot s a1 a2).outer = s.outer := by
  unfold extSlot; dsimp only
  split; split <;> simp
  split
  all_goals (rename_i h; have hg := congrArg (fun x => x.2.outer) h; simp at hg; simp [← hg])
@[simp] theorem outer_extDiscard (s : State) (a1 : Nat) (a2 : Nat) (a3 : Option (SlotHeader × List Flit)) : (extDiscard s a1 a2 a3).outer = s.outer := by unfold extDiscard; (try lift_lets); (repeat' (first | intro _ | (split <;> (try lift_lets)))) <;> simp +zetaDelta
@[simp] theorem outer_takeRxChanges (s : State) (a1 : Nat) (a2 : Nat) : (takeRxChanges s a1 a2).outer = s.outer := by unfold takeRxChanges; (try lift_lets); (repeat' (first | intro _ | (split <;> (try lift_lets)) | (refine State.outer_foldl _ _ _ ?_) | (refine (State.outer_foldl _ _ _ ?_).trans ?_) | (refine outer_overNats _ _ _ ?_) | (refine (outer_overNats _ _ _ ?_).trans ?_))) <;> simp +zetaDelta
@[simp] theorem outer_doExtBurst (s : State) (a1 : Nat) (a2 : BitVec 14336) : (doExtBurst s a1 a2).outer = s.outer := by simp only [doExtBurst] <;> (repeat' (first | split | (refine State.outer_foldl _ _ _ ?_; intro _ _) | (refine (State.outer_foldl _ _ _ ?_).trans ?_) | rfl)) <;> (try simp) <;> (repeat' (first | split | (refine (State.outer_foldl _ _ _ ?_).trans ?_) | intro _ )) <;> (try simp)
@[simp] theorem outer_acquireRings (s : State) (a1 : Nat) : (acquireRings s a1).outer = s.outer := by unfold acquireRings; (try lift_lets); (repeat' (first | intro _ | (split <;> (try lift_lets)))) <;> simp +zetaDelta
@[simp] theorem outer_startTraining (s : State) (a1 : Nat) : (startTraining s a1).outer = s.outer := by unfold startTraining; rfl
@[simp] theorem outer_noteVanished (s : State) (a1 : Nat) : (noteVanished s a1).outer = s.outer := by unfold noteVanished; (try lift_lets); (repeat' (first | intro _ | (split <;> (try lift_lets)))) <;> simp +zetaDelta
@[simp] theorem outer_linkDown (s : State) (a1 : Nat) : (linkDown s a1).outer = s.outer := by simp only [linkDown] <;> (repeat' (first | split | (refine State.outer_foldl _ _ _ ?_; intro _ _) | (refine (State.outer_foldl _ _ _ ?_).trans ?_) | rfl)) <;> (try simp) <;> (repeat' (first | split | (refine (State.outer_foldl _ _ _ ?_).trans ?_) | intro _ )) <;> (try simp)
@[simp] theorem outer_doHello (s : State) (a1 : Nat) (a2 : FabPacket) : (doHello s a1 a2).outer = s.outer := by unfold doHello; (try lift_lets); (repeat' (first | intro _ | (split <;> (try lift_lets)))) <;> simp +zetaDelta
@[simp] theorem outer_addRxChange (s : State) (a1 : Nat) (a2 : Nat) (a3 : Bool) (a4 : Nat) : (addRxChange s a1 a2 a3 a4).outer = s.outer := by unfold addRxChange; rfl
@[simp] theorem outer_applyLinkExclude (s : State) (a1 : Nat) (a2 : Bool) (a3 : Nat) : (applyLinkExclude s a1 a2 a3).outer = s.outer := by unfold applyLinkExclude; (try lift_lets); (repeat' (first | intro _ | (split <;> (try lift_lets)))) <;> simp +zetaDelta
@[simp] theorem outer_doRouteShadow (s : State) (a1 : List Byte) : (doRouteShadow s a1).2.outer = s.outer := by unfold doRouteShadow; (try lift_lets); (repeat' (first | intro _ | (split <;> (try lift_lets)))) <;> simp +zetaDelta
@[simp] theorem outer_startDrain (s : State) (a1 : Option Nat) : (startDrain s a1).outer = s.outer := by unfold startDrain; (try lift_lets); (repeat' (first | intro _ | (split <;> (try lift_lets)))) <;> simp +zetaDelta
@[simp] theorem outer_doFlushEnd (s : State) : (doFlushEnd s).outer = s.outer := by unfold doFlushEnd; (try lift_lets); (repeat' (first | intro _ | (split <;> (try lift_lets)) | (refine State.outer_foldl _ _ _ ?_) | (refine (State.outer_foldl _ _ _ ?_).trans ?_) | (refine outer_overNats _ _ _ ?_) | (refine (outer_overNats _ _ _ ?_).trans ?_))) <;> simp +zetaDelta
@[simp] theorem outer_routeRecord (s : State) : (routeRecord s).outer = s.outer := by unfold routeRecord; (try lift_lets); (repeat' (first | intro _ | (split <;> (try lift_lets)))) <;> simp +zetaDelta
@[simp] theorem outer_applyRouteSwitch (s : State) : (applyRouteSwitch s).outer = s.outer := by unfold applyRouteSwitch; (try lift_lets); (repeat' (first | intro _ | (split <;> (try lift_lets)))) <;> simp +zetaDelta [State.outer_foldl]
@[simp] theorem outer_doFabricLeave (s : State) : (doFabricLeave s).outer = s.outer := by unfold doFabricLeave; (try lift_lets); (repeat' (first | intro _ | (split <;> (try lift_lets)))) <;> simp +zetaDelta
@[simp] theorem outer_goDark (s : State) : (goDark s).outer = s.outer := by unfold goDark; (try lift_lets); (repeat' (first | intro _ | (split <;> (try lift_lets)))) <;> simp +zetaDelta
@[simp] theorem outer_doLeaveTimeout (s : State) : (doLeaveTimeout s).outer = s.outer := by unfold doLeaveTimeout; (try lift_lets); (repeat' (first | intro _ | (split <;> (try lift_lets)))) <;> simp +zetaDelta
@[simp] theorem outer_handedOver (s : State) (a1 : Nat) (a2 : FabPacket) : (handedOver s a1 a2).outer = s.outer := by unfold handedOver; (try lift_lets); (repeat' (first | intro _ | (split <;> (try lift_lets)))) <;> simp +zetaDelta
@[simp] theorem outer_takePath (s : State) (a1 : Nat) (a2 : Nat) (a3 : FabPacket) : (takePath s a1 a2 a3).outer = s.outer := by unfold takePath; (try lift_lets); (repeat' (first | intro _ | (split <;> (try lift_lets)))) <;> simp +zetaDelta
@[simp] theorem outer_pathTaken (s : State) (a1 : Nat) (a2 : FabPacket) : (pathTaken s a1 a2).outer = s.outer := by unfold pathTaken; (try lift_lets); (repeat' (first | intro _ | (split <;> (try lift_lets)))) <;> simp +zetaDelta
@[simp] theorem outer_drainPaths (s : State) : (drainPaths s).outer = s.outer := by unfold drainPaths; (try lift_lets); (repeat' (first | intro _ | (split <;> (try lift_lets)) | (refine State.outer_foldl _ _ _ ?_) | (refine (State.outer_foldl _ _ _ ?_).trans ?_) | (refine outer_overNats _ _ _ ?_) | (refine (outer_overNats _ _ _ ?_).trans ?_))) <;> simp +zetaDelta
@[simp] theorem outer_fabricDieLost (s : State) (a1 : Nat) : (fabricDieLost s a1).outer = s.outer := by unfold fabricDieLost; (try lift_lets); (repeat' (first | intro _ | (split <;> (try lift_lets)))) <;> simp +zetaDelta [State.outer_foldl]
end Sys2Proof.Machine
end

