-- ==== Sys2Proof/Laws/QueueTime.lean ====
section
/-! SUPPORT. No operation of Time.lean touches the queue. -/
set_option linter.unusedTactic false
set_option linter.unreachableTactic false
namespace Sys2Proof.Machine
@[simp] theorem outer_setMt (s : State) (a1 : Machine.ModTime → Machine.ModTime) : (setMt s a1).outer = s.outer := by unfold setMt; rfl
@[simp] theorem outer_timeEvent (s : State) (a1 : Nat) (a2 : Nat) : (timeEvent s a1 a2).outer = s.outer := by unfold timeEvent; (try lift_lets); (repeat' (first | intro _ | (split <;> (try lift_lets)))) <;> simp +zetaDelta
@[simp] theorem outer_doHoldover (s : State) (a1 : Nat) : (doHoldover s a1).outer = s.outer := by unfold doHoldover; (try lift_lets); (repeat' (first | intro _ | (split <;> (try lift_lets)))) <;> simp +zetaDelta
@[simp] theorem outer_correctCount (s : State) (a1 : Nat) : (correctCount s a1).outer = s.outer := by unfold correctCount; (try lift_lets); (repeat' (first | intro _ | (split <;> (try lift_lets)))) <;> simp +zetaDelta
@[simp] theorem outer_doBroadcastAbsent (s : State) : (doBroadcastAbsent s).outer = s.outer := by unfold doBroadcastAbsent; (try lift_lets); (repeat' (first | intro _ | (split <;> (try lift_lets)))) <;> simp +zetaDelta
@[simp] theorem outer_doTreeTrim (s : State) (a1 : Nat) (a2 : Nat) (a3 : ℤ) : (doTreeTrim s a1 a2 a3).outer = s.outer := by unfold doTreeTrim; (try lift_lets); (repeat' (first | intro _ | (split <;> (try lift_lets)))) <;> simp +zetaDelta
@[simp] theorem outer_doDroop (s : State) (a1 : Nat) : (doDroop s a1).outer = s.outer := by unfold doDroop; (try lift_lets); (repeat' (first | intro _ | (split <;> (try lift_lets)))) <;> simp +zetaDelta
@[simp] theorem outer_applyEpoch (s : State) (a1 : Word) : (applyEpoch s a1).outer = s.outer := by unfold applyEpoch; (try lift_lets); (repeat' (first | intro _ | (split <;> (try lift_lets)) | (refine State.outer_foldl _ _ _ ?_) | (refine (State.outer_foldl _ _ _ ?_).trans ?_) | (refine outer_overNats _ _ _ ?_) | (refine (outer_overNats _ _ _ ?_).trans ?_))) <;> simp +zetaDelta
@[simp] theorem outer_doFabTime (s : State) (a1 : Nat) (a2 : FabPacket) (a3 : Nat) : (doFabTime s a1 a2 a3).outer = s.outer := by simp only [doFabTime] <;> (repeat' (first | split | (refine State.outer_foldl _ _ _ ?_; intro _ _) | (refine (State.outer_foldl _ _ _ ?_).trans ?_) | rfl)) <;> (try simp) <;> (repeat' (first | split | (refine (State.outer_foldl _ _ _ ?_).trans ?_) | intro _ )) <;> (try simp)
@[simp] theorem outer_takeSource (s : State) (a1 : Machine.Source) : (takeSource s a1).outer = s.outer := by unfold takeSource; rfl
@[simp] theorem outer_judgeTime (s : State) : (judgeTime s).outer = s.outer := by unfold judgeTime; (try lift_lets); (repeat' (first | intro _ | (split <;> (try lift_lets)))) <;> simp +zetaDelta
@[simp] theorem outer_adoptSource (s : State) (a1 : Machine.Source) : (adoptSource s a1).outer = s.outer := by unfold adoptSource; (try lift_lets); (repeat' (first | intro _ | (split <;> (try lift_lets)))) <;> simp +zetaDelta
@[simp] theorem outer_doReview (s : State) : (doReview s).outer = s.outer := by unfold doReview; (try lift_lets); (repeat' (first | intro _ | (split <;> (try lift_lets)))) <;> simp +zetaDelta
@[simp] theorem outer_doSourceLost (s : State) : (doSourceLost s).outer = s.outer := by unfold doSourceLost; (try lift_lets); (repeat' (first | intro _ | (split <;> (try lift_lets)))) <;> simp +zetaDelta
@[simp] theorem outer_setPtp (s : State) (a1 : Nat) (a2 : Machine.PtpPort) : (setPtp s a1 a2).outer = s.outer := by unfold setPtp; rfl
@[simp] theorem outer_electMaster (s : State) : (electMaster s).outer = s.outer := by unfold electMaster; (try lift_lets); (repeat' (first | intro _ | (split <;> (try lift_lets)))) <;> simp +zetaDelta
@[simp] theorem outer_doAnnounce (s : State) (a1 : HostFrame) (a2 : AnnounceMsg) : (doAnnounce s a1 a2).outer = s.outer := by unfold doAnnounce; (try lift_lets); (repeat' (first | intro _ | (split <;> (try lift_lets)))) <;> simp +zetaDelta
@[simp] theorem outer_ptpClock (s : State) : (ptpClock s).outer = s.outer := by unfold ptpClock; (try lift_lets); (repeat' (first | intro _ | (split <;> (try lift_lets)))) <;> simp +zetaDelta
@[simp] theorem outer_syncOffset (s : State) (a1 : Nat) (a2 : ℤ) (a3 : ℤ) : (syncOffset s a1 a2 a3).outer = s.outer := by unfold syncOffset; (try lift_lets); (repeat' (first | intro _ | (split <;> (try lift_lets)))) <;> simp +zetaDelta
@[simp] theorem outer_doStepDue (s : State) : (doStepDue s).outer = s.outer := by unfold doStepDue; (try lift_lets); (repeat' (first | intro _ | (split <;> (try lift_lets)))) <;> simp +zetaDelta
@[simp] theorem outer_applyTimeStep (s : State) (a1 : Word) : (applyTimeStep s a1).outer = s.outer := by unfold applyTimeStep; (try lift_lets); (repeat' (first | intro _ | (split <;> (try lift_lets)))) <;> simp +zetaDelta [State.outer_foldl]
end Sys2Proof.Machine
end

