-- ==== Sys2Proof/Laws/QueueComb.lean ====
section
/-! SUPPORT. No operation of Comb.lean touches the queue. -/
set_option linter.unusedTactic false
set_option linter.unreachableTactic false
namespace Sys2Proof.Machine
@[simp] theorem outer_setLight (s : State) (a1 : Machine.Light → Machine.Light) : (setLight s a1).outer = s.outer := by unfold setLight; rfl
@[simp] theorem outer_setRing_ (s : State) (a1 : Nat) (a2 : Machine.Ring) : (setRing_ s a1 a2).outer = s.outer := by unfold setRing_; rfl
@[simp] theorem outer_lineLost (s : State) (a1 : Nat) (a2 : Bool) (a3 : Nat) : (lineLost s a1 a2 a3).outer = s.outer := by unfold lineLost; (try lift_lets); (repeat' (first | intro _ | (split <;> (try lift_lets)))) <;> simp +zetaDelta
@[simp] theorem outer_withdraw (s : State) (a1 : Nat) (a2 : Word) : (withdraw s a1 a2).outer = s.outer := by unfold withdraw; rfl
@[simp] theorem outer_recallLosses (s : State) (a1 : Nat) : (recallLosses s a1).outer = s.outer := by unfold recallLosses; (try lift_lets); (repeat' (first | intro _ | (split <;> (try lift_lets)) | (refine State.outer_foldl _ _ _ ?_) | (refine (State.outer_foldl _ _ _ ?_).trans ?_) | (refine outer_overNats _ _ _ ?_) | (refine (outer_overNats _ _ _ ?_).trans ?_))) <;> simp +zetaDelta
@[simp] theorem outer_holdRings (s : State) (a1 : Nat) : (holdRings s a1).outer = s.outer := by unfold holdRings; rfl
@[simp] theorem outer_setComb (s : State) (a1 : Nat) (a2 : Machine.Comb) : (setComb s a1 a2).outer = s.outer := by unfold setComb; rfl
@[simp] theorem outer_noteLow (s : State) (a1 : Nat) (a2 : Bool) : (noteLow s a1 a2).outer = s.outer := by unfold noteLow; rfl
@[simp] theorem outer_sampleDrop (s : State) (a1 : Nat) (a2 : Nat) : (sampleDrop s a1 a2).outer = s.outer := by unfold sampleDrop; (try lift_lets); (repeat' (first | intro _ | (split <;> (try lift_lets)))) <;> simp +zetaDelta
@[simp] theorem outer_setCalPort (s : State) (a1 : Nat) (a2 : Machine.CalPort) : (setCalPort s a1 a2).outer = s.outer := by unfold setCalPort; rfl
@[simp] theorem outer_samplePeak (s : State) (a1 : RingId) (a2 : Option (Nat × Nat)) : (samplePeak s a1 a2).outer = s.outer := by unfold samplePeak <;> (try lift_lets); (repeat' (first | intro _ | (split <;> (try lift_lets)) | (refine State.outer_foldl _ _ _ ?_) | (refine (State.outer_foldl _ _ _ ?_).trans ?_) | (refine outer_overNats _ _ _ ?_) | (refine (outer_overNats _ _ _ ?_).trans ?_))) <;> (try simp +zetaDelta) <;> (repeat' split) <;> (try simp +zetaDelta)
@[simp] theorem outer_rejectStep (s : State) (a1 : Nat) : (rejectStep s a1).outer = s.outer := by unfold rejectStep; (try lift_lets); (repeat' (first | intro _ | (split <;> (try lift_lets)))) <;> simp +zetaDelta
@[simp] theorem outer_samplePrbs (s : State) (a1 : RingId) (a2 : BitVec 448) : (samplePrbs s a1 a2).outer = s.outer := by unfold samplePrbs; (try lift_lets); (repeat' (first | intro _ | (split <;> (try lift_lets)))) <;> simp +zetaDelta
@[simp] theorem outer_trackStep (s : State) (a1 : RingId) (a2 : Bool) (a3 : Bool) : (trackStep s a1 a2 a3).outer = s.outer := by unfold trackStep; (try lift_lets); (repeat' (first | intro _ | (split <;> (try lift_lets)))) <;> simp +zetaDelta
@[simp] theorem outer_sample (s : State) (a1 : Monitor) : (sample s a1).outer = s.outer := by unfold sample; (try lift_lets); (repeat' (first | intro _ | (split <;> (try lift_lets)))) <;> simp +zetaDelta
@[simp] theorem outer_combRecord (s : State) (a1 : Nat) : (combRecord s a1).outer = s.outer := by unfold combRecord; rfl
@[simp] theorem outer_retireComb (s : State) (a1 : Nat) : (retireComb s a1).outer = s.outer := by unfold retireComb; (try lift_lets); (repeat' (first | intro _ | (split <;> (try lift_lets)))) <;> simp +zetaDelta
@[simp] theorem outer_combFadeMsg (s : State) (a1 : Nat) (a2 : Nat) (a3 : Bool) : (combFadeMsg s a1 a2 a3).outer = s.outer := by unfold combFadeMsg; (try lift_lets); (repeat' (first | intro _ | (split <;> (try lift_lets)))) <;> simp +zetaDelta
@[simp] theorem outer_tileDark (s : State) (a1 : Nat) : (tileDark s a1).outer = s.outer := by unfold tileDark; (try lift_lets); (repeat' (first | intro _ | (split <;> (try lift_lets)))) <;> simp +zetaDelta
theorem outer_lightSpare_some {s t : State} {n : Nat} (h : lightSpare s n = some t) : t.outer = s.outer := by
  simp only [lightSpare, Option.map_eq_some_iff] at h
  obtain ⟨_, _, rfl⟩ := h
  simp
@[simp] theorem outer_doCombLoss (s : State) (a1 : Nat) : (doCombLoss s a1).outer = s.outer := by
  unfold doCombLoss; dsimp only
  split; rfl
  split
  · split; rfl
    split <;> simp
  · split; rfl
    split
    · split
      · rename_i h; simp [outer_lightSpare_some h]
      · split <;> simp
    · simp
@[simp] theorem outer_doPortLineLoss (s : State) (a1 : Nat) (a2 : Nat) : (doPortLineLoss s a1 a2).outer = s.outer := by unfold doPortLineLoss; (try lift_lets); (repeat' (first | intro _ | (split <;> (try lift_lets)))) <;> simp +zetaDelta
@[simp] theorem outer_ringLost (s : State) (a1 : Nat) (a2 : Bool) (a3 : Nat) : (ringLost s a1 a2 a3).outer = s.outer := by unfold ringLost; (try lift_lets); (repeat' (first | intro _ | (split <;> (try lift_lets)))) <;> simp +zetaDelta
@[simp] theorem outer_doRingUnlocked (s : State) (a1 : Nat) (a2 : Bool) (a3 : Nat) : (doRingUnlocked s a1 a2 a3).outer = s.outer := by unfold doRingUnlocked; (try lift_lets); (repeat' (first | intro _ | (split <;> (try lift_lets)))) <;> simp +zetaDelta
@[simp] theorem outer_doHoldTimeout (s : State) (a1 : Nat) (a2 : Bool) (a3 : Nat) : (doHoldTimeout s a1 a2 a3).outer = s.outer := by unfold doHoldTimeout; (try lift_lets); (repeat' (first | intro _ | (split <;> (try lift_lets)))) <;> simp +zetaDelta
@[simp] theorem outer_heatRing (s : State) (a1 : Nat) : (heatRing s a1).outer = s.outer := by unfold heatRing; (try lift_lets); (repeat' (first | intro _ | (split <;> (try lift_lets)))) <;> simp +zetaDelta
@[simp] theorem outer_doHeaterUpdate (s : State) (a1 : List (RingId × BitVec 16)) : (doHeaterUpdate s a1).outer = s.outer := by unfold doHeaterUpdate; (try lift_lets); (repeat' (first | intro _ | (split <;> (try lift_lets)) | (refine State.outer_foldl _ _ _ ?_) | (refine (State.outer_foldl _ _ _ ?_).trans ?_) | (refine outer_overNats _ _ _ ?_) | (refine (outer_overNats _ _ _ ?_).trans ?_))) <;> simp +zetaDelta
@[simp] theorem outer_ringBoundary (s : State) (a1 : Nat) : (ringBoundary s a1).outer = s.outer := by unfold ringBoundary; rfl
@[simp] theorem outer_ringsBoundary (s : State) : (ringsBoundary s).outer = s.outer := by unfold ringsBoundary; (try lift_lets); (repeat' (first | intro _ | (split <;> (try lift_lets)) | (refine State.outer_foldl _ _ _ ?_) | (refine (State.outer_foldl _ _ _ ?_).trans ?_) | (refine outer_overNats _ _ _ ?_) | (refine (outer_overNats _ _ _ ?_).trans ?_))) <;> simp +zetaDelta
@[simp] theorem outer_ringExit (s : State) (a1 : Nat) (a2 : Bool) (a3 : Nat) (a4 : Bool) : (ringExit s a1 a2 a3 a4).outer = s.outer := by unfold ringExit; (try lift_lets); (repeat' (first | intro _ | (split <;> (try lift_lets)))) <;> simp +zetaDelta
@[simp] theorem outer_resweepRecord (s : State) (a1 : Nat) (a2 : Bool) (a3 : Nat) (a4 : Bool) : (resweepRecord s a1 a2 a3 a4).outer = s.outer := by unfold resweepRecord; (try lift_lets); (repeat' (first | intro _ | (split <;> (try lift_lets)))) <;> simp +zetaDelta
@[simp] theorem outer_ringFailed (s : State) (a1 : Nat) (a2 : Bool) (a3 : Nat) : (ringFailed s a1 a2 a3).outer = s.outer := by unfold ringFailed; (try lift_lets); (repeat' (first | intro _ | (split <;> (try lift_lets)))) <;> simp +zetaDelta
@[simp] theorem outer_sweepOn (s : State) (a1 : RingWindow) : (sweepOn s a1).outer = s.outer := by unfold sweepOn; (try lift_lets); (repeat' (first | intro _ | (split <;> (try lift_lets)))) <;> simp +zetaDelta
@[simp] theorem outer_lockRing (s : State) (a1 : RingWindow) : (lockRing s a1).outer = s.outer := by unfold lockRing; (try lift_lets); (repeat' (first | intro _ | (split <;> (try lift_lets)))) <;> simp +zetaDelta
@[simp] theorem outer_wrongOn (s : State) (a1 : RingWindow) : (wrongOn s a1).outer = s.outer := by unfold wrongOn; (try lift_lets); (repeat' (first | intro _ | (split <;> (try lift_lets)))) <;> simp +zetaDelta
@[simp] theorem outer_judgeWindow (s : State) (a1 : RingWindow) : (judgeWindow s a1).outer = s.outer := by unfold judgeWindow <;> (try lift_lets); (repeat' (first | intro _ | (split <;> (try lift_lets)) | (refine State.outer_foldl _ _ _ ?_) | (refine (State.outer_foldl _ _ _ ?_).trans ?_) | (refine outer_overNats _ _ _ ?_) | (refine (outer_overNats _ _ _ ?_).trans ?_))) <;> (try simp +zetaDelta) <;> (repeat' split) <;> (try simp +zetaDelta)
@[simp] theorem outer_setCal (s : State) (a1 : Machine.Cal → Machine.Cal) : (setCal s a1).outer = s.outer := by unfold setCal; rfl
@[simp] theorem outer_sendCalStep (s : State) (a1 : Nat) (a2 : Nat) (a3 : Word) : (sendCalStep s a1 a2 a3).outer = s.outer := by unfold sendCalStep; (try lift_lets); (repeat' (first | intro _ | (split <;> (try lift_lets)))) <;> simp +zetaDelta
@[simp] theorem outer_doCycleStart (s : State) : (doCycleStart s).outer = s.outer := by unfold doCycleStart; (try lift_lets); (repeat' (first | intro _ | (split <;> (try lift_lets)))) <;> simp +zetaDelta
@[simp] theorem outer_setCalLine (s : State) (a1 : Nat) (a2 : Bool) (a3 : Option Nat) : (setCalLine s a1 a2 a3).outer = s.outer := by unfold setCalLine; rfl
@[simp] theorem outer_applyCalStart (s : State) (a1 : Bool) (a2 : Nat) : (applyCalStart s a1 a2).outer = s.outer := by unfold applyCalStart; (try lift_lets); (repeat' (first | intro _ | (split <;> (try lift_lets)))) <;> simp +zetaDelta
@[simp] theorem outer_doLinkCal (s : State) (a1 : Nat) (a2 : FabPacket) : (doLinkCal s a1 a2).outer = s.outer := by unfold doLinkCal; (try lift_lets); (repeat' (first | intro _ | (split <;> (try lift_lets)))) <;> simp +zetaDelta
@[simp] theorem outer_transmitFrame (s : State) (a1 : Nat) (a2 : Nat) : (transmitFrame s a1 a2).outer = s.outer := by unfold transmitFrame; (try lift_lets); (repeat' (first | intro _ | (split <;> (try lift_lets)))) <;> simp +zetaDelta
@[simp] theorem outer_receiveFrame (s : State) (a1 : Nat) (a2 : Nat) : (receiveFrame s a1 a2).outer = s.outer := by unfold receiveFrame; (try lift_lets); (repeat' (first | intro _ | (split <;> (try lift_lets)))) <;> simp +zetaDelta
@[simp] theorem outer_stepFrame (s : State) (a1 : Nat) (a2 : Nat) : (stepFrame s a1 a2).outer = s.outer := by unfold stepFrame; (try lift_lets); (repeat' (first | intro _ | (split <;> (try lift_lets)))) <;> simp +zetaDelta
@[simp] theorem outer_stepKeys (s : State) (a1 : Option Nat) (a2 : List Nat) : (stepKeys s a1 a2).outer = s.outer := by unfold stepKeys; (try lift_lets); (repeat' (first | intro _ | (split <;> (try lift_lets)))) <;> simp +zetaDelta
@[simp] theorem outer_stepFrames (s : State) : (stepFrames s).outer = s.outer := by unfold stepFrames; (try lift_lets); (repeat' (first | intro _ | (split <;> (try lift_lets)))) <;> simp +zetaDelta
@[simp] theorem outer_calResult (s : State) (a1 : Nat) : (calResult s a1).outer = s.outer := by unfold calResult; (try lift_lets); (repeat' (first | intro _ | (split <;> (try lift_lets)))) <;> simp +zetaDelta
@[simp] theorem outer_dropSteps (s : State) (a1 : Nat) : (dropSteps s a1).outer = s.outer := by unfold dropSteps; rfl
@[simp] theorem outer_beginSide (s : State) (a1 : Nat) (a2 : Bool) : (beginSide s a1 a2).outer = s.outer := by unfold beginSide; (try lift_lets); (repeat' (first | intro _ | (split <;> (try lift_lets)))) <;> simp +zetaDelta
@[simp] theorem outer_trainPort (s : State) (a1 : Nat) : (trainPort s a1).outer = s.outer := by unfold trainPort; (try lift_lets); (repeat' (first | intro _ | (split <;> (try lift_lets)))) <;> simp +zetaDelta
@[simp] theorem outer_trainFrames (s : State) : (trainFrames s).outer = s.outer := by unfold trainFrames; (try lift_lets); (repeat' (first | intro _ | (split <;> (try lift_lets)))) <;> simp +zetaDelta
@[simp] theorem outer_doCalStepEnd (s : State) : (doCalStepEnd s).outer = s.outer := by unfold doCalStepEnd; (try lift_lets); (repeat' (first | intro _ | (split <;> (try lift_lets)))) <;> simp +zetaDelta [State.outer_foldl]
@[simp] theorem outer_sendHolds (s : State) (a1 : Word) : (sendHolds s a1).outer = s.outer := by unfold sendHolds; (try lift_lets); (repeat' (first | intro _ | (split <;> (try lift_lets)))) <;> simp +zetaDelta
@[simp] theorem outer_excludeFailed (s : State) (a1 : List Nat) (a2 : Word) : (excludeFailed s a1 a2).outer = s.outer := by unfold excludeFailed; (try lift_lets); (repeat' (first | intro _ | (split <;> (try lift_lets)))) <;> simp +zetaDelta
@[simp] theorem outer_nameNext (s : State) (a1 : Word) : (nameNext s a1).outer = s.outer := by unfold nameNext; (try lift_lets); (repeat' (first | intro _ | (split <;> (try lift_lets)))) <;> simp +zetaDelta
@[simp] theorem outer_missedStep (s : State) : (missedStep s).outer = s.outer := by unfold missedStep; (try lift_lets); (repeat' (first | intro _ | (split <;> (try lift_lets)))) <;> simp +zetaDelta
@[simp] theorem outer_resumeCal (s : State) : (resumeCal s).outer = s.outer := by unfold resumeCal; (try lift_lets); (repeat' (first | intro _ | (split <;> (try lift_lets)))) <;> simp +zetaDelta
@[simp] theorem outer_calAhead (s : State) : (calAhead s).outer = s.outer := by unfold calAhead; (try lift_lets); (repeat' (first | intro _ | (split <;> (try lift_lets)))) <;> simp +zetaDelta
@[simp] theorem outer_doResweepEnd (s : State) (a1 : Nat) (a2 : Bool) : (doResweepEnd s a1 a2).outer = s.outer := by unfold doResweepEnd; (try lift_lets); (repeat' (first | intro _ | (split <;> (try lift_lets)))) <;> simp +zetaDelta
@[simp] theorem outer_applySwingRelease (s : State) (a1 : Nat) (a2 : Bool) : (applySwingRelease s a1 a2).outer = s.outer := by unfold applySwingRelease; (try lift_lets); (repeat' (first | intro _ | (split <;> (try lift_lets)))) <;> simp +zetaDelta
@[simp] theorem outer_endCalAt (s : State) (a1 : Nat) : (endCalAt s a1).outer = s.outer := by unfold endCalAt; rfl
@[simp] theorem outer_voidCal (s : State) : (voidCal s).outer = s.outer := by unfold voidCal; (try lift_lets); (repeat' (first | intro _ | (split <;> (try lift_lets)))) <;> simp +zetaDelta
@[simp] theorem outer_restoreSide (s : State) (a1 : Nat) (a2 : Bool) (a3 : Nat) (a4 : List Byte) : (restoreSide s a1 a2 a3 a4).outer = s.outer := by unfold restoreSide; (try lift_lets); (repeat' (first | intro _ | (split <;> (try lift_lets)))) <;> simp +zetaDelta
@[simp] theorem outer_doCalLive (s : State) (a1 : Nat) (a2 : List Byte) : (doCalLive s a1 a2).2.outer = s.outer := by unfold doCalLive; (try lift_lets); (repeat' (first | intro _ | (split <;> (try lift_lets)))) <;> simp +zetaDelta
@[simp] theorem outer_doFade (s : State) (a1 : Nat) (a2 : List Nat) : (doFade s a1 a2).outer = s.outer := by
  unfold doFade; lift_lets; intro v drive f light retire v1 s1
  have h1 : s1.outer = s.outer := by simp [s1]
  clear_value s1 v1
  split
  · rfl
  split
  · split <;> simp [h1]
  lift_lets; intro lit s2
  have h2 : s2.outer = s.outer := by simp only [s2]; split <;> simp [h1]
  clear_value s2
  split
  · exact h2
  split
  · rename_i h
    have := outer_lightSpare_some h
    split <;> simp [*]
  · simp [*]
@[simp] theorem outer_sendCombSwitch (s : State) (a1 : Nat) (a2 : Nat) (a3 : Bool) (a4 : Word) : (sendCombSwitch s a1 a2 a3 a4).outer = s.outer := by unfold sendCombSwitch; (try lift_lets); (repeat' (first | intro _ | (split <;> (try lift_lets)))) <;> simp +zetaDelta
@[simp] theorem outer_fullDrive (s : State) (a1 : Nat) : (fullDrive s a1).outer = s.outer := by unfold fullDrive; rfl
@[simp] theorem outer_doSpareReady (s : State) (a1 : Nat) : (doSpareReady s a1).outer = s.outer := by unfold doSpareReady; (try lift_lets); (repeat' (first | intro _ | (split <;> (try lift_lets)))) <;> simp +zetaDelta
@[simp] theorem outer_takeCombSwitch (s : State) (a1 : BitVec 7) (a2 : BitVec 32) (a3 : Nat) (a4 : Nat) (a5 : Bool) (a6 : Word) : (takeCombSwitch s a1 a2 a3 a4 a5 a6).outer = s.outer := by unfold takeCombSwitch; (try lift_lets); (repeat' (first | intro _ | (split <;> (try lift_lets)))) <;> simp +zetaDelta
@[simp] theorem outer_endTileSteps (s : State) (a1 : Nat) : (endTileSteps s a1).outer = s.outer := by unfold endTileSteps; (try lift_lets); (repeat' (first | intro _ | (split <;> (try lift_lets)) | (refine State.outer_foldl _ _ _ ?_) | (refine (State.outer_foldl _ _ _ ?_).trans ?_) | (refine outer_overNats _ _ _ ?_) | (refine (outer_overNats _ _ _ ?_).trans ?_))) <;> simp +zetaDelta
@[simp] theorem outer_combReplaced (s : State) (a1 : Nat) (a2 : Bool) : (combReplaced s a1 a2).outer = s.outer := by unfold combReplaced; (try lift_lets); (repeat' (first | intro _ | (split <;> (try lift_lets)))) <;> simp +zetaDelta
@[simp] theorem outer_applyCombSwitch (s : State) (a1 : Nat) (a2 : Nat) (a3 : Bool) : (applyCombSwitch s a1 a2 a3).outer = s.outer := by unfold applyCombSwitch <;> (try lift_lets); (repeat' (first | intro _ | (split <;> (try lift_lets)) | (refine State.outer_foldl _ _ _ ?_) | (refine (State.outer_foldl _ _ _ ?_).trans ?_) | (refine outer_overNats _ _ _ ?_) | (refine (outer_overNats _ _ _ ?_).trans ?_))) <;> (try simp +zetaDelta) <;> (repeat' split) <;> (try simp +zetaDelta)
end Sys2Proof.Machine
end

