-- ==== Sys2Proof/Laws/QueuePower.lean ====
section
/-! SUPPORT. No operation of Power.lean touches the queue. -/
set_option linter.unusedTactic false
set_option linter.unreachableTactic false
namespace Sys2Proof.Machine
@[simp] theorem outer_setPow (s : State) (a1 : Machine.Supply → Machine.Supply) : (setPow s a1).outer = s.outer := by unfold setPow; rfl
@[simp] theorem outer_crossings (s : State) : (crossings s).outer = s.outer := by unfold crossings; (try lift_lets); (repeat' (first | intro _ | (split <;> (try lift_lets)))) <;> simp +zetaDelta
@[simp] theorem outer_alertRelease (s : State) : (alertRelease s).outer = s.outer := by unfold alertRelease; (try lift_lets); (repeat' (first | intro _ | (split <;> (try lift_lets)))) <;> simp +zetaDelta
@[simp] theorem outer_doInputReading (s : State) (a1 : List Nat) (a2 : Nat) : (doInputReading s a1 a2).outer = s.outer := by unfold doInputReading; (try lift_lets); (repeat' (first | intro _ | (split <;> (try lift_lets)))) <;> simp +zetaDelta
@[simp] theorem outer_supplyMsg (s : State) (a1 : Nat) : (supplyMsg s a1).outer = s.outer := by unfold supplyMsg; (try lift_lets); (repeat' (first | intro _ | (split <;> (try lift_lets)))) <;> simp +zetaDelta
@[simp] theorem outer_doInputDisconnect (s : State) : (doInputDisconnect s).outer = s.outer := by unfold doInputDisconnect; (try lift_lets); (repeat' (first | intro _ | (split <;> (try lift_lets)))) <;> simp +zetaDelta
@[simp] theorem outer_doInputReconnect (s : State) : (doInputReconnect s).outer = s.outer := by unfold doInputReconnect; (try lift_lets); (repeat' (first | intro _ | (split <;> (try lift_lets)))) <;> simp +zetaDelta
@[simp] theorem outer_doOvervoltage (s : State) : (doOvervoltage s).outer = s.outer := by unfold doOvervoltage; (try lift_lets); (repeat' (first | intro _ | (split <;> (try lift_lets)))) <;> simp +zetaDelta
@[simp] theorem outer_doStageFail (s : State) (a1 : Nat) : (doStageFail s a1).outer = s.outer := by unfold doStageFail; (try lift_lets); (repeat' (first | intro _ | (split <;> (try lift_lets)))) <;> simp +zetaDelta
@[simp] theorem outer_doPowerReview (s : State) (a1 : Nat) : (doPowerReview s a1).outer = s.outer := by unfold doPowerReview; (try lift_lets); (repeat' (first | intro _ | (split <;> (try lift_lets)))) <;> simp +zetaDelta
@[simp] theorem outer_doPowerRelease (s : State) (a1 : Nat) : (doPowerRelease s a1).outer = s.outer := by unfold doPowerRelease; (try lift_lets); (repeat' (first | intro _ | (split <;> (try lift_lets)))) <;> simp +zetaDelta
@[simp] theorem outer_computeDark (s : State) (a1 : Nat) : (computeDark s a1).outer = s.outer := by unfold computeDark; (try lift_lets); (repeat' (first | intro _ | (split <;> (try lift_lets)))) <;> simp +zetaDelta
@[simp] theorem outer_deepLost (s : State) (a1 : Nat) : (deepLost s a1).outer = s.outer := by unfold deepLost; (try lift_lets); (repeat' (first | intro _ | (split <;> (try lift_lets)))) <;> simp +zetaDelta
@[simp] theorem outer_stackDark (s : State) (a1 : Nat) : (stackDark s a1).outer = s.outer := by unfold stackDark; rfl
@[simp] theorem outer_enterRefresh (s : State) (a1 : Nat) : (enterRefresh s a1).outer = s.outer := by unfold enterRefresh; (try lift_lets); (repeat' (first | intro _ | (split <;> (try lift_lets)))) <;> simp +zetaDelta
@[simp] theorem outer_bankRings (s : State) (a1 : Nat) (a2 : Nat) : (bankRings s a1 a2).outer = s.outer := by unfold bankRings; (try lift_lets); (repeat' (first | intro _ | (split <;> (try lift_lets)) | (refine State.outer_foldl _ _ _ ?_) | (refine (State.outer_foldl _ _ _ ?_).trans ?_) | (refine outer_overNats _ _ _ ?_) | (refine (outer_overNats _ _ _ ?_).trans ?_))) <;> simp +zetaDelta
@[simp] theorem outer_combPark (s : State) (a1 : Nat) (a2 : Nat) : (combPark s a1 a2).outer = s.outer := by unfold combPark; (try lift_lets); (repeat' (first | intro _ | (split <;> (try lift_lets)))) <;> simp +zetaDelta
@[simp] theorem outer_domDown (s : State) (a1 : Nat) (a2 : Machine.DomSt) : (domDown s a1 a2).outer = s.outer := by unfold domDown; (try lift_lets); (repeat' (first | intro _ | (split <;> (try lift_lets)))) <;> simp +zetaDelta [State.outer_foldl]
@[simp] theorem outer_domUp (s : State) (a1 : Nat) : (domUp s a1).outer = s.outer := by unfold domUp; (try lift_lets); (repeat' (first | intro _ | (split <;> (try lift_lets)))) <;> simp +zetaDelta
@[simp] theorem outer_doDomainOn (s : State) (a1 : Nat) : (doDomainOn s a1).outer = s.outer := by unfold doDomainOn; (try lift_lets); (repeat' (first | intro _ | (split <;> (try lift_lets)))) <;> simp +zetaDelta
@[simp] theorem outer_combDark (s : State) (a1 : Nat) : (combDark s a1).outer = s.outer := by unfold combDark; (try lift_lets); (repeat' (first | intro _ | (split <;> (try lift_lets)))) <;> simp +zetaDelta
@[simp] theorem outer_domLost (s : State) (a1 : Nat) (a2 : Machine.DomSt) : (domLost s a1 a2).outer = s.outer := by unfold domLost; (try lift_lets); (repeat' (first | intro _ | (split <;> (try lift_lets)) | (refine State.outer_foldl _ _ _ ?_) | (refine (State.outer_foldl _ _ _ ?_).trans ?_) | (refine outer_overNats _ _ _ ?_) | (refine (outer_overNats _ _ _ ?_).trans ?_))) <;> simp +zetaDelta
@[simp] theorem outer_doDomainFault (s : State) (a1 : Nat) : (doDomainFault s a1).outer = s.outer := by unfold doDomainFault; (try lift_lets); (repeat' (first | intro _ | (split <;> (try lift_lets)))) <;> simp +zetaDelta
@[simp] theorem outer_shedHost (s : State) (a1 : Nat) : (shedHost s a1).outer = s.outer := by unfold shedHost; (try lift_lets); (repeat' (first | intro _ | (split <;> (try lift_lets)) | (refine State.outer_foldl _ _ _ ?_) | (refine (State.outer_foldl _ _ _ ?_).trans ?_) | (refine outer_overNats _ _ _ ?_) | (refine (outer_overNats _ _ _ ?_).trans ?_))) <;> simp +zetaDelta
@[simp] theorem outer_shedCombs (s : State) : (shedCombs s).outer = s.outer := by unfold shedCombs <;> (try lift_lets); (repeat' (first | intro _ | (split <;> (try lift_lets)) | (refine State.outer_foldl _ _ _ ?_) | (refine (State.outer_foldl _ _ _ ?_).trans ?_) | (refine outer_overNats _ _ _ ?_) | (refine (outer_overNats _ _ _ ?_).trans ?_))) <;> (try simp +zetaDelta) <;> (repeat' split) <;> (try simp +zetaDelta)
@[simp] theorem outer_shedActions (s : State) (a1 : Nat) : (shedActions s a1).outer = s.outer := by unfold shedActions; (try lift_lets); (repeat' (first | intro _ | (split <;> (try lift_lets)))) <;> simp +zetaDelta [State.outer_foldl]
@[simp] theorem outer_doShedFalling (s : State) : (doShedFalling s).outer = s.outer := by unfold doShedFalling; (try lift_lets); (repeat' (first | intro _ | (split <;> (try lift_lets)))) <;> simp +zetaDelta
@[simp] theorem outer_shedUndo (s : State) (a1 : Nat) : (shedUndo s a1).outer = s.outer := by unfold shedUndo; (try lift_lets); (repeat' (first | intro _ | (split <;> (try lift_lets)))) <;> simp +zetaDelta
@[simp] theorem outer_doShedRising (s : State) : (doShedRising s).outer = s.outer := by unfold doShedRising; (try lift_lets); (repeat' (first | intro _ | (split <;> (try lift_lets)))) <;> simp +zetaDelta
end Sys2Proof.Machine
end

