-- ==== Sys2Proof/Laws/QueueHeat.lean ====
section
/-! SUPPORT. No operation of Heat.lean touches the queue. -/
set_option linter.unusedTactic false
set_option linter.unreachableTactic false
namespace Sys2Proof.Machine
@[simp] theorem outer_setBarOf (s : State) (a1 : Nat) (a2 : Machine.Barista) : (setBarOf s a1 a2).outer = s.outer := by unfold setBarOf; rfl
@[simp] theorem outer_stopCompaction (s : State) (a1 : Nat) : (stopCompaction s a1).outer = s.outer := by unfold stopCompaction; (try lift_lets); (repeat' (first | intro _ | (split <;> (try lift_lets)))) <;> simp +zetaDelta
@[simp] theorem outer_stopWrites (s : State) (a1 : Nat) : (stopWrites s a1).outer = s.outer := by unfold stopWrites; (try lift_lets); (repeat' (first | intro _ | (split <;> (try lift_lets)))) <;> simp +zetaDelta
@[simp] theorem outer_silence (s : State) (a1 : Nat) (a2 : Nat) : (silence s a1 a2).outer = s.outer := by unfold silence; (try lift_lets); (repeat' (first | intro _ | (split <;> (try lift_lets)))) <;> simp +zetaDelta
@[simp] theorem outer_thermEvent (s : State) (a1 : Nat) (a2 : Nat) (a3 : Nat) : (thermEvent s a1 a2 a3).outer = s.outer := by unfold thermEvent; (try lift_lets); (repeat' (first | intro _ | (split <;> (try lift_lets)))) <;> simp +zetaDelta
@[simp] theorem outer_addPause (s : State) (a1 : Nat) (a2 : Nat) (a3 : Nat) (a4 : Nat) : (addPause s a1 a2 a3 a4).outer = s.outer := by unfold addPause; (try lift_lets); (repeat' (first | intro _ | (split <;> (try lift_lets)))) <;> simp +zetaDelta
@[simp] theorem outer_tripOutcome (s : State) (a1 : Nat) : (tripOutcome s a1).outer = s.outer := by unfold tripOutcome; (try lift_lets); (repeat' (first | intro _ | (split <;> (try lift_lets)) | (refine State.outer_foldl _ _ _ ?_) | (refine (State.outer_foldl _ _ _ ?_).trans ?_) | (refine outer_overNats _ _ _ ?_) | (refine (outer_overNats _ _ _ ?_).trans ?_))) <;> simp +zetaDelta
@[simp] theorem outer_tripDie (s : State) (a1 : Nat) : (tripDie s a1).outer = s.outer := by unfold tripDie; (try lift_lets); (repeat' (first | intro _ | (split <;> (try lift_lets)))) <;> simp +zetaDelta
@[simp] theorem outer_doTrip (s : State) (a1 : Nat) : (doTrip s a1).outer = s.outer := by unfold doTrip; (try lift_lets); (repeat' (first | intro _ | (split <;> (try lift_lets)) | (refine State.outer_foldl _ _ _ ?_) | (refine (State.outer_foldl _ _ _ ?_).trans ?_) | (refine outer_overNats _ _ _ ?_) | (refine (outer_overNats _ _ _ ?_).trans ?_))) <;> simp +zetaDelta
@[simp] theorem outer_thermalCycle (s : State) (a1 : Nat) (a2 : ℤ) : (thermalCycle s a1 a2).outer = s.outer := by unfold thermalCycle; (try lift_lets); (repeat' (first | intro _ | (split <;> (try lift_lets)))) <;> simp +zetaDelta
@[simp] theorem outer_checkSample (s : State) (a1 : Nat) (a2 : ℤ) (a3 : Option ℤ) : (checkSample s a1 a2 a3).outer = s.outer := by unfold checkSample; (try lift_lets); (repeat' (first | intro _ | (split <;> (try lift_lets)))) <;> simp +zetaDelta
@[simp] theorem outer_doSample (s : State) (a1 : Nat) (a2 : Option ℤ) (a3 : Nat) (a4 : ℤ) : (doSample s a1 a2 a3 a4).outer = s.outer := by unfold doSample <;> (try lift_lets); (repeat' (first | intro _ | (split <;> (try lift_lets)) | (refine State.outer_foldl _ _ _ ?_) | (refine (State.outer_foldl _ _ _ ?_).trans ?_) | (refine outer_overNats _ _ _ ?_) | (refine (outer_overNats _ _ _ ?_).trans ?_))) <;> (try simp +zetaDelta) <;> (repeat' split) <;> (try simp +zetaDelta)
@[simp] theorem outer_doThermalReview (s : State) (a1 : Nat) : (doThermalReview s a1).outer = s.outer := by unfold doThermalReview; (try lift_lets); (repeat' (first | intro _ | (split <;> (try lift_lets)))) <;> simp +zetaDelta
@[simp] theorem outer_doThermalRelease (s : State) (a1 : Nat) : (doThermalRelease s a1).outer = s.outer := by unfold doThermalRelease; (try lift_lets); (repeat' (first | intro _ | (split <;> (try lift_lets)))) <;> simp +zetaDelta
@[simp] theorem outer_doDramTemp (s : State) (a1 : Nat) (a2 : List ℤ) : (doDramTemp s a1 a2).outer = s.outer := by unfold doDramTemp; (try lift_lets); (repeat' (first | intro _ | (split <;> (try lift_lets)))) <;> simp +zetaDelta
@[simp] theorem outer_breakSensor (s : State) (a1 : Nat) (a2 : Nat) : (breakSensor s a1 a2).outer = s.outer := by unfold breakSensor; (try lift_lets); (repeat' (first | intro _ | (split <;> (try lift_lets)))) <;> simp +zetaDelta
@[simp] theorem outer_doSensorBroken (s : State) (a1 : Nat) (a2 : Nat) : (doSensorBroken s a1 a2).outer = s.outer := by unfold doSensorBroken; (try lift_lets); (repeat' (first | intro _ | (split <;> (try lift_lets)))) <;> simp +zetaDelta
@[simp] theorem outer_doCoolant (s : State) (a1 : ℤ) (a2 : ℤ) (a3 : Nat) : (doCoolant s a1 a2 a3).outer = s.outer := by unfold doCoolant; (try lift_lets); (repeat' (first | intro _ | (split <;> (try lift_lets)))) <;> simp +zetaDelta
@[simp] theorem outer_doLowFlow (s : State) : (doLowFlow s).outer = s.outer := by unfold doLowFlow; (try lift_lets); (repeat' (first | intro _ | (split <;> (try lift_lets)))) <;> simp +zetaDelta
end Sys2Proof.Machine
end

