-- ==== Sys2Proof/Laws/QueueFaults.lean ====
section
/-! SUPPORT. No operation of Faults.lean touches the queue. -/
set_option linter.unusedTactic false
set_option linter.unreachableTactic false
namespace Sys2Proof.Machine
@[simp] theorem outer_setFaults (s : State) (a1 : Machine.Faults → Machine.Faults) : (setFaults s a1).outer = s.outer := by unfold setFaults; rfl
@[simp] theorem outer_sendFence (s : State) (a1 : Nat) (a2 : Option Nat) (a3 : Nat) (a4 : Word) : (sendFence s a1 a2 a3 a4).outer = s.outer := by unfold sendFence; (try lift_lets); (repeat' (first | intro _ | (split <;> (try lift_lets)))) <;> simp +zetaDelta
@[simp] theorem outer_sendPortFailed (s : State) (a1 : Word) (a2 : Nat) : (sendPortFailed s a1 a2).outer = s.outer := by unfold sendPortFailed; (try lift_lets); (repeat' (first | intro _ | (split <;> (try lift_lets)))) <;> simp +zetaDelta
@[simp] theorem outer_sendSetLost (s : State) (a1 : Nat) (a2 : Nat) (a3 : Word) : (sendSetLost s a1 a2 a3).outer = s.outer := by unfold sendSetLost; (try lift_lets); (repeat' (first | intro _ | (split <;> (try lift_lets)))) <;> simp +zetaDelta
@[simp] theorem outer_sendDieFence (s : State) (a1 : Nat) (a2 : Nat) (a3 : Word) : (sendDieFence s a1 a2 a3).outer = s.outer := by unfold sendDieFence; (try lift_lets); (repeat' (first | intro _ | (split <;> (try lift_lets)))) <;> simp +zetaDelta
@[simp] theorem outer_switchIn (s : State) (a1 : Nat) (a2 : Word) : (switchIn s a1 a2).outer = s.outer := by unfold switchIn; (try lift_lets); (repeat' (first | intro _ | (split <;> (try lift_lets)) | (refine State.outer_foldl _ _ _ ?_) | (refine (State.outer_foldl _ _ _ ?_).trans ?_) | (refine outer_overNats _ _ _ ?_) | (refine (outer_overNats _ _ _ ?_).trans ?_))) <;> simp +zetaDelta
@[simp] theorem outer_actOn (s : State) (a1 : FaultMsg) (a2 : Bool) (a3 : Word) (a4 : Machine.FaultUnit) : (actOn s a1 a2 a3 a4).outer = s.outer := by unfold actOn; (try lift_lets); (repeat' (first | intro _ | (split <;> (try lift_lets)))) <;> simp +zetaDelta
@[simp] theorem outer_startRecovery (s : State) (a1 : FaultMsg) (a2 : Bool) : (startRecovery s a1 a2).outer = s.outer := by unfold startRecovery; (try lift_lets); (repeat' (first | intro _ | (split <;> (try lift_lets)) | (refine State.outer_foldl _ _ _ ?_) | (refine (State.outer_foldl _ _ _ ?_).trans ?_) | (refine outer_overNats _ _ _ ?_) | (refine (outer_overNats _ _ _ ?_).trans ?_))) <;> simp +zetaDelta
@[simp] theorem outer_secondHit (s : State) (a1 : Machine.Recovery) (a2 : List Machine.FaultUnit) (a3 : List Machine.FaultUnit) : (secondHit s a1 a2 a3).outer = s.outer := by unfold secondHit; (try lift_lets); (repeat' (first | intro _ | (split <;> (try lift_lets)) | (refine State.outer_foldl _ _ _ ?_) | (refine (State.outer_foldl _ _ _ ?_).trans ?_) | (refine outer_overNats _ _ _ ?_) | (refine (outer_overNats _ _ _ ?_).trans ?_))) <;> simp +zetaDelta
@[simp] theorem outer_poisonEnds (s : State) (a1 : FaultMsg) : (poisonEnds s a1).outer = s.outer := by unfold poisonEnds; (try lift_lets); (repeat' (first | intro _ | (split <;> (try lift_lets)))) <;> simp +zetaDelta
@[simp] theorem outer_actMessage (s : State) (a1 : FaultMsg) (a2 : Bool) : (actMessage s a1 a2).outer = s.outer := by unfold actMessage; (try lift_lets); (repeat' (first | intro _ | (split <;> (try lift_lets)))) <;> simp +zetaDelta
@[simp] theorem outer_sendAck (s : State) (a1 : FaultMsg) : (sendAck s a1).outer = s.outer := by unfold sendAck; (try lift_lets); (repeat' (first | intro _ | (split <;> (try lift_lets)))) <;> simp +zetaDelta
@[simp] theorem outer_alertPulse (s : State) : (alertPulse s).outer = s.outer := by unfold alertPulse; rfl
@[simp] theorem outer_logMessage (s : State) (a1 : FaultMsg) (a2 : Bool) (a3 : Bool) : (logMessage s a1 a2 a3).outer = s.outer := by unfold logMessage; (try lift_lets); (repeat' (first | intro _ | (split <;> (try lift_lets)))) <;> simp +zetaDelta
@[simp] theorem outer_dropMark (s : State) (a1 : FaultMsg) : (dropMark s a1).outer = s.outer := by unfold dropMark; (try lift_lets); (repeat' (first | intro _ | (split <;> (try lift_lets)))) <;> simp +zetaDelta
@[simp] theorem outer_handleMsg (s : State) (a1 : FaultMsg) (a2 : Bool) : (handleMsg s a1 a2).outer = s.outer := by unfold handleMsg; (try lift_lets); (repeat' (first | intro _ | (split <;> (try lift_lets)))) <;> simp +zetaDelta
@[simp] theorem outer_doFault (s : State) (a1 : Nat) (a2 : FaultMsg) (a3 : Bool) : (doFault s a1 a2 a3).outer = s.outer := by unfold doFault; (try lift_lets); (repeat' (first | intro _ | (split <;> (try lift_lets)))) <;> simp +zetaDelta
@[simp] theorem outer_doFaultAck (s : State) (a1 : BitVec 7) (a2 : BitVec 32) (a3 : FaultMsg) : (doFaultAck s a1 a2 a3).outer = s.outer := by unfold doFaultAck; (try lift_lets); (repeat' (first | intro _ | (split <;> (try lift_lets)))) <;> simp +zetaDelta
@[simp] theorem outer_doFaultRepeat (s : State) (a1 : FaultMsg) : (doFaultRepeat s a1).outer = s.outer := by unfold doFaultRepeat; (try lift_lets); (repeat' (first | intro _ | (split <;> (try lift_lets)))) <;> simp +zetaDelta
@[simp] theorem outer_doFaultForce (s : State) (a1 : Nat) (a2 : Word) : (doFaultForce s a1 a2).2.outer = s.outer := by unfold doFaultForce; (try lift_lets); (repeat' (first | intro _ | (split <;> (try lift_lets)))) <;> simp +zetaDelta
@[simp] theorem outer_doAlertPulseEnd (s : State) : (doAlertPulseEnd s).outer = s.outer := by unfold doAlertPulseEnd; (try lift_lets); (repeat' (first | intro _ | (split <;> (try lift_lets)))) <;> simp +zetaDelta
@[simp] theorem outer_doAlertClear (s : State) (a1 : Nat) : (doAlertClear s a1).outer = s.outer := by unfold doAlertClear; (try lift_lets); (repeat' (first | intro _ | (split <;> (try lift_lets)))) <;> simp +zetaDelta
@[simp] theorem outer_startWaiting (s : State) (a1 : List (FaultMsg × Bool)) : (startWaiting s a1).outer = s.outer := by
  induction a1 generalizing s with
  | nil => simp [startWaiting]
  | cons x l ih => obtain ⟨m, f⟩ := x; simp only [startWaiting]; split; simp; rw [ih]; simp
@[simp] theorem outer_doRecoveryEnd (s : State) : (doRecoveryEnd s).outer = s.outer := by unfold doRecoveryEnd; (try lift_lets); (repeat' (first | intro _ | (split <;> (try lift_lets)) | (refine State.outer_foldl _ _ _ ?_) | (refine (State.outer_foldl _ _ _ ?_).trans ?_) | (refine outer_overNats _ _ _ ?_) | (refine (outer_overNats _ _ _ ?_).trans ?_))) <;> simp +zetaDelta
@[simp] theorem outer_doFence (s : State) (a1 : BitVec 7) (a2 : BitVec 32) (a3 : Nat) (a4 : Option Nat) (a5 : Nat) (a6 : Word) : (doFence s a1 a2 a3 a4 a5 a6).outer = s.outer := by unfold doFence <;> (try lift_lets); (repeat' (first | intro _ | (split <;> (try lift_lets)) | (refine State.outer_foldl _ _ _ ?_) | (refine (State.outer_foldl _ _ _ ?_).trans ?_) | (refine outer_overNats _ _ _ ?_) | (refine (outer_overNats _ _ _ ?_).trans ?_))) <;> (try simp +zetaDelta) <;> (repeat' split) <;> (try simp +zetaDelta)
@[simp] theorem outer_fenceTile (s : State) (a1 : Nat) (a2 : Nat) (a3 : Bool) : (fenceTile s a1 a2 a3).outer = s.outer := by unfold fenceTile; (try lift_lets); (repeat' (first | intro _ | (split <;> (try lift_lets)))) <;> simp +zetaDelta
@[simp] theorem outer_shadowsOf (s : State) (a1 : Nat) : (shadowsOf s a1).outer = s.outer := by unfold shadowsOf; (try lift_lets); (repeat' (first | intro _ | (split <;> (try lift_lets)))) <;> simp +zetaDelta
@[simp] theorem outer_fenceDie (s : State) (a1 : Nat) (a2 : Nat) (a3 : Bool) : (fenceDie s a1 a2 a3).outer = s.outer := by unfold fenceDie; (try lift_lets); (repeat' (first | intro _ | (split <;> (try lift_lets)))) <;> simp +zetaDelta
@[simp] theorem outer_hubLost (s : State) (a1 : Nat) : (hubLost s a1).outer = s.outer := by unfold hubLost; (try lift_lets); (repeat' (first | intro _ | (split <;> (try lift_lets)))) <;> simp +zetaDelta
@[simp] theorem outer_doSigLinkFail (s : State) (a1 : Nat) : (doSigLinkFail s a1).outer = s.outer := by unfold doSigLinkFail; (try lift_lets); (repeat' (first | intro _ | (split <;> (try lift_lets)))) <;> simp +zetaDelta
@[simp] theorem outer_setCup (s : State) (a1 : Machine.Cupping → Machine.Cupping) : (setCup s a1).outer = s.outer := by unfold setCup; rfl
@[simp] theorem outer_doCuppingPeriod (s : State) : (doCuppingPeriod s).outer = s.outer := by unfold doCuppingPeriod; (try lift_lets); (repeat' (first | intro _ | (split <;> (try lift_lets)))) <;> simp +zetaDelta
@[simp] theorem outer_doCupStart (s : State) (a1 : BitVec 7) (a2 : BitVec 32) (a3 : Nat) (a4 : Nat) (a5 : Word) (a6 : Word) : (doCupStart s a1 a2 a3 a4 a5 a6).outer = s.outer := by unfold doCupStart; (try lift_lets); (repeat' (first | intro _ | (split <;> (try lift_lets)))) <;> simp +zetaDelta
@[simp] theorem outer_mirrorK (s : State) : (mirrorK s).outer = s.outer := by unfold mirrorK; (try lift_lets); (repeat' (first | intro _ | (split <;> (try lift_lets)))) <;> simp +zetaDelta
@[simp] theorem outer_applyCupStart (s : State) : (applyCupStart s).outer = s.outer := by unfold applyCupStart; (try lift_lets); (repeat' (first | intro _ | (split <;> (try lift_lets)))) <;> simp +zetaDelta
@[simp] theorem outer_sendCupResults (s : State) (a1 : Nat) : (sendCupResults s a1).outer = s.outer := by unfold sendCupResults; (try lift_lets); (repeat' (first | intro _ | (split <;> (try lift_lets)))) <;> simp +zetaDelta
@[simp] theorem outer_cupSend (s : State) (a1 : Nat) : (cupSend s a1).outer = s.outer := by unfold cupSend; (try lift_lets); (repeat' (first | intro _ | (split <;> (try lift_lets)))) <;> simp +zetaDelta
@[simp] theorem outer_cupEnd (s : State) (a1 : Nat) (a2 : Machine.CupState) (a3 : Word) : (cupEnd s a1 a2 a3).outer = s.outer := by unfold cupEnd; (try lift_lets); (repeat' (first | intro _ | (split <;> (try lift_lets)))) <;> simp +zetaDelta
@[simp] theorem outer_cupMsg (s : State) (a1 : Nat) (a2 : Nat) (a3 : Nat) : (cupMsg s a1 a2 a3).outer = s.outer := by unfold cupMsg; (try lift_lets); (repeat' (first | intro _ | (split <;> (try lift_lets)))) <;> simp +zetaDelta
@[simp] theorem outer_applyVerdict (s : State) (a1 : Machine.Cupping) (a2 : Nat) : (applyVerdict s a1 a2).outer = s.outer := by unfold applyVerdict; (try lift_lets); (repeat' (first | intro _ | (split <;> (try lift_lets)))) <;> simp +zetaDelta
@[simp] theorem outer_judgeCup (s : State) : (judgeCup s).outer = s.outer := by unfold judgeCup; (try lift_lets); (repeat' (first | intro _ | (split <;> (try lift_lets)))) <;> simp +zetaDelta [State.outer_foldl]
@[simp] theorem outer_cupRecheck (s : State) : (cupRecheck s).outer = s.outer := by unfold cupRecheck; (try lift_lets); (repeat' (first | intro _ | (split <;> (try lift_lets)))) <;> simp +zetaDelta
@[simp] theorem outer_doCupResult (s : State) (a1 : Nat) (a2 : Nat) (a3 : BitVec 32) (a4 : Nat) (a5 : Nat) (a6 : List Word) : (doCupResult s a1 a2 a3 a4 a5 a6).outer = s.outer := by unfold doCupResult; (try lift_lets); (repeat' (first | intro _ | (split <;> (try lift_lets)))) <;> simp +zetaDelta
@[simp] theorem outer_cupReportOf (s : State) (a1 : Nat) (a2 : Bool) : (cupReportOf s a1 a2).outer = s.outer := by unfold cupReportOf; rfl
@[simp] theorem outer_applyFence (s : State) (a1 : Nat) (a2 : Option Nat) (a3 : Nat) (a4 : Bool) : (applyFence s a1 a2 a3 a4).outer = s.outer := by unfold applyFence; (try lift_lets); (repeat' (first | intro _ | (split <;> (try lift_lets)))) <;> simp +zetaDelta
end Sys2Proof.Machine
end

