-- ==== Sys2Proof/Laws/QueueBarista.lean ====
section
/-! SUPPORT. No operation of Barista.lean touches the queue. -/
set_option linter.unusedTactic false
set_option linter.unreachableTactic false
namespace Sys2Proof.Machine
@[simp] theorem outer_setJournal (s : State) (a1 : Machine.Journal → Machine.Journal) : (setJournal s a1).outer = s.outer := by unfold setJournal; rfl
@[simp] theorem outer_setMirror (s : State) (a1 : Machine.Mirror → Machine.Mirror) : (setMirror s a1).outer = s.outer := by unfold setMirror; rfl
@[simp] theorem outer_setPunel (s : State) (a1 : Machine.Punel → Machine.Punel) : (setPunel s a1).outer = s.outer := by unfold setPunel; rfl
@[simp] theorem outer_setSec (s : State) (a1 : Machine.Security → Machine.Security) : (setSec s a1).outer = s.outer := by unfold setSec; rfl
@[simp] theorem outer_sendDict (s : State) (a1 : Nat) (a2 : Nat) (a3 : Nat) (a4 : Nat) (a5 : List Byte) : (sendDict s a1 a2 a3 a4 a5).outer = s.outer := by unfold sendDict; rfl
@[simp] theorem outer_sendUnit (s : State) (a1 : ClientId) (a2 : List Byte) : (sendUnit s a1 a2).outer = s.outer := by unfold sendUnit; (try lift_lets); (repeat' (first | intro _ | (split <;> (try lift_lets)))) <;> simp +zetaDelta
@[simp] theorem outer_fieldSend (s : State) (a1 : Nat) : (fieldSend s a1).outer = s.outer := by unfold fieldSend; (try lift_lets); (repeat' (first | intro _ | (split <;> (try lift_lets)) | (refine State.outer_foldl _ _ _ ?_) | (refine (State.outer_foldl _ _ _ ?_).trans ?_) | (refine outer_overNats _ _ _ ?_) | (refine (outer_overNats _ _ _ ?_).trans ?_))) <;> simp +zetaDelta
@[simp] theorem outer_sendReply (s : State) (a1 : ClientId) (a2 : List Byte) : (sendReply s a1 a2).outer = s.outer := by unfold sendReply; (try lift_lets); (repeat' (first | intro _ | (split <;> (try lift_lets)))) <;> simp +zetaDelta
@[simp] theorem outer_releaseAnswers (s : State) : (releaseAnswers s).outer = s.outer := by unfold releaseAnswers; (try lift_lets); (repeat' (first | intro _ | (split <;> (try lift_lets)) | (refine State.outer_foldl _ _ _ ?_) | (refine (State.outer_foldl _ _ _ ?_).trans ?_) | (refine outer_overNats _ _ _ ?_) | (refine (outer_overNats _ _ _ ?_).trans ?_))) <;> simp +zetaDelta
@[simp] theorem outer_setFwImage (s : State) (a1 : Nat) (a2 : Nat) (a3 : List Byte) : (setFwImage s a1 a2 a3).outer = s.outer := by unfold setFwImage; (try lift_lets); (repeat' (first | intro _ | (split <;> (try lift_lets)))) <;> simp +zetaDelta
@[simp] theorem outer_eraseRwp (s : State) : (eraseRwp s).outer = s.outer := by unfold eraseRwp; rfl
@[simp] theorem outer_deriveKeys (s : State) : (deriveKeys s).outer = s.outer := by unfold deriveKeys; rfl
@[simp] theorem outer_applyLc (s : State) (a1 : Nat) (a2 : List Byte) (a3 : Nat) (a4 : Nat) (a5 : Nat) : (applyLc s a1 a2 a3 a4 a5).outer = s.outer := by unfold applyLc; (try lift_lets); (repeat' (first | intro _ | (split <;> (try lift_lets)))) <;> simp +zetaDelta
@[simp] theorem outer_applyCommitted (s : State) : (applyCommitted s).outer = s.outer := by simp only [applyCommitted] <;> (repeat' (first | split | (refine State.outer_foldl _ _ _ ?_; intro _ _) | (refine (State.outer_foldl _ _ _ ?_).trans ?_) | rfl)) <;> (try simp) <;> (repeat' (first | split | (refine (State.outer_foldl _ _ _ ?_).trans ?_) | intro _ )) <;> (try simp)
@[simp] theorem outer_commitNow (s : State) (a1 : Nat) : (commitNow s a1).outer = s.outer := by unfold commitNow; (try lift_lets); (repeat' (first | intro _ | (split <;> (try lift_lets)))) <;> simp +zetaDelta [State.outer_foldl]
@[simp] theorem outer_tryCommit (s : State) (a1 : Nat) : (tryCommit s a1).outer = s.outer := by unfold tryCommit; (try lift_lets); (repeat' (first | intro _ | (split <;> (try lift_lets)))) <;> simp +zetaDelta
@[simp] theorem outer_commitDue (s : State) : (commitDue s).outer = s.outer := by unfold commitDue; (try lift_lets); (repeat' (first | intro _ | (split <;> (try lift_lets)))) <;> simp +zetaDelta
@[simp] theorem outer_addWear (s : State) (a1 : Nat) (a2 : Nat) : (addWear s a1 a2).outer = s.outer := by unfold addWear; rfl
@[simp] theorem outer_wearSeconds (s : State) (a1 : Nat) : (wearSeconds s a1).outer = s.outer := by unfold wearSeconds; (try lift_lets); (repeat' (first | intro _ | (split <;> (try lift_lets)))) <;> simp +zetaDelta
@[simp] theorem outer_doPeriodic (s : State) : (doPeriodic s).outer = s.outer := by unfold doPeriodic; (try lift_lets); (repeat' (first | intro _ | (split <;> (try lift_lets)))) <;> simp +zetaDelta [State.outer_foldl]
@[simp] theorem outer_doCompaction (s : State) (a1 : Nat) : (doCompaction s a1).outer = s.outer := by unfold doCompaction; (try lift_lets); (repeat' (first | intro _ | (split <;> (try lift_lets)))) <;> simp +zetaDelta
@[simp] theorem outer_doCompactionDone (s : State) (a1 : Nat) : (doCompactionDone s a1).outer = s.outer := by unfold doCompactionDone; (try lift_lets); (repeat' (first | intro _ | (split <;> (try lift_lets)))) <;> simp +zetaDelta
@[simp] theorem outer_takeRecord (s : State) (a1 : Nat) (a2 : Machine.Rec) : (takeRecord s a1 a2).outer = s.outer := by unfold takeRecord; (try lift_lets); (repeat' (first | intro _ | (split <;> (try lift_lets)))) <;> simp +zetaDelta
@[simp] theorem outer_takeLog (s : State) (a1 : Nat) (a2 : Machine.LogEntry) : (takeLog s a1 a2).outer = s.outer := by unfold takeLog; (try lift_lets); (repeat' (first | intro _ | (split <;> (try lift_lets)))) <;> simp +zetaDelta
@[simp] theorem outer_takeCommitted (s : State) (a1 : Nat) (a2 : Machine.Rec) : (takeCommitted s a1 a2).outer = s.outer := by unfold takeCommitted; (try lift_lets); (repeat' (first | intro _ | (split <;> (try lift_lets)))) <;> simp +zetaDelta
@[simp] theorem outer_sendCommitted (s : State) (a1 : Nat) (a2 : Nat) : (sendCommitted s a1 a2).outer = s.outer := by unfold sendCommitted; (try lift_lets); (repeat' (first | intro _ | (split <;> (try lift_lets)) | (refine State.outer_foldl _ _ _ ?_) | (refine (State.outer_foldl _ _ _ ?_).trans ?_) | (refine outer_overNats _ _ _ ?_) | (refine (outer_overNats _ _ _ ?_).trans ?_))) <;> simp +zetaDelta
@[simp] theorem outer_takeItem (s : State) (a1 : Nat) (a2 : Nat) (a3 : List Byte) : (takeItem s a1 a2 a3).outer = s.outer := by unfold takeItem; (try lift_lets); (repeat' (first | intro _ | (split <;> (try lift_lets)))) <;> simp +zetaDelta
@[simp] theorem outer_doBaristaSlot (s : State) (a1 : Nat) : (doBaristaSlot s a1).outer = s.outer := by unfold doBaristaSlot; (try lift_lets); (repeat' (first | intro _ | (split <;> (try lift_lets)))) <;> simp +zetaDelta
@[simp] theorem outer_doHeartbeatTick (s : State) (a1 : Nat) : (doHeartbeatTick s a1).outer = s.outer := by unfold doHeartbeatTick; (try lift_lets); (repeat' (first | intro _ | (split <;> (try lift_lets)))) <;> simp +zetaDelta
@[simp] theorem outer_takeoverMsg (s : State) : (takeoverMsg s).outer = s.outer := by unfold takeoverMsg; (try lift_lets); (repeat' (first | intro _ | (split <;> (try lift_lets)))) <;> simp +zetaDelta
@[simp] theorem outer_undoValues (s : State) : (undoValues s).outer = s.outer := by unfold undoValues; (try lift_lets); (repeat' (first | intro _ | (split <;> (try lift_lets)) | (refine State.outer_foldl _ _ _ ?_) | (refine (State.outer_foldl _ _ _ ?_).trans ?_) | (refine outer_overNats _ _ _ ?_) | (refine (outer_overNats _ _ _ ?_).trans ?_))) <;> simp +zetaDelta
@[simp] theorem outer_relight (s : State) : (relight s).outer = s.outer := by unfold relight; (try lift_lets); (repeat' (first | intro _ | (split <;> (try lift_lets)))) <;> simp +zetaDelta
@[simp] theorem outer_takeover (s : State) (a1 : Nat) : (takeover s a1).outer = s.outer := by unfold takeover; (try lift_lets); (repeat' (first | intro _ | (split <;> (try lift_lets)))) <;> simp +zetaDelta [State.outer_foldl]
@[simp] theorem outer_doHeartbeatLoss (s : State) (a1 : Nat) : (doHeartbeatLoss s a1).outer = s.outer := by unfold doHeartbeatLoss; (try lift_lets); (repeat' (first | intro _ | (split <;> (try lift_lets)))) <;> simp +zetaDelta
@[simp] theorem outer_doStandbyLoss (s : State) : (doStandbyLoss s).outer = s.outer := by unfold doStandbyLoss; (try lift_lets); (repeat' (first | intro _ | (split <;> (try lift_lets)))) <;> simp +zetaDelta
@[simp] theorem outer_doBaristaActive (s : State) (a1 : BitVec 7) (a2 : BitVec 32) (a3 : BitVec 7) (a4 : BitVec 32) : (doBaristaActive s a1 a2 a3 a4).outer = s.outer := by unfold doBaristaActive; (try lift_lets); (repeat' (first | intro _ | (split <;> (try lift_lets)))) <;> simp +zetaDelta
@[simp] theorem outer_doHandbackDue (s : State) : (doHandbackDue s).outer = s.outer := by unfold doHandbackDue; (try lift_lets); (repeat' (first | intro _ | (split <;> (try lift_lets)))) <;> simp +zetaDelta
@[simp] theorem outer_doHandback (s : State) (a1 : BitVec 7) (a2 : BitVec 32) (a3 : Word) (a4 : BitVec 32) (a5 : BitVec 32) : (doHandback s a1 a2 a3 a4 a5).outer = s.outer := by unfold doHandback; (try lift_lets); (repeat' (first | intro _ | (split <;> (try lift_lets)))) <;> simp +zetaDelta
@[simp] theorem outer_applyHandback (s : State) : (applyHandback s).outer = s.outer := by unfold applyHandback; (try lift_lets); (repeat' (first | intro _ | (split <;> (try lift_lets)))) <;> simp +zetaDelta
@[simp] theorem outer_replaceUnit (s : State) (a1 : Nat) (a2 : Nat) : (replaceUnit s a1 a2).outer = s.outer := by unfold replaceUnit; (try lift_lets); (repeat' (first | intro _ | (split <;> (try lift_lets)))) <;> simp +zetaDelta
@[simp] theorem outer_doKnownAnswer (s : State) (a1 : Nat) (a2 : SelfCheck) : (doKnownAnswer s a1 a2).outer = s.outer := by unfold doKnownAnswer; (try lift_lets); (repeat' (first | intro _ | (split <;> (try lift_lets)))) <;> simp +zetaDelta
@[simp] theorem outer_doOscillator (s : State) (a1 : Nat) (a2 : Nat) : (doOscillator s a1 a2).outer = s.outer := by unfold doOscillator; (try lift_lets); (repeat' (first | intro _ | (split <;> (try lift_lets)))) <;> simp +zetaDelta
@[simp] theorem outer_powerFailBatch (s : State) (a1 : Nat) : (powerFailBatch s a1).outer = s.outer := by unfold powerFailBatch; (try lift_lets); (repeat' (first | intro _ | (split <;> (try lift_lets)))) <;> simp +zetaDelta
@[simp] theorem outer_commitOwn (s : State) (a1 : Nat) (a2 : Nat) : (commitOwn s a1 a2).outer = s.outer := by unfold commitOwn; (try lift_lets); (repeat' (first | intro _ | (split <;> (try lift_lets)))) <;> simp +zetaDelta
@[simp] theorem outer_commitBoth (s : State) (a1 : Nat) : (commitBoth s a1).outer = s.outer := by unfold commitBoth; (try lift_lets); (repeat' (first | intro _ | (split <;> (try lift_lets)))) <;> simp +zetaDelta
@[simp] theorem outer_logRest (s : State) : (logRest s).outer = s.outer := by unfold logRest; (try lift_lets); (repeat' (first | intro _ | (split <;> (try lift_lets)) | (refine State.outer_foldl _ _ _ ?_) | (refine (State.outer_foldl _ _ _ ?_).trans ?_) | (refine outer_overNats _ _ _ ?_) | (refine (outer_overNats _ _ _ ?_).trans ?_))) <;> simp +zetaDelta
@[simp] theorem outer_darken (s : State) : (darken s).outer = s.outer := by unfold darken; (try lift_lets); (repeat' (first | intro _ | (split <;> (try lift_lets)))) <;> simp +zetaDelta
@[simp] theorem outer_doPowerFail (s : State) : (doPowerFail s).outer = s.outer := by unfold doPowerFail; (try lift_lets); (repeat' (first | intro _ | (split <;> (try lift_lets)))) <;> simp +zetaDelta
end Sys2Proof.Machine
end

