-- ==== Sys2Proof/Laws/QueueCold.lean ====
section
/-! SUPPORT. No operation of Cold.lean touches the queue. -/
set_option linter.unusedTactic false
set_option linter.unreachableTactic false
namespace Sys2Proof.Machine
@[simp] theorem outer_setStartup (s : State) (a1 : Machine.Startup → Machine.Startup) : (setStartup s a1).outer = s.outer := by unfold setStartup; rfl
@[simp] theorem outer_coldState (s : State) : (coldState s).outer = s.outer := by unfold coldState; rfl
@[simp] theorem outer_enterRom (s : State) (a1 : BitVec 6) (a2 : Nat) (a3 : Nat) : (enterRom s a1 a2 a3).outer = s.outer := by unfold enterRom; rfl
@[simp] theorem outer_restoreValue (s : State) (a1 : Machine.Rec) : (restoreValue s a1).outer = s.outer := by unfold restoreValue; (try lift_lets); (repeat' (first | intro _ | (split <;> (try lift_lets)))) <;> simp +zetaDelta
@[simp] theorem outer_restoreRec (s : State) (a1 : Machine.Rec) : (restoreRec s a1).outer = s.outer := by unfold restoreRec; (try lift_lets); (repeat' (first | intro _ | (split <;> (try lift_lets)))) <;> simp +zetaDelta
@[simp] theorem outer_restoreRom (s : State) (a1 : List Machine.Rec) : (restoreRom s a1).outer = s.outer := by unfold restoreRom; (try lift_lets); (repeat' (first | intro _ | (split <;> (try lift_lets)))) <;> simp +zetaDelta [State.outer_foldl]
@[simp] theorem outer_restoreAll (s : State) (a1 : List Machine.Rec) : (restoreAll s a1).outer = s.outer := by unfold restoreAll; (try lift_lets); (repeat' (first | intro _ | (split <;> (try lift_lets)))) <;> simp +zetaDelta [State.outer_foldl]
end Sys2Proof.Machine
end

