-- ==== Sys2Proof/Laws/QueueSecurity.lean ====
section
/-! SUPPORT. No operation of Security.lean touches the queue. -/
set_option linter.unusedTactic false
set_option linter.unreachableTactic false
namespace Sys2Proof.Machine
@[simp] theorem outer_lcRecord (s : State) (a1 : Nat) (a2 : List Byte) (a3 : Nat) (a4 : Nat) (a5 : Nat) : (lcRecord s a1 a2 a3 a4 a5).outer = s.outer := by unfold lcRecord; (try lift_lets); (repeat' (first | intro _ | (split <;> (try lift_lets)))) <;> simp +zetaDelta
@[simp] theorem outer_fwRecord (s : State) (a1 : Nat) (a2 : Nat) (a3 : Option Nat) : (fwRecord s a1 a2 a3).outer = s.outer := by unfold fwRecord <;> (try lift_lets); (repeat' (first | intro _ | (split <;> (try lift_lets)) | (refine State.outer_foldl _ _ _ ?_) | (refine (State.outer_foldl _ _ _ ?_).trans ?_) | (refine outer_overNats _ _ _ ?_) | (refine (outer_overNats _ _ _ ?_).trans ?_))) <;> (try simp +zetaDelta) <;> (repeat' split) <;> (try simp +zetaDelta)
@[simp] theorem outer_fwSlotRecord (s : State) (a1 : Nat) (a2 : Nat) : (fwSlotRecord s a1 a2).outer = s.outer := by unfold fwSlotRecord; (try lift_lets); (repeat' (first | intro _ | (split <;> (try lift_lets)))) <;> simp +zetaDelta
@[simp] theorem outer_doLcRequest (s : State) (a1 : List Byte) : (doLcRequest s a1).2.outer = s.outer := by unfold doLcRequest; (try lift_lets); (repeat' (first | intro _ | (split <;> (try lift_lets)))) <;> simp +zetaDelta
@[simp] theorem outer_countTamper (s : State) : (countTamper s).outer = s.outer := by unfold countTamper; (try lift_lets); (repeat' (first | intro _ | (split <;> (try lift_lets)))) <;> simp +zetaDelta
@[simp] theorem outer_tamperEvent (s : State) (a1 : Nat) : (tamperEvent s a1).outer = s.outer := by unfold tamperEvent; (try lift_lets); (repeat' (first | intro _ | (split <;> (try lift_lets)))) <;> simp +zetaDelta
@[simp] theorem outer_doTamper (s : State) (a1 : Nat) : (doTamper s a1).outer = s.outer := by unfold doTamper; (try lift_lets); (repeat' (first | intro _ | (split <;> (try lift_lets)))) <;> simp +zetaDelta
@[simp] theorem outer_updClient (s : State) (a1 : ClientId) (a2 : Machine.Client → Machine.Client) : (updClient s a1 a2).outer = s.outer := by unfold updClient; rfl
@[simp] theorem outer_doVendorResponse (s : State) (a1 : ClientId) (a2 : List Byte) : (doVendorResponse s a1 a2).2.outer = s.outer := by unfold doVendorResponse; (try lift_lets); (repeat' (first | intro _ | (split <;> (try lift_lets)))) <;> simp +zetaDelta
@[simp] theorem outer_dropUpdate (s : State) (a1 : Nat) : (dropUpdate s a1).outer = s.outer := by unfold dropUpdate; (try lift_lets); (repeat' (first | intro _ | (split <;> (try lift_lets)))) <;> simp +zetaDelta
@[simp] theorem outer_romSlots (s : State) (a1 : Nat) (a2 : Nat) : (romSlots s a1 a2).outer = s.outer := by unfold romSlots; (try lift_lets); (repeat' (first | intro _ | (split <;> (try lift_lets)))) <;> simp +zetaDelta
@[simp] theorem outer_afterSegment (s : State) (a1 : Bool) : (afterSegment s a1).outer = s.outer := by unfold afterSegment; (try lift_lets); (repeat' (first | intro _ | (split <;> (try lift_lets)))) <;> simp +zetaDelta
@[simp] theorem outer_updateSegment (s : State) (a1 : ClientId) (a2 : Bool) (a3 : Bool) (a4 : Nat) (a5 : Nat) (a6 : List Byte) : (updateSegment s a1 a2 a3 a4 a5 a6).state.outer = s.outer := by unfold updateSegment; (try lift_lets); (repeat' (first | intro _ | (split <;> (try lift_lets)))) <;> simp +zetaDelta
@[simp] theorem outer_abortUpdate (s : State) (a1 : ClientId) : (abortUpdate s a1).outer = s.outer := by unfold abortUpdate; (try lift_lets); (repeat' (first | intro _ | (split <;> (try lift_lets)))) <;> simp +zetaDelta
@[simp] theorem outer_markStaged (s : State) : (markStaged s).outer = s.outer := by unfold markStaged; (try lift_lets); (repeat' (first | intro _ | (split <;> (try lift_lets)))) <;> simp +zetaDelta
@[simp] theorem outer_doImageVerified (s : State) : (doImageVerified s).outer = s.outer := by unfold doImageVerified; (try lift_lets); (repeat' (first | intro _ | (split <;> (try lift_lets)))) <;> simp +zetaDelta
@[simp] theorem outer_doImageCopied (s : State) : (doImageCopied s).outer = s.outer := by unfold doImageCopied; (try lift_lets); (repeat' (first | intro _ | (split <;> (try lift_lets)))) <;> simp +zetaDelta
@[simp] theorem outer_doUpdateActivate (s : State) (a1 : Nat) : (doUpdateActivate s a1).2.outer = s.outer := by unfold doUpdateActivate; (try lift_lets); (repeat' (first | intro _ | (split <;> (try lift_lets)))) <;> simp +zetaDelta
@[simp] theorem outer_confirmTrial (s : State) : (confirmTrial s).2.outer = s.outer := by unfold confirmTrial; (try lift_lets); (repeat' (first | intro _ | (split <;> (try lift_lets)))) <;> simp +zetaDelta
@[simp] theorem outer_doConfirmTimer (s : State) : (doConfirmTimer s).outer = s.outer := by unfold doConfirmTimer; (try lift_lets); (repeat' (first | intro _ | (split <;> (try lift_lets)))) <;> simp +zetaDelta
end Sys2Proof.Machine
end

