-- ==== Sys2Proof/Laws/QueueStartUp.lean ====
section
/-! SUPPORT. No operation of StartUp.lean touches the queue. -/
set_option linter.unusedTactic false
set_option linter.unreachableTactic false
namespace Sys2Proof.Machine
@[simp] theorem outer_finishUnit (s : State) (a1 : Nat) : (finishUnit s a1).outer = s.outer := by unfold finishUnit; rfl
@[simp] theorem outer_startFail (s : State) (a1 : Nat) : (startFail s a1).outer = s.outer := by unfold startFail <;> (try lift_lets); (repeat' (first | intro _ | (split <;> (try lift_lets)) | (refine State.outer_foldl _ _ _ ?_) | (refine (State.outer_foldl _ _ _ ?_).trans ?_) | (refine outer_overNats _ _ _ ?_) | (refine (outer_overNats _ _ _ ?_).trans ?_))) <;> (try simp +zetaDelta) <;> (repeat' split) <;> (try simp +zetaDelta)
@[simp] theorem outer_startFence (s : State) (a1 : Nat) (a2 : Nat) : (startFence s a1 a2).outer = s.outer := by unfold startFence <;> (try lift_lets); (repeat' (first | intro _ | (split <;> (try lift_lets)) | (refine State.outer_foldl _ _ _ ?_) | (refine (State.outer_foldl _ _ _ ?_).trans ?_) | (refine outer_overNats _ _ _ ?_) | (refine (outer_overNats _ _ _ ?_).trans ?_))) <;> (try simp +zetaDelta) <;> (repeat' split) <;> (try simp +zetaDelta)
@[simp] theorem outer_startSilent (s : State) (a1 : Nat) : (startSilent s a1).outer = s.outer := by unfold startSilent; (try lift_lets); (repeat' (first | intro _ | (split <;> (try lift_lets)))) <;> simp +zetaDelta
@[simp] theorem outer_combOut (s : State) (a1 : Nat) : (combOut s a1).outer = s.outer := by unfold combOut; (try lift_lets); (repeat' (first | intro _ | (split <;> (try lift_lets)) | (refine State.outer_foldl _ _ _ ?_) | (refine (State.outer_foldl _ _ _ ?_).trans ?_) | (refine outer_overNats _ _ _ ?_) | (refine (outer_overNats _ _ _ ?_).trans ?_))) <;> simp +zetaDelta
@[simp] theorem outer_setBooted (s : State) (a1 : Nat) (a2 : Option (Fin 2)) : (setBooted s a1 a2).outer = s.outer := by unfold setBooted; rfl
@[simp] theorem outer_bootAgain (s : State) (a1 : Nat) : (bootAgain s a1).outer = s.outer := by unfold bootAgain; (try lift_lets); (repeat' (first | intro _ | (split <;> (try lift_lets)))) <;> simp +zetaDelta
@[simp] theorem outer_dieRefused (s : State) (a1 : Nat) : (dieRefused s a1).outer = s.outer := by unfold dieRefused; (try lift_lets); (repeat' (first | intro _ | (split <;> (try lift_lets)))) <;> simp +zetaDelta
@[simp] theorem outer_enterStep (s : State) (a1 : Nat) : (enterStep s a1).outer = s.outer := by unfold enterStep; rfl
@[simp] theorem outer_endRom (s : State) : (endRom s).outer = s.outer := by
  unfold endRom
  dsimp only
  split
  · simp
  · rename_i first rest _
    have h : (restoreRom s (carafeState (carafeOf s first))).outer = s.outer := by simp
    rw [← h]
    generalize restoreRom s (carafeState (carafeOf s first)) = u
    generalize (List.find? _ (List.filter (romLive s) [0, 1])).getD first = n
    have h2 : (if (bootChoice u n).2 = (u.sec.slotA, u.sec.slotB) then u else romSlots u (bootChoice u n).2.1 (bootChoice u n).2.2).outer = u.outer := by split <;> simp
    rw [← h2]
    generalize (if (bootChoice u n).2 = (u.sec.slotA, u.sec.slotB) then u else romSlots u (bootChoice u n).2.1 (bootChoice u n).2.2) = v
    split
    · simp
    · simp
      rw [State.outer_foldl]
      · simp
      · intro s x; split <;> simp
@[simp] theorem outer_alignCarafes (s : State) (a1 : Nat) : (alignCarafes s a1).outer = s.outer := by unfold alignCarafes; (try lift_lets); (repeat' (first | intro _ | (split <;> (try lift_lets)))) <;> simp +zetaDelta
@[simp] theorem outer_failItem (s : State) (a1 : FactoryItem) : (failItem s a1).outer = s.outer := by unfold failItem; (try lift_lets); (repeat' (first | intro _ | (split <;> (try lift_lets)))) <;> simp +zetaDelta
@[simp] theorem outer_takeSettings (s : State) : (takeSettings s).outer = s.outer := by unfold takeSettings; rfl
@[simp] theorem outer_endRecovery (s : State) : (endRecovery s).outer = s.outer := by
  unfold endRecovery; dsimp only
  split
  · simp
  · simp
  · simp only [outer_enterStep, outer_ctrlSend, outer_countTamper, outer_takeSettings]
    rw [State.outer_foldl _ _ _ (fun s x => by simp)]
    simp [State.outer_foldl]
@[simp] theorem outer_doSilenceReset (s : State) (a1 : Nat) : (doSilenceReset s a1).outer = s.outer := by unfold doSilenceReset; (try lift_lets); (repeat' (first | intro _ | (split <;> (try lift_lets)))) <;> simp +zetaDelta
@[simp] theorem outer_copyStaged (s : State) (a1 : Nat) : (copyStaged s a1).outer = s.outer := by unfold copyStaged; (try lift_lets); (repeat' (first | intro _ | (split <;> (try lift_lets)))) <;> simp +zetaDelta
@[simp] theorem outer_doRemirrorDone (s : State) (a1 : Nat) : (doRemirrorDone s a1).outer = s.outer := by unfold doRemirrorDone; (try lift_lets); (repeat' (first | intro _ | (split <;> (try lift_lets)))) <;> simp +zetaDelta
@[simp] theorem outer_endReports (s : State) : (endReports s).outer = s.outer := by unfold endReports; (try lift_lets); (repeat' (first | intro _ | (split <;> (try lift_lets)))) <;> simp +zetaDelta [State.outer_foldl]
@[simp] theorem outer_endTests (s : State) : (endTests s).outer = s.outer := by unfold endTests; (try lift_lets); (repeat' (first | intro _ | (split <;> (try lift_lets)) | (refine State.outer_foldl _ _ _ ?_) | (refine (State.outer_foldl _ _ _ ?_).trans ?_) | (refine outer_overNats _ _ _ ?_) | (refine (outer_overNats _ _ _ ?_).trans ?_))) <;> simp +zetaDelta
@[simp] theorem outer_enterCombs (s : State) : (enterCombs s).outer = s.outer := by unfold enterCombs; (try lift_lets); (repeat' (first | intro _ | (split <;> (try lift_lets)))) <;> simp +zetaDelta
@[simp] theorem outer_repairRecord (s : State) (a1 : Nat) (a2 : Machine.DieRow) (a3 : Nat) (a4 : Bool) : (repairRecord s a1 a2 a3 a4).outer = s.outer := by unfold repairRecord; (try lift_lets); (repeat' (first | intro _ | (split <;> (try lift_lets)))) <;> simp +zetaDelta
@[simp] theorem outer_enterTraining (s : State) : (enterTraining s).outer = s.outer := by unfold enterTraining; (try lift_lets); (repeat' (first | intro _ | (split <;> (try lift_lets)))) <;> simp +zetaDelta [State.outer_foldl]
@[simp] theorem outer_stackTrained (s : State) (a1 : Nat) (a2 : Option (Fin 18)) : (stackTrained s a1 a2).outer = s.outer := by unfold stackTrained; (try lift_lets); (repeat' (first | intro _ | (split <;> (try lift_lets)))) <;> simp +zetaDelta [State.outer_foldl]
@[simp] theorem outer_mapSets (s : State) : (mapSets s).outer = s.outer := by unfold mapSets; (try lift_lets); (repeat' (first | intro _ | (split <;> (try lift_lets)))) <;> simp +zetaDelta
@[simp] theorem outer_endTraining (s : State) : (endTraining s).outer = s.outer := by unfold endTraining; (try lift_lets); (repeat' (first | intro _ | (split <;> (try lift_lets)))) <;> simp +zetaDelta [State.outer_foldl]
@[simp] theorem outer_clearLines (s : State) (a1 : Nat) : (clearLines s a1).outer = s.outer := by unfold clearLines; (try lift_lets); (repeat' (first | intro _ | (split <;> (try lift_lets)))) <;> simp +zetaDelta
@[simp] theorem outer_endQualification (s : State) : (endQualification s).outer = s.outer := by unfold endQualification; (try lift_lets); (repeat' (first | intro _ | (split <;> (try lift_lets)))) <;> simp +zetaDelta [State.outer_foldl]
@[simp] theorem outer_enterBlend (s : State) : (enterBlend s).outer = s.outer := by unfold enterBlend; rfl
@[simp] theorem outer_applyBlendStart (s : State) : (applyBlendStart s).outer = s.outer := by unfold applyBlendStart; (try lift_lets); (repeat' (first | intro _ | (split <;> (try lift_lets)))) <;> simp +zetaDelta
@[simp] theorem outer_judgeReady (s : State) : (judgeReady s).outer = s.outer := by unfold judgeReady; (try lift_lets); (repeat' (first | intro _ | (split <;> (try lift_lets)))) <;> simp +zetaDelta
@[simp] theorem outer_endStep (s : State) : (endStep s).outer = s.outer := by
  have hd : ∀ (l : List Nat) (s : State), (l.foldl (fun s n => if unitDone s n then s else setRole s n .dead) s).outer = s.outer :=
    fun l s => State.outer_foldl _ _ _ (fun s x => by split <;> simp)
  have hc : ∀ (c : State → Nat → Bool) (l : List Nat) (s : State), (l.foldl (fun s n => if c s n then combOut s n else s) s).outer = s.outer :=
    fun c l s => State.outer_foldl _ _ _ (fun s x => by split <;> simp)
  have hc := hc (fun s n => decide ((litCombs s).contains n = true ∧ (!unitDone s n) = true))
  simp only [decide_eq_true_eq] at hc
  unfold endStep; split <;> simp only [outer_enterRom, outer_endRom, outer_endRecovery, outer_endReports, outer_enterStep, outer_endTests, outer_enterCombs,
    outer_enterTraining, outer_endTraining, outer_endQualification, outer_enterBlend, outer_judgeReady, hd, hc]
@[simp] theorem outer_jointRecord (s : State) (a1 : Nat) (a2 : Machine.JointGroup) : (jointRecord s a1 a2).outer = s.outer := by unfold jointRecord; (try lift_lets); (repeat' (first | intro _ | (split <;> (try lift_lets)))) <;> simp +zetaDelta
@[simp] theorem outer_jointLine (s : State) (a1 : Nat) (a2 : Bool) (a3 : Nat) : (jointLine s a1 a2 a3).outer = s.outer := by unfold jointLine; rfl
@[simp] theorem outer_jointOutcome (s : State) (a1 : Nat) (a2 : JointCarries) (a3 : State → State) (h3 : ∀ s, (a3 s).outer = s.outer) : (jointOutcome s a1 a2 a3).outer = s.outer := by unfold jointOutcome; (try lift_lets); (repeat' (first | intro _ | (split <;> (try lift_lets)) | (refine State.outer_foldl _ _ _ ?_) | (refine (State.outer_foldl _ _ _ ?_).trans ?_) | (refine outer_overNats _ _ _ ?_) | (refine (outer_overNats _ _ _ ?_).trans ?_))) <;> simp +zetaDelta [*]
@[simp] theorem outer_setJoint (s : State) (a1 : Nat) (a2 : Machine.JointGroup) : (setJoint s a1 a2).outer = s.outer := by unfold setJoint; rfl
@[simp] theorem outer_jointFails (s : State) (a1 : Nat) (a2 : Nat) (a3 : Nat) (a4 : JointCarries) (a5 : State → State) (h5 : ∀ s, (a5 s).outer = s.outer) : (jointFails s a1 a2 a3 a4 a5).outer = s.outer := by unfold jointFails; (try lift_lets); (repeat' (first | intro _ | (split <;> (try lift_lets)) | (refine State.outer_foldl _ _ _ ?_) | (refine (State.outer_foldl _ _ _ ?_).trans ?_) | (refine outer_overNats _ _ _ ?_) | (refine (outer_overNats _ _ _ ?_).trans ?_))) <;> simp +zetaDelta [*]
@[simp] theorem outer_jointsTested (s : State) : (jointsTested s).outer = s.outer := by unfold jointsTested; (try lift_lets); (repeat' (first | intro _ | (split <;> (try lift_lets)))) <;> simp +zetaDelta [State.outer_foldl]
@[simp] theorem outer_jointFence (a0 : Nat) (s : State) : (jointFence a0 s).outer = s.outer := by unfold jointFence <;> (try lift_lets); (repeat' (first | intro _ | (split <;> (try lift_lets)) | (refine State.outer_foldl _ _ _ ?_) | (refine (State.outer_foldl _ _ _ ?_).trans ?_) | (refine outer_overNats _ _ _ ?_) | (refine (outer_overNats _ _ _ ?_).trans ?_))) <;> (try simp +zetaDelta) <;> (repeat' split) <;> (try simp +zetaDelta)
@[simp] theorem outer_doJointFail (s : State) (a1 : Nat) (a2 : Nat) (a3 : Nat) (a4 : JointCarries) : (doJointFail s a1 a2 a3 a4).outer = s.outer := by unfold doJointFail; (try lift_lets); (repeat' (first | intro _ | (split <;> (try lift_lets)))) <;> simp +zetaDelta
@[simp] theorem outer_applyJoint (s : State) (a1 : Nat) (a2 : Nat) (a3 : Nat) (a4 : JointCarries) : (applyJoint s a1 a2 a3 a4).outer = s.outer := by unfold applyJoint; (try lift_lets); (repeat' (first | intro _ | (split <;> (try lift_lets)))) <;> simp +zetaDelta
@[simp] theorem outer_romResult (s : State) (a1 : Nat) (a2 : Bool) (a3 : Bool) : (romResult s a1 a2 a3).outer = s.outer := by unfold romResult; (try lift_lets); (repeat' (first | intro _ | (split <;> (try lift_lets)))) <;> simp +zetaDelta
@[simp] theorem outer_startEvent (s : State) (a1 : StartEvent) : (startEvent s a1).outer = s.outer := by unfold startEvent; (try lift_lets); (repeat' (first | intro _ | (split <;> (try lift_lets)))) <;> simp +zetaDelta [State.outer_foldl]
@[simp] theorem outer_doStepLimit (s : State) : (doStepLimit s).outer = s.outer := by unfold doStepLimit; (try lift_lets); (repeat' (first | intro _ | (split <;> (try lift_lets)))) <;> simp +zetaDelta
@[simp] theorem outer_doResetN (s : State) (a1 : Nat) : (doResetN s a1).outer = s.outer := by unfold doResetN; (try lift_lets); (repeat' (first | intro _ | (split <;> (try lift_lets)))) <;> simp +zetaDelta
@[simp] theorem outer_doGrinderRun (s : State) (a1 : Nat) : (doGrinderRun s a1).2.outer = s.outer := by unfold doGrinderRun; (try lift_lets); (repeat' (first | intro _ | (split <;> (try lift_lets)))) <;> simp +zetaDelta
@[simp] theorem outer_marchClear (s : State) : (marchClear s).outer = s.outer := by unfold marchClear; (try lift_lets); (repeat' (first | intro _ | (split <;> (try lift_lets)))) <;> simp +zetaDelta
@[simp] theorem outer_marchFail (s : State) (a1 : MarchFail) : (marchFail s a1).outer = s.outer := by unfold marchFail; (try lift_lets); (repeat' (first | intro _ | (split <;> (try lift_lets)))) <;> simp +zetaDelta
@[simp] theorem outer_doGrinderDone (s : State) (a1 : List MarchFail) : (doGrinderDone s a1).outer = s.outer := by unfold doGrinderDone; (try lift_lets); (repeat' (first | intro _ | (split <;> (try lift_lets)) | (refine State.outer_foldl _ _ _ ?_) | (refine (State.outer_foldl _ _ _ ?_).trans ?_) | (refine outer_overNats _ _ _ ?_) | (refine (outer_overNats _ _ _ ?_).trans ?_))) <;> simp +zetaDelta
end Sys2Proof.Machine
end

