-- ==== Sys2Proof/Laws/QueuePunel.lean ====
section
/-! SUPPORT. No operation of Punel.lean touches the queue. -/
set_option linter.unusedTactic false
set_option linter.unreachableTactic false
namespace Sys2Proof.Machine
@[simp] theorem outer_dropSnaps (s : State) : (dropSnaps s).outer = s.outer := by unfold dropSnaps; rfl
@[simp] theorem outer_dropStaged (s : State) : (dropStaged s).outer = s.outer := by unfold dropStaged; rfl
@[simp] theorem outer_dropReplies (s : State) : (dropReplies s).outer = s.outer := by unfold dropReplies; rfl
@[simp] theorem outer_admitClient (s : State) (a1 : ClientId) : (admitClient s a1).2.outer = s.outer := by unfold admitClient; (try lift_lets); (repeat' (first | intro _ | (split <;> (try lift_lets)))) <;> simp +zetaDelta
@[simp] theorem outer_dropSnap (s : State) (a1 : ClientId) (a2 : Machine.PunelReq) : (dropSnap s a1 a2).outer = s.outer := by unfold dropSnap; rfl
@[simp] theorem outer_dropStage (s : State) (a1 : ClientId) (a2 : Machine.PunelReq) : (dropStage s a1 a2).outer = s.outer := by unfold dropStage; rfl
@[simp] theorem outer_readObject (s : State) (a1 : Machine.Client) (a2 : Machine.DictEntry) (a3 : Machine.PunelReq) : (readObject s a1 a2 a3).2.outer = s.outer := by unfold readObject; (try lift_lets); (repeat' (first | intro _ | (split <;> (try lift_lets)))) <;> simp +zetaDelta
@[simp] theorem outer_keepOld (s : State) (a1 : Nat) (a2 : Bool) : (keepOld s a1 a2).outer = s.outer := by unfold keepOld; (try lift_lets); (repeat' (first | intro _ | (split <;> (try lift_lets)))) <;> simp +zetaDelta
@[simp] theorem outer_mirrorValue (s : State) (a1 : Nat) (a2 : List Byte) : (mirrorValue s a1 a2).outer = s.outer := by unfold mirrorValue; (try lift_lets); (repeat' (first | intro _ | (split <;> (try lift_lets)) | (refine State.outer_foldl _ _ _ ?_) | (refine (State.outer_foldl _ _ _ ?_).trans ?_) | (refine outer_overNats _ _ _ ?_) | (refine (outer_overNats _ _ _ ?_).trans ?_))) <;> simp +zetaDelta
@[simp] theorem outer_writeRwp (s : State) (a1 : Nat) (a2 : Machine.DictEntry) (a3 : List Byte) : (writeRwp s a1 a2 a3).state.outer = s.outer := by unfold writeRwp; (try lift_lets); (repeat' (first | intro _ | (split <;> (try lift_lets)) | (refine State.outer_foldl _ _ _ ?_) | (refine (State.outer_foldl _ _ _ ?_).trans ?_) | (refine outer_overNats _ _ _ ?_) | (refine (outer_overNats _ _ _ ?_).trans ?_))) <;> simp +zetaDelta
@[simp] theorem outer_writeRw (s : State) (a1 : Nat) (a2 : List Byte) : (writeRw s a1 a2).state.outer = s.outer := by unfold writeRw; (try lift_lets); (repeat' (first | intro _ | (split <;> (try lift_lets)))) <;> simp +zetaDelta
@[simp] theorem outer_ownRecord (s : State) (a1 : Nat) (a2 : Bool × State) (h2 : a2.2.outer = s.outer) : (ownRecord s a1 a2).state.outer = s.outer := by unfold ownRecord; (try lift_lets); (repeat' (first | intro _ | (split <;> (try lift_lets)) | (refine State.outer_foldl _ _ _ ?_) | (refine (State.outer_foldl _ _ _ ?_).trans ?_) | (refine outer_overNats _ _ _ ?_) | (refine (outer_overNats _ _ _ ?_).trans ?_))) <;> simp +zetaDelta [*]
@[simp] theorem outer_clearAtStart (s : State) (a1 : Nat) : (clearAtStart s a1).outer = s.outer := by unfold clearAtStart; (try lift_lets); (repeat' (first | intro _ | (split <;> (try lift_lets)))) <;> simp +zetaDelta
@[simp] theorem outer_writeWo (s : State) (a1 : ClientId) (a2 : Nat) (a3 : List Byte) : (writeWo s a1 a2 a3).state.outer = s.outer := by
  have hr : ∀ r : Bool × State, (ownRule r).state = r.2 := fun _ => rfl
  unfold writeWo; split <;> simp [hr]
@[simp] theorem outer_writeTable (s : State) (a1 : Nat) (a2 : List Byte) : (writeTable s a1 a2).2.outer = s.outer := by unfold writeTable; (try lift_lets); (repeat' (first | intro _ | (split <;> (try lift_lets)))) <;> simp +zetaDelta
theorem outer_ite_write {c : Prop} [Decidable c] {a b : WriteOut} {q : List Instr} (ha : a.state.outer = q) (hb : b.state.outer = q) :
    (if c then a else b).state.outer = q := by split <;> assumption
@[simp] theorem outer_writeValue (s : State) (a1 : ClientId) (a2 : Machine.DictEntry) (a3 : Nat) (a4 : List Byte) : (writeValue s a1 a2 a3 a4).state.outer = s.outer := by
  unfold writeValue
  iterate 6 refine outer_ite_write rfl ?_
  iterate 4 refine outer_ite_write (by simp) ?_
  refine outer_ite_write ?_ (by simp)
  dsimp only; split <;> simp
@[simp] theorem outer_writeImage (s : State) (a1 : ClientId) (a2 : Machine.PunelReq) : (writeImage s a1 a2).state.outer = s.outer := by unfold writeImage; (try lift_lets); (repeat' (first | intro _ | (split <;> (try lift_lets)))) <;> simp +zetaDelta
@[simp] theorem outer_writeObject (s : State) (a1 : ClientId) (a2 : Machine.DictEntry) (a3 : Machine.PunelReq) : (writeObject s a1 a2 a3).state.outer = s.outer := by unfold writeObject; (try lift_lets); (repeat' (first | intro _ | (split <;> (try lift_lets)))) <;> simp +zetaDelta
@[simp] theorem outer_abortObject (s : State) (a1 : ClientId) (a2 : Machine.PunelReq) : (abortObject s a1 a2).outer = s.outer := by unfold abortObject; (try lift_lets); (repeat' (first | intro _ | (split <;> (try lift_lets)))) <;> simp +zetaDelta
@[simp] theorem outer_handle (s : State) (a1 : ClientId) (a2 : Bool) (a3 : Machine.PunelReq) : (handle s a1 a2 a3).2.outer = s.outer := by unfold handle; (try lift_lets); (repeat' (first | intro _ | (split <;> (try lift_lets)))) <;> simp +zetaDelta
@[simp] theorem outer_respond (s : State) (a1 : ClientId) (a2 : Machine.PunelReq) (a3 : Machine.Answer) : (respond s a1 a2 a3).outer = s.outer := by unfold respond; (try lift_lets); (repeat' (first | intro _ | (split <;> (try lift_lets)))) <;> simp +zetaDelta
@[simp] theorem outer_takeRequest (s : State) (a1 : ClientId) (a2 : List Byte) : (takeRequest s a1 a2).outer = s.outer := by unfold takeRequest; (try lift_lets); (repeat' (first | intro _ | (split <;> (try lift_lets)))) <;> simp +zetaDelta
@[simp] theorem outer_rateFull (s : State) : (rateFull s).2.outer = s.outer := by unfold rateFull; (try lift_lets); (repeat' (first | intro _ | (split <;> (try lift_lets)))) <;> simp +zetaDelta
@[simp] theorem outer_doPunel (s : State) (a1 : ClientId) (a2 : Bool) (a3 : Bool) (a4 : List Byte) : (doPunel s a1 a2 a3 a4).outer = s.outer := by
  have h : (dropReplies (dropStaged (dropSnaps s))).outer = s.outer := by simp
  unfold doPunel
  rw [← h]
  generalize dropReplies (dropStaged (dropSnaps s)) = u
  dsimp only
  split
  · rfl
  · split
    · cases a1 <;> simp
    · split
      · simp
      · split <;> simp
@[simp] theorem outer_unitIn (s : State) (a1 : ClientId) (a2 : Bool) (a3 : UnitFrame) (a4 : List Byte) : (unitIn s a1 a2 a3 a4).outer = s.outer := by unfold unitIn; (try lift_lets); (repeat' (first | intro _ | (split <;> (try lift_lets)))) <;> simp +zetaDelta
@[simp] theorem outer_doBeacon (s : State) : (doBeacon s).outer = s.outer := by unfold doBeacon; (try lift_lets); (repeat' (first | intro _ | (split <;> (try lift_lets)))) <;> simp +zetaDelta
@[simp] theorem outer_doBeaconLoss (s : State) : (doBeaconLoss s).outer = s.outer := by unfold doBeaconLoss <;> (try lift_lets); (repeat' (first | intro _ | (split <;> (try lift_lets)) | (refine State.outer_foldl _ _ _ ?_) | (refine (State.outer_foldl _ _ _ ?_).trans ?_) | (refine outer_overNats _ _ _ ?_) | (refine (outer_overNats _ _ _ ?_).trans ?_))) <;> (try simp +zetaDelta) <;> (repeat' split) <;> (try simp +zetaDelta)
@[simp] theorem outer_doFieldCollision (s : State) : (doFieldCollision s).outer = s.outer := by unfold doFieldCollision; (try lift_lets); (repeat' (first | intro _ | (split <;> (try lift_lets)))) <;> simp +zetaDelta
end Sys2Proof.Machine
end

