-- ==== Sys2Proof/Laws/QueueHostSlots.lean ====
section
/-! SUPPORT. No operation of HostSlots.lean touches the queue. -/
set_option linter.unusedTactic false
set_option linter.unreachableTactic false
namespace Sys2Proof.Machine
@[simp] theorem outer_takeHostUnit (s : State) (a1 : Nat) (a2 : Nat) (a3 : FabPacket) : (takeHostUnit s a1 a2 a3).outer = s.outer := by unfold takeHostUnit; (try lift_lets); (repeat' (first | intro _ | (split <;> (try lift_lets)))) <;> simp +zetaDelta
@[simp] theorem outer_drainHost (s : State) : (drainHost s).outer = s.outer := by unfold drainHost; (try lift_lets); (repeat' (first | intro _ | (split <;> (try lift_lets)) | (refine State.outer_foldl _ _ _ ?_) | (refine (State.outer_foldl _ _ _ ?_).trans ?_) | (refine outer_overNats _ _ _ ?_) | (refine (outer_overNats _ _ _ ?_).trans ?_))) <;> simp +zetaDelta
@[simp] theorem outer_takeDict (s : State) (a1 : Nat) (a2 : Nat) (a3 : List Flit) : (takeDict s a1 a2 a3).outer = s.outer := by unfold takeDict; (try lift_lets); (repeat' (first | intro _ | (split <;> (try lift_lets)))) <;> simp +zetaDelta
@[simp] theorem outer_drainDictAt (s : State) (a1 : Nat) : (drainDictAt s a1).outer = s.outer := by unfold drainDictAt; (try lift_lets); (repeat' (first | intro _ | (split <;> (try lift_lets)) | (refine State.outer_foldl _ _ _ ?_) | (refine (State.outer_foldl _ _ _ ?_).trans ?_) | (refine outer_overNats _ _ _ ?_) | (refine (outer_overNats _ _ _ ?_).trans ?_))) <;> simp +zetaDelta
@[simp] theorem outer_drainSlots (s : State) : (drainSlots s).outer = s.outer := by unfold drainSlots; (try lift_lets); (repeat' (first | intro _ | (split <;> (try lift_lets)))) <;> simp +zetaDelta
end Sys2Proof.Machine
end

