-- ==== Sys2Proof/Laws/QueueFrame.lean ====
section
/-! SUPPORT. No operation of Frame.lean touches the queue. -/
set_option linter.unusedTactic false
set_option linter.unreachableTactic false
namespace Sys2Proof.Machine
@[simp] theorem outer_logClock (s : State) : (logClock s).outer = s.outer := by unfold logClock; (try lift_lets); (repeat' (first | intro _ | (split <;> (try lift_lets)))) <;> simp +zetaDelta
@[simp] theorem outer_clockWork (s : State) : (clockWork s).outer = s.outer := by unfold clockWork; (try lift_lets); (repeat' (first | intro _ | (split <;> (try lift_lets)))) <;> simp +zetaDelta
@[simp] theorem outer_toBoundary (s : State) : (toBoundary s).outer = s.outer := by simp [toBoundary]
@[simp] theorem outer_portsFail (s : State) (a1 : List Nat) : (portsFail s a1).outer = s.outer := by unfold portsFail; (try lift_lets); (repeat' (first | intro _ | (split <;> (try lift_lets)) | (refine State.outer_foldl _ _ _ ?_) | (refine (State.outer_foldl _ _ _ ?_).trans ?_) | (refine outer_overNats _ _ _ ?_) | (refine (outer_overNats _ _ _ ?_).trans ?_))) <;> simp +zetaDelta
@[simp] theorem outer_applyChange (s : State) (a1 : Machine.Change) : (applyChange s a1).outer = s.outer := by unfold applyChange; (try lift_lets); (repeat' (first | intro _ | (split <;> (try lift_lets)))) <;> simp +zetaDelta
@[simp] theorem outer_doMarker (s : State) (a1 : Nat) (a2 : ℤ) : (doMarker s a1 a2).outer = s.outer := by unfold doMarker; (try lift_lets); (repeat' (first | intro _ | (split <;> (try lift_lets)))) <;> simp +zetaDelta
@[simp] theorem outer_sendTime (s : State) : (sendTime s).outer = s.outer := by unfold sendTime; (try lift_lets); (repeat' (first | intro _ | (split <;> (try lift_lets)))) <;> simp +zetaDelta
@[simp] theorem outer_newFrame (s : State) : (newFrame s).outer = s.outer := by unfold newFrame; (try lift_lets); (repeat' (first | intro _ | (split <;> (try lift_lets)))) <;> simp +zetaDelta [State.outer_foldl]
@[simp] theorem outer_fenceShadows (s : State) (a1 : Machine.Change) : (fenceShadows s a1).outer = s.outer := by unfold fenceShadows; (try lift_lets); (repeat' (first | intro _ | (split <;> (try lift_lets)))) <;> simp +zetaDelta
@[simp] theorem outer_doFrame (s : State) : (doFrame s).outer = s.outer := by unfold doFrame; (try lift_lets); (repeat' (first | intro _ | (split <;> (try lift_lets)))) <;> simp +zetaDelta [State.outer_foldl]
end Sys2Proof.Machine
end

