-- ==== Sys2Proof/Laws/QueueCsr.lean ====
section
/-! SUPPORT. No operation of Csr.lean touches the queue. -/
set_option linter.unusedTactic false
set_option linter.unreachableTactic false
namespace Sys2Proof.Machine
@[simp] theorem outer_customWrite (s : State) (a1 : Nat) (a2 : Nat) (a3 : Word) : (customWrite s a1 a2 a3).outer = s.outer := by unfold customWrite; (try lift_lets); (repeat' (first | intro _ | (split <;> (try lift_lets)))) <;> simp +zetaDelta
end Sys2Proof.Machine
end

