-- ==== Sys2Proof/Laws/QueueRvState.lean ====
section
/-! SUPPORT. No operation of RvState.lean touches the queue. -/
set_option linter.unusedTactic false
set_option linter.unreachableTactic false
namespace Sys2Proof.Machine
@[simp] theorem outer_updCore (s : State) (a1 : Nat) (a2 : Machine.CoreSt → Machine.CoreSt) : (updCore s a1 a2).outer = s.outer := by unfold updCore; rfl
@[simp] theorem outer_setXs (s : State) (a1 : Nat) (a2 : Nat) (a3 : Word) : (setXs s a1 a2 a3).outer = s.outer := by unfold setXs; rfl
@[simp] theorem outer_setFs (s : State) (a1 : Nat) (a2 : Nat) (a3 : Word) : (setFs s a1 a2 a3).outer = s.outer := by unfold setFs; rfl
@[simp] theorem outer_setCycle (s : State) (a1 : Nat) (a2 : Word) : (setCycle s a1 a2).outer = s.outer := by unfold setCycle; rfl
@[simp] theorem outer_setInhibit (s : State) (a1 : Nat) (a2 : Word) : (setInhibit s a1 a2).outer = s.outer := by unfold setInhibit; rfl
@[simp] theorem outer_csrWrite (s : State) (a1 : Nat) (a2 : Nat) (a3 : Word) : (csrWrite s a1 a2 a3).outer = s.outer := by unfold csrWrite; (try lift_lets); (repeat' (first | intro _ | (split <;> (try lift_lets)))) <;> simp +zetaDelta
@[simp] theorem outer_flushCache (s : State) (a1 : Nat) : (flushCache s a1).outer = s.outer := by unfold flushCache; rfl
@[simp] theorem outer_coreLoad (s : State) (a1 : Nat) (a2 : Nat) (a3 : Nat) : (coreLoad s a1 a2 a3).1.outer = s.outer := by unfold coreLoad; (try lift_lets); (repeat' (first | intro _ | (split <;> (try lift_lets)))) <;> simp +zetaDelta
@[simp] theorem outer_coreStore (s : State) (a1 : Nat) (a2 : Nat) (a3 : List Byte) : (coreStore s a1 a2 a3).outer = s.outer := by unfold coreStore; (try lift_lets); (repeat' (first | intro _ | (split <;> (try lift_lets)))) <;> simp +zetaDelta
end Sys2Proof.Machine
end

