-- ==== Sys2Proof/Laws/QueueVecMem.lean ====
section
/-! SUPPORT. No operation of VecMem.lean touches the queue. -/
set_option linter.unusedTactic false
set_option linter.unreachableTactic false
namespace Sys2Proof.Machine
@[simp] theorem outer_updVec (s : State) (a1 : Nat) (a2 : Machine.VecSt → Machine.VecSt) : (updVec s a1 a2).outer = s.outer := by unfold updVec; rfl
@[simp] theorem outer_vecReadEffects (s : State) (a1 : Nat) (a2 : List Nat) (a3 : Nat) : (vecReadEffects s a1 a2 a3).outer = s.outer := by simp only [vecReadEffects] <;> (repeat' (first | split | (refine State.outer_foldl _ _ _ ?_; intro _ _) | (refine (State.outer_foldl _ _ _ ?_).trans ?_) | rfl)) <;> (try simp) <;> (repeat' (first | split | (refine (State.outer_foldl _ _ _ ?_).trans ?_) | intro _ )) <;> (try simp)
@[simp] theorem outer_putVOut (s : State) (a1 : Nat) (a2 : Nat) (a3 : Bool) (a4 : Machine.VOut) : (putVOut s a1 a2 a3 a4).outer = s.outer := by unfold putVOut <;> (try lift_lets); (repeat' (first | intro _ | (split <;> (try lift_lets)) | (refine State.outer_foldl _ _ _ ?_) | (refine (State.outer_foldl _ _ _ ?_).trans ?_) | (refine outer_overNats _ _ _ ?_) | (refine (outer_overNats _ _ _ ?_).trans ?_))) <;> (try simp +zetaDelta) <;> (repeat' split) <;> (try simp +zetaDelta)
end Sys2Proof.Machine
end

