-- ==== Sys2Proof/Laws/QueueRiscv.lean ====
section
/-! SUPPORT. No operation of Riscv.lean touches the queue. -/
set_option linter.unusedTactic false
set_option linter.unreachableTactic false
namespace Sys2Proof.Machine
@[simp] theorem outer_retire (s : State) (a1 : Nat) (a2 : Nat) (a3 : Bool) (a4 : Word) : (retire s a1 a2 a3 a4).outer = s.outer := by unfold retire; rfl
@[simp] theorem outer_fetchLine (s : State) (a1 : Nat) (a2 : Nat) (a3 : Nat) : (fetchLine s a1 a2 a3).outer = s.outer := by unfold fetchLine; (try lift_lets); (repeat' (first | intro _ | (split <;> (try lift_lets)))) <;> simp +zetaDelta
@[simp] theorem outer_fetchEffects (s : State) (a1 : Nat) (a2 : Nat) : (fetchEffects s a1 a2).outer = s.outer := by unfold fetchEffects; (try lift_lets); (repeat' (first | intro _ | (split <;> (try lift_lets)))) <;> simp +zetaDelta
/-- An outcome of a core instruction leaves the queue `q` alone. -/
def RvOut.keeps (q : List Instr) : RvOut → Prop
  | .ok s _ => s.outer = q
  | .trap s _ _ => s.outer = q
  | .stall => True
@[simp] theorem RvOut.keeps_ok (q : List Instr) (s : State) (pc : Word) : (RvOut.ok s pc).keeps q ↔ s.outer = q := Iff.rfl
@[simp] theorem RvOut.keeps_trap (q : List Instr) (s : State) (c : Nat) (t : Word) : (RvOut.trap s c t).keeps q ↔ s.outer = q := Iff.rfl
@[simp] theorem RvOut.keeps_stall (q : List Instr) : (RvOut.stall).keeps q := trivial
@[simp] theorem RvOut.keeps_ite (q : List Instr) (c : Prop) [Decidable c] (a b : RvOut) : (if c then a else b).keeps q ↔ if c then a.keeps q else b.keeps q := by split <;> rfl
@[simp] theorem keeps_execAmo (s : State) (k w : Nat) (next : Word) : (execAmo s k w next).keeps s.outer := by
  unfold execAmo; (try lift_lets); (repeat' (first | intro _ | (split <;> (try lift_lets)))) <;> (try simp +zetaDelta) <;> (repeat' split) <;> (try simp +zetaDelta)
@[simp] theorem keeps_execZicsr (s : State) (k w : Nat) (next : Word) : (execZicsr s k w next).keeps s.outer := by
  unfold execZicsr; (try lift_lets); (repeat' (first | intro _ | (split <;> (try lift_lets)))) <;> (try simp +zetaDelta) <;> (repeat' split) <;> (try simp +zetaDelta)
@[simp] theorem keeps_execSystem (s : State) (k w : Nat) (pc next : Word) : (execSystem s k w pc next).keeps s.outer := by
  unfold execSystem; (try lift_lets); (repeat' (first | intro _ | (split <;> (try lift_lets)))) <;> (try simp +zetaDelta) <;> (repeat' split) <;> (try simp +zetaDelta)
@[simp] theorem keeps_execLoad (s : State) (k w : Nat) (next : Word) : (execLoad s k w next).keeps s.outer := by
  unfold execLoad; (try lift_lets); (repeat' (first | intro _ | (split <;> (try lift_lets)))) <;> (try simp +zetaDelta) <;> (repeat' split) <;> (try simp +zetaDelta)
@[simp] theorem keeps_execStoreI (s : State) (k w : Nat) (next : Word) : (execStoreI s k w next).keeps s.outer := by
  unfold execStoreI; (try lift_lets); (repeat' (first | intro _ | (split <;> (try lift_lets)))) <;> (try simp +zetaDelta) <;> (repeat' split) <;> (try simp +zetaDelta)
@[simp] theorem keeps_retX (s : State) (k w : Nat) (next : Word) (r : Option Word) : (retX s k w next r).keeps s.outer := by
  unfold retX; (try lift_lets); (repeat' (first | intro _ | (split <;> (try lift_lets)))) <;> (try simp +zetaDelta) <;> (repeat' split) <;> (try simp +zetaDelta)
@[simp] theorem keeps_execInt (s : State) (k w : Nat) (pc next : Word) : (execInt s k w pc next).keeps s.outer := by
  unfold execInt; (try lift_lets); (repeat' (first | intro _ | (split <;> (try lift_lets)))) <;> (try simp +zetaDelta) <;> (repeat' split) <;> (try simp +zetaDelta)
@[simp] theorem keeps_retF (s : State) (k w : Nat) (next : Word) (f : Fmt) (r : FOut) : (retF s k w next f r).keeps s.outer := by
  unfold retF; (try lift_lets); (repeat' (first | intro _ | (split <;> (try lift_lets)))) <;> (try simp +zetaDelta) <;> (repeat' split) <;> (try simp +zetaDelta)
@[simp] theorem keeps_retFx (s : State) (k w : Nat) (next : Word) (v : Word) (flags : Nat) : (retFx s k w next v flags).keeps s.outer := by
  unfold retFx; (try lift_lets); (repeat' (first | intro _ | (split <;> (try lift_lets)))) <;> (try simp +zetaDelta) <;> (repeat' split) <;> (try simp +zetaDelta)
@[simp] theorem keeps_illegal (s : State) (w : Nat) : (illegal s w).keeps s.outer := by
  unfold illegal; (try lift_lets); (repeat' (first | intro _ | (split <;> (try lift_lets)))) <;> (try simp +zetaDelta) <;> (repeat' split) <;> (try simp +zetaDelta)
@[simp] theorem keeps_execFload (s : State) (k w : Nat) (next : Word) : (execFload s k w next).keeps s.outer := by
  unfold execFload; (try lift_lets); (repeat' (first | intro _ | (split <;> (try lift_lets)))) <;> (try simp +zetaDelta) <;> (repeat' split) <;> (try simp +zetaDelta)
@[simp] theorem keeps_execFstore (s : State) (k w : Nat) (next : Word) : (execFstore s k w next).keeps s.outer := by
  unfold execFstore; (try lift_lets); (repeat' (first | intro _ | (split <;> (try lift_lets)))) <;> (try simp +zetaDelta) <;> (repeat' split) <;> (try simp +zetaDelta)
@[simp] theorem keeps_execFmaOp (s : State) (k w : Nat) (next : Word) : (execFmaOp s k w next).keeps s.outer := by
  unfold execFmaOp; (try lift_lets); (repeat' (first | intro _ | (split <;> (try lift_lets)))) <;> (try simp +zetaDelta) <;> (repeat' split) <;> (try simp +zetaDelta)
@[simp] theorem keeps_execFcvt (s : State) (k w : Nat) (next : Word) (f : Fmt) : (execFcvt s k w next f).keeps s.outer := by
  unfold execFcvt; (try lift_lets); (repeat' (first | intro _ | (split <;> (try lift_lets)))) <;> (try simp +zetaDelta) <;> (repeat' split) <;> (try simp +zetaDelta)
@[simp] theorem keeps_execFpOp (s : State) (k w : Nat) (next : Word) : (execFpOp s k w next).keeps s.outer := by
  unfold execFpOp; (try lift_lets); (repeat' (first | intro _ | (split <;> (try lift_lets)))) <;> (try simp +zetaDelta) <;> (repeat' split) <;> (try simp +zetaDelta)
@[simp] theorem keeps_execFloat (s : State) (k w : Nat) (next : Word) : (execFloat s k w next).keeps s.outer := by
  unfold execFloat; (try lift_lets); (repeat' (first | intro _ | (split <;> (try lift_lets)))) <;> (try simp +zetaDelta) <;> (repeat' split) <;> (try simp +zetaDelta)
@[simp] theorem keeps_execScalar (s : State) (k w : Nat) (pc next : Word) : (execScalar s k w pc next).keeps s.outer := by
  unfold execScalar; (try lift_lets); (repeat' (first | intro _ | (split <;> (try lift_lets)))) <;> (try simp +zetaDelta) <;> (repeat' split) <;> (try simp +zetaDelta)
@[simp] theorem keeps_execVset (s : State) (k w : Nat) (next : Word) : (execVset s k w next).keeps s.outer := by
  unfold execVset; (try lift_lets); (repeat' (first | intro _ | (split <;> (try lift_lets)))) <;> (try simp +zetaDelta) <;> (repeat' split) <;> (try simp +zetaDelta)
@[simp] theorem keeps_vLoad (s : State) (k : Nat) (g : VCfg) (m : VMem) (vd : Nat) (addr : Nat → Nat → Nat) (next : Word) : (vLoad s k g m vd addr next).keeps s.outer := by
  unfold vLoad; (try lift_lets); (repeat' (first | intro _ | (split <;> (try lift_lets)))) <;> (try simp +zetaDelta) <;> (repeat' split) <;> (try simp +zetaDelta)
@[simp] theorem keeps_vStore (s : State) (k : Nat) (g : VCfg) (m : VMem) (vs3 : Nat) (addr : Nat → Nat → Nat) (next : Word) : (vStore s k g m vs3 addr next).keeps s.outer := by
  unfold vStore; (try lift_lets); (repeat' (first | intro _ | (split <;> (try lift_lets)))) <;> (try simp +zetaDelta [State.outer_foldl]) <;> (repeat' split) <;> (try simp +zetaDelta [State.outer_foldl])
@[simp] theorem keeps_execVmem (s : State) (k : Nat) (g : VCfg) (legal : Bool) (w : Nat) (next : Word) : (execVmem s k g legal w next).keeps s.outer := by
  unfold execVmem; (try lift_lets); (repeat' (first | intro _ | (split <;> (try lift_lets)))) <;> (try simp +zetaDelta) <;> (repeat' split) <;> (try simp +zetaDelta)
@[simp] theorem keeps_retV (s : State) (k w : Nat) (float : Bool) (next : Word) (o : Option VOut) : (retV s k w float next o).keeps s.outer := by
  unfold retV; (try lift_lets); (repeat' (first | intro _ | (split <;> (try lift_lets)))) <;> (try simp +zetaDelta) <;> (repeat' split) <;> (try simp +zetaDelta)
@[simp] theorem keeps_execVector (s : State) (k w : Nat) (next : Word) : (execVector s k w next).keeps s.outer := by
  unfold execVector; (try lift_lets); (repeat' (first | intro _ | (split <;> (try lift_lets)))) <;> (try simp +zetaDelta) <;> (repeat' split) <;> (try simp +zetaDelta)
theorem outer_settle (s0 : State) (k w raw : Nat) (inh : Bool) (r : RvOut) (h : r.keeps s0.outer) : (settle s0 k w raw inh r).outer = s0.outer := by
  cases r <;> simp_all [settle]

@[simp] theorem outer_runInstr (s : State) (a1 : Nat) (a2 : Bool) : (runInstr s a1 a2).outer = s.outer := by
  have h1 := fun n w nx => keeps_execVector (fetchEffects s a1 n) a1 w nx
  have h2 := fun n w pc nx => keeps_execScalar (fetchEffects s a1 n) a1 w pc nx
  simp only [outer_fetchEffects] at h1 h2
  simp only [runInstr]
  repeat' split
  all_goals first
    | rfl
    | (refine outer_settle _ _ _ _ _ _ ?_; first | rfl | exact outer_fetchEffects _ _ _ | exact h1 _ _ _ | exact h2 _ _ _ _ | (split <;> first | exact h1 _ _ _ | exact h2 _ _ _ _))
@[simp] theorem outer_stepCore (s : State) (a1 : Nat) (a2 : Bool) : (stepCore s a1 a2).outer = s.outer := by unfold stepCore; (try lift_lets); (repeat' (first | intro _ | (split <;> (try lift_lets)))) <;> simp +zetaDelta
end Sys2Proof.Machine
end

