-- ==== Sys2Proof/Laws/Table.lean ====
section
/-! SUPPORT. Laws of sparse tables: read after write at the same and at another key, and the canonical form kept. -/
namespace Sys2Proof.Machine

variable {α : Type}

@[simp] theorem tfind_nil (k : Nat) : tfind ([] : Tbl α) k = none := rfl

theorem tfind_tdel_same (t : Tbl α) (k : Nat) : tfind (tdel t k) k = none := by
  induction t with
  | nil => rfl
  | cons e t ih => obtain ⟨j, v⟩ := e; simp only [tdel]; split <;> simp_all [tfind]

theorem tfind_tdel_ne (t : Tbl α) {j k : Nat} (h : j ≠ k) : tfind (tdel t k) j = tfind t j := by
  induction t with
  | nil => rfl
  | cons e t ih => obtain ⟨i, v⟩ := e; simp only [tdel, tfind]; split <;> simp_all [tfind]; omega

theorem tfind_tins_same (t : Tbl α) (k : Nat) (v : α) (h : tfind t k = none) : tfind (tins t k v) k = some v := by
  induction t with
  | nil => simp [tins, tfind]
  | cons e t ih =>
    obtain ⟨i, w⟩ := e
    simp only [tfind] at h
    split at h
    · cases h
    · simp only [tins]; split <;> simp_all [tfind]

theorem tfind_tins_ne (t : Tbl α) {j k : Nat} (v : α) (h : j ≠ k) : tfind (tins t k v) j = tfind t j := by
  induction t with
  | nil => simp [tins, tfind, h.symm]
  | cons e t ih => obtain ⟨i, w⟩ := e; simp only [tins]; split <;> simp_all [tfind, h.symm]

@[simp] theorem tfind_tput_same (t : Tbl α) (k : Nat) (v : α) : tfind (tput t k v) k = some v :=
  tfind_tins_same _ _ _ (tfind_tdel_same t k)

theorem tfind_tput_ne (t : Tbl α) {j k : Nat} (v : α) (h : j ≠ k) : tfind (tput t k v) j = tfind t j := by
  rw [tput, tfind_tins_ne _ _ h, tfind_tdel_ne _ h]

@[simp] theorem tget_tset_same [DecidableEq α] (d : Nat → α) (t : Tbl α) (k : Nat) (v : α) : tget d (tset d t k v) k = v := by
  unfold tget tset; split
  · simp [tfind_tdel_same, *]
  · simp

theorem tget_tset_ne [DecidableEq α] (d : Nat → α) (t : Tbl α) {j k : Nat} (v : α) (h : j ≠ k) :
    tget d (tset d t k v) j = tget d t j := by
  unfold tget tset; split
  · rw [tfind_tdel_ne _ h]
  · rw [tfind_tput_ne _ _ h]

theorem tget_tset [DecidableEq α] (d : Nat → α) (t : Tbl α) (j k : Nat) (v : α) :
    tget d (tset d t k v) j = if j = k then v else tget d t j := by
  split
  · subst_vars; simp
  · exact tget_tset_ne d t v (by assumption)

@[simp] theorem tget_nil (d : Nat → α) (k : Nat) : tget d [] k = d k := rfl

/-- Every key of a table exceeds `b`. -/
def tabove (b : Nat) (t : Tbl α) : Bool := t.all (fun e => decide (b < e.1))

theorem tsorted_cons (j : Nat) (v : α) (t : Tbl α) : tsorted ((j, v) :: t) = true ↔ tabove j t = true ∧ tsorted t = true := by
  induction t generalizing j v with
  | nil => simp [tsorted, tabove]
  | cons e t ih =>
    obtain ⟨k, w⟩ := e
    simp only [tsorted, tabove, List.all_cons, Bool.and_eq_true, decide_eq_true_eq]
    constructor
    · rintro ⟨h, hs⟩
      refine ⟨⟨h, ?_⟩, hs⟩
      have := ((ih k w).1 hs).1
      simp only [tabove, List.all_eq_true, decide_eq_true_eq] at this ⊢
      intro x hx; have := this x hx; omega
    · rintro ⟨⟨h, _⟩, hs⟩; exact ⟨h, hs⟩

theorem all_tdel (p : Nat × α → Bool) (t : Tbl α) (k : Nat) (h : t.all p = true) : (tdel t k).all p = true := by
  induction t with
  | nil => rfl
  | cons e t ih => obtain ⟨i, v⟩ := e; simp only [tdel]; split <;> simp_all

theorem all_tins (p : Nat × α → Bool) (t : Tbl α) (k : Nat) (v : α) (h : t.all p = true) (hv : p (k, v) = true) :
    (tins t k v).all p = true := by
  induction t with
  | nil => simpa [tins] using hv
  | cons e t ih => obtain ⟨i, w⟩ := e; simp only [tins]; split <;> simp_all

theorem tabove_tdel (b : Nat) (t : Tbl α) (k : Nat) (h : tabove b t = true) : tabove b (tdel t k) = true := all_tdel _ _ _ h

theorem tabove_tins (b : Nat) (t : Tbl α) (k : Nat) (v : α) (h : tabove b t = true) (hk : b < k) : tabove b (tins t k v) = true :=
  all_tins _ _ _ _ h (decide_eq_true hk)

theorem tsorted_tdel (t : Tbl α) (k : Nat) (h : tsorted t = true) : tsorted (tdel t k) = true := by
  induction t with
  | nil => rfl
  | cons e t ih =>
    obtain ⟨i, v⟩ := e
    obtain ⟨ha, hs⟩ := (tsorted_cons i v t).1 h
    simp only [tdel]; split
    · exact ih hs
    · exact (tsorted_cons _ _ _).2 ⟨tabove_tdel _ _ _ ha, ih hs⟩

theorem tsorted_tins (t : Tbl α) (k : Nat) (v : α) (h : tsorted t = true) (hk : tfind t k = none) : tsorted (tins t k v) = true := by
  induction t with
  | nil => rfl
  | cons e t ih =>
    obtain ⟨i, w⟩ := e
    obtain ⟨ha, hs⟩ := (tsorted_cons i w t).1 h
    simp only [tfind] at hk
    split at hk
    · cases hk
    rename_i hne
    simp only [tins]; split
    · rename_i hlt
      refine (tsorted_cons _ _ _).2 ⟨?_, h⟩
      simp only [tabove, List.all_cons, Bool.and_eq_true, decide_eq_true_eq, List.all_eq_true] at ha ⊢
      exact ⟨hlt, fun x hx => lt_trans hlt (ha x hx)⟩
    · rename_i hge
      exact (tsorted_cons _ _ _).2 ⟨tabove_tins _ _ _ _ ha (by omega), ih hs hk⟩

theorem tsorted_tput (t : Tbl α) (k : Nat) (v : α) (h : tsorted t = true) : tsorted (tput t k v) = true :=
  tsorted_tins _ _ _ (tsorted_tdel _ _ h) (tfind_tdel_same t k)

theorem all_tput (p : Nat × α → Bool) (t : Tbl α) (k : Nat) (v : α) (h : t.all p = true) (hv : p (k, v) = true) :
    (tput t k v).all p = true := all_tins _ _ _ _ (all_tdel _ _ _ h) hv

theorem all_tset [DecidableEq α] (p : Nat × α → Bool) (d : Nat → α) (t : Tbl α) (k : Nat) (v : α) (h : t.all p = true)
    (hv : p (k, v) = true) : (tset d t k v).all p = true := by
  unfold tset; split
  · exact all_tdel _ _ _ h
  · exact all_tput _ _ _ _ h hv

theorem all_tfind (p : Nat × α → Bool) (t : Tbl α) (k : Nat) (v : α) (h : t.all p = true) (hf : tfind t k = some v) : p (k, v) = true := by
  induction t with
  | nil => cases hf
  | cons e t ih =>
    obtain ⟨i, w⟩ := e
    simp only [List.all_cons, Bool.and_eq_true] at h
    simp only [tfind] at hf
    split at hf
    · subst_vars; cases hf; exact h.1
    · exact ih h.2 hf

theorem tsorted_tset [DecidableEq α] (d : Nat → α) (t : Tbl α) (k : Nat) (v : α) (h : tsorted t = true) : tsorted (tset d t k v) = true := by
  unfold tset; split
  · exact tsorted_tdel _ _ h
  · exact tsorted_tput _ _ _ h

/-- Writing a table keeps its canonical form. -/
theorem twf_tset [DecidableEq α] (d : Nat → α) (t : Tbl α) (k : Nat) (v : α) (h : twf d t = true) : twf d (tset d t k v) = true := by
  simp only [twf, Bool.and_eq_true] at h ⊢
  refine ⟨tsorted_tset _ _ _ _ h.1, ?_⟩
  unfold tset; split
  · exact all_tdel _ _ _ h.2
  · exact all_tput _ _ _ _ h.2 (by simpa using ‹_›)

theorem tdel_of_none (t : Tbl α) (k : Nat) (h : tfind t k = none) : tdel t k = t := by
  induction t with
  | nil => rfl
  | cons e t ih =>
    obtain ⟨i, v⟩ := e
    simp only [tfind] at h
    split at h
    · cases h
    · simp_all [tdel]

theorem tdel_tins (t : Tbl α) (k : Nat) (v : α) (h : tfind t k = none) : tdel (tins t k v) k = t := by
  induction t with
  | nil => simp [tins, tdel]
  | cons e t ih =>
    obtain ⟨i, w⟩ := e
    simp only [tfind] at h
    split at h
    · cases h
    · simp only [tins]; split
      · simp_all [tdel, tdel_of_none]
      · simp_all [tdel]

theorem tdel_tdel (t : Tbl α) (k : Nat) : tdel (tdel t k) k = tdel t k := tdel_of_none _ _ (tfind_tdel_same t k)
theorem tdel_tput (t : Tbl α) (k : Nat) (v : α) : tdel (tput t k v) k = tdel t k := tdel_tins _ _ _ (tfind_tdel_same t k)

/-- The last of two writes of a key is the one that shows. -/
@[simp] theorem tput_tput (t : Tbl α) (k : Nat) (v w : α) : tput (tput t k v) k w = tput t k w := by
  rw [tput, tdel_tput, tput]

@[simp] theorem tset_tset [DecidableEq α] (d : Nat → α) (t : Tbl α) (k : Nat) (v w : α) : tset d (tset d t k v) k w = tset d t k w := by
  unfold tset; by_cases h1 : v = d k <;> by_cases h2 : w = d k <;> simp only [h1, h2, if_true, if_false, tdel_tdel, tdel_tput, tput_tput] <;> rw [tput, tdel_tdel, ← tput]

end Sys2Proof.Machine
end

