-- ==== Sys2Proof/Laws/State.lean ====
section
/-! SUPPORT. Each shared update against each field of State: the field it writes reads back, every other field is as before. -/
namespace Sys2Proof.Machine
open Sys2Proof

@[simp] theorem emit_pending (s : State) o : (emit s o).pending = s.pending := rfl
@[simp] theorem emit_ticks (s : State) o : (emit s o).ticks = s.ticks := rfl
@[simp] theorem emit_now (s : State) o : (emit s o).now = s.now := rfl
@[simp] theorem emit_freeCtr (s : State) o : (emit s o).freeCtr = s.freeCtr := rfl
@[simp] theorem emit_dict (s : State) o : (emit s o).dict = s.dict := rfl
@[simp] theorem emit_blobs (s : State) o : (emit s o).blobs = s.blobs := rfl
@[simp] theorem emit_active (s : State) o : (emit s o).active = s.active := rfl
@[simp] theorem emit_role0 (s : State) o : (emit s o).role0 = s.role0 := rfl
@[simp] theorem emit_role1 (s : State) o : (emit s o).role1 = s.role1 := rfl
@[simp] theorem emit_bars (s : State) o : (emit s o).bars = s.bars := rfl
@[simp] theorem emit_roleEpoch (s : State) o : (emit s o).roleEpoch = s.roleEpoch := rfl
@[simp] theorem emit_named (s : State) o : (emit s o).named = s.named := rfl
@[simp] theorem emit_handback (s : State) o : (emit s o).handback = s.handback := rfl
@[simp] theorem emit_ctrlSeq (s : State) o : (emit s o).ctrlSeq = s.ctrlSeq := rfl
@[simp] theorem emit_srcSeq (s : State) o : (emit s o).srcSeq = s.srcSeq := rfl
@[simp] theorem emit_ctrlWin (s : State) o : (emit s o).ctrlWin = s.ctrlWin := rfl
@[simp] theorem emit_tiles (s : State) o : (emit s o).tiles = s.tiles := rfl
@[simp] theorem emit_dies (s : State) o : (emit s o).dies = s.dies := rfl
@[simp] theorem emit_infl (s : State) o : (emit s o).infl = s.infl := rfl
@[simp] theorem emit_sigFails (s : State) o : (emit s o).sigFails = s.sigFails := rfl
@[simp] theorem emit_sigReplay (s : State) o : (emit s o).sigReplay = s.sigReplay := rfl
@[simp] theorem emit_sigDown (s : State) o : (emit s o).sigDown = s.sigDown := rfl
@[simp] theorem emit_sigDark (s : State) o : (emit s o).sigDark = s.sigDark := rfl
@[simp] theorem emit_ports (s : State) o : (emit s o).ports = s.ports := rfl
@[simp] theorem emit_bts (s : State) o : (emit s o).bts = s.bts := rfl
@[simp] theorem emit_blend (s : State) o : (emit s o).blend = s.blend := rfl
@[simp] theorem emit_arbs (s : State) o : (emit s o).arbs = s.arbs := rfl
@[simp] theorem emit_boundary (s : State) o : (emit s o).boundary = s.boundary := rfl
@[simp] theorem emit_changes (s : State) o : (emit s o).changes = s.changes := rfl
@[simp] theorem emit_houseq (s : State) o : (emit s o).houseq = s.houseq := rfl
@[simp] theorem emit_houseIn (s : State) o : (emit s o).houseIn = s.houseIn := rfl
@[simp] theorem emit_slotNow (s : State) o : (emit s o).slotNow = s.slotNow := rfl
@[simp] theorem emit_slotAt (s : State) o : (emit s o).slotAt = s.slotAt := rfl
@[simp] theorem emit_fab (s : State) o : (emit s o).fab = s.fab := rfl
@[simp] theorem emit_light (s : State) o : (emit s o).light = s.light := rfl
@[simp] theorem emit_mt (s : State) o : (emit s o).mt = s.mt := rfl
@[simp] theorem emit_host (s : State) o : (emit s o).host = s.host := rfl
@[simp] theorem emit_dramStacks (s : State) o : (emit s o).dramStacks = s.dramStacks := rfl
@[simp] theorem emit_setsLost (s : State) o : (emit s o).setsLost = s.setsLost := rfl
@[simp] theorem emit_setBase (s : State) o : (emit s o).setBase = s.setBase := rfl
@[simp] theorem emit_flowKinds (s : State) o : (emit s o).flowKinds = s.flowKinds := rfl
@[simp] theorem emit_job (s : State) o : (emit s o).job = s.job := rfl
@[simp] theorem emit_lastRing (s : State) o : (emit s o).lastRing = s.lastRing := rfl
@[simp] theorem emit_codes (s : State) o : (emit s o).codes = s.codes := rfl
@[simp] theorem emit_faults (s : State) o : (emit s o).faults = s.faults := rfl
@[simp] theorem emit_journal (s : State) o : (emit s o).journal = s.journal := rfl
@[simp] theorem emit_carafe0 (s : State) o : (emit s o).carafe0 = s.carafe0 := rfl
@[simp] theorem emit_carafe1 (s : State) o : (emit s o).carafe1 = s.carafe1 := rfl
@[simp] theorem emit_mirror (s : State) o : (emit s o).mirror = s.mirror := rfl
@[simp] theorem emit_wear (s : State) o : (emit s o).wear = s.wear := rfl
@[simp] theorem emit_punel (s : State) o : (emit s o).punel = s.punel := rfl
@[simp] theorem emit_sec (s : State) o : (emit s o).sec = s.sec := rfl
@[simp] theorem emit_startup (s : State) o : (emit s o).startup = s.startup := rfl
@[simp] theorem emit_wakeClears (s : State) o : (emit s o).wakeClears = s.wakeClears := rfl
@[simp] theorem emit_domains (s : State) o : (emit s o).domains = s.domains := rfl
@[simp] theorem emit_pow (s : State) o : (emit s o).pow = s.pow := rfl
@[simp] theorem emit_therm (s : State) o : (emit s o).therm = s.therm := rfl
@[simp] theorem emit_coolant (s : State) o : (emit s o).coolant = s.coolant := rfl

@[simp] theorem deliver_pending (s : State) o : (deliver s o).pending = s.pending := rfl
@[simp] theorem deliver_ticks (s : State) o : (deliver s o).ticks = s.ticks := rfl
@[simp] theorem deliver_now (s : State) o : (deliver s o).now = s.now := rfl
@[simp] theorem deliver_freeCtr (s : State) o : (deliver s o).freeCtr = s.freeCtr := rfl
@[simp] theorem deliver_dict (s : State) o : (deliver s o).dict = s.dict := rfl
@[simp] theorem deliver_blobs (s : State) o : (deliver s o).blobs = s.blobs := rfl
@[simp] theorem deliver_active (s : State) o : (deliver s o).active = s.active := rfl
@[simp] theorem deliver_role0 (s : State) o : (deliver s o).role0 = s.role0 := rfl
@[simp] theorem deliver_role1 (s : State) o : (deliver s o).role1 = s.role1 := rfl
@[simp] theorem deliver_bars (s : State) o : (deliver s o).bars = s.bars := rfl
@[simp] theorem deliver_roleEpoch (s : State) o : (deliver s o).roleEpoch = s.roleEpoch := rfl
@[simp] theorem deliver_named (s : State) o : (deliver s o).named = s.named := rfl
@[simp] theorem deliver_handback (s : State) o : (deliver s o).handback = s.handback := rfl
@[simp] theorem deliver_ctrlSeq (s : State) o : (deliver s o).ctrlSeq = s.ctrlSeq := rfl
@[simp] theorem deliver_srcSeq (s : State) o : (deliver s o).srcSeq = s.srcSeq := rfl
@[simp] theorem deliver_ctrlWin (s : State) o : (deliver s o).ctrlWin = s.ctrlWin := rfl
@[simp] theorem deliver_tiles (s : State) o : (deliver s o).tiles = s.tiles := rfl
@[simp] theorem deliver_dies (s : State) o : (deliver s o).dies = s.dies := rfl
@[simp] theorem deliver_infl (s : State) o : (deliver s o).infl = s.infl := rfl
@[simp] theorem deliver_sigFails (s : State) o : (deliver s o).sigFails = s.sigFails := rfl
@[simp] theorem deliver_sigReplay (s : State) o : (deliver s o).sigReplay = s.sigReplay := rfl
@[simp] theorem deliver_sigDown (s : State) o : (deliver s o).sigDown = s.sigDown := rfl
@[simp] theorem deliver_sigDark (s : State) o : (deliver s o).sigDark = s.sigDark := rfl
@[simp] theorem deliver_ports (s : State) o : (deliver s o).ports = s.ports := rfl
@[simp] theorem deliver_bts (s : State) o : (deliver s o).bts = s.bts := rfl
@[simp] theorem deliver_blend (s : State) o : (deliver s o).blend = s.blend := rfl
@[simp] theorem deliver_arbs (s : State) o : (deliver s o).arbs = s.arbs := rfl
@[simp] theorem deliver_boundary (s : State) o : (deliver s o).boundary = s.boundary := rfl
@[simp] theorem deliver_changes (s : State) o : (deliver s o).changes = s.changes := rfl
@[simp] theorem deliver_houseq (s : State) o : (deliver s o).houseq = s.houseq := rfl
@[simp] theorem deliver_houseIn (s : State) o : (deliver s o).houseIn = s.houseIn := rfl
@[simp] theorem deliver_slotNow (s : State) o : (deliver s o).slotNow = s.slotNow := rfl
@[simp] theorem deliver_slotAt (s : State) o : (deliver s o).slotAt = s.slotAt := rfl
@[simp] theorem deliver_fab (s : State) o : (deliver s o).fab = s.fab := rfl
@[simp] theorem deliver_light (s : State) o : (deliver s o).light = s.light := rfl
@[simp] theorem deliver_mt (s : State) o : (deliver s o).mt = s.mt := rfl
@[simp] theorem deliver_host (s : State) o : (deliver s o).host = s.host := rfl
@[simp] theorem deliver_dramStacks (s : State) o : (deliver s o).dramStacks = s.dramStacks := rfl
@[simp] theorem deliver_setsLost (s : State) o : (deliver s o).setsLost = s.setsLost := rfl
@[simp] theorem deliver_setBase (s : State) o : (deliver s o).setBase = s.setBase := rfl
@[simp] theorem deliver_flowKinds (s : State) o : (deliver s o).flowKinds = s.flowKinds := rfl
@[simp] theorem deliver_job (s : State) o : (deliver s o).job = s.job := rfl
@[simp] theorem deliver_lastRing (s : State) o : (deliver s o).lastRing = s.lastRing := rfl
@[simp] theorem deliver_codes (s : State) o : (deliver s o).codes = s.codes := rfl
@[simp] theorem deliver_faults (s : State) o : (deliver s o).faults = s.faults := rfl
@[simp] theorem deliver_journal (s : State) o : (deliver s o).journal = s.journal := rfl
@[simp] theorem deliver_carafe0 (s : State) o : (deliver s o).carafe0 = s.carafe0 := rfl
@[simp] theorem deliver_carafe1 (s : State) o : (deliver s o).carafe1 = s.carafe1 := rfl
@[simp] theorem deliver_mirror (s : State) o : (deliver s o).mirror = s.mirror := rfl
@[simp] theorem deliver_wear (s : State) o : (deliver s o).wear = s.wear := rfl
@[simp] theorem deliver_punel (s : State) o : (deliver s o).punel = s.punel := rfl
@[simp] theorem deliver_sec (s : State) o : (deliver s o).sec = s.sec := rfl
@[simp] theorem deliver_startup (s : State) o : (deliver s o).startup = s.startup := rfl
@[simp] theorem deliver_wakeClears (s : State) o : (deliver s o).wakeClears = s.wakeClears := rfl
@[simp] theorem deliver_domains (s : State) o : (deliver s o).domains = s.domains := rfl
@[simp] theorem deliver_pow (s : State) o : (deliver s o).pow = s.pow := rfl
@[simp] theorem deliver_therm (s : State) o : (deliver s o).therm = s.therm := rfl
@[simp] theorem deliver_coolant (s : State) o : (deliver s o).coolant = s.coolant := rfl

@[simp] theorem bumpFree_pending (s : State)  : (bumpFree s).pending = s.pending := rfl
@[simp] theorem bumpFree_ticks (s : State)  : (bumpFree s).ticks = s.ticks := rfl
@[simp] theorem bumpFree_now (s : State)  : (bumpFree s).now = s.now := rfl
@[simp] theorem bumpFree_sent (s : State)  : (bumpFree s).sent = s.sent := rfl
@[simp] theorem bumpFree_dict (s : State)  : (bumpFree s).dict = s.dict := rfl
@[simp] theorem bumpFree_blobs (s : State)  : (bumpFree s).blobs = s.blobs := rfl
@[simp] theorem bumpFree_active (s : State)  : (bumpFree s).active = s.active := rfl
@[simp] theorem bumpFree_role0 (s : State)  : (bumpFree s).role0 = s.role0 := rfl
@[simp] theorem bumpFree_role1 (s : State)  : (bumpFree s).role1 = s.role1 := rfl
@[simp] theorem bumpFree_bars (s : State)  : (bumpFree s).bars = s.bars := rfl
@[simp] theorem bumpFree_roleEpoch (s : State)  : (bumpFree s).roleEpoch = s.roleEpoch := rfl
@[simp] theorem bumpFree_named (s : State)  : (bumpFree s).named = s.named := rfl
@[simp] theorem bumpFree_handback (s : State)  : (bumpFree s).handback = s.handback := rfl
@[simp] theorem bumpFree_ctrlSeq (s : State)  : (bumpFree s).ctrlSeq = s.ctrlSeq := rfl
@[simp] theorem bumpFree_srcSeq (s : State)  : (bumpFree s).srcSeq = s.srcSeq := rfl
@[simp] theorem bumpFree_ctrlWin (s : State)  : (bumpFree s).ctrlWin = s.ctrlWin := rfl
@[simp] theorem bumpFree_tiles (s : State)  : (bumpFree s).tiles = s.tiles := rfl
@[simp] theorem bumpFree_dies (s : State)  : (bumpFree s).dies = s.dies := rfl
@[simp] theorem bumpFree_infl (s : State)  : (bumpFree s).infl = s.infl := rfl
@[simp] theorem bumpFree_sigFails (s : State)  : (bumpFree s).sigFails = s.sigFails := rfl
@[simp] theorem bumpFree_sigReplay (s : State)  : (bumpFree s).sigReplay = s.sigReplay := rfl
@[simp] theorem bumpFree_sigDown (s : State)  : (bumpFree s).sigDown = s.sigDown := rfl
@[simp] theorem bumpFree_sigDark (s : State)  : (bumpFree s).sigDark = s.sigDark := rfl
@[simp] theorem bumpFree_ports (s : State)  : (bumpFree s).ports = s.ports := rfl
@[simp] theorem bumpFree_bts (s : State)  : (bumpFree s).bts = s.bts := rfl
@[simp] theorem bumpFree_blend (s : State)  : (bumpFree s).blend = s.blend := rfl
@[simp] theorem bumpFree_arbs (s : State)  : (bumpFree s).arbs = s.arbs := rfl
@[simp] theorem bumpFree_boundary (s : State)  : (bumpFree s).boundary = s.boundary := rfl
@[simp] theorem bumpFree_changes (s : State)  : (bumpFree s).changes = s.changes := rfl
@[simp] theorem bumpFree_houseq (s : State)  : (bumpFree s).houseq = s.houseq := rfl
@[simp] theorem bumpFree_houseIn (s : State)  : (bumpFree s).houseIn = s.houseIn := rfl
@[simp] theorem bumpFree_slotNow (s : State)  : (bumpFree s).slotNow = s.slotNow := rfl
@[simp] theorem bumpFree_slotAt (s : State)  : (bumpFree s).slotAt = s.slotAt := rfl
@[simp] theorem bumpFree_fab (s : State)  : (bumpFree s).fab = s.fab := rfl
@[simp] theorem bumpFree_light (s : State)  : (bumpFree s).light = s.light := rfl
@[simp] theorem bumpFree_mt (s : State)  : (bumpFree s).mt = s.mt := rfl
@[simp] theorem bumpFree_host (s : State)  : (bumpFree s).host = s.host := rfl
@[simp] theorem bumpFree_dramStacks (s : State)  : (bumpFree s).dramStacks = s.dramStacks := rfl
@[simp] theorem bumpFree_setsLost (s : State)  : (bumpFree s).setsLost = s.setsLost := rfl
@[simp] theorem bumpFree_setBase (s : State)  : (bumpFree s).setBase = s.setBase := rfl
@[simp] theorem bumpFree_flowKinds (s : State)  : (bumpFree s).flowKinds = s.flowKinds := rfl
@[simp] theorem bumpFree_job (s : State)  : (bumpFree s).job = s.job := rfl
@[simp] theorem bumpFree_lastRing (s : State)  : (bumpFree s).lastRing = s.lastRing := rfl
@[simp] theorem bumpFree_codes (s : State)  : (bumpFree s).codes = s.codes := rfl
@[simp] theorem bumpFree_faults (s : State)  : (bumpFree s).faults = s.faults := rfl
@[simp] theorem bumpFree_journal (s : State)  : (bumpFree s).journal = s.journal := rfl
@[simp] theorem bumpFree_carafe0 (s : State)  : (bumpFree s).carafe0 = s.carafe0 := rfl
@[simp] theorem bumpFree_carafe1 (s : State)  : (bumpFree s).carafe1 = s.carafe1 := rfl
@[simp] theorem bumpFree_mirror (s : State)  : (bumpFree s).mirror = s.mirror := rfl
@[simp] theorem bumpFree_wear (s : State)  : (bumpFree s).wear = s.wear := rfl
@[simp] theorem bumpFree_punel (s : State)  : (bumpFree s).punel = s.punel := rfl
@[simp] theorem bumpFree_sec (s : State)  : (bumpFree s).sec = s.sec := rfl
@[simp] theorem bumpFree_startup (s : State)  : (bumpFree s).startup = s.startup := rfl
@[simp] theorem bumpFree_wakeClears (s : State)  : (bumpFree s).wakeClears = s.wakeClears := rfl
@[simp] theorem bumpFree_domains (s : State)  : (bumpFree s).domains = s.domains := rfl
@[simp] theorem bumpFree_pow (s : State)  : (bumpFree s).pow = s.pow := rfl
@[simp] theorem bumpFree_therm (s : State)  : (bumpFree s).therm = s.therm := rfl
@[simp] theorem bumpFree_coolant (s : State)  : (bumpFree s).coolant = s.coolant := rfl

@[simp] theorem schedule_pending (s : State) t c : (schedule s t c).pending = s.pending := rfl
@[simp] theorem schedule_ticks (s : State) t c : (schedule s t c).ticks = s.ticks := rfl
@[simp] theorem schedule_now (s : State) t c : (schedule s t c).now = s.now := rfl
@[simp] theorem schedule_freeCtr (s : State) t c : (schedule s t c).freeCtr = s.freeCtr := rfl
@[simp] theorem schedule_sent (s : State) t c : (schedule s t c).sent = s.sent := rfl
@[simp] theorem schedule_dict (s : State) t c : (schedule s t c).dict = s.dict := rfl
@[simp] theorem schedule_blobs (s : State) t c : (schedule s t c).blobs = s.blobs := rfl
@[simp] theorem schedule_active (s : State) t c : (schedule s t c).active = s.active := rfl
@[simp] theorem schedule_role0 (s : State) t c : (schedule s t c).role0 = s.role0 := rfl
@[simp] theorem schedule_role1 (s : State) t c : (schedule s t c).role1 = s.role1 := rfl
@[simp] theorem schedule_bars (s : State) t c : (schedule s t c).bars = s.bars := rfl
@[simp] theorem schedule_roleEpoch (s : State) t c : (schedule s t c).roleEpoch = s.roleEpoch := rfl
@[simp] theorem schedule_named (s : State) t c : (schedule s t c).named = s.named := rfl
@[simp] theorem schedule_handback (s : State) t c : (schedule s t c).handback = s.handback := rfl
@[simp] theorem schedule_ctrlSeq (s : State) t c : (schedule s t c).ctrlSeq = s.ctrlSeq := rfl
@[simp] theorem schedule_srcSeq (s : State) t c : (schedule s t c).srcSeq = s.srcSeq := rfl
@[simp] theorem schedule_ctrlWin (s : State) t c : (schedule s t c).ctrlWin = s.ctrlWin := rfl
@[simp] theorem schedule_tiles (s : State) t c : (schedule s t c).tiles = s.tiles := rfl
@[simp] theorem schedule_dies (s : State) t c : (schedule s t c).dies = s.dies := rfl
@[simp] theorem schedule_infl (s : State) t c : (schedule s t c).infl = s.infl := rfl
@[simp] theorem schedule_sigFails (s : State) t c : (schedule s t c).sigFails = s.sigFails := rfl
@[simp] theorem schedule_sigReplay (s : State) t c : (schedule s t c).sigReplay = s.sigReplay := rfl
@[simp] theorem schedule_sigDown (s : State) t c : (schedule s t c).sigDown = s.sigDown := rfl
@[simp] theorem schedule_sigDark (s : State) t c : (schedule s t c).sigDark = s.sigDark := rfl
@[simp] theorem schedule_ports (s : State) t c : (schedule s t c).ports = s.ports := rfl
@[simp] theorem schedule_bts (s : State) t c : (schedule s t c).bts = s.bts := rfl
@[simp] theorem schedule_blend (s : State) t c : (schedule s t c).blend = s.blend := rfl
@[simp] theorem schedule_arbs (s : State) t c : (schedule s t c).arbs = s.arbs := rfl
@[simp] theorem schedule_boundary (s : State) t c : (schedule s t c).boundary = s.boundary := rfl
@[simp] theorem schedule_houseq (s : State) t c : (schedule s t c).houseq = s.houseq := rfl
@[simp] theorem schedule_houseIn (s : State) t c : (schedule s t c).houseIn = s.houseIn := rfl
@[simp] theorem schedule_slotNow (s : State) t c : (schedule s t c).slotNow = s.slotNow := rfl
@[simp] theorem schedule_slotAt (s : State) t c : (schedule s t c).slotAt = s.slotAt := rfl
@[simp] theorem schedule_fab (s : State) t c : (schedule s t c).fab = s.fab := rfl
@[simp] theorem schedule_light (s : State) t c : (schedule s t c).light = s.light := rfl
@[simp] theorem schedule_mt (s : State) t c : (schedule s t c).mt = s.mt := rfl
@[simp] theorem schedule_host (s : State) t c : (schedule s t c).host = s.host := rfl
@[simp] theorem schedule_dramStacks (s : State) t c : (schedule s t c).dramStacks = s.dramStacks := rfl
@[simp] theorem schedule_setsLost (s : State) t c : (schedule s t c).setsLost = s.setsLost := rfl
@[simp] theorem schedule_setBase (s : State) t c : (schedule s t c).setBase = s.setBase := rfl
@[simp] theorem schedule_flowKinds (s : State) t c : (schedule s t c).flowKinds = s.flowKinds := rfl
@[simp] theorem schedule_job (s : State) t c : (schedule s t c).job = s.job := rfl
@[simp] theorem schedule_lastRing (s : State) t c : (schedule s t c).lastRing = s.lastRing := rfl
@[simp] theorem schedule_codes (s : State) t c : (schedule s t c).codes = s.codes := rfl
@[simp] theorem schedule_faults (s : State) t c : (schedule s t c).faults = s.faults := rfl
@[simp] theorem schedule_journal (s : State) t c : (schedule s t c).journal = s.journal := rfl
@[simp] theorem schedule_carafe0 (s : State) t c : (schedule s t c).carafe0 = s.carafe0 := rfl
@[simp] theorem schedule_carafe1 (s : State) t c : (schedule s t c).carafe1 = s.carafe1 := rfl
@[simp] theorem schedule_mirror (s : State) t c : (schedule s t c).mirror = s.mirror := rfl
@[simp] theorem schedule_wear (s : State) t c : (schedule s t c).wear = s.wear := rfl
@[simp] theorem schedule_punel (s : State) t c : (schedule s t c).punel = s.punel := rfl
@[simp] theorem schedule_sec (s : State) t c : (schedule s t c).sec = s.sec := rfl
@[simp] theorem schedule_startup (s : State) t c : (schedule s t c).startup = s.startup := rfl
@[simp] theorem schedule_wakeClears (s : State) t c : (schedule s t c).wakeClears = s.wakeClears := rfl
@[simp] theorem schedule_domains (s : State) t c : (schedule s t c).domains = s.domains := rfl
@[simp] theorem schedule_pow (s : State) t c : (schedule s t c).pow = s.pow := rfl
@[simp] theorem schedule_therm (s : State) t c : (schedule s t c).therm = s.therm := rfl
@[simp] theorem schedule_coolant (s : State) t c : (schedule s t c).coolant = s.coolant := rfl

@[simp] theorem dset_pending (s : State) c v : (dset s c v).pending = s.pending := rfl
@[simp] theorem dset_ticks (s : State) c v : (dset s c v).ticks = s.ticks := rfl
@[simp] theorem dset_now (s : State) c v : (dset s c v).now = s.now := rfl
@[simp] theorem dset_freeCtr (s : State) c v : (dset s c v).freeCtr = s.freeCtr := rfl
@[simp] theorem dset_sent (s : State) c v : (dset s c v).sent = s.sent := rfl
@[simp] theorem dset_blobs (s : State) c v : (dset s c v).blobs = s.blobs := rfl
@[simp] theorem dset_active (s : State) c v : (dset s c v).active = s.active := rfl
@[simp] theorem dset_role0 (s : State) c v : (dset s c v).role0 = s.role0 := rfl
@[simp] theorem dset_role1 (s : State) c v : (dset s c v).role1 = s.role1 := rfl
@[simp] theorem dset_bars (s : State) c v : (dset s c v).bars = s.bars := rfl
@[simp] theorem dset_roleEpoch (s : State) c v : (dset s c v).roleEpoch = s.roleEpoch := rfl
@[simp] theorem dset_named (s : State) c v : (dset s c v).named = s.named := rfl
@[simp] theorem dset_handback (s : State) c v : (dset s c v).handback = s.handback := rfl
@[simp] theorem dset_ctrlSeq (s : State) c v : (dset s c v).ctrlSeq = s.ctrlSeq := rfl
@[simp] theorem dset_srcSeq (s : State) c v : (dset s c v).srcSeq = s.srcSeq := rfl
@[simp] theorem dset_ctrlWin (s : State) c v : (dset s c v).ctrlWin = s.ctrlWin := rfl
@[simp] theorem dset_tiles (s : State) c v : (dset s c v).tiles = s.tiles := rfl
@[simp] theorem dset_dies (s : State) c v : (dset s c v).dies = s.dies := rfl
@[simp] theorem dset_infl (s : State) c v : (dset s c v).infl = s.infl := rfl
@[simp] theorem dset_sigFails (s : State) c v : (dset s c v).sigFails = s.sigFails := rfl
@[simp] theorem dset_sigReplay (s : State) c v : (dset s c v).sigReplay = s.sigReplay := rfl
@[simp] theorem dset_sigDown (s : State) c v : (dset s c v).sigDown = s.sigDown := rfl
@[simp] theorem dset_sigDark (s : State) c v : (dset s c v).sigDark = s.sigDark := rfl
@[simp] theorem dset_ports (s : State) c v : (dset s c v).ports = s.ports := rfl
@[simp] theorem dset_bts (s : State) c v : (dset s c v).bts = s.bts := rfl
@[simp] theorem dset_blend (s : State) c v : (dset s c v).blend = s.blend := rfl
@[simp] theorem dset_arbs (s : State) c v : (dset s c v).arbs = s.arbs := rfl
@[simp] theorem dset_boundary (s : State) c v : (dset s c v).boundary = s.boundary := rfl
@[simp] theorem dset_changes (s : State) c v : (dset s c v).changes = s.changes := rfl
@[simp] theorem dset_houseq (s : State) c v : (dset s c v).houseq = s.houseq := rfl
@[simp] theorem dset_houseIn (s : State) c v : (dset s c v).houseIn = s.houseIn := rfl
@[simp] theorem dset_slotNow (s : State) c v : (dset s c v).slotNow = s.slotNow := rfl
@[simp] theorem dset_slotAt (s : State) c v : (dset s c v).slotAt = s.slotAt := rfl
@[simp] theorem dset_fab (s : State) c v : (dset s c v).fab = s.fab := rfl
@[simp] theorem dset_light (s : State) c v : (dset s c v).light = s.light := rfl
@[simp] theorem dset_mt (s : State) c v : (dset s c v).mt = s.mt := rfl
@[simp] theorem dset_host (s : State) c v : (dset s c v).host = s.host := rfl
@[simp] theorem dset_dramStacks (s : State) c v : (dset s c v).dramStacks = s.dramStacks := rfl
@[simp] theorem dset_setsLost (s : State) c v : (dset s c v).setsLost = s.setsLost := rfl
@[simp] theorem dset_setBase (s : State) c v : (dset s c v).setBase = s.setBase := rfl
@[simp] theorem dset_flowKinds (s : State) c v : (dset s c v).flowKinds = s.flowKinds := rfl
@[simp] theorem dset_job (s : State) c v : (dset s c v).job = s.job := rfl
@[simp] theorem dset_lastRing (s : State) c v : (dset s c v).lastRing = s.lastRing := rfl
@[simp] theorem dset_codes (s : State) c v : (dset s c v).codes = s.codes := rfl
@[simp] theorem dset_faults (s : State) c v : (dset s c v).faults = s.faults := rfl
@[simp] theorem dset_journal (s : State) c v : (dset s c v).journal = s.journal := rfl
@[simp] theorem dset_carafe0 (s : State) c v : (dset s c v).carafe0 = s.carafe0 := rfl
@[simp] theorem dset_carafe1 (s : State) c v : (dset s c v).carafe1 = s.carafe1 := rfl
@[simp] theorem dset_mirror (s : State) c v : (dset s c v).mirror = s.mirror := rfl
@[simp] theorem dset_wear (s : State) c v : (dset s c v).wear = s.wear := rfl
@[simp] theorem dset_punel (s : State) c v : (dset s c v).punel = s.punel := rfl
@[simp] theorem dset_sec (s : State) c v : (dset s c v).sec = s.sec := rfl
@[simp] theorem dset_startup (s : State) c v : (dset s c v).startup = s.startup := rfl
@[simp] theorem dset_wakeClears (s : State) c v : (dset s c v).wakeClears = s.wakeClears := rfl
@[simp] theorem dset_domains (s : State) c v : (dset s c v).domains = s.domains := rfl
@[simp] theorem dset_pow (s : State) c v : (dset s c v).pow = s.pow := rfl
@[simp] theorem dset_therm (s : State) c v : (dset s c v).therm = s.therm := rfl
@[simp] theorem dset_coolant (s : State) c v : (dset s c v).coolant = s.coolant := rfl

@[simp] theorem bump_pending (s : State) c n : (bump s c n).pending = s.pending := rfl
@[simp] theorem bump_ticks (s : State) c n : (bump s c n).ticks = s.ticks := rfl
@[simp] theorem bump_now (s : State) c n : (bump s c n).now = s.now := rfl
@[simp] theorem bump_freeCtr (s : State) c n : (bump s c n).freeCtr = s.freeCtr := rfl
@[simp] theorem bump_sent (s : State) c n : (bump s c n).sent = s.sent := rfl
@[simp] theorem bump_blobs (s : State) c n : (bump s c n).blobs = s.blobs := rfl
@[simp] theorem bump_active (s : State) c n : (bump s c n).active = s.active := rfl
@[simp] theorem bump_role0 (s : State) c n : (bump s c n).role0 = s.role0 := rfl
@[simp] theorem bump_role1 (s : State) c n : (bump s c n).role1 = s.role1 := rfl
@[simp] theorem bump_bars (s : State) c n : (bump s c n).bars = s.bars := rfl
@[simp] theorem bump_roleEpoch (s : State) c n : (bump s c n).roleEpoch = s.roleEpoch := rfl
@[simp] theorem bump_named (s : State) c n : (bump s c n).named = s.named := rfl
@[simp] theorem bump_handback (s : State) c n : (bump s c n).handback = s.handback := rfl
@[simp] theorem bump_ctrlSeq (s : State) c n : (bump s c n).ctrlSeq = s.ctrlSeq := rfl
@[simp] theorem bump_srcSeq (s : State) c n : (bump s c n).srcSeq = s.srcSeq := rfl
@[simp] theorem bump_ctrlWin (s : State) c n : (bump s c n).ctrlWin = s.ctrlWin := rfl
@[simp] theorem bump_tiles (s : State) c n : (bump s c n).tiles = s.tiles := rfl
@[simp] theorem bump_dies (s : State) c n : (bump s c n).dies = s.dies := rfl
@[simp] theorem bump_infl (s : State) c n : (bump s c n).infl = s.infl := rfl
@[simp] theorem bump_sigFails (s : State) c n : (bump s c n).sigFails = s.sigFails := rfl
@[simp] theorem bump_sigReplay (s : State) c n : (bump s c n).sigReplay = s.sigReplay := rfl
@[simp] theorem bump_sigDown (s : State) c n : (bump s c n).sigDown = s.sigDown := rfl
@[simp] theorem bump_sigDark (s : State) c n : (bump s c n).sigDark = s.sigDark := rfl
@[simp] theorem bump_ports (s : State) c n : (bump s c n).ports = s.ports := rfl
@[simp] theorem bump_bts (s : State) c n : (bump s c n).bts = s.bts := rfl
@[simp] theorem bump_blend (s : State) c n : (bump s c n).blend = s.blend := rfl
@[simp] theorem bump_arbs (s : State) c n : (bump s c n).arbs = s.arbs := rfl
@[simp] theorem bump_boundary (s : State) c n : (bump s c n).boundary = s.boundary := rfl
@[simp] theorem bump_changes (s : State) c n : (bump s c n).changes = s.changes := rfl
@[simp] theorem bump_houseq (s : State) c n : (bump s c n).houseq = s.houseq := rfl
@[simp] theorem bump_houseIn (s : State) c n : (bump s c n).houseIn = s.houseIn := rfl
@[simp] theorem bump_slotNow (s : State) c n : (bump s c n).slotNow = s.slotNow := rfl
@[simp] theorem bump_slotAt (s : State) c n : (bump s c n).slotAt = s.slotAt := rfl
@[simp] theorem bump_fab (s : State) c n : (bump s c n).fab = s.fab := rfl
@[simp] theorem bump_light (s : State) c n : (bump s c n).light = s.light := rfl
@[simp] theorem bump_mt (s : State) c n : (bump s c n).mt = s.mt := rfl
@[simp] theorem bump_host (s : State) c n : (bump s c n).host = s.host := rfl
@[simp] theorem bump_dramStacks (s : State) c n : (bump s c n).dramStacks = s.dramStacks := rfl
@[simp] theorem bump_setsLost (s : State) c n : (bump s c n).setsLost = s.setsLost := rfl
@[simp] theorem bump_setBase (s : State) c n : (bump s c n).setBase = s.setBase := rfl
@[simp] theorem bump_flowKinds (s : State) c n : (bump s c n).flowKinds = s.flowKinds := rfl
@[simp] theorem bump_job (s : State) c n : (bump s c n).job = s.job := rfl
@[simp] theorem bump_lastRing (s : State) c n : (bump s c n).lastRing = s.lastRing := rfl
@[simp] theorem bump_codes (s : State) c n : (bump s c n).codes = s.codes := rfl
@[simp] theorem bump_faults (s : State) c n : (bump s c n).faults = s.faults := rfl
@[simp] theorem bump_journal (s : State) c n : (bump s c n).journal = s.journal := rfl
@[simp] theorem bump_carafe0 (s : State) c n : (bump s c n).carafe0 = s.carafe0 := rfl
@[simp] theorem bump_carafe1 (s : State) c n : (bump s c n).carafe1 = s.carafe1 := rfl
@[simp] theorem bump_mirror (s : State) c n : (bump s c n).mirror = s.mirror := rfl
@[simp] theorem bump_wear (s : State) c n : (bump s c n).wear = s.wear := rfl
@[simp] theorem bump_punel (s : State) c n : (bump s c n).punel = s.punel := rfl
@[simp] theorem bump_sec (s : State) c n : (bump s c n).sec = s.sec := rfl
@[simp] theorem bump_startup (s : State) c n : (bump s c n).startup = s.startup := rfl
@[simp] theorem bump_wakeClears (s : State) c n : (bump s c n).wakeClears = s.wakeClears := rfl
@[simp] theorem bump_domains (s : State) c n : (bump s c n).domains = s.domains := rfl
@[simp] theorem bump_pow (s : State) c n : (bump s c n).pow = s.pow := rfl
@[simp] theorem bump_therm (s : State) c n : (bump s c n).therm = s.therm := rfl
@[simp] theorem bump_coolant (s : State) c n : (bump s c n).coolant = s.coolant := rfl

@[simp] theorem setTile_pending (s : State) k t : (setTile s k t).pending = s.pending := rfl
@[simp] theorem setTile_ticks (s : State) k t : (setTile s k t).ticks = s.ticks := rfl
@[simp] theorem setTile_now (s : State) k t : (setTile s k t).now = s.now := rfl
@[simp] theorem setTile_freeCtr (s : State) k t : (setTile s k t).freeCtr = s.freeCtr := rfl
@[simp] theorem setTile_sent (s : State) k t : (setTile s k t).sent = s.sent := rfl
@[simp] theorem setTile_dict (s : State) k t : (setTile s k t).dict = s.dict := rfl
@[simp] theorem setTile_blobs (s : State) k t : (setTile s k t).blobs = s.blobs := rfl
@[simp] theorem setTile_active (s : State) k t : (setTile s k t).active = s.active := rfl
@[simp] theorem setTile_role0 (s : State) k t : (setTile s k t).role0 = s.role0 := rfl
@[simp] theorem setTile_role1 (s : State) k t : (setTile s k t).role1 = s.role1 := rfl
@[simp] theorem setTile_bars (s : State) k t : (setTile s k t).bars = s.bars := rfl
@[simp] theorem setTile_roleEpoch (s : State) k t : (setTile s k t).roleEpoch = s.roleEpoch := rfl
@[simp] theorem setTile_named (s : State) k t : (setTile s k t).named = s.named := rfl
@[simp] theorem setTile_handback (s : State) k t : (setTile s k t).handback = s.handback := rfl
@[simp] theorem setTile_ctrlSeq (s : State) k t : (setTile s k t).ctrlSeq = s.ctrlSeq := rfl
@[simp] theorem setTile_srcSeq (s : State) k t : (setTile s k t).srcSeq = s.srcSeq := rfl
@[simp] theorem setTile_ctrlWin (s : State) k t : (setTile s k t).ctrlWin = s.ctrlWin := rfl
@[simp] theorem setTile_dies (s : State) k t : (setTile s k t).dies = s.dies := rfl
@[simp] theorem setTile_infl (s : State) k t : (setTile s k t).infl = s.infl := rfl
@[simp] theorem setTile_sigFails (s : State) k t : (setTile s k t).sigFails = s.sigFails := rfl
@[simp] theorem setTile_sigReplay (s : State) k t : (setTile s k t).sigReplay = s.sigReplay := rfl
@[simp] theorem setTile_sigDown (s : State) k t : (setTile s k t).sigDown = s.sigDown := rfl
@[simp] theorem setTile_sigDark (s : State) k t : (setTile s k t).sigDark = s.sigDark := rfl
@[simp] theorem setTile_ports (s : State) k t : (setTile s k t).ports = s.ports := rfl
@[simp] theorem setTile_bts (s : State) k t : (setTile s k t).bts = s.bts := rfl
@[simp] theorem setTile_blend (s : State) k t : (setTile s k t).blend = s.blend := rfl
@[simp] theorem setTile_arbs (s : State) k t : (setTile s k t).arbs = s.arbs := rfl
@[simp] theorem setTile_boundary (s : State) k t : (setTile s k t).boundary = s.boundary := rfl
@[simp] theorem setTile_changes (s : State) k t : (setTile s k t).changes = s.changes := rfl
@[simp] theorem setTile_houseq (s : State) k t : (setTile s k t).houseq = s.houseq := rfl
@[simp] theorem setTile_houseIn (s : State) k t : (setTile s k t).houseIn = s.houseIn := rfl
@[simp] theorem setTile_slotNow (s : State) k t : (setTile s k t).slotNow = s.slotNow := rfl
@[simp] theorem setTile_slotAt (s : State) k t : (setTile s k t).slotAt = s.slotAt := rfl
@[simp] theorem setTile_fab (s : State) k t : (setTile s k t).fab = s.fab := rfl
@[simp] theorem setTile_light (s : State) k t : (setTile s k t).light = s.light := rfl
@[simp] theorem setTile_mt (s : State) k t : (setTile s k t).mt = s.mt := rfl
@[simp] theorem setTile_host (s : State) k t : (setTile s k t).host = s.host := rfl
@[simp] theorem setTile_dramStacks (s : State) k t : (setTile s k t).dramStacks = s.dramStacks := rfl
@[simp] theorem setTile_setsLost (s : State) k t : (setTile s k t).setsLost = s.setsLost := rfl
@[simp] theorem setTile_setBase (s : State) k t : (setTile s k t).setBase = s.setBase := rfl
@[simp] theorem setTile_flowKinds (s : State) k t : (setTile s k t).flowKinds = s.flowKinds := rfl
@[simp] theorem setTile_job (s : State) k t : (setTile s k t).job = s.job := rfl
@[simp] theorem setTile_lastRing (s : State) k t : (setTile s k t).lastRing = s.lastRing := rfl
@[simp] theorem setTile_codes (s : State) k t : (setTile s k t).codes = s.codes := rfl
@[simp] theorem setTile_faults (s : State) k t : (setTile s k t).faults = s.faults := rfl
@[simp] theorem setTile_journal (s : State) k t : (setTile s k t).journal = s.journal := rfl
@[simp] theorem setTile_carafe0 (s : State) k t : (setTile s k t).carafe0 = s.carafe0 := rfl
@[simp] theorem setTile_carafe1 (s : State) k t : (setTile s k t).carafe1 = s.carafe1 := rfl
@[simp] theorem setTile_mirror (s : State) k t : (setTile s k t).mirror = s.mirror := rfl
@[simp] theorem setTile_wear (s : State) k t : (setTile s k t).wear = s.wear := rfl
@[simp] theorem setTile_punel (s : State) k t : (setTile s k t).punel = s.punel := rfl
@[simp] theorem setTile_sec (s : State) k t : (setTile s k t).sec = s.sec := rfl
@[simp] theorem setTile_startup (s : State) k t : (setTile s k t).startup = s.startup := rfl
@[simp] theorem setTile_wakeClears (s : State) k t : (setTile s k t).wakeClears = s.wakeClears := rfl
@[simp] theorem setTile_domains (s : State) k t : (setTile s k t).domains = s.domains := rfl
@[simp] theorem setTile_pow (s : State) k t : (setTile s k t).pow = s.pow := rfl
@[simp] theorem setTile_therm (s : State) k t : (setTile s k t).therm = s.therm := rfl
@[simp] theorem setTile_coolant (s : State) k t : (setTile s k t).coolant = s.coolant := rfl

@[simp] theorem setDie_pending (s : State) n d : (setDie s n d).pending = s.pending := rfl
@[simp] theorem setDie_ticks (s : State) n d : (setDie s n d).ticks = s.ticks := rfl
@[simp] theorem setDie_now (s : State) n d : (setDie s n d).now = s.now := rfl
@[simp] theorem setDie_freeCtr (s : State) n d : (setDie s n d).freeCtr = s.freeCtr := rfl
@[simp] theorem setDie_sent (s : State) n d : (setDie s n d).sent = s.sent := rfl
@[simp] theorem setDie_dict (s : State) n d : (setDie s n d).dict = s.dict := rfl
@[simp] theorem setDie_blobs (s : State) n d : (setDie s n d).blobs = s.blobs := rfl
@[simp] theorem setDie_active (s : State) n d : (setDie s n d).active = s.active := rfl
@[simp] theorem setDie_role0 (s : State) n d : (setDie s n d).role0 = s.role0 := rfl
@[simp] theorem setDie_role1 (s : State) n d : (setDie s n d).role1 = s.role1 := rfl
@[simp] theorem setDie_bars (s : State) n d : (setDie s n d).bars = s.bars := rfl
@[simp] theorem setDie_roleEpoch (s : State) n d : (setDie s n d).roleEpoch = s.roleEpoch := rfl
@[simp] theorem setDie_named (s : State) n d : (setDie s n d).named = s.named := rfl
@[simp] theorem setDie_handback (s : State) n d : (setDie s n d).handback = s.handback := rfl
@[simp] theorem setDie_ctrlSeq (s : State) n d : (setDie s n d).ctrlSeq = s.ctrlSeq := rfl
@[simp] theorem setDie_srcSeq (s : State) n d : (setDie s n d).srcSeq = s.srcSeq := rfl
@[simp] theorem setDie_ctrlWin (s : State) n d : (setDie s n d).ctrlWin = s.ctrlWin := rfl
@[simp] theorem setDie_tiles (s : State) n d : (setDie s n d).tiles = s.tiles := rfl
@[simp] theorem setDie_infl (s : State) n d : (setDie s n d).infl = s.infl := rfl
@[simp] theorem setDie_sigFails (s : State) n d : (setDie s n d).sigFails = s.sigFails := rfl
@[simp] theorem setDie_sigReplay (s : State) n d : (setDie s n d).sigReplay = s.sigReplay := rfl
@[simp] theorem setDie_sigDown (s : State) n d : (setDie s n d).sigDown = s.sigDown := rfl
@[simp] theorem setDie_sigDark (s : State) n d : (setDie s n d).sigDark = s.sigDark := rfl
@[simp] theorem setDie_ports (s : State) n d : (setDie s n d).ports = s.ports := rfl
@[simp] theorem setDie_bts (s : State) n d : (setDie s n d).bts = s.bts := rfl
@[simp] theorem setDie_blend (s : State) n d : (setDie s n d).blend = s.blend := rfl
@[simp] theorem setDie_arbs (s : State) n d : (setDie s n d).arbs = s.arbs := rfl
@[simp] theorem setDie_boundary (s : State) n d : (setDie s n d).boundary = s.boundary := rfl
@[simp] theorem setDie_changes (s : State) n d : (setDie s n d).changes = s.changes := rfl
@[simp] theorem setDie_houseq (s : State) n d : (setDie s n d).houseq = s.houseq := rfl
@[simp] theorem setDie_houseIn (s : State) n d : (setDie s n d).houseIn = s.houseIn := rfl
@[simp] theorem setDie_slotNow (s : State) n d : (setDie s n d).slotNow = s.slotNow := rfl
@[simp] theorem setDie_slotAt (s : State) n d : (setDie s n d).slotAt = s.slotAt := rfl
@[simp] theorem setDie_fab (s : State) n d : (setDie s n d).fab = s.fab := rfl
@[simp] theorem setDie_light (s : State) n d : (setDie s n d).light = s.light := rfl
@[simp] theorem setDie_mt (s : State) n d : (setDie s n d).mt = s.mt := rfl
@[simp] theorem setDie_host (s : State) n d : (setDie s n d).host = s.host := rfl
@[simp] theorem setDie_dramStacks (s : State) n d : (setDie s n d).dramStacks = s.dramStacks := rfl
@[simp] theorem setDie_setsLost (s : State) n d : (setDie s n d).setsLost = s.setsLost := rfl
@[simp] theorem setDie_setBase (s : State) n d : (setDie s n d).setBase = s.setBase := rfl
@[simp] theorem setDie_flowKinds (s : State) n d : (setDie s n d).flowKinds = s.flowKinds := rfl
@[simp] theorem setDie_job (s : State) n d : (setDie s n d).job = s.job := rfl
@[simp] theorem setDie_lastRing (s : State) n d : (setDie s n d).lastRing = s.lastRing := rfl
@[simp] theorem setDie_codes (s : State) n d : (setDie s n d).codes = s.codes := rfl
@[simp] theorem setDie_faults (s : State) n d : (setDie s n d).faults = s.faults := rfl
@[simp] theorem setDie_journal (s : State) n d : (setDie s n d).journal = s.journal := rfl
@[simp] theorem setDie_carafe0 (s : State) n d : (setDie s n d).carafe0 = s.carafe0 := rfl
@[simp] theorem setDie_carafe1 (s : State) n d : (setDie s n d).carafe1 = s.carafe1 := rfl
@[simp] theorem setDie_mirror (s : State) n d : (setDie s n d).mirror = s.mirror := rfl
@[simp] theorem setDie_wear (s : State) n d : (setDie s n d).wear = s.wear := rfl
@[simp] theorem setDie_punel (s : State) n d : (setDie s n d).punel = s.punel := rfl
@[simp] theorem setDie_sec (s : State) n d : (setDie s n d).sec = s.sec := rfl
@[simp] theorem setDie_startup (s : State) n d : (setDie s n d).startup = s.startup := rfl
@[simp] theorem setDie_wakeClears (s : State) n d : (setDie s n d).wakeClears = s.wakeClears := rfl
@[simp] theorem setDie_domains (s : State) n d : (setDie s n d).domains = s.domains := rfl
@[simp] theorem setDie_pow (s : State) n d : (setDie s n d).pow = s.pow := rfl
@[simp] theorem setDie_therm (s : State) n d : (setDie s n d).therm = s.therm := rfl
@[simp] theorem setDie_coolant (s : State) n d : (setDie s n d).coolant = s.coolant := rfl

@[simp] theorem setInfl_pending (s : State) p v : (setInfl s p v).pending = s.pending := rfl
@[simp] theorem setInfl_ticks (s : State) p v : (setInfl s p v).ticks = s.ticks := rfl
@[simp] theorem setInfl_now (s : State) p v : (setInfl s p v).now = s.now := rfl
@[simp] theorem setInfl_freeCtr (s : State) p v : (setInfl s p v).freeCtr = s.freeCtr := rfl
@[simp] theorem setInfl_sent (s : State) p v : (setInfl s p v).sent = s.sent := rfl
@[simp] theorem setInfl_dict (s : State) p v : (setInfl s p v).dict = s.dict := rfl
@[simp] theorem setInfl_blobs (s : State) p v : (setInfl s p v).blobs = s.blobs := rfl
@[simp] theorem setInfl_active (s : State) p v : (setInfl s p v).active = s.active := rfl
@[simp] theorem setInfl_role0 (s : State) p v : (setInfl s p v).role0 = s.role0 := rfl
@[simp] theorem setInfl_role1 (s : State) p v : (setInfl s p v).role1 = s.role1 := rfl
@[simp] theorem setInfl_bars (s : State) p v : (setInfl s p v).bars = s.bars := rfl
@[simp] theorem setInfl_roleEpoch (s : State) p v : (setInfl s p v).roleEpoch = s.roleEpoch := rfl
@[simp] theorem setInfl_named (s : State) p v : (setInfl s p v).named = s.named := rfl
@[simp] theorem setInfl_handback (s : State) p v : (setInfl s p v).handback = s.handback := rfl
@[simp] theorem setInfl_ctrlSeq (s : State) p v : (setInfl s p v).ctrlSeq = s.ctrlSeq := rfl
@[simp] theorem setInfl_srcSeq (s : State) p v : (setInfl s p v).srcSeq = s.srcSeq := rfl
@[simp] theorem setInfl_ctrlWin (s : State) p v : (setInfl s p v).ctrlWin = s.ctrlWin := rfl
@[simp] theorem setInfl_tiles (s : State) p v : (setInfl s p v).tiles = s.tiles := rfl
@[simp] theorem setInfl_dies (s : State) p v : (setInfl s p v).dies = s.dies := rfl
@[simp] theorem setInfl_sigFails (s : State) p v : (setInfl s p v).sigFails = s.sigFails := rfl
@[simp] theorem setInfl_sigReplay (s : State) p v : (setInfl s p v).sigReplay = s.sigReplay := rfl
@[simp] theorem setInfl_sigDown (s : State) p v : (setInfl s p v).sigDown = s.sigDown := rfl
@[simp] theorem setInfl_sigDark (s : State) p v : (setInfl s p v).sigDark = s.sigDark := rfl
@[simp] theorem setInfl_ports (s : State) p v : (setInfl s p v).ports = s.ports := rfl
@[simp] theorem setInfl_bts (s : State) p v : (setInfl s p v).bts = s.bts := rfl
@[simp] theorem setInfl_blend (s : State) p v : (setInfl s p v).blend = s.blend := rfl
@[simp] theorem setInfl_arbs (s : State) p v : (setInfl s p v).arbs = s.arbs := rfl
@[simp] theorem setInfl_boundary (s : State) p v : (setInfl s p v).boundary = s.boundary := rfl
@[simp] theorem setInfl_changes (s : State) p v : (setInfl s p v).changes = s.changes := rfl
@[simp] theorem setInfl_houseq (s : State) p v : (setInfl s p v).houseq = s.houseq := rfl
@[simp] theorem setInfl_houseIn (s : State) p v : (setInfl s p v).houseIn = s.houseIn := rfl
@[simp] theorem setInfl_slotNow (s : State) p v : (setInfl s p v).slotNow = s.slotNow := rfl
@[simp] theorem setInfl_slotAt (s : State) p v : (setInfl s p v).slotAt = s.slotAt := rfl
@[simp] theorem setInfl_fab (s : State) p v : (setInfl s p v).fab = s.fab := rfl
@[simp] theorem setInfl_light (s : State) p v : (setInfl s p v).light = s.light := rfl
@[simp] theorem setInfl_mt (s : State) p v : (setInfl s p v).mt = s.mt := rfl
@[simp] theorem setInfl_host (s : State) p v : (setInfl s p v).host = s.host := rfl
@[simp] theorem setInfl_dramStacks (s : State) p v : (setInfl s p v).dramStacks = s.dramStacks := rfl
@[simp] theorem setInfl_setsLost (s : State) p v : (setInfl s p v).setsLost = s.setsLost := rfl
@[simp] theorem setInfl_setBase (s : State) p v : (setInfl s p v).setBase = s.setBase := rfl
@[simp] theorem setInfl_flowKinds (s : State) p v : (setInfl s p v).flowKinds = s.flowKinds := rfl
@[simp] theorem setInfl_job (s : State) p v : (setInfl s p v).job = s.job := rfl
@[simp] theorem setInfl_lastRing (s : State) p v : (setInfl s p v).lastRing = s.lastRing := rfl
@[simp] theorem setInfl_codes (s : State) p v : (setInfl s p v).codes = s.codes := rfl
@[simp] theorem setInfl_faults (s : State) p v : (setInfl s p v).faults = s.faults := rfl
@[simp] theorem setInfl_journal (s : State) p v : (setInfl s p v).journal = s.journal := rfl
@[simp] theorem setInfl_carafe0 (s : State) p v : (setInfl s p v).carafe0 = s.carafe0 := rfl
@[simp] theorem setInfl_carafe1 (s : State) p v : (setInfl s p v).carafe1 = s.carafe1 := rfl
@[simp] theorem setInfl_mirror (s : State) p v : (setInfl s p v).mirror = s.mirror := rfl
@[simp] theorem setInfl_wear (s : State) p v : (setInfl s p v).wear = s.wear := rfl
@[simp] theorem setInfl_punel (s : State) p v : (setInfl s p v).punel = s.punel := rfl
@[simp] theorem setInfl_sec (s : State) p v : (setInfl s p v).sec = s.sec := rfl
@[simp] theorem setInfl_startup (s : State) p v : (setInfl s p v).startup = s.startup := rfl
@[simp] theorem setInfl_wakeClears (s : State) p v : (setInfl s p v).wakeClears = s.wakeClears := rfl
@[simp] theorem setInfl_domains (s : State) p v : (setInfl s p v).domains = s.domains := rfl
@[simp] theorem setInfl_pow (s : State) p v : (setInfl s p v).pow = s.pow := rfl
@[simp] theorem setInfl_therm (s : State) p v : (setInfl s p v).therm = s.therm := rfl
@[simp] theorem setInfl_coolant (s : State) p v : (setInfl s p v).coolant = s.coolant := rfl

@[simp] theorem setPort_pending (s : State) p v : (setPort s p v).pending = s.pending := rfl
@[simp] theorem setPort_ticks (s : State) p v : (setPort s p v).ticks = s.ticks := rfl
@[simp] theorem setPort_now (s : State) p v : (setPort s p v).now = s.now := rfl
@[simp] theorem setPort_freeCtr (s : State) p v : (setPort s p v).freeCtr = s.freeCtr := rfl
@[simp] theorem setPort_sent (s : State) p v : (setPort s p v).sent = s.sent := rfl
@[simp] theorem setPort_dict (s : State) p v : (setPort s p v).dict = s.dict := rfl
@[simp] theorem setPort_blobs (s : State) p v : (setPort s p v).blobs = s.blobs := rfl
@[simp] theorem setPort_active (s : State) p v : (setPort s p v).active = s.active := rfl
@[simp] theorem setPort_role0 (s : State) p v : (setPort s p v).role0 = s.role0 := rfl
@[simp] theorem setPort_role1 (s : State) p v : (setPort s p v).role1 = s.role1 := rfl
@[simp] theorem setPort_bars (s : State) p v : (setPort s p v).bars = s.bars := rfl
@[simp] theorem setPort_roleEpoch (s : State) p v : (setPort s p v).roleEpoch = s.roleEpoch := rfl
@[simp] theorem setPort_named (s : State) p v : (setPort s p v).named = s.named := rfl
@[simp] theorem setPort_handback (s : State) p v : (setPort s p v).handback = s.handback := rfl
@[simp] theorem setPort_ctrlSeq (s : State) p v : (setPort s p v).ctrlSeq = s.ctrlSeq := rfl
@[simp] theorem setPort_srcSeq (s : State) p v : (setPort s p v).srcSeq = s.srcSeq := rfl
@[simp] theorem setPort_ctrlWin (s : State) p v : (setPort s p v).ctrlWin = s.ctrlWin := rfl
@[simp] theorem setPort_tiles (s : State) p v : (setPort s p v).tiles = s.tiles := rfl
@[simp] theorem setPort_dies (s : State) p v : (setPort s p v).dies = s.dies := rfl
@[simp] theorem setPort_infl (s : State) p v : (setPort s p v).infl = s.infl := rfl
@[simp] theorem setPort_sigFails (s : State) p v : (setPort s p v).sigFails = s.sigFails := rfl
@[simp] theorem setPort_sigReplay (s : State) p v : (setPort s p v).sigReplay = s.sigReplay := rfl
@[simp] theorem setPort_sigDown (s : State) p v : (setPort s p v).sigDown = s.sigDown := rfl
@[simp] theorem setPort_sigDark (s : State) p v : (setPort s p v).sigDark = s.sigDark := rfl
@[simp] theorem setPort_bts (s : State) p v : (setPort s p v).bts = s.bts := rfl
@[simp] theorem setPort_blend (s : State) p v : (setPort s p v).blend = s.blend := rfl
@[simp] theorem setPort_arbs (s : State) p v : (setPort s p v).arbs = s.arbs := rfl
@[simp] theorem setPort_boundary (s : State) p v : (setPort s p v).boundary = s.boundary := rfl
@[simp] theorem setPort_changes (s : State) p v : (setPort s p v).changes = s.changes := rfl
@[simp] theorem setPort_houseq (s : State) p v : (setPort s p v).houseq = s.houseq := rfl
@[simp] theorem setPort_houseIn (s : State) p v : (setPort s p v).houseIn = s.houseIn := rfl
@[simp] theorem setPort_slotNow (s : State) p v : (setPort s p v).slotNow = s.slotNow := rfl
@[simp] theorem setPort_slotAt (s : State) p v : (setPort s p v).slotAt = s.slotAt := rfl
@[simp] theorem setPort_fab (s : State) p v : (setPort s p v).fab = s.fab := rfl
@[simp] theorem setPort_light (s : State) p v : (setPort s p v).light = s.light := rfl
@[simp] theorem setPort_mt (s : State) p v : (setPort s p v).mt = s.mt := rfl
@[simp] theorem setPort_host (s : State) p v : (setPort s p v).host = s.host := rfl
@[simp] theorem setPort_dramStacks (s : State) p v : (setPort s p v).dramStacks = s.dramStacks := rfl
@[simp] theorem setPort_setsLost (s : State) p v : (setPort s p v).setsLost = s.setsLost := rfl
@[simp] theorem setPort_setBase (s : State) p v : (setPort s p v).setBase = s.setBase := rfl
@[simp] theorem setPort_flowKinds (s : State) p v : (setPort s p v).flowKinds = s.flowKinds := rfl
@[simp] theorem setPort_job (s : State) p v : (setPort s p v).job = s.job := rfl
@[simp] theorem setPort_lastRing (s : State) p v : (setPort s p v).lastRing = s.lastRing := rfl
@[simp] theorem setPort_codes (s : State) p v : (setPort s p v).codes = s.codes := rfl
@[simp] theorem setPort_faults (s : State) p v : (setPort s p v).faults = s.faults := rfl
@[simp] theorem setPort_journal (s : State) p v : (setPort s p v).journal = s.journal := rfl
@[simp] theorem setPort_carafe0 (s : State) p v : (setPort s p v).carafe0 = s.carafe0 := rfl
@[simp] theorem setPort_carafe1 (s : State) p v : (setPort s p v).carafe1 = s.carafe1 := rfl
@[simp] theorem setPort_mirror (s : State) p v : (setPort s p v).mirror = s.mirror := rfl
@[simp] theorem setPort_wear (s : State) p v : (setPort s p v).wear = s.wear := rfl
@[simp] theorem setPort_punel (s : State) p v : (setPort s p v).punel = s.punel := rfl
@[simp] theorem setPort_sec (s : State) p v : (setPort s p v).sec = s.sec := rfl
@[simp] theorem setPort_startup (s : State) p v : (setPort s p v).startup = s.startup := rfl
@[simp] theorem setPort_wakeClears (s : State) p v : (setPort s p v).wakeClears = s.wakeClears := rfl
@[simp] theorem setPort_domains (s : State) p v : (setPort s p v).domains = s.domains := rfl
@[simp] theorem setPort_pow (s : State) p v : (setPort s p v).pow = s.pow := rfl
@[simp] theorem setPort_therm (s : State) p v : (setPort s p v).therm = s.therm := rfl
@[simp] theorem setPort_coolant (s : State) p v : (setPort s p v).coolant = s.coolant := rfl

@[simp] theorem setBt_pending (s : State) n v : (setBt s n v).pending = s.pending := rfl
@[simp] theorem setBt_ticks (s : State) n v : (setBt s n v).ticks = s.ticks := rfl
@[simp] theorem setBt_now (s : State) n v : (setBt s n v).now = s.now := rfl
@[simp] theorem setBt_freeCtr (s : State) n v : (setBt s n v).freeCtr = s.freeCtr := rfl
@[simp] theorem setBt_sent (s : State) n v : (setBt s n v).sent = s.sent := rfl
@[simp] theorem setBt_dict (s : State) n v : (setBt s n v).dict = s.dict := rfl
@[simp] theorem setBt_blobs (s : State) n v : (setBt s n v).blobs = s.blobs := rfl
@[simp] theorem setBt_active (s : State) n v : (setBt s n v).active = s.active := rfl
@[simp] theorem setBt_role0 (s : State) n v : (setBt s n v).role0 = s.role0 := rfl
@[simp] theorem setBt_role1 (s : State) n v : (setBt s n v).role1 = s.role1 := rfl
@[simp] theorem setBt_bars (s : State) n v : (setBt s n v).bars = s.bars := rfl
@[simp] theorem setBt_roleEpoch (s : State) n v : (setBt s n v).roleEpoch = s.roleEpoch := rfl
@[simp] theorem setBt_named (s : State) n v : (setBt s n v).named = s.named := rfl
@[simp] theorem setBt_handback (s : State) n v : (setBt s n v).handback = s.handback := rfl
@[simp] theorem setBt_ctrlSeq (s : State) n v : (setBt s n v).ctrlSeq = s.ctrlSeq := rfl
@[simp] theorem setBt_srcSeq (s : State) n v : (setBt s n v).srcSeq = s.srcSeq := rfl
@[simp] theorem setBt_ctrlWin (s : State) n v : (setBt s n v).ctrlWin = s.ctrlWin := rfl
@[simp] theorem setBt_tiles (s : State) n v : (setBt s n v).tiles = s.tiles := rfl
@[simp] theorem setBt_dies (s : State) n v : (setBt s n v).dies = s.dies := rfl
@[simp] theorem setBt_infl (s : State) n v : (setBt s n v).infl = s.infl := rfl
@[simp] theorem setBt_sigFails (s : State) n v : (setBt s n v).sigFails = s.sigFails := rfl
@[simp] theorem setBt_sigReplay (s : State) n v : (setBt s n v).sigReplay = s.sigReplay := rfl
@[simp] theorem setBt_sigDown (s : State) n v : (setBt s n v).sigDown = s.sigDown := rfl
@[simp] theorem setBt_sigDark (s : State) n v : (setBt s n v).sigDark = s.sigDark := rfl
@[simp] theorem setBt_ports (s : State) n v : (setBt s n v).ports = s.ports := rfl
@[simp] theorem setBt_blend (s : State) n v : (setBt s n v).blend = s.blend := rfl
@[simp] theorem setBt_arbs (s : State) n v : (setBt s n v).arbs = s.arbs := rfl
@[simp] theorem setBt_boundary (s : State) n v : (setBt s n v).boundary = s.boundary := rfl
@[simp] theorem setBt_changes (s : State) n v : (setBt s n v).changes = s.changes := rfl
@[simp] theorem setBt_houseq (s : State) n v : (setBt s n v).houseq = s.houseq := rfl
@[simp] theorem setBt_houseIn (s : State) n v : (setBt s n v).houseIn = s.houseIn := rfl
@[simp] theorem setBt_slotNow (s : State) n v : (setBt s n v).slotNow = s.slotNow := rfl
@[simp] theorem setBt_slotAt (s : State) n v : (setBt s n v).slotAt = s.slotAt := rfl
@[simp] theorem setBt_fab (s : State) n v : (setBt s n v).fab = s.fab := rfl
@[simp] theorem setBt_light (s : State) n v : (setBt s n v).light = s.light := rfl
@[simp] theorem setBt_mt (s : State) n v : (setBt s n v).mt = s.mt := rfl
@[simp] theorem setBt_host (s : State) n v : (setBt s n v).host = s.host := rfl
@[simp] theorem setBt_dramStacks (s : State) n v : (setBt s n v).dramStacks = s.dramStacks := rfl
@[simp] theorem setBt_setsLost (s : State) n v : (setBt s n v).setsLost = s.setsLost := rfl
@[simp] theorem setBt_setBase (s : State) n v : (setBt s n v).setBase = s.setBase := rfl
@[simp] theorem setBt_flowKinds (s : State) n v : (setBt s n v).flowKinds = s.flowKinds := rfl
@[simp] theorem setBt_job (s : State) n v : (setBt s n v).job = s.job := rfl
@[simp] theorem setBt_lastRing (s : State) n v : (setBt s n v).lastRing = s.lastRing := rfl
@[simp] theorem setBt_codes (s : State) n v : (setBt s n v).codes = s.codes := rfl
@[simp] theorem setBt_faults (s : State) n v : (setBt s n v).faults = s.faults := rfl
@[simp] theorem setBt_journal (s : State) n v : (setBt s n v).journal = s.journal := rfl
@[simp] theorem setBt_carafe0 (s : State) n v : (setBt s n v).carafe0 = s.carafe0 := rfl
@[simp] theorem setBt_carafe1 (s : State) n v : (setBt s n v).carafe1 = s.carafe1 := rfl
@[simp] theorem setBt_mirror (s : State) n v : (setBt s n v).mirror = s.mirror := rfl
@[simp] theorem setBt_wear (s : State) n v : (setBt s n v).wear = s.wear := rfl
@[simp] theorem setBt_punel (s : State) n v : (setBt s n v).punel = s.punel := rfl
@[simp] theorem setBt_sec (s : State) n v : (setBt s n v).sec = s.sec := rfl
@[simp] theorem setBt_startup (s : State) n v : (setBt s n v).startup = s.startup := rfl
@[simp] theorem setBt_wakeClears (s : State) n v : (setBt s n v).wakeClears = s.wakeClears := rfl
@[simp] theorem setBt_domains (s : State) n v : (setBt s n v).domains = s.domains := rfl
@[simp] theorem setBt_pow (s : State) n v : (setBt s n v).pow = s.pow := rfl
@[simp] theorem setBt_therm (s : State) n v : (setBt s n v).therm = s.therm := rfl
@[simp] theorem setBt_coolant (s : State) n v : (setBt s n v).coolant = s.coolant := rfl

@[simp] theorem setStack_pending (s : State) n v : (setStack s n v).pending = s.pending := rfl
@[simp] theorem setStack_ticks (s : State) n v : (setStack s n v).ticks = s.ticks := rfl
@[simp] theorem setStack_now (s : State) n v : (setStack s n v).now = s.now := rfl
@[simp] theorem setStack_freeCtr (s : State) n v : (setStack s n v).freeCtr = s.freeCtr := rfl
@[simp] theorem setStack_sent (s : State) n v : (setStack s n v).sent = s.sent := rfl
@[simp] theorem setStack_dict (s : State) n v : (setStack s n v).dict = s.dict := rfl
@[simp] theorem setStack_blobs (s : State) n v : (setStack s n v).blobs = s.blobs := rfl
@[simp] theorem setStack_active (s : State) n v : (setStack s n v).active = s.active := rfl
@[simp] theorem setStack_role0 (s : State) n v : (setStack s n v).role0 = s.role0 := rfl
@[simp] theorem setStack_role1 (s : State) n v : (setStack s n v).role1 = s.role1 := rfl
@[simp] theorem setStack_bars (s : State) n v : (setStack s n v).bars = s.bars := rfl
@[simp] theorem setStack_roleEpoch (s : State) n v : (setStack s n v).roleEpoch = s.roleEpoch := rfl
@[simp] theorem setStack_named (s : State) n v : (setStack s n v).named = s.named := rfl
@[simp] theorem setStack_handback (s : State) n v : (setStack s n v).handback = s.handback := rfl
@[simp] theorem setStack_ctrlSeq (s : State) n v : (setStack s n v).ctrlSeq = s.ctrlSeq := rfl
@[simp] theorem setStack_srcSeq (s : State) n v : (setStack s n v).srcSeq = s.srcSeq := rfl
@[simp] theorem setStack_ctrlWin (s : State) n v : (setStack s n v).ctrlWin = s.ctrlWin := rfl
@[simp] theorem setStack_tiles (s : State) n v : (setStack s n v).tiles = s.tiles := rfl
@[simp] theorem setStack_dies (s : State) n v : (setStack s n v).dies = s.dies := rfl
@[simp] theorem setStack_infl (s : State) n v : (setStack s n v).infl = s.infl := rfl
@[simp] theorem setStack_sigFails (s : State) n v : (setStack s n v).sigFails = s.sigFails := rfl
@[simp] theorem setStack_sigReplay (s : State) n v : (setStack s n v).sigReplay = s.sigReplay := rfl
@[simp] theorem setStack_sigDown (s : State) n v : (setStack s n v).sigDown = s.sigDown := rfl
@[simp] theorem setStack_sigDark (s : State) n v : (setStack s n v).sigDark = s.sigDark := rfl
@[simp] theorem setStack_ports (s : State) n v : (setStack s n v).ports = s.ports := rfl
@[simp] theorem setStack_bts (s : State) n v : (setStack s n v).bts = s.bts := rfl
@[simp] theorem setStack_blend (s : State) n v : (setStack s n v).blend = s.blend := rfl
@[simp] theorem setStack_arbs (s : State) n v : (setStack s n v).arbs = s.arbs := rfl
@[simp] theorem setStack_boundary (s : State) n v : (setStack s n v).boundary = s.boundary := rfl
@[simp] theorem setStack_changes (s : State) n v : (setStack s n v).changes = s.changes := rfl
@[simp] theorem setStack_houseq (s : State) n v : (setStack s n v).houseq = s.houseq := rfl
@[simp] theorem setStack_houseIn (s : State) n v : (setStack s n v).houseIn = s.houseIn := rfl
@[simp] theorem setStack_slotNow (s : State) n v : (setStack s n v).slotNow = s.slotNow := rfl
@[simp] theorem setStack_slotAt (s : State) n v : (setStack s n v).slotAt = s.slotAt := rfl
@[simp] theorem setStack_fab (s : State) n v : (setStack s n v).fab = s.fab := rfl
@[simp] theorem setStack_light (s : State) n v : (setStack s n v).light = s.light := rfl
@[simp] theorem setStack_mt (s : State) n v : (setStack s n v).mt = s.mt := rfl
@[simp] theorem setStack_host (s : State) n v : (setStack s n v).host = s.host := rfl
@[simp] theorem setStack_setsLost (s : State) n v : (setStack s n v).setsLost = s.setsLost := rfl
@[simp] theorem setStack_setBase (s : State) n v : (setStack s n v).setBase = s.setBase := rfl
@[simp] theorem setStack_flowKinds (s : State) n v : (setStack s n v).flowKinds = s.flowKinds := rfl
@[simp] theorem setStack_job (s : State) n v : (setStack s n v).job = s.job := rfl
@[simp] theorem setStack_lastRing (s : State) n v : (setStack s n v).lastRing = s.lastRing := rfl
@[simp] theorem setStack_codes (s : State) n v : (setStack s n v).codes = s.codes := rfl
@[simp] theorem setStack_faults (s : State) n v : (setStack s n v).faults = s.faults := rfl
@[simp] theorem setStack_journal (s : State) n v : (setStack s n v).journal = s.journal := rfl
@[simp] theorem setStack_carafe0 (s : State) n v : (setStack s n v).carafe0 = s.carafe0 := rfl
@[simp] theorem setStack_carafe1 (s : State) n v : (setStack s n v).carafe1 = s.carafe1 := rfl
@[simp] theorem setStack_mirror (s : State) n v : (setStack s n v).mirror = s.mirror := rfl
@[simp] theorem setStack_wear (s : State) n v : (setStack s n v).wear = s.wear := rfl
@[simp] theorem setStack_punel (s : State) n v : (setStack s n v).punel = s.punel := rfl
@[simp] theorem setStack_sec (s : State) n v : (setStack s n v).sec = s.sec := rfl
@[simp] theorem setStack_startup (s : State) n v : (setStack s n v).startup = s.startup := rfl
@[simp] theorem setStack_wakeClears (s : State) n v : (setStack s n v).wakeClears = s.wakeClears := rfl
@[simp] theorem setStack_domains (s : State) n v : (setStack s n v).domains = s.domains := rfl
@[simp] theorem setStack_pow (s : State) n v : (setStack s n v).pow = s.pow := rfl
@[simp] theorem setStack_therm (s : State) n v : (setStack s n v).therm = s.therm := rfl
@[simp] theorem setStack_coolant (s : State) n v : (setStack s n v).coolant = s.coolant := rfl

@[simp] theorem setDom_pending (s : State) d v : (setDom s d v).pending = s.pending := rfl
@[simp] theorem setDom_ticks (s : State) d v : (setDom s d v).ticks = s.ticks := rfl
@[simp] theorem setDom_now (s : State) d v : (setDom s d v).now = s.now := rfl
@[simp] theorem setDom_freeCtr (s : State) d v : (setDom s d v).freeCtr = s.freeCtr := rfl
@[simp] theorem setDom_sent (s : State) d v : (setDom s d v).sent = s.sent := rfl
@[simp] theorem setDom_dict (s : State) d v : (setDom s d v).dict = s.dict := rfl
@[simp] theorem setDom_blobs (s : State) d v : (setDom s d v).blobs = s.blobs := rfl
@[simp] theorem setDom_active (s : State) d v : (setDom s d v).active = s.active := rfl
@[simp] theorem setDom_role0 (s : State) d v : (setDom s d v).role0 = s.role0 := rfl
@[simp] theorem setDom_role1 (s : State) d v : (setDom s d v).role1 = s.role1 := rfl
@[simp] theorem setDom_bars (s : State) d v : (setDom s d v).bars = s.bars := rfl
@[simp] theorem setDom_roleEpoch (s : State) d v : (setDom s d v).roleEpoch = s.roleEpoch := rfl
@[simp] theorem setDom_named (s : State) d v : (setDom s d v).named = s.named := rfl
@[simp] theorem setDom_handback (s : State) d v : (setDom s d v).handback = s.handback := rfl
@[simp] theorem setDom_ctrlSeq (s : State) d v : (setDom s d v).ctrlSeq = s.ctrlSeq := rfl
@[simp] theorem setDom_srcSeq (s : State) d v : (setDom s d v).srcSeq = s.srcSeq := rfl
@[simp] theorem setDom_ctrlWin (s : State) d v : (setDom s d v).ctrlWin = s.ctrlWin := rfl
@[simp] theorem setDom_tiles (s : State) d v : (setDom s d v).tiles = s.tiles := rfl
@[simp] theorem setDom_dies (s : State) d v : (setDom s d v).dies = s.dies := rfl
@[simp] theorem setDom_infl (s : State) d v : (setDom s d v).infl = s.infl := rfl
@[simp] theorem setDom_sigFails (s : State) d v : (setDom s d v).sigFails = s.sigFails := rfl
@[simp] theorem setDom_sigReplay (s : State) d v : (setDom s d v).sigReplay = s.sigReplay := rfl
@[simp] theorem setDom_sigDown (s : State) d v : (setDom s d v).sigDown = s.sigDown := rfl
@[simp] theorem setDom_sigDark (s : State) d v : (setDom s d v).sigDark = s.sigDark := rfl
@[simp] theorem setDom_ports (s : State) d v : (setDom s d v).ports = s.ports := rfl
@[simp] theorem setDom_bts (s : State) d v : (setDom s d v).bts = s.bts := rfl
@[simp] theorem setDom_blend (s : State) d v : (setDom s d v).blend = s.blend := rfl
@[simp] theorem setDom_arbs (s : State) d v : (setDom s d v).arbs = s.arbs := rfl
@[simp] theorem setDom_boundary (s : State) d v : (setDom s d v).boundary = s.boundary := rfl
@[simp] theorem setDom_changes (s : State) d v : (setDom s d v).changes = s.changes := rfl
@[simp] theorem setDom_houseq (s : State) d v : (setDom s d v).houseq = s.houseq := rfl
@[simp] theorem setDom_houseIn (s : State) d v : (setDom s d v).houseIn = s.houseIn := rfl
@[simp] theorem setDom_slotNow (s : State) d v : (setDom s d v).slotNow = s.slotNow := rfl
@[simp] theorem setDom_slotAt (s : State) d v : (setDom s d v).slotAt = s.slotAt := rfl
@[simp] theorem setDom_fab (s : State) d v : (setDom s d v).fab = s.fab := rfl
@[simp] theorem setDom_light (s : State) d v : (setDom s d v).light = s.light := rfl
@[simp] theorem setDom_mt (s : State) d v : (setDom s d v).mt = s.mt := rfl
@[simp] theorem setDom_host (s : State) d v : (setDom s d v).host = s.host := rfl
@[simp] theorem setDom_dramStacks (s : State) d v : (setDom s d v).dramStacks = s.dramStacks := rfl
@[simp] theorem setDom_setsLost (s : State) d v : (setDom s d v).setsLost = s.setsLost := rfl
@[simp] theorem setDom_setBase (s : State) d v : (setDom s d v).setBase = s.setBase := rfl
@[simp] theorem setDom_flowKinds (s : State) d v : (setDom s d v).flowKinds = s.flowKinds := rfl
@[simp] theorem setDom_job (s : State) d v : (setDom s d v).job = s.job := rfl
@[simp] theorem setDom_lastRing (s : State) d v : (setDom s d v).lastRing = s.lastRing := rfl
@[simp] theorem setDom_codes (s : State) d v : (setDom s d v).codes = s.codes := rfl
@[simp] theorem setDom_faults (s : State) d v : (setDom s d v).faults = s.faults := rfl
@[simp] theorem setDom_journal (s : State) d v : (setDom s d v).journal = s.journal := rfl
@[simp] theorem setDom_carafe0 (s : State) d v : (setDom s d v).carafe0 = s.carafe0 := rfl
@[simp] theorem setDom_carafe1 (s : State) d v : (setDom s d v).carafe1 = s.carafe1 := rfl
@[simp] theorem setDom_mirror (s : State) d v : (setDom s d v).mirror = s.mirror := rfl
@[simp] theorem setDom_wear (s : State) d v : (setDom s d v).wear = s.wear := rfl
@[simp] theorem setDom_punel (s : State) d v : (setDom s d v).punel = s.punel := rfl
@[simp] theorem setDom_sec (s : State) d v : (setDom s d v).sec = s.sec := rfl
@[simp] theorem setDom_startup (s : State) d v : (setDom s d v).startup = s.startup := rfl
@[simp] theorem setDom_wakeClears (s : State) d v : (setDom s d v).wakeClears = s.wakeClears := rfl
@[simp] theorem setDom_pow (s : State) d v : (setDom s d v).pow = s.pow := rfl
@[simp] theorem setDom_therm (s : State) d v : (setDom s d v).therm = s.therm := rfl
@[simp] theorem setDom_coolant (s : State) d v : (setDom s d v).coolant = s.coolant := rfl

@[simp] theorem updTile_pending (s : State) k f : (updTile s k f).pending = s.pending := rfl
@[simp] theorem updTile_ticks (s : State) k f : (updTile s k f).ticks = s.ticks := rfl
@[simp] theorem updTile_now (s : State) k f : (updTile s k f).now = s.now := rfl
@[simp] theorem updTile_freeCtr (s : State) k f : (updTile s k f).freeCtr = s.freeCtr := rfl
@[simp] theorem updTile_sent (s : State) k f : (updTile s k f).sent = s.sent := rfl
@[simp] theorem updTile_dict (s : State) k f : (updTile s k f).dict = s.dict := rfl
@[simp] theorem updTile_blobs (s : State) k f : (updTile s k f).blobs = s.blobs := rfl
@[simp] theorem updTile_active (s : State) k f : (updTile s k f).active = s.active := rfl
@[simp] theorem updTile_role0 (s : State) k f : (updTile s k f).role0 = s.role0 := rfl
@[simp] theorem updTile_role1 (s : State) k f : (updTile s k f).role1 = s.role1 := rfl
@[simp] theorem updTile_bars (s : State) k f : (updTile s k f).bars = s.bars := rfl
@[simp] theorem updTile_roleEpoch (s : State) k f : (updTile s k f).roleEpoch = s.roleEpoch := rfl
@[simp] theorem updTile_named (s : State) k f : (updTile s k f).named = s.named := rfl
@[simp] theorem updTile_handback (s : State) k f : (updTile s k f).handback = s.handback := rfl
@[simp] theorem updTile_ctrlSeq (s : State) k f : (updTile s k f).ctrlSeq = s.ctrlSeq := rfl
@[simp] theorem updTile_srcSeq (s : State) k f : (updTile s k f).srcSeq = s.srcSeq := rfl
@[simp] theorem updTile_ctrlWin (s : State) k f : (updTile s k f).ctrlWin = s.ctrlWin := rfl
@[simp] theorem updTile_dies (s : State) k f : (updTile s k f).dies = s.dies := rfl
@[simp] theorem updTile_infl (s : State) k f : (updTile s k f).infl = s.infl := rfl
@[simp] theorem updTile_sigFails (s : State) k f : (updTile s k f).sigFails = s.sigFails := rfl
@[simp] theorem updTile_sigReplay (s : State) k f : (updTile s k f).sigReplay = s.sigReplay := rfl
@[simp] theorem updTile_sigDown (s : State) k f : (updTile s k f).sigDown = s.sigDown := rfl
@[simp] theorem updTile_sigDark (s : State) k f : (updTile s k f).sigDark = s.sigDark := rfl
@[simp] theorem updTile_ports (s : State) k f : (updTile s k f).ports = s.ports := rfl
@[simp] theorem updTile_bts (s : State) k f : (updTile s k f).bts = s.bts := rfl
@[simp] theorem updTile_blend (s : State) k f : (updTile s k f).blend = s.blend := rfl
@[simp] theorem updTile_arbs (s : State) k f : (updTile s k f).arbs = s.arbs := rfl
@[simp] theorem updTile_boundary (s : State) k f : (updTile s k f).boundary = s.boundary := rfl
@[simp] theorem updTile_changes (s : State) k f : (updTile s k f).changes = s.changes := rfl
@[simp] theorem updTile_houseq (s : State) k f : (updTile s k f).houseq = s.houseq := rfl
@[simp] theorem updTile_houseIn (s : State) k f : (updTile s k f).houseIn = s.houseIn := rfl
@[simp] theorem updTile_slotNow (s : State) k f : (updTile s k f).slotNow = s.slotNow := rfl
@[simp] theorem updTile_slotAt (s : State) k f : (updTile s k f).slotAt = s.slotAt := rfl
@[simp] theorem updTile_fab (s : State) k f : (updTile s k f).fab = s.fab := rfl
@[simp] theorem updTile_light (s : State) k f : (updTile s k f).light = s.light := rfl
@[simp] theorem updTile_mt (s : State) k f : (updTile s k f).mt = s.mt := rfl
@[simp] theorem updTile_host (s : State) k f : (updTile s k f).host = s.host := rfl
@[simp] theorem updTile_dramStacks (s : State) k f : (updTile s k f).dramStacks = s.dramStacks := rfl
@[simp] theorem updTile_setsLost (s : State) k f : (updTile s k f).setsLost = s.setsLost := rfl
@[simp] theorem updTile_setBase (s : State) k f : (updTile s k f).setBase = s.setBase := rfl
@[simp] theorem updTile_flowKinds (s : State) k f : (updTile s k f).flowKinds = s.flowKinds := rfl
@[simp] theorem updTile_job (s : State) k f : (updTile s k f).job = s.job := rfl
@[simp] theorem updTile_lastRing (s : State) k f : (updTile s k f).lastRing = s.lastRing := rfl
@[simp] theorem updTile_codes (s : State) k f : (updTile s k f).codes = s.codes := rfl
@[simp] theorem updTile_faults (s : State) k f : (updTile s k f).faults = s.faults := rfl
@[simp] theorem updTile_journal (s : State) k f : (updTile s k f).journal = s.journal := rfl
@[simp] theorem updTile_carafe0 (s : State) k f : (updTile s k f).carafe0 = s.carafe0 := rfl
@[simp] theorem updTile_carafe1 (s : State) k f : (updTile s k f).carafe1 = s.carafe1 := rfl
@[simp] theorem updTile_mirror (s : State) k f : (updTile s k f).mirror = s.mirror := rfl
@[simp] theorem updTile_wear (s : State) k f : (updTile s k f).wear = s.wear := rfl
@[simp] theorem updTile_punel (s : State) k f : (updTile s k f).punel = s.punel := rfl
@[simp] theorem updTile_sec (s : State) k f : (updTile s k f).sec = s.sec := rfl
@[simp] theorem updTile_startup (s : State) k f : (updTile s k f).startup = s.startup := rfl
@[simp] theorem updTile_wakeClears (s : State) k f : (updTile s k f).wakeClears = s.wakeClears := rfl
@[simp] theorem updTile_domains (s : State) k f : (updTile s k f).domains = s.domains := rfl
@[simp] theorem updTile_pow (s : State) k f : (updTile s k f).pow = s.pow := rfl
@[simp] theorem updTile_therm (s : State) k f : (updTile s k f).therm = s.therm := rfl
@[simp] theorem updTile_coolant (s : State) k f : (updTile s k f).coolant = s.coolant := rfl

@[simp] theorem updStack_pending (s : State) k f : (updStack s k f).pending = s.pending := rfl
@[simp] theorem updStack_ticks (s : State) k f : (updStack s k f).ticks = s.ticks := rfl
@[simp] theorem updStack_now (s : State) k f : (updStack s k f).now = s.now := rfl
@[simp] theorem updStack_freeCtr (s : State) k f : (updStack s k f).freeCtr = s.freeCtr := rfl
@[simp] theorem updStack_sent (s : State) k f : (updStack s k f).sent = s.sent := rfl
@[simp] theorem updStack_dict (s : State) k f : (updStack s k f).dict = s.dict := rfl
@[simp] theorem updStack_blobs (s : State) k f : (updStack s k f).blobs = s.blobs := rfl
@[simp] theorem updStack_active (s : State) k f : (updStack s k f).active = s.active := rfl
@[simp] theorem updStack_role0 (s : State) k f : (updStack s k f).role0 = s.role0 := rfl
@[simp] theorem updStack_role1 (s : State) k f : (updStack s k f).role1 = s.role1 := rfl
@[simp] theorem updStack_bars (s : State) k f : (updStack s k f).bars = s.bars := rfl
@[simp] theorem updStack_roleEpoch (s : State) k f : (updStack s k f).roleEpoch = s.roleEpoch := rfl
@[simp] theorem updStack_named (s : State) k f : (updStack s k f).named = s.named := rfl
@[simp] theorem updStack_handback (s : State) k f : (updStack s k f).handback = s.handback := rfl
@[simp] theorem updStack_ctrlSeq (s : State) k f : (updStack s k f).ctrlSeq = s.ctrlSeq := rfl
@[simp] theorem updStack_srcSeq (s : State) k f : (updStack s k f).srcSeq = s.srcSeq := rfl
@[simp] theorem updStack_ctrlWin (s : State) k f : (updStack s k f).ctrlWin = s.ctrlWin := rfl
@[simp] theorem updStack_tiles (s : State) k f : (updStack s k f).tiles = s.tiles := rfl
@[simp] theorem updStack_dies (s : State) k f : (updStack s k f).dies = s.dies := rfl
@[simp] theorem updStack_infl (s : State) k f : (updStack s k f).infl = s.infl := rfl
@[simp] theorem updStack_sigFails (s : State) k f : (updStack s k f).sigFails = s.sigFails := rfl
@[simp] theorem updStack_sigReplay (s : State) k f : (updStack s k f).sigReplay = s.sigReplay := rfl
@[simp] theorem updStack_sigDown (s : State) k f : (updStack s k f).sigDown = s.sigDown := rfl
@[simp] theorem updStack_sigDark (s : State) k f : (updStack s k f).sigDark = s.sigDark := rfl
@[simp] theorem updStack_ports (s : State) k f : (updStack s k f).ports = s.ports := rfl
@[simp] theorem updStack_bts (s : State) k f : (updStack s k f).bts = s.bts := rfl
@[simp] theorem updStack_blend (s : State) k f : (updStack s k f).blend = s.blend := rfl
@[simp] theorem updStack_arbs (s : State) k f : (updStack s k f).arbs = s.arbs := rfl
@[simp] theorem updStack_boundary (s : State) k f : (updStack s k f).boundary = s.boundary := rfl
@[simp] theorem updStack_changes (s : State) k f : (updStack s k f).changes = s.changes := rfl
@[simp] theorem updStack_houseq (s : State) k f : (updStack s k f).houseq = s.houseq := rfl
@[simp] theorem updStack_houseIn (s : State) k f : (updStack s k f).houseIn = s.houseIn := rfl
@[simp] theorem updStack_slotNow (s : State) k f : (updStack s k f).slotNow = s.slotNow := rfl
@[simp] theorem updStack_slotAt (s : State) k f : (updStack s k f).slotAt = s.slotAt := rfl
@[simp] theorem updStack_fab (s : State) k f : (updStack s k f).fab = s.fab := rfl
@[simp] theorem updStack_light (s : State) k f : (updStack s k f).light = s.light := rfl
@[simp] theorem updStack_mt (s : State) k f : (updStack s k f).mt = s.mt := rfl
@[simp] theorem updStack_host (s : State) k f : (updStack s k f).host = s.host := rfl
@[simp] theorem updStack_setsLost (s : State) k f : (updStack s k f).setsLost = s.setsLost := rfl
@[simp] theorem updStack_setBase (s : State) k f : (updStack s k f).setBase = s.setBase := rfl
@[simp] theorem updStack_flowKinds (s : State) k f : (updStack s k f).flowKinds = s.flowKinds := rfl
@[simp] theorem updStack_job (s : State) k f : (updStack s k f).job = s.job := rfl
@[simp] theorem updStack_lastRing (s : State) k f : (updStack s k f).lastRing = s.lastRing := rfl
@[simp] theorem updStack_codes (s : State) k f : (updStack s k f).codes = s.codes := rfl
@[simp] theorem updStack_faults (s : State) k f : (updStack s k f).faults = s.faults := rfl
@[simp] theorem updStack_journal (s : State) k f : (updStack s k f).journal = s.journal := rfl
@[simp] theorem updStack_carafe0 (s : State) k f : (updStack s k f).carafe0 = s.carafe0 := rfl
@[simp] theorem updStack_carafe1 (s : State) k f : (updStack s k f).carafe1 = s.carafe1 := rfl
@[simp] theorem updStack_mirror (s : State) k f : (updStack s k f).mirror = s.mirror := rfl
@[simp] theorem updStack_wear (s : State) k f : (updStack s k f).wear = s.wear := rfl
@[simp] theorem updStack_punel (s : State) k f : (updStack s k f).punel = s.punel := rfl
@[simp] theorem updStack_sec (s : State) k f : (updStack s k f).sec = s.sec := rfl
@[simp] theorem updStack_startup (s : State) k f : (updStack s k f).startup = s.startup := rfl
@[simp] theorem updStack_wakeClears (s : State) k f : (updStack s k f).wakeClears = s.wakeClears := rfl
@[simp] theorem updStack_domains (s : State) k f : (updStack s k f).domains = s.domains := rfl
@[simp] theorem updStack_pow (s : State) k f : (updStack s k f).pow = s.pow := rfl
@[simp] theorem updStack_therm (s : State) k f : (updStack s k f).therm = s.therm := rfl
@[simp] theorem updStack_coolant (s : State) k f : (updStack s k f).coolant = s.coolant := rfl

@[simp] theorem updBt_pending (s : State) k f : (updBt s k f).pending = s.pending := rfl
@[simp] theorem updBt_ticks (s : State) k f : (updBt s k f).ticks = s.ticks := rfl
@[simp] theorem updBt_now (s : State) k f : (updBt s k f).now = s.now := rfl
@[simp] theorem updBt_freeCtr (s : State) k f : (updBt s k f).freeCtr = s.freeCtr := rfl
@[simp] theorem updBt_sent (s : State) k f : (updBt s k f).sent = s.sent := rfl
@[simp] theorem updBt_dict (s : State) k f : (updBt s k f).dict = s.dict := rfl
@[simp] theorem updBt_blobs (s : State) k f : (updBt s k f).blobs = s.blobs := rfl
@[simp] theorem updBt_active (s : State) k f : (updBt s k f).active = s.active := rfl
@[simp] theorem updBt_role0 (s : State) k f : (updBt s k f).role0 = s.role0 := rfl
@[simp] theorem updBt_role1 (s : State) k f : (updBt s k f).role1 = s.role1 := rfl
@[simp] theorem updBt_bars (s : State) k f : (updBt s k f).bars = s.bars := rfl
@[simp] theorem updBt_roleEpoch (s : State) k f : (updBt s k f).roleEpoch = s.roleEpoch := rfl
@[simp] theorem updBt_named (s : State) k f : (updBt s k f).named = s.named := rfl
@[simp] theorem updBt_handback (s : State) k f : (updBt s k f).handback = s.handback := rfl
@[simp] theorem updBt_ctrlSeq (s : State) k f : (updBt s k f).ctrlSeq = s.ctrlSeq := rfl
@[simp] theorem updBt_srcSeq (s : State) k f : (updBt s k f).srcSeq = s.srcSeq := rfl
@[simp] theorem updBt_ctrlWin (s : State) k f : (updBt s k f).ctrlWin = s.ctrlWin := rfl
@[simp] theorem updBt_tiles (s : State) k f : (updBt s k f).tiles = s.tiles := rfl
@[simp] theorem updBt_dies (s : State) k f : (updBt s k f).dies = s.dies := rfl
@[simp] theorem updBt_infl (s : State) k f : (updBt s k f).infl = s.infl := rfl
@[simp] theorem updBt_sigFails (s : State) k f : (updBt s k f).sigFails = s.sigFails := rfl
@[simp] theorem updBt_sigReplay (s : State) k f : (updBt s k f).sigReplay = s.sigReplay := rfl
@[simp] theorem updBt_sigDown (s : State) k f : (updBt s k f).sigDown = s.sigDown := rfl
@[simp] theorem updBt_sigDark (s : State) k f : (updBt s k f).sigDark = s.sigDark := rfl
@[simp] theorem updBt_ports (s : State) k f : (updBt s k f).ports = s.ports := rfl
@[simp] theorem updBt_blend (s : State) k f : (updBt s k f).blend = s.blend := rfl
@[simp] theorem updBt_arbs (s : State) k f : (updBt s k f).arbs = s.arbs := rfl
@[simp] theorem updBt_boundary (s : State) k f : (updBt s k f).boundary = s.boundary := rfl
@[simp] theorem updBt_changes (s : State) k f : (updBt s k f).changes = s.changes := rfl
@[simp] theorem updBt_houseq (s : State) k f : (updBt s k f).houseq = s.houseq := rfl
@[simp] theorem updBt_houseIn (s : State) k f : (updBt s k f).houseIn = s.houseIn := rfl
@[simp] theorem updBt_slotNow (s : State) k f : (updBt s k f).slotNow = s.slotNow := rfl
@[simp] theorem updBt_slotAt (s : State) k f : (updBt s k f).slotAt = s.slotAt := rfl
@[simp] theorem updBt_fab (s : State) k f : (updBt s k f).fab = s.fab := rfl
@[simp] theorem updBt_light (s : State) k f : (updBt s k f).light = s.light := rfl
@[simp] theorem updBt_mt (s : State) k f : (updBt s k f).mt = s.mt := rfl
@[simp] theorem updBt_host (s : State) k f : (updBt s k f).host = s.host := rfl
@[simp] theorem updBt_dramStacks (s : State) k f : (updBt s k f).dramStacks = s.dramStacks := rfl
@[simp] theorem updBt_setsLost (s : State) k f : (updBt s k f).setsLost = s.setsLost := rfl
@[simp] theorem updBt_setBase (s : State) k f : (updBt s k f).setBase = s.setBase := rfl
@[simp] theorem updBt_flowKinds (s : State) k f : (updBt s k f).flowKinds = s.flowKinds := rfl
@[simp] theorem updBt_job (s : State) k f : (updBt s k f).job = s.job := rfl
@[simp] theorem updBt_lastRing (s : State) k f : (updBt s k f).lastRing = s.lastRing := rfl
@[simp] theorem updBt_codes (s : State) k f : (updBt s k f).codes = s.codes := rfl
@[simp] theorem updBt_faults (s : State) k f : (updBt s k f).faults = s.faults := rfl
@[simp] theorem updBt_journal (s : State) k f : (updBt s k f).journal = s.journal := rfl
@[simp] theorem updBt_carafe0 (s : State) k f : (updBt s k f).carafe0 = s.carafe0 := rfl
@[simp] theorem updBt_carafe1 (s : State) k f : (updBt s k f).carafe1 = s.carafe1 := rfl
@[simp] theorem updBt_mirror (s : State) k f : (updBt s k f).mirror = s.mirror := rfl
@[simp] theorem updBt_wear (s : State) k f : (updBt s k f).wear = s.wear := rfl
@[simp] theorem updBt_punel (s : State) k f : (updBt s k f).punel = s.punel := rfl
@[simp] theorem updBt_sec (s : State) k f : (updBt s k f).sec = s.sec := rfl
@[simp] theorem updBt_startup (s : State) k f : (updBt s k f).startup = s.startup := rfl
@[simp] theorem updBt_wakeClears (s : State) k f : (updBt s k f).wakeClears = s.wakeClears := rfl
@[simp] theorem updBt_domains (s : State) k f : (updBt s k f).domains = s.domains := rfl
@[simp] theorem updBt_pow (s : State) k f : (updBt s k f).pow = s.pow := rfl
@[simp] theorem updBt_therm (s : State) k f : (updBt s k f).therm = s.therm := rfl
@[simp] theorem updBt_coolant (s : State) k f : (updBt s k f).coolant = s.coolant := rfl

@[simp] theorem updPort_pending (s : State) k f : (updPort s k f).pending = s.pending := rfl
@[simp] theorem updPort_ticks (s : State) k f : (updPort s k f).ticks = s.ticks := rfl
@[simp] theorem updPort_now (s : State) k f : (updPort s k f).now = s.now := rfl
@[simp] theorem updPort_freeCtr (s : State) k f : (updPort s k f).freeCtr = s.freeCtr := rfl
@[simp] theorem updPort_sent (s : State) k f : (updPort s k f).sent = s.sent := rfl
@[simp] theorem updPort_dict (s : State) k f : (updPort s k f).dict = s.dict := rfl
@[simp] theorem updPort_blobs (s : State) k f : (updPort s k f).blobs = s.blobs := rfl
@[simp] theorem updPort_active (s : State) k f : (updPort s k f).active = s.active := rfl
@[simp] theorem updPort_role0 (s : State) k f : (updPort s k f).role0 = s.role0 := rfl
@[simp] theorem updPort_role1 (s : State) k f : (updPort s k f).role1 = s.role1 := rfl
@[simp] theorem updPort_bars (s : State) k f : (updPort s k f).bars = s.bars := rfl
@[simp] theorem updPort_roleEpoch (s : State) k f : (updPort s k f).roleEpoch = s.roleEpoch := rfl
@[simp] theorem updPort_named (s : State) k f : (updPort s k f).named = s.named := rfl
@[simp] theorem updPort_handback (s : State) k f : (updPort s k f).handback = s.handback := rfl
@[simp] theorem updPort_ctrlSeq (s : State) k f : (updPort s k f).ctrlSeq = s.ctrlSeq := rfl
@[simp] theorem updPort_srcSeq (s : State) k f : (updPort s k f).srcSeq = s.srcSeq := rfl
@[simp] theorem updPort_ctrlWin (s : State) k f : (updPort s k f).ctrlWin = s.ctrlWin := rfl
@[simp] theorem updPort_tiles (s : State) k f : (updPort s k f).tiles = s.tiles := rfl
@[simp] theorem updPort_dies (s : State) k f : (updPort s k f).dies = s.dies := rfl
@[simp] theorem updPort_infl (s : State) k f : (updPort s k f).infl = s.infl := rfl
@[simp] theorem updPort_sigFails (s : State) k f : (updPort s k f).sigFails = s.sigFails := rfl
@[simp] theorem updPort_sigReplay (s : State) k f : (updPort s k f).sigReplay = s.sigReplay := rfl
@[simp] theorem updPort_sigDown (s : State) k f : (updPort s k f).sigDown = s.sigDown := rfl
@[simp] theorem updPort_sigDark (s : State) k f : (updPort s k f).sigDark = s.sigDark := rfl
@[simp] theorem updPort_bts (s : State) k f : (updPort s k f).bts = s.bts := rfl
@[simp] theorem updPort_blend (s : State) k f : (updPort s k f).blend = s.blend := rfl
@[simp] theorem updPort_arbs (s : State) k f : (updPort s k f).arbs = s.arbs := rfl
@[simp] theorem updPort_boundary (s : State) k f : (updPort s k f).boundary = s.boundary := rfl
@[simp] theorem updPort_changes (s : State) k f : (updPort s k f).changes = s.changes := rfl
@[simp] theorem updPort_houseq (s : State) k f : (updPort s k f).houseq = s.houseq := rfl
@[simp] theorem updPort_houseIn (s : State) k f : (updPort s k f).houseIn = s.houseIn := rfl
@[simp] theorem updPort_slotNow (s : State) k f : (updPort s k f).slotNow = s.slotNow := rfl
@[simp] theorem updPort_slotAt (s : State) k f : (updPort s k f).slotAt = s.slotAt := rfl
@[simp] theorem updPort_fab (s : State) k f : (updPort s k f).fab = s.fab := rfl
@[simp] theorem updPort_light (s : State) k f : (updPort s k f).light = s.light := rfl
@[simp] theorem updPort_mt (s : State) k f : (updPort s k f).mt = s.mt := rfl
@[simp] theorem updPort_host (s : State) k f : (updPort s k f).host = s.host := rfl
@[simp] theorem updPort_dramStacks (s : State) k f : (updPort s k f).dramStacks = s.dramStacks := rfl
@[simp] theorem updPort_setsLost (s : State) k f : (updPort s k f).setsLost = s.setsLost := rfl
@[simp] theorem updPort_setBase (s : State) k f : (updPort s k f).setBase = s.setBase := rfl
@[simp] theorem updPort_flowKinds (s : State) k f : (updPort s k f).flowKinds = s.flowKinds := rfl
@[simp] theorem updPort_job (s : State) k f : (updPort s k f).job = s.job := rfl
@[simp] theorem updPort_lastRing (s : State) k f : (updPort s k f).lastRing = s.lastRing := rfl
@[simp] theorem updPort_codes (s : State) k f : (updPort s k f).codes = s.codes := rfl
@[simp] theorem updPort_faults (s : State) k f : (updPort s k f).faults = s.faults := rfl
@[simp] theorem updPort_journal (s : State) k f : (updPort s k f).journal = s.journal := rfl
@[simp] theorem updPort_carafe0 (s : State) k f : (updPort s k f).carafe0 = s.carafe0 := rfl
@[simp] theorem updPort_carafe1 (s : State) k f : (updPort s k f).carafe1 = s.carafe1 := rfl
@[simp] theorem updPort_mirror (s : State) k f : (updPort s k f).mirror = s.mirror := rfl
@[simp] theorem updPort_wear (s : State) k f : (updPort s k f).wear = s.wear := rfl
@[simp] theorem updPort_punel (s : State) k f : (updPort s k f).punel = s.punel := rfl
@[simp] theorem updPort_sec (s : State) k f : (updPort s k f).sec = s.sec := rfl
@[simp] theorem updPort_startup (s : State) k f : (updPort s k f).startup = s.startup := rfl
@[simp] theorem updPort_wakeClears (s : State) k f : (updPort s k f).wakeClears = s.wakeClears := rfl
@[simp] theorem updPort_domains (s : State) k f : (updPort s k f).domains = s.domains := rfl
@[simp] theorem updPort_pow (s : State) k f : (updPort s k f).pow = s.pow := rfl
@[simp] theorem updPort_therm (s : State) k f : (updPort s k f).therm = s.therm := rfl
@[simp] theorem updPort_coolant (s : State) k f : (updPort s k f).coolant = s.coolant := rfl

@[simp] theorem emit_sent (s : State) o : (emit s o).sent = s.sent ++ [o] := rfl
@[simp] theorem deliver_sent (s : State) o : (deliver s o).sent = s.sent.erase o := rfl
@[simp] theorem bumpFree_freeCtr (s : State) : (bumpFree s).freeCtr = s.freeCtr + 1 := rfl
@[simp] theorem schedule_changes (s : State) t c : (schedule s t c).changes = s.changes ++ [(t, c)] := rfl

@[simp] theorem tileAt_setTile (s : State) (k : Nat) (v : Tile) : tileAt (setTile s k v) k = v := by simp [tileAt, setTile]
theorem tileAt_setTile_ne (s : State) {j k : Nat} (v : Tile) (h : j ≠ k) : tileAt (setTile s k v) j = tileAt s j := by simp [tileAt, setTile, tget_tset_ne _ _ _ h]
@[simp] theorem setTile_setTile (s : State) (k : Nat) (v w : Tile) : setTile (setTile s k v) k w = setTile s k w := by simp [setTile]
@[simp] theorem updTile_updTile (s : State) (k : Nat) (f g : Tile → Tile) : updTile (updTile s k f) k g = updTile s k (fun x => g (f x)) := by simp [updTile]
@[simp] theorem tileAt_updTile (s : State) (k : Nat) (f : Tile → Tile) : tileAt (updTile s k f) k = f (tileAt s k) := by simp [updTile]
theorem tileAt_updTile_ne (s : State) {j k : Nat} (f : Tile → Tile) (h : j ≠ k) : tileAt (updTile s k f) j = tileAt s j := tileAt_setTile_ne _ _ h
@[simp] theorem tileAt_emit (s : State) o j : tileAt (emit s o) j = tileAt s j := rfl
@[simp] theorem tileAt_deliver (s : State) o j : tileAt (deliver s o) j = tileAt s j := rfl
@[simp] theorem tileAt_bumpFree (s : State)  j : tileAt (bumpFree s) j = tileAt s j := rfl
@[simp] theorem tileAt_schedule (s : State) t c j : tileAt (schedule s t c) j = tileAt s j := rfl
@[simp] theorem tileAt_dset (s : State) c v j : tileAt (dset s c v) j = tileAt s j := rfl
@[simp] theorem tileAt_bump (s : State) c n j : tileAt (bump s c n) j = tileAt s j := rfl
@[simp] theorem tileAt_setDie (s : State) n d j : tileAt (setDie s n d) j = tileAt s j := rfl
@[simp] theorem tileAt_setInfl (s : State) p v j : tileAt (setInfl s p v) j = tileAt s j := rfl
@[simp] theorem tileAt_setPort (s : State) p v j : tileAt (setPort s p v) j = tileAt s j := rfl
@[simp] theorem tileAt_setBt (s : State) n v j : tileAt (setBt s n v) j = tileAt s j := rfl
@[simp] theorem tileAt_setStack (s : State) n v j : tileAt (setStack s n v) j = tileAt s j := rfl
@[simp] theorem tileAt_setDom (s : State) d v j : tileAt (setDom s d v) j = tileAt s j := rfl
@[simp] theorem tileAt_updStack (s : State) k f j : tileAt (updStack s k f) j = tileAt s j := rfl
@[simp] theorem tileAt_updBt (s : State) k f j : tileAt (updBt s k f) j = tileAt s j := rfl
@[simp] theorem tileAt_updPort (s : State) k f j : tileAt (updPort s k f) j = tileAt s j := rfl

@[simp] theorem dieAt_setDie (s : State) (k : Nat) (v : ComputeDie) : dieAt (setDie s k v) k = v := by simp [dieAt, setDie]
theorem dieAt_setDie_ne (s : State) {j k : Nat} (v : ComputeDie) (h : j ≠ k) : dieAt (setDie s k v) j = dieAt s j := by simp [dieAt, setDie, tget_tset_ne _ _ _ h]
@[simp] theorem setDie_setDie (s : State) (k : Nat) (v w : ComputeDie) : setDie (setDie s k v) k w = setDie s k w := by simp [setDie]
@[simp] theorem dieAt_emit (s : State) o j : dieAt (emit s o) j = dieAt s j := rfl
@[simp] theorem dieAt_deliver (s : State) o j : dieAt (deliver s o) j = dieAt s j := rfl
@[simp] theorem dieAt_bumpFree (s : State)  j : dieAt (bumpFree s) j = dieAt s j := rfl
@[simp] theorem dieAt_schedule (s : State) t c j : dieAt (schedule s t c) j = dieAt s j := rfl
@[simp] theorem dieAt_dset (s : State) c v j : dieAt (dset s c v) j = dieAt s j := rfl
@[simp] theorem dieAt_bump (s : State) c n j : dieAt (bump s c n) j = dieAt s j := rfl
@[simp] theorem dieAt_setTile (s : State) k t j : dieAt (setTile s k t) j = dieAt s j := rfl
@[simp] theorem dieAt_setInfl (s : State) p v j : dieAt (setInfl s p v) j = dieAt s j := rfl
@[simp] theorem dieAt_setPort (s : State) p v j : dieAt (setPort s p v) j = dieAt s j := rfl
@[simp] theorem dieAt_setBt (s : State) n v j : dieAt (setBt s n v) j = dieAt s j := rfl
@[simp] theorem dieAt_setStack (s : State) n v j : dieAt (setStack s n v) j = dieAt s j := rfl
@[simp] theorem dieAt_setDom (s : State) d v j : dieAt (setDom s d v) j = dieAt s j := rfl
@[simp] theorem dieAt_updTile (s : State) k f j : dieAt (updTile s k f) j = dieAt s j := rfl
@[simp] theorem dieAt_updStack (s : State) k f j : dieAt (updStack s k f) j = dieAt s j := rfl
@[simp] theorem dieAt_updBt (s : State) k f j : dieAt (updBt s k f) j = dieAt s j := rfl
@[simp] theorem dieAt_updPort (s : State) k f j : dieAt (updPort s k f) j = dieAt s j := rfl

@[simp] theorem inflAt_setInfl (s : State) (k : Nat) (v : Inflater) : inflAt (setInfl s k v) k = v := by simp [inflAt, setInfl]
theorem inflAt_setInfl_ne (s : State) {j k : Nat} (v : Inflater) (h : j ≠ k) : inflAt (setInfl s k v) j = inflAt s j := by simp [inflAt, setInfl, tget_tset_ne _ _ _ h]
@[simp] theorem setInfl_setInfl (s : State) (k : Nat) (v w : Inflater) : setInfl (setInfl s k v) k w = setInfl s k w := by simp [setInfl]
@[simp] theorem inflAt_emit (s : State) o j : inflAt (emit s o) j = inflAt s j := rfl
@[simp] theorem inflAt_deliver (s : State) o j : inflAt (deliver s o) j = inflAt s j := rfl
@[simp] theorem inflAt_bumpFree (s : State)  j : inflAt (bumpFree s) j = inflAt s j := rfl
@[simp] theorem inflAt_schedule (s : State) t c j : inflAt (schedule s t c) j = inflAt s j := rfl
@[simp] theorem inflAt_dset (s : State) c v j : inflAt (dset s c v) j = inflAt s j := rfl
@[simp] theorem inflAt_bump (s : State) c n j : inflAt (bump s c n) j = inflAt s j := rfl
@[simp] theorem inflAt_setTile (s : State) k t j : inflAt (setTile s k t) j = inflAt s j := rfl
@[simp] theorem inflAt_setDie (s : State) n d j : inflAt (setDie s n d) j = inflAt s j := rfl
@[simp] theorem inflAt_setPort (s : State) p v j : inflAt (setPort s p v) j = inflAt s j := rfl
@[simp] theorem inflAt_setBt (s : State) n v j : inflAt (setBt s n v) j = inflAt s j := rfl
@[simp] theorem inflAt_setStack (s : State) n v j : inflAt (setStack s n v) j = inflAt s j := rfl
@[simp] theorem inflAt_setDom (s : State) d v j : inflAt (setDom s d v) j = inflAt s j := rfl
@[simp] theorem inflAt_updTile (s : State) k f j : inflAt (updTile s k f) j = inflAt s j := rfl
@[simp] theorem inflAt_updStack (s : State) k f j : inflAt (updStack s k f) j = inflAt s j := rfl
@[simp] theorem inflAt_updBt (s : State) k f j : inflAt (updBt s k f) j = inflAt s j := rfl
@[simp] theorem inflAt_updPort (s : State) k f j : inflAt (updPort s k f) j = inflAt s j := rfl

@[simp] theorem portAt_setPort (s : State) (k : Nat) (v : PortSt) : portAt (setPort s k v) k = v := by simp [portAt, setPort]
theorem portAt_setPort_ne (s : State) {j k : Nat} (v : PortSt) (h : j ≠ k) : portAt (setPort s k v) j = portAt s j := by simp [portAt, setPort, tget_tset_ne _ _ _ h]
@[simp] theorem setPort_setPort (s : State) (k : Nat) (v w : PortSt) : setPort (setPort s k v) k w = setPort s k w := by simp [setPort]
@[simp] theorem updPort_updPort (s : State) (k : Nat) (f g : PortSt → PortSt) : updPort (updPort s k f) k g = updPort s k (fun x => g (f x)) := by simp [updPort]
@[simp] theorem portAt_updPort (s : State) (k : Nat) (f : PortSt → PortSt) : portAt (updPort s k f) k = f (portAt s k) := by simp [updPort]
theorem portAt_updPort_ne (s : State) {j k : Nat} (f : PortSt → PortSt) (h : j ≠ k) : portAt (updPort s k f) j = portAt s j := portAt_setPort_ne _ _ h
@[simp] theorem portAt_emit (s : State) o j : portAt (emit s o) j = portAt s j := rfl
@[simp] theorem portAt_deliver (s : State) o j : portAt (deliver s o) j = portAt s j := rfl
@[simp] theorem portAt_bumpFree (s : State)  j : portAt (bumpFree s) j = portAt s j := rfl
@[simp] theorem portAt_schedule (s : State) t c j : portAt (schedule s t c) j = portAt s j := rfl
@[simp] theorem portAt_dset (s : State) c v j : portAt (dset s c v) j = portAt s j := rfl
@[simp] theorem portAt_bump (s : State) c n j : portAt (bump s c n) j = portAt s j := rfl
@[simp] theorem portAt_setTile (s : State) k t j : portAt (setTile s k t) j = portAt s j := rfl
@[simp] theorem portAt_setDie (s : State) n d j : portAt (setDie s n d) j = portAt s j := rfl
@[simp] theorem portAt_setInfl (s : State) p v j : portAt (setInfl s p v) j = portAt s j := rfl
@[simp] theorem portAt_setBt (s : State) n v j : portAt (setBt s n v) j = portAt s j := rfl
@[simp] theorem portAt_setStack (s : State) n v j : portAt (setStack s n v) j = portAt s j := rfl
@[simp] theorem portAt_setDom (s : State) d v j : portAt (setDom s d v) j = portAt s j := rfl
@[simp] theorem portAt_updTile (s : State) k f j : portAt (updTile s k f) j = portAt s j := rfl
@[simp] theorem portAt_updStack (s : State) k f j : portAt (updStack s k f) j = portAt s j := rfl
@[simp] theorem portAt_updBt (s : State) k f j : portAt (updBt s k f) j = portAt s j := rfl

@[simp] theorem btAt_setBt (s : State) (k : Nat) (v : BaseTile) : btAt (setBt s k v) k = v := by simp [btAt, setBt]
theorem btAt_setBt_ne (s : State) {j k : Nat} (v : BaseTile) (h : j ≠ k) : btAt (setBt s k v) j = btAt s j := by simp [btAt, setBt, tget_tset_ne _ _ _ h]
@[simp] theorem setBt_setBt (s : State) (k : Nat) (v w : BaseTile) : setBt (setBt s k v) k w = setBt s k w := by simp [setBt]
@[simp] theorem updBt_updBt (s : State) (k : Nat) (f g : BaseTile → BaseTile) : updBt (updBt s k f) k g = updBt s k (fun x => g (f x)) := by simp [updBt]
@[simp] theorem btAt_updBt (s : State) (k : Nat) (f : BaseTile → BaseTile) : btAt (updBt s k f) k = f (btAt s k) := by simp [updBt]
theorem btAt_updBt_ne (s : State) {j k : Nat} (f : BaseTile → BaseTile) (h : j ≠ k) : btAt (updBt s k f) j = btAt s j := btAt_setBt_ne _ _ h
@[simp] theorem btAt_emit (s : State) o j : btAt (emit s o) j = btAt s j := rfl
@[simp] theorem btAt_deliver (s : State) o j : btAt (deliver s o) j = btAt s j := rfl
@[simp] theorem btAt_bumpFree (s : State)  j : btAt (bumpFree s) j = btAt s j := rfl
@[simp] theorem btAt_schedule (s : State) t c j : btAt (schedule s t c) j = btAt s j := rfl
@[simp] theorem btAt_dset (s : State) c v j : btAt (dset s c v) j = btAt s j := rfl
@[simp] theorem btAt_bump (s : State) c n j : btAt (bump s c n) j = btAt s j := rfl
@[simp] theorem btAt_setTile (s : State) k t j : btAt (setTile s k t) j = btAt s j := rfl
@[simp] theorem btAt_setDie (s : State) n d j : btAt (setDie s n d) j = btAt s j := rfl
@[simp] theorem btAt_setInfl (s : State) p v j : btAt (setInfl s p v) j = btAt s j := rfl
@[simp] theorem btAt_setPort (s : State) p v j : btAt (setPort s p v) j = btAt s j := rfl
@[simp] theorem btAt_setStack (s : State) n v j : btAt (setStack s n v) j = btAt s j := rfl
@[simp] theorem btAt_setDom (s : State) d v j : btAt (setDom s d v) j = btAt s j := rfl
@[simp] theorem btAt_updTile (s : State) k f j : btAt (updTile s k f) j = btAt s j := rfl
@[simp] theorem btAt_updStack (s : State) k f j : btAt (updStack s k f) j = btAt s j := rfl
@[simp] theorem btAt_updPort (s : State) k f j : btAt (updPort s k f) j = btAt s j := rfl

@[simp] theorem stackAt_setStack (s : State) (k : Nat) (v : Stack) : stackAt (setStack s k v) k = v := by simp [stackAt, setStack]
theorem stackAt_setStack_ne (s : State) {j k : Nat} (v : Stack) (h : j ≠ k) : stackAt (setStack s k v) j = stackAt s j := by simp [stackAt, setStack, tget_tset_ne _ _ _ h]
@[simp] theorem setStack_setStack (s : State) (k : Nat) (v w : Stack) : setStack (setStack s k v) k w = setStack s k w := by simp [setStack]
@[simp] theorem updStack_updStack (s : State) (k : Nat) (f g : Stack → Stack) : updStack (updStack s k f) k g = updStack s k (fun x => g (f x)) := by simp [updStack]
@[simp] theorem stackAt_updStack (s : State) (k : Nat) (f : Stack → Stack) : stackAt (updStack s k f) k = f (stackAt s k) := by simp [updStack]
theorem stackAt_updStack_ne (s : State) {j k : Nat} (f : Stack → Stack) (h : j ≠ k) : stackAt (updStack s k f) j = stackAt s j := stackAt_setStack_ne _ _ h
@[simp] theorem stackAt_emit (s : State) o j : stackAt (emit s o) j = stackAt s j := rfl
@[simp] theorem stackAt_deliver (s : State) o j : stackAt (deliver s o) j = stackAt s j := rfl
@[simp] theorem stackAt_bumpFree (s : State)  j : stackAt (bumpFree s) j = stackAt s j := rfl
@[simp] theorem stackAt_schedule (s : State) t c j : stackAt (schedule s t c) j = stackAt s j := rfl
@[simp] theorem stackAt_dset (s : State) c v j : stackAt (dset s c v) j = stackAt s j := rfl
@[simp] theorem stackAt_bump (s : State) c n j : stackAt (bump s c n) j = stackAt s j := rfl
@[simp] theorem stackAt_setTile (s : State) k t j : stackAt (setTile s k t) j = stackAt s j := rfl
@[simp] theorem stackAt_setDie (s : State) n d j : stackAt (setDie s n d) j = stackAt s j := rfl
@[simp] theorem stackAt_setInfl (s : State) p v j : stackAt (setInfl s p v) j = stackAt s j := rfl
@[simp] theorem stackAt_setPort (s : State) p v j : stackAt (setPort s p v) j = stackAt s j := rfl
@[simp] theorem stackAt_setBt (s : State) n v j : stackAt (setBt s n v) j = stackAt s j := rfl
@[simp] theorem stackAt_setDom (s : State) d v j : stackAt (setDom s d v) j = stackAt s j := rfl
@[simp] theorem stackAt_updTile (s : State) k f j : stackAt (updTile s k f) j = stackAt s j := rfl
@[simp] theorem stackAt_updBt (s : State) k f j : stackAt (updBt s k f) j = stackAt s j := rfl
@[simp] theorem stackAt_updPort (s : State) k f j : stackAt (updPort s k f) j = stackAt s j := rfl

@[simp] theorem domAt_setDom (s : State) (k : Nat) (v : DomSt) : domAt (setDom s k v) k = v := by simp [domAt, setDom]
theorem domAt_setDom_ne (s : State) {j k : Nat} (v : DomSt) (h : j ≠ k) : domAt (setDom s k v) j = domAt s j := by simp [domAt, setDom, tget_tset_ne _ _ _ h]
@[simp] theorem setDom_setDom (s : State) (k : Nat) (v w : DomSt) : setDom (setDom s k v) k w = setDom s k w := by simp [setDom]
@[simp] theorem domAt_emit (s : State) o j : domAt (emit s o) j = domAt s j := rfl
@[simp] theorem domAt_deliver (s : State) o j : domAt (deliver s o) j = domAt s j := rfl
@[simp] theorem domAt_bumpFree (s : State)  j : domAt (bumpFree s) j = domAt s j := rfl
@[simp] theorem domAt_schedule (s : State) t c j : domAt (schedule s t c) j = domAt s j := rfl
@[simp] theorem domAt_dset (s : State) c v j : domAt (dset s c v) j = domAt s j := rfl
@[simp] theorem domAt_bump (s : State) c n j : domAt (bump s c n) j = domAt s j := rfl
@[simp] theorem domAt_setTile (s : State) k t j : domAt (setTile s k t) j = domAt s j := rfl
@[simp] theorem domAt_setDie (s : State) n d j : domAt (setDie s n d) j = domAt s j := rfl
@[simp] theorem domAt_setInfl (s : State) p v j : domAt (setInfl s p v) j = domAt s j := rfl
@[simp] theorem domAt_setPort (s : State) p v j : domAt (setPort s p v) j = domAt s j := rfl
@[simp] theorem domAt_setBt (s : State) n v j : domAt (setBt s n v) j = domAt s j := rfl
@[simp] theorem domAt_setStack (s : State) n v j : domAt (setStack s n v) j = domAt s j := rfl
@[simp] theorem domAt_updTile (s : State) k f j : domAt (updTile s k f) j = domAt s j := rfl
@[simp] theorem domAt_updStack (s : State) k f j : domAt (updStack s k f) j = domAt s j := rfl
@[simp] theorem domAt_updBt (s : State) k f j : domAt (updBt s k f) j = domAt s j := rfl
@[simp] theorem domAt_updPort (s : State) k f j : domAt (updPort s k f) j = domAt s j := rfl

/-- All that the arrival of a signal packet does: it is off the way, a free value is drawn, and the dictionary may keep its latency. -/
theorem sigArrive_eq (s : State) (p : SigPacket) :
    ∃ D, sigArrive s p = { deliver s (.sig p) with dict := D, freeCtr := s.freeCtr + 1 } := by
  unfold sigArrive raiseMax; dsimp only
  repeat' split
  all_goals exact ⟨_, rfl⟩
@[simp] theorem sigArrive_pending (s : State) (p : SigPacket) : (sigArrive s p).pending = s.pending := by
  obtain ⟨D, h⟩ := sigArrive_eq s p; simp [h]
@[simp] theorem sigArrive_ticks (s : State) (p : SigPacket) : (sigArrive s p).ticks = s.ticks := by
  obtain ⟨D, h⟩ := sigArrive_eq s p; simp [h]
@[simp] theorem sigArrive_now (s : State) (p : SigPacket) : (sigArrive s p).now = s.now := by
  obtain ⟨D, h⟩ := sigArrive_eq s p; simp [h]
@[simp] theorem sigArrive_freeCtr (s : State) (p : SigPacket) : (sigArrive s p).freeCtr = s.freeCtr + 1 := by
  obtain ⟨D, h⟩ := sigArrive_eq s p; simp [h]
@[simp] theorem sigArrive_sent (s : State) (p : SigPacket) : (sigArrive s p).sent = s.sent.erase (.sig p) := by
  obtain ⟨D, h⟩ := sigArrive_eq s p; simp [h]
@[simp] theorem sigArrive_blobs (s : State) (p : SigPacket) : (sigArrive s p).blobs = s.blobs := by
  obtain ⟨D, h⟩ := sigArrive_eq s p; simp [h]
@[simp] theorem sigArrive_active (s : State) (p : SigPacket) : (sigArrive s p).active = s.active := by
  obtain ⟨D, h⟩ := sigArrive_eq s p; simp [h]
@[simp] theorem sigArrive_role0 (s : State) (p : SigPacket) : (sigArrive s p).role0 = s.role0 := by
  obtain ⟨D, h⟩ := sigArrive_eq s p; simp [h]
@[simp] theorem sigArrive_role1 (s : State) (p : SigPacket) : (sigArrive s p).role1 = s.role1 := by
  obtain ⟨D, h⟩ := sigArrive_eq s p; simp [h]
@[simp] theorem sigArrive_bars (s : State) (p : SigPacket) : (sigArrive s p).bars = s.bars := by
  obtain ⟨D, h⟩ := sigArrive_eq s p; simp [h]
@[simp] theorem sigArrive_roleEpoch (s : State) (p : SigPacket) : (sigArrive s p).roleEpoch = s.roleEpoch := by
  obtain ⟨D, h⟩ := sigArrive_eq s p; simp [h]
@[simp] theorem sigArrive_named (s : State) (p : SigPacket) : (sigArrive s p).named = s.named := by
  obtain ⟨D, h⟩ := sigArrive_eq s p; simp [h]
@[simp] theorem sigArrive_handback (s : State) (p : SigPacket) : (sigArrive s p).handback = s.handback := by
  obtain ⟨D, h⟩ := sigArrive_eq s p; simp [h]
@[simp] theorem sigArrive_ctrlSeq (s : State) (p : SigPacket) : (sigArrive s p).ctrlSeq = s.ctrlSeq := by
  obtain ⟨D, h⟩ := sigArrive_eq s p; simp [h]
@[simp] theorem sigArrive_srcSeq (s : State) (p : SigPacket) : (sigArrive s p).srcSeq = s.srcSeq := by
  obtain ⟨D, h⟩ := sigArrive_eq s p; simp [h]
@[simp] theorem sigArrive_ctrlWin (s : State) (p : SigPacket) : (sigArrive s p).ctrlWin = s.ctrlWin := by
  obtain ⟨D, h⟩ := sigArrive_eq s p; simp [h]
@[simp] theorem sigArrive_tiles (s : State) (p : SigPacket) : (sigArrive s p).tiles = s.tiles := by
  obtain ⟨D, h⟩ := sigArrive_eq s p; simp [h]
@[simp] theorem sigArrive_dies (s : State) (p : SigPacket) : (sigArrive s p).dies = s.dies := by
  obtain ⟨D, h⟩ := sigArrive_eq s p; simp [h]
@[simp] theorem sigArrive_infl (s : State) (p : SigPacket) : (sigArrive s p).infl = s.infl := by
  obtain ⟨D, h⟩ := sigArrive_eq s p; simp [h]
@[simp] theorem sigArrive_sigFails (s : State) (p : SigPacket) : (sigArrive s p).sigFails = s.sigFails := by
  obtain ⟨D, h⟩ := sigArrive_eq s p; simp [h]
@[simp] theorem sigArrive_sigReplay (s : State) (p : SigPacket) : (sigArrive s p).sigReplay = s.sigReplay := by
  obtain ⟨D, h⟩ := sigArrive_eq s p; simp [h]
@[simp] theorem sigArrive_sigDown (s : State) (p : SigPacket) : (sigArrive s p).sigDown = s.sigDown := by
  obtain ⟨D, h⟩ := sigArrive_eq s p; simp [h]
@[simp] theorem sigArrive_sigDark (s : State) (p : SigPacket) : (sigArrive s p).sigDark = s.sigDark := by
  obtain ⟨D, h⟩ := sigArrive_eq s p; simp [h]
@[simp] theorem sigArrive_ports (s : State) (p : SigPacket) : (sigArrive s p).ports = s.ports := by
  obtain ⟨D, h⟩ := sigArrive_eq s p; simp [h]
@[simp] theorem sigArrive_bts (s : State) (p : SigPacket) : (sigArrive s p).bts = s.bts := by
  obtain ⟨D, h⟩ := sigArrive_eq s p; simp [h]
@[simp] theorem sigArrive_blend (s : State) (p : SigPacket) : (sigArrive s p).blend = s.blend := by
  obtain ⟨D, h⟩ := sigArrive_eq s p; simp [h]
@[simp] theorem sigArrive_arbs (s : State) (p : SigPacket) : (sigArrive s p).arbs = s.arbs := by
  obtain ⟨D, h⟩ := sigArrive_eq s p; simp [h]
@[simp] theorem sigArrive_boundary (s : State) (p : SigPacket) : (sigArrive s p).boundary = s.boundary := by
  obtain ⟨D, h⟩ := sigArrive_eq s p; simp [h]
@[simp] theorem sigArrive_changes (s : State) (p : SigPacket) : (sigArrive s p).changes = s.changes := by
  obtain ⟨D, h⟩ := sigArrive_eq s p; simp [h]
@[simp] theorem sigArrive_houseq (s : State) (p : SigPacket) : (sigArrive s p).houseq = s.houseq := by
  obtain ⟨D, h⟩ := sigArrive_eq s p; simp [h]
@[simp] theorem sigArrive_houseIn (s : State) (p : SigPacket) : (sigArrive s p).houseIn = s.houseIn := by
  obtain ⟨D, h⟩ := sigArrive_eq s p; simp [h]
@[simp] theorem sigArrive_slotNow (s : State) (p : SigPacket) : (sigArrive s p).slotNow = s.slotNow := by
  obtain ⟨D, h⟩ := sigArrive_eq s p; simp [h]
@[simp] theorem sigArrive_slotAt (s : State) (p : SigPacket) : (sigArrive s p).slotAt = s.slotAt := by
  obtain ⟨D, h⟩ := sigArrive_eq s p; simp [h]
@[simp] theorem sigArrive_fab (s : State) (p : SigPacket) : (sigArrive s p).fab = s.fab := by
  obtain ⟨D, h⟩ := sigArrive_eq s p; simp [h]
@[simp] theorem sigArrive_light (s : State) (p : SigPacket) : (sigArrive s p).light = s.light := by
  obtain ⟨D, h⟩ := sigArrive_eq s p; simp [h]
@[simp] theorem sigArrive_mt (s : State) (p : SigPacket) : (sigArrive s p).mt = s.mt := by
  obtain ⟨D, h⟩ := sigArrive_eq s p; simp [h]
@[simp] theorem sigArrive_host (s : State) (p : SigPacket) : (sigArrive s p).host = s.host := by
  obtain ⟨D, h⟩ := sigArrive_eq s p; simp [h]
@[simp] theorem sigArrive_dramStacks (s : State) (p : SigPacket) : (sigArrive s p).dramStacks = s.dramStacks := by
  obtain ⟨D, h⟩ := sigArrive_eq s p; simp [h]
@[simp] theorem sigArrive_setsLost (s : State) (p : SigPacket) : (sigArrive s p).setsLost = s.setsLost := by
  obtain ⟨D, h⟩ := sigArrive_eq s p; simp [h]
@[simp] theorem sigArrive_setBase (s : State) (p : SigPacket) : (sigArrive s p).setBase = s.setBase := by
  obtain ⟨D, h⟩ := sigArrive_eq s p; simp [h]
@[simp] theorem sigArrive_flowKinds (s : State) (p : SigPacket) : (sigArrive s p).flowKinds = s.flowKinds := by
  obtain ⟨D, h⟩ := sigArrive_eq s p; simp [h]
@[simp] theorem sigArrive_job (s : State) (p : SigPacket) : (sigArrive s p).job = s.job := by
  obtain ⟨D, h⟩ := sigArrive_eq s p; simp [h]
@[simp] theorem sigArrive_lastRing (s : State) (p : SigPacket) : (sigArrive s p).lastRing = s.lastRing := by
  obtain ⟨D, h⟩ := sigArrive_eq s p; simp [h]
@[simp] theorem sigArrive_codes (s : State) (p : SigPacket) : (sigArrive s p).codes = s.codes := by
  obtain ⟨D, h⟩ := sigArrive_eq s p; simp [h]
@[simp] theorem sigArrive_faults (s : State) (p : SigPacket) : (sigArrive s p).faults = s.faults := by
  obtain ⟨D, h⟩ := sigArrive_eq s p; simp [h]
@[simp] theorem sigArrive_journal (s : State) (p : SigPacket) : (sigArrive s p).journal = s.journal := by
  obtain ⟨D, h⟩ := sigArrive_eq s p; simp [h]
@[simp] theorem sigArrive_carafe0 (s : State) (p : SigPacket) : (sigArrive s p).carafe0 = s.carafe0 := by
  obtain ⟨D, h⟩ := sigArrive_eq s p; simp [h]
@[simp] theorem sigArrive_carafe1 (s : State) (p : SigPacket) : (sigArrive s p).carafe1 = s.carafe1 := by
  obtain ⟨D, h⟩ := sigArrive_eq s p; simp [h]
@[simp] theorem sigArrive_mirror (s : State) (p : SigPacket) : (sigArrive s p).mirror = s.mirror := by
  obtain ⟨D, h⟩ := sigArrive_eq s p; simp [h]
@[simp] theorem sigArrive_wear (s : State) (p : SigPacket) : (sigArrive s p).wear = s.wear := by
  obtain ⟨D, h⟩ := sigArrive_eq s p; simp [h]
@[simp] theorem sigArrive_punel (s : State) (p : SigPacket) : (sigArrive s p).punel = s.punel := by
  obtain ⟨D, h⟩ := sigArrive_eq s p; simp [h]
@[simp] theorem sigArrive_sec (s : State) (p : SigPacket) : (sigArrive s p).sec = s.sec := by
  obtain ⟨D, h⟩ := sigArrive_eq s p; simp [h]
@[simp] theorem sigArrive_startup (s : State) (p : SigPacket) : (sigArrive s p).startup = s.startup := by
  obtain ⟨D, h⟩ := sigArrive_eq s p; simp [h]
@[simp] theorem sigArrive_wakeClears (s : State) (p : SigPacket) : (sigArrive s p).wakeClears = s.wakeClears := by
  obtain ⟨D, h⟩ := sigArrive_eq s p; simp [h]
@[simp] theorem sigArrive_domains (s : State) (p : SigPacket) : (sigArrive s p).domains = s.domains := by
  obtain ⟨D, h⟩ := sigArrive_eq s p; simp [h]
@[simp] theorem sigArrive_pow (s : State) (p : SigPacket) : (sigArrive s p).pow = s.pow := by
  obtain ⟨D, h⟩ := sigArrive_eq s p; simp [h]
@[simp] theorem sigArrive_therm (s : State) (p : SigPacket) : (sigArrive s p).therm = s.therm := by
  obtain ⟨D, h⟩ := sigArrive_eq s p; simp [h]
@[simp] theorem sigArrive_coolant (s : State) (p : SigPacket) : (sigArrive s p).coolant = s.coolant := by
  obtain ⟨D, h⟩ := sigArrive_eq s p; simp [h]
@[simp] theorem tileAt_sigArrive (s : State) (p : SigPacket) j : tileAt (sigArrive s p) j = tileAt s j := by simp [tileAt]
@[simp] theorem dieAt_sigArrive (s : State) (p : SigPacket) j : dieAt (sigArrive s p) j = dieAt s j := by simp [dieAt]
@[simp] theorem inflAt_sigArrive (s : State) (p : SigPacket) j : inflAt (sigArrive s p) j = inflAt s j := by simp [inflAt]
@[simp] theorem portAt_sigArrive (s : State) (p : SigPacket) j : portAt (sigArrive s p) j = portAt s j := by simp [portAt]
@[simp] theorem btAt_sigArrive (s : State) (p : SigPacket) j : btAt (sigArrive s p) j = btAt s j := by simp [btAt]
@[simp] theorem stackAt_sigArrive (s : State) (p : SigPacket) j : stackAt (sigArrive s p) j = stackAt s j := by simp [stackAt]
@[simp] theorem domAt_sigArrive (s : State) (p : SigPacket) j : domAt (sigArrive s p) j = domAt s j := by simp [domAt]

/-- A dictionary value written reads back, within 64 bits. -/
theorem dval_dset (s : State) (c v : Nat) : dval (dset s c v) c = v % 2 ^ 64 := by simp [dval, dset]
theorem dval_dset_ne (s : State) {c d : Nat} (v : Nat) (h : d ≠ c) : dval (dset s c v) d = dval s d := by simp [dval, dset, tget_tset_ne _ _ _ h]
theorem dval_sigArrive_ne (s : State) (p : SigPacket) {c : Nat} (h : c ≠ Obj.sigLatencyMax) : dval (sigArrive s p) c = dval s c := by
  have : ∀ (t : State) v, dval (raiseMax t Obj.sigLatencyMax v) c = dval t c := by
    intro t v; unfold raiseMax; split; exact dval_dset_ne _ _ h; rfl
  unfold sigArrive; dsimp only
  exact this _ _
/-- Whether a hub takes a CONTROL packet rests on the hubs, the ring, the domains and the windows alone. -/
theorem ctrlTake_fst {s t : State} (hp : ∀ a b, sigPath s a b = sigPath t a b) (hd : s.domains = t.domains) (hw : s.ctrlWin = t.ctrlWin)
    (site : Nat) (src : BitVec 7) (seq : BitVec 32) : (ctrlTake s site src seq).1 = (ctrlTake t site src seq).1 := by
  have hh : dieHears s site = dieHears t site := by simp [dieHears, domAt, hd]
  simp only [ctrlTake, hp, hh, hw]
  split
  · rfl
  · split
    · split <;> rfl
    · rfl
/-- Whether some hub takes a CONTROL packet rests on the hubs, the ring, the domains and the windows alone. -/
theorem ctrlTakeAll_fst {s t : State} (hp : ∀ a b, sigPath s a b = sigPath t a b) (hd : s.domains = t.domains) (hw : s.ctrlWin = t.ctrlWin)
    (src : BitVec 7) (seq : BitVec 32) : (ctrlTakeAll s src seq).1 = (ctrlTakeAll t src seq).1 := by
  unfold ctrlTakeAll
  have hk : winKnown s = winKnown t := by funext site; simp [winKnown, hw]
  rw [hk]
  generalize winKnown t = w
  generalize ((List.range 100).any w && (src == 74 || src == 75)) = any
  suffices H : ∀ (l : List Nat) (r q : Bool × State), r.1 = q.1 → (∀ a b, sigPath r.2 a b = sigPath q.2 a b) → r.2.domains = q.2.domains →
      r.2.ctrlWin = q.2.ctrlWin →
      (l.foldl (fun r site => let q := ctrlTake r.2 site src seq; (r.1 || (q.1 && (!any || w site)), q.2)) r).1 =
      (l.foldl (fun r site => let q := ctrlTake r.2 site src seq; (r.1 || (q.1 && (!any || w site)), q.2)) q).1 from H _ _ _ rfl hp hd hw
  intro l
  induction l with
  | nil => intro r q h _ _ _; exact h
  | cons a l ih =>
    intro r q h1 h2 hd h3
    simp only [List.foldl_cons]
    have hh : dieHears r.2 a = dieHears q.2 a := by simp [dieHears, domAt, hd]
    have key : (ctrlTake r.2 a src seq).1 = (ctrlTake q.2 a src seq).1 ∧
        (∀ x y, sigPath (ctrlTake r.2 a src seq).2 x y = sigPath (ctrlTake q.2 a src seq).2 x y) ∧
        (ctrlTake r.2 a src seq).2.domains = (ctrlTake q.2 a src seq).2.domains ∧
        (ctrlTake r.2 a src seq).2.ctrlWin = (ctrlTake q.2 a src seq).2.ctrlWin := by
      simp only [ctrlTake, h2, hh, h3]
      split
      · exact ⟨rfl, h2, hd, h3⟩
      · split
        · split
          · exact ⟨rfl, h2, hd, rfl⟩
          · exact ⟨rfl, h2, hd, rfl⟩
        · exact ⟨rfl, h2, hd, h3⟩
    exact ih _ _ (by simp [h1, key.1]) key.2.1 key.2.2.1 key.2.2.2
theorem ctrlTakeAll_sigArrive_fst (s : State) (p : SigPacket) (src : BitVec 7) (seq : BitVec 32) :
    (ctrlTakeAll (sigArrive s p) src seq).1 = (ctrlTakeAll s src seq).1 := by
  obtain ⟨D, h⟩ := sigArrive_eq s p
  exact ctrlTakeAll_fst (by rw [h]; exact fun _ _ => rfl) (by simp) (by simp) src seq
theorem dval_bump (s : State) (c n : Nat) : dval (bump s c n) c = (dval s c + n) % 2 ^ 64 := by simp [dval, bump]
theorem dval_bump_ne (s : State) {c d : Nat} (n : Nat) (h : d ≠ c) : dval (bump s c n) d = dval s d := by simp [dval, bump, tget_tset_ne _ _ _ h]
@[simp] theorem dval_emit (s : State) o i : dval (emit s o) i = dval s i := rfl
@[simp] theorem dval_deliver (s : State) o i : dval (deliver s o) i = dval s i := rfl
@[simp] theorem dval_bumpFree (s : State)  i : dval (bumpFree s) i = dval s i := rfl
@[simp] theorem dval_schedule (s : State) t c i : dval (schedule s t c) i = dval s i := rfl
@[simp] theorem dval_setTile (s : State) k t i : dval (setTile s k t) i = dval s i := rfl
@[simp] theorem dval_setDie (s : State) n d i : dval (setDie s n d) i = dval s i := rfl
@[simp] theorem dval_setInfl (s : State) p v i : dval (setInfl s p v) i = dval s i := rfl
@[simp] theorem dval_setPort (s : State) p v i : dval (setPort s p v) i = dval s i := rfl
@[simp] theorem dval_setBt (s : State) n v i : dval (setBt s n v) i = dval s i := rfl
@[simp] theorem dval_setStack (s : State) n v i : dval (setStack s n v) i = dval s i := rfl
@[simp] theorem dval_setDom (s : State) d v i : dval (setDom s d v) i = dval s i := rfl
@[simp] theorem dval_updTile (s : State) k f i : dval (updTile s k f) i = dval s i := rfl
@[simp] theorem dval_updStack (s : State) k f i : dval (updStack s k f) i = dval s i := rfl
@[simp] theorem dval_updBt (s : State) k f i : dval (updBt s k f) i = dval s i := rfl
@[simp] theorem dval_updPort (s : State) k f i : dval (updPort s k f) i = dval s i := rfl

end Sys2Proof.Machine
end

