-- ==== Sys2Proof/Laws/Store.lean ====
section
/-! SUPPORT. Stores and stacks keep their canonical form under every operation on bytes; a DRAM line reads back what was written, and
a write leaves every other line alone. -/
namespace Sys2Proof.Machine

theorem Store.wf_iff (st : Store) : st.wf = true ↔ tsorted st.bytes = true ∧ (st.cleared = true → st.bytes.all (fun e => e.2 != 0) = true) := by
  unfold Store.wf; cases st.cleared <;> simp

/-- Only the bytes and whether the store is cleared matter. -/
theorem Store.wf_congr {st st' : Store} (hb : st'.bytes = st.bytes) (hc : st'.cleared = st.cleared) : st'.wf = st.wf := by
  unfold Store.wf; rw [hb, hc]

theorem wf_storePut (st : Store) (a : Nat) (b : Byte) (h : st.wf = true) : (storePut st a b).wf = true := by
  rw [Store.wf_iff] at h ⊢
  unfold storePut
  refine ⟨?_, fun hc => ?_⟩
  · dsimp only; split
    · exact tsorted_tdel _ _ h.1
    · exact tsorted_tput _ _ _ h.1
  · dsimp only at hc ⊢
    split
    · exact all_tdel _ _ _ (h.2 hc)
    · rename_i hn
      exact all_tput _ _ _ _ (h.2 hc) (by simp only [bne_iff_ne]; exact fun e => hn ⟨hc, e⟩)

theorem wf_storePuts (st : Store) (a : Nat) (bs : List Byte) (h : st.wf = true) : (storePuts st a bs).wf = true := by
  induction bs generalizing st a with
  | nil => exact h
  | cons b bs ih => exact ih _ _ (wf_storePut st a b h)

theorem wf_storePutCells (st : Store) (cs : List Host.Cell) (h : st.wf = true) : (storePutCells st cs).wf = true := by
  unfold storePutCells
  induction cs generalizing st with
  | nil => exact h
  | cons c cs ih => exact ih _ (wf_storePut st c.1 c.2 h)

theorem wf_setMark (st : Store) (l : Nat) (b : Bool) (h : st.wf = true) : (setMark st l b).wf = true := by
  rw [← h]; exact Store.wf_congr rfl rfl

theorem wf_storeFold {α : Type} (f : Store → α → Store) (l : List α) (st : Store) (hf : ∀ st x, st.wf = true → (f st x).wf = true) (h : st.wf = true) :
    (l.foldl f st).wf = true := by
  induction l generalizing st with
  | nil => exact h
  | cons x l ih => exact ih _ (hf st x h)

theorem wf_markWrite (st : Store) (a len : Nat) (p : Bool) (h : st.wf = true) : (markWrite st a len p).wf = true := by
  refine wf_storeFold _ _ _ (fun st x hs => ?_) h
  split
  · exact wf_setMark _ _ _ hs
  · split
    · exact wf_setMark _ _ _ hs
    · exact hs

theorem wf_storeWrite (st : Store) (a : Nat) (bs : List Byte) (p : Bool) (h : st.wf = true) : (storeWrite st a bs p).wf = true :=
  wf_markWrite _ _ _ _ (wf_storePuts _ _ _ h)

theorem twf_cellPuts (cs : List Host.Cell) (a : Nat) (bs : List Byte) (h : twf (fun _ => (0 : Byte)) cs = true) :
    twf (fun _ => (0 : Byte)) (cellPuts cs a bs) = true := by
  induction bs generalizing cs a with
  | nil => exact h
  | cons b bs ih => exact ih _ _ (twf_tset _ _ _ _ h)

theorem Stack.wf_iff (st : Stack) : st.wf = true ↔ twf (fun _ => (0 : Byte)) st.bytes = true ∧ st.lineBuf.length ≤ 256 ∧
    (∀ b ∈ st.lineBuf, b.data.length = 64) ∧ (st.lineBuf.map (·.line)).Nodup := by
  unfold Stack.wf bufWf; simp [and_assoc]

theorem wf_lineStore (st : Stack) (l : Nat) (d : List Byte) (p : Bool) (h : st.wf = true) : (lineStore st l d p).wf = true := by
  rw [Stack.wf_iff] at h ⊢
  exact ⟨twf_cellPuts _ _ _ h.1, h.2⟩

theorem wf_lineWrite (st : Stack) (l : Nat) (d : List Byte) (p : Bool) (h : st.wf = true) : (lineWrite st l d p).wf = true := by
  unfold lineWrite; split
  · rw [Stack.wf_iff] at h ⊢
    obtain ⟨h1, h2, h3, h4⟩ := h
    refine ⟨h1, by simpa using h2, fun b hb => ?_, ?_⟩
    · obtain ⟨c, hc, rfl⟩ := List.mem_map.mp hb
      split
      · simp [slice]
      · exact h3 c hc
    · rw [List.map_map]
      have e : ((fun b : BufLine => b.line) ∘ fun b => if b.line = l then { b with data := slice d 0 64, poison := p } else b) = (·.line) := by
        funext b; dsimp only [Function.comp]; split <;> rfl
      rw [e]; exact h4
  · exact wf_lineStore _ _ _ _ h

theorem bufBack_lineBuf (st : Stack) (bs : List BufLine) : (bufBack st bs).lineBuf = st.lineBuf := by
  unfold bufBack
  induction bs generalizing st with
  | nil => rfl
  | cons b bs ih => exact ih _

theorem wf_bufBack (st : Stack) (bs : List BufLine) (h : st.wf = true) : (bufBack st bs).wf = true := by
  unfold bufBack
  induction bs generalizing st with
  | nil => exact h
  | cons b bs ih => exact ih _ (wf_lineStore _ _ _ _ h)

/-- The lines of the buffer that a newly taken line leaves in it. -/
theorem bufOthers (bs : List BufLine) (b : BufLine) (h : (bs.map (·.line)).Nodup) :
    ((b :: bs.filter (fun x => x.line != b.line)).map (·.line)).Nodup := by
  rw [List.map_cons, List.nodup_cons]
  refine ⟨fun hm => ?_, (List.filter_sublist.map _).nodup h⟩
  obtain ⟨c, hc, he⟩ := List.mem_map.mp hm
  have := (List.mem_filter.mp hc).2
  simp [he] at this

theorem wf_bufTake (st : Stack) (b : BufLine) (hb : b.data.length = 64) (h : st.wf = true) : (bufTake st b).wf = true := by
  have h1 := wf_bufBack st ((b :: st.lineBuf.filter (fun x => x.line != b.line)).drop 256) h
  rw [Stack.wf_iff] at h h1 ⊢
  refine ⟨h1.1, by simp [bufTake], fun c hc => ?_, ?_⟩
  · have hc := List.mem_of_mem_take hc
    rcases List.mem_cons.mp hc with rfl | hc
    · exact hb
    · exact h.2.2.1 c (List.mem_of_mem_filter hc)
  · exact ((List.take_sublist _ _).map _).nodup (bufOthers _ _ h.2.2.2)

theorem wf_bufFlush (st : Stack) (h : st.wf = true) : (bufFlush st).wf = true := by
  have h1 := wf_bufBack st st.lineBuf h
  rw [Stack.wf_iff] at h1 ⊢
  exact ⟨h1.1, by simp [bufFlush]⟩

/-! Bytes of a stack. -/

theorem tget_cellPuts (cs : List Host.Cell) (a : Nat) (bs : List Byte) (j : Nat) :
    tget (fun _ => (0 : Byte)) (cellPuts cs a bs) j = if a ≤ j ∧ j < a + bs.length then bs.getD (j - a) 0 else tget (fun _ => 0) cs j := by
  induction bs generalizing cs a with
  | nil => simp [cellPuts]
  | cons b bs ih =>
    rw [cellPuts, ih]
    unfold cellPut
    rw [tget_tset]
    by_cases h1 : j = a
    · subst h1; simp
    · by_cases h2 : a + 1 ≤ j ∧ j < a + 1 + bs.length
      · rw [if_pos h2, if_pos (by simp; omega)]
        obtain ⟨i, hi⟩ : ∃ i, j - a = i + 1 := ⟨j - a - 1, by omega⟩
        rw [hi, show j - (a + 1) = i from by omega]; rfl
      · rw [if_neg h2, if_neg h1, if_neg (by simp; omega)]

/-- A changed line of the buffer is the only one that changes. -/
theorem find_bufMap_ne (bs : List BufLine) (l m : Nat) (f : BufLine → BufLine) (hf : ∀ b, (f b).line = b.line) (h : m ≠ l) :
    (bs.map (fun b => if b.line = l then f b else b)).find? (fun b => b.line == m) = bs.find? (fun b => b.line == m) := by
  induction bs with
  | nil => rfl
  | cons b bs ih =>
    rw [List.map_cons, List.find?_cons, List.find?_cons, ih]
    by_cases hb : b.line = l
    · have : (l == m) = false := by simp [Ne.symm h]
      rw [if_pos hb, hf, hb, this]
    · rw [if_neg hb]

theorem find_bufMap (bs : List BufLine) (l : Nat) (f : BufLine → BufLine) (hf : ∀ b, (f b).line = b.line) :
    (bs.map (fun b => if b.line = l then f b else b)).find? (fun b => b.line == l) = (bs.find? (fun b => b.line == l)).map f := by
  induction bs with
  | nil => rfl
  | cons b bs ih =>
    rw [List.map_cons, List.find?_cons, List.find?_cons, ih]
    by_cases hb : b.line = l
    · have : (l == l) = true := by simp
      rw [if_pos hb, hf, hb, this]; rfl
    · have : (b.line == l) = false := by simp [hb]
      rw [if_neg hb, this]

theorem bufLineAt_lineStore (st : Stack) (l m : Nat) (d : List Byte) (p : Bool) : bufLineAt (lineStore st l d p) m = bufLineAt st m := rfl

theorem bufLineAt_lineWrite_ne (st : Stack) {l m : Nat} (d : List Byte) (p : Bool) (h : m ≠ l) : bufLineAt (lineWrite st l d p) m = bufLineAt st m := by
  unfold lineWrite; split
  · exact find_bufMap_ne st.lineBuf l m (fun b => { b with data := slice d 0 64, poison := p }) (fun _ => rfl) h
  · rfl

/-- A write leaves every other line's bytes and check symbols alone. -/
theorem lineBytes_lineWrite_ne (st : Stack) {l m : Nat} (d : List Byte) (p : Bool) (h : m ≠ l) : lineBytes (lineWrite st l d p) m = lineBytes st m := by
  unfold lineBytes
  rw [bufLineAt_lineWrite_ne st d p h]
  cases bufLineAt st m with
  | some b => rfl
  | none =>
    refine List.map_congr_left (fun i hi => ?_)
    have hi := List.mem_range.mp hi
    unfold lineWrite; split
    · rfl
    · have := tget_cellPuts st.bytes (64 * l) (slice d 0 64) (64 * m + i)
      rw [if_neg (by simp [slice]; omega)] at this
      exact this

theorem lineCheck_lineWrite_ne (st : Stack) {l m : Nat} (d : List Byte) (p : Bool) (h : m ≠ l) : lineCheck (lineWrite st l d p) m = lineCheck st m := by
  unfold lineWrite; split
  · rfl
  · exact tget_tset_ne _ _ _ h

theorem lineWrite_marked (st : Stack) (l : Nat) (d : List Byte) (p : Bool) : (lineWrite st l d p).marked = st.marked := by
  unfold lineWrite; split <;> rfl

theorem lineRead_lineWrite_ne (st : Stack) {l m : Nat} (d : List Byte) (p : Bool) (h : m ≠ l) : lineRead (lineWrite st l d p) m = lineRead st m := by
  have hb := lineBytes_lineWrite_ne st d p h
  have hs : lineSyn (lineWrite st l d p) m = lineSyn st m := by unfold lineSyn; rw [hb, lineCheck_lineWrite_ne st d p h]
  have hl : lineState (lineWrite st l d p) m = lineState st m := by
    unfold lineState; rw [bufLineAt_lineWrite_ne st d p h, hs, lineWrite_marked]
  unfold lineRead
  rw [hl, hb, hs]

/-- A line stored in the DRAM reads back from there what was written, poison-marked if it was written so (R175, R176). -/
theorem lineRead_lineStore (st : Stack) (l : Nat) (d : List Byte) (p : Bool) (hn : bufLineAt st l = none) : lineRead (lineStore st l d p) l = (slice d 0 64, p) := by
  have hn' : bufLineAt (lineStore st l d p) l = none := hn
  have hb : lineBytes (lineStore st l d p) l = slice d 0 64 := by
    unfold lineBytes
    rw [hn']
    apply List.ext_getElem
    · simp [slice]
    · intro i h1 h2
      simp only [List.length_map, List.length_range] at h1
      have := tget_cellPuts st.bytes (64 * l) (slice d 0 64) (64 * l + i)
      rw [if_pos (by simp [slice]; omega)] at this
      simp only [List.getElem_map, List.getElem_range]
      refine this.trans ?_
      rw [show 64 * l + i - 64 * l = i from by omega, List.getD_eq_getElem _ _ h2]
  have hc : lineCheck (lineStore st l d p) l = (if p then checkQ (slice d 0 64) ^^^ alpha40 else checkQ (slice d 0 64)) ++
      (if p then checkP (slice d 0 64) ^^^ 1 else checkP (slice d 0 64)) := tget_tset_same _ _ _ _
  have hs : lineSyn (lineStore st l d p) l = if p then (1, alpha40) else (0, 0) := by
    unfold lineSyn; rw [hb, hc]
    have e1 : ∀ q r : BitVec 32, (q ++ r).extractLsb' 0 32 = r := by intro q r; exact BitVec.extractLsb'_append_eq_right
    have e2 : ∀ q r : BitVec 32, (q ++ r).extractLsb' 32 32 = q := by intro q r; exact BitVec.extractLsb'_append_eq_left
    have e3 : ∀ x y : BitVec 32, x ^^^ y ^^^ x = y := by intro x y; rw [BitVec.xor_comm x y, BitVec.xor_assoc, BitVec.xor_self, BitVec.xor_zero]
    simp only [e1, e2]
    cases p
    · simp
    · simp only [if_true, e3]
  have hl : lineState (lineStore st l d p) l = if p then .poison else .clean := by
    unfold lineState
    rw [hn', hs]
    cases p
    · rfl
    · simp only [if_true, decodeSyn]; rw [if_neg (by decide)]; simp
  unfold lineRead
  rw [hl, hb]
  cases p <;> rfl

/-- A line reads back what was written, from the buffer or the DRAM, poison-marked if it was written so (R175, R176, R187). -/
theorem lineRead_lineWrite (st : Stack) (l : Nat) (d : List Byte) (p : Bool) : lineRead (lineWrite st l d p) l = (slice d 0 64, p) := by
  unfold lineWrite; split
  · rename_i b hb
    have hf := find_bufMap st.lineBuf l (fun b => { b with data := slice d 0 64, poison := p }) (fun _ => rfl)
    have h2 : bufLineAt { st with lineBuf := st.lineBuf.map (fun b => if b.line = l then { b with data := slice d 0 64, poison := p } else b) } l =
        some { b with data := slice d 0 64, poison := p } := by
      unfold bufLineAt at hb ⊢
      rw [hf, hb]; rfl
    generalize ({ st with lineBuf := st.lineBuf.map (fun b => if b.line = l then { b with data := slice d 0 64, poison := p } else b) } : Stack) = st' at h2 ⊢
    unfold lineRead lineState lineBytes
    rw [h2]
    cases p <;> rfl
  · rename_i hn; exact lineRead_lineStore st l d p hn

theorem lineRead_lineStore_ne (st : Stack) {l m : Nat} (d : List Byte) (p : Bool) (h : m ≠ l) : lineRead (lineStore st l d p) m = lineRead st m := by
  have hb : lineBytes (lineStore st l d p) m = lineBytes st m := by
    unfold lineBytes
    rw [bufLineAt_lineStore]
    cases bufLineAt st m with
    | some b => rfl
    | none =>
      refine List.map_congr_left (fun i hi => ?_)
      have hi := List.mem_range.mp hi
      have := tget_cellPuts st.bytes (64 * l) (slice d 0 64) (64 * m + i)
      rw [if_neg (by simp [slice]; omega)] at this
      exact this
  have hs : lineSyn (lineStore st l d p) m = lineSyn st m := by
    have : lineCheck (lineStore st l d p) m = lineCheck st m := tget_tset_ne _ _ _ h
    unfold lineSyn; rw [hb, this]
  have hl : lineState (lineStore st l d p) m = lineState st m := by
    unfold lineState; rw [bufLineAt_lineStore, hs]; rfl
  unfold lineRead
  rw [hl, hb, hs]

/-- Reading looks at the buffer's entry for the line, else at the bytes, the check symbols and the mark. -/
theorem lineRead_buf (st : Stack) (l : Nat) (b : BufLine) (h : bufLineAt st l = some b) : lineRead st l = (b.data, b.poison) := by
  unfold lineRead lineState lineBytes
  rw [h]
  obtain ⟨l', d, p⟩ := b
  cases p <;> rfl

theorem lineRead_nobuf (st : Stack) (bs : List BufLine) (l : Nat) (h : bufLineAt st l = none) (h2 : bs.find? (fun b => b.line == l) = none) :
    lineRead { st with lineBuf := bs } l = lineRead st l := by
  unfold lineRead lineState lineBytes lineSyn lineBytes bufLineAt lineCheck
  rw [show st.lineBuf.find? (fun b => b.line == l) = none from h]
  dsimp only
  rw [h2]

/-- A line written back reads from the DRAM as it did from the buffer, and every other line as before (R187). -/
theorem lineRead_bufBack (st : Stack) (bs : List BufLine) (hn : (bs.map (·.line)).Nodup) (hl : ∀ b ∈ bs, b.data.length = 64) (m : Nat) (h : bufLineAt st m = none) :
    lineRead (bufBack st bs) m = match bs.find? (fun b => b.line == m) with | some b => (b.data, b.poison) | none => lineRead st m := by
  unfold bufBack
  induction bs generalizing st with
  | nil => rfl
  | cons b bs ih =>
    rw [List.foldl_cons, ih (lineStore st b.line b.data b.poison) (List.nodup_cons.mp hn).2 (fun c hc => hl c (List.mem_cons_of_mem _ hc)) h, List.find?_cons]
    by_cases hb : b.line = m
    · subst hb
      have hnf : bs.find? (fun c => c.line == b.line) = none := by
        rw [List.find?_eq_none]
        intro c hc e
        exact (List.nodup_cons.mp hn).1 (List.mem_map.mpr ⟨c, hc, by simpa using e⟩)
      have hs : slice b.data 0 64 = b.data := by
        have := hl b (List.mem_cons_self ..)
        have ht : b.data.take 64 = b.data := List.take_of_length_le (by omega)
        simp [slice, this, ht]
      rw [hnf]
      simp only [beq_self_eq_true]
      rw [lineRead_lineStore _ _ _ _ h, hs]
    · have : (b.line == m) = false := by simp [hb]
      rw [this]
      cases bs.find? (fun b => b.line == m) with
      | some c => rfl
      | none => exact lineRead_lineStore_ne _ _ _ (Ne.symm hb)

/-- A line taken into the buffer with what it reads as, and the lines pushed out by it, read as before: the buffer holds no second content (R187). -/
theorem lineRead_bufTake (st : Stack) (b : BufLine) (h : st.wf = true) (hb : lineRead st b.line = (b.data, b.poison)) (hd : b.data.length = 64) (m : Nat) :
    lineRead (bufTake st b) m = lineRead st m := by
  obtain ⟨-, -, h3, h4⟩ := (Stack.wf_iff st).mp h
  have hno := bufOthers st.lineBuf b h4
  have hlen : ∀ c ∈ b :: st.lineBuf.filter (fun x => x.line != b.line), c.data.length = 64 := by
    intro c hc
    rcases List.mem_cons.mp hc with rfl | hc
    · exact hd
    · exact h3 c (List.mem_of_mem_filter hc)
  have hfind : ∀ c, (b :: st.lineBuf.filter (fun x => x.line != b.line)).find? (fun x => x.line == m) = some c → lineRead st m = (c.data, c.poison) := by
    intro c hc
    rw [List.find?_cons] at hc
    by_cases hm : b.line = m
    · subst hm
      simp only [beq_self_eq_true] at hc
      cases hc; exact hb
    · have : (b.line == m) = false := by simp [hm]
      rw [this] at hc
      refine lineRead_buf st m c ?_
      unfold bufLineAt
      rw [List.find?_filter] at hc
      rw [← hc]
      congr 1
      funext x
      by_cases hx : x.line = m
      · simp [hx, Ne.symm hm]
      · simp [hx]
  have hnone : (b :: st.lineBuf.filter (fun x => x.line != b.line)).find? (fun x => x.line == m) = none → bufLineAt st m = none := by
    intro hc
    rw [List.find?_cons] at hc
    by_cases hm : b.line = m
    · rw [show (b.line == m) = true by simp [hm]] at hc; cases hc
    · rw [show (b.line == m) = false by simp [hm]] at hc
      unfold bufLineAt
      rw [List.find?_eq_none] at hc ⊢
      intro x hx e
      have e := beq_iff_eq.mp e
      exact hc x (List.mem_filter.mpr ⟨hx, by simp [e, Ne.symm hm]⟩) (by simp [e])
  generalize hall : b :: st.lineBuf.filter (fun x => x.line != b.line) = all at hno hlen hfind hnone
  have ht : bufTake st b = { bufBack st (all.drop 256) with lineBuf := all.take 256 } := by unfold bufTake; rw [hall]
  rw [ht]
  have hsplit : all.find? (fun x => x.line == m) = ((all.take 256).find? (fun x => x.line == m)).or ((all.drop 256).find? (fun x => x.line == m)) := by
    rw [← List.find?_append, List.take_append_drop]
  cases hk : (all.take 256).find? (fun x => x.line == m) with
  | some c =>
    rw [lineRead_buf _ m c (by exact hk)]
    exact (hfind c (by rw [hsplit, hk]; rfl)).symm
  | none =>
    rw [hk, Option.none_or] at hsplit
    -- the line stands in the DRAM now
    have hz : lineRead { bufBack st (all.drop 256) with lineBuf := all.take 256 } m =
        lineRead (bufBack { st with lineBuf := [] } (all.drop 256)) m := by
      have hbb : ∀ (x : Stack) (bs cs : List BufLine), { bufBack x bs with lineBuf := cs } = bufBack { x with lineBuf := cs } bs := by
        intro x bs cs
        unfold bufBack
        induction bs generalizing x with
        | nil => rfl
        | cons c bs ih => exact ih _
      rw [hbb]
      have h1 : ∀ cs : List BufLine, cs.find? (fun x => x.line == m) = none →
          lineRead { bufBack { st with lineBuf := [] } (all.drop 256) with lineBuf := cs } m = lineRead (bufBack { st with lineBuf := [] } (all.drop 256)) m :=
        fun cs hcs => lineRead_nobuf _ cs m (by unfold bufLineAt; rw [bufBack_lineBuf]; rfl) hcs
      have h2 := h1 (all.take 256) hk
      rw [hbb] at h2
      exact h2
    rw [hz, lineRead_bufBack _ _ (((List.drop_sublist _ _).map _).nodup hno) (fun c hc => hlen c (List.mem_of_mem_drop hc)) m rfl]
    cases hq : (all.drop 256).find? (fun x => x.line == m) with
    | some c => exact (hfind c (by rw [hsplit, hq])).symm
    | none =>
      have hn := hnone (by rw [hsplit, hq])
      exact lineRead_nobuf st [] m hn rfl

end Sys2Proof.Machine
end

