-- ==== Sys2Proof/Tests/Slice0.lean ====
section
/-! SUPPORT. Tests: small states, a witness for every statement with hypotheses, ill-formed terms that WellFormed refuses, and single
commands on small states. -/
namespace Sys2Proof.Tests
set_option Elab.async false
open Sys2Proof Sys2Proof.Machine

/-! Small states. -/

/-- A running module: every domain on, BA0 active, BA1 standby. -/
def ready : State := { domains := (List.range 92).map (fun d => (d, DomSt.on)), role0 := .active, role1 := .standby, dramStacks := (List.range 24).map (fun n => (n, { off := false })), light := { cal := { blendRuns := true } } }

/-- Tile 0 with a cleared store whose first bytes hold a descriptor's words, published and enabled. -/
def engineState (ws : List Nat) : State :=
  setTile ready 0 { tileReset 0 with
    store := { cleared := true, bytes := (((ws.flatMap (toLe 8)).zipIdx).filter (fun e => e.1 != 0)).map (fun e => (e.2, e.1)) },
    mq := { (tileReset 0).mq with enable := true, tail := 1 } }

/-- Tile 0 with a running core at address 0 of a cleared store that holds one word. -/
def coreState (w : Nat) : State :=
  setTile ready 0 { tileReset 0 with
    store := { cleared := true, bytes := (((toLe 4 w).zipIdx).filter (fun e => e.1 != 0)).map (fun e => (e.2, e.1)) },
    core := { running := true } }

/-- A flow 7 between tiles 0 and 1 of die 0 with one line each. -/
def flow7 (kind : Nat) : FlowDesc :=
  { flow := 7, kind := kind, region := 0, op := 0, fmt := 0, returnFlow := 0xFFFF, destVtile := 1, count := 1,
    parts := [{ vtile := 0, peer := 1, tsLine := 0, tsRing := 1, lines := 1, outLines := if kind = 3 then 3 else 1, offset := 0, step := 0, wrap := 0 },
              { vtile := 1, peer := 0, tsLine := 0, tsRing := 1, lines := 1, outLines := 1, offset := 0, step := 0, wrap := 0 }] }
def image7 (kind : Nat) : Image :=
  { size := 4096, scratchBytes := 0, vtiles := [{ program := 0, partsLine := 0 }, { program := 0, partsLine := 0 }], programs := [], regions := [],
    flows := [flow7 kind], barriers := [{ group := 3, members := [0, 1] }], flags := [{ flag := 5, initial := 9, subs := [0, 1] }], codes := [], variants := [] }
def job7 (kind : Nat) : Job :=
  { phase := .running, ring := 0, entryNo := 1, owner := 72, entry := {}, image := some (image7 kind), binding := [0, 1], variant := some 0 }
/-- A job that runs on tiles 0 and 1 of die 0. -/
def flowState (kind : Nat) : State := { ready with job := some (job7 kind) }
def flowLoadState : State :=
  { ready with job := some { job7 1 with resolved := [{ region := 0, remote := false, base := 0, size := 4096, key := 0 }] } }
def flowDoneState : State :=
  setTile (flowState 4) 0 { tileReset 0 with flows := [(7, { begun := 1, open_ := [{ newXfer 0 with reqDone := true, left := true }] })] }
/-- The first flit of a packed unit of four CB4 blocks, uncoded. -/
def packedFlit : InflFlit :=
  { flow := 7, tile := 0, transfer := 0, offset := 0, flit := { data := [1, 255, 255, 0, 4, 0, 64, 0, 128, 0, 0, 0, 0, 0, 0, 0] ++ List.replicate 48 0, poison := false } }
def packedState : State :=
  setTile (setInfl (flowState 3) 0 { buf := packedFlit :: (List.range 63).map (fun i =>
      { flow := 7, tile := 0, transfer := 0, offset := i + 1, flit := { data := List.replicate 64 0, poison := false } }) })
    0 { tileReset 0 with flows := [(7, { begun := 1, open_ := [{ newXfer 0 with units := [(0, 3)] }] })] }

/-- A packet of a KIND with one zero flit for line 0 of a node, from tile 2. -/
def meshPkt (kind dst : Nat) : MeshPacket :=
  { dst := BitVec.ofNat 7 dst, src := 2, vc := 2, kind := BitVec.ofNat _ kind, len := 1, fields := 0, flits := [{ data := List.replicate 64 0, poison := false }] }
/-- A REDUCE packet waits at router 9. -/
def waitState : State := setDie ready 0 (setWaits {} 9 [{ packet := meshPkt 4 63, out := 10, since := 0 }])
/-- Tile 1 holds a reduction of two contributors on line 0. -/
def sumState : State := setTile ready 1 { tileReset 1 with combFlows := [{ flow := 0, first := 0, lines := 1, contributors := 2, bf16 := false }] }

/-- Tile 1 holds reductions of four flows, and has a part in a fifth. -/
def fifthState : State :=
  setTile (setTile { ready with job := some { job7 5 with image := some { image7 5 with flows := [{ flow7 5 with flow := 0 }] } } } 1 (tileReset 1)) 1
    { tileReset 1 with combFlows := (List.range 4).map (fun i => { flow := BitVec.ofNat 16 (i + 1), first := 10 * i + 10, lines := 1, contributors := 2, bf16 := false }) }
/-- A record with an OP and a number of lines for address 0. -/
def atomicRec (op lines : Nat) : OpRecord :=
  { op := BitVec.ofNat 8 op, fmt := 0, lines := BitVec.ofNat 8 lines, res3 := 0, id := 0, addr := 0, operand := 0, compare := 0 }
def reqState : State := setDie ready 0 { reqs := [{ tile := 0, tag := 0, flow := 7, transfer := 0, load := true, addr := 0, lines := 1, waiting := [0], unsent := [], worst := 0, got := [], sentAt := 0 }] }
def lateState : State := setStack { ready with ticks := 20000 } 0
  { off := false, held := [{ req := { src := 8, tile := 0, tag := 0, flow := 0, linesM1 := 0, addr := 0 }, load := false, need := [0], got := [], poisoned := false, at_ := 0 }] }

/-- A fault frame waits at die 0 for die 1. -/
def houseState : State := setHouseQ ready (portSite 0).1 3 [((portSite 1).1, [{ data := List.replicate 64 0, poison := false }])]
/-- Die 0 has one flit for die 1 of flow 7 on port 0. -/
def sendState : State := setDie ready 0 { txq := [(7, [{ dstSite := 127, req := false, tile := 0, tag := 0, offset := 0, flit := { data := List.replicate 64 0, poison := false }, last := true }])] }
/-- A rows slot of one row, 349, of generation 1. -/
def rowsSlot : List Flit := [{ data := [1, 1, 93, 1, 1] ++ List.replicate 59 0, poison := false }]
def shadowState (st : ShadowState) : State :=
  setBt ready 0 { btAt ready 0 with shadow := { state := st, gen := 1, owner := 72, rows := List.range 350 } }
def verdictJob : Job := { job7 1 with phase := .loading, loading := some 0, loadGen := 1, verdicts := (List.range 7).map (fun b => (b, 0)), owner := 0, image := some { image7 1 with variants := [{ variant := 0, kind := 0, dieMask := 0, setMask := 15, standby := 255, bootFlow := 7, fabric := [], binding := [0, 1], tableOff := 0 }] } }
def verdictState : State := { ready with job := some verdictJob }

def linkUpState (m : LinkMode) : State := setLink ready 15 { mode := m }

/-- Port 349 is past its limits of corrected symbols on line 35 and of frames lost; cell 511 of BT7 runs on its spare. -/
def marginalState : State := setBt (setPort ready 349 { errLog := [{ frame := 0, line := 35, sender := 0, count := 1000000 }, { frame := 0, line := 35, sender := 1, count := 1 }], badLog := [(0, some 0), (0, some 1)] }) 7 { btAt ready 7 with spareUsed := [511] }
/-- Tile 0 awaits data of flow 7 for 20 microseconds. -/
def lostState : State :=
  setTile (setDie { flowState 4 with ticks := 20000 } 0 { reqs := [{ tile := 0, tag := 0, flow := 7, transfer := 0, load := true, addr := 0, lines := 1, waiting := [0], unsent := [], worst := 0, got := [], sentAt := 0 }] })
    0 { tileReset 0 with flows := [(7, { begun := 1, open_ := [{ newXfer 0 with expect := 1, lastSlot := some 0, left := true }] })] }

/-- Comb 0 dark, port 349 dark on line 35, its receiving ring 31 locked but dark, its sending ring 31 held for 100 microseconds. -/
def darkState : State :=
  setLight { ready with ticks := 100000 } (fun l => { l with
    cal := { l.cal with blendRuns := true }
    low := [(combLowKey 0 35, some 0), (tapLowKey 349 35, some 0), (dropLowKey (Machine.ringKey 349 true 31), some 0)]
    rings := [(Machine.ringKey 349 false 31, { state := 5 }), (Machine.ringKey 349 true 31, { state := 4, heaterTo := some 9 })] })
/-- Comb 9, lighting for base tile 7, is low on line 35. -/
def spareLowState : State := setLight (setComb { ready with ticks := 100000 } 9 { state := 2, target := some 7 }) (fun l => { l with low := [(combLowKey 9 35, some 0)] })
/-- A receive step of line 33 ends; port 349 holds line 5 on the swing, its ring locked again. -/
def calState : State :=
  dset (setPort (setLight { ready with now := 1048576 } (fun l => { l with
    cal := { l.cal with active := true, side := 1, step := 34, running := some 0, holds := [(349, true, 5)], ports := [(Machine.ringKey 365 true 33, { open_ := true })] }
    rings := [(Machine.ringKey 349 true 5, { state := 4 })] })) 365 { calRx := some 33 }) Obj.moduleState 1
/-- Comb 9 lights for base tile 7. -/
def combState : State := setComb ready 9 { state := 2, target := some 7 }

def takeState : State := setRing (dset (dset ready Obj.moduleState 1) Obj.lcState 1) 15 { entries := 16, tail := 1 }
def jobState (ph : JobPhase) : State := { ready with job := some { job7 1 with phase := ph, bootSent := true } }
/-- Tile 1 of die 0 has all its boot lines. -/
def bootState : State := setTile (setDie (jobState .starting) 0 { dieRec := some false }) 1 { tileReset 1 with bootGot := 1000000000, store := { cleared := true } }
def bootedJob : Job := { job7 1 with phase := .starting, booted := [0, 1], variant := none }
def bootedState : State := { ready with job := some bootedJob }
def exitsJob : Job := { job7 1 with exits := [(0, 0), (1, 0)] }
def stop0 : Stop := { reason := 0, ending := none, lossKind := 0, lossUnit := 0, awaiting := [8], at_ := 0, decided := 0 }
def stopJob : Job := { job7 1 with owner := 1, phase := .stopping, stop := some stop0, entry := { (job7 1).entry with runLimit := 1 } }
def stopState : State := { ready with ticks := 25000, job := some stopJob }
def recState : State := setRing ready 15 { recs := [(1, [])], acked := true, mode := 1 }

/-- Module 1 with link 15 up. -/
def fabState : State := { setLink ready 15 { mode := .up, neighbour := some (2, 7, 1) } with fab := { (setLink ready 15 { mode := .up, neighbour := some (2, 7, 1) }).fab with own := 1 } }
/-- A packet of an OPC with 64 bytes, or one line, at address 0 of module 1. -/
def fabPkt (opc : Nat) : FabPacket :=
  { blankPacket with
    opc := BitVec.ofNat 8 opc, vc := if opc = 8 then 2 else 1, len := if opc = 2 ∨ opc = 4 ∨ opc = 5 then 1 else 0, dst := 1, src := 2, tmo := 10,
    w4 := if opc = 3 then 1 else if opc = 4 then 0x10011 else 64, data := if opc = 2 ∨ opc = 4 ∨ opc = 5 then [{ data := List.replicate 64 0, poison := false }] else [] }
def regionState : State := { fabState with fab := { fabState.fab with regions := [(0, { cur := { base := 0, sizeLog2 := 21, perm := 15, state := 1, key := 0 } })] } }
def dedupeState : State :=
  { fabState with
    mt := { fabState.mt with state := 2 }
    fab := { fabState.fab with dedupe := [{ home := 2, src := 2, origFd := 0, tag := 0, first := 0, madeAt := 0, outcome := some (0, 5), waiters := [] }] } }
def unit0 : RemoteUnit := { handle := 0, fd := 7, cd := 15, tile := 63, flow := 7, transfer := 0, opc := 1, addr := 2 ^ 44, key := 0, size := 64, pos := 0, record := [], recPoison := false, data := [], stage := 1 }
def unitState : State :=
  { fabState with
    ticks := 30000
    fab := { fabState.fab with
      units := [unit0], throttle := [(6, 2)],
      memWaits := [{ fd := 7, packet := fabPkt 1, at_ := 0 }],
      ops := [{ fd := 7, tag := 4095, packet := fabPkt 1, first := 0, attempt := 2, owner := .sync 0, members := 1, done := [], other := none },
              { fd := 6, tag := 1, packet := fabPkt 1, first := 0, attempt := 0, owner := .sync 0, members := 1, done := [], other := none }] } }

/-- A VC3 packet of an OPC, with one flit when bytes are given. -/
def vc3In (opc : Nat) (bs : List Byte) : FabPacket :=
  { blankPacket with opc := BitVec.ofNat 8 opc, vc := 3, len := if bs = [] then 0 else 1, data := if bs = [] then [] else [{ data := bs, poison := false }] }
/-- HELLO of module 2, die 7, port 1, with ACK. -/
def helloBytes : List Byte := [2, 0, 7, 1, 1] ++ List.replicate 59 0
/-- TIME that echoes 5. -/
def timeBytes : List Byte := List.replicate 8 0 ++ [5] ++ List.replicate 55 0
def trainState : State := { setLink fabState 0 { mode := .training } with ticks := 4000000000 }
def echoState : State := setLink fabState 15 { mode := .up, txs := [5] }
def drainState : State :=
  { fabState with ticks := 250000, fab := { fabState.fab with leaving := some 0, drain := some { at_ := 0, modules := [], groups := [], leavers := [], queued := [], flushed := false, shadow := [] } } }

def vc0Pkt (opc : Nat) : FabPacket := { blankPacket with opc := BitVec.ofNat 8 opc, vc := 0, dst := 1, src := 2, tmo := 10 }
/-- Barriers 0 and 1,023 with home and one local tile here expect two modules; module 1 has arrived at the second. -/
def barState : State :=
  { fabState with
    ticks := 1000000000
    fab := { fabState.fab with bars := [(0, { entry := BitVec.ofNat 64 (1 + 2 * 2 ^ 16 + 2 ^ 40), sentAt := some 0 }),
                                        (1023, { entry := BitVec.ofNat 64 (1 + 2 * 2 ^ 16 + 2 ^ 40), maps := [(0, [1])] })] } }
def takeoverState : State := { ready with domains := tput ready.domains (domFD 0) .off }

def hostWin : WinE := { base := 0, size := 4096, perm := 7, on := true, key := 0x100 }
/-- Port 1 up; pair 4,095 of it ready, with ring 15; window 255 on the first 4 KiB. -/
def hostState : State :=
  setRing (setQp (setHostPort { ready with host := { ready.host with wins := [(255, { cur := hostWin })] } } 1 { link := 2, ipv4 := 7, ipv6 := List.replicate 16 1 }) 4095
    { state := 1, port := 1, ring := 15 }) 15 { entries := 16 }
/-- A good frame for a host port, tagged as the port asks. -/
def frameOf (s : State) (port : Fin 2) : HostFrame := { port := port, bytes := 64, vlan := (hostTag s port.val).map (Fin.ofNat 4096) }
def qpBytes : List Byte := [1, 1, 3, 15] ++ List.replicate 60 0
def ringBytes : List Byte := List.replicate 8 0 ++ [16] ++ List.replicate 23 0
def abortState : State := setRing ready 15 { entries := 16, tail := 16 }
def ackState : State :=
  setQp { hostState with ticks := 1000000000 } 4095
    { state := 1, port := 1, ring := 15, out := some { psn := 5, ring := 15, setup := 0, n := 1, va := 0, rkey := 0, data := [], seqPart := false, sentAt := 0, tries := 0 } }

/-- Site 99 counts one more than module time. -/
def skewState : State := setMt { ready with now := 1024 } (fun m => { m with unset := [], skew := [(99, 1)] })
def droopState : State := setTile ready (tkey 15 63) { tileReset (tkey 15 63) with droopAt := some 0 }
def stepState : State := setMt ready (fun m => { m with stepD := some 1024 })
def absentState : State :=
  { ready with ticks := 1000000, bts := (List.range 8).map (fun b => (b, { btAt ready b with timing := { (btAt ready b).timing with holdover := true, absentSince := some 0 } })) }
/-- LOCKED on link 15, which is down. -/
def lockedState : State := setMt ready (fun m => { m with state := 2, source := { kind := 3, link := 15, cls := 1, root := 0, hops := 1 } })
def ownRoot : State := setMt fabState (fun m => { m with source := { kind := 4, link := 0xFF, cls := 2, root := 1, hops := 0 } })
def ptpState : State :=
  setMt hostState (fun m => { m with
    master := some (1, { rank := 0, port := 5 })
    ptp := [(1, { waiting := true, reqOut := true, offset := some 0 })] })
def announce0 : AnnounceMsg :=
  { sender := 5, domain := 0, identity := 0, priority1 := 0, clockClass := 0, accuracy := 0, variance := 0, priority2 := 0, steps := 0 }

def overState : State := setPow { ready with ticks := 1000000 } (fun w => { w with overAt := some 0, input := 6000 })
def underState : State := setPow { ready with ticks := 1000000 } (fun w => { w with under := some 0, disconnected := true })
def fallState : State := dset (setPow ready (fun w => { w with inputLevel := 1 })) Obj.moduleState 1
def riseState : State := dset (setPow { ready with ticks := 1000000 } (fun w => { w with inputLevel := 1, level := 1, above := [(1, 0)] })) Obj.moduleState 1
def releaseReady : State := { ready with ticks := 10000000 }
def turnState : State := { ready with domains := tput ready.domains 15 (.turningOn .off) }
/-- Site 99 is cool with a pause count of 3, site 98 has converted badly three times; the flow is low. -/
def heatState : State :=
  { ready with
    ticks := 1000000000
    therm := [(98, { bad := 3 }), (99, { p := 3, reviewFrom := some 0, value := some 300 })]
    coolant := { ready.coolant with lowSince := some 0 } }

/-- DOMAIN_FAULT of domain 15 at CD15. -/
def msg40 : FaultMsg := { site := 23, block := 8, kind := 0x40, severity := 5, poison := false, detail := 15 }
def faultState : State :=
  setFaults { ready with ticks := 20000, now := 1024 } (fun f => { f with
    alert := .pulsing, alertSince := 10000, kept := [{ site := 23, msg := msg40, ackAt := 0 }]
    recovery := some { msg := msg40, from_ := 0, until_ := some 1024 } })

def cupState : State := dset (dset ready Obj.moduleState 1) Obj.cupEnable 1
/-- Period 65535 is open and awaits CD15; its tile 63 runs the test. -/
def cupOpenState : State :=
  setTile (setCup { ready with ticks := 50000000 } (fun c => { c with open_ := true, k := 65536, expect := [15] })) (tkey 15 63) { tileReset (tkey 15 63) with cup := .running }
/-- CD15.T63 disagrees with CD0.T63 and with the pair of CD1 and CD14. -/
def lossCup : Cupping := { m := 15, reported := (List.range 256), sums := [(63, 5), (127, 5), (959, 5), (1023, 6)] }

def beatState : State := { ready with ticks := 6000 }
def ba1State : State := { ready with active := 1, named := 1, role0 := .standby, role1 := .active }

def testState : State := { ready with ticks := 10000000 }
def silentState : State := setBarOf { testState with role1 := .silent } 1 { barOf testState 1 with silentAt := some 9000000 }
/-- Twenty readings below 36 V. -/
def failState : State := setPow ready (fun w => { w with below := [(5, 20)] })
/-- A batch of one record the standby has not acknowledged. -/
def unackedState : State := setJournal ready (fun j => { j with next := 5, acked := 2 })
def manyState : State := setJournal ready (fun j => { j with pending := List.replicate 1024 { type := 0x0010, part := 0, key := 0, seq := 0, data := [] } })
def fullState : State := setCarafe ready 1 { carafeOf ready 1 with lastCommit := 65540, journalFrom := 5 }
def slotState : State := { ready with houseIn := tset (fun _ => []) ready.houseIn (houseKey (siteBA 1) 3) [(0, [{ data := List.replicate 64 0, poison := false }])] }
def secondState : State := { ready with ticks := 1000000000 }

/-- A READ of 0x1000.01 with TXN 7. -/
def readBody : List Byte := [1, 1, 7, 0, 0, 16, 1, 0, 0, 0, 0, 0, 0, 0, 0, 0, 0, 0, 0, 0, 0, 0, 0, 0]
def readUnit : List Byte := readBody ++ toLe 4 (crc32c readBody)
def clientState : State := setPunel (dset ready Obj.moduleState 1) (fun p => { p with clients := [{ id := .field 1, last := 0, replies := [(7, readUnit, 0)] }] })
def plcaState : State := setPunel { ready with ticks := 4000000 } (fun p => { p with state := 1, beaconAt := some 0, collisions := List.replicate 15 4000000 })

def attestUnit : List Byte := [1, 1, 7, 0, BitVec.ofNat 8 (Obj.attestReport / 256), BitVec.ofNat 8 (Obj.attestReport / 65536), BitVec.ofNat 8 Obj.attestReport] ++ List.replicate 21 0
def stageState : State := setSec ready (fun x => { x with updState := 1, updClient := some (.field 1), updBuf := List.replicate 1024 0, updTotal := 2048 })
/-- Slot B runs on trial and slot A is staged. -/
def trialState : State :=
  setSec (dset { ready with ticks := 10000000000000 } Obj.moduleState 1) (fun x => { x with booted := some 1, trial := true, slotA := 1, slotB := 4 })

/-- Start-up in a step, whose limit has passed since tick 0. -/
def atStep (n : Nat) : State := setPow (setStartup { ready with ticks := 70000000 } (fun x => { x with step := n })) (fun w => { w with good := some 0 })

/-! Witnesses. -/

theorem witness_EngineNopAndZeroStart :
    EngineStarts (engineState [0]) 0 0 ∧ EngineStarts (engineState [5]) 0 5 ∧ EngineStarts (engineState [4]) 0 4 := by decide +kernel
theorem witness_EngineMmaLoadStoreStart :
    EngineStarts (engineState [0x20000000660001 + 0x100000000, 0x2000000000 * 1, 0x4000000000, 0, 0]) 0 1 := by decide +kernel
theorem witness_EngineMmaLoadStoreStart_io :
    EngineStarts (engineState [0x7000002, 0, 0, 0x8000000000]) 0 2 ∧ EngineStarts (engineState [0x1000003, 0, 0, 0x8000000000]) 0 3 := by decide +kernel
theorem witness_QueueRegistersWritten : tileLive ready 0 = true ∧ tileLive (engineState []) 0 = true ∧
    (tileAt ready 0).mq.done = (tileAt ready 0).mq.tail ∧ (tileAt (engineState []) 0).mq.done ≠ (tileAt (engineState []) 0).mq.tail ∧
    ((tileAt ready 0).mq.tail ≤ 64 ∧ (64 : Word).toNat ≤ (tileAt ready 0).mq.head.toNat + 64) ∧
    (tileAt (setTile ready 0 { tileReset 0 with mq := { halted := true } }) 0).mq.halted = true ∧
    ¬((tileAt ready 0).mq.tail ≤ 65 ∧ (65 : Word).toNat ≤ (tileAt ready 0).mq.head.toNat + 64) ∧
    (tileAt ready 0).mq.halted = false ∧ (tileAt ready 0).mq.haltPending = none := by decide +kernel
theorem witness_QueueControl : tileLive ready 0 = true ∧ (0 : Word).getLsbD 2 = false ∧ (0 : Word).getLsbD 1 = false ∧
    (tileAt ready 0).mq.halted = false ∧ (tileAt ready 0).mq.started = [] := by decide +kernel
theorem witness_QueueControl_states :
    (tileAt (setTile ready 0 { tileReset 0 with mq := { halted := true, aborting := true } }) 0).mq.halted = true ∧
    tileLive (setTile ready 0 { tileReset 0 with mq := { halted := true, aborting := true } }) 0 = true ∧
    (tileAt (setTile ready 0 { tileReset 0 with mq := { halted := true, aborting := true } }) 0).mq.aborting = true ∧
    (tileAt (setTile ready 0 { tileReset 0 with mq := { halted := true, aborting := true } }) 0).mq.started = [] := by decide +kernel
theorem witness_DescriptorRetires :
    (tileAt (setTile ready 0 { tileReset 0 with mq := { started := [{ number := 0, notify := true, op := 3, acc := some 0, complete := false, writes := [(64, 7)] }] } }) 0).mq.started =
      { number := 0, notify := true, op := 3, acc := some 0, complete := false, writes := [(64, 7)] } :: [] ∧
    tileLive (setTile ready 0 { tileReset 0 with mq := { started := [{ number := 0, notify := true, op := 3, acc := some 0, complete := false, writes := [(64, 7)] }] } }) 0 = true ∧
    tileLive ready 0 = true ∧ (tileAt ready 0).mq.started = [] := by decide +kernel
theorem witness_DmaCopies_out :
    touchesOut (tileAt (setTile ready 0 { tileReset 0 with banksOut := 1 }) 0) 0x10000000 64 = true ∧ tileLive (setTile ready 0 { tileReset 0 with banksOut := 1 }) 0 = true ∧
    (tileAt (setTile ready 0 { tileReset 0 with banksOut := 1 }) 0).dma.queue.length < 8 := by decide +kernel
theorem witness_DmaCopies : tileLive ready 0 = true ∧ (tileAt ready 0).dma.queue.length < 8 ∧
    copyLegal 0 0 ((0x2000000 : Word).extractLsb' 0 26).toNat = false ∧ copyLegal 0 64 ((64 : Word).extractLsb' 0 26).toNat = true ∧
    coreRange 0 64 = some (false, 0) ∧ coreRange 0x10000000 64 = some (true, 0) := by decide +kernel
theorem witness_DmaCopies_queues :
    tileLive (setTile ready 0 { tileReset 0 with dma := { dst := 64, queue := List.replicate 8 none } }) 0 = true ∧
    8 ≤ (tileAt (setTile ready 0 { tileReset 0 with dma := { queue := List.replicate 8 none } }) 0).dma.queue.length ∧
    tileLive (setTile ready 0 { tileReset 0 with dma := { dst := 64, queue := [some (0, 0x10000000, 64)] } }) 0 = true ∧
    copyLegal (tileAt (setTile ready 0 { tileReset 0 with dma := { dst := 64 } }) 0).dma.src.toNat
      (tileAt (setTile ready 0 { tileReset 0 with dma := { dst := 64 } }) 0).dma.dst.toNat ((64 : Word).extractLsb' 0 26).toNat = true ∧
    touchesOut (tileAt (setTile ready 0 { tileReset 0 with dma := { dst := 64 } }) 0) 64 64 = false ∧
    (tileAt (setTile ready 0 { tileReset 0 with dma := { queue := [none] } }) 0).dma.queue = none :: [] ∧
    (tileAt (setTile ready 0 { tileReset 0 with dma := { dst := 64, queue := [some (0, 0x10000000, 64)] } }) 0).dma.queue =
      some (0, 0x10000000, 64) :: [] := by decide +kernel
theorem witness_TileCsrWrites : tileLive ready 0 = true ∧ tileLive ready 1023 = true ∧ (28 : Fin 32).val ∈ [2, 3, 4, 11, 15, 19, 23, 28] := by decide +kernel
theorem witness_CoreRuns : tileIssues (coreState 0x00508093) 0 = true ∧ (tileAt (coreState 0x00508093) 0).core.running = true ∧
    (tileAt (coreState 0x00508093) 0).halted = false ∧ readyIrqs (tileAt (coreState 0x00508093) 0).core = [] ∧
    fetchWord (coreState 0x00508093) 0 = .ok (4, 0x00508093) ∧ 0x00508093 % 128 = 0x13 ∧ iF3 0x00508093 = 0 ∧
    fetchWord (coreState 0xFFFFFFFF) 0 = .ok (4, 0xFFFFFFFF) ∧ 0xFFFFFFFF % 128 = 0x7F ∧ (tileAt ready 0).core.running = false ∧ tileIssues State.reset 0 = false := by decide +kernel
theorem witness_VectorRuns : tileIssues (coreState 0xC00470D7) 0 = true ∧ (tileAt (coreState 0xC00470D7) 0).core.running = true ∧
    (tileAt (coreState 0xC00470D7) 0).halted = false ∧ readyIrqs (tileAt (coreState 0xC00470D7) 0).core = [] ∧
    fetchWord (coreState 0xC00470D7) 0 = .ok (4, 0xC00470D7) ∧ 0xC00470D7 % 128 = 0x57 ∧ iF3 0xC00470D7 = 7 ∧
    bitAt 0xC00470D7 31 = true ∧ bitAt 0xC00470D7 30 = true ∧
    vsOff (coreAt (fetchEffects (coreState 0xC00470D7) 0 4) 0) = false ∧ (tileAt ready 0).core.running = false ∧ tileIssues State.reset 0 = false := by decide +kernel
theorem witness_FlowTransfers : tileLive (flowState 4) 0 = true ∧ tileLive (flowState 1) 0 = true ∧ partOf ready 0 0 = none ∧ tileLive ready 0 = true ∧
    (partOf (flowState 4) 0 7).isSome = true ∧ ((partOf (flowState 4) 0 7).map (fun e => (e.1.kind, sendReceives (flowState 4) 0 e.1 e.2))) = some (4, false) ∧
    ((partOf (flowState 4) 1 7).map (fun e => (e.1.kind, sendReceives (flowState 4) 1 e.1 e.2))) = some (4, true) ∧
    ((partOf (flowState 5) 0 7).map (fun e => e.1.kind)) = some 5 ∧ ((partOf (flowState 8) 0 7).map (fun e => e.1.kind)) = some 8 ∧
    ((partOf (flowState 1) 0 7).map (fun e => e.1.kind)) = some 1 ∧ (flowSt (tileAt (flowState 1) 0) 7).open_.length < 4 ∧
    regionOf (flowState 1) 0 = none := by decide +kernel
theorem witness_FlowTransfers_full :
    (flowSt (tileAt (setTile (flowState 4) 1 { tileReset 1 with flows := [(7, { asked := 4 })] }) 1) 7).asked = 4 ∧
    tileLive (setTile (flowState 4) 1 { tileReset 1 with flows := [(7, { asked := 4 })] }) 1 = true ∧
    4 ≤ (flowSt (tileAt (setTile (flowState 1) 0 { tileReset 0 with flows := [(7, { open_ := List.replicate 4 (newXfer 0) })] }) 0) 7).open_.length := by decide +kernel
theorem witness_FlowTransfers_local : ((partOf (flowLoadState) 0 7).map (fun e => (e.1.kind, e.1.region, e.2.lines, xferOffset e.2 0))) = some (1, 0, 1, 0) ∧
    tileLive flowLoadState 0 = true ∧ (regionOf flowLoadState 0).map (fun r => (r.remote, r.base, r.size)) = some (false, 0, 4096) ∧
    rangeRefused flowLoadState 0 64 = false ∧ rangeLost flowLoadState 0 64 = false ∧ rangeRefused flowLoadState (2 ^ 44 - 64) 64 = true ∧
    rangeLost { flowLoadState with setsLost := 15 } 0 64 = true ∧ rangeRefused { flowLoadState with setsLost := 15 } 0 64 = false := by decide +kernel
theorem witness_FlowTransfers_done : tileLive flowDoneState 0 = true ∧ ((partOf flowDoneState 0 7).map (fun e => e.1.kind)) = some 4 ∧
    (flowSt (tileAt flowDoneState 0) 7).open_ = { newXfer 0 with reqDone := true, left := true } :: [] ∧
    xferDone 4 1 { newXfer 0 with reqDone := true, left := true } = true ∧ xferDone 4 1 (newXfer 0) = false := by decide +kernel
theorem witness_StoreWakeAndGuard : domAt (setDom ready (domKD 15) (.turningOn .off)) (domKD 15) = .turningOn .off ∧ tileLive ready 0 = true := by decide +kernel
theorem witness_InflaterCommands :
    meshOn ready 15 = true ∧ (inflAt (setInfl ready 191 { check := [{ flow := 1, tile := 0, transfer := 0, firstLine := 0, lines := 3, good := true }] }) 191).check =
      { flow := 1, tile := 0, transfer := 0, firstLine := 0, lines := 3, good := true } :: [] ∧ (inflAt ready 191).check = [] ∧
    (inflAt ready 191).buf.find? (fun x => (unitFlits (inflAt ready 191) x).length == 64) = none ∧
    (inflAt (setInfl ready 0 { check := [{ flow := 1, tile := 0, transfer := 0, firstLine := 0, lines := 3, good := false }] }) 0).check =
      { flow := 1, tile := 0, transfer := 0, firstLine := 0, lines := 3, good := false } :: [] := by decide +kernel
theorem witness_InflaterCommands_unit :
    ((inflAt packedState 0).buf.find? (fun x => (unitFlits (inflAt packedState 0) x).length == 64)).map (fun x => (x.flow, x.tile, x.transfer, x.offset)) = some (7, 0, 0, 0) ∧
    (xferOf packedState 0 7 0).isSome = true ∧ ((partOf packedState 0 7).map (fun e => e.2.outLines)) = some 3 ∧
    ((xferOf packedState 0 7 0).bind (fun x => unitStart x 0)) = some 0 ∧ ((xferOf packedState 0 7 0).bind (fun x => unitStart x 2)) = none ∧
    ((xferOf packedState 0 7 0).bind (fun x => unitStart x 1)) = some 3 ∧ xferOf (flowState 3) 0 7 0 = none ∧
    headOk packedState (unitHead (List.replicate 4096 0)) = false := by decide +kernel
theorem witness_InflaterCommands_head :
    headOk packedState (unitHead ((unitFlits (inflAt packedState 0) packedFlit).flatMap (fun y => y.flit.data))) = true ∧
    (expandUnit packedState (unitHead ((unitFlits (inflAt packedState 0) packedFlit).flatMap (fun y => y.flit.data)))
      ((unitFlits (inflAt packedState 0) packedFlit).flatMap (fun y => y.flit.data))).isSome = true := by decide +kernel
theorem witness_MeshMoves : meshOn ready 0 = true ∧ kindListed (meshPkt 6 63) = true ∧ kindListed (meshPkt 7 63) = false ∧
    meshOrder ready 0 0 (meshPkt 4 63) = true ∧ meshRoom ready 0 0 (meshPkt 4 63) = true ∧
    meshRoom { ready with sent := List.replicate 4 (.mesh 0 3 (meshPkt 4 63)) } 0 2 (meshPkt 4 63) = false ∧
    atFenced ready 0 0 (meshPkt 4 63) = false ∧
    rangePast { meshPkt 1 5 with len := 1, fields := BitVec.ofNat 39 (16384 * 2 ^ 25 - 2 ^ 25), flits := [] } = false ∧
    rangePast { meshPkt 1 5 with len := 2, fields := BitVec.ofNat 39 (16383 * 2 ^ 25) } = true ∧
    dval (dset ready Obj.meshCombineWait 0) Obj.meshCombineWait = 0 ∧ meshOn (dset ready Obj.meshCombineWait 0) 0 = true ∧
    dval ready Obj.meshCombineWait ≠ 0 := by decide +kernel
theorem witness_MeshMoves_waits :
    (waitsAt (dieAt waitState 0) 9).find? (fun w => w.out == nextHop 9 (meshPkt 4 63).dst.toNat && partners w.packet (meshPkt 4 63) && !waitOver waitState 0 9 w) =
      some { packet := meshPkt 4 63, out := 10, since := 0 } ∧ dval waitState Obj.meshCombineWait ≠ 0 ∧ meshOn waitState 0 = true ∧
    (waitsAt (dieAt waitState 0) 9)[(0 : Fin 32).val]? = some { packet := meshPkt 4 63, out := 10, since := 0 } ∧
    0 + dval waitState Obj.meshCombineWait ≤ tileClocks { waitState with ticks := 1000000 } (64 * 0 + 9) ∧ meshRoom waitState 0 9 (meshPkt 4 63) = true ∧
    (waitsAt (dieAt ready 0) 9).find? (fun w => w.out == nextHop 9 (meshPkt 4 63).dst.toNat && partners w.packet (meshPkt 4 63) && !waitOver ready 0 9 w) = none := by
  decide +kernel
theorem witness_MeshMoves_fenced :
    atFenced (setFaults ready (fun f => { f with tileFence := [(63, some { cause := 2, forced := false })] })) 0 63 (meshPkt 4 63) = true ∧
    meshOn (setFaults ready (fun f => { f with tileFence := [(63, some { cause := 2, forced := false })] })) 0 = true ∧
    meshOrder { ready with sent := [.mesh 0 9 (meshPkt 1 63)] } 0 9 (meshPkt 4 63) = false ∧
    waitOver { ready with ticks := 1000000 } 0 9 { packet := meshPkt 4 63, out := 10, since := 0 } = true ∧
    waitOver ready 0 9 { packet := meshPkt 4 63, out := 10, since := 0 } = false ∧ headSince ready 0 9 (meshPkt 4 63) = tileClocks ready 9 := by decide +kernel
theorem witness_MeshWritesAndReads : TileArrives ready 0 (meshPkt 1 63) ∧ MeshArrives ready 0 (meshPkt 1 75) ∧ 64 ≤ (meshPkt 1 75).dst.toNat := by decide +kernel
theorem witness_MeshCombinesAndNotes : TileArrives sumState 0 (meshPkt 4 1) ∧
    (meshPkt 4 1).flits[(0 : Fin 16).val]? = some { data := List.replicate 64 0, poison := false } ∧ combNext (tileAt sumState 1) (meshPkt 4 1) = 0 ∧
    combWaits sumState 1 (pktFlow (meshPkt 4 1)) (pktLine (meshPkt 4 1) + 0) = false ∧
    combEntry sumState 1 (pktFlow (meshPkt 4 1)) (pktLine (meshPkt 4 1) + 0) = some { flow := 0, first := 0, lines := 1, contributors := 2, bf16 := false } ∧
    (tileAt sumState 1).combFlows = [{ flow := 0, first := 0, lines := 1, contributors := 2, bf16 := false }] ∧
    combCount (tileAt sumState 1) 0 = 0 ∧ redCount (meshPkt 4 1) < 2 ∧
    combWaits fifthState 1 (pktFlow (meshPkt 4 1)) 0 = true ∧ TileArrives fifthState 0 (meshPkt 4 1) := by decide +kernel
theorem witness_MeshCombinesAndNotes_notes :
    meshOrder ready 0 (128 + (meshPkt 5 63).dst.toNat) (meshPkt 5 63) = true ∧ tileOut ready 63 = false ∧ (BitVec.ofNat 39 (2 * 2 ^ 35)).extractLsb' 35 4 = 2 ∧
    ((0 : BitVec 39).extractLsb' 36 3).toNat = 0 ∧ ((BitVec.ofNat 39 (2 ^ 36)).extractLsb' 36 3).toNat = 1 ∧
    ((flowSt (tileAt packedState 0) 7).open_.find? (fun x => decide (x.checked < 3))).map (·.n) = some 0 ∧ tileOut packedState 0 = false ∧
    ((partOf packedState 0 7).map (fun e => e.2.outLines)) = some 3 ∧
    ((flowSt (tileAt packedState 0) 7).open_.find? (fun x => !x.reduced)).map (·.n) = some 0 := by decide +kernel
theorem witness_SignalLinks : ready.sigDown.contains 143 = false ∧ (0 : BitVec 8) = flitCrc 0 ∧ (1 : BitVec 8) ≠ flitCrc 0 ∧ sigFail ready 0 < 3 ∧
    3 ≤ sigFail { ready with sigFails := [(143, 3)] } 143 ∧ 4 ≤ sigFail { ready with sigFails := [(143, 4)] } 143 ∧
    4 ≤ sigFail { ready with sigFails := [(99, 4)] } 99 ∧ { ready with sigDown := [128] }.sigDown.contains 128 = true ∧
    10 < (11 : BitVec 4).toNat ∧ ready.now < 1024 ∧ (0 : Word) ≤ ready.now := by decide +kernel
theorem witness_CommonArbiter :
    arbChoose (arbHigh .mesh 0) 32 256 (arbAt ready .mesh 0) [{ requester := 2, vc := 2, len := 1 }, { requester := 5, vc := 0, len := 1 }] = some (5, false, false) ∧
    arbChoose (arbHigh .mesh 0) 32 256 { last := 3, wait := [(2, 32)] } [{ requester := 2, vc := 2, len := 1 }, { requester := 5, vc := 0, len := 1 }] =
      some (2, true, false) ∧
    arbLimits .mesh (arbAt ready .mesh 0) = (32, 256) ∧ arbFree ready .mesh 0 = true ∧
    arbFree (setArb ready .mesh 0 { holder := some 7, burst := 5 }) .mesh 0 = false ∧
    arbOpen ready .mesh 0 [{ requester := 2, vc := 2, len := 1 }] = [{ requester := 2, vc := 2, len := 1 }] ∧
    1024 ≤ arbCycles .mesh ((1000000 : Nat) - (arbAt { ready with ticks := 1000000 } .mesh 0).winStart) ∧
    (arbAt (setArb ready .signal 99999 { holder := some 7 }) .signal 99999).holder = some 7 ∧
    2 * 0 ≤ heldCycles (setArb ready .signal 99999 { holder := some 7 }) .signal { holder := some 7 } ∧
    bankBusy (setArb ready .signal 99999 { holder := some 7 }) .signal 99999 .nothing = false := by decide +kernel
theorem witness_BarriersAndFlags : tileLive (flowState 1) 0 = true ∧ (barrierOf (flowState 1) 3).isSome = true ∧ vtileOf (flowState 1) 0 = some 0 ∧
    arriveCount (tileAt (flowState 1) 0) 3 < epochOf (tileAt (flowState 1) 0) 3 + 2 ∧ barrierOf ready 3 = none ∧ tileLive ready 0 = true ∧
    epochOf (tileAt (setTile (flowState 1) 0 { tileReset 0 with arrivals := [(3, 2)] }) 0) 3 + 2 ≤ arriveCount (tileAt (setTile (flowState 1) 0 { tileReset 0 with arrivals := [(3, 2)] }) 0) 3 ∧
    (flagOf (setTile (flowState 1) 0 { tileReset 0 with flagSel := 5 }) 5).isSome = true ∧ tileLive (setTile (flowState 1) 0 { tileReset 0 with flagSel := 5 }) 0 = true ∧
    meshOn (flowState 1) 0 = true ∧ sigPath (flowState 1) 8 (siteCD 0) = true ∧ sigPath (flowState 1) 9 (siteCD 0) = true ∧ homeOf (flowState 1) [0, 1] = 0 ∧
    (diesOf (flowState 1) [0, 1]).all (fun x => (addPos [] 8).contains (siteCD x)) = true ∧ sigNext (flowState 1) (syncPacket 8 9 3 0 [1]) = true ∧
    sigNext { flowState 1 with sent := [.sig (syncPacket 8 9 3 0 [0]), .sig (syncPacket 8 9 3 0 [1])] } (syncPacket 8 9 3 0 [1]) = false ∧
    (diesOf (flowState 1) [0, 1]).all (fun x => (addPos [] 9).contains (siteCD x)) = false ∧ (1 : BitVec 4).toNat < 2 := by decide +kernel
theorem witness_ReleasesAndNotices : meshOn (flowState 1) 0 = true ∧ sigPath (flowState 1) 9 (siteCD 0) = true ∧ (barrierOf (flowState 1) 3).map (·.members) = some [0, 1] ∧
    ([0, 1] : List Nat).any (fun v => vtileDie (flowState 1) v == 0 && (physOf (flowState 1) v).getD 0 == 1) = true ∧
    epochOf (tileAt (flowState 1) 1) 3 = (0 : BitVec 32).toNat ∧ (flagOf (flowState 1) 5).map (·.subs) = some [0, 1] ∧ flagOf ready 5 = none ∧ barrierOf ready 3 = none ∧
    meshOn ready 0 = true ∧ sigPath ready 9 (siteCD 0) = true ∧
    sigNext (flowState 1) (syncPacket 8 9 4 0 [1]) = true ∧ sigNext { flowState 1 with sent := [.sig (syncPacket 8 9 4 0 [0]), .sig (syncPacket 8 9 4 0 [1])] } (syncPacket 8 9 4 0 [1]) = false ∧
    (tileAt (setTile (flowState 1) 0 { tileReset 0 with jobIe := 7 }) 0).jobIe.getLsbD 2 = true := by decide +kernel
theorem witness_AtomicsExecute : ∀ op ∈ [1, 2, 3, 4, 5, 6, 7, 8, 9, 10], RecordRuns ready 0 (atomicRec op 0) op := by decide +kernel
theorem witness_ReducesAndInvalidRecords : stackServes ready 0 = true ∧ recordValid ready 0 (atomicRec 0x11 1) = true ∧ recordValid ready 0 (atomicRec 0x12 16) = true ∧
    recordHeld ready 0 (atomicRec 0x11 1) = false ∧ recordHeld ready 0 (atomicRec 0x12 16) = false ∧
    recordValid ready 0 (atomicRec 0x13 1) = true ∧ recordValid ready 0 (atomicRec 0x14 1) = false ∧ (atomicRec 0x14 1).op ≠ 0 ∧ recordValid ready 0 { atomicRec 10 0 with addr := 1 } = false ∧
    setLostNow { ready with setsLost := 1 } (setOf 0) = true ∧ stackWorks { ready with setsLost := 1 } 0 = true ∧
    stackServes (setStack ready 0 { off := true }) 0 = false ∧ stackWorks (setStack ready 0 { off := true }) 0 = false ∧
    recordHeld (setStack ready 0 { off := false, repairing := some { die := 0, row := 0 } }) 0 (atomicRec 1 0) = true ∧ recordValid (setStack ready 0 { off := false, repairing := some { die := 0, row := 0 } }) 0 (atomicRec 1 0) = true ∧
    stackServes (setStack ready 0 { off := false, repairing := some { die := 0, row := 0 } }) 0 = true ∧
    stackServes (setStack ready 0 { off := false, lineBuf := [{ line := 0, data := List.replicate 64 0, poison := true }] }) 0 = true ∧
    (lineRead (stackAt (setStack ready 0 { off := false, lineBuf := [{ line := 0, data := List.replicate 64 0, poison := true }] }) 0) 0).2 = true := by decide +kernel
theorem witness_StackRequests : stackServes ready 0 = true ∧ kindOf ready 0 = .copy ∧ sigPath ready 8 (siteMD 0) = true ∧
    rangeRefused ready 0 64 = false ∧ rangeRefused ready (2 ^ 44 - 64) 64 = true ∧ ([0] : List Nat).any (fun i => bankHeldAt ready 0 (0 + 64 * i)) = false ∧
    bankHeldAt (setStack ready 0 { off := false, repairing := some { die := 0, row := 0 } }) 0 0 = true ∧
    sharePositions ready 0 0 1 = [0] ∧ sharePositions ready 0 4096 1 = [] ∧ kindOf { ready with flowKinds := [(3, .reduce 0x11 0)] } 3 ≠ .copy ∧
    stackServes { ready with flowKinds := [(3, .reduce 0x11 0)] } 0 = true ∧ setLostNow { ready with setsLost := 1 } (setOf 0) = true ∧
    stackWorks { ready with setsLost := 1 } 0 = true ∧ isAtomicKind (kindOf ready 0) = false ∧ isAtomicKind (kindOf { ready with flowKinds := [(3, .atomic 4)] } 3) = true ∧
    stackServes (setStack ready 0 { off := true }) 0 = false ∧ stackWorks (setStack ready 0 { off := true }) 0 = false ∧ sigPath reqState (siteMD 0) (siteCD 0) = true ∧
    ((dieAt reqState 0).reqs.find? (fun r => r.tag == 0 && r.waiting.contains 0)).isSome = true ∧ (dieAt ready 0).reqs.find? (fun r => r.tag == 0 && r.waiting.contains 0) = none := by decide +kernel
theorem witness_StackRequests_late : stackWorks lateState 0 = true ∧ setLostNow lateState (setOf 0) = false ∧
    ((stackAt lateState 0).held.find? (fun h => !h.load && h.req.src == 8 && h.req.tile == 0 && h.req.tag == 0)).map (·.at_) = some 0 ∧
    20000 ≤ lateState.ticks ∧ isAtomicKind (kindOf lateState 0) = false := by decide +kernel
theorem witness_StackUpkeep : (stackAt ready 23).off = false ∧ (stackAt ready 23).selfRefresh = false ∧ (stackAt ready 23).failed = false ∧
    stackServes ready 23 = true ∧ idleCycle (thermAt ready (siteMD 23)).p (ready.ticks / 2) = false ∧ (stackAt ready 23).scrubPos + 1 ≠ 2 ^ 29 ∧
    stackServes (setStack ready 0 { off := true }) 0 = false ∧ (stackAt (setStack ready 0 { failed := true }) 0).failed = true ∧
    (stackAt (setStack ready 0 { off := false, scrubPos := 2 ^ 29 - 1 }) 0).scrubPos + 1 = 2 ^ 29 ∧ stackServes (setStack ready 0 { off := false, scrubPos := 2 ^ 29 - 1 }) 0 = true ∧
    (stackAt (setStack ready 0 { candidates := [{ die := 17, row := 8388607 }] }) 0).candidates.contains { die := 17, row := 8388607 } = true ∧
    (stackAt ready 0).repairing = none ∧ (stackAt (setStack ready 0 { repairing := some { die := 0, row := 0 } }) 0).repairing = some { die := 0, row := 0 } ∧
    ([spareOf { die := 17, row := 8388607 }] : List Nat).contains (spareOf { die := 17, row := 8388607 }) = true := by decide +kernel
theorem witness_SlotsSend : slotDue ready 0 = true ∧ ready.light.cal.blendRuns = true ∧ ({ ready with light := {} } : State).light.cal.blendRuns = false ∧ slotDue ready 63 = false ∧ houseWaiters (tableStep ready (portSite 0).1 1) (portSite 0).1 1 = [] ∧
    (takeRun 26 ((txQueue ready 0 7).filter (fun x => x.dstSite == (portSite 1).1 || x.dstSite == 127))).take 26 = [] ∧
    houseWaiters (tableStep houseState (portSite 0).1 1) (portSite 0).1 1 ≠ [] ∧
    (arbAt (doArbiter (tableStep houseState (portSite 0).1 1) .house (portSite 0).1 (houseWaiters (tableStep houseState (portSite 0).1 1) (portSite 0).1 1)) .house (portSite 0).1).holder = some 3 ∧
    ((takeRun 26 ((txQueue sendState 0 7).filter (fun x => x.dstSite == (portSite 1).1 || x.dstSite == 127))).take 26).length = 1 := by decide +kernel
theorem witness_SlotsArrive : portRuns ready 0 = true ∧ portRuns { ready with ports := [(349, { failed := true })] } 349 = false ∧ ready.light.cal.blendRuns = true ∧
    darkPort ready 0 = false ∧ darkPort { ready with light := { ready.light with lossAt := [(0, 0)] } } 0 = true ∧
    portRuns { ready with light := { ready.light with lossAt := [(0, 0)] } } 48 = true ∧ portTile 23 = 0 ∧
    (linkAt ready 15).mode = .down ∧ (linkAt (linkUpState .up) 15).mode ≠ .down ∧ fdUp (linkUpState .up) (linkFd 15) = true := by decide +kernel
theorem witness_SlotTables : claimedByOther (shadowOf ready 7) 72 = false ∧ (shadowOf ready 7).state ≠ .armed ∧ claimedByOther (shadowOf (shadowState .loading) 0) 73 = true ∧
    claimedByOther (shadowOf (shadowState .armed) 0) 72 = false ∧ (shadowOf (shadowState .armed) 0).state = .armed ∧
    leAt (rowsSlot.getD 0 { data := [], poison := false }).data 4 1 = 1 ∧ leAt (rowsSlot.getD 0 { data := [], poison := false }).data 2 2 = 349 ∧
    (shadowOf (shadowState .loading) 0).state = .loading ∧ (shadowOf (shadowState .loading) 0).gen.toNat = leAt (rowsSlot.getD 0 { data := [], poison := false }).data 0 1 ∧
    (shadowOf (shadowState .loading) 0).rows.length = 350 ∧ (shadowOf (shadowState .accepted) 0).state = .accepted ∧
    (shadowOf (shadowState .accepted) 0).gen = 1 ∧ (shadowOf (shadowState .accepted) 0).owner = 72 ∧
    (ctrlTakeAll (sigArrive ready (ctrlPacket 74 0x7F 0x32 0 0 [])) 74 0).1 = true ∧ activeSite ready = 74 ∧ hostOf 74 = none ∧ (hostOf 72).isSome = true := by
  rw [ctrlTakeAll_sigArrive_fst]; decide +kernel
theorem witness_SlotTables_verdict : loadOf verdictState 0 1 = some verdictJob ∧ verdictJob.loading = some 0 ∧
    (soundTiles verdictState).all (fun b => (tfind (tput verdictJob.verdicts 7 0) b).isSome) = true ∧ loadOf ready 0 1 = none := by decide +kernel
theorem witness_PortsAndLines : (ctrlTakeAll (sigArrive ready (ctrlPacket 0 0x7F 0x34 0 365 [1024])) 0 0).1 = true ∧ (linkAt ready 15).mode ≠ .up ∧ (linkAt (linkUpState .up) 15).mode = .up ∧
    (ctrlTakeAll (sigArrive { ready with sigDown := [8] } (ctrlPacket 8 0x7F 0x34 0 365 [1024])) 8 0).1 = false ∧ ({ ready with blend := 1 } : State).blend ≠ 0 ∧ dval ready Obj.houseBlendMode = 0 ∧
    (ctrlTakeAll (sigArrive ready (ctrlPacket 0 0x7F 0x35 0 (349 + 512 * b2n true + 1024 * 35) [1024])) 0 0).1 = true ∧
    (dset ready Obj.houseBlendMode 1).now.toNat % 1024 = 0 ∧ ready.job = none ∧ dval (dset ready Obj.houseBlendMode 1) Obj.houseBlendMode ≠ ready.blend ∧
    rxMarginal marginalState 349 35 = true ∧ bypassNamed ready 7 511 = false ∧
    (btAt marginalState 7).spareUsed.contains 511 = true ∧ (btAt ready 7).spareUsed.contains 511 = false := by
  simp only [ctrlTakeAll_sigArrive_fst]; decide +kernel
theorem witness_LostData : meshOn lostState 0 = true ∧ ((dieAt lostState 0).reqs.find? (fun r => r.tag == 0 && r.load)).map (·.got) = some [] ∧
    ((dieAt lostState 0).reqs.find? (fun r => r.tag == 0 && r.load)).map (·.sentAt) = some 0 ∧ (dieAt ready 0).reqs.find? (fun r => r.tag == 0 && r.load) = none ∧
    (partOf lostState (64 * 0 + 0) 7).isSome = true ∧ ((flowSt (tileAt lostState (64 * 0 + 0)) 7).open_.head?.map (·.lastSlot)) = some (some 0) ∧ 20000 ≤ lostState.ticks ∧
    (partOf lostState (64 * 0 + 0) 7).map (·.1.kind) = some 4 ∧ ((flowSt (tileAt lostState (64 * 0 + 0)) 7).open_.head?.map (·.left)) = some true ∧ meshOn State.reset 0 = false ∧
    (ctrlTakeAll (sigArrive ready (ctrlPacket 0 0x7F 0x40 0 (3 + 23 * 256) [1024])) 0 0).1 = true ∧ (ctrlTakeAll (sigArrive { ready with sigDown := [8] } (ctrlPacket 8 0x7F 0x40 0 (3 + 23 * 256) [1024])) 8 0).1 = false := by
  simp only [ctrlTakeAll_sigArrive_fst]; decide +kernel
theorem witness_FrameBoundaries : nextBoundary ready = 1024 ∧ nextBoundary { ready with now := 2048 } = 2048 ∧ (btAt ready 0).shadow.state ≠ .armed ∧
    (btAt (shadowState .armed) 0).shadow.state = .armed ∧ (btAt (shadowState .armed) 0).shadow.swapAt ≤ (shadowState .armed).now := by decide +kernel
theorem witness_LightLosses : combLow darkState 0 = true ∧ combLow ready 0 = false ∧ (combAt darkState 0).serves = some 0 ∧ tfind darkState.light.lossAt 0 = none ∧
    combLow spareLowState 9 = true ∧ (combAt spareLowState 9).serves = none ∧ (combAt spareLowState 9).state = 2 ∧ (combAt spareLowState 9).target = some 7 ∧
    lowTwice darkState (tapLowKey 349 35) = true ∧ lowTwice ready (tapLowKey 349 35) = false ∧ combsFault darkState (portTile 349) = false ∧ excluded darkState 349 false 35 = false ∧
    combsFault (setLight darkState (fun l => { l with lossAt := [(portTile 349, 100000)] })) (portTile 349) = true ∧
    (ringAt_ darkState (Machine.ringKey 349 true 31)).state = 4 ∧ lowTwice darkState (dropLowKey (Machine.ringKey 349 true 31)) = true ∧ inService darkState 349 true 31 = true ∧
    inService (setLight darkState (fun l => { l with cal := { l.cal with blendRuns := false } })) 349 true 31 = false ∧
    (ringAt_ darkState (Machine.ringKey 349 false 31)).state = 5 ∧ (ringAt_ darkState (Machine.ringKey 349 false 31)).holdAt + 100000 ≤ darkState.ticks ∧
    (ringAt_ darkState (Machine.ringKey 349 true 31)).heaterTo = some 9 ∧ heaterMoves (ringAt_ darkState (Machine.ringKey 349 true 31)) = true ∧ darkState.now.toNat % 262144 = 0 ∧
    darkState.light.toneVoid = false ∧ darkState.light.heatAt.any (fun t => decide (darkState.ticks < t + 1000)) = false ∧
    (setLight darkState (fun l => { l with heatAt := some 99001 })).light.heatAt.any (fun t => decide (100000 < t + 1000)) = true ∧
    (ringAt_ darkState (Machine.ringKey 349 true 31)).judgedAt ≠ some darkState.ticks ∧
    (ringAt_ darkState (Machine.ringKey 349 true 31)).from_ + 262144 ≤ ({ darkState with now := 262144 } : State).now.toNat ∧ toneAt [100] 0 = true ∧ toneAt [] 31 = false := by decide +kernel
theorem witness_CalibrationAndSwing : dval (dset ready Obj.calEnable 1) Obj.calEnable = 1 ∧ ready.light.cal.active = false ∧ cycleDue ready 5 = true ∧ roleOf ready 0 = .active ∧ ready.mt.stepAt = none ∧
    (ctrlTakeAll (sigArrive ready (ctrlPacket 0 0x7F 0x38 0 (34 + 64 * b2n true) [1024])) 0 0).1 = true ∧ ready.now ≤ (1024 : Word) ∧
    calState.light.cal.running = some 0 ∧ 0 + 1048576 ≤ calState.now.toNat ∧ calLine calState 365 true = some 33 ∧ ready.light.cal.running = none ∧
    calState.light.cal.holds.find? (fun h => h.1 == 349 && h.2.1 == true) = some (349, true, 5) ∧ unsettled calState 349 true 5 = false ∧
    calOpen calState (Machine.ringKey 365 true 33) = true ∧ (calPortAt calState (Machine.ringKey 365 true 33)).ended = false ∧ (calPortAt calState (Machine.ringKey 365 true 33)).peak = false ∧
    calOpen ready 0 = false ∧ dval calState Obj.moduleState = 1 := by
  simp only [ctrlTakeAll_sigArrive_fst]; decide +kernel
theorem witness_CombUse : (List.replicate 32 (1000 : BitVec 16)).length + (List.replicate 4 (1000 : BitVec 16)).length = 36 ∧ (combAt ready 9).state = 1 ∧ (combAt ready 9).serves = none ∧ (combAt ready 7).state = 0 ∧
    (combAt ready 7).serves = some 7 ∧ (combAt combState 9).target = some 7 ∧ (combAt combState 9).state = 2 ∧ (combAt combState 9).serves = none ∧ combLit combState 9 = true ∧
    servingComb combState 7 = some 7 ∧ (combAt ready 7).lightN = 0 ∧ (combAt ready 7).retireN = 0 ∧ 600 ≤ (combAt combState 7).fade ∧ (combAt combState 7).state ≠ 5 ∧
    (ctrlTakeAll (sigArrive ready (ctrlPacket 0 0x7F 0x3B 0 (9 + 7 * 16 + b2n true * 128) [1024])) 0 0).1 = true ∧
    tfind ready.light.lossAt 7 = none ∧ (combAt ready 9).evalAt = none := by
  simp only [ctrlTakeAll_sigArrive_fst]; decide +kernel
theorem witness_JobStarts : mayTake takeState = true ∧ nextRing takeState = some 15 ∧ mayTake ready = false ∧ nextRing (setRing takeState 15 {}) = none ∧

    (jobState .checking).job.map (·.phase) = some .checking ∧ tileLive bootState (tkey 0 1) = true ∧ tileLive { ready with domains := [] } 0 = false ∧ bootState.job.map (·.bootSent) = some true ∧
    vtileOf bootState (tkey 0 1) = some 1 ∧ vtileOf bootState (tkey 0 2) = none ∧ bootState.job.map (·.booted) = some [] ∧ (tileAt bootState (tkey 0 1)).bootBad = false ∧
    (dieAt bootState (tkey 0 1 / 64)).dieRec = some false ∧ (dieAt ready 0).dieRec = none ∧
    1 + (bootLines (tileAt bootState (tkey 0 1))).1 + (bootLines (tileAt bootState (tkey 0 1))).2 ≤ (tileAt bootState (tkey 0 1)).bootGot ∧
    (bootedState.job.map (fun j => j.binding.all (fun k => j.booted.contains k))) = some true ∧ (jobState .running).job.map (·.exits) = some [] ∧
    vtileOf (jobState .running) (tkey 0 1) = some 1 ∧ tileLive (jobState .running) (tkey 0 1) = true := by decide +kernel
theorem witness_JobStarts_variant : bootedState.job = some bootedJob ∧ bootedJob.phase = .starting ∧ tfind exitsJob.exits 0 = some 0 ∧
    exitsJob.exits.find? (fun e => e.2 ≠ 0) = none ∧ (List.range exitsJob.binding.length).all (fun v => (tfind exitsJob.exits v).isSome) = true ∧
    ({ exitsJob with exits := [(0, 3)] } : Job).exits.find? (fun e => e.2 ≠ 0) = some (0, 3) := by decide +kernel
theorem witness_JobStops : siteKind (siteCD 15) = some (.cd, 15) ∧ siteKind (siteFD 7) = some (.fd, 7) ∧ stopState.job = some stopJob ∧ stopJob.stop = some stop0 ∧ stopJob.owner = (1 : Fin 2).val ∧
    stopJob.owner ≠ (0 : Fin 2).val ∧ ready.job.bind (·.stop) = none ∧ stopState.job.bind (·.stop) = some stop0 ∧ ready.job.bind (·.status) = none ∧
    stop0.at_ + 25000 ≤ stopState.ticks ∧ ({ stopJob with status := some (0, 0), phase := .draining } : Job).phase = .draining ∧ stopJob.entry.runLimit ≠ 0 ∧
    ({ stop0 with ending := some (6, 1, true) } : Stop).ending = some (6, 1, true) ∧
    stopJob.takenAt + 1000 * stopJob.entry.runLimit ≤ stopState.ticks ∧ (ringAt recState 15).recs = [(1, [])] ∧ (ringAt recState 15).acked = true ∧ (ringAt ready 15).recs = [] := by decide +kernel
theorem witness_FabricPackets : linkIsUp fabState 15 = true ∧ linkIsUp ready 15 = false ∧ ([1, 2, 3, 4, 8, 5] : List Nat).all (fun o => shapeOk (fabPkt o)) = true ∧ shapeOk { fabPkt 1 with vc := 0 } = false ∧
    isOwn fabState 1 = true ∧ nonIdempotent 1 = false ∧ isStale fabState (fabPkt 1) = false ∧ checkReq fabState (fabPkt 1) = some (3, none) ∧
    isStale { fabState with now := 20000 } (fabPkt 1) = true ∧ checkReq regionState (fabPkt 1) = none ∧
    isStale regionState (fabPkt 1) = false ∧ (linkAt trainState 0).mode ≠ .down ∧ (linkAt ready 15).mode = .down ∧ stackServes ready 23 = true ∧ setLostNow ready (setOf 23) = false ∧
    (linesOf ((fabPkt 1).addr.toNat % 2 ^ 44) (rangeOf (fabPkt 1))).any (fun l => bankHeldAt ready 23 (64 * l)) = false ∧
    stackServes (setStack ready 23 { stackAt ready 23 with failed := true }) 23 = false ∧ stackWorks (setStack ready 23 { stackAt ready 23 with failed := true }) 23 = false := by decide +kernel
theorem witness_FabricPackets_dedupe : nonIdempotent 3 = true ∧ isStale dedupeState (fabPkt 3) = false ∧ tget (fun _ => 0) dedupeState.fab.deadShares (homeDie (fabPkt 3)) ≤ dedupeState.ticks ∧
    (dedupeOf dedupeState (fabPkt 3)).map (·.outcome) = some (some (0, 5)) ∧ nextUp dedupeState (homeDie (fabPkt 3)) = homeDie (fabPkt 3) := by decide +kernel
theorem witness_FabricPackets_lost : setLostNow { ready with setsLost := 1 } (setOf 0) = true ∧ stackWorks { ready with setsLost := 1 } 0 = true := by decide +kernel
theorem witness_FabricOrigin : fdUp unitState 7 = true ∧ fdUp { ready with domains := [] } 7 = false ∧ headUnit unitState 7 15 = some unit0 ∧ headUnit ready 7 15 = none ∧ unitWaits unitState unit0 = false ∧
    noRoute unitState (unit0.addr / 2 ^ 44) = false ∧ noRoute { unitState with fab := { unitState.fab with own := 0xFFFF } } (unit0.addr / 2 ^ 44) = true ∧ freeFabTag unitState 7 = some 0 ∧
    ({ unit0 with opc := 5 } : RemoteUnit).opc = 5 ∧ ({ unitState with fab := { unitState.fab with own := 0xFFFF } } : State).fab.own = 0xFFFF ∧ unitState.fab.own ≠ 0xFFFF ∧
    (unitState.fab.ops.find? (fun o => o.fd == 7 && o.tag == 4095)).map (fun o => (o.attempt, o.first, o.packet.tmo)) = some (2, 0, 10) ∧ 30000 ≤ unitState.ticks ∧
    (unitState.fab.ops.find? (fun o => o.fd == 6 && o.tag == 1)).map (fun o => (o.attempt, o.first, o.packet.tmo)) = some (0, 0, 10) ∧
    (ready.fab.ops.find? (fun o => o.fd == 7 && o.tag == 4095)).isNone = true ∧ originatesNone ready = false ∧ originatesNone drainState = true ∧ unit0.opc ≠ 5 ∧
    (unitState.fab.memWaits.find? (fun w => w.fd == 7 && decide (unitState.ticks ≥ w.at_ + 20000))).isSome = true ∧ ready.fab.memWaits = [] ∧
    egressFill unitState 7 = 0 ∧ tget (fun _ => 0) unitState.fab.throttle 6 = 2 ∧ egressFill unitState 6 = 0 ∧ fdUp unitState 6 = true ∧
    tget (fun _ => 0) unitState.fab.throttleSince 6 + 10000 ≤ unitState.ticks ∧ regionBytesOk (List.replicate 32 0) = true ∧ (regionOfBytes (List.replicate 32 0)).state = 0 ∧
    regionBytesOk [] = false ∧ regionBytesOk (List.replicate 10 0 ++ [1] ++ List.replicate 21 0) = true ∧ (regionOfBytes (List.replicate 10 0 ++ [1] ++ List.replicate 21 0)).state = 1 := by decide +kernel
theorem witness_FabricOrigin_fill : fillLevel 0 = 0 := by unfold fillLevel; simp
theorem witness_FabricLinkStates : linkMay fabState 15 = true ∧ linkMay ready 15 = false ∧ linkMay trainState 0 = true ∧ (linkAt fabState 0).mode = .down ∧ linkMay fabState 0 = true ∧
    (linkAt trainState 0).mode = .training ∧ (linkAt trainState 0).since + 4000000000 ≤ trainState.ticks ∧ (linkAt trainState 0).retried = false ∧
    shapeOk (vc3In 0x21 helloBytes) = true ∧ bitAt (leAt helloBytes 4 1) 0 = true ∧ leAt helloBytes 0 2 < 4096 ∧ leAt helloBytes 0 2 ≠ fabState.fab.own ∧
    (linkAt fabState 15).mode = .up ∧ (linkAt fabState 15).neighbour = some (leAt helloBytes 0 2, leAt helloBytes 2 1, leAt helloBytes 3 1) ∧
    (linkAt (linkUpState .up) 15).neighbour ≠ some (leAt helloBytes 0 2, leAt helloBytes 2 1, leAt helloBytes 3 1) ∧
    linkIsUp fabState 15 = true ∧ linkIsUp ready 15 = false ∧ shapeOk (vc3In 0x24 []) = true ∧ shapeOk (vc3In 0x25 []) = true ∧ fabState.light.cal.running = none ∧
    shapeOk (vc3In 0x20 timeBytes) = true ∧ (linkAt echoState 15).txs.any (fun t => t.toNat == leAt timeBytes 8 8) = true ∧ echoState.mt.source.kind ≠ 3 ∧ linkIsUp echoState 15 = true ∧
    lockedState.mt.source.kind = 3 ∧ lockedState.mt.source.link = (15 : Fin 16).val := by decide +kernel
theorem witness_FabricRouting : fabState.fab.drain = none ∧ drainState.fab.drain.isSome = true ∧ (drainState.fab.drain.map (fun d => (d.flushed, d.at_))) = some (false, 0) ∧
    195000 ≤ drainState.ticks ∧ shapeOk (vc3In 0x22 []) = true ∧ shapeOk (vc3In 0x23 []) = true ∧ linkIsUp drainState 15 = true ∧ linkIsUp ready 15 = false ∧ drainState.fab.leaving.isSome = true ∧
    fabState.fab.leaving = none ∧ fabState.fab.left = false ∧ drainState.fab.leaving = some 0 ∧ 0 + 250000 ≤ drainState.ticks ∧
    ((List.range 16).filter (linkIsUp drainState)).all (fun l => drainState.fab.drainedFrom.contains l) = false ∧
    ((List.range 16).filter (linkIsUp drainState)).all (fun l => (linkAt drainState l).queue.isEmpty && (linkAt drainState l).out.isEmpty) = true ∧
    ((List.range 16).filter (linkIsUp (setLink drainState 15 { linkAt drainState 15 with queue := [fabPkt 1] }))).all (fun l =>
      (linkAt (setLink drainState 15 { linkAt drainState 15 with queue := [fabPkt 1] }) l).queue.isEmpty &&
      (linkAt (setLink drainState 15 { linkAt drainState 15 with queue := [fabPkt 1] }) l).out.isEmpty) = false := by decide +kernel
theorem witness_FabricBarriersAndFlags : linkIsUp barState 15 = true ∧ linkIsUp ready 15 = false ∧ ([0x10, 0x11, 0x12, 0x13, 0x14, 0x15] : List Nat).all (fun o => shapeOk (vc0Pkt o)) = true ∧
    isOwn barState 1 = true ∧ syncUp barState = true ∧ barHome (barAt barState 1023) = barState.fab.own ∧ barExpect (barAt barState 1023) = 2 ∧
    (addPos (tget (fun _ => []) (barAt barState 1023).maps 0) 2).length = 2 := by decide +kernel
theorem witness_FabricBarriersAndFlags_rest : (addPos (tget (fun _ => []) (barAt barState 0).maps 0) 2).length < barExpect (barAt barState 0) ∧
    barHome (barAt barState 0) = barState.fab.own ∧ (barAt barState 1023).homeEpoch = 0 ∧ (vc0Pkt 0x11).dst ≠ (vc0Pkt 0x11).src ∧ ({ vc0Pkt 0x11 with dst := 2 } : FabPacket).dst = (vc0Pkt 0x11).src ∧
    (barAt barState 0).sentAt = some 0 ∧ (barAt ready 0).sentAt = none ∧ (List.range 8).find? (fdUp takeoverState) = some 1 ∧ syncUp takeoverState = false ∧
    barLocal (barAt barState 0) ≠ 0 ∧ barLocal (barAt ready 0) = 0 ∧ (barAt barState 0).epoch = 0 := by decide +kernel
theorem witness_FabricBarriersAndFlags_late : 0 + fabricT barState ≤ barState.ticks ∧ originatesNone barState = false ∧ barState.fab.paced = [] ∧
    (1 + 2 ^ 32 - (barAt barState 0).homeEpoch) % 2 ^ 32 = 1 ∧ (2 ^ 31 - 1 + 2 ^ 32 - (barAt barState 0).homeEpoch) % 2 ^ 32 < 2 ^ 31 ∧
    2 ^ 31 ≤ (2 ^ 32 - 1 + 2 ^ 32 - (barAt barState 0).homeEpoch) % 2 ^ 32 := by decide +kernel
theorem witness_FabricSyncDie : tileLive barState (tkey 15 63) = true ∧ tileLive { ready with domains := [] } (tkey 15 63) = false ∧ syncHears { ready with domains := [] } 15 = false ∧
    syncHears barState 15 = true ∧ barLocal (barAt barState 1023) ≠ 0 ∧ barLocal (barAt ready 1023) = 0 ∧ syncHears ready 15 = true ∧ (barAt barState 1023).epoch = 0 ∧ (barAt barState 1023).sentAt = none ∧
    barLocal (barAt barState 1023) ≤ (barAt barState 1023).arrived + 1 ∧ noRoute ready 0 = true ∧ noRoute fabState 1 = false ∧
    freeFabTag barState barState.fab.syncDie = some 0 ∧ (vc0Pkt 0x12).attempt = 0 := by decide +kernel
theorem witness_FabricSyncDie_paced : tfind ({ barState with fab := { barState.fab with lastVc0 := [(barState.fab.syncDie, 999999999)] } } : State).fab.lastVc0 barState.fab.syncDie = some 999999999 ∧
    barState.ticks < 999999999 + 64 ∧ nextVc0 { barState with fab := { barState.fab with paced := [(0, vc0Pkt 0x12)] } } = some (0, vc0Pkt 0x12) := by decide +kernel
theorem witness_FabricSyncDie_many : (barAt (setBar barState 1023 { entry := BitVec.ofNat 64 (1 + 2 * 2 ^ 16 + 2 * 2 ^ 40) }) 1023).arrived + 1 <
    barLocal (barAt (setBar barState 1023 { entry := BitVec.ofNat 64 (1 + 2 * 2 ^ 16 + 2 * 2 ^ 40) }) 1023) := by decide +kernel
theorem witness_HostRequests : qpReady hostState (frameOf hostState 1) 4095 = true ∧ qpReady hostState { frameOf hostState 1 with bytes := 9217 } 4095 = false ∧ qpReady (congest hostState 4095 true) (frameOf hostState 1) 4095 = true ∧
    winOf (congest hostState 4095 true) 0x1FF = some (255, hostWin) ∧ winOf hostState 0 = none ∧
    winOf { hostState with host := { hostState.host with wins := [(0, { cur := { hostWin with key := 0 } })] } } 0 = some (0, { hostWin with key := 0 }) ∧
    hostTakes (congest hostState 4095 true) (frameOf hostState 1) 4096 = true ∧ hostTakes (setHostPort hostState 1 { fill := 25165824 }) { frameOf hostState 1 with prio := 4 } 1 = false := by decide +kernel
theorem witness_HostRequests_psn : psnPlace (qpAt hostState 4095) 0xFFFFFF = .lt ∧ psnPlace (qpAt hostState 4095) 1 = .gt ∧ (qpAt hostState 4095).ePsn = 0 ∧ psnPlace (qpAt hostState 4095) 0 = .eq ∧
    (qpAt hostState 4095).msg = none ∧ (qpAt (setQp hostState 4095 { qpAt hostState 4095 with msg := some (8, 8, 0x1FF) }) 4095).msg = some (8, 8, 0x1FF) ∧
    (qpAt hostState 4095).ring = 15 ∧ (qpAt hostState 4095).reqs = [] ∧ (8 : Nat) ≤ mtuBytes (qpAt hostState 4095) := by decide +kernel
theorem witness_HostRequests_rings :
    (ringAt { hostState with host := { hostState.host with rings := [] } } 15).head + (ringAt { hostState with host := { hostState.host with rings := [] } } 15).entries ≤ 0 ∧
    (([] : List (Nat × FabPacket)).any (fun e => e.2.status != 0)) = false ∧
    ((qpAt (setQp { hostState with ticks := 20000 } 0 { reqs := [{ id := 0, op := .write, psn := 0, len := 64, at_ := some 0 }] }) 0).reqs.map (·.at_)) = [some 0] := by decide +kernel
theorem witness_HostQueuesAndPorts : (List.replicate 64 (0 : Byte)).length = 64 ∧ qpEntryOk qpBytes = true ∧ qpBytes.length = 64 ∧ leAt qpBytes 0 1 = 1 ∧ (qpAt ready 4095).state = 0 ∧ (qpAt hostState 4095).state ≠ 0 ∧
    windowOf ready 255 [] = none ∧ (windowOf ready 255 (List.replicate 32 0)).isSome = true ∧ ringConfigOk ringBytes = true ∧ ringConfigOk [] = false ∧
    (ringAt abortState 15).head < 1 ∧ 1 ≤ (ringAt abortState 15).tail ∧ abortState.job = none ∧ ready.job.map (·.ring) ≠ some 15 ∧ (flowState 1).job.map (·.ring) = some 0 ∧
    qpReady ackState (frameOf ackState 1) 4095 = true ∧ qpReady ackState { frameOf ackState 1 with fcsOk := false } 4095 = false := by decide +kernel
theorem witness_HostQueuesAndPorts_ports : ((qpAt ackState 4095).out.map (fun r => (r.psn, r.sentAt, r.tries))) = some (5, 0, 0) ∧ 0 + 4096 * 2 ^ (qpAt ackState 4095).timeout ≤ ackState.ticks ∧
    (qpAt ready 0).out = none ∧ (qpAt ackState 4095).retry = 7 ∧ (qpAt ackState 4095).rnrRetry = 7 ∧
    linkUp ackState 1 = true ∧ linkUp ready 1 = false ∧ frameOk ackState (frameOf ackState 1) = true ∧ dval ackState Obj.hostPfcPriority < 8 ∧ (hostPortAt ackState 1).link = 2 ∧ (hostPortAt ready 1).link ≠ 2 := by decide +kernel
theorem witness_HostQueuesAndPorts_bringup : hostDieUp ready 1 = true ∧ ready.light.cal.blendRuns = true ∧ hostDieUp { ready with domains := [] } 1 = false ∧
    linkMode (hostPortAt (setHostPort ready 1 { link := 1, step := 2, modes := 15 }) 1) 15 = some 1 ∧ linkMode (hostPortAt ready 1) 15 = none := by decide +kernel
theorem witness_LightClockAndSteps : (btAt ready 7).timing.holdover = false ∧ (btAt absentState 7).timing.holdover = true ∧ (setMt ready (fun m => { m with unset := [] })).mt.unset.contains 99 = false ∧
    nearest1024 (siteCount skewState 99) - siteCount skewState 99 ≠ 0 ∧ skewState.mt.unset.contains 99 = false ∧ nearest1024 (siteCount ready 99) - siteCount ready 99 = 0 ∧
    ready.now.toNat % 1024 = 0 ∧ domAt ready (domCD 15) = .on ∧ domAt { ready with domains := [] } (domCD 15) ≠ .on ∧ (tileAt ready (tkey 15 63)).droopAt = none ∧ (tileAt droopState (tkey 15 63)).droopAt = some 0 ∧ domAt droopState (domCD 15) = .on ∧
    roleOf ready 0 = .active ∧ roleOf ready 1 = .standby ∧ roleOf State.reset 0 = .silent ∧ roleOf State.reset 1 = .silent ∧ trimDue ready (btAt ready 7).timing.measuredA = true ∧ trimDue ready (btAt ready 7).timing.measuredB = true ∧
    stepState.mt.stepD = some 1024 ∧ stepState.mt.stepAt = none ∧ stepState.job = none ∧ ready.mt.stepD = none := by decide +kernel
theorem witness_LightClockAndSteps_absent : ∀ b, b < 8 → ∃ t, (btAt absentState b).timing.absentSince = some t ∧ (btAt absentState b).timing.holdover = true ∧ t + 1000000 ≤ absentState.ticks := by
  intro b hb; interval_cases b <;> exact ⟨0, by decide +kernel⟩
theorem witness_LightClockAndSteps_source : sourceGone lockedState = true ∧ sourceGone ready = false ∧ (bestSource lockedState).kind = 0 ∧ lockedState.mt.state = 2 ∧
    sourceGone { lockedState with fab := { lockedState.fab with own := 1 } } = true ∧ (bestSource { lockedState with fab := { lockedState.fab with own := 1 } }).kind ≠ 0 ∧
    ownRoot.mt.source.kind ≠ 0 ∧ reviewDue ownRoot = true ∧ roleOf ownRoot ownRoot.active.val = .active ∧ reviewDue { ownRoot with now := 1024 } = false := by decide +kernel
theorem witness_PrecisionTime : follows ptpState (frameOf ptpState 1) { domain := 0, ident := 5 } = true ∧ follows ready (frameOf ready 1) { domain := 0, ident := 5 } = false ∧
    (ptpAt ptpState 1).waiting = true ∧ (ptpAt ptpState 1).syncSeq = 0 ∧ (ptpAt ptpState 1).reqOut = true ∧
    (ptpAt ptpState 1).reqSeq = 0 ∧ (ptpAt ptpState 1).offset.isSome = true ∧ ptpOn ptpState 1 = true ∧ ptpState.mt.master.map (·.1) = some 1 ∧
    ptpOn hostState 1 = true ∧ ptpOn ready 1 = false ∧ frameOk hostState (frameOf hostState 1) = true ∧ announce0.domain.toNat = dval hostState Obj.hostPtpDomain ∧ (ptpAt hostState 1).best = none ∧ hostState.mt.master = none ∧
    (ptpAt (setPtp hostState 1 { best := some (masterOf announce0) }) 1).best = some (masterOf announce0) := by decide +kernel
theorem witness_PowerInput : (stagesInService ready).filterMap (fun n => (((List.replicate 12 (5000 : BitVec 16)).map (·.toNat)))[n]?) ≠ [] ∧ readingDue ready = true ∧
    (stagesInService ready).filterMap (fun n => ((([] : List (BitVec 16)).map (·.toNat)))[n]?) = [] ∧ readingDue { ready with pow := { ready.pow with readAt := some ready.ticks } } = false ∧
    overState.pow.overAt = some 0 ∧ ready.pow.overAt = none ∧ ready.pow.under = none ∧ underState.pow.under = some 0 ∧
    overState.pow.noticeAt = none ∧ (setPow ready (fun w => { w with noticeAt := some 0 })).pow.noticeAt = some 0 ∧
    stageOut ready 11 = false ∧ stageOut (setPow ready (fun w => { w with stagesRetired := [11] })) 11 = true := by decide +kernel
theorem witness_PowerInput_shed : operating fallState = true ∧ fallState.pow.level < 4 ∧ fallState.pow.level < wantedLevel fallState ∧
    (tfind riseState.pow.above riseState.pow.inputLevel).any (fun t => decide (t + 1000000 ≤ riseState.ticks)) = true ∧ 0 < riseState.pow.inputLevel ∧ operating riseState = true ∧
    wantedLevel (setPow riseState (fun w => { w with inputLevel := w.inputLevel - 1 })) < riseState.pow.level ∧ releaseReady.ticks = releaseReady.pow.releaseAt + 10000000 := by decide +kernel
theorem witness_DomainsAndHeat_turn : (atStep 5).startup.step = 5 ∧ riseClass 15 < riseClass 32 ∧ domAt { atStep 5 with domains := tput (atStep 5).domains 15 (.turningOn .off) } 15 = .turningOn .off := by decide +kernel
theorem witness_DomainsAndHeat : domAt turnState 15 = .turningOn .off ∧ domReady turnState 15 = true ∧ domReady { turnState with domains := [(15, .turningOn .off), (31, .off)] } 15 = false ∧ domAt ready 91 ≠ .faulted ∧ (∀ f, domAt ready 91 ≠ .turningOn f) ∧
    domAt { ready with domains := [(91, .faulted)] } 91 = .faulted ∧ (∀ d, d ∈ [16, 32, 56, 72, 80, 82, 91] → domAt { ready with domains := [(d, .turningOn .off)] } d = .turningOn .off ∧ domReady { ready with domains := [(d, .turningOn .off)] } d = true) ∧
    sampleDue ready 7 = true ∧ sampleDue (setTherm ready 7 { sampledAt := some ready.ticks }) 7 = false ∧ dramDue ready 23 = true ∧ dramDue (setTherm ready (siteMD 23) { dramAt := some ready.ticks }) 23 = false ∧
    coolantDue ready = true ∧ coolantDue { ready with coolant := { ready.coolant with readAt := some ready.ticks } } = false := by
  refine ⟨by decide +kernel, by decide +kernel, by decide +kernel, by decide +kernel, fun f => by rw [show domAt ready 91 = .on from by decide +kernel]; simp, by decide +kernel, by decide +kernel, by decide +kernel, by decide +kernel, by decide +kernel, by decide +kernel, by decide +kernel, by decide +kernel⟩
theorem witness_DomainsAndHeat_samples : dieValue 7 {} (some 300) none = some 300 ∧ dieValue 7 {} none none = none ∧
    (thermAt heatState 99).reviewFrom = some 0 ∧ (thermAt ready 99).reviewFrom = none ∧ heatState.ticks = 1000000000 := by decide +kernel
theorem witness_DomainsAndHeat_sensors : (thermAt (setTherm ready 99 { sensor := 4 }) 99).sensor = 4 ∧ (thermAt (setTherm ready 99 { sensor := 1, minuteAt := some 0 }) 99).sensor = 1 ∧
    (thermAt (setTherm ready 99 { sensor := 1, minuteAt := some 0 }) 99).minuteAt = some 0 ∧ (thermAt (setTherm ready 99 { sensor := 1 }) 99).minuteAt = none ∧ (thermAt ready 99).sensor = 0 ∧
    heatState.coolant.lowSince = some 0 ∧ ready.coolant.lowSince = none := by decide +kernel
theorem witness_FaultsCollected : collectorUp faultState = true ∧ faultState.active.val = 0 ∧ faultState.faults.internal = [] ∧ faultState.faults.busyUntil ≤ faultState.ticks ∧
    collectorUp { faultState with role0 := .silent } = false ∧ (setFaults faultState (fun f => { f with internal := [msg40] })).faults.internal.head? = some msg40 ∧
    faultState.faults.kept.any (fun k => k.msg == msg40) = true ∧ siteKind 99 = some (.ps, 11) ∧ kindRow (fld (0x8410000000000 : Nat) 40 8) = some ([0x08], 4) ∧ kindRow (fld 0 40 8) = none := by decide +kernel
theorem witness_FaultsCollected_rest : faultState.faults.recovery = some { msg := msg40, from_ := 0, until_ := some 1024 } ∧ ready.faults.recovery = none ∧ msg40.kind ≠ 0x20 ∧ faultState.now = 1024 ∧
    ({ faultState with now := 1023 } : State).now.toNat < 1024 := by decide +kernel
theorem witness_FencesAndCupping_taken (p : SigPacket) : (ctrlTakeAll (sigArrive ready p) 74 0).1 = true := by
  simp only [ctrlTakeAll_sigArrive_fst]; decide +kernel
theorem witness_FencesAndCupping_refused : (ctrlTakeAll (sigArrive { ready with sigDown := [8] } (ctrlPacket 8 0x7F 0x80 0 0 [0])) 8 0).1 = false := by
  simp only [ctrlTakeAll_sigArrive_fst]; decide +kernel
theorem witness_FencesAndCupping : fenceHits ready 23 (some 63) = none ∧ (fenceHits { ready with job := some (job7 1) } 8 (some 0)).isSome = true ∧ dval cupState Obj.cupEnable = 1 ∧ dval cupState Obj.moduleState = 1 ∧
    cupState.faults.cup.open_ = false ∧ cupState.faults.cup.named = none ∧ collectorUp cupState = true := by decide +kernel
theorem witness_FencesAndCupping_rest : tileLive cupOpenState (tkey 15 63) = true ∧ (tileAt cupOpenState (tkey 15 63)).cup = .running ∧ (tileAt ready 0).cup ≠ .running ∧ cupOpenState.faults.cup.open_ = true ∧
    (65535 : BitVec 16).toNat = (cupOpenState.faults.cup.k - 1) % 65536 ∧ cupOpenState.faults.cup.expect.contains 15 = true ∧ collectorUp cupOpenState = true ∧
    cupOpenState.faults.cup.startAt + 50000000 = cupOpenState.ticks ∧ ready.faults.cup.open_ = false := by decide +kernel
theorem witness_CupVerdicts : ∃ (c : Cupping) (k : Nat), k < 1024 ∧ 1 ≤ c.m ∧ c.m < 16 ∧ dieReported c (k / 64) = true ∧ verdictOf c k = .loses :=
  ⟨lossCup, 1023, by decide +kernel⟩
theorem witness_BaristaBeats : outputsOpen beatState 1 = true ∧ (barOf beatState 1).sentAt + 1000 ≤ beatState.ticks ∧ (1 : Fin 2) ≠ beatState.active ∧ roleOf beatState 1 = .standby ∧ (barOf beatState 1).beatAt + 6000 = beatState.ticks ∧
    ready.ticks < (barOf ready 0).beatAt + 6000 ∧ collectorUp beatState = true ∧ (barOf beatState 0).partnerLost = false ∧ (barOf beatState 0).beatAt + 6000 = beatState.ticks := by decide +kernel
theorem witness_BaristaBeats_taken (p : SigPacket) : (ctrlTakeAll (sigArrive ready p) 75 1).1 = true := by
  simp only [ctrlTakeAll_sigArrive_fst]; decide +kernel
theorem witness_BaristaBeats_refused : (ctrlTakeAll (sigArrive { ready with sigDown := [8] } (ctrlPacket 8 0x7F 0x90 0 75 [(0 : BitVec 32).zeroExtend 64])) 8 0).1 = false := by
  simp only [ctrlTakeAll_sigArrive_fst]; decide +kernel
theorem witness_BaristaBeats_rest : ba1State.active = 1 ∧ collectorUp ba1State = true ∧
    roleOf ba1State 0 = .standby ∧ ba1State.faults.recovery = none ∧ ba1State.light.cal.holds = [] ∧ ba1State.pow.level = 0 ∧ ba1State.mt.stepD = none ∧ ba1State.handback = none := by decide +kernel
theorem witness_BaristaChecks : roleOf ready 1 ≠ .silent ∧ roleOf ready 1 ≠ .dead ∧ roleOf { ready with role1 := .dead } 1 = .dead ∧ roleOf { ready with role1 := .silent } 1 = .silent ∧ outputsOpen testState 1 = true ∧
    outputsOpen { ready with role1 := .silent } 1 = false ∧ (replaceBlock (carafeOf testState 1) 8191).isSome = true ∧ (barOf ready 1).silentAt = none ∧
    replaceBlock { carafeOf testState 1 with spares := List.replicate 3071 (0, 0) } 0 = none := by decide +kernel
theorem witness_BaristaChecks_rest : (barOf silentState 1).silentAt = some 9000000 ∧ roleOf silentState 1 = .silent ∧ 9000000 + 1000000 = silentState.ticks ∧
    roleOf { silentState with role1 := .remirroring } 1 = .remirroring ∧ collectorUp { silentState with role1 := .remirroring } = true ∧ (1 : Fin 2) ≠ silentState.active ∧
    (carafeOf silentState 1).lastCommit = (carafeOf silentState 0).lastCommit ∧ logHigh (carafeOf silentState 1) = logHigh (carafeOf silentState 0) ∧
    (carafeOf (setCarafe silentState 0 { carafeOf silentState 0 with lastCommit := 5 }) 0).lastCommit ≠ (carafeOf (setCarafe silentState 0 { carafeOf silentState 0 with lastCommit := 5 }) 1).lastCommit ∧
    powerFailing ready = false ∧ failState.pow.failed = false ∧ powerFailing failState = true := by decide +kernel
theorem witness_CarafeCommits : collectorUp ready = true ∧ collectorUp { ready with role0 := .silent } = false ∧ mayCommit { ready with role1 := .dead } = true ∧ collectorUp { ready with role1 := .dead } = true ∧
    mayCommit unackedState = false ∧ collectorUp unackedState = true ∧ unackedState.journal.due = none ∧ 1024 ≤ manyState.journal.pending.length ∧ ready.journal.pending.length < 1024 ∧
    ready.ticks < ready.journal.periodicAt + 1000000000 := by decide +kernel
theorem witness_CarafeCommits_rest : 65536 ≤ (carafeOf fullState 1).lastCommit.toNat + 1 - (carafeOf fullState 1).journalFrom.toNat ∧ carafeWorks fullState 1 = true ∧
    (carafeOf fullState 1).compacting = none ∧ (carafeOf ready 1).compacting = none ∧
    (carafeOf (setCarafe fullState 1 { carafeOf fullState 1 with compacting := some 65540 }) 1).compacting = some 65540 ∧
    tget (fun _ => []) slotState.houseIn (houseKey (siteBA 1) 3) = [(0, [{ data := List.replicate 64 0, poison := false }])] ∧
    tget (fun _ => []) ({ ready with houseIn := tset (fun _ => []) ready.houseIn (houseKey (siteBA 1) 3) [(0, [])] } : State).houseIn (houseKey (siteBA 1) 3) = [(0, [])] ∧
    tget (fun _ => []) ready.houseIn (houseKey (siteBA 1) 3) = [] := by decide +kernel
theorem witness_CarafeCommits_second : collectorUp secondState = true ∧ secondState.journal.periodicAt + 1000000000 = secondState.ticks := by decide +kernel
theorem witness_DictionaryServer : dropReplies (dropStaged (dropSnaps ready)) = ready ∧ routeServed ready (.field 1) = true ∧ routeServed ready (.udp 1 0 0) = true ∧
    dropReplies (dropStaged (dropSnaps { ready with role0 := .silent })) = { ready with role0 := .silent } ∧ routeServed { ready with role0 := .silent } (.udp 1 0 0) = false ∧
    privilegeOf ready (.field 1) ≠ 0 ∧ unitGood (.field 1) readUnit = true ∧ unitGood (.field 1) (readUnit.set 5 0) = false ∧
    broadcastOk readUnit = true ∧ broadcastOk (answerUnit (punelReq readUnit) { status := 0 }) = false := by decide +kernel
theorem witness_DictionaryServer_client : admitClient clientState (.field 1) = (true, clientState) ∧ ((clientAt clientState (.field 1)).bind (fun c => c.replies.find? (fun x => x.1 == (punelReq readUnit).txn))).isSome = true ∧
    ((clientAt (admitClient ready (.field 1)).2 (.field 1)).bind (fun c => c.replies.find? (fun x => x.1 == (punelReq readUnit).txn))) = none ∧
    (admitClient ready (.field 1)).2.punel.waiting.find? (fun w => w.id == .field 1 && leAt w.answer 2 2 == (punelReq readUnit).txn) = none ∧
    ((admitClient (setPunel ready (fun p => { p with waiting := [{ id := .field 1, answer := readUnit, seq := 1, commit := false }] })) (.field 1)).2.punel.waiting.find? (fun w => w.id == .field 1 && leAt w.answer 2 2 == (punelReq readUnit).txn)).isSome = true ∧
    earlyStatus clientState 3 (punelReq readUnit) = 0 ∧ privilegeOf clientState (.field 1) = 3 ∧ (clientAt clientState (.field 1)).isSome = true ∧ (dictFind (punelReq readUnit).code).isSome = true ∧
    earlyStatus clientState 3 { punelReq readUnit with sub := 255 } ≠ 0 := by decide +kernel
theorem witness_DictionaryServer_order : (dictFind (PunelReq.code { punelReq readUnit with op := 2 })).any (fun e => e.access == 0) = true ∧ malformed { punelReq readUnit with op := 2 } = false ∧
    tooLarge { punelReq readUnit with op := 2 } = false ∧ (dictFind Obj.alertClear).any (fun e => e.access == 2 && decide (1 ≤ e.priv)) = true ∧
    earlyStatus clientState 3 { punelReq readUnit with op := 3 } = 0 := by decide +kernel
theorem witness_FieldNetwork : plcaState.punel.beaconAt = some 0 ∧ plcaState.punel.state = 1 ∧ plcaState.punel.coordinator = false ∧ 0 + 4000000 = plcaState.ticks ∧ ready.punel.beaconAt = none ∧ ready.punel.state ≠ 1 ∧
    16 ≤ (plcaState.ticks :: plcaState.punel.collisions.filter (fun t => decide (plcaState.ticks < t + 1000000000))).length := by decide +kernel
theorem witness_LifeCycleAndTamper : collectorUp ready = true ∧ collectorUp { ready with role0 := .silent } = false ∧ ([] : List Byte).length ≠ 202 ∧
    (setSec ready (fun x => { x with meshBroken := true })).sec.meshBroken = true ∧ ready.sec.meshBroken = false ∧ powered ready = false ∧
    powered (dset ready Obj.moduleState 1) = true ∧ (dset ready Obj.moduleState 1).sec.meshBroken = false ∧ (2 : Fin 3) ≠ 0 ∧ clientAt ready (.field 1) = none ∧
    leAt attestUnit 1 1 = 1 ∧ (punelReq attestUnit).code = Obj.attestReport ∧ tget (fun _ => false) (setSec ready (fun x => { x with latch := [(0, true)] })).sec.latch 0 = true ∧
    ((clientAt clientState (.field 1)).map (·.fails)) = some 0 ∧ dval clientState Obj.lcState ≠ 3 ∧ dval (dset clientState Obj.lcState 3) Obj.lcState = 3 := by decide +kernel
theorem witness_FirmwareUpdate : collectorUp stageState = true ∧ collectorUp { ready with role0 := .silent } = false ∧ ready.sec.recovery = false ∧ stageState.sec.pendingFw = [] ∧ ready.sec.updState ≠ 2 ∧ ready.sec.updState ≠ 3 ∧
    (setSec stageState (fun x => { x with updState := 2 })).sec.updState = 2 ∧ (setSec stageState (fun x => { x with updState := 3 })).sec.updState = 3 ∧
    (setSec ready (fun x => { x with recovery := true })).sec.recovery = true := by decide +kernel
theorem witness_FirmwareUpdate_slots : collectorUp trialState = true ∧ trialState.sec.recovery = false ∧ slotSt trialState (inactiveSlot trialState) = 1 ∧ trialState.sec.pendingFw = [] ∧
    bootedOf trialState trialState.active.val = some 1 ∧ bootedOf ready ready.active.val = none ∧ trialState.sec.trial = true ∧
    dval trialState Obj.moduleState = 1 ∧ dval trialState Obj.updateConfirmTime ≠ 0 ∧ trialState.startup.readyTick + dval trialState Obj.updateConfirmTime * 1000000000 ≤ trialState.ticks := by decide +kernel
theorem witness_StartUpSteps : (atStep 0).startup.step = 0 ∧ dval (atStep 0) Obj.moduleState = 0 ∧ (atStep 0).startup.inReset = false ∧ (atStep 0).pow.good ≠ none ∧ (atStep 1).startup.step ≠ 0 ∧
    unitDone (atStep 2) 1 = false ∧ (atStep 2).sec.meshBroken = false ∧ romLive (atStep 3) 1 = true ∧ unitDone (atStep 3) 1 = false ∧ (testSites (atStep 6)).contains 73 = true ∧
    (jointAt (atStep 7) (jointKey 99 65535)).spared = [] ∧ (litCombs (atStep 8)).contains 9 = true ∧ (trainStacks (atStep 9)).contains 23 = true ∧ unitDone (atStep 9) 23 = false ∧
    (atStep 9).journal.pending = [] ∧ stepDone (atStep 5) = true ∧ stepDone (atStep 2) = false ∧ (atStep 1).startup.step ≤ 1 ∧
    2 ≤ (atStep 12).startup.step ∧ (atStep 12).startup.stepAt + stepLimit (atStep 12) 12 = (atStep 12).ticks := by decide +kernel
theorem witness_ResetGrinderJoints : powered ready = false ∧ cupState.pow.failed = false ∧ cupState.startup.inReset = false ∧
    powered cupState = true ∧ ready.startup.inReset = false ∧ (setStartup ready (fun x => { x with inReset := true })).startup.inReset = true ∧
    (decide (6000 ≤ (6000 : BitVec 32).toNat) || (decide (4000 ≤ (6000 : BitVec 32).toNat ∧ (6000 : BitVec 32).toNat < 6000) && Config.freeBool cupState.freeCtr 0x10A0)) = true ∧
    (decide (6000 ≤ (3999 : BitVec 32).toNat) || (decide (4000 ≤ (3999 : BitVec 32).toNat ∧ (3999 : BitVec 32).toNat < 6000) && Config.freeBool cupState.freeCtr 0x10A0)) = false := by decide +kernel
theorem witness_StepTakesFront : ({ ready with pending := [.keptMessageExpiry, .grinderRun 1] } : State).pending = .keptMessageExpiry :: [.grinderRun 1] ∧ ready.pending = [] := by decide +kernel

theorem witness_AtomicsChangeOneWord : Memory.wf ready = true ∧ ∀ op ∈ [1, 10], RecordRuns ready 0 (atomicRec op 0) op ∧ lineState (stackAt ready 0) (recordLine ready (atomicRec op 0)) = .clean := by decide +kernel
theorem witness_DramCorrectsOneDie : bufLineAt { bytes := [(60, 1), (63, 128)] } 0 = none ∧ (∀ k : Nat, k < 16 → symbol (lineBytes { bytes := [(60, 1), (63, 128)] } 0) k = symbol (List.replicate 64 0) k ^^^ (if k = 15 then 0x80000001 else if k = 16 then 0 else 0)) ∧
    lineCheck { bytes := [(60, 1), (63, 128)] } 0 = (checkQ (List.replicate 64 0) ^^^ 0) ++ (checkP (List.replicate 64 0) ^^^ 0) ∧
    ({ bytes := [(60, 1), (63, 128)] } : Stack).marked = none ∧ ({ bytes := [(60, 1), (63, 128)], marked := some 16 } : Stack).marked = some 16 := by decide +kernel
theorem witness_CupPartners : 1 ≤ lossCup.m ∧ lossCup.m ≤ 15 ∧ cupPair lossCup (64 * 15 + 63) = 63 ∧ ({ m := 1 + 14 % 15 } : Cupping).m = 1 + 14 % 15 := by decide +kernel
theorem witness_DieKindsCoded : siteKind 0 = some (.bt, 0) ∧ siteKind 23 = some (.cd, 15) ∧ siteKind 39 = some (.kd, 15) ∧ siteKind 63 = some (.md, 23) ∧ siteKind 71 = some (.fd, 7) ∧
    siteKind 73 = some (.hd, 1) ∧ siteKind 75 = some (.ba, 1) ∧ siteKind 85 = some (.lc, 9) ∧ siteKind 87 = some (.os, 1) ∧ siteKind 99 = some (.ps, 11) := by decide
theorem witness_IntegerCellsExact : mmaInt (fun _ => 0x80) { decodeDesc [] with k := 0 } 0 0 0x7FFFFFFF = (0x7FFFFFFF, {}) ∧
    mmaInt (fun _ => 0x80) { decodeDesc [] with k := 1 } 0 0 0x7FFFFFFF = (0x7FFFFFFF, { intSat := true }) ∧ ({ decodeDesc [] with k := 65535 } : Desc).k ≤ 65535 := by decide +kernel
theorem witness_StoredFormKept : Memory.wf (coreState 0x13) = true ∧ (tileAt (coreState 0x13) 0).store.bytes = [(0, 0x13)] ∧
    Memory.wf (setTile ready 0 { tileReset 0 with store := { cleared := true, bytes := [(0, 0)] } }) = false := by decide +kernel

/-! Ill-formed commands are refused, one for each check. -/

/-- A flit of 64 zero bytes, and one of 63. -/
def flit64 : Flit := { data := List.replicate 64 0, poison := false }
def flit63 : Flit := { data := List.replicate 63 0, poison := false }
def mesh (len : Nat) (fs : List Flit) : MeshPacket := { dst := 0, src := 0, vc := 0, kind := 1, len := BitVec.ofNat 5 len, fields := 0, flits := fs }
def sig0 (len : Nat) : SigPacket := { dst := 0, src := 0, vc := 0, ptype := 15, len := BitVec.ofNat 3 len, poison := false, fields := 0, payload := [] }
def frame0 : HostFrame := { port := 0, bytes := 64 }
def ring0 : RingId := { port := 0, rx := false, line := 0 }

theorem test_wf_flit_length : Instr.wf (.readReq 0 (mesh 1 [flit63])) = false ∧ Instr.wf (.readReq 0 (mesh 1 [flit64])) = true := by decide
theorem test_wf_mesh_count : Instr.wf (.meshHop 0 0 (mesh 2 [flit64])) = false := by decide
theorem test_wf_mesh_most : Instr.wf (.reduce 0 0 (mesh 17 (List.replicate 17 flit64))) = false := by decide +kernel
theorem test_wf_engine_writes : Instr.wf (.write 0 (mesh 1 [flit64]) [(0x100000, 0)]) = false ∧ Instr.wf (.write 0 (mesh 1 [flit64]) [(0xFFFFF, 0)]) = true := by decide
theorem test_wf_combine_writes : Instr.wf (.combineFlit 0 (mesh 1 [flit64]) 0 [(0x100000, 0)]) = false := by decide
theorem test_wf_signal_words : Instr.wf (.sigDiscard 0 (sig0 1)) = false ∧ Instr.wf (.sigDiscard 0 (sig0 0)) = true := by decide
theorem test_wf_cut_mesh : Instr.wf (.holdCut .mesh 0 (.mesh (mesh 1 []) 0)) = false := by decide
theorem test_wf_cut_signal : Instr.wf (.holdCut .mesh 0 (.sig (sig0 1))) = false := by decide
theorem test_wf_requesters_distinct : Instr.wf (.arbiterDecision .mesh 0 [⟨1, 0, 1⟩, ⟨1, 3, 1⟩]) = false ∧ Instr.wf (.arbiterDecision .mesh 0 [⟨1, 0, 1⟩, ⟨2, 0, 1⟩]) = true := by decide
theorem test_wf_slot_ports : Instr.wf (.slotStart 0 [(366, 0)]) = false ∧ Instr.wf (.slotStart 0 [(0, 27)]) = false ∧ Instr.wf (.slotStart 0 [(0, 1), (0, 2)]) = false := by decide
theorem test_wf_slot_flits : Instr.wf (.tableHeaderSlot 0 0 (List.replicate 27 flit64)) = false ∧ Instr.wf (.tableRowsSlot 0 0 [flit63]) = false := by decide +kernel
theorem test_wf_heater_rings : Instr.wf (.heaterUpdate [(ring0, 1), (ring0, 2)]) = false := by decide
theorem test_wf_window_rings : Instr.wf (.toneWindowEnd [⟨ring0, true, []⟩, ⟨ring0, true, []⟩]) = false := by decide
theorem test_wf_taps : Instr.wf (.fadeEvaluation 0 [] (List.replicate 4 0)) = false := by decide
theorem test_wf_reduce_data : Instr.wf (.reduceAdd 0 0 (atomicRec 0x11 1) [flit63]) = false := by decide
theorem test_wf_fabric_payload : Instr.wf (.hello 0 { blankPacket with len := 1 }) = false ∧ Instr.wf (.hello 0 blankPacket) = true := by decide
theorem test_wf_send_length : Instr.wf (.send frame0 0 0 (List.replicate 4097 0) false) = false := by decide +kernel
theorem test_wf_write_length : Instr.wf (.rdmaWrite frame0 0 { psn := 0, first := true, last := true, va := 0, rkey := 0, len := 4097, data := List.replicate 4097 0 } false) = false := by decide +kernel
theorem test_wf_neighbour_lengths : Instr.wf (.neighbourDiscovery frame0 [] (List.replicate 16 0)) = false := by decide
theorem test_wf_echo_lengths : Instr.wf (.icmpEcho frame0 (List.replicate 4 0) (List.replicate 16 0) []) = false ∧ Instr.wf (.icmpEcho frame0 [] [] []) = false := by decide
theorem test_wf_stage_readings : Instr.wf (.inputReading [] 0) = false := by decide
theorem test_wf_dram_readings : Instr.wf (.dramTempRead 0 []) = false := by decide
theorem test_wf_cup_sums : Instr.wf (.cupResult 0 0 0 0 0 (List.replicate 7 0)) = false := by decide
theorem test_wf_punel_unit : Instr.wf (.punelRead (.field 0) false {} (List.replicate 1501 0)) = false := by decide +kernel
theorem test_wf_update_segment : Instr.wf (.updateImage (.field 0) true true 0 0 (List.replicate 1025 0)) = false := by decide +kernel
theorem test_wf_march_units : Instr.wf (.grinderDone [.buffer 0 1, .buffer 0 1]) = false ∧ Instr.wf (.grinderDone [.buffer 0 0]) = false ∧ Instr.wf (.grinderDone [.buffer 0 1, .store 0 0 true 1]) = true := by decide

/-! Worked examples of the spec, and single commands. -/

/-- Chapter 01 after Table 3: site 41 is MD1 on BT0, and site 19 is CD11 on BT5. -/
theorem test_sites_named : siteKind 41 = some (.md, 1) ∧ siteTile 41 = 0 ∧ siteKind 19 = some (.cd, 11) ∧ siteTile 19 = 5 := by decide
/-- Chapter 04 after R105: with line 7 out at p and line 19 out at q, lane 7 rides line 34 and lane 19 rides line 35. -/
theorem test_lane_map : (laneMap (BitVec.ofNat 36 (2 ^ 7 + 2 ^ 19)))[7]? = some (some 34) ∧ (laneMap (BitVec.ofNat 36 (2 ^ 7 + 2 ^ 19)))[19]? = some (some 35) ∧
    (laneMap (BitVec.ofNat 36 (2 ^ 7 + 2 ^ 19)))[8]? = some (some 8) := by decide +kernel
/-- Chapter 04 after R119, frame 0: S0 pairs FD0.L00 with MD0.L00, FD7.L03 with MD6.L01 and HD0.L00 with MD6.L02. -/
theorem test_house_s0 : housePair 0 0 0 312 = some 192 ∧ housePair 0 0 0 343 = some 223 ∧ housePair 0 0 0 344 = some 224 := by decide +kernel
/-- The same: S2 pairs BA0 with BA1, and L00 of FD0 with FD1; S3 pairs FD0.L00 with CD8.L00 and HD0.L01 with BA0.L00. -/
theorem test_house_s2_s3 : housePair 0 0 2 348 = some 349 ∧ (housePair 0 0 2 312).map (fun q => (portSite q).1) = some (siteFD 1) ∧
    housePair 0 0 3 312 = some 96 ∧ housePair 0 0 3 345 = some 348 := by decide +kernel
/-- Chapter 06 after R169: 0x0C0_1234_5678 lies on MD13 at offset 0x308_B678, which is channel 2, bank 13, row 48. -/
theorem test_address_map : mapAddr State.reset 0x0C012345678 = some (13, 0x308B678) ∧ offChannel 0x308B678 = 2 ∧ offBank 0x308B678 = 13 ∧ offRow 0x308B678 = 48 := by decide +kernel
/-- Chapter 03, eight tiles into one: T24 travels east to T27 and T28 travels west. -/
theorem test_mesh_route : nextHop 24 27 = 25 ∧ nextHop 28 27 = 27 ∧ routeOut 27 27 = 4 := by decide
/-- Chapter 02 after R58: 0x4049_0FDB to BF16 gives 0x4049 to nearest even; stochastically 0x404A from r = 61,477 on, else 0x4049. -/
theorem test_bf16_rounding : (writeBack 2 .rne true (decodeF fmtF32 0x40490FDB)).1 = 0x4049 ∧ (writeBack 2 (.stoch 61477) true (decodeF fmtF32 0x40490FDB)).1 = 0x404A ∧
    (writeBack 2 (.stoch 61476) true (decodeF fmtF32 0x40490FDB)).1 = 0x4049 := by decide +kernel
/-- Chapter 13, CD2.T17 loses: with M = 5, CD2.T17 pairs with CD7.T17, and CD0.T17 with CD5.T17. -/
theorem test_cup_pairs : cupPair { m := 1 + 19 % 15 } (64 * 2 + 17) = 64 * 7 + 17 ∧ cupPair { m := 1 + 19 % 15 } 17 = 64 * 5 + 17 := by decide
/-- The check value of CRC-32C for the digits 1 to 9. -/
theorem test_crc32c : crc32c [0x31, 0x32, 0x33, 0x34, 0x35, 0x36, 0x37, 0x38, 0x39] = 0xE3069283 := by decide +kernel
/-- R184: ADD at a line that holds 0 with OPERAND 5 leaves 5 in the word. -/
theorem test_atomic_add : (match exec (.add 0 72 { atomicRec 1 0 with operand := 5 } false) ready with
    | .next t => recordWord t 0 (atomicRec 1 0) | _ => 0) = 5 := by decide +kernel
/-- R176: a line with one bit of die 15 wrong is corrected and the die named. -/
theorem test_die_corrected : lineState { bytes := [(63, 128)] } 0 = .corrected 15 ∧ lineRead { bytes := [(63, 128)] } 0 = (List.replicate 64 0, false) := by decide +kernel
/-- R26: ADDI x1, x0, 5 (0x00500093) writes 5 to x1 and the pc passes it. -/
theorem test_addi : (match exec (.coreInstruction 0 0) (coreState 0x00500093) with
    | .next t => ((tileAt t 0).core.pc, xAt (tileAt t 0).core 1) | _ => (0, 0)) = (4, 5) := by decide +kernel
/-- R306: a step on an empty queue is one nanosecond. -/
theorem test_tick : (match step State.reset with | .next t => (t.now, t.ticks) | _ => (0, 0)) = (1, 1) := by decide +kernel
/-- R176: the poison check symbols of R175 read as poison, whatever die is marked. -/
theorem test_poison_line : lineState (lineWrite { marked := some 3 } 0 (List.replicate 64 7) true) 0 = .poison := by decide +kernel

end Sys2Proof.Tests
end

section
/-! No command stops the block, and a step uses up the front of the queue. -/
namespace Sys2Proof.Machine

/-- The outcome of a command run in `s` is a next state, in which the commands that wait are those of `s`. -/
def GoesOn (s : State) (o : Host.Outcome State Fault Refusal) : Prop := ∃ t, o = .next t ∧ t.pending = s.pending

/-- The operations' laws speak of the queue as `State.outer`; what they say of the next state is what an arm needs. -/
theorem goesOn_next {s t : State} (h : t.outer = s.outer) : GoesOn s (.next t) := ⟨t, rfl, h⟩

/-- Each arm of `exec` answers the next state of one operation, or of a choice between operations, and the queue laws of the operations say
that none of them touches the queue. -/
theorem exec_goesOn (c : Instr) (s : State) : GoesOn s (exec c s) := by
  cases c
  -- arms that ask whether a part of the state, or of the operand, is there
  case combineFlit | jobStopTimeout | runLimitExpiry | barrierResend | qpAckTimeout =>
    refine goesOn_next ?_
    split <;> simp
  case holdCut =>
    refine goesOn_next ?_
    dsimp only
    split <;> simp
  case linkTrainingRetry =>
    refine goesOn_next ?_
    dsimp only
    split
    · rfl
    · split <;> simp
  -- arms that run one operation over a list
  case monitorSample | calStepEnd | toneWindowEnd | jobStop | fabSyncRelease | fabSyncFlag =>
    exact goesOn_next (by simp [State.outer_foldl])
  -- every other arm: one operation, or a choice of two by a condition
  all_goals exact goesOn_next (by simp)

theorem State.tick_pending (s : State) : s.tick.pending = s.pending := outer_clockWork _

theorem step_of_nil {s : State} (h : s.pending = []) : step s = .next s.tick := by simp only [step, h]

theorem step_of_cons {s : State} {c : Instr} {rest : List Instr} (h : s.pending = c :: rest) :
    step s = exec c { s with pending := rest } := by simp only [step, h]

theorem step_uses_front (s : State) : ∃ t, step s = .next t ∧ t.pending = s.pending.tail := by
  cases h : s.pending with
  | nil => exact ⟨s.tick, step_of_nil h, s.tick_pending.trans h⟩
  | cons c rest =>
    rw [step_of_cons h]
    exact exec_goesOn c { s with pending := rest }

/-- Settles O54: by cases on the command, each arm answering a next state whose queue the laws of its operations keep; a step then runs the
front of the queue on the rest of it. -/
theorem noCommandStops : Obligations.NoCommandStops :=
  ⟨exec_goesOn, step_uses_front⟩

end Sys2Proof.Machine
end

section
/-! A slot begins at every port: what SLOT_START does, and what a port sends in a house slot and in a job slot. -/
namespace Sys2Proof.Machine

theorem exec_slotStart_of_due {s : State} {sl : Fin 64} (short : List (Nat × Nat)) (h : slotDue s sl = true) :
    exec (.slotStart sl short) s = .next ((List.range 16).foldl (fun u l => extSlot u sl.val l) (doSlotStart s sl short)) := by
  change Host.Outcome.next (if slotDue s sl then _ else s) = _
  rw [if_pos h]; rfl

theorem exec_slotStart_of_not_due {s : State} {sl : Fin 64} (short : List (Nat × Nat)) (h : slotDue s sl = false) :
    exec (.slotStart sl short) s = .next s := by
  change Host.Outcome.next (if slotDue s sl then _ else s) = _
  rw [if_neg (by simp [h])]

theorem doSlotStart_of_blend {s : State} {sl : Fin 64} (short : List (Nat × Nat)) (h : slotDue s sl = true)
    (hb : s.light.cal.blendRuns = true) :
    doSlotStart s sl short = (List.range 350).foldl (fun u p => match slotTarget u sl.val p with
      | none => u
      | some (q, none) => sendHouse u sl.val p q
      | some (q, some flow) => sendJob u sl.val p q flow (((short.find? (fun e => e.1 == p)).map (·.2)).getD 26))
      { s with slotNow := sl, slotAt := some s.ticks } := by
  unfold doSlotStart
  rw [if_neg (by simp [h]), if_neg (by simp [hb])]
  rfl

theorem doSlotStart_of_no_blend {s : State} {sl : Fin 64} (short : List (Nat × Nat)) (h : slotDue s sl = true)
    (hb : s.light.cal.blendRuns = false) :
    doSlotStart s sl short = testSlot { s with slotNow := sl, slotAt := some s.ticks } sl.val := by
  unfold doSlotStart
  rw [if_neg (by simp [h]), if_pos (by simp [hb])]

theorem testSlot_eq (s : State) (sl : Nat) :
    testSlot s sl = if (s.startup.step = 9 ∨ s.startup.step = 10) ∧ sl < houseSlots s.blend then
      (List.range 350).foldl (fun u p => match slotTarget u sl p with
        | some (q, _) => emit u (.slot p q { mark := markFor sl, head := headFor u p q, flits := [], prbs := testLines u p q })
        | none => u) s
      else s := by
  unfold testSlot
  by_cases hc : (s.startup.step = 9 ∨ s.startup.step = 10) ∧ sl < houseSlots s.blend
  · rw [if_neg (by omega), if_pos hc]; rfl
  · rw [if_pos (by omega), if_neg hc]

section House
variable {s : State} {p q : Nat} (sl : Nat)

/-- IDLE when no service waits (R111). -/
theorem sendHouse_of_no_waiter (h : houseWaiters (tableStep s (portSite p).1 q) (portSite p).1 q = []) :
    sendHouse s sl p q = sendBurst (tableStep s (portSite p).1 q) p q
      { mark := markFor sl, head := headFor (tableStep s (portSite p).1 q) p q, flits := [] } := by
  unfold sendHouse
  simp only [h, List.isEmpty_nil, if_true]

variable {u w : State} {v : Nat} {ws : List ArbReq} (hu : tableStep s (portSite p).1 q = u) (hws : houseWaiters u (portSite p).1 q = ws)
  (hne : ws ≠ []) (hv : (arbAt (doArbiter u .house (portSite p).1 ws) .house (portSite p).1).holder = some v)
  (hw : arbRelease (doArbiter u .house (portSite p).1 ws) .house (portSite p).1 = w)
include hu hws hne hv hw

/-- A message service (TABLE among them) sends the frame at the front for its receiver (R121); a TABLE slot that a busy base tile must take
again stays queued (R125). -/
theorem sendHouse_of_queued {x : Nat × List Flit} (h1 : v ≠ 1) (h2 : v ≠ 2) (hx : (houseQ w (portSite p).1 v).find? (houseFor q) = some x) :
    sendHouse s sl p q = sendBurst
      (if v = 5 ∧ (tableBusy w (portSite p).1 (portTile q)).isSome then w else setHouseQ w (portSite p).1 v ((houseQ w (portSite p).1 v).erase x))
      p q { mark := markFor sl, flits := x.2, head := { headFor u p q with
        kind := 2, flits := BitVec.ofNat 5 x.2.length, service := BitVec.ofNat 4 v, poison := poisonBits x.2 } } := by
  unfold sendHouse
  simp [hu, hws, hne, hv, hw, h1, h2, hx]

/-- FABRIC sends what the path to the receiver fills a slot with (R121). -/
theorem sendHouse_of_fabric (h2 : v = 2) :
    sendHouse s sl p q = match fillSlot w (pathKey (portSite p).1 (portSite q).1) (headFor u p q) with
      | (some x, y) => sendBurst y p q { mark := markFor sl, head := x.1, flits := x.2 }
      | (none, y) => sendBurst y p q { mark := markFor sl, head := headFor u p q, flits := [] } := by
  unfold sendHouse
  simp only [hu, hws, hne, hv, hw, h2, List.isEmpty_iff, if_false, if_true] <;> rfl

/-- HOST sends the host units that wait for the receiver (R121). -/
theorem sendHouse_of_host (h1 : v = 1) (hh : hostWaits w (portSite p).1 q = true) :
    sendHouse s sl p q = sendBurst (hostSlot w (portSite p).1 (portSite q).1).2 p q
      { mark := markFor sl, flits := (hostSlot w (portSite p).1 (portSite q).1).1, head := { headFor u p q with
        kind := 2, flits := BitVec.ofNat 5 (hostSlot w (portSite p).1 (portSite q).1).1.length, service := 1
        poison := poisonBits (hostSlot w (portSite p).1 (portSite q).1).1 } } := by
  unfold sendHouse
  simp [hu, hws, hne, hv, hw, h1, hh]

end House

section Job
variable {s u : State} {p flow avail : Nat} {fit full run : List TxFlit} (sl q : Nat)
  (hfit : (txQueue s p flow).filter (fun x => x.dstSite == (portSite q).1 || x.dstSite == 127) = fit)
  (hfull : takeRun 26 fit = full) (hrun : full.take avail = run)
  (hu : (if 192 ≤ p ∧ run.length < full.length then bump s Obj.slotUnderruns else s) = u)
include hfit hfull hrun hu

/-- IDLE when no flit waits for the receiver (R110). -/
theorem sendJob_of_no_flit (h : run = []) :
    sendJob s sl p q flow avail = sendBurst u p q { mark := markFor sl, head := headFor u p q, flits := [] } := by
  subst h
  unfold sendJob
  simp only [hfit, hfull, hrun, Bool.and_eq_true, decide_eq_true_eq, hu]

/-- The header of the slot of a job that carries the run of flits `run`, of which `a` is the first (R109 to R111). -/
def jobHead (u : State) (p q flow : Nat) (fit run : List TxFlit) (a : TxFlit) : SlotHeader :=
  { headFor u p q with
    kind := 1, flits := BitVec.ofNat 5 run.length
    last := (run.getLast?.map (·.last)).getD false ||
      (decide (192 ≤ p) && !fit.any (fun x => x.req == a.req && x.tile == a.tile && x.tag == a.tag && !run.contains x))
    flow := BitVec.ofNat 16 flow, gen := ((btAt u (portTile p)).active.map (·.gen)).getD 0, poison := poisonBits (run.map (·.flit))
    offset := BitVec.ofNat 32 a.offset, tile := if a.req then a.tile else 0, tag := if a.req then a.tag else 0, req := a.req }

/-- What scheduling a slot of a job with a run that begins with `a` notes at the transfer the run belongs to (R132). -/
def jobDue (s : State) (p q flow : Nat) (a : TxFlit) : State :=
  match siteKind (portSite p).1 with
  | some (.cd, n) => if a.req then dueReq s (siteCD n) a else dueSlot s q (64 * n + a.tile.toNat) flow a.xfer
  | _ => dueReq s (portSite q).1 a

/-- A FLOW burst with the run of flits next in line, taken out of the queue (R109, R173). -/
theorem sendJob_of_run {a : TxFlit} {l : List TxFlit} (h : run = a :: l) :
    sendJob s sl p q flow avail = runSent (sendBurst
      (jobDue (setTxQueue u p flow (run.foldl (fun l x => l.erase x) (txQueue s p flow))) p q flow a)
      p q { mark := markFor sl, head := jobHead u p q flow fit run a, flits := run.map (·.flit) }) p flow run := by
  subst h
  unfold sendJob
  simp only [hfit, hfull, hrun, Bool.and_eq_true, decide_eq_true_eq, hu]
  rfl

end Job

/-- Settles O18: SLOT_START is the fold over the ports and then the links, and each burst is one branch of `sendHouse` or `sendJob`. -/
theorem slotsSend : Obligations.SlotsSend := by
  intro sl short s
  refine ⟨fun hd hb => ?_, fun hd hb => ?_, exec_slotStart_of_not_due short, ?_, ?_⟩
  · have he := exec_slotStart_of_due short hd
    rw [doSlotStart_of_blend short hd hb] at he
    exact he
  · have he := exec_slotStart_of_due short hd
    rw [doSlotStart_of_no_blend short hd hb, testSlot_eq] at he
    exact he
  · rintro p q _ _ _ rfl rfl rfl
    refine ⟨sendHouse_of_no_waiter sl.val, ?_⟩
    rintro v w x hne hv rfl
    refine ⟨fun h1 h2 hx _ => ?_, fun h2 => ?_, fun fs y h1 hh hy => ?_⟩
    · exact sendHouse_of_queued sl.val rfl rfl hne hv rfl h1 h2 hx
    · exact sendHouse_of_fabric sl.val rfl rfl hne hv rfl h2
    · obtain ⟨rfl, rfl⟩ := Prod.mk.inj hy
      exact sendHouse_of_host sl.val rfl rfl hne hv rfl h1 hh
  · rintro p q flow avail _ _ run _ rfl rfl hrun rfl
    refine ⟨sendJob_of_no_flit sl.val q rfl rfl hrun.symm rfl, ?_⟩
    rintro a l _ _ h rfl rfl
    exact sendJob_of_run sl.val q rfl rfl hrun.symm rfl h

end Sys2Proof.Machine
end

section
/-! Tiles in service: when two updates of a tile are one, and the rule for an effect that needs the tile in service. -/
namespace Sys2Proof.Machine

theorem updTile_congr {s : State} {k : Nat} {f g : Tile → Tile} (h : f (tileAt s k) = g (tileAt s k)) : updTile s k f = updTile s k g :=
  congrArg (setTile s k) h

/-- An update that leaves the tile as it reads puts it back. -/
theorem updTile_of_fixed {s : State} {k : Nat} {f : Tile → Tile} (h : f (tileAt s k) = tileAt s k) : updTile s k f = setTile s k (tileAt s k) :=
  congrArg (setTile s k) h

/-- An effect on a tile in service, by what it does to the tile as it stands. -/
theorem onTile_of_eq {s : State} {k : Nat} {f g : Tile → Tile} (hl : tileLive s k = true) (h : f (tileAt s k) = g (tileAt s k)) :
    onTile k f s = updTile s k g := (if_pos hl).trans (updTile_congr h)

theorem onTile_of_fixed {s : State} {k : Nat} {f : Tile → Tile} (hl : tileLive s k = true) (h : f (tileAt s k) = tileAt s k) :
    onTile k f s = setTile s k (tileAt s k) := (if_pos hl).trans (updTile_of_fixed h)

theorem tkey_div (cd : Fin 16) (t : Fin 64) : tkey cd t / 64 = cd.val := by simp only [tkey]; omega

end Sys2Proof.Machine
end

section
/-! One instruction of a core: which instruction runs, and what ADDI, an undefined encoding and VSETIVLI do. -/
namespace Sys2Proof.Machine

@[simp] theorem updCore_updCore (s : State) (k : Nat) (f g : CoreSt → CoreSt) : updCore (updCore s k f) k g = updCore s k (fun c => g (f c)) :=
  updTile_updTile s k _ _

@[simp] theorem coreAt_updCore (s : State) (k : Nat) (f : CoreSt → CoreSt) : coreAt (updCore s k f) k = f (coreAt s k) := by
  simp [coreAt, updCore]

@[simp] theorem vecAt_updCore (s : State) (k : Nat) (f : CoreSt → CoreSt) : vecAt (updCore s k f) k = vecAt s k := by
  simp [vecAt, updCore]

@[simp] theorem updCore_sent (s : State) (k : Nat) (f : CoreSt → CoreSt) : (updCore s k f).sent = s.sent := rfl
@[simp] theorem updCore_dict (s : State) (k : Nat) (f : CoreSt → CoreSt) : (updCore s k f).dict = s.dict := rfl
@[simp] theorem coreAt_bumpFree (s : State) (k : Nat) : coreAt (bumpFree s) k = coreAt s k := rfl
@[simp] theorem vecAt_bumpFree (s : State) (k : Nat) : vecAt (bumpFree s) k = vecAt s k := rfl

@[simp] theorem putX_instret (c : CoreSt) (n : Nat) (v : Word) : (putX c n v).instret = c.instret := by unfold putX; split <;> rfl

theorem xAt_putX_same (c : CoreSt) {n : Nat} (v : Word) (h : n ≠ 0) : xAt (putX c n v) n = v := by simp [xAt, putX, h]

theorem stepCore_of_not_running {s : State} {k : Nat} (vec : Bool) (h : (tileAt s k).core.running = false) : stepCore s k vec = s := by
  simp [stepCore, h]

theorem stepCore_of_running {s : State} {k : Nat} (vec : Bool) (hr : (tileAt s k).core.running = true) (hh : (tileAt s k).halted = false)
    (hi : readyIrqs (tileAt s k).core = []) : stepCore s k vec = runInstr s k vec := by
  simp [stepCore, hr, hh, hi]

section
variable {s : State} {k w : Nat} (hf : fetchWord s k = .ok (4, w))
include hf

/-- Four bytes that are the control core's: it settles what they do after the fetch's reads. -/
theorem runInstr_scalar (hv : isVectorOp w = false) :
    runInstr s k false = settle s k w w ((coreAt s k).countInhibit.getLsbD 2)
      (execScalar (fetchEffects s k 4) k w (coreAt s k).pc ((coreAt s k).pc + 4)) := by
  simp [runInstr, hf, hv]

/-- Four bytes that are the vector unit's. -/
theorem runInstr_vector (hv : isVectorOp w = true) :
    runInstr s k true = settle s k w w ((coreAt s k).countInhibit.getLsbD 2)
      (execVector (fetchEffects s k 4) k w ((coreAt s k).pc + 4)) := by
  simp [runInstr, hf, hv]

end

theorem execScalar_addi {w : Nat} (s : State) (k : Nat) (pc next : Word) (ho : w % 128 = 0x13) (h3 : iF3 w = 0) :
    execScalar s k w pc next = .ok (setXs s k (iRd w) (xAt (coreAt s k) (iRs1 w) + immI w)) next := by
  simp [execScalar, isFloatOp, execInt, retX, opImmResult, aluOp, ho, h3]

/-- No RV64GC instruction has the opcode of the encodings longer than 48 bits. -/
theorem execScalar_of_long {w : Nat} (s : State) (k : Nat) (pc next : Word) (ho : w % 128 = 0x7F) :
    execScalar s k w pc next = .trap s 2 (BitVec.ofNat 64 w) := by
  simp [execScalar, isFloatOp, execInt, ho]

theorem execVector_vsetivli {s : State} {k w : Nat} (next : Word) (hvs : vsOff (coreAt s k) = false) (ho : w % 128 = 0x57) (h3 : iF3 w = 7)
    (h31 : bitAt w 31 = true) (h30 : bitAt w 30 = true) :
    execVector s k w next =
      .ok (setXs (updVec s k (fun v => setVl v (BitVec.ofNat 64 (fld w 20 10)) (some (iRs1 w)))) k (iRd w)
        (vecAt (updVec s k (fun v => setVl v (BitVec.ofNat 64 (fld w 20 10)) (some (iRs1 w)))) k).vl) next := by
  simp [execVector, execVset, hvs, ho, h3, h31, h30]

/-- Only an instruction of SYSTEM sets `minstret`. -/
theorem setsInstret_of_not_system {w : Nat} (h : w % 128 ≠ 0x73) : setsInstret w = false := by simp [setsInstret, h]

/-- An instruction whose one result goes to a register retires. -/
theorem settle_setXs (s0 s : State) {k w : Nat} (raw : Nat) (inh : Bool) (v next : Word) (hw : setsInstret w = false) :
    settle s0 k w raw inh (.ok (setXs s k (iRd w) v) next) =
      bumpFree (updCore s k (fun c => { putX c (iRd w) v with pc := next, instret := if inh then c.instret else c.instret + 1 })) := by
  simp [settle, retire, setXs, hw]

section
variable {s : State} {k w : Nat} (hr : (tileAt s k).core.running = true) (hh : (tileAt s k).halted = false)
  (hi : readyIrqs (tileAt s k).core = []) (hf : fetchWord s k = .ok (4, w))
include hr hh hi hf

theorem stepCore_addi (ho : w % 128 = 0x13) (h3 : iF3 w = 0) :
    stepCore s k false = bumpFree (updCore (fetchEffects s k 4) k (fun c => { putX c (iRd w) (xAt c (iRs1 w) + immI w) with
      pc := (coreAt s k).pc + 4
      instret := if (coreAt s k).countInhibit.getLsbD 2 then c.instret else c.instret + 1 })) := by
  rw [stepCore_of_running _ hr hh hi, runInstr_scalar hf (by simp [isVectorOp, ho]), execScalar_addi _ _ _ _ ho h3,
    settle_setXs _ _ _ _ _ _ (setsInstret_of_not_system (by omega))]
  rfl

theorem stepCore_of_long (ho : w % 128 = 0x7F) :
    stepCore s k false = bumpFree (updCore (fetchEffects s k 4) k (fun c => takeException c 2 (BitVec.ofNat 64 w))) := by
  rw [stepCore_of_running _ hr hh hi, runInstr_scalar hf (by simp [isVectorOp, ho]), execScalar_of_long _ _ _ _ ho]
  rfl

theorem stepCore_vsetivli (ho : w % 128 = 0x57) (h3 : iF3 w = 7) (h31 : bitAt w 31 = true) (h30 : bitAt w 30 = true)
    (hvs : vsOff (coreAt (fetchEffects s k 4) k) = false) {s1 : State}
    (hs1 : s1 = updVec (fetchEffects s k 4) k (fun v => setVl v (BitVec.ofNat 64 (fld w 20 10)) (some (iRs1 w)))) :
    stepCore s k true = bumpFree (updCore s1 k (fun c => { putX c (iRd w) (vecAt s1 k).vl with
      pc := (coreAt s k).pc + 4
      instret := if (coreAt s k).countInhibit.getLsbD 2 then c.instret else c.instret + 1 })) := by
  rw [stepCore_of_running _ hr hh hi, runInstr_vector hf (by simp [isVectorOp, ho]), execVector_vsetivli _ hvs ho h3 h31 h30, ← hs1,
    settle_setXs _ _ _ _ _ _ (setsInstret_of_not_system (by omega))]

end

/-- A core issues nothing in an idle cycle or out of service, and nothing while it does not run. -/
theorem stepCore_unless {s : State} {k : Nat} (vec : Bool) (h : tileIssues s k = false ∨ (tileAt s k).core.running = false) :
    (if tileIssues s k then stepCore s k vec else s) = s := by
  rcases h with h | h
  · simp [h]
  · simp [stepCore_of_not_running vec h]

theorem exec_coreInstruction (cd : Fin 16) (t : Fin 64) (s : State) :
    exec (.coreInstruction cd t) s = .next (if tileIssues s (tkey cd t) then stepCore s (tkey cd t) false else s) := rfl

theorem exec_vectorInstruction (cd : Fin 16) (t : Fin 64) (s : State) :
    exec (.vectorInstruction cd t) s = .next (if tileIssues s (tkey cd t) then stepCore s (tkey cd t) true else s) := rfl

/-- Settles O6: the fetch names the unit the four bytes are for, one arm of that unit's dispatch gives their result, and `settle` retires
or traps. -/
theorem programsRun : Obligations.ProgramsRun := by
  refine ⟨fun cd t s => ⟨fun h => ?_, fun h => ⟨fun hr hh hi => ⟨fun w hf ho h3 => ?_, fun w hf ho => ?_⟩, fun hn => ?_⟩⟩,
    fun cd t s => ⟨fun h => ?_, fun h => ⟨fun hr hh hi w hf ho h3 h31 h30 hvs s1 hs1 => ?_, fun hn => ?_⟩⟩⟩
  · rw [exec_coreInstruction, stepCore_unless _ (.inl h)]
  · rw [exec_coreInstruction, if_pos h, stepCore_addi hr hh hi hf ho h3]
  · rw [exec_coreInstruction, if_pos h, stepCore_of_long hr hh hi hf ho]
  · rw [exec_coreInstruction, stepCore_unless _ (.inr hn)]
  · rw [exec_vectorInstruction, stepCore_unless _ (.inl h)]
  · rw [exec_vectorInstruction, if_pos h, stepCore_vsetivli hr hh hi hf ho h3 h31 h30 hvs hs1]
    refine ⟨_, rfl, by simp, by simp, fun hrd => ?_, rfl, rfl⟩
    rw [coreAt_bumpFree, coreAt_updCore]
    exact xAt_putX_same _ _ hrd
  · rw [exec_vectorInstruction, stepCore_unless _ (.inr hn)]

end Sys2Proof.Machine
end

section
/-! A cell of an integer accumulator: one further k, and all of them from zero (R54). -/
namespace Sys2Proof.Machine

theorem stepInt_eq (c : BitVec 32) (p x : Int) (hx : x = c.toInt + p) :
    stepInt c p = (BitVec.ofInt 32 (max (-2147483648) (min 2147483647 x)), { intSat := decide (x < -2147483648 ∨ 2147483647 < x) }) := by
  subst hx
  simp only [stepInt]
  split
  · rw [min_eq_left (by omega), max_eq_right (by omega), decide_eq_true (by omega)]; rfl
  · split
    · rw [min_eq_right (by omega), max_eq_left (by omega), decide_eq_true (by omega)]; rfl
    · rw [min_eq_right (by omega), max_eq_right (by omega), decide_eq_false (by omega)]

theorem mmaInt_succ (rd : Nat → Byte) (d : Desc) (m n k : Nat) (c0 : BitVec 32) {c : BitVec 32} {f : QFlags}
    (h : mmaInt rd { d with k := k } m n c0 = (c, f)) :
    mmaInt rd { d with k := k + 1 } m n c0 =
      ((stepInt c (aInt rd d m k * bInt rd d k n)).1, f.or (stepInt c (aInt rd d m k * bInt rd d k n)).2) := by
  simp only [mmaInt, aInt, bInt] at h ⊢
  rw [List.range_succ, List.foldl_append, h]
  rfl

theorem QFlags.or_intSat (f : QFlags) (b : Bool) : f.or { intSat := b } = { f with intSat := f.intSat || b } := by
  simp [QFlags.or]

/-- A product of two INT8 elements is between -16,256 and 16,384. -/
theorem abs_int8_product_le (a b : Byte) : |a.toInt * b.toInt| ≤ 16384 := by
  have ha : |a.toInt| ≤ 128 := abs_le.2 ⟨by have := BitVec.le_toInt a; omega, by have := BitVec.toInt_lt (x := a); omega⟩
  have hb : |b.toInt| ≤ 128 := abs_le.2 ⟨by have := BitVec.le_toInt b; omega, by have := BitVec.toInt_lt (x := b); omega⟩
  calc |a.toInt * b.toInt| = |a.toInt| * |b.toInt| := abs_mul _ _
    _ ≤ 128 * 128 := mul_le_mul ha hb (abs_nonneg _) (by norm_num)

/-- The exact sum of the first `k` products of a cell. -/
def productSum (rd : Nat → Byte) (d : Desc) (m n k : Nat) : Int := ((List.range k).map (fun i => aInt rd d m i * bInt rd d i n)).sum

theorem productSum_succ (rd : Nat → Byte) (d : Desc) (m n k : Nat) :
    productSum rd d m n (k + 1) = productSum rd d m n k + aInt rd d m k * bInt rd d k n := by
  simp [productSum, List.range_succ]

theorem abs_productSum_le (rd : Nat → Byte) (d : Desc) (m n k : Nat) : |productSum rd d m n k| ≤ 16384 * k := by
  induction k with
  | zero => simp [productSum]
  | succ k ih =>
    have hp : |aInt rd d m k * bInt rd d k n| ≤ 16384 := abs_int8_product_le _ _
    rw [productSum_succ]
    have := abs_add_le (productSum rd d m n k) (aInt rd d m k * bInt rd d k n)
    push_cast
    omega

/-- From zero, up to 65,535 products never leave the INT32 range. -/
theorem mmaInt_from_zero (rd : Nat → Byte) (d : Desc) (m n k : Nat) (hk : k ≤ 65535) :
    mmaInt rd { d with k := k } m n 0 = (BitVec.ofInt 32 (productSum rd d m n k), {}) := by
  induction k with
  | zero => rfl
  | succ k ih =>
    have hb := abs_le.1 (abs_productSum_le rd d m n k)
    have hb' := abs_le.1 (abs_productSum_le rd d m n (k + 1))
    have hx : productSum rd d m n (k + 1) = (BitVec.ofInt 32 (productSum rd d m n k)).toInt + aInt rd d m k * bInt rd d k n := by
      rw [productSum_succ, BitVec.toInt_ofInt_eq_self (by norm_num) (by omega) (by omega)]
    rw [mmaInt_succ rd d m n k 0 (ih (by omega)), stepInt_eq _ _ _ hx, min_eq_right (by omega), max_eq_right (by omega),
      decide_eq_false (by omega)]
    rfl

/-- Settles O59: by one step of the fold over k, and by induction on k with the bound of 16,384 on each product. -/
theorem integerCellsExact : Obligations.IntegerCellsExact := by
  refine ⟨fun rd d m n k c0 c f h x hx => ?_, fun rd d m n hk => ?_⟩
  · rw [mmaInt_succ rd d m n k c0 h, stepInt_eq _ _ x hx, QFlags.or_intSat]
  · have hb := abs_le.1 (abs_productSum_le rd d m n d.k)
    have h : mmaInt rd d m n 0 = (BitVec.ofInt 32 (productSum rd d m n d.k), {}) := mmaInt_from_zero rd d m n d.k hk
    rw [h]
    exact ⟨BitVec.toInt_ofInt_eq_self (by norm_num) (by omega) (by omega), rfl⟩

end Sys2Proof.Machine
end

section
/-! The matrix engine starts a descriptor (R42, R45, R46). -/
namespace Sys2Proof.Machine

theorem descError_of_no_errors {free : Nat} {d : Desc} {acc : AccKind} (h : descErrors d acc = []) : descError free d acc = none := by
  simp only [descError, h]

/-- A descriptor that passes every check runs on the tile that its reads left, after the earlier descriptors it must follow. -/
theorem startDesc_of_starts {s : State} {k op : Nat} (h : EngineStarts s k op) :
    startDesc op k s = bumpFree (updTile (afterReads s k) k (fun y =>
      runDesc s.freeCtr s.ticks (completeWhere (mustEnd (nextDesc s k)) y) (nextDesc s k))) := by
  obtain ⟨hissue, hmay, hentry, rfl, hsync, herr, hpoison⟩ := h
  have hnamed : ¬((nextDesc s k).op ≤ 5 ∧ (nextDesc s k).op ≠ (nextDesc s k).op) := fun h => h.2 rfl
  have hfree : ¬((nextDesc s k).sync = true ∧ (!(tileAt s k).mq.started.isEmpty) = true) := by
    rintro ⟨h1, h2⟩
    simp [hsync h1] at h2
  have hok := descError_of_no_errors (free := s.freeCtr) herr
  unfold nextDesc descReads at *
  simp only [startDesc, hissue, hmay, hentry, Bool.not_true, Bool.or_self, Bool.false_eq_true, if_false, if_neg hnamed, if_neg hfree, hok, hpoison]
  rfl

/-- Where no started descriptor must end first, the tile is as it was. -/
theorem completeWhere_of_none {sel : Started → Bool} (t : Tile) (h : ∀ x, sel x = false) : completeWhere sel t = t := by
  have hf : t.mq.started.filter sel = [] := List.filter_eq_nil_iff.2 (by simp [h])
  simp only [completeWhere, hf, h, List.flatMap_nil, List.foldl_nil, Bool.false_eq_true, if_false, List.map_id']

/-- A descriptor that names no accumulator and is not on the transfer path follows none. -/
theorem mustEnd_of_free {d : Desc} (h : d.op = 0 ∨ d.op = 5) (x : Started) : mustEnd d x = false := by
  rcases h with h | h <;> simp [mustEnd, onTransferPath, accNamed, h]

section
variable (ctr now : Nat) (t : Tile) {d : Desc}

theorem runDesc_of_free (h : d.op = 0 ∨ d.op = 5) : runDesc ctr now t d = { t with mq := startedQueue ctr t.mq d [] } := by
  unfold runDesc
  rw [if_neg (by omega)]
  rcases h with h | h <;> simp only [startedQueue, h]

/-- NOP and MARK follow no earlier descriptor and only join the started ones. -/
theorem runDesc_completeWhere_of_free (h : d.op = 0 ∨ d.op = 5) :
    runDesc ctr now (completeWhere (mustEnd d) t) d = { t with mq := startedQueue ctr t.mq d [] } := by
  rw [completeWhere_of_none t (mustEnd_of_free h), runDesc_of_free ctr now t h]

theorem runDesc_accZero (h : d.op = 4) :
    runDesc ctr now t d = { t with mq := startedQueue ctr { t.mq with accs := tset (fun _ => {}) t.mq.accs d.acc {} } d [] } := by
  unfold runDesc
  rw [if_neg (by omega)]
  simp only [startedQueue, h]
  rfl

theorem runDesc_mma (h : d.op = 1) :
    runDesc ctr now t d = { t with mq := startedQueue ctr (setFlags (setAcc t.mq d.acc (mmaAcc (seenByte now t) d (accOf t.mq d.acc)).1)
      (mmaAcc (seenByte now t) d (accOf t.mq d.acc)).2) d [] } := by
  unfold runDesc
  rw [if_neg (by omega)]
  simp only [startedQueue, h]
  rfl

theorem runDesc_accLoad (h : d.op = 2) :
    runDesc ctr now t d = { t with mq := startedQueue ctr (setFlags (setAcc t.mq d.acc (accLoad (storeByte t.store) d).1)
      (accLoad (storeByte t.store) d).2) d [] } := by
  unfold runDesc
  rw [if_neg (by omega)]
  simp only [startedQueue, h]
  rfl

theorem runDesc_accStore {o : StoreOut} (h : d.op = 3) (ho : o = accStore d (accOf t.mq d.acc) t.mq.srSeed t.mq.srPos) :
    runDesc ctr now t d = { t with mq := startedQueue ctr { setFlags t.mq o.flags with srSeed := o.seed, srPos := o.pos } d o.writes } := by
  subst ho
  unfold runDesc
  simp only [startedQueue, h, if_true]
  rfl

end

/-- Settles O1: `startDesc` in a state where the engine starts, then the one branch of `runDesc` for each operation. -/
theorem engineStartsDescriptors : Obligations.EngineStartsDescriptors := by
  refine ⟨fun cd t s => ⟨fun h => ?_, fun h => ?_, fun h => ?_⟩, fun cd t s => ⟨fun h => ?_, fun h => ?_, fun h x o hx ho => ?_⟩⟩
  all_goals
    refine congrArg Host.Outcome.next ((startDesc_of_starts h).trans (congrArg bumpFree (congrArg (setTile _ _) ?_)))
    obtain ⟨-, -, -, hop, -⟩ := h
  · exact runDesc_completeWhere_of_free _ _ _ (.inl hop)
  · exact runDesc_completeWhere_of_free _ _ _ (.inr hop)
  · exact runDesc_accZero _ _ _ hop
  · exact runDesc_mma _ _ _ hop
  · exact runDesc_accLoad _ _ _ hop
  · subst hx
    exact runDesc_accStore _ _ _ hop ho

end Sys2Proof.Machine
end

section
/-! Writes of the queue registers (R44, R45, R49, R58). -/
namespace Sys2Proof.Machine

/-- Bits 19:12 of a word, with twelve zeros below them. -/
theorem base_bits (v : Word) : BitVec.ofNat 20 (fld v.toNat 12 8 * 4096) = v.extractLsb' 12 8 ++ (0 : BitVec 12) := by
  apply BitVec.eq_of_toNat_eq
  rw [BitVec.toNat_append, BitVec.toNat_ofNat, BitVec.extractLsb'_toNat]
  simp only [fld, BitVec.ofNat_eq_ofNat, BitVec.toNat_ofNat, Nat.zero_mod, Nat.or_zero, Nat.shiftLeft_eq]
  omega

theorem writeBase_of_empty {t : Tile} (v : Word) (h : t.mq.done = t.mq.tail) :
    writeBase t v = { t with mq := { t.mq with base := v.extractLsb' 12 8 ++ (0 : BitVec 12) } } := by
  rw [writeBase, if_pos h, base_bits]

theorem writeBase_of_busy {t : Tile} (v : Word) (h : t.mq.done ≠ t.mq.tail) : writeBase t v = t := if_neg h

section
variable (ctr : Nat) {t : Tile} {v : Word}

theorem writeTail_of_legal (h : t.mq.tail ≤ v ∧ v.toNat ≤ t.mq.head.toNat + 64) :
    writeTail ctr t v = { t with mq := { t.mq with
      tail := v
      published := List.foldl (fun p i => tput p i (wordsOf 8 (storeRead t.store (t.mq.base.toNat + 64 * i) 64)))
        t.mq.published ((List.range (v - t.mq.tail).toNat).map (fun j => (t.mq.tail.toNat + j) % 64)) } } :=
  if_pos h

theorem writeTail_of_illegal (h : ¬(t.mq.tail ≤ v ∧ v.toNat ≤ t.mq.head.toNat + 64)) (hh : t.mq.halted = false) (hp : t.mq.haltPending = none) :
    writeTail ctr t v = settleHalt { t with mq := { t.mq with haltPending := some (0x09, 0) } } := by
  unfold writeTail
  rw [if_neg h, if_neg (by simp [hh, hp])]

/-- A queue that is halted, or halting, keeps the error it has (log 104). -/
theorem writeTail_of_halting (h : ¬(t.mq.tail ≤ v ∧ v.toNat ≤ t.mq.head.toNat + 64)) (hh : t.mq.halted = true ∨ t.mq.haltPending ≠ none) :
    writeTail ctr t v = t := by
  unfold writeTail
  rw [if_neg h, if_pos (by simpa [Option.isSome_iff_ne_none] using hh)]

end

/-- The bits of MQ_CTRL with CLEAR set beside them. -/
theorem ctrl_or_clear (v : Word) : (v ||| 2).getLsbD 0 = v.getLsbD 0 ∧ (v ||| 2).getLsbD 1 = true ∧ (v ||| 2).getLsbD 2 = v.getLsbD 2 ∧
    (v ||| 2).getLsbD 3 = v.getLsbD 3 ∧ (v ||| 2).getLsbD 4 = v.getLsbD 4 := by
  simp

/-- The bits of MQ_CTRL with ABORT set beside them. -/
theorem ctrl_or_abort (v : Word) : (v ||| 4).getLsbD 0 = v.getLsbD 0 ∧ (v ||| 4).getLsbD 1 = v.getLsbD 1 ∧ (v ||| 4).getLsbD 2 = true ∧
    (v ||| 4).getLsbD 3 = v.getLsbD 3 ∧ (v ||| 4).getLsbD 4 = v.getLsbD 4 := by
  simp

theorem writeCtrl_clear_of_halted {t : Tile} (v : Word) (h : t.mq.halted = true) :
    writeCtrl t (v ||| 2) = { t with mq := { t.mq with
      enable := v.getLsbD 0, notifyIe := v.getLsbD 3, errorIe := v.getLsbD 4, head := t.mq.tail, done := t.mq.tail,
      halted := false, error := 0, aborted := false, aborting := t.mq.aborting || v.getLsbD 2 } } := by
  obtain ⟨h0, h1, h2, h3, h4⟩ := ctrl_or_clear v
  cases hab : v.getLsbD 2 <;> simp only [writeCtrl, clearQueue, h, h0, h1, h2, h3, h4, hab, if_true, Bool.false_eq_true, if_false,
    Bool.or_false, Bool.or_true]

theorem writeCtrl_clear_of_running {t : Tile} (v : Word) (h : t.mq.halted = false) :
    writeCtrl t (v ||| 2) = { t with mq := { t.mq with
      enable := v.getLsbD 0, notifyIe := v.getLsbD 3, errorIe := v.getLsbD 4, aborted := false, aborting := t.mq.aborting || v.getLsbD 2 } } := by
  obtain ⟨h0, h1, h2, h3, h4⟩ := ctrl_or_clear v
  cases hab : v.getLsbD 2 <;> simp only [writeCtrl, clearQueue, h, h0, h1, h2, h3, h4, hab, if_true, Bool.false_eq_true, if_false,
    Bool.or_false, Bool.or_true]

theorem writeCtrl_abort (t : Tile) {v : Word} (h : v.getLsbD 1 = false) :
    writeCtrl t (v ||| 4) = { t with mq := { t.mq with
      enable := v.getLsbD 0, notifyIe := v.getLsbD 3, errorIe := v.getLsbD 4, aborting := true } } := by
  obtain ⟨h0, h1, h2, h3, h4⟩ := ctrl_or_abort v
  simp only [writeCtrl, h, h0, h1, h2, h3, h4, if_true, Bool.false_eq_true, if_false]

/-- Setting CLEAR where it stands changes nothing. -/
theorem or_clear_of_set {w : Word} (h : w.getLsbD 1 = true) : w ||| 2 = w := by
  have h2 : (2 : Word) = BitVec.twoPow 64 1 := by decide
  refine BitVec.eq_of_getLsbD_eq fun i _ => ?_
  rw [BitVec.getLsbD_or, h2, BitVec.getLsbD_twoPow]
  by_cases hi : i = 1
  · simp [hi, h]
  · simp [Ne.symm hi]

theorem finishAbort_of_ended {t : Tile} (ha : t.mq.aborting = true) (hs : t.mq.started = []) :
    finishAbort t = { t with mq := { t.mq with head := t.mq.tail, done := t.mq.tail, aborted := true, aborting := false } } := by
  unfold finishAbort
  rw [if_pos (by simp [ha, hs])]

theorem finishAbort_unless {t : Tile} (h : t.mq.aborting = false ∨ t.mq.started ≠ []) : finishAbort t = t := by
  unfold finishAbort
  rw [if_neg (by simpa [or_iff_not_imp_left] using h)]

/-- Settles O2: each register's write is one update of its tile, by the branch its condition names. -/
theorem queueRegistersAndControl : Obligations.QueueRegistersAndControl := by
  refine ⟨fun cd t v s hl => ⟨fun h => ?_, fun h => ?_, fun h => ?_, fun h hh hp => ?_, fun h hh => ?_, ?_⟩,
    fun cd t v s hl => ⟨fun h => ?_, fun h => ?_, fun h => ?_, fun h => ?_, fun ha hs => ?_, fun h => ?_⟩⟩
  · exact congrArg Host.Outcome.next (onTile_of_eq hl (writeBase_of_empty v h))
  · exact congrArg Host.Outcome.next (onTile_of_fixed hl (writeBase_of_busy v h))
  · exact congrArg (fun u => Host.Outcome.next (bumpFree u)) (onTile_of_eq hl (writeTail_of_legal _ h))
  · exact congrArg (fun u => Host.Outcome.next (bumpFree u)) (onTile_of_eq hl (writeTail_of_illegal _ h hh hp))
  · exact congrArg (fun u => Host.Outcome.next (bumpFree u)) (onTile_of_fixed hl (writeTail_of_halting _ h hh))
  · exact congrArg Host.Outcome.next (onTile_of_eq hl rfl)
  · exact congrArg Host.Outcome.next (onTile_of_eq hl (writeCtrl_clear_of_halted v h))
  · exact congrArg Host.Outcome.next (onTile_of_eq hl (writeCtrl_clear_of_running v h))
  · exact congrArg Host.Outcome.next (onTile_of_eq hl (writeCtrl_abort _ h))
  · exact congrArg (fun w => Host.Outcome.next (onTile (tkey cd t) (fun x => writeCtrl x w) s)) (or_clear_of_set ((ctrl_or_abort v).2.1.trans h)).symm
  · exact congrArg Host.Outcome.next (onTile_of_eq hl (finishAbort_of_ended ha hs))
  · exact congrArg Host.Outcome.next (onTile_of_fixed hl (finishAbort_unless h))

end Sys2Proof.Machine
end

section
/-! A descriptor retires (R46 to R48): what its writes change of a tile. -/
namespace Sys2Proof.Machine

theorem markWrite_bytes_cleared (st : Store) (a len : Nat) (p : Bool) :
    (markWrite st a len p).bytes = st.bytes ∧ (markWrite st a len p).cleared = st.cleared := by
  unfold markWrite
  refine List.foldlRecOn (motive := fun u : Store => u.bytes = st.bytes ∧ u.cleared = st.cleared) _ _ ⟨rfl, rfl⟩ fun u hu l _ => ?_
  split
  · exact hu
  · split <;> exact hu

/-- The bytes that cells leave depend on the bytes before and on whether the store is cleared. -/
theorem storePutCells_bytes_congr (ws : List Host.Cell) {st st' : Store} (hb : st.bytes = st'.bytes) (hc : st.cleared = st'.cleared) :
    (storePutCells st ws).bytes = (storePutCells st' ws).bytes := by
  induction ws generalizing st st' with
  | nil => exact hb
  | cons w ws ih => exact ih (by simp only [storePut, hb, hc]) hc

/-- A write of the tile store changes the store and at most the reservation of the core (R26). -/
theorem tileWrite_eq (t : Tile) (a : Nat) (bs : List Byte) (p : Bool) : ∃ r,
    tileWrite t false a bs p = { t with store := storeWrite t.store a bs p, core := { t.core with reservation := r } } := by
  simp only [tileWrite, withStore, storeOf, Bool.false_eq_true, if_false]
  split
  · split
    · exact ⟨none, rfl⟩
    · exact ⟨_, rfl⟩
  · exact ⟨_, rfl⟩

/-- Cells written one by one: the store's bytes are those of `storePutCells`, and nothing else changes but marks, errors and the reservation. -/
theorem foldl_tileWrite_eq (ws : List Host.Cell) (t : Tile) : ∃ st r,
    ws.foldl (fun t c => tileWrite t false c.1 [c.2] false) t = { t with store := st, core := { t.core with reservation := r } } ∧
    st.bytes = (storePutCells t.store ws).bytes := by
  induction ws generalizing t with
  | nil => exact ⟨t.store, t.core.reservation, rfl, rfl⟩
  | cons c ws ih =>
    obtain ⟨r, hr⟩ := tileWrite_eq t c.1 [c.2] false
    obtain ⟨st, r', hfold, hst⟩ := ih { t with store := storeWrite t.store c.1 [c.2] false, core := { t.core with reservation := r } }
    obtain ⟨hb, hc⟩ := markWrite_bytes_cleared (storePut t.store c.1 c.2) c.1 1 false
    rw [List.foldl_cons, hr]
    exact ⟨st, r', hfold, hst.trans (storePutCells_bytes_congr ws hb hc)⟩

/-- The tile as its oldest started descriptor leaves it: its writes done, MQ_DONE past it and interrupt 16 raised where it asks and may. -/
theorem retireDesc_of_cons {t : Tile} {d : Started} {rest : List Started} (h : t.mq.started = d :: rest) : ∃ st r,
    retireDesc t = settleHalt { t with
      mq := { t.mq with started := rest, done := t.mq.done + 1 }, store := st
      core := { t.core with reservation := r, mip := t.core.mip ||| (if d.notify && t.mq.notifyIe then 1 <<< 16 else 0) } } ∧
    st.bytes = (storePutCells t.store d.writes).bytes := by
  obtain ⟨st, r, hfold, hst⟩ := foldl_tileWrite_eq d.writes { t with mq := { t.mq with started := rest, done := t.mq.done + 1 } }
  refine ⟨st, r, ?_, hst⟩
  simp only [retireDesc, h, hfold]
  cases d.notify && t.mq.notifyIe
  · exact congrArg (fun m => settleHalt { t with
      mq := { t.mq with started := rest, done := t.mq.done + 1 }, store := st, core := { t.core with reservation := r, mip := m } })
      (BitVec.or_zero (x := t.core.mip)).symm
  · rfl

theorem retireDesc_of_nil {t : Tile} (h : t.mq.started = []) : retireDesc t = t := by simp only [retireDesc, h]

theorem exec_descriptorRetire_live {s : State} {cd : Fin 16} {t : Fin 64} (h : tileLive s (tkey cd t) = true) :
    exec (.descriptorRetire cd t) s = .next (setTile s (tkey cd t) (retireDesc (tileAt s (tkey cd t)))) :=
  congrArg Host.Outcome.next (if_neg (by simp [h]))

/-- Settles O3: `retireDesc` by whether a descriptor is started, its writes by induction on them. -/
theorem descriptorRetires : Obligations.DescriptorRetires := by
  refine fun cd t s d rest hl => ⟨fun h => ?_, fun h => ?_⟩
  · obtain ⟨st, r, hret, hst⟩ := retireDesc_of_cons h
    exact ⟨_, (exec_descriptorRetire_live hl).trans (congrArg (fun y => Host.Outcome.next (setTile s _ y)) hret), rfl, hst, rfl, rfl, rfl, rfl⟩
  · rw [exec_descriptorRetire_live hl, retireDesc_of_nil h]

end Sys2Proof.Machine
end

section
/-! Copies of the DMA unit (R29). -/
namespace Sys2Proof.Machine

theorem exec_dmaLen_live {s : State} {cd : Fin 16} {t : Fin 64} (v : Word) (h : tileLive s (tkey cd t) = true) :
    exec (.dmaLen cd t v) s = .next (updTile s (tkey cd t) (fun x => writeDmaLen x v)) :=
  congrArg Host.Outcome.next (if_pos h)

theorem exec_dmaCopyDone_live {s : State} {cd : Fin 16} {t : Fin 64} (h : tileLive s (tkey cd t) = true) :
    exec (.dmaCopyDone cd t) s = .next (doCopyDone s (tkey cd t)) :=
  congrArg Host.Outcome.next (if_pos h)

section
variable {t : Tile} (v : Word)

theorem writeDmaLen_of_full (h : 8 ≤ t.dma.queue.length) : writeDmaLen t v = t := if_pos h

theorem writeDmaLen_of_legal (h : t.dma.queue.length < 8) (hc : copyLegal t.dma.src.toNat t.dma.dst.toNat (v.extractLsb' 0 26).toNat = true)
    (hs : touchesOut t t.dma.src.toNat (v.extractLsb' 0 26).toNat = false) (hd : touchesOut t t.dma.dst.toNat (v.extractLsb' 0 26).toNat = false) :
    writeDmaLen t v = { t with dma := { t.dma with
      queue := t.dma.queue ++ [some (t.dma.src.toNat, t.dma.dst.toNat, (v.extractLsb' 0 26).toNat)] } } := by
  unfold writeDmaLen
  rw [if_neg (by omega)]
  simp only [hc, hs, hd, Bool.not_false, Bool.not_true, Bool.and_self, Bool.or_false, if_true]

theorem writeDmaLen_of_illegal (h : t.dma.queue.length < 8)
    (hc : copyLegal t.dma.src.toNat t.dma.dst.toNat (v.extractLsb' 0 26).toNat = false ∨
      touchesOut t t.dma.src.toNat (v.extractLsb' 0 26).toNat = true ∨ touchesOut t t.dma.dst.toNat (v.extractLsb' 0 26).toNat = true) :
    writeDmaLen t v = { t with dma := { t.dma with bad := true, queue := t.dma.queue ++ [none] } } := by
  have hok : (copyLegal t.dma.src.toNat t.dma.dst.toNat (v.extractLsb' 0 26).toNat && !touchesOut t t.dma.src.toNat (v.extractLsb' 0 26).toNat &&
      !touchesOut t t.dma.dst.toNat (v.extractLsb' 0 26).toNat) = false := by
    generalize (v.extractLsb' 0 26).toNat = len at hc ⊢
    rcases hc with hc | hc | hc <;> simp [hc]
  unfold writeDmaLen
  rw [if_neg (by omega)]
  simp only [hok, Bool.not_false, Bool.or_true, Bool.false_eq_true, if_false]

end

theorem doCopyDone_of_nil {s : State} {k : Nat} (h : (tileAt s k).dma.queue = []) : doCopyDone s k = s := by simp only [doCopyDone, h]

theorem doCopyDone_of_empty {s : State} {k : Nat} {rest : List (Option (Nat × Nat × Nat))} (h : (tileAt s k).dma.queue = none :: rest) :
    doCopyDone s k = updTile s k (fun x => { x with dma := { x.dma with queue := rest, done := x.dma.done + 1 } }) := by
  simp only [doCopyDone, h]
  rfl

theorem doCopyDone_of_copy {s s' : State} {k src dst len : Nat} {rest : List (Option (Nat × Nat × Nat))} {a b : Bool × Nat}
    (h : (tileAt s k).dma.queue = some (src, dst, len) :: rest) (ha : coreRange src len = some a) (hb : coreRange dst len = some b)
    (hs' : s' = readEffects (updTile s k (fun x => { x with dma := { x.dma with queue := rest, done := x.dma.done + 1 } })) k a.1 a.2 len) :
    doCopyDone s k = bumpFree (updTile s' k (fun x =>
      List.foldl (copyLine s.freeCtr s.ticks x a b (overlap src dst len)) x (List.range (len / 64)))) := by
  subst hs'
  simp only [doCopyDone, h, ha, hb]
  rfl

/-- Settles O4: the branches of `writeDmaLen` and of `doCopyDone`. -/
theorem dmaCopies : Obligations.DmaCopies := by
  refine fun cd t v s hl => ⟨fun h hc hs hd => ?_, fun h hc => ?_, fun h => ?_, fun h => ?_, fun rest h => ?_,
    fun src dst len rest a b h ha hb s' hs' => ?_⟩
  · exact (exec_dmaLen_live v hl).trans (congrArg Host.Outcome.next (updTile_congr (writeDmaLen_of_legal v h hc hs hd)))
  · exact (exec_dmaLen_live v hl).trans (congrArg Host.Outcome.next (updTile_congr (writeDmaLen_of_illegal v h hc)))
  · exact (exec_dmaLen_live v hl).trans (congrArg Host.Outcome.next (updTile_of_fixed (writeDmaLen_of_full v h)))
  · rw [exec_dmaCopyDone_live hl, doCopyDone_of_nil h]
  · rw [exec_dmaCopyDone_live hl, doCopyDone_of_empty h]
  · rw [exec_dmaCopyDone_live hl, doCopyDone_of_copy h ha hb hs']

end Sys2Proof.Machine
end

section
/-! Writes of the plain tile CSRs (R44, R206, R261). -/
namespace Sys2Proof.Machine

theorem exec_csrWrite_live {s : State} {cd : Fin 16} {t : Fin 64} (c : Fin 32) (v : Word) (h : tileLive s (tkey cd t) = true) :
    exec (.csrWrite cd t c v) s = .next (customWrite s (tkey cd t) (0x800 + c.val) v) :=
  congrArg Host.Outcome.next (if_pos h)

/-- The CSRs whose write only stores or clears, and those that are read-only. -/
def plainCsrs : List Nat := [2, 3, 4, 6, 8, 9, 11, 13, 14, 15, 18, 19, 20, 23, 24, 27, 28, 29]

theorem customWrite_of_plain (s : State) (k : Nat) {c : Nat} (v : Word) (h : c ∈ plainCsrs) :
    customWrite s k (0x800 + c) v = updTile s k (fun t => plainCsr t (0x800 + c) v) := by
  simp only [plainCsrs, List.mem_cons, List.not_mem_nil, or_false] at h
  rcases h with rfl | rfl | rfl | rfl | rfl | rfl | rfl | rfl | rfl | rfl | rfl | rfl | rfl | rfl | rfl | rfl | rfl | rfl <;> rfl

theorem plainCsr_of_readOnly (t : Tile) {c : Nat} (v : Word) (h : c ∈ [2, 3, 4, 11, 15, 19, 23, 28]) : plainCsr t (0x800 + c) v = t := by
  simp only [List.mem_cons, List.not_mem_nil, or_false] at h
  rcases h with rfl | rfl | rfl | rfl | rfl | rfl | rfl | rfl <;> rfl

/-- Settles O5: a plain CSR's write is `plainCsr` on its tile, which each number's arm gives. -/
theorem tileCsrWrites : Obligations.TileCsrWrites := by
  intro cd t v s hl
  have hw : ∀ c : Fin 32, c.val ∈ plainCsrs → exec (.csrWrite cd t c v) s = .next (updTile s (tkey cd t) (fun x => plainCsr x (0x800 + c.val) v)) :=
    fun c hc => (exec_csrWrite_live c v hl).trans (congrArg Host.Outcome.next (customWrite_of_plain s _ v hc))
  refine ⟨hw 8 (by decide), hw 9 (by decide), hw 14 (by decide), hw 18 (by decide), hw 20 (by decide), hw 24 (by decide), hw 27 (by decide),
    hw 29 (by decide), hw 6 (by decide), hw 13 (by decide), fun c hc => ?_⟩
  exact (hw c (by revert c; decide)).trans (congrArg Host.Outcome.next (updTile_of_fixed (plainCsr_of_readOnly _ v hc)))

end Sys2Proof.Machine
end

section
/-! What the module holds after reset. -/
namespace Sys2Proof.Machine

/-- No tile is listed after reset. -/
theorem tileAt_reset (k : Nat) : tileAt State.reset k = tileReset k := rfl

/-- Settles O53: nothing is listed after reset, so every table answers its default. -/
theorem resetValues : Obligations.ResetValues := by
  refine ⟨rfl, by decide, rfl, ?_, rfl, rfl, rfl, rfl⟩
  rintro n t _ _ rfl rfl
  rw [tileAt_reset]
  exact ⟨rfl, rfl, rfl, rfl, rfl, rfl, rfl, rfl, rfl, rfl, rfl, rfl, rfl, rfl, rfl, rfl, rfl, fun _ => rfl, rfl, rfl, rfl, rfl, rfl⟩

end Sys2Proof.Machine
end

section
/-! Flow transfers: a write of DMA_FLOW by the kind of its flow, and the oldest transfer's completion (R201 to R206). -/
namespace Sys2Proof.Machine

theorem exec_dmaFlow_live {s : State} {cd : Fin 16} {t : Fin 64} (v : Word) (h : tileLive s (tkey cd t) = true) :
    exec (.dmaFlow cd t v) s = .next (doDmaFlow s (tkey cd t) (v.toNat % 65536)) :=
  congrArg Host.Outcome.next (if_pos h)

theorem exec_flowTransferComplete_live {s : State} {cd : Fin 16} {t : Fin 64} (flow : BitVec 16) (h : tileLive s (tkey cd t) = true) :
    exec (.flowTransferComplete cd t flow) s = .next (doXferComplete s (tkey cd t) flow.toNat) := by
  simp only [tileLive, tkey_div, Bool.and_eq_true, beq_iff_eq, Bool.not_eq_true'] at h
  exact congrArg Host.Outcome.next (if_pos ⟨h.1, by simp [h.2]⟩)

theorem doDmaFlow_of_no_part {s : State} {k flow : Nat} (h : partOf s k flow = none) :
    doDmaFlow s k flow = updTile s k (fun x => { x with dma := { x.dma with bad := true } }) := by
  simp only [doDmaFlow, h]

section
variable {s : State} {k flow : Nat} {d : FlowDesc} {p : Part} (hp : partOf s k flow = some (d, p))
include hp

theorem doDmaFlow_of_receiver (h4 : d.kind = 4) (hr : sendReceives s k d p = true) : doDmaFlow s k flow = startRecv s k d p := by
  simp only [doDmaFlow, hp]
  rw [if_pos ⟨h4, hr⟩]

theorem doDmaFlow_of_full (hr : d.kind = 4 → sendReceives s k d p = false) (hl : 4 ≤ (flowSt (tileAt s k) flow).open_.length) : doDmaFlow s k flow = s := by
  simp only [doDmaFlow, hp]
  rw [if_neg (by rintro ⟨h4, h⟩; simp [hr h4] at h), if_pos hl]

variable (hl : (flowSt (tileAt s k) flow).open_.length < 4)
include hl

theorem doDmaFlow_of_send (h : d.kind = 4) (hr : sendReceives s k d p = false) :
    doDmaFlow s k flow = startSend s k d p (newXfer (flowSt (tileAt s k) flow).begun) := by
  simp only [doDmaFlow, hp]
  rw [if_neg (by simp [hr]), if_neg (by omega)]
  simp only [h]

theorem doDmaFlow_of_reduce (h : d.kind = 5) : doDmaFlow s k flow = startReduce s k d p (newXfer (flowSt (tileAt s k) flow).begun) := by
  simp only [doDmaFlow, hp]
  rw [if_neg (by omega), if_neg (by omega)]
  simp only [h]

/-- A return flow starts nothing of its own. -/
theorem doDmaFlow_of_return (h : d.kind = 8) : doDmaFlow s k flow = updTile s k (fun x => { x with dma := { x.dma with bad := true } }) := by
  simp only [doDmaFlow, hp]
  rw [if_neg (by omega), if_neg (by omega)]
  simp only [h]

variable (h4 : d.kind ≠ 4) (h5 : d.kind ≠ 5) (h8 : d.kind ≠ 8)
include h4 h5 h8

theorem doDmaFlow_of_no_region (h : regionOf s d.region = none) :
    doDmaFlow s k flow = beginXfer s k flow { newXfer (flowSt (tileAt s k) flow).begun with status := 2, reqDone := true } := by
  simp only [doDmaFlow, hp]
  rw [if_neg (by omega), if_neg (by omega)]
  simp only [h]

/-- A flow with a region: refused past its end, and else remote or local as the region is. -/
theorem doDmaFlow_of_region {r : Resolved} (h : regionOf s d.region = some r) :
    doDmaFlow s k flow =
      if xferOffset p (newXfer (flowSt (tileAt s k) flow).begun).n + 64 * p.lines > r.size then
        beginXfer s k flow { newXfer (flowSt (tileAt s k) flow).begun with status := 2, reqDone := true }
      else if r.remote then startRemote s k d p r (newXfer (flowSt (tileAt s k) flow).begun)
      else startLocal s k d p r (newXfer (flowSt (tileAt s k) flow).begun) := by
  simp only [doDmaFlow, hp]
  rw [if_neg (by omega), if_neg (by omega)]
  simp only [h]

end

theorem startRecv_of_room {s : State} {k : Nat} {d : FlowDesc} (p : Part) {f : FlowSt} (hf : f = flowSt (tileAt s k) d.flow)
    (h : f.asked < f.count.toNat + 4) :
    startRecv s k d p = updTile s k (fun y =>
      setFlow (openRecv y d.flow p.outLines f.asked) d.flow { flowSt (openRecv y d.flow p.outLines f.asked) d.flow with asked := f.asked + 1 }) := by
  subst hf
  exact if_neg (by omega)

theorem startRecv_of_full {s : State} {k : Nat} {d : FlowDesc} (p : Part) {f : FlowSt} (hf : f = flowSt (tileAt s k) d.flow)
    (h : f.count.toNat + 4 ≤ f.asked) : startRecv s k d p = s := by
  subst hf
  exact if_pos h

section
variable {s : State} {k : Nat} {d : FlowDesc} {p : Part} {r : Resolved} {x : Transfer} {a : Nat} (ha : a = r.base + xferOffset p x.n)
include ha

theorem startLocal_of_refused (h : rangeRefused s a (64 * p.lines) = true) :
    startLocal s k d p r x = refuseAddr (beginXfer s k d.flow { x with status := 2, reqDone := true }) (k / 64) a := by
  subst ha
  exact if_pos h

variable (hn : rangeRefused s a (64 * p.lines) = false)
include hn

theorem startLocal_of_lost (h : rangeLost s a (64 * p.lines) = true) : startLocal s k d p r x = lostLocal s k d p a x := by
  subst ha
  unfold startLocal
  simp only [hn, h, Bool.false_eq_true, if_false, if_true]

variable (hm : rangeLost s a (64 * p.lines) = false)
include hm

/-- A load, packed or not, sends no line: only its request leaves. -/
theorem startLocal_of_load (h : d.kind = 1 ∨ d.kind = 3) :
    startLocal s k d p r x = bumpFree (issueReq (beginXfer s k d.flow { x with expect := 0, lastSlot := some s.ticks }) (k / 64) (k % 64)
      d.flow x.n true a p.lines (rangeStacks s a (64 * p.lines))) := by
  subst ha
  have hload : (d.kind == 1 || d.kind == 3) = true := by simpa using h
  have h7 : d.kind ≠ 7 := by omega
  unfold startLocal
  simp only [hn, hm, hload, h7, Bool.false_eq_true, if_false, if_true]
  rfl

theorem startLocal_of_store (h1 : d.kind ≠ 1) (h3 : d.kind ≠ 3) {fs : List Flit} (hfs : fs = bufFlits s k (bufLine p x.n) p.lines) :
    startLocal s k d p r x = bumpFree (issueReq
      (txWrite (beginXfer (bufEffects s k (bufLine p x.n) p.lines) k d.flow
        { x with expect := if d.kind = 7 then (recordsIn fs).length else 0, lastSlot := some s.ticks }) k d.flow (bufLine p x.n)
        (storeItems s (k % 64) (freeTag (dieAt s (k / 64))) a (d.kind == 7) fs)) (k / 64) (k % 64)
      d.flow x.n false a p.lines (if d.kind = 7 then [((mapAddr s a).getD (0, 0)).1] else rangeStacks s a (64 * p.lines))) := by
  subst ha hfs
  have hload : (d.kind == 1 || d.kind == 3) = false := by simp [h1, h3]
  unfold startLocal
  simp only [hn, hm, hload, Bool.false_eq_true, if_false]

end

section
variable {s : State} {k flow : Nat} {d : FlowDesc} {p : Part} {x : Transfer} {rest : List Transfer} (hp : partOf s k flow = some (d, p))
  (ho : (flowSt (tileAt s k) flow).open_ = x :: rest)
include hp ho

theorem doXferComplete_of_done (hd : xferDone d.kind p.outLines x = true)
    (hr : d.kind = 4 → sendReceives s k d p = true → (flowSt (tileAt s k) flow).count.toNat < (flowSt (tileAt s k) flow).asked) :
    doXferComplete s k flow = setTile (setDie s (k / 64) { dieAt s (k / 64) with
        reqs := (dieAt s (k / 64)).reqs.filter (fun r =>
          !(answered r && r.for_ == .transfer && r.tile.toNat == k % 64 && r.flow.toNat == flow && r.transfer == x.n)) }) k
      (let y := tileAt s k
       let z := setFlow y flow { flowSt y flow with count := (flowSt y flow).count + 1, status := (flowSt y flow).status ||| x.status, open_ := rest }
       if z.jobIe.getLsbD 0 then localIrq z 18 else z) := by
  have hstarted : (d.kind != 4 || !sendReceives s k d p ||
      decide ((flowSt (tileAt s k) flow).count.toNat < (flowSt (tileAt s k) flow).asked)) = true := by
    by_cases h4 : d.kind = 4
    · cases hrecv : sendReceives s k d p
      · simp
      · simp [hr h4 hrecv]
    · simp [h4]
  simp only [doXferComplete, hp, ho, hd, hstarted, Bool.and_self, if_true]

theorem doXferComplete_of_not_done (hd : xferDone d.kind p.outLines x = false) : doXferComplete s k flow = s := by
  simp only [doXferComplete, hp, ho, hd, Bool.false_and, Bool.false_eq_true, if_false]

end

/-- Settles O7: a write of DMA_FLOW by the tile's part, the place and the kind of the flow, a local transfer by its range, and a completion
by whether the transfer has its ending. -/
theorem flowTransfers : Obligations.FlowTransfers := by
  intro cd t v s hl
  simp only [exec_dmaFlow_live v hl]
  refine ⟨fun h => ?_, fun d p f hp h4 hr hf => ⟨fun h => ?_, fun h => ?_⟩, fun d p hp hr h => ?_, fun d p hp hr h x hx => ?_,
    fun flow d p x rest hp ho => ⟨fun hd hr => ?_, fun hd => ?_⟩⟩
  · rw [doDmaFlow_of_no_part h]
  · rw [doDmaFlow_of_receiver hp h4 hr, startRecv_of_room p hf h]
  · rw [doDmaFlow_of_receiver hp h4 hr, startRecv_of_full p hf h]
  · rw [doDmaFlow_of_full hp hr h]
  · subst hx
    refine ⟨fun hk => ?_, fun hk => ?_, fun hk => ?_, fun h4 h5 h8 => ⟨fun hn => ?_, fun r hreg => ?_⟩⟩
    · rw [doDmaFlow_of_send hp h hk (hr hk)]; rfl
    · rw [doDmaFlow_of_reduce hp h hk]
    · rw [doDmaFlow_of_return hp h hk]
    · rw [doDmaFlow_of_no_region hp h h4 h5 h8 hn]
    · rw [doDmaFlow_of_region hp h h4 h5 h8 hreg]
      refine ⟨fun hs => ?_, fun hs hrem => ?_, fun hs hrem a ha => ?_⟩
      · rw [if_pos hs]
      · rw [if_neg (by omega), if_pos hrem]
      · rw [if_neg (by omega), if_neg (by simp [hrem])]
        refine ⟨fun href => ?_, fun href hlost => ?_, fun href hlost => ⟨fun hk => ?_, fun h1 h3 fs hfs => ?_⟩⟩
        · rw [startLocal_of_refused ha href]
        · rw [startLocal_of_lost ha href hlost]
        · rw [startLocal_of_load ha href hlost hk]
        · rw [startLocal_of_store ha href hlost h1 h3 hfs]
  · rw [exec_flowTransferComplete_live flow hl, doXferComplete_of_done hp ho hd hr]
  · rw [exec_flowTransferComplete_live flow hl, doXferComplete_of_not_done hp ho hd]

end Sys2Proof.Machine
end

section
/-! Updates of many tiles in a row: they change the tiles alone, and where the update is idempotent each tile reached has it once. -/
namespace Sys2Proof.Machine

theorem foldl_updTile_eq {α : Type} (f : Tile → Tile) (key : State → α → Nat) (l : List α) (s : State) :
    ∃ ts, l.foldl (fun s x => updTile s (key s x) f) s = { s with tiles := ts } := by
  induction l generalizing s with
  | nil => exact ⟨s.tiles, rfl⟩
  | cons x l ih =>
    obtain ⟨ts, h⟩ := ih (updTile s (key s x) f)
    exact ⟨ts, h⟩

theorem tileAt_foldl_updTile {α : Type} {f : Tile → Tile} (hf : ∀ t, f (f t) = f t) {key : State → α → Nat}
    (hk : ∀ s j x, key (updTile s j f) x = key s x) (l : List α) (s : State) (j : Nat) :
    tileAt (l.foldl (fun s x => updTile s (key s x) f) s) j = if l.any (fun x => key s x == j) then f (tileAt s j) else tileAt s j := by
  induction l generalizing s with
  | nil => rfl
  | cons x l ih =>
    rw [List.foldl_cons, ih]
    simp only [hk, List.any_cons]
    by_cases hj : key s x = j
    · subst hj
      simp [hf]
    · simp [tileAt_updTile_ne s f (Ne.symm hj), hj]

end Sys2Proof.Machine
end

section
/-! The deep stores of a cache die at its wake (R76), and the port inflaters (R61 to R65). -/
namespace Sys2Proof.Machine

theorem tileAt_wakeDeep (s : State) (n j : Nat) :
    tileAt (wakeDeep s n) j = if (List.range 64).any (fun t => 64 * n + t == j) then
      { tileAt s j with deep := { cleared := s.wakeClears.contains n } } else tileAt s j := by
  unfold wakeDeep overNats
  generalize List.range 64 = ts
  exact tileAt_foldl_updTile (f := fun x => { x with deep := { cleared := s.wakeClears.contains n } }) (key := fun _ t => 64 * n + t)
    (fun _ => rfl) (fun _ _ _ => rfl) ts s j

theorem wakeDeep_eq (s : State) (n : Nat) : ∃ ts, wakeDeep s n = { s with tiles := ts } := by
  unfold wakeDeep overNats
  generalize List.range 64 = ts
  exact foldl_updTile_eq _ (fun _ t => 64 * n + t) ts s

theorem exec_deepStoreWake_of_waking {n : Fin 16} {s : State} (h : domAt s (domKD n.val) = .turningOn .off) :
    exec (.deepStoreWake n) s = .next (setDom (wakeDeep s n.val) (domKD n.val) .on) :=
  congrArg Host.Outcome.next (if_pos h)

theorem exec_packedUnit_on {s : State} {p : Fin 192} (h : meshOn s (p.val / 12) = true) : exec (.packedUnit p) s = .next (doPackedUnit s p.val) :=
  congrArg Host.Outcome.next (if_pos h)

theorem exec_unitCheckDone_on {s : State} {p : Fin 192} (h : meshOn s (p.val / 12) = true) :
    exec (.unitCheckDone p) s = .next (doUnitCheck s p.val) :=
  congrArg Host.Outcome.next (if_pos h)

theorem doPackedUnit_of_no_unit {s : State} {p : Nat}
    (h : (inflAt s p).buf.find? (fun x => (unitFlits (inflAt s p) x).length == 64) = none) : doPackedUnit s p = s := by
  simp only [doPackedUnit, h]

section Unit
variable {s s1 : State} {p : Nat} {x0 : InflFlit} {fs : List InflFlit}
  (h0 : (inflAt s p).buf.find? (fun x => (unitFlits (inflAt s p) x).length == 64) = some x0) (hfs : fs = unitFlits (inflAt s p) x0)
  (hs1 : s1 = setInfl s p { inflAt s p with buf := (inflAt s p).buf.filter (fun y => !fs.contains y) })
include h0 hfs hs1

theorem doPackedUnit_of_ended (hx : xferOf s (64 * (p / 12) + x0.tile) x0.flow x0.transfer = none) : doPackedUnit s p = s1 := by
  subst hfs hs1
  simp only [doPackedUnit, h0, hx]

variable {x : Transfer} {d : FlowDesc} {pt : Part} (hx : xferOf s (64 * (p / 12) + x0.tile) x0.flow x0.transfer = some x)
  (hp : partOf s (64 * (p / 12) + x0.tile) x0.flow = some (d, pt))
include hx hp

omit hfs hs1 in
theorem doPackedUnit_of_unplaced (hu : unitStart x (x0.offset / 64) = none) : doPackedUnit s p = s := by
  simp only [doPackedUnit, h0, hx, hp, hu]

variable {st : Nat} (hu : unitStart x (x0.offset / 64) = some st)
include hu

theorem doPackedUnit_of_past (hst : pt.outLines ≤ st) : doPackedUnit s p = s1 := by
  subst hfs hs1
  simp only [doPackedUnit, h0, hx, hp, hu]
  exact if_pos hst

variable (hst : st < pt.outLines) {h : UnitHead} (hh : h = unitHead (fs.flatMap (fun y => y.flit.data)))
include hst hh

theorem doPackedUnit_of_bad_head (hb : headOk s1 h = false) : doPackedUnit s p = bumpFree (updTile
    (adapterWrite (inflateErr s1 p 1 x0.flow) p x0.tile x0.flow (bufLine pt x0.transfer + st)
      (poisonLines (inflateErr s1 p 1 x0.flow).freeCtr st (pt.outLines - st))) (64 * (p / 12) + x0.tile) (fun t => updXfer t x0.flow x0.transfer
      (fun y => { y with checked := y.checked + (pt.outLines - st), status := y.status ||| 1 }))) := by
  subst hfs hs1 hh
  simp only [doPackedUnit, h0, hx, hp, hu]
  rw [if_neg (by omega), if_pos (by rw [hb]; rfl)]

variable (hb : headOk s1 h = true)
include hb

theorem doPackedUnit_of_bad_sections (he : expandUnit s1 h (fs.flatMap (fun y => y.flit.data)) = none) :
    doPackedUnit s p = bumpFree (adapterWrite (inflateErr s1 p 2 x0.flow) p x0.tile x0.flow (bufLine pt x0.transfer + st)
      (poisonLines s.freeCtr st (unitLines h))) := by
  subst hfs hs1 hh
  simp only [doPackedUnit, h0, hx, hp, hu]
  rw [if_neg (by omega), if_neg (by rw [hb]; simp), he]
  rfl

theorem doPackedUnit_of_expanded {out : List Byte} (he : expandUnit s1 h (fs.flatMap (fun y => y.flit.data)) = some out) :
    doPackedUnit s p = setInfl (adapterWrite s1 p x0.tile x0.flow (bufLine pt x0.transfer + st)
      ((List.range (unitLines h)).map (fun i => { data := slice out (64 * i) 64, poison := fs.any (fun y => y.flit.poison) }))) p
      { buf := (inflAt s p).buf.filter (fun y => !fs.contains y), owed := (inflAt s p).owed, dropped := (inflAt s p).dropped,
        check := (inflAt s p).check ++ [{ flow := x0.flow, tile := x0.tile, transfer := x0.transfer, firstLine := bufLine pt x0.transfer + st,
                                          lines := unitLines h, good := decide (crc32c out = h.check) }] } := by
  subst hfs hs1 hh
  simp only [doPackedUnit, h0, hx, hp, hu]
  rw [if_neg (by omega), if_neg (by rw [hb]; simp), he]

end Unit

theorem doUnitCheck_of_nil {s : State} {p : Nat} (h : (inflAt s p).check = []) : doUnitCheck s p = s := by simp only [doUnitCheck, h]

section Check
variable {s s1 : State} {p : Nat} {c : UnitInCheck} {rest : List UnitInCheck} (h : (inflAt s p).check = c :: rest)
  (hs1 : s1 = setInfl s p { inflAt s p with check := rest })
include h hs1

theorem doUnitCheck_of_good (hc : c.good = true) {key : Nat} (hk : key = txKey (64 + p % 12) c.tile c.flow) :
    doUnitCheck s p = meshSend (setDie s1 (p / 12) { dieAt s (p / 12) with
        unitMeta := tput (dieAt s (p / 12)).unitMeta key ((tfind (dieAt s (p / 12)).unitMeta key).getD [] ++ [c.transfer]) })
      (p / 12) (progress (64 + p % 12) c.tile 0 c.lines c.flow) := by
  subst hs1 hk
  simp only [doUnitCheck, h]
  rw [if_pos hc]
  rfl

theorem doUnitCheck_of_bad (hc : c.good = false) :
    doUnitCheck s p = bumpFree (adapterWrite (inflateErr s1 p 3 c.flow) p c.tile c.flow c.firstLine (poisonLines s1.freeCtr c.firstLine c.lines)) := by
  subst hs1
  simp only [doUnitCheck, h]
  rw [if_neg (by simp [hc])]

end Check

/-- Settles O8: the wake sets each of the die's deep stores once, and the inflater's clauses are the branches of `doPackedUnit` and `doUnitCheck`. -/
theorem storeAndInflater : Obligations.StoreAndInflater := by
  refine ⟨⟨fun n s h => ?_, fun cd t s hl => congrArg Host.Outcome.next (if_pos hl)⟩, fun p s hon => ?_⟩
  · refine ⟨_, exec_deepStoreWake_of_waking h, domAt_setDom _ _ _, fun t ht => ?_, fun j hj => ?_, ?_⟩
    · have hin : (List.range 64).any (fun i => 64 * n.val + i == 64 * n.val + t) = true :=
        List.any_eq_true.mpr ⟨t, List.mem_range.mpr ht, beq_self_eq_true _⟩
      rw [tileAt_setDom, tileAt_wakeDeep, if_pos hin]
    · have hout : ¬(List.range 64).any (fun i => 64 * n.val + i == j) = true := by
        simp only [List.any_eq_true, List.mem_range, beq_iff_eq, not_exists, not_and]
        omega
      rw [tileAt_setDom, tileAt_wakeDeep, if_neg hout]
    · obtain ⟨ts, hts⟩ := wakeDeep_eq s n.val
      rw [hts]; rfl
  · rw [exec_packedUnit_on hon, exec_unitCheckDone_on hon]
    refine ⟨fun h => ?_, ?_, fun h => ?_, fun c rest h s1 hs1 => ⟨fun hc key hk => ?_, fun hc => ?_⟩⟩
    · rw [doPackedUnit_of_no_unit h]
    · intro x0 h0 fs h s1 hfs hh hs1
      refine ⟨fun hx => ?_, fun x d pt hx hp => ⟨fun hu => ?_, fun st hu hst => ?_, fun st hu hst hb => ?_, fun st hu hst hb he => ?_,
        fun st out hu hst hb he => ?_⟩⟩
      · rw [doPackedUnit_of_ended h0 hfs hs1 hx]
      · rw [doPackedUnit_of_unplaced h0 hx hp hu]
      · rw [doPackedUnit_of_past h0 hfs hs1 hx hp hu hst]
      · rw [doPackedUnit_of_bad_head h0 hfs hs1 hx hp hu hst hh hb]
      · rw [doPackedUnit_of_bad_sections h0 hfs hs1 hx hp hu hst hh hb he]
      · rw [doPackedUnit_of_expanded h0 hfs hs1 hx hp hu hst hh hb he]
    · rw [doUnitCheck_of_nil h]
    · rw [doUnitCheck_of_good h hs1 hc hk]
    · rw [doUnitCheck_of_bad h hs1 hc]; rfl

end Sys2Proof.Machine
end

section
/-! Packets at a mesh router (R78 to R80, R83, R86): one equation per branch of `hop`, `doReduce` and `doCombineExpiry`. -/
namespace Sys2Proof.Machine

section Commands
variable {s : State} {cd : Fin 16} (r : Fin 64) (p : MeshPacket) (h : meshOn s cd.val = true)
include h

theorem exec_meshHop_on : exec (.meshHop cd r p) s = .next (hop s cd.val r.val p) := congrArg Host.Outcome.next (if_pos h)

theorem exec_reduce_on : exec (.reduce cd r p) s = .next (doReduce s cd.val r.val p) := congrArg Host.Outcome.next (if_pos h)

theorem exec_combineWaitExpiry_on (i : Fin 32) : exec (.combineWaitExpiry cd r i) s = .next (doCombineExpiry s cd.val r.val i.val) :=
  congrArg Host.Outcome.next (if_pos h)

variable {p}

theorem exec_meshDiscard_unlisted (hk : kindListed p = false) :
    exec (.meshDiscard cd r p) s = .next (discardPacket (deliver s (.mesh cd.val r.val p)) cd.val r.val p false) :=
  congrArg Host.Outcome.next ((if_neg (by simp [h])).trans (if_pos (by simp [hk])))

theorem exec_meshDiscard_rangePast (hk : kindListed p = true) (hr : rangePast p = true) :
    exec (.meshDiscard cd r p) s =
      .next (discardPacket (deliver s (.mesh cd.val (128 + p.dst.toNat) p)) cd.val (nodeRouter p.dst.toNat) p true) :=
  congrArg Host.Outcome.next ((if_neg (by simp [h])).trans ((if_neg (by simp [hk])).trans (if_pos hr)))

end Commands

section Hop
variable {s : State} {cd r : Nat} {p : MeshPacket}

theorem hop_of_not_next (h : meshOrder s cd r p = false) : hop s cd r p = s := by
  simp only [hop, h, Bool.not_false, if_true]

theorem doReduce_of_not_next (h : meshOrder s cd r p = false) : doReduce s cd r p = s := by
  simp only [doReduce, h, Bool.not_false, if_true]

variable (ho : meshOrder s cd r p = true)
include ho

theorem hop_of_unlisted (hk : kindListed p = false) : hop s cd r p = discardPacket (deliver s (.mesh cd r p)) cd r p false := by
  simp only [hop, ho, hk, Bool.not_true, Bool.not_false, Bool.false_eq_true, if_false, if_true]

theorem hop_of_fenced (hk : kindListed p = true) (hf : atFenced s cd r p = true) :
    hop s cd r p = fencedDiscard (dropHead (deliver s (.mesh cd r p)) cd r p) cd p := by
  simp only [hop, ho, hk, hf, Bool.not_true, Bool.false_eq_true, if_false, if_true]

/-- A listed packet that is not for a tile out of service here goes on when the next input has space, else stays. -/
theorem hop_of_listed (hk : kindListed p = true) (hf : atFenced s cd r p = false) :
    hop s cd r p = if meshRoom s cd r p then forward (deliver s (.mesh cd r p)) cd r p else s := by
  simp only [hop, ho, hk, hf, Bool.not_true, Bool.false_eq_true, if_false]

theorem doReduce_of_fenced (hf : atFenced s cd r p = true) :
    doReduce s cd r p = fencedDiscard (dropHead (deliver s (.mesh cd r p)) cd r p) cd p := by
  simp only [doReduce, ho, hf, Bool.not_true, Bool.false_eq_true, if_false, if_true]

variable (hf : atFenced s cd r p = false)
include hf

/-- With MESH_COMBINE_WAIT 0 a REDUCE moves as any packet does. -/
theorem doReduce_of_no_wait (hw : dval s Obj.meshCombineWait = 0) :
    doReduce s cd r p = if meshRoom s cd r p then forward (deliver s (.mesh cd r p)) cd r p else s := by
  simp only [doReduce, ho, hf, hw, Bool.not_true, Bool.false_eq_true, if_false, if_true]

variable (hw : dval s Obj.meshCombineWait ≠ 0)
include hw

theorem doReduce_of_partner {w : CombWait}
    (hm : (waitsAt (dieAt s cd) r).find? (fun w => w.out == nextHop r p.dst.toNat && partners w.packet p && !waitOver s cd r w) = some w) :
    doReduce s cd r p = if meshRoom s cd r p then
        bumpFree (forward (dropHead (setDie (deliver s (.mesh cd r p)) cd (setWaits (dieAt s cd) r ((waitsAt (dieAt s cd) r).erase w))) cd r p)
          cd r (combine s.freeCtr w.packet p))
      else s := by
  simp only [doReduce, ho, hf, hw, hm, Bool.not_true, Bool.false_eq_true, if_false]

variable {me : CombWait} (hme : me = { packet := p, out := nextHop r p.dst.toNat, since := headSince s cd r p })
  (hm : (waitsAt (dieAt s cd) r).find? (fun w => w.out == nextHop r p.dst.toNat && partners w.packet p && !waitOver s cd r w) = none)
include hme hm

/-- A REDUCE that meets no partner goes on at once when the buffer is full or its wait is over. -/
theorem doReduce_of_no_partner_moves (hg : 32 ≤ (waitsAt (dieAt s cd) r).length ∨ waitOver s cd r me = true) :
    doReduce s cd r p = if meshRoom s cd r p then forward (deliver s (.mesh cd r p)) cd r p else s := by
  subst hme
  simp only [doReduce, ho, hf, hw, hm, Bool.not_true, Bool.false_eq_true, if_false]
  exact if_pos hg

theorem doReduce_of_no_partner_waits (hl : (waitsAt (dieAt s cd) r).length < 32) (hg : waitOver s cd r me = false) :
    doReduce s cd r p =
      dropHead (setDie (deliver s (.mesh cd r p)) cd (setWaits (dieAt s cd) r (waitsAt (dieAt s cd) r ++ [me]))) cd r p := by
  subst hme
  simp only [doReduce, ho, hf, hw, hm, Bool.not_true, Bool.false_eq_true, if_false]
  exact if_neg (by simp [hg, hl])

end Hop

section Expiry
variable {s : State} {cd r i : Nat} {w : CombWait} (hw : (waitsAt (dieAt s cd) r)[i]? = some w)
include hw

theorem doCombineExpiry_of_fenced (hf : atFenced s cd r w.packet = true) :
    doCombineExpiry s cd r i = fencedDiscard (setDie s cd (setWaits (dieAt s cd) r ((waitsAt (dieAt s cd) r).erase w))) cd w.packet := by
  simp only [doCombineExpiry, hw, hf, if_true]

variable (hf : atFenced s cd r w.packet = false)
include hf

theorem doCombineExpiry_moves (hr : meshRoom s cd r w.packet = true)
    (hg : w.since + dval s Obj.meshCombineWait ≤ tileClocks s (64 * cd + r) ∨ 32 ≤ (waitsAt (dieAt s cd) r).length) :
    doCombineExpiry s cd r i = forward (setDie s cd (setWaits (dieAt s cd) r ((waitsAt (dieAt s cd) r).erase w))) cd r w.packet := by
  simp only [doCombineExpiry, hw, hf, hr, Bool.not_true, Bool.false_eq_true, if_false, or_false]
  exact if_neg (by omega)

theorem doCombineExpiry_stays (hg : (tileClocks s (64 * cd + r) < w.since + dval s Obj.meshCombineWait ∧ (waitsAt (dieAt s cd) r).length < 32) ∨
      meshRoom s cd r w.packet = false) : doCombineExpiry s cd r i = s := by
  simp only [doCombineExpiry, hw, hf, Bool.false_eq_true, if_false]
  exact if_pos (by simpa using hg)

end Expiry

/-- Settles O9: each clause is one branch of the router's three commands. -/
theorem meshMoves : Obligations.MeshMoves := by
  intro cd r p s hon
  simp only [exec_meshHop_on r _ hon, exec_reduce_on r _ hon, exec_combineWaitExpiry_on r hon]
  refine ⟨fun ho => ?_, fun hk ho => ⟨fun hf => ?_, fun hf hr => ?_, fun hf hr => ?_⟩, fun hk ho => ?_, fun hk => ?_, fun hk hp => ?_,
    fun ho go me hgo hme => ⟨fun hf => ?_, fun hf => ⟨fun hw => ?_, fun w hw hm => ⟨fun hr => ?_, fun hr => ?_⟩, fun hw hm => ⟨fun hg => ?_, fun hl hg => ?_⟩⟩⟩,
    fun i w hw t ht => ⟨fun hf => ?_, fun hf hr => ⟨fun hg => ?_, fun hc hl => ?_⟩, fun hf hr => ?_⟩⟩
  · exact ⟨by rw [hop_of_not_next ho], by rw [doReduce_of_not_next ho]⟩
  · rw [hop_of_fenced ho hk hf]
  · rw [hop_of_listed ho hk hf, if_pos hr]; rfl
  · rw [hop_of_listed ho hk hf, if_neg (by simp [hr])]
  · rw [hop_of_unlisted ho hk]; rfl
  · exact exec_meshDiscard_unlisted r hon hk
  · exact exec_meshDiscard_rangePast r hon hk hp
  · rw [doReduce_of_fenced ho hf]
  · rw [doReduce_of_no_wait ho hf hw, hgo]
  · rw [doReduce_of_partner ho hf hw hm, if_pos hr]
  · rw [doReduce_of_partner ho hf hw hm, if_neg (by simp [hr])]
  · rw [doReduce_of_no_partner_moves ho hf hw hme hm hg, hgo]
  · rw [doReduce_of_no_partner_waits ho hf hw hme hm hl hg]
  · rw [doCombineExpiry_of_fenced hw hf, ht]
  · rw [doCombineExpiry_moves hw hf hr hg, ht]
  · rw [doCombineExpiry_stays hw hf (.inl ⟨hc, hl⟩)]
  · rw [doCombineExpiry_stays hw hf (.inr hr)]

end Sys2Proof.Machine
end

section
/-! WRITE, READ_REQ and READ_RSP at their node (R79, R82): the branches of `doWrite`, `doReadReq` and `doReadRsp` for a range inside the store. -/
namespace Sys2Proof.Machine

section Taken
variable (s : State) (cd : Nat) (p : MeshPacket) (k : Nat)

theorem tileOut_meshTaken : tileOut (meshTaken s cd p) k = tileOut s k := rfl
@[simp] theorem tileAt_meshTaken : tileAt (meshTaken s cd p) k = tileAt s k := rfl
@[simp] theorem dieAt_meshTaken : dieAt (meshTaken s cd p) k = dieAt s k := rfl

end Taken

section Commands
variable {s : State} {cd : Fin 16} {p : MeshPacket} (hon : meshOn s cd.val = true) (ho : meshOrder s cd.val (128 + p.dst.toNat) p = true)
include hon ho

/-- The condition under which every packet is taken at its destination node. -/
theorem taken_at_node : (meshOn s cd.val && meshOrder s cd.val (128 + p.dst.toNat) p) = true := by rw [hon, ho]; rfl

theorem exec_write_taken (eng : List (Nat × Byte)) : exec (.write cd p eng) s = .next (doWrite (meshTaken s cd.val p) cd.val p eng) :=
  congrArg Host.Outcome.next (if_pos (taken_at_node hon ho))

theorem exec_readReq_taken : exec (.readReq cd p) s = .next (doReadReq (meshTaken s cd.val p) cd.val p) :=
  congrArg Host.Outcome.next (if_pos (taken_at_node hon ho))

theorem exec_readRsp_taken (eng : List (Nat × Byte)) : exec (.readRsp cd p eng) s = .next (doReadRsp (meshTaken s cd.val p) cd.val p eng) :=
  congrArg Host.Outcome.next (if_pos (taken_at_node hon ho))

end Commands

section Node
variable {s : State} {cd : Nat} {p : MeshPacket} (hr : rangePast p = false)
include hr

theorem doWrite_at_adapter (eng : List Host.Cell) (hd : 64 ≤ p.dst.toNat) {key : Nat} (hk : key = txKey p.dst.toNat p.src.toNat (pktFlow p)) :
    doWrite s cd p eng = setDie s cd { dieAt s cd with
      txMeta := tput (dieAt s cd).txMeta key (((tfind (dieAt s cd).txMeta key).getD []).drop p.flits.length)
      txq := tput (dieAt s cd).txq (txqKey (p.dst.toNat - 64) (pktFlow p)) ((tfind (dieAt s cd).txq (txqKey (p.dst.toNat - 64) (pktFlow p))).getD [] ++ (p.flits.zipIdx.map (fun x =>
        { ((tfind (dieAt s cd).txMeta key).getD []).getD x.2
            { dstSite := 127, req := false, tile := 0, tag := 0, offset := pktLine p + x.2, flit := { data := [], poison := false }, last := false } with
          flit := x.1 })).filter (fun x => x.dstSite != noSite)) } := by
  subst hk
  unfold doWrite
  rw [if_neg (by simp [hr]), if_neg (by omega)]

variable (hd : p.dst.toNat < 64) (hin : tileOut s (64 * cd + p.dst.toNat) = false)
include hd hin

theorem doWrite_at_tile (eng : List Host.Cell) :
    doWrite s cd p eng = portWrite s cd p.dst.toNat p.src.toNat (pktLine p) (pktFlow p) p.flits eng := by
  unfold doWrite
  rw [if_neg (by simp [hr]), if_pos hd, if_neg (by simp [hin])]

theorem doReadRsp_at_tile (eng : List Host.Cell) :
    doReadRsp s cd p eng = collisionNotices (netWrite s (64 * cd + p.dst.toNat) (pktLine p) p.flits eng) cd p.dst.toNat p.src.toNat 0
      (collided (pktLine p) p.flits eng) := by
  unfold doReadRsp
  rw [if_neg (by simp [hr]), if_neg (by simp [hin, hd])]

theorem doReadReq_at_tile {n : Nat} (hn : n = (p.fields.extractLsb' 6 4).toNat + 1) {u : State}
    (hu : u = readEffects s (64 * cd + p.dst.toNat) false (64 * pktLine p) (64 * n)) :
    doReadReq s cd p = bumpFree (meshSend u cd
      { dst := p.src, src := p.dst, vc := 2, kind := 3, len := BitVec.ofNat 5 n,
        fields := BitVec.ofNat 39 ((p.fields.extractLsb' 11 14).toNat * 2 ^ 25 + (p.fields.extractLsb' 0 6).toNat),
        flits := (List.range n).map (fun i =>
          { data := tileRead s.ticks (tileAt u (64 * cd + p.dst.toNat)) false (64 * (pktLine p + i)) 64,
            poison := storePoison (tileAt u (64 * cd + p.dst.toNat)).store (64 * (pktLine p + i)) 64 }) }) := by
  subst hn hu
  unfold doReadReq
  rw [if_neg (by simp [hr]), if_neg (by omega), if_neg (by simp [hin])]

end Node

/-- Settles O10: the packet is taken, and its node is a tile in service or an adapter. -/
theorem meshWritesAndReads : Obligations.MeshWritesAndReads := by
  refine fun cd p eng s => ⟨?_, ?_, ?_, ?_⟩
  · rintro ⟨⟨hon, ho, hr⟩, hd, hin⟩
    rw [← tileOut_meshTaken s cd.val p] at hin
    exact (exec_write_taken hon ho eng).trans (congrArg Host.Outcome.next (doWrite_at_tile hr hd hin eng))
  · rintro ⟨⟨hon, ho, hr⟩, hd, hin⟩
    rw [← tileOut_meshTaken s cd.val p] at hin
    exact (exec_readRsp_taken hon ho eng).trans (congrArg Host.Outcome.next (doReadRsp_at_tile hr hd hin eng))
  · rintro ⟨⟨hon, ho, hr⟩, hd, hin⟩
    rw [← tileOut_meshTaken s cd.val p] at hin
    exact (exec_readReq_taken hon ho).trans (congrArg Host.Outcome.next (doReadReq_at_tile hr hd hin rfl rfl))
  · rintro ⟨hon, ho, hr⟩ hd key hk
    exact (exec_write_taken hon ho eng).trans (congrArg Host.Outcome.next (doWrite_at_adapter hr eng hd hk))

end Sys2Proof.Machine
end

section
/-! The combining unit's flits (R88), and the NOTICE, UNIT_CHECKED and REDUCE_DONE packets at a tile (R204, R205). -/
namespace Sys2Proof.Machine

/-- The next flit of a REDUCE waits, or the unit takes it. -/
theorem exec_combineFlit_next {s : State} {cd : Fin 16} {p : MeshPacket} {i : Fin 16} {fl : Flit} (h : TileArrives s cd.val p)
    (hfl : p.flits[i.val]? = some fl) (hn : combNext (tileAt s (64 * cd.val + p.dst.toNat)) p = i.val) (eng : List (Nat × Byte)) :
    exec (.combineFlit cd p i eng) s = .next (if combWaits s (64 * cd.val + p.dst.toNat) (pktFlow p) (pktLine p + i.val) then s
      else doCombineFlit (combTake s cd.val p i.val) cd.val p.dst.toNat p.src.toNat (pktFlow p) (pktLine p + i.val) (redCount p) (redBf16 p) fl eng) := by
  obtain ⟨⟨hon, ho, hr⟩, hd, hin⟩ := h
  change execCombineFlit cd p i eng s = _
  simp only [execCombineFlit, hfl, hon, ho, hr, hd, hin, hn, decide_true, Bool.not_true, Bool.or_self, Bool.false_eq_true, if_false, ne_eq, not_true_eq_false,
    false_or]

section CombTake
variable (s : State) (cd : Nat) (p : MeshPacket) (i : Nat)

/-- Taking a flit of a packet changes only the note of the flits taken at its tile. -/
theorem tileAt_combTake : ∃ l, tileAt (combTake s cd p i) (64 * cd + p.dst.toNat) = { tileAt s (64 * cd + p.dst.toNat) with combIn := l } := by
  unfold combTake
  split
  · exact ⟨_, tileAt_updTile _ _ _⟩
  · exact ⟨_, tileAt_updTile _ _ _⟩

theorem partOf_combTake (k flow : Nat) : partOf (combTake s cd p i) k flow = partOf s k flow := by
  unfold combTake
  split <;> rfl

theorem combFlows_combTake :
    (tileAt (combTake s cd p i) (64 * cd + p.dst.toNat)).combFlows = (tileAt s (64 * cd + p.dst.toNat)).combFlows := by
  obtain ⟨l, hl⟩ := tileAt_combTake s cd p i
  rw [hl]

theorem combCount_combTake (line : Nat) :
    combCount (tileAt (combTake s cd p i) (64 * cd + p.dst.toNat)) line = combCount (tileAt s (64 * cd + p.dst.toNat)) line := by
  obtain ⟨l, hl⟩ := tileAt_combTake s cd p i
  rw [hl]; rfl

theorem combEntry_combTake (flow line : Nat) :
    combEntry (combTake s cd p i) (64 * cd + p.dst.toNat) flow line = combEntry s (64 * cd + p.dst.toNat) flow line := by
  unfold combEntry
  rw [combFlows_combTake, partOf_combTake]

end CombTake

/-- A flow the unit holds is not a fifth one. -/
theorem combWaits_of_held {s : State} {k flow line : Nat} {c : CombFlow} (hc : combEntry s k flow line = some c)
    (hf : (tileAt s k).combFlows = [c]) : combWaits s k flow line = false := by
  simp only [combWaits, hc, hf, List.contains_cons, beq_self_eq_true, Bool.true_or, Bool.not_true, Bool.false_and]

/-- The first flit for the one line of a flow alone in the unit, short of the flow's contributors: it is written as it came, and its
contributors are counted. -/
theorem doCombineFlit_of_first {s : State} {cd t flow line count : Nat} {c : CombFlow} (src : Nat) (bf16 : Bool) (fl : Flit) (eng : List Host.Cell)
    (hc : combEntry s (64 * cd + t) flow line = some c) (hf : (tileAt s (64 * cd + t)).combFlows = [c]) (h0 : combCount (tileAt s (64 * cd + t)) line = 0)
    (hlt : count < c.contributors) (hmax : count ≤ 127) (hfirst : c.first = line) (hlines : c.lines = 1) :
    doCombineFlit s cd t src flow line count bf16 fl eng = bumpFree (updTile
      (collisionNotices (netWrite s (64 * cd + t) line [fl] eng) cd t t flow (collided line [fl] eng)) (64 * cd + t)
      (fun x => { x with combFlows := [c], combCounts := tset (fun _ => 0) x.combCounts line count })) := by
  have hheld : (([c] : List CombFlow).contains c) = true := by simp
  have hover : decide (0 + count > c.contributors) = false := decide_eq_false (by omega)
  have hcount : min 127 (0 + count) = count := by omega
  have hdone : decide (count ≥ c.contributors) = false := decide_eq_false (by omega)
  have hset (t : Tile) : combCount { t with combFlows := [c], combCounts := tset (fun _ => 0) t.combCounts line count } line = count :=
    tget_tset_same _ _ _ _
  simp only [doCombineFlit, hc, combWaits_of_held hc hf, hf, h0, hheld, hover, hcount, Bool.or_false, Bool.false_eq_true, if_false, if_true, tileAt_updTile,
    hlines, List.range_one, List.all_cons, List.all_nil, Nat.add_zero, hfirst, hset, hdone, Bool.and_true]

section Commands
variable {s : State} {cd : Fin 16} {p : MeshPacket} (hon : meshOn s cd.val = true) (ho : meshOrder s cd.val (128 + p.dst.toNat) p = true)
include hon ho

theorem exec_notice_taken : exec (.notice cd p) s = .next (doNotice (meshTaken s cd.val p) cd.val p) :=
  congrArg Host.Outcome.next (if_pos (taken_at_node hon ho))

theorem exec_unitChecked_taken : exec (.unitChecked cd p) s = .next (doProgress (meshTaken s cd.val p) cd.val 0 p) :=
  congrArg Host.Outcome.next (if_pos (taken_at_node hon ho))

theorem exec_reduceDone_taken : exec (.reduceDone cd p) s = .next (doProgress (meshTaken s cd.val p) cd.val 1 p) :=
  congrArg Host.Outcome.next (if_pos (taken_at_node hon ho))

end Commands

section Tile
variable {s : State} {cd : Nat} {p : MeshPacket} (hd : p.dst.toNat < 64) (hin : tileOut s (64 * cd + p.dst.toNat) = false)
include hd hin

theorem doNotice_of_fenced (h : p.fields.extractLsb' 35 4 = 2) : doNotice s cd p = flowFenced s (64 * cd + p.dst.toNat) (pktFlow p) (pktLine p) :=
  if_pos ⟨hd, h, by simp [hin]⟩

omit hd hin in
theorem doNotice_of_other (h : p.fields.extractLsb' 35 4 ≠ 2) : doNotice s cd p = s := if_neg (fun e => h e.2.1)

theorem doProgress_checked {key : Nat} {ns : List Nat} (he : (p.fields.extractLsb' 36 3).toNat = 0)
    (hk : key = txKey p.src.toNat p.dst.toNat (pktFlow p)) (hns : ns = (tfind (dieAt s cd).unitMeta key).getD []) :
    doProgress s cd 0 p = flowChecked (setDie s cd { dieAt s cd with unitMeta := tput (dieAt s cd).unitMeta key ns.tail })
      (64 * cd + p.dst.toNat) (pktFlow p) ns.head? (p.fields.extractLsb' 24 12).toNat := by
  subst hk hns
  unfold doProgress
  rw [if_neg (by simp [hd, hin, he]), if_pos rfl]

theorem doProgress_reduced (he : (p.fields.extractLsb' 36 3).toNat = 1) : doProgress s cd 1 p = flowReduced s (64 * cd + p.dst.toNat) (pktFlow p) := by
  unfold doProgress
  rw [if_neg (by simp [hd, hin, he]), if_neg one_ne_zero]

end Tile

section Flow
variable {s : State} {k flow : Nat}

theorem flowChecked_of_some {d : FlowDesc} {pt : Part} {n : Option Nat} {x : Transfer} (lines : Nat) (hp : partOf s k flow = some (d, pt))
    (hx : (flowSt (tileAt s k) flow).open_.find? (takesCheck n pt.outLines) = some x) :
    flowChecked s k flow n lines = updTile s k (fun t => updXfer t flow x.n (fun y => { y with checked := y.checked + lines })) := by
  simp only [flowChecked, hp, hx, updTile]

theorem flowChecked_of_none {d : FlowDesc} {pt : Part} {n : Option Nat} (lines : Nat) (hp : partOf s k flow = some (d, pt))
    (hx : (flowSt (tileAt s k) flow).open_.find? (takesCheck n pt.outLines) = none) : flowChecked s k flow n lines = s := by
  simp only [flowChecked, hp, hx]

theorem flowReduced_of_some {x : Transfer} (hx : (flowSt (tileAt s k) flow).open_.find? (fun x => !x.reduced) = some x) :
    flowReduced s k flow = updTile s k (fun t => updXfer t flow x.n (fun y => { y with reduced := true })) := by
  simp only [flowReduced, hx, updTile]

theorem flowReduced_of_none (hx : (flowSt (tileAt s k) flow).open_.find? (fun x => !x.reduced) = none) : flowReduced s k flow = s := by
  simp only [flowReduced, hx]

end Flow

/-- Settles O11: the next flit by whether it waits, and the three packets by their code, event and transfer. -/
theorem meshCombinesAndNotes : Obligations.MeshCombinesAndNotes := by
  refine fun cd p s => ⟨fun i eng fl h hfl hn => ?_, fun hon ho hd hin => ?_⟩
  · rw [exec_combineFlit_next h hfl hn eng]
    refine ⟨fun hw => by rw [if_pos hw], fun hw => by rw [if_neg (by simp [hw])], fun c hc hf _ h0 hlt hmax hfirst hlines => ?_⟩
    rw [if_neg (by simp [combWaits_of_held hc hf])]
    rw [← combEntry_combTake s cd.val p i.val] at hc
    rw [← combFlows_combTake s cd.val p i.val] at hf
    rw [← combCount_combTake s cd.val p i.val] at h0
    rw [doCombineFlit_of_first p.src.toNat (redBf16 p) fl eng hc hf h0 hlt hmax hfirst hlines]
  · rw [exec_notice_taken hon ho, exec_unitChecked_taken hon ho, exec_reduceDone_taken hon ho]
    rw [← tileOut_meshTaken s cd.val p] at hin
    refine ⟨fun h => ?_, fun h => ?_, fun key ns u he hk hns hu d pt hp => ?_, fun he hx => ?_, fun x he hx => ?_⟩
    · rw [doNotice_of_fenced hd hin h]
    · rw [doNotice_of_other h]
    · rw [doProgress_checked hd hin he hk hns, dieAt_meshTaken, ← hu]
      have hpu : partOf u (64 * cd.val + p.dst.toNat) (pktFlow p) = some (d, pt) := by rw [hu]; exact hp
      refine ⟨fun x hx => ?_, fun hx => ?_⟩
      · rw [flowChecked_of_some _ hpu (by rw [hu]; exact hx)]
      · rw [flowChecked_of_none _ hpu (by rw [hu]; exact hx)]
    · rw [doProgress_reduced hd hin he, flowReduced_of_none (by simpa using hx)]
    · rw [doProgress_reduced hd hin he, flowReduced_of_some (by simpa using hx)]

end Sys2Proof.Machine
end

section
/-! Signal links (R90, R91): a flit by its check and the failures before it, a link's fourth failure, a packet of an unlisted TYPE, TIME. -/
namespace Sys2Proof.Machine

/-- The state in which a flit has been heard on a link: a repeat that was pending is taken, and the sender's buffer holds the flit. -/
def flitHeard (s : State) (l : Nat) (w : Word) (good : Bool) : State :=
  { s with sent := s.sent.eraseP (Output.isRepeat l), freeCtr := s.freeCtr + 1
           sigReplay := tset (fun _ => []) s.sigReplay l (replayWith s l w good) }

theorem doSigFlit_of_out {s : State} {l : Nat} (w : Word) (crc : BitVec 8) (h : s.sigDown.contains l = true) : doSigFlit s l w crc = s := if_pos h

section Flit
variable {s : State} {l : Nat} {w : Word} {crc : BitVec 8} (h : s.sigDown.contains l = false)
include h

theorem doSigFlit_of_good (hc : crc = flitCrc w) :
    doSigFlit s l w crc = { flitHeard s l w true with sigFails := tset (fun _ => 0) s.sigFails l 0 } := by
  have hgood : decide (crc = flitCrc w) = true := decide_eq_true hc
  simp only [doSigFlit, h, hgood, Bool.false_eq_true, if_false, if_true]
  rfl

/-- A flit with a wrong check counts one more failure, is answered with a negative acknowledgement and, short of the fourth, sent again. -/
theorem doSigFlit_of_bad (hc : crc ≠ flitCrc w) {u : State}
    (hu : u = emit { flitHeard s l w false with sigFails := tset (fun _ => 0) s.sigFails l (min (sigFail s l + 1) 4) } (.nak l)) :
    doSigFlit s l w crc = if sigFail s l + 1 < 4 then bump (emit u (.sigRepeat l ((replayWith s l w false).headD 0))) Obj.sigRetries else u := by
  have hbad : decide (crc = flitCrc w) = false := decide_eq_false hc
  subst hu
  simp only [doSigFlit, h, hbad, Bool.false_eq_true, if_false]
  rfl

end Flit

section Link
variable {s : State} {l : Nat}

theorem doSigLinkFail_of_short (h : sigFail s l < 4 ∨ s.sigDown.contains l = true) : doSigLinkFail s l = s := by
  unfold doSigLinkFail
  exact if_pos (h.imp_right .inl)

variable (h : 4 ≤ sigFail s l) (hd : s.sigDown.contains l = false)
include h hd

theorem doSigLinkFail_of_segment (hl : 128 ≤ l) :
    doSigLinkFail s l = raise { s with sent := s.sent.eraseP (Output.isRepeat l), sigDown := s.sigDown ++ [l], sigReplay := tdel s.sigReplay l }
      ((l - 128) / 2) 0x07 0x11 4 false ((l - 128) / 2 + 8 * (l % 2)) := by
  unfold doSigLinkFail
  rw [if_neg (by simp only [hd, Bool.false_eq_true, false_or]; omega), if_pos hl]

theorem doSigLinkFail_of_hub (hl : 8 ≤ l) (hl' : l < 100) :
    doSigLinkFail s l = raise (hubLost { s with sent := s.sent.eraseP (Output.isRepeat l), sigDown := s.sigDown ++ [l], sigReplay := tdel s.sigReplay l } l)
      (siteTile l) 0x07 0x10 5 false l := by
  unfold doSigLinkFail
  rw [if_neg (by simp only [hd, Bool.false_eq_true, false_or]; omega), if_neg (by omega)]

end Link

theorem exec_sigDiscard_unlisted {p : SigPacket} (site : Fin 100) (s : State) (h : typeListed p = false) :
    exec (.sigDiscard site p) s = .next (raise (sigArrive s p) site.val 0x07 0x12 1 false p.ptype.toNat) :=
  congrArg Host.Outcome.next (if_neg (by simp [h]))

theorem exec_sigDiscard_listed {p : SigPacket} (site : Fin 100) (s : State) (h : typeListed p = true) : exec (.sigDiscard site p) s = .next s :=
  congrArg Host.Outcome.next (if_pos h)

/-- TIME is taken, and notes its boundary when that lies ahead. -/
theorem exec_time (src : BitVec 7) (v : Word) (s : State) :
    exec (.time src v) s =
      .next (if s.now < v then schedule (sigArrive s (timePacket src.toNat v)) v (.epoch v) else sigArrive s (timePacket src.toNat v)) := by
  change Host.Outcome.next (if (sigArrive s (timePacket src.toNat v)).now < v then _ else _) = _
  rw [sigArrive_now]

/-- Settles O12: a flit by its check, a link by its failures, a packet by its TYPE and TIME by its boundary. -/
theorem signalLinks : Obligations.SignalLinks := by
  refine ⟨fun l w crc s => ?_, fun site p s => ⟨fun h => ?_, fun h1 h10 => ?_⟩, fun src v s => ⟨fun h => ?_, fun h => ?_⟩⟩
  · refine ⟨fun hd hc => ?_, fun hd hc hn => ?_, fun hd hc hn => ?_, fun hd => ?_, fun h => ?_, fun h hd => ⟨fun hl => ?_, fun hl hl' => ?_⟩⟩
    · exact congrArg Host.Outcome.next (doSigFlit_of_good hd hc)
    · have hmin : min (sigFail s l.val + 1) 4 = sigFail s l.val + 1 := by omega
      have hbad := doSigFlit_of_bad hd hc rfl
      rw [if_pos (by omega), hmin] at hbad
      exact congrArg Host.Outcome.next hbad
    · have hmin : min (sigFail s l.val + 1) 4 = 4 := by omega
      have hbad := doSigFlit_of_bad hd hc rfl
      rw [if_neg (by omega), hmin] at hbad
      exact congrArg Host.Outcome.next hbad
    · exact congrArg Host.Outcome.next (doSigFlit_of_out w crc hd)
    · exact congrArg Host.Outcome.next (doSigLinkFail_of_short h)
    · exact congrArg Host.Outcome.next (doSigLinkFail_of_segment h hd hl)
    · exact congrArg Host.Outcome.next (doSigLinkFail_of_hub h hd hl hl')
  · exact exec_sigDiscard_unlisted site s (decide_eq_false (by omega))
  · exact exec_sigDiscard_listed site s (decide_eq_true ⟨h1, h10⟩)
  · rw [exec_time, if_pos h]
  · rw [exec_time, if_neg (BitVec.not_lt.mpr h)]

end Sys2Proof.Machine
end

section
/-! Barriers and flags of a job (R208, R209): a tile's arrival and flag writes, the packets at their home, and the releases and notices. -/
namespace Sys2Proof.Machine

section Arrive
variable (s : State) (p : SigPacket)

/-! The arrival of a signal packet leaves the job, and with it its barriers, its flags and where its virtual tiles are. -/

@[simp] theorem jobImage_sigArrive : jobImage (sigArrive s p) = jobImage s := by simp [jobImage]
@[simp] theorem physOf_sigArrive (v : Nat) : physOf (sigArrive s p) v = physOf s v := by simp [physOf]
@[simp] theorem vtileDie_sigArrive (v : Nat) : vtileDie (sigArrive s p) v = vtileDie s v := by simp [vtileDie]
@[simp] theorem barrierOf_sigArrive (g : Nat) : barrierOf (sigArrive s p) g = barrierOf s g := by simp [barrierOf]
@[simp] theorem flagOf_sigArrive (f : Nat) : flagOf (sigArrive s p) f = flagOf s f := by simp [flagOf]
@[simp] theorem diesOf_sigArrive (vs : List Nat) : diesOf (sigArrive s p) vs = diesOf s vs := by simp [diesOf]
@[simp] theorem homeOf_sigArrive (vs : List Nat) : homeOf (sigArrive s p) vs = homeOf s vs := by simp [homeOf]

end Arrive

@[simp] theorem physOf_setDie (s : State) (n : Nat) (d : ComputeDie) (v : Nat) : physOf (setDie s n d) v = physOf s v := rfl
@[simp] theorem vtileDie_setDie (s : State) (n : Nat) (d : ComputeDie) (v : Nat) : vtileDie (setDie s n d) v = vtileDie s v := rfl

section SyncArrive
variable {s : State} {k g : Nat}

theorem doSyncArrive_of_stranger (h : ∀ b x, barrierOf s g = some b → vtileOf s k = some x → b.members.contains x = false) :
    doSyncArrive s k g = raise s (siteCD (k / 64)) 0x01 0x13 1 false (g % 1024 + epochOf (tileAt s k) g % 2 ^ 30 * 1024) := by
  unfold doSyncArrive
  refine if_pos ?_
  split
  · rw [h _ _ ‹_› ‹_›]; rfl
  · rfl

variable {b : BarrierE} {x : Nat} (hb : barrierOf s g = some b) (hx : vtileOf s k = some x) (hm : b.members.contains x = true)
include hb hx hm

theorem doSyncArrive_of_ahead (h : epochOf (tileAt s k) g + 2 ≤ arriveCount (tileAt s k) g) : doSyncArrive s k g = s := by
  simp only [doSyncArrive, hb, hx, hm, Bool.not_true, Bool.false_eq_true, if_false]
  exact if_pos h

/-- A member that is not two arrivals ahead counts one, and its die sends BARRIER_ARRIVE once all of its members are ahead of what it has sent. -/
theorem doSyncArrive_of_member {u : State} (h : arriveCount (tileAt s k) g < epochOf (tileAt s k) g + 2)
    (hu : u = updTile s k (fun y => { y with arrivals := tset (fun _ => 0) y.arrivals g (arriveCount y g + 1) })) :
    doSyncArrive s k g =
      let d := dieAt s (k / 64)
      let e := tget (fun _ => 0) d.sent g
      if (b.members.filter (fun w => vtileDie s w == k / 64)).all (fun w => decide (arriveCount (tileAt u ((physOf s w).getD 0)) g > e)) then
        emit (setDie u (k / 64) { d with sent := tset (fun _ => 0) d.sent g (e + 1) })
          (.sig (syncPacket (siteCD (homeOf s b.members)) (siteCD (k / 64)) 1 (g * 2 ^ 32 + e % 2 ^ 32) []))
      else u := by
  have hbu : barrierOf (setTile s k { tileAt s k with arrivals := tset (fun _ => 0) (tileAt s k).arrivals g (arriveCount (tileAt s k) g + 1) }) g = some b := hb
  subst hu
  simp only [doSyncArrive, hb, hx, hm, Bool.not_true, Bool.false_eq_true, if_false]
  rw [if_neg (by omega)]
  simp only [sendArrive, hbu]
  rfl

end SyncArrive

section SendFlag
variable {s : State} {k : Nat}

theorem sendFlag_of_none (op : Nat) (v : Word) (h : flagOf s (tileAt s k).flagSel.toNat = none) : sendFlag s k op v = s := by
  simp only [sendFlag, h]

theorem sendFlag_of_some {d : FlagE} (op : Nat) (v : Word) (h : flagOf s (tileAt s k).flagSel.toNat = some d) :
    sendFlag s k op v = emit s (.sig (syncPacket (siteCD (homeOf s d.subs)) (siteCD (k / 64)) 3
      ((tileAt s k).flagSel.toNat * 2 ^ 28 + op * 2 ^ 24) [v])) := by
  simp only [sendFlag, h]

end SendFlag

section BarrierArrive
variable {s : State} {cd g : Nat} (src e : Nat)

theorem doBarrierArrive_elsewhere (h : ∀ b, barrierOf s g = some b → homeOf s b.members ≠ cd) : doBarrierArrive s cd src g e = s := by
  unfold doBarrierArrive
  split
  · rfl
  · exact if_pos (h _ ‹_›)

theorem doBarrierArrive_at_home {b : BarrierE} (hb : barrierOf s g = some b) (hh : homeOf s b.members = cd) {m : List Nat}
    (hm : m = addPos (tget (fun _ => []) (dieAt s cd).arrived (mapKey g e)) src) :
    doBarrierArrive s cd src g e =
      if (diesOf s b.members).all (fun x => m.contains (siteCD x)) then
        (diesOf s b.members).foldl (fun s x => emit s (.sig (syncPacket (siteCD x) (siteCD cd) 2 (g * 2 ^ 32 + e) [])))
          (setDie s cd { dieAt s cd with arrived := tdel (dieAt s cd).arrived (mapKey g e) })
      else setDie s cd { dieAt s cd with arrived := tset (fun _ => []) (dieAt s cd).arrived (mapKey g e) m } := by
  subst hm
  simp only [doBarrierArrive, hb]
  rw [if_neg (by simp [hh])]

end BarrierArrive

section FlagWrite
variable {s : State} {cd f op : Nat} (v : Word)

theorem doFlagWrite_elsewhere (h : 2 ≤ op ∨ ∀ d, flagOf s f = some d → homeOf s d.subs ≠ cd) : doFlagWrite s cd f op v = s := by
  unfold doFlagWrite
  split
  · rfl
  · exact if_pos (h.symm.imp_left (fun hh => hh _ ‹_›))

theorem doFlagWrite_at_home {d : FlagE} (hd : flagOf s f = some d) (hh : homeOf s d.subs = cd) (ho : op < 2) {new : Word}
    (hn : new = if op = 0 then v else tget (fun _ => 0) (dieAt s cd).homeFlag f + v) :
    doFlagWrite s cd f op v = (diesOf s d.subs).foldl (fun s x => emit s (.sig (syncPacket (siteCD x) (siteCD cd) 4 (f * 2 ^ 28) [new])))
      (setDie s cd { dieAt s cd with homeFlag := tset (fun _ => 0) (dieAt s cd).homeFlag f new }) := by
  subst hn
  simp only [doFlagWrite, hd]
  rw [if_neg (by omega)]

end FlagWrite

/-! Releases and notices: the tile updates they make are idempotent, so that a tile that holds several members or subscribers has its one update. -/

/-- A tile at the released epoch counts it and raises interrupt 19 where JOB_IE asks; any other is as it was. -/
def releaseTile (g e : Nat) (t : Tile) : Tile :=
  if epochOf t g % 2 ^ 32 = e then
    { t with
      epochs := tset (fun _ => 0) t.epochs g (epochOf t g + 1)
      core := { t.core with mip := if t.jobIe.getLsbD 1 then t.core.mip ||| (1 <<< 19) else t.core.mip } }
  else t

/-- A subscriber that asks is interrupted. -/
def notifyTile (t : Tile) : Tile :=
  if t.jobIe.getLsbD 2 then { t with core := { t.core with mip := t.core.mip ||| (1 <<< 20) } } else t

/-- After a release the tile stands at the next epoch, which is another modulo 2^32. -/
theorem releaseTile_idem (g e : Nat) (t : Tile) : releaseTile g e (releaseTile g e t) = releaseTile g e t := by
  unfold releaseTile
  by_cases h : epochOf t g % 2 ^ 32 = e
  · rw [if_pos h, if_neg]
    simp only [epochOf, tget_tset_same]
    unfold epochOf at h
    omega
  · rw [if_neg h, if_neg h]

theorem notifyTile_idem (t : Tile) : notifyTile (notifyTile t) = notifyTile t := by
  unfold notifyTile
  by_cases h : t.jobIe.getLsbD 2 = true
  · rw [if_pos h, if_pos h, BitVec.or_assoc, BitVec.or_self]
  · rw [if_neg h, if_neg h]

/-- The tiles of a die that some virtual tiles are bound to, each updated. -/
def updMembers (s : State) (cd : Nat) (vs : List Nat) (f : Tile → Tile) : State :=
  (vs.filter (fun v => vtileDie s v == cd)).foldl (fun s v => updTile s ((physOf s v).getD 0) f) s

theorem updMembers_eq (s : State) (cd : Nat) (vs : List Nat) (f : Tile → Tile) : ∃ ts, updMembers s cd vs f = { s with tiles := ts } :=
  foldl_updTile_eq f (fun s v => (physOf s v).getD 0) _ s

theorem tileAt_updMembers (s : State) (cd : Nat) (vs : List Nat) {f : Tile → Tile} (hf : ∀ t, f (f t) = f t) (k : Nat) :
    tileAt (updMembers s cd vs f) k =
      if vs.any (fun v => vtileDie s v == cd && (physOf s v).getD 0 == k) then f (tileAt s k) else tileAt s k := by
  unfold updMembers
  rw [tileAt_foldl_updTile hf (key := fun s v => (physOf s v).getD 0) (fun _ _ _ => rfl), List.any_filter]

theorem doBarrierRelease_of_none {s : State} {g : Nat} (cd e : Nat) (h : barrierOf s g = none) : doBarrierRelease s cd g e = s := by
  simp only [doBarrierRelease, h]

theorem doBarrierRelease_of_some {s : State} {g : Nat} {b : BarrierE} (cd e : Nat) (h : barrierOf s g = some b) :
    doBarrierRelease s cd g e = updMembers s cd b.members (releaseTile g e) := by
  have hf : releaseTile g e = fun t => if epochOf t g % 2 ^ 32 = e then
      let t := { t with epochs := tset (fun _ => 0) t.epochs g (epochOf t g + 1) }
      if t.jobIe.getLsbD 1 then localIrq t 19 else t
    else t := by
    funext t
    unfold releaseTile
    by_cases hj : t.jobIe.getLsbD 1 = true
    · simp only [hj, if_true]; rfl
    · simp only [hj]; rfl
  simp only [doBarrierRelease, h, hf]
  rfl

section Notify
variable {s u : State} {cd f : Nat} (v : Word) (hu : u = setDie s cd { dieAt s cd with flagCopy := tset (fun _ => 0) (dieAt s cd).flagCopy f v })
include hu

theorem doFlagNotify_of_none (h : flagOf s f = none) : doFlagNotify s cd f v = u := by
  have hf : flagOf u f = none := by rw [hu]; exact h
  simp only [doFlagNotify, ← hu, hf]

theorem doFlagNotify_of_some {d : FlagE} (h : flagOf s f = some d) : doFlagNotify s cd f v = updMembers u cd d.subs notifyTile := by
  have hf : flagOf u f = some d := by rw [hu]; exact h
  simp only [doFlagNotify, ← hu, hf]
  rfl

end Notify

section Commands
variable {s : State} {cd : Fin 16} {src : BitVec 7}

section
variable (h : ¬(meshOn s cd.val = true ∧ sigPath s src.toNat (siteCD cd.val) = true))
include h

theorem exec_barrierArrive_unheard (g : BitVec 8) (e : BitVec 32) : exec (.barrierArrive cd src g e) s = .next s :=
  congrArg Host.Outcome.next (if_neg (by simpa using h))

theorem exec_barrierRelease_unheard (g : BitVec 8) (e : BitVec 32) : exec (.barrierRelease cd src g e) s = .next s :=
  congrArg Host.Outcome.next (if_neg (by simpa using h))

end

section
variable (hon : meshOn s cd.val = true) (hpath : sigPath s src.toNat (siteCD cd.val) = true)
include hon hpath

theorem exec_barrierArrive_heard {g : BitVec 8} {e : BitVec 32} {p : SigPacket}
    (hp : p = syncPacket (siteCD cd.val) src.toNat 1 (g.toNat * 2 ^ 32 + e.toNat) []) :
    exec (.barrierArrive cd src g e) s = .next (doBarrierArrive (sigArrive s p) cd.val src.toNat g.toNat e.toNat) :=
  hp ▸ congrArg Host.Outcome.next (if_pos (by simp [hon, hpath]))

theorem exec_barrierRelease_heard {g : BitVec 8} {e : BitVec 32} {p : SigPacket}
    (hp : p = syncPacket (siteCD cd.val) src.toNat 2 (g.toNat * 2 ^ 32 + e.toNat) []) :
    exec (.barrierRelease cd src g e) s = .next (doBarrierRelease (sigArrive s p) cd.val g.toNat e.toNat) :=
  hp ▸ congrArg Host.Outcome.next (if_pos (by simp [hon, hpath]))

end

section
variable {f : BitVec 12} {v : Word} {p : SigPacket}

theorem exec_flagWrite_unheard {op : BitVec 4} (hp : p = syncPacket (siteCD cd.val) src.toNat 3 (f.toNat * 2 ^ 28 + op.toNat * 2 ^ 24) [v])
    (h : ¬(meshOn s cd.val = true ∧ sigPath s src.toNat (siteCD cd.val) = true ∧ sigNext s p = true)) : exec (.flagWrite cd src f op v) s = .next s := by
  subst hp
  exact congrArg Host.Outcome.next (if_neg (by simpa [and_assoc] using h))

theorem exec_flagNotify_unheard (hp : p = syncPacket (siteCD cd.val) src.toNat 4 (f.toNat * 2 ^ 28) [v])
    (h : ¬(meshOn s cd.val = true ∧ sigPath s src.toNat (siteCD cd.val) = true ∧ sigNext s p = true)) : exec (.flagNotify cd src f v) s = .next s := by
  subst hp
  exact congrArg Host.Outcome.next (if_neg (by simpa [and_assoc] using h))

variable (hon : meshOn s cd.val = true) (hpath : sigPath s src.toNat (siteCD cd.val) = true) (hnext : sigNext s p = true)
include hon hpath hnext

theorem exec_flagWrite_heard {op : BitVec 4} (hp : p = syncPacket (siteCD cd.val) src.toNat 3 (f.toNat * 2 ^ 28 + op.toNat * 2 ^ 24) [v]) :
    exec (.flagWrite cd src f op v) s = .next (doFlagWrite (sigArrive s p) cd.val f.toNat op.toNat v) := by
  subst hp
  exact congrArg Host.Outcome.next (if_pos (by rw [hon, hpath, hnext]; rfl))

theorem exec_flagNotify_heard (hp : p = syncPacket (siteCD cd.val) src.toNat 4 (f.toNat * 2 ^ 28) [v]) :
    exec (.flagNotify cd src f v) s = .next (doFlagNotify (sigArrive s p) cd.val f.toNat v) := by
  subst hp
  exact congrArg Host.Outcome.next (if_pos (by rw [hon, hpath, hnext]; rfl))

end

end Commands

section TileCommands
variable (cd : Fin 16) (t : Fin 64) (v : Word) (s : State)

/-! What a tile writes has its effect while the tile is in service. -/

theorem exec_syncArrive :
    exec (.syncArrive cd t v) s = .next (if tileLive s (tkey cd t) then doSyncArrive s (tkey cd t) (v.toNat % 256) else s) := rfl
theorem exec_flagValue : exec (.flagValue cd t v) s = .next (if tileLive s (tkey cd t) then sendFlag s (tkey cd t) 0 v else s) := rfl
theorem exec_flagAddWrite : exec (.flagAddWrite cd t v) s = .next (if tileLive s (tkey cd t) then sendFlag s (tkey cd t) 1 v else s) := rfl

end TileCommands

/-- Settles O14: a tile's writes, the packets at their home, and the releases and notices, whose tile updates are each made once. -/
theorem jobBarriersAndFlags : Obligations.JobBarriersAndFlags := by
  refine ⟨⟨fun cd t v s => ?_, fun cd src g e s p hp => ?_, fun cd src f op v s p hp => ?_⟩, fun cd src s => ⟨fun g e p hp => ?_, fun f v p hp => ?_⟩⟩
  · rw [exec_syncArrive, exec_flagValue, exec_flagAddWrite]
    refine ⟨fun hl => ?_, fun b x u hl hb hx hm hu => ⟨fun h => ?_, fun h => ?_⟩, fun hl h => ?_, fun h => ?_, fun d hl h => ⟨?_, ?_⟩⟩
    · simp only [hl, Bool.false_eq_true, if_false, and_self]
    · rw [if_pos hl, doSyncArrive_of_ahead hb hx hm h]
    · rw [if_pos hl, doSyncArrive_of_member hb hx hm h hu]
    · rw [if_pos hl, doSyncArrive_of_stranger h]
    · simp only [sendFlag_of_none _ v h, ite_self, and_self]
    · rw [if_pos hl, sendFlag_of_some 0 v h, Nat.zero_mul, Nat.add_zero]
    · rw [if_pos hl, sendFlag_of_some 1 v h, Nat.one_mul]
  · refine ⟨fun h => exec_barrierArrive_unheard h g e, fun hon hpath h => ?_, fun b m hon hpath hb hh hm => ?_⟩
    · rw [exec_barrierArrive_heard hon hpath hp, doBarrierArrive_elsewhere _ _ (by simpa using h)]
    · rw [exec_barrierArrive_heard hon hpath hp, doBarrierArrive_at_home (b := b) (m := m) _ _ (by simpa using hb) (by simpa using hh) (by simpa using hm),
        diesOf_sigArrive, dieAt_sigArrive]
  · refine ⟨fun h => exec_flagWrite_unheard hp h, fun hon hpath hnext h => ?_, fun d new hon hpath hnext hd hh ho hn => ?_⟩
    · rw [exec_flagWrite_heard hon hpath hnext hp, doFlagWrite_elsewhere v (by simpa using h)]
    · have hop : op = 0 ↔ op.toNat = 0 := by rw [← BitVec.toNat_inj]; rfl
      rw [exec_flagWrite_heard hon hpath hnext hp,
        doFlagWrite_at_home (d := d) (new := new) v (by simpa using hd) (by simpa using hh) ho (by simpa only [hop, dieAt_sigArrive] using hn),
        diesOf_sigArrive, dieAt_sigArrive]
  · refine ⟨fun h => exec_barrierRelease_unheard h g e, fun hon hpath h => ?_, fun b hon hpath hb => ?_⟩
    · rw [exec_barrierRelease_heard hon hpath hp, doBarrierRelease_of_none _ _ (by simpa using h)]
    · refine ⟨updMembers (sigArrive s p) cd.val b.members (releaseTile g.toNat e.toNat), ?_, ?_, fun k => ?_⟩
      · rw [exec_barrierRelease_heard hon hpath hp, doBarrierRelease_of_some _ _ (by simpa using hb)]
      · obtain ⟨ts, hts⟩ := updMembers_eq (sigArrive s p) cd.val b.members (releaseTile g.toNat e.toNat)
        rw [hts]
      · rw [tileAt_updMembers _ _ _ (releaseTile_idem _ _)]
        simp only [vtileDie_sigArrive, physOf_sigArrive, tileAt_sigArrive, releaseTile, Bool.and_eq_true, decide_eq_true_eq, ite_and]
  · refine ⟨fun h => exec_flagNotify_unheard hp h, fun hon hpath hnext => ?_⟩
    rw [exec_flagNotify_heard hon hpath hnext hp, ← dieAt_sigArrive s p cd.val]
    cases hf : flagOf s f.toNat with
    | none =>
      refine ⟨_, rfl, ?_, fun _ => ?_, fun d k h => nomatch h⟩
      · rw [doFlagNotify_of_none v rfl (by simpa using hf)]
      · rw [doFlagNotify_of_none v rfl (by simpa using hf), setDie_tiles, sigArrive_tiles]
    | some d =>
      refine ⟨_, rfl, ?_, fun h => absurd h (Option.some_ne_none d), fun d' k h => ?_⟩
      · rw [doFlagNotify_of_some v rfl (d := d) (by simpa using hf)]
        obtain ⟨ts, hts⟩ := updMembers_eq (setDie (sigArrive s p) cd.val { dieAt (sigArrive s p) cd.val with
          flagCopy := tset (fun _ => 0) (dieAt (sigArrive s p) cd.val).flagCopy f.toNat v }) cd.val d.subs notifyTile
        rw [hts]
      · obtain rfl := Option.some.inj h
        rw [doFlagNotify_of_some v rfl (d := d) (by simpa using hf), tileAt_updMembers _ _ _ notifyTile_idem]
        simp only [vtileDie_setDie, physOf_setDie, tileAt_setDie, vtileDie_sigArrive, physOf_sigArrive, tileAt_sigArrive, notifyTile, Bool.and_eq_true,
          ite_and]

end Sys2Proof.Machine
end

section
/-! Requests at the stacks (R170 to R174, R191, R196): LOAD_REQ and STORE_REQ by what their stack is, REQ_DONE, and the timeout of a store (R132). -/
namespace Sys2Proof.Machine

section Arrive
variable (s : State) (p : SigPacket)

/-! What the arrival of a signal packet leaves of the memory base dies: it writes the dictionary, the packets on their way and the counter only. -/

@[simp] theorem setLostNow_sigArrive (n : Nat) : setLostNow (sigArrive s p) n = setLostNow s n := by simp [setLostNow]
@[simp] theorem stackWorks_sigArrive (m : Nat) : stackWorks (sigArrive s p) m = stackWorks s m := by simp [stackWorks, fencedSite, siteFenceAt]
@[simp] theorem stackServes_sigArrive (m : Nat) : stackServes (sigArrive s p) m = stackServes s m := by simp [stackServes]
@[simp] theorem addrSet_sigArrive (a : Nat) : addrSet (sigArrive s p) a = addrSet s a := by simp [addrSet, setBaseOf]
@[simp] theorem mapAddr_sigArrive (a : Nat) : mapAddr (sigArrive s p) a = mapAddr s a := by simp [mapAddr, setBaseOf]
@[simp] theorem rangeRefused_sigArrive (a len : Nat) : rangeRefused (sigArrive s p) a len = rangeRefused s a len := by simp [rangeRefused]
@[simp] theorem sharePositions_sigArrive (m a lines : Nat) : sharePositions (sigArrive s p) m a lines = sharePositions s m a lines := by
  simp [sharePositions]
@[simp] theorem bankHeldAt_sigArrive (m a : Nat) : bankHeldAt (sigArrive s p) m a = bankHeldAt s m a := by simp [bankHeldAt, bankHeld]
@[simp] theorem kindOf_sigArrive (flow : Nat) : kindOf (sigArrive s p) flow = kindOf s flow := by simp [kindOf]

end Arrive

/-- What the stack holds stays when data are queued. -/
@[simp] theorem stackQueue_held (st : Stack) (flow : Nat) (items : List TxFlit) : (stackQueue st flow items).held = st.held := by
  unfold stackQueue
  split <;> rfl

section Load
variable {s : State} {md : Nat} {r : Request}

theorem doLoadReq_of_lost (hl : setLostNow s (setOf md) = true) (hw : stackWorks s md = true) : doLoadReq s md r = loadLost s md r := by
  unfold doLoadReq
  rw [if_pos (by simp [hl, hw])]

theorem doLoadReq_of_closed (hs : stackServes s md = false) (h : ¬(setLostNow s (setOf md) = true ∧ stackWorks s md = true)) : doLoadReq s md r = s := by
  unfold doLoadReq
  rw [if_neg (by simpa using h), if_pos (by simp [hs])]

/-- A stack that serves is of a set that is not lost. -/
theorem setLostNow_of_stackServes (hs : stackServes s md = true) : setLostNow s (setOf md) = false := by
  simp only [stackServes, Bool.and_eq_true, Bool.not_eq_true'] at hs
  exact hs.2

theorem doLoadReq_of_serves (hs : stackServes s md = true) : doLoadReq s md r = loadHere s md r := by
  unfold doLoadReq
  rw [if_neg (by simp [setLostNow_of_stackServes hs]), if_neg (by simp [hs])]

theorem loadHere_of_refused (hr : rangeRefused s r.addr.toNat (64 * reqLines r) = true) :
    loadHere s md r = sendDone (raise s (siteMD md) 0x05 0x2C 1 false (lineDetail r.addr.toNat)) md r 2 := by
  unfold loadHere
  exact if_pos hr

variable {pos : List Nat} (hpos : pos = sharePositions s md r.addr.toNat (reqLines r))
include hpos

/-- A LOAD_REQ at a working stack of a lost set queues its share, free bytes marked poison, and is held (R196). -/
theorem loadLost_eq : loadLost s md r = bumpFree (updStack s md (fun st =>
    { stackQueue st r.flow.toNat (pos.map (fun i =>
        { dstSite := r.src.toNat, req := true, tile := r.tile, tag := r.tag, offset := i, flit := freePoison s.freeCtr i, last := false })) with
      held := st.held ++ [{ req := r, load := true, need := pos, got := [], poisoned := true, at_ := s.ticks }] })) := by
  subst hpos
  unfold loadLost
  simp only [updStack_updStack, stackQueue_held]
  rfl

variable (hr : rangeRefused s r.addr.toNat (64 * reqLines r) = false)
include hr

theorem loadHere_of_held (hh : pos.any (fun i => bankHeldAt s md (r.addr.toNat + 64 * i)) = true) :
    loadHere s md r = updStack s md (fun st => { st with bankWait := st.bankWait ++ [.load r] }) := by
  subst hpos
  unfold loadHere
  rw [if_neg (by simp [hr]), if_pos hh]
  rfl

variable (hh : pos.any (fun i => bankHeldAt s md (r.addr.toNat + 64 * i)) = false)
include hh

theorem loadHere_of_other_kind (hk : kindOf s r.flow.toNat ≠ .copy) : loadHere s md r = sendDone s md r 2 := by
  subst hpos
  unfold loadHere
  rw [if_neg (by simp [hr]), if_neg (by simp [hh])]
  split
  · exact absurd ‹_› hk
  · rfl

variable (hk : kindOf s r.flow.toNat = .copy)
include hk

theorem loadHere_of_no_share (he : pos = []) : loadHere s md r = sendDone s md r 0 := by
  unfold loadHere
  rw [if_neg (by simp [hr]), ← hpos, if_neg (by simp [hh]), hk]
  exact if_pos (by simp [he])

theorem loadHere_of_share (he : pos ≠ []) {x : List TxFlit × Bool × State} (hx : x = List.foldl (loadLine md r) ([], false, s) pos) :
    loadHere s md r = if (stackAt x.2.2 md).failed then x.2.2 else updStack x.2.2 md (fun st => { stackQueue st r.flow.toNat x.1 with
      held := st.held ++ [{ req := r, load := true, need := pos, got := [], poisoned := x.2.1, at_ := s.ticks }] }) := by
  unfold loadHere
  rw [if_neg (by simp [hr]), ← hpos, if_neg (by simp [hh]), hk]
  subst hx
  exact if_neg (by simp [he])

end Load

section Store
variable {s : State} {md : Nat} {r : Request}

theorem doStoreReq_of_lost (hl : setLostNow s (setOf md) = true) (hw : stackWorks s md = true) (ha : isAtomicKind (kindOf s r.flow.toNat) = false) :
    doStoreReq s md r = sendDone s md r 2 := by
  unfold doStoreReq
  exact if_pos (by simp [hl, hw, ha])

theorem doStoreReq_of_closed (hs : stackServes s md = false) (h : ¬(setLostNow s (setOf md) = true ∧ stackWorks s md = true)) :
    doStoreReq s md r = s := by
  have hlost : (setLostNow s (setOf md) && stackWorks s md) = false := by simpa using h
  unfold doStoreReq
  rw [if_neg (by simp [hlost]), if_pos (by simp [hlost, hs])]

variable (h : stackServes s md = true ∨ (setLostNow s (setOf md) = true ∧ stackWorks s md = true ∧ isAtomicKind (kindOf s r.flow.toNat) = true))
include h

/-- A stack that serves, and one of a lost set on an ATOMIC flow, judges the range and holds its share. -/
theorem doStoreReq_of_taken {pos : List Nat}
    (hpos : pos = if isAtomicKind (kindOf s r.flow.toNat) then List.range (reqLines r) else sharePositions s md r.addr.toNat (reqLines r)) :
    doStoreReq s md r =
      if rangeRefused s r.addr.toNat (64 * reqLines r) then sendDone (raise s (siteMD md) 0x05 0x2C 1 false (lineDetail r.addr.toNat)) md r 2
      else if pos.isEmpty then sendDone s md r 0
      else updStack s md (fun st => { st with
        held := st.held ++ [{ req := r, load := false, need := pos, got := [], poisoned := false, at_ := s.ticks }] }) := by
  subst hpos
  unfold doStoreReq
  rcases h with hs | ⟨hl, hw, ha⟩
  · rw [if_neg (by simp [setLostNow_of_stackServes hs]), if_neg (by simp [hs])]; rfl
  · rw [if_neg (by simp [ha]), if_neg (by simp [hl, hw])]; rfl

end Store

/-- A line of a store that did not come is written poison-marked with free bytes (R132). -/
def writeMissing (ctr md : Nat) (h : Held) (s : State) (i : Nat) : State :=
  match mapAddr s (h.req.addr.toNat + 64 * i) with
  | some (_, o) => memWriteLine s md (o / 64) ((List.range 64).map (fun b => Config.freeByte ctr (64 * i + b))) true
  | none => s

section Timeout
variable {s : State} {md : Nat} {src : BitVec 7} {tile : BitVec 6} {tag : BitVec 10}

theorem doStoreTimeout_of_none
    (h : (stackAt s md).held.find? (fun h => !h.load && h.req.src == src && h.req.tile == tile && h.req.tag == tag) = none) :
    doStoreTimeout s md src tile tag = s := by
  simp only [doStoreTimeout, h]

variable {h : Held} (hh : (stackAt s md).held.find? (fun h => !h.load && h.req.src == src && h.req.tile == tile && h.req.tag == tag) = some h)
include hh

theorem doStoreTimeout_of_early (he : s.ticks < h.at_ + 20000 ∨ stackWorks s md = false) : doStoreTimeout s md src tile tag = s := by
  simp only [doStoreTimeout, hh]
  exact if_pos (by simpa using he)

variable (hl : h.at_ + 20000 ≤ s.ticks) (hw : stackWorks s md = true)
include hl hw

theorem doStoreTimeout_of_unwritten (ha : isAtomicKind (kindOf s h.req.flow.toNat) = true ∨ setLostNow s (setOf md) = true) :
    doStoreTimeout s md src tile tag = bumpFree (closeHeld s md { h with poisoned := true }) := by
  simp only [doStoreTimeout, hh]
  rw [if_neg (by simp only [hw, Bool.not_true, Bool.false_eq_true, or_false]; omega), if_pos (by simpa using ha)]

theorem doStoreTimeout_of_written (ha : isAtomicKind (kindOf s h.req.flow.toNat) = false) (hs : setLostNow s (setOf md) = false) :
    doStoreTimeout s md src tile tag = bumpFree (closeHeld
      (List.foldl (writeMissing s.freeCtr md h) s (h.need.filter (fun i => !h.got.contains i))) md { h with poisoned := true }) := by
  simp only [doStoreTimeout, hh]
  rw [if_neg (by simp only [hw, Bool.not_true, Bool.false_eq_true, or_false]; omega), if_neg (by simp [ha, hs])]
  rfl

end Timeout

section Done
variable {s : State} {cd md : Nat} {tag : BitVec 10} (status : BitVec 2)

theorem reqDone_of_none (h : (dieAt s cd).reqs.find? (fun r => r.tag == tag && r.waiting.contains md) = none) : reqDone s cd md tag status = s := by
  simp only [reqDone, h]

theorem reqDone_of_waiting {r r' : DieReq} (h : (dieAt s cd).reqs.find? (fun r => r.tag == tag && r.waiting.contains md) = some r)
    (hr : r' = { r with waiting := r.waiting.erase md, worst := worseStatus r.worst status }) {u : State}
    (hu : u = setDie s cd { dieAt s cd with reqs := (dieAt s cd).reqs.map (fun x => if x.tag = r.tag then r' else x) }) :
    reqDone s cd md tag status = if reqComplete r' then finishReq u cd r' else pumpReqs cd u := by
  subst hr hu
  simp only [reqDone, h]

end Done

section Commands
variable {s : State} {md : Fin 24} {r : Request}

theorem exec_loadReq_of_no_path (h : sigPath s r.src.toNat (siteMD md.val) = false) : exec (.loadReq md r) s = .next s :=
  congrArg Host.Outcome.next (if_pos (by simp [h]))

theorem exec_loadReq_of_path (h : sigPath s r.src.toNat (siteMD md.val) = true) :
    exec (.loadReq md r) s = .next (doLoadReq (sigArrive s (requestPacket md.val r true)) md.val r) :=
  congrArg Host.Outcome.next (if_neg (by simp [h]))

theorem exec_storeReq_of_no_path (h : sigPath s r.src.toNat (siteMD md.val) = false) : exec (.storeReq md r) s = .next s :=
  congrArg Host.Outcome.next (if_pos (by simp [h]))

theorem exec_storeReq_of_path (h : sigPath s r.src.toNat (siteMD md.val) = true) :
    exec (.storeReq md r) s = .next (doStoreReq (sigArrive s (requestPacket md.val r false)) md.val r) :=
  congrArg Host.Outcome.next (if_neg (by simp [h]))

variable {cd : Fin 16} (tile : BitVec 6) (tag : BitVec 10) (status : BitVec 2)

theorem exec_reqDone_of_no_path (h : sigPath s (siteMD md.val) (siteCD cd.val) = false) : exec (.reqDone cd md tile tag status) s = .next s :=
  congrArg Host.Outcome.next (if_pos (by simp [h]))

theorem exec_reqDone_of_path (h : sigPath s (siteMD md.val) (siteCD cd.val) = true) :
    exec (.reqDone cd md tile tag status) s = .next (reqDone (sigArrive s (donePacket md.val
      { src := BitVec.ofNat 7 (siteCD cd.val), tile := tile, tag := tag, flow := 0, linesM1 := 0, addr := 0 } status.toNat))
      cd.val md.val tag status) :=
  congrArg Host.Outcome.next (if_neg (by simp [h]))

end Commands

/-- Settles O16: the packet arrives, and then each clause is one branch of the request, the answer or the timeout. -/
theorem stackRequests : Obligations.StackRequests := by
  refine ⟨fun md r s a pos ha hpos => ⟨exec_loadReq_of_no_path, fun hpath => ?_⟩, fun md r s a pos ha hpos => ⟨exec_storeReq_of_no_path, fun hpath => ?_⟩,
    fun cd md tile tag status s a ha => ⟨exec_reqDone_of_no_path tile tag status, fun hpath => ?_⟩, fun md src tile tag s o ho => ?_⟩
  · rw [exec_loadReq_of_path hpath, ← ha]
    simp only [← sharePositions_sigArrive s (requestPacket md.val r true), ← ha] at hpos
    simp only [← setLostNow_sigArrive s (requestPacket md.val r true), ← stackWorks_sigArrive s (requestPacket md.val r true),
      ← stackServes_sigArrive s (requestPacket md.val r true), ← rangeRefused_sigArrive s (requestPacket md.val r true),
      ← bankHeldAt_sigArrive s (requestPacket md.val r true), ← kindOf_sigArrive s (requestPacket md.val r true),
      ← sigArrive_ticks s (requestPacket md.val r true), ← sigArrive_freeCtr s (requestPacket md.val r true), ← ha]
    refine ⟨fun hl hw => ?_, fun hs hn => ?_, fun hs => ?_⟩
    · rw [doLoadReq_of_lost hl hw, loadLost_eq hpos]
    · rw [doLoadReq_of_closed hs hn]
    · rw [doLoadReq_of_serves hs]
      refine ⟨fun hr => ?_, fun hr hh => ?_, fun hr hh => ⟨fun hk => ?_, fun hk he => ?_, fun x hk he hx => ?_⟩⟩
      · rw [loadHere_of_refused hr]
      · rw [loadHere_of_held hpos hr hh]
      · rw [loadHere_of_other_kind hpos hr hh hk]
      · rw [loadHere_of_no_share hpos hr hh hk he]
      · rw [loadHere_of_share hpos hr hh hk he hx]
  · rw [exec_storeReq_of_path hpath, ← ha]
    simp only [← sharePositions_sigArrive s (requestPacket md.val r false), ← kindOf_sigArrive s (requestPacket md.val r false), ← ha] at hpos
    simp only [← setLostNow_sigArrive s (requestPacket md.val r false), ← stackWorks_sigArrive s (requestPacket md.val r false),
      ← stackServes_sigArrive s (requestPacket md.val r false), ← rangeRefused_sigArrive s (requestPacket md.val r false),
      ← kindOf_sigArrive s (requestPacket md.val r false), ← sigArrive_ticks s (requestPacket md.val r false), ← ha]
    refine ⟨fun hl hw hk => ?_, fun hs hn => ?_, fun ht => ?_⟩
    · rw [doStoreReq_of_lost hl hw hk]
    · rw [doStoreReq_of_closed hs hn]
    · rw [doStoreReq_of_taken ht hpos]
      refine ⟨fun hr => ?_, fun hr he => ?_, fun hr he => ?_⟩
      · rw [if_pos hr]
      · rw [if_neg (by simp [hr]), if_pos (by simp [he])]
      · rw [if_neg (by simp [hr]), if_neg (by simp [he])]
  · rw [exec_reqDone_of_path tile tag status hpath, ← ha]
    rw [show dieAt s cd.val = dieAt a cd.val by rw [ha, dieAt_sigArrive]]
    refine ⟨fun h => ?_, fun q q' u h hq hu => ?_⟩
    · rw [reqDone_of_none status h]
    · rw [reqDone_of_waiting status h hq hu]
  · subst ho
    refine ⟨fun h => ?_, fun h hh he => ?_, fun h hh hl hw => ⟨fun hu => ?_, fun hu hs => ?_⟩⟩
    · exact congrArg Host.Outcome.next (doStoreTimeout_of_none h)
    · exact congrArg Host.Outcome.next (doStoreTimeout_of_early hh he)
    · exact congrArg Host.Outcome.next (doStoreTimeout_of_unwritten hh hl hw hu)
    · exact congrArg Host.Outcome.next (doStoreTimeout_of_written hh hl hw hu hs)

end Sys2Proof.Machine
end

section
/-! A CONTROL packet to every die (R379): what it does rests on whether some die takes it. -/
namespace Sys2Proof.Machine

section Take
variable {r : Bool × State} {s1 : State} (f : State → State)

theorem ite_of_taken (h : r = (true, s1)) : (if r.1 then f r.2 else r.2) = f s1 := by rw [h]; rfl

theorem ite_of_untaken (h : r = (false, s1)) : (if r.1 then f r.2 else r.2) = s1 := by rw [h]; rfl

end Take

end Sys2Proof.Machine
end

section
/-! A burst arrives (R112, R113, R114): what a port of the module does with one, and what an external link does with one (R232). -/
namespace Sys2Proof.Machine

section Port
variable (s : State) (q : Nat) (e : Option Nat) (bits : BitVec 14336)

/-- The state in which the burst on its way to a port has reached it. -/
def burstTaken : State := { s with sent := takeSlot q s.sent }

/-- A burst of the running slot is discarded by a condition of R113, and breaks the path of a house pair. -/
def burstDiscarded (c : Nat) (read : Option (SlotHeader × List Flit)) : State :=
  breakPath (discardSlot s s.slotNow.val q c e) s.slotNow.val q e read

/-- Corrected symbols of a burst that could be read are counted for its sender (R131). -/
def burstCounted (r : Received) : State := match e with | some p => countCorrected s p q r.wrong | none => s

/-- What a port in service does with a burst whose check is right, its corrected symbols counted in `u` (R113, R114). -/
def burstChecked (u : State) (r : Received) : State :=
  match badCondition u s.slotNow.val q r.mark (natHead r.head) with
  | some c => breakPath (discardSlot u s.slotNow.val q c e) s.slotNow.val q e (some (natHead r.head, receivedFlits r))
  | none => if (natHead r.head).kind = 1 then deliverFlow u q (natHead r.head) (receivedFlits r)
    else if (natHead r.head).kind = 2 then deliverHouseSlot u q (natHead r.head) (receivedFlits r)
    else u

/-- What a port in service does with what its code could read of the burst it expected from `e` (R113). -/
def burstRead : Option Received → State
  | none => burstDiscarded s q e 1 none
  | some r => if !r.checkOk then burstDiscarded s q e 1 none else burstChecked s q e (burstCounted s q e r) r

theorem doSlotBurst_eq : doSlotBurst s q bits =
    let u := burstTaken s q
    let e := expectedSender u s.slotNow.val q
    if !portRuns s q ∨ !s.light.cal.blendRuns then u
    else burstRead u q e (if (q :: e.toList).any (darkPort s) || e.any (portLatched s) then none else receive bits) := rfl

variable {s q e bits}

theorem doSlotBurst_of_closed (h : portRuns s q = false ∨ s.light.cal.blendRuns = false) : doSlotBurst s q bits = burstTaken s q := by
  rw [doSlotBurst_eq]
  exact if_pos (by simpa using h)

section Running
variable (hr : portRuns s q = true) (hb : s.light.cal.blendRuns = true) (he : e = expectedSender (burstTaken s q) s.slotNow.val q)
include hr hb he

/-- What a dark tile's port or a latched barista's sends, or a dark tile's port receives, cannot be read (R158, R375). -/
theorem doSlotBurst_of_dark (h : (q :: e.toList).any (darkPort s) = true ∨ e.any (portLatched s) = true) :
    doSlotBurst s q bits = burstDiscarded (burstTaken s q) q e 1 none := by
  subst he
  rw [doSlotBurst_eq]
  exact (if_neg (by simp [hr, hb])).trans (congrArg _ (if_pos (by simpa only [Bool.or_eq_true] using h)))

theorem doSlotBurst_of_lit (hd : (q :: e.toList).any (darkPort s) = false) (hl : e.any (portLatched s) = false) :
    doSlotBurst s q bits = burstRead (burstTaken s q) q e (receive bits) := by
  subst he
  rw [doSlotBurst_eq]
  exact (if_neg (by simp [hr, hb])).trans (congrArg _ (if_neg (by simp only [hd, hl, Bool.or_self, Bool.false_eq_true, not_false_eq_true])))

end Running

theorem exec_slotBurst_of_port {q : Fin 366} (h : q.val < 350) : exec (.slotBurst q bits) s = .next (drainSlots (doSlotBurst s q.val bits)) :=
  congrArg Host.Outcome.next (if_pos h)

end Port

section Link
variable (s : State) (l : Nat)

/-- The state in which an accepted burst of a frame has brought the far end's changes of lines (R236). -/
def extChanged (r : Received) : State :=
  if (extCondition s l r.mark (natHead r.head)).isNone then takeRxChanges s l (natHead r.head).frame.toNat else s

/-- Corrected symbols of an external burst count against the port itself (R236). -/
def extCounted (r : Received) : State := countLines (extChanged s l r) (extLane (extChanged s l r) l) (linkPort l) (linkPort l) r.wrong

/-- An accepted burst is the one from which the next are predicted (R232). -/
def extPredicted (u : State) (r : Received) : LinkSt :=
  { linkAt u l with predict := some ((natHead r.head).frame.toNat * 64 + r.mark.toNat % 64, u.ticks) }

/-- What a link in service does with a burst whose check is right, its changes taken and its corrected symbols counted in `u` (R113, R234). -/
def extChecked (u : State) (r : Received) : State :=
  match extCondition s l r.mark (natHead r.head) with
  | some c => extDiscard u l c (some (natHead r.head, receivedFlits r))
  | none =>
    let v := setLink u l (takeCounts (extPredicted l u r) (natHead r.head))
    if (natHead r.head).kind = 2 then
      (joinStream v l (headOf (natHead r.head)) (receivedFlits r)).1.foldl (fun w p => emit w (.fabIn l p)) (joinStream v l (headOf (natHead r.head)) (receivedFlits r)).2
    else setLink u l (extPredicted l u r)

/-- What a link in service does with what its code could read of a burst. -/
def extRead : Option Received → State
  | none => extDiscard s l 1 none
  | some r => if !r.checkOk then extDiscard s l 1 none else extChecked s l (extCounted s l r) r

variable {s l} (bits : BitVec 14336)

theorem doExtBurst_of_out (h : (linkAt s l).mode = .down ∨ fdUp s (linkFd l) = false) : doExtBurst s l bits = s :=
  if_pos (by simpa using h)

theorem doExtBurst_of_lit (hm : (linkAt s l).mode ≠ .down) (hf : fdUp s (linkFd l) = true) : doExtBurst s l bits = extRead s l (receive bits) := by
  unfold doExtBurst
  rw [if_neg (by simp [hm, hf])]
  cases receive bits <;> rfl

theorem exec_slotBurst_of_link {q : Fin 366} (h : q.val = 350 + l) : exec (.slotBurst q bits) s = .next (doExtBurst s l bits) := by
  have hl : q.val - 350 = l := by omega
  exact congrArg Host.Outcome.next ((if_neg (by omega)).trans (by rw [hl]))

end Link

/-- Settles O19: at a port of the module, by whether it is in service, whether the burst can be read and what it is; then what a discard
counts; then the same of an external link. -/
theorem slotsArrive : Obligations.SlotsArrive := by
  refine fun q bits s => ⟨?_, fun c sender => rfl, fun l hl => ⟨fun h => ?_, fun hm hf => ?_⟩⟩
  · rintro hq _ e _ rfl he rfl
    rw [exec_slotBurst_of_port hq]
    refine ⟨fun h => ?_, fun hr hb => ⟨fun h => ?_, fun hd hp => ?_⟩⟩
    · rw [doSlotBurst_of_closed h]; rfl
    · rw [doSlotBurst_of_dark hr hb he h]; rfl
    · rw [doSlotBurst_of_lit hr hb he hd hp]
      cases receive bits with
      | none => rfl
      | some r => simp only [burstRead, Bool.not_eq_true']; rfl
  · rw [exec_slotBurst_of_link bits hl, doExtBurst_of_out bits h]
  · rw [exec_slotBurst_of_link bits hl, doExtBurst_of_lit bits hm hf]
    cases receive bits with
    | none => rfl
    | some r => simp only [extRead, Bool.not_eq_true']; rfl

end Sys2Proof.Machine
end

section
/-! Slot tables at a base tile (R122 to R128, R471): header and rows slots, the checks of a whole set, TABLE_SWAP, TABLE_CLEAR, and the verdicts
at the engine that loads the set. -/
namespace Sys2Proof.Machine

section Slots
variable {s : State} {bt : Nat} {src : BitVec 7} {fs : List Flit} {f0 : List Byte}

theorem takeRows_of_claimed (h : claimedByOther (shadowOf s bt) src = true) : takeRows s bt src fs = bump s Obj.slotsMisdelivered := if_pos h

variable (hf : f0 = (fs.getD 0 { data := [], poison := false }).data)
include hf

theorem takeHeader_of_claimed (h : claimedByOther (shadowOf s bt) src = true) :
    takeHeader s bt src fs = sendVerdict (bump s Obj.slotsMisdelivered) bt src.toNat (leAt f0 0 1) 3 0 := by
  subst hf; exact if_pos h

theorem takeHeader_of_armed (h : claimedByOther (shadowOf s bt) src = false) (ha : (shadowOf s bt).state = .armed) :
    takeHeader s bt src fs = sendVerdict s bt src.toNat (leAt f0 0 1) 3 0 := by
  subst hf; exact (if_neg (by simp [h])).trans (if_pos ha)

theorem takeHeader_of_free (h : claimedByOther (shadowOf s bt) src = false) (ha : (shadowOf s bt).state ≠ .armed) :
    takeHeader s bt src fs = setShadow s bt {
      state := .loading, gen := BitVec.ofNat 8 (leAt f0 0 1), owner := src, header := slice ((fs.drop 1).flatMap (·.data)) 0 128
      entries := [], rows := [], badCheck := !slotCheckOk fs, swapAt := 0 } := by
  subst hf; exact (if_neg (by simp [h])).trans (if_neg ha)

variable (h : claimedByOther (shadowOf s bt) src = false)
include h

theorem takeRows_of_stranger (hn : ¬((shadowOf s bt).owner = src ∧ (shadowOf s bt).state = .loading ∧ (shadowOf s bt).gen.toNat = leAt f0 0 1)) :
    takeRows s bt src fs = s := by
  subst hf; exact (if_neg (by simp [h])).trans (if_neg hn)

theorem takeRows_of_sender (ho : (shadowOf s bt).owner = src) (hl : (shadowOf s bt).state = .loading) (hg : (shadowOf s bt).gen.toNat = leAt f0 0 1)
    {rows : List Nat} (hr : rows = (List.range (leAt f0 4 1)).filter (fun i => decide (leAt f0 2 2 + i < 350))) :
    takeRows s bt src fs = setShadow s bt { shadowOf s bt with
      entries := rows.foldl (fun es i => storeRow es (leAt f0 2 2 + i) (slice ((fs.drop 1).flatMap (·.data)) (256 * i) 256)) (shadowOf s bt).entries
      rows := rows.foldl (fun rs i => addPos rs (leAt f0 2 2 + i)) (shadowOf s bt).rows
      badCheck := (shadowOf s bt).badCheck || !slotCheckOk fs } := by
  subst hf hr; exact (if_neg (by simp [h])).trans (if_pos ⟨ho, hl, hg⟩)

end Slots

section Checked
variable {s : State} {bt : Nat}

theorem doTableChecked_of_part (h : (shadowOf s bt).state ≠ .loading ∨ (shadowOf s bt).rows.length < 350) : doTableChecked s bt = s := if_pos h

variable (hl : (shadowOf s bt).state = .loading) (hr : 350 ≤ (shadowOf s bt).rows.length)
include hl hr

theorem doTableChecked_of_sound (h : rejectCause s bt (shadowOf s bt) = 0) :
    doTableChecked s bt = sendVerdict
      (setShadow s bt { shadowOf s bt with state := if setRejected s (shadowOf s bt) then .rejected else .accepted })
      bt (shadowOf s bt).owner.toNat (shadowOf s bt).gen.toNat 0 0 :=
  (if_neg (by simp [hl, hr])).trans (if_pos h)

theorem doTableChecked_of_cause (h : rejectCause s bt (shadowOf s bt) ≠ 0) :
    doTableChecked s bt = sendVerdict (rejectWhole
      (setShadow (if setRejected s (shadowOf s bt) then s else bump s Obj.tableRejects) bt { shadowOf s bt with state := .rejected }) (shadowOf s bt))
      bt (shadowOf s bt).owner.toNat (shadowOf s bt).gen.toNat 1 (rejectCause s bt (shadowOf s bt)) :=
  (if_neg (by simp [hl, hr])).trans (if_neg h)

end Checked

section Swap
variable {s : State} {bt : Nat} {src : BitVec 7} {gen : BitVec 8} {t : Word}

theorem doTableSwap_of_armed (h : (shadowOf s bt).state = .armed ∧ (shadowOf s bt).gen = gen ∧ (shadowOf s bt).owner = src ∧ (shadowOf s bt).swapAt = t) :
    doTableSwap s bt src gen t = s := if_pos h

theorem doTableSwap_of_accepted (ht : s.now.toNat + 512 ≤ t.toNat) (ha : (shadowOf s bt).state = .accepted) (hg : (shadowOf s bt).gen = gen)
    (ho : (shadowOf s bt).owner = src) : doTableSwap s bt src gen t = setShadow s bt { shadowOf s bt with state := .armed, swapAt := t } :=
  (if_neg (by simp [ha])).trans ((if_neg (by omega)).trans (if_pos ⟨ha, hg, ho⟩))

/-- A swap too late is refused with RESULT 2, one of no accepted set with RESULT 1 and cause 8 (R127). -/
theorem doTableSwap_of_refused
    (hn : ¬((shadowOf s bt).state = .armed ∧ (shadowOf s bt).gen = gen ∧ (shadowOf s bt).owner = src ∧ (shadowOf s bt).swapAt = t))
    (h : t.toNat < s.now.toNat + 512 ∨ (shadowOf s bt).state ≠ .accepted ∨ (shadowOf s bt).gen ≠ gen ∨ (shadowOf s bt).owner ≠ src) :
    doTableSwap s bt src gen t = raise
      (updBt (if s.now.toNat + 512 > t.toNat then sendVerdict s bt src.toNat gen.toNat 2 0 else sendVerdict s bt src.toNat gen.toNat 1 (causeWord 8 0 0))
        bt (fun b => { b with unswapped := some t })) bt 0x03 0x1D 5 false (bt + gen.toNat * 8) := by
  refine (if_neg hn).trans ?_
  by_cases ht : s.now.toNat + 512 > t.toNat
  · rw [if_pos ht, if_pos ht]
  · have ha : ¬((shadowOf s bt).state = .accepted ∧ (shadowOf s bt).gen = gen ∧ (shadowOf s bt).owner = src) := by
      rintro ⟨ha, hg, ho⟩
      simp only [ha, hg, ho, ne_eq, not_true, or_false] at h
      omega
    rw [if_neg ht, if_neg ht, if_neg ha]

end Swap

/-! TABLE_CLEAR: a tile's shadow is emptied or not by what that shadow holds, whichever tiles come before it. -/

/-- Does a TABLE_CLEAR empty a shadow (R128)? -/
def clearsShadow (src : BitVec 7) (gen : BitVec 8) (owner : BitVec 7) (active : Nat) (h : Shadow) : Bool :=
  decide ((hostOf src).isSome ∧ h.owner = src ∧ h.gen = gen ∧ h.state ≠ .armed ∨ hostOf src = none ∧ src.toNat = active ∧ h.owner = owner ∧ owner ≠ 0x7F)

/-- A base tile whose shadow is emptied where a test says so. -/
def clearedTile (c : Shadow → Bool) (b : BaseTile) : BaseTile := if c b.shadow then { b with shadow := {} } else b

/-- One tile's part of a clear, by a test of the active barista's site and of the shadow. -/
def clearWhere (c : Nat → Shadow → Bool) (s : State) (bt : Nat) : State := if c (activeSite s) (shadowOf s bt) then clearShadow s bt else s

theorem doTableClear_eq (s : State) (src : BitVec 7) (gen : BitVec 8) (owner : BitVec 7) :
    doTableClear s src gen owner = (List.range 8).foldl (clearWhere (fun active => clearsShadow src gen owner active)) s := by
  unfold doTableClear overNats
  congr 1
  funext u bt
  unfold clearWhere clearsShadow
  cases hostOf src <;> simp

section Clear
variable (c : Nat → Shadow → Bool)

theorem clearedTile_idem (c : Shadow → Bool) (b : BaseTile) : clearedTile c (clearedTile c b) = clearedTile c b := by
  by_cases h : c b.shadow = true
  · simp only [clearedTile, h, if_true, ite_self]
  · simp only [clearedTile, h, Bool.false_eq_true, if_false]

theorem clearWhere_eq (s : State) (bt : Nat) : ∃ bts, clearWhere c s bt = { s with bts := bts } := by
  unfold clearWhere
  split
  · exact ⟨_, rfl⟩
  · exact ⟨s.bts, rfl⟩

theorem activeSite_clearWhere (s : State) (bt : Nat) : activeSite (clearWhere c s bt) = activeSite s := by
  obtain ⟨bts, h⟩ := clearWhere_eq c s bt
  rw [h]; rfl

theorem btAt_clearWhere (s : State) (bt k : Nat) :
    btAt (clearWhere c s bt) k = if k = bt then clearedTile (c (activeSite s)) (btAt s k) else btAt s k := by
  unfold clearWhere
  split
  case isTrue hc =>
    by_cases hk : k = bt
    · subst hk
      exact (btAt_updBt s k _).trans (((if_pos rfl).trans (if_pos hc)).symm)
    · exact (btAt_updBt_ne s _ hk).trans (if_neg hk).symm
  case isFalse hc =>
    by_cases hk : k = bt
    · subst hk
      exact ((if_pos rfl).trans (if_neg hc)).symm
    · exact (if_neg hk).symm

theorem foldl_clearWhere_eq (l : List Nat) (s : State) : ∃ bts, l.foldl (clearWhere c) s = { s with bts := bts } := by
  induction l generalizing s with
  | nil => exact ⟨s.bts, rfl⟩
  | cons b l ih =>
    obtain ⟨bts, h⟩ := ih (clearWhere c s b)
    obtain ⟨bts', h'⟩ := clearWhere_eq c s b
    exact ⟨bts, h.trans (by rw [h'])⟩

theorem btAt_foldl_clearWhere (l : List Nat) (s : State) (k : Nat) :
    btAt (l.foldl (clearWhere c) s) k = if k ∈ l then clearedTile (c (activeSite s)) (btAt s k) else btAt s k := by
  induction l generalizing s with
  | nil => simp
  | cons b l ih =>
    rw [List.foldl_cons, ih, activeSite_clearWhere, btAt_clearWhere]
    by_cases hk : k = b
    · simp [hk, clearedTile_idem]
    · simp [hk]

end Clear

section ClearTaken
variable {src : BitVec 7} {seq : BitVec 32} {gen : BitVec 8} {owner : BitVec 7} {s s1 : State}

theorem exec_tableClear_of_untaken
    (h : ctrlTakeAll (sigArrive s (ctrlPacket src.toNat 0x7F 0x32 seq (gen.toNat + owner.toNat * 256) [])) src seq = (false, s1)) :
    exec (.tableClear src seq gen owner) s = .next s1 :=
  congrArg Host.Outcome.next (ite_of_untaken (fun u => doTableClear u src gen owner) h)

theorem exec_tableClear_of_taken
    (h : ctrlTakeAll (sigArrive s (ctrlPacket src.toNat 0x7F 0x32 seq (gen.toNat + owner.toNat * 256) [])) src seq = (true, s1)) :
    exec (.tableClear src seq gen owner) s = .next ((List.range 8).foldl (clearWhere (fun active => clearsShadow src gen owner active)) s1) :=
  congrArg Host.Outcome.next ((ite_of_taken (fun u => doTableClear u src gen owner) h).trans (doTableClear_eq s1 src gen owner))

end ClearTaken

section Verdict
variable (s : State) (p : SigPacket)

@[simp] theorem loadOf_sigArrive (hd gen : Nat) : loadOf (sigArrive s p) hd gen = loadOf s hd gen := by simp [loadOf]

variable {s} {hd gen : Nat} (bt result : Nat) (cause : Word)

theorem doVerdict_of_no_load (h : ∀ j, loadOf s hd gen = some j → j.loading = none) : doVerdict s hd bt gen result cause = s := by
  unfold doVerdict
  cases hl : loadOf s hd gen with
  | none => rfl
  | some j => simp only [h j hl]

variable {j : Job} {v : Nat} (hl : loadOf s hd gen = some j) (hv : j.loading = some v)
include hl hv

theorem doVerdict_of_busy :
    doVerdict s hd bt gen 3 cause = queueTables (setJob s { j with busy := addPos j.busy bt }) hd [bt] gen j.tableBuf.1 j.tableBuf.2 := by
  simp only [doVerdict, hl, hv]; rfl

theorem doVerdict_of_rejected :
    doVerdict s hd bt gen 1 cause =
      if j.phase = .loading then finishJob s 5 (cause.toNat % 2 ^ 32) else releaseShadow (setJob s { j with loading := none }) hd := by
  simp only [doVerdict, hl, hv]; rfl

theorem doVerdict_of_accepted {s1 : State} (h1 : s1 = setJob s { j with verdicts := tput j.verdicts bt 0 }) :
    doVerdict s hd bt gen 0 cause =
      if (soundTiles s1).all (fun b => (tfind (tput j.verdicts bt 0) b).isSome) then
        if j.phase = .loading then goStart s1 true j.loadGen else setJob s1 { j with verdicts := tput j.verdicts bt 0, loading := none }
      else s1 := by
  subst h1
  simp only [doVerdict, hl, hv]; rfl

theorem doVerdict_of_other (h0 : result ≠ 0) (h1 : result ≠ 1) (h3 : result ≠ 3) : doVerdict s hd bt gen result cause = s := by
  simp only [doVerdict, hl, hv, h0, h1, h3, if_false]

end Verdict

/-- Settles O20: header and rows slots by who holds the shadow, a whole set by its cause, TABLE_SWAP by what it finds, TABLE_CLEAR tile by
tile, and a verdict by its RESULT. -/
theorem slotTables : Obligations.SlotTables := by
  refine ⟨?_, ?_, fun s bt site gen cause => rfl, ?_, ?_, ?_⟩
  · rintro bt src fs s f0 _ _ hf rfl rfl
    refine ⟨fun h => ⟨?_, ?_⟩, fun h => ⟨fun ha => ?_, fun ha => ?_, fun hn => ?_, fun rows ho hl hg hr => ?_⟩⟩
    · exact congrArg Host.Outcome.next (takeHeader_of_claimed hf h)
    · exact congrArg Host.Outcome.next (takeRows_of_claimed h)
    · exact congrArg Host.Outcome.next (takeHeader_of_armed hf h ha)
    · exact congrArg Host.Outcome.next (takeHeader_of_free hf h ha)
    · exact congrArg Host.Outcome.next (takeRows_of_stranger hf h hn)
    · exact congrArg Host.Outcome.next (takeRows_of_sender hf h ho hl hg hr)
  · rintro bt s _ rfl
    refine ⟨fun h => ?_, fun hl hr h => ?_, fun hl hr h => ?_⟩
    · exact congrArg Host.Outcome.next (doTableChecked_of_part h)
    · exact congrArg Host.Outcome.next (doTableChecked_of_sound hl hr h)
    · exact congrArg Host.Outcome.next (doTableChecked_of_cause hl hr h)
  · rintro bt src gen t s _ rfl
    refine ⟨fun ht ha hg ho => ?_, fun h => ?_, fun hn h => ?_⟩
    · exact congrArg Host.Outcome.next (doTableSwap_of_accepted ht ha hg ho)
    · exact congrArg Host.Outcome.next (doTableSwap_of_armed h)
    · exact congrArg Host.Outcome.next (doTableSwap_of_refused hn h)
  · refine fun src seq gen owner s s1 => ⟨exec_tableClear_of_untaken, fun h => ⟨_, exec_tableClear_of_taken h, ?_, fun k hk => ?_⟩⟩
    · obtain ⟨bts, hb⟩ := foldl_clearWhere_eq (fun active => clearsShadow src gen owner active) (List.range 8) s1
      rw [hb]
    · rw [btAt_foldl_clearWhere, if_pos (List.mem_range.mpr hk)]
      simp only [clearedTile, clearsShadow, decide_eq_true_eq]
      rfl
  · rintro hd bt seq gen result cause s a rfl
    refine ⟨fun h => ?_, fun j v hl hv => ?_⟩
    · exact congrArg Host.Outcome.next (doVerdict_of_no_load _ _ _ (by simpa using h))
    · rw [← loadOf_sigArrive s (ctrlPacket bt.val (siteHD hd.val) 0x30 seq (gen.toNat + result.toNat * 256) [cause])] at hl
      refine ⟨?_, ?_, ?_, fun h0 h1 h3 => ?_⟩
      · rintro rfl
        exact congrArg Host.Outcome.next (doVerdict_of_busy _ _ hl hv)
      · rintro rfl
        exact congrArg Host.Outcome.next (doVerdict_of_rejected _ _ hl hv)
      · rintro rfl s1 hs
        exact congrArg Host.Outcome.next (doVerdict_of_accepted _ _ hl hv hs)
      · exact congrArg Host.Outcome.next (doVerdict_of_other _ _ _ hl hv (by simpa [← BitVec.toNat_inj] using h0)
          (by simpa [← BitVec.toNat_inj] using h1) (by simpa [← BitVec.toNat_inj] using h3))

end Sys2Proof.Machine
end

section
/-! Failing ports, excluded and marginal lines, the house blend and failed cells (R105, R107, R118, R130, R131, R133, R134). -/
namespace Sys2Proof.Machine

/-- What PORT_FAILED does where it is taken (R133, R220). -/
def portFailedTaken (p : Nat) (t : Word) (s : State) : State :=
  let s := schedule (bump s Obj.portsFailed) t (.portFailed p)
  if lightsPort s p then jobLoss s 3 p else s

section Control
variable {src : BitVec 7} {seq : BitVec 32} {p : Fin 366} {t : Word} {s s1 : State}

theorem exec_portFailed_of_untaken (h : ctrlTakeAll (sigArrive s (ctrlPacket src.toNat 0x7F 0x34 seq p.val [t])) src seq = (false, s1)) :
    exec (.portFailed src seq p t) s = .next s1 :=
  congrArg Host.Outcome.next (ite_of_untaken (portFailedTaken p.val t) h)

theorem exec_portFailed_of_taken (h : ctrlTakeAll (sigArrive s (ctrlPacket src.toNat 0x7F 0x34 seq p.val [t])) src seq = (true, s1)) :
    exec (.portFailed src seq p t) s = .next (portFailedTaken p.val t s1) :=
  congrArg Host.Outcome.next (ite_of_taken (portFailedTaken p.val t) h)

section Exclude
variable {rx : Bool} {line : Fin 36}

theorem exec_laneExclude_of_untaken
    (h : ctrlTakeAll (sigArrive s (ctrlPacket src.toNat 0x7F 0x35 seq (p.val + 512 * b2n rx + 1024 * line.val) [t])) src seq = (false, s1)) :
    exec (.laneExclude src seq p rx line t) s = .next s1 := by
  refine congrArg Host.Outcome.next ((if_pos ?_).trans ?_)
  · rw [h]; rfl
  · rw [h]

variable (h : ctrlTakeAll (sigArrive s (ctrlPacket src.toNat 0x7F 0x35 seq (p.val + 512 * b2n rx + 1024 * line.val) [t])) src seq = (true, s1))
include h

theorem exec_laneExclude_of_taken : exec (.laneExclude src seq p rx line t) s = .next (
    if p.val < 350 ∨ !linkIsUp s1 (p.val - 350) then
      nameChange s1 t (.laneExclude p.val rx line.val) (fun s => applyExclude s p.val rx line.val)
    else queueVc3 s1 (p.val - 350) (vc3Packet s1 0x24 [] (b2n rx + 2 * line.val) (t.toNat / 1024))) := by
  refine congrArg Host.Outcome.next ((if_neg ?_).trans ?_)
  · rw [h]; exact Bool.false_ne_true
  · rw [h]

theorem exec_laneExclude_of_internal (hp : p.val < 350 ∨ (linkAt s1 (p.val - 350)).mode ≠ .up) :
    exec (.laneExclude src seq p rx line t) s =
      .next (if t ≤ s1.now then applyExclude s1 p.val rx line.val else schedule s1 t (.laneExclude p.val rx line.val)) := by
  rw [exec_laneExclude_of_taken h, if_pos (by simpa [linkIsUp] using hp)]; rfl

theorem exec_laneExclude_of_up (hp : 350 ≤ p.val) (hu : (linkAt s1 (p.val - 350)).mode = .up) :
    exec (.laneExclude src seq p rx line t) s =
      .next (queueVc3 s1 (p.val - 350) (vc3Packet s1 0x24 [] (b2n rx + 2 * line.val) (t.toNat / 1024))) := by
  rw [exec_laneExclude_of_taken h, if_neg (by simp [linkIsUp, hu, hp])]

end Exclude
end Control

section Blend
variable {s : State}

/-- A base tile when the module returns to the default blend: it keeps no set compiled for the reduced one (R118). -/
def defaultBlendTile (b : BaseTile) : BaseTile :=
  let b := match b.active with
    | some a => if a.blend = 1 then { b with active := none } else b
    | none => b
  if (b.shadow.state = .accepted ∨ b.shadow.state = .armed) ∧ leAt b.shadow.header 1 1 = 1 then { b with shadow := {} } else b

theorem applyBlend_of_held (h : s.job ≠ none ∨ dval s Obj.houseBlendMode = s.blend) : applyBlend s = s :=
  if_pos (by simpa [jobRuns, Option.isSome_iff_ne_none] using h)

variable (hj : s.job = none) (hm : dval s Obj.houseBlendMode ≠ s.blend)
include hj hm

theorem applyBlend_of_reduced (h0 : dval s Obj.houseBlendMode ≠ 0) : applyBlend s = { s with blend := dval s Obj.houseBlendMode } :=
  (if_neg (by simp [jobRuns, hj, hm])).trans (if_neg h0)

theorem applyBlend_of_default (h0 : dval s Obj.houseBlendMode = 0) :
    applyBlend s = (List.range 8).foldl (fun u bt => updBt u bt defaultBlendTile) { s with blend := 0 } := by
  refine (if_neg (by simp [jobRuns, hj, hm])).trans ((if_pos h0).trans ?_)
  rw [h0]; rfl

end Blend

theorem exec_houseBlendChange_of_boundary {s : State} (h : s.now.toNat % 1024 = 0) : exec .houseBlendChange s = .next (applyBlend s) :=
  congrArg Host.Outcome.next (if_pos h)

theorem exec_houseBlendChange_within_frame {s : State} (h : s.now.toNat % 1024 ≠ 0) : exec .houseBlendChange s = .next s :=
  congrArg Host.Outcome.next (if_neg h)

theorem rxMarginal_iff (s : State) (q line : Nat) :
    rxMarginal s q line = true ↔ ((errsAt s q line).map (·.count)).sum > dval s Obj.laneErrLimit ∧
      (350 ≤ q ∨ (((errsAt s q line).map (·.sender)).eraseDups).length ≥ 2 ∨
        (((errsAt s q line).map (·.sender)).eraseDups).any (fun p => sendsOnlyTo s p q) = true) := by
  simp only [rxMarginal, Bool.and_eq_true, Bool.or_eq_true, decide_eq_true_eq, or_assoc]

theorem txMarginal_iff (s : State) (p line : Nat) :
    txMarginal s p line = true ↔ ((errsFrom s p line).map (·.2.count)).sum > dval s Obj.laneErrLimit ∧
      ((errsFrom s p line).map (·.1)).eraseDups.length ≥ 2 := by
  simp only [txMarginal, Bool.and_eq_true, decide_eq_true_eq]

section Cell
variable {s : State} {bt i : Nat}

theorem doCellFailure_of_spare_used (h : (btAt s bt).spareUsed.contains i = true ∨ bypassNamed s bt i = true) :
    doCellFailure s bt i = (attachedPorts bt i).foldl (fun u p => raisePortFail u p 5)
      (raise (updBt s bt (fun b => { b with cellDown := addPos b.cellDown i })) bt 0x0B 0x1C 5 false (512 * bt + i + 4096)) :=
  if_pos (by simpa only [Bool.or_eq_true] using h)

theorem doCellFailure_of_spare_free (h : (btAt s bt).spareUsed.contains i = false) (hn : bypassNamed s bt i = false) :
    doCellFailure s bt i = schedule (raise s bt 0x0B 0x1C 4 false (512 * bt + i)) (boundaryAfter s 700) (.cellBypass bt i) :=
  if_neg (by simp only [h, hn, Bool.or_self, Bool.false_eq_true, not_false_eq_true])

end Cell

/-- Settles O21: PORT_FAILED and LANE_EXCLUDE by whether a die takes them, the house blend by the boundary, the job and the mode written, the
limits by the rule of R131, and a cell by its spare. -/
theorem portsAndLines : Obligations.PortsAndLines := by
  refine ⟨fun src seq p t s s1 s2 => ⟨exec_portFailed_of_untaken, fun h h2 => h2 ▸ exec_portFailed_of_taken h⟩,
    fun src seq p rx line t s s1 => ⟨exec_laneExclude_of_untaken, fun h => ⟨exec_laneExclude_of_internal h, exec_laneExclude_of_up h⟩⟩,
    fun p s => rfl, fun s hb hj hm h0 => ?_, fun s hb hj hm h0 => ?_, fun s h => ?_, ?_, fun p line s => txMarginal_iff s p line,
    fun q s => rfl, fun bt i s => ⟨fun h => ?_, fun h hn => ?_⟩⟩
  · rw [exec_houseBlendChange_of_boundary hb, applyBlend_of_reduced hj hm h0]
  · rw [exec_houseBlendChange_of_boundary hb, applyBlend_of_default hj (by omega) h0]; rfl
  · by_cases hb : s.now.toNat % 1024 = 0
    · rw [exec_houseBlendChange_of_boundary hb, applyBlend_of_held (h.resolve_left (not_not_intro hb))]
    · exact exec_houseBlendChange_within_frame hb
  · rintro q line s _ rfl
    exact ⟨rxMarginal_iff s q.val line.val, rfl⟩
  · exact congrArg Host.Outcome.next (doCellFailure_of_spare_used h)
  · exact congrArg Host.Outcome.next (doCellFailure_of_spare_free h hn)

end Sys2Proof.Machine
end

section
/-! Lost data (R132, R174, R196): a LOAD_REQ and a flow transfer twenty microseconds late, and SET_LOST. -/
namespace Sys2Proof.Machine

section Load
variable {s : State} {cd : Nat} {tag : BitVec 10}

theorem doLoadTimeout_of_none (h : (dieAt s cd).reqs.find? (fun r => r.tag == tag && r.load) = none) : doLoadTimeout s cd tag = s := by
  simp only [doLoadTimeout, h]

variable {r : DieReq} (hr : (dieAt s cd).reqs.find? (fun r => r.tag == tag && r.load) = some r)
include hr

theorem doLoadTimeout_of_early_or_whole (h : s.ticks < r.sentAt + 20000 ∨ r.waiting = [] ∧ r.unsent = [] ∧ r.lines ≤ r.got.length) :
    doLoadTimeout s cd tag = s := by
  simp only [doLoadTimeout, hr]
  exact if_pos (by simpa only [List.isEmpty_iff] using h)

theorem doLoadTimeout_of_late (ht : r.sentAt + 20000 ≤ s.ticks) (h : r.waiting ≠ [] ∨ r.unsent ≠ [] ∨ r.got.length < r.lines) :
    doLoadTimeout s cd tag = bumpFree (finishReq (((List.range r.lines).filter (fun i => !r.got.contains i)).foldl
      (fun u i => landLines u (12 * cd) cd r i [freePoison s.freeCtr i]) s) cd { r with worst := worseStatus r.worst 1 }) := by
  have hn : ¬(s.ticks < r.sentAt + 20000 ∨ r.waiting = [] ∧ r.unsent = [] ∧ r.lines ≤ r.got.length) := by
    rintro (hlt | ⟨hw, hu, hg⟩)
    · omega
    · rcases h with h | h | h
      · exact h hw
      · exact h hu
      · omega
  simp only [doLoadTimeout, hr]
  exact if_neg (by simpa only [List.isEmpty_iff] using hn)

end Load

section Flow
variable (s : State) (cd t flow : Nat) (fd : FlowDesc) (pt : Part) (x : Transfer)

/-- The buffer that takes a late transfer's lines: for an ATOMIC flow that of its return flow. -/
def lateBuffer : Option Part := if fd.kind = 7 then (partOf s (64 * cd + t) fd.returnFlow).map (·.2) else some pt

/-- The lines a late transfer had to bring to the tile's buffer; a sender has none. -/
def lateLines : Nat :=
  if fd.kind = 7 then cdiv x.expect 4
  else if fd.kind = 4 ∧ x.left = false ∨ fd.kind = 2 ∨ fd.kind = 6 ∨ fd.kind = 5 ∧ x.reduced = true then 0 else pt.outLines

/-- The missing lines of a late transfer are written poison-marked to its buffer. -/
def lateLanded : State :=
  match lateBuffer s cd t fd pt with
  | some b => ((List.range (lateLines fd pt x)).filter (fun i => !x.got.contains i)).foldl (fun u i =>
      adapterWrite u (12 * cd) t (if fd.kind = 7 then fd.returnFlow else flow) (bufLine b x.n + i) (poisonLines s.freeCtr i 1)) s
  | none => s

/-- A late transfer as it ends: status bit 0 set, everything it waited for taken as done (R204). -/
def lateEnded (y : Transfer) : Transfer :=
  { y with checked := max y.checked (max pt.outLines y.expect), status := y.status ||| 1, lastSlot := none
           expect := if fd.kind = 4 ∧ y.left = false then 0 else y.expect
           reqDone := true, left := true, reduced := true }

/-- The transfer is over and its requests are given up. -/
def lateClosed (u : State) : State :=
  bumpFree (updTile (setDie u cd { dieAt u cd with reqs := (dieAt u cd).reqs.filter (fun r =>
      !(r.for_ == .transfer && r.tile.toNat == t && r.flow.toNat == flow && r.transfer == x.n)) })
    (64 * cd + t) (fun tl => updXfer tl flow x.n (lateEnded fd pt)))

variable {s cd t flow fd pt x}

theorem doFlowTimeout_of_none (h : (flowSt (tileAt s (64 * cd + t)) flow).open_.head? = none ∨ partOf s (64 * cd + t) flow = none) :
    doFlowTimeout s cd t flow = s := by
  unfold doFlowTimeout
  rcases h with h | h
  · simp only [h]
  · cases hx : (flowSt (tileAt s (64 * cd + t)) flow).open_.head? <;> simp only [hx, h]

variable (hx : (flowSt (tileAt s (64 * cd + t)) flow).open_.head? = some x)
include hx

theorem doFlowTimeout_of_early (h : ∀ t0, x.lastSlot = some t0 → s.ticks < t0 + 20000) : doFlowTimeout s cd t flow = s := by
  cases hp : partOf s (64 * cd + t) flow with
  | none => exact doFlowTimeout_of_none (.inr hp)
  | some p =>
    cases hl : x.lastSlot with
    | none => simp only [doFlowTimeout, hx, hp, hl]
    | some t0 =>
      simp only [doFlowTimeout, hx, hp, hl]
      exact if_pos (h t0 hl)

theorem doFlowTimeout_of_late {t0 : Nat} (hp : partOf s (64 * cd + t) flow = some (fd, pt)) (hl : x.lastSlot = some t0) (ht : t0 + 20000 ≤ s.ticks) :
    doFlowTimeout s cd t flow = lateClosed cd t flow fd pt x (lateLanded s cd t flow fd pt x) := by
  simp only [doFlowTimeout, hx, hp, hl, Bool.not_eq_true']
  exact if_neg (by omega)

end Flow

section Commands
variable {s : State} {cd : Fin 16}

theorem exec_loadReqTimeout_of_on (tag : BitVec 10) (h : meshOn s cd.val = true) :
    exec (.loadReqTimeout cd tag) s = .next (doLoadTimeout s cd.val tag) := congrArg Host.Outcome.next (if_pos h)

theorem exec_loadReqTimeout_of_off (tag : BitVec 10) (h : meshOn s cd.val = false) : exec (.loadReqTimeout cd tag) s = .next s :=
  congrArg Host.Outcome.next (if_neg (by simp [h]))

/-- Where the die would do nothing, it is no matter whether it is on. -/
theorem exec_loadReqTimeout_of_idle {tag : BitVec 10} (h : doLoadTimeout s cd.val tag = s) : exec (.loadReqTimeout cd tag) s = .next s :=
  congrArg Host.Outcome.next ((congrArg (fun u => if meshOn s cd.val then u else s) h).trans (ite_self s))

theorem exec_flowTransferTimeout_of_on (t : Fin 64) (flow : BitVec 16) (h : meshOn s cd.val = true) :
    exec (.flowTransferTimeout cd t flow) s = .next (doFlowTimeout s cd.val t.val flow.toNat) := congrArg Host.Outcome.next (if_pos h)

theorem exec_flowTransferTimeout_of_off (t : Fin 64) (flow : BitVec 16) (h : meshOn s cd.val = false) :
    exec (.flowTransferTimeout cd t flow) s = .next s := congrArg Host.Outcome.next (if_neg (by simp [h]))

theorem exec_flowTransferTimeout_of_idle {t : Fin 64} {flow : BitVec 16} (h : doFlowTimeout s cd.val t.val flow.toNat = s) :
    exec (.flowTransferTimeout cd t flow) s = .next s :=
  congrArg Host.Outcome.next ((congrArg (fun u => if meshOn s cd.val then u else s) h).trans (ite_self s))

end Commands

section SetLost
variable {src : BitVec 7} {seq : BitVec 32} {set : Fin 4} {stack : Fin 24} {t : Word} {s s1 : State}

/-- What SET_LOST does where it is taken (R196, R220). -/
def setLostTaken (set stack : Nat) (t : Word) (s : State) : State :=
  let s := if t ≤ s.now then applySetLost s set else schedule s t (.setLost set stack)
  if setHits s set then jobLoss s 2 set else s

theorem exec_setLost_of_untaken (h : ctrlTakeAll (sigArrive s (ctrlPacket src.toNat 0x7F 0x40 seq (set.val + stack.val * 256) [t])) src seq = (false, s1)) :
    exec (.setLost src seq set stack t) s = .next s1 :=
  congrArg Host.Outcome.next (ite_of_untaken (setLostTaken set.val stack.val t) h)

theorem exec_setLost_of_taken (h : ctrlTakeAll (sigArrive s (ctrlPacket src.toNat 0x7F 0x40 seq (set.val + stack.val * 256) [t])) src seq = (true, s1)) :
    exec (.setLost src seq set stack t) s = .next (setLostTaken set.val stack.val t s1) :=
  congrArg Host.Outcome.next (ite_of_taken (setLostTaken set.val stack.val t) h)

end SetLost

/-- Settles O22: a request, then a transfer, by whether it is there and late, and SET_LOST by whether a die takes it. -/
theorem lostData : Obligations.LostData := by
  refine ⟨fun cd tag s => ⟨?_, fun r hr h => ?_, fun r hon hr ht h => ?_⟩, fun cd t flow s => ⟨?_, fun x hx h => ?_, ?_⟩,
    fun src seq set stack t s s1 s2 => ⟨exec_setLost_of_untaken, fun h h2 => h2 ▸ exec_setLost_of_taken h⟩⟩
  · rintro (hoff | hr)
    · exact exec_loadReqTimeout_of_off tag hoff
    · exact exec_loadReqTimeout_of_idle (doLoadTimeout_of_none hr)
  · exact exec_loadReqTimeout_of_idle (doLoadTimeout_of_early_or_whole hr h)
  · rw [exec_loadReqTimeout_of_on tag hon, doLoadTimeout_of_late hr ht h]
  · rintro (hoff | h)
    · exact exec_flowTransferTimeout_of_off t flow hoff
    · exact exec_flowTransferTimeout_of_idle (doFlowTimeout_of_none h)
  · exact exec_flowTransferTimeout_of_idle (doFlowTimeout_of_early hx h)
  · rintro x t0 pt fd _ _ _ hon hx hp hl ht rfl rfl rfl
    rw [exec_flowTransferTimeout_of_on t flow hon, doFlowTimeout_of_late hx hp hl ht]
    rfl

end Sys2Proof.Machine
end

section
/-! A frame boundary (R115, R127, R129): where the next one lies, what happens there and in which order, and an armed swap. -/
namespace Sys2Proof.Machine

section Next
variable {s : State}

theorem nextBoundary_of_now (h : s.now.toNat % 1024 = 0) (hb : s.now ≠ s.boundary) : nextBoundary s = s.now.toNat := if_pos ⟨h, hb⟩

theorem nextBoundary_of_later (h : ¬(s.now.toNat % 1024 = 0 ∧ s.now ≠ s.boundary)) : nextBoundary s = (s.now.toNat / 1024 + 1) * 1024 := if_neg h

/-- The next boundary is a multiple of 1,024 ns, at most a frame ahead, and now only if no boundary has been taken now. -/
theorem nextBoundary_spec (s : State) : nextBoundary s % 1024 = 0 ∧ s.now.toNat ≤ nextBoundary s ∧
    (nextBoundary s = s.now.toNat → s.now ≠ s.boundary) ∧ nextBoundary s ≤ s.now.toNat + 1024 := by
  by_cases h : s.now.toNat % 1024 = 0 ∧ s.now ≠ s.boundary
  · rw [nextBoundary_of_now h.1 h.2]
    exact ⟨h.1, le_rfl, fun _ => h.2, Nat.le_add_right _ _⟩
  · rw [nextBoundary_of_later h]
    exact ⟨Nat.mul_mod_left _ _, by omega, fun he => absurd he (by omega), by omega⟩

end Next

section Frame

/-- The state at a boundary once the changes due there are taken off the list and the shadows of fenced engines are empty (R128). -/
def boundaryTaken (s : State) (due : List (Word × Change)) : State :=
  due.foldl (fun u c => fenceShadows u c.2) { s with changes := s.changes.filter (fun c => decide (s.now < c.1)), boundary := s.now }

/-- The ports named for a boundary fail, then the armed swaps whose time has come are made (R133, R127). -/
def boundarySwapped (s : State) (due : List (Word × Change)) : State :=
  (List.range 8).foldl (fun u b => applySwap u b) (portsFail s (due.flatMap (fun c => changePorts s (due.map (·.2)) c.2)))

/-- The other changes are made in the order they were named, then the house blend, calibration, the rings and module time have their turn (R129). -/
def boundaryChanged (s : State) (due : List (Word × Change)) : State :=
  sendTime (ringsBoundary (calAhead (applyBlend (due.foldl (fun u c => applyChange u c.2) s))))

/-- The boundary has been taken. -/
def boundaryDone (s : State) : State := { s with boundary := s.now }

theorem doFrame_eq {s s0 : State} {due : List (Word × Change)} (h0 : s0 = doCalStepEnd (newFrame (toBoundary s)))
    (hd : due = s0.changes.filter (fun c => decide (c.1 ≤ s0.now))) :
    doFrame s = boundaryDone (boundaryChanged (boundarySwapped (boundaryTaken s0 due) due) due) := by
  unfold doFrame
  rw [← h0]
  subst hd
  extract_lets
  refine congrArg boundaryDone ?_
  rfl

end Frame

section Swap
variable {s : State} {b : Nat}

theorem applySwap_of_armed (h : (btAt s b).shadow.state = .armed) (ht : (btAt s b).shadow.swapAt ≤ s.now) :
    applySwap s b = dropUnlit (setBt (dset s Obj.lastSwap (btAt s b).shadow.swapAt.toNat) b
      { btAt s b with active := some (shadowSet (btAt s b).shadow), shadow := {} }) b (btAt s b).shadow.entries :=
  if_pos ⟨h, ht⟩

theorem applySwap_of_none (h : (btAt s b).shadow.state ≠ .armed ∨ s.now < (btAt s b).shadow.swapAt) : applySwap s b = s :=
  if_neg fun ⟨ha, ht⟩ => h.elim (· ha) (fun hlt => BitVec.not_lt.mpr ht hlt)

end Swap

/-- Settles O23: where the next boundary lies, the parts of the boundary in their order, and a base tile's swap by whether it is armed and due. -/
theorem frameBoundaries : Obligations.FrameBoundaries := by
  refine ⟨fun s => ?_, fun s s0 due s1 h0 hd h1 => ?_, fun s b => ⟨applySwap_of_armed, applySwap_of_none⟩⟩
  · obtain ⟨hmod, hle, hnew, hnear⟩ := nextBoundary_spec s
    exact ⟨hmod, hle, hnew, hnear, rfl⟩
  · subst h1
    exact congrArg Host.Outcome.next (doFrame_eq h0 hd)

end Sys2Proof.Machine
end

section
/-! Heartbeats, takeover and handback (R376 to R388): the beat and its receipt, the loss of either partner, and how the role changes hands. -/
namespace Sys2Proof.Machine

section Beat
variable {n : Fin 2} {s : State}

/-- Each microsecond a barista whose latch is open sends its role and its last committed SEQ (R384). -/
theorem doHeartbeatTick_of_due (h : outputsOpen s n.val = true) (ht : (barOf s n.val).sentAt + 1000 ≤ s.ticks) :
    doHeartbeatTick s n.val = emit (setBarOf s n.val { barOf s n.val with sentAt := s.ticks })
      (.sig (ctrlPacket (siteBA n.val) (siteBA (1 - n.val)) 0x91 0 (if roleOf s n.val = .active then 0 else 1) [(carafeOf s n.val).lastCommit])) :=
  if_neg (by simp only [h, Bool.not_true, Bool.false_eq_true, false_or]; omega)

theorem doHeartbeatTick_of_not_due (h : ¬(outputsOpen s n.val = true ∧ (barOf s n.val).sentAt + 1000 ≤ s.ticks)) : doHeartbeatTick s n.val = s :=
  if_pos (by simpa only [Bool.not_eq_true', not_and_or, Bool.not_eq_true, Nat.not_le] using h)

theorem doHeartbeatLoss_of_silence (ha : n ≠ s.active) (hr : roleOf s n.val = .standby) (ht : (barOf s n.val).beatAt + 6000 ≤ s.ticks) :
    doHeartbeatLoss s n.val = takeover s n.val :=
  if_neg (by rintro (h | h | h) <;> [exact ha (Fin.ext h); exact h hr; omega])

theorem doHeartbeatLoss_of_other (h : ¬(n ≠ s.active ∧ roleOf s n.val = .standby ∧ (barOf s n.val).beatAt + 6000 ≤ s.ticks)) :
    doHeartbeatLoss s n.val = s :=
  if_pos (by simpa only [not_and_or, not_not, Fin.ext_iff, Nat.not_le] using h)

end Beat

section Takeover

/-- What a takeover passes on: who is active, under which epoch and roles, the last CONTROL SEQ, and what the standby holds of its partner's records. -/
def succession (s : State) : Fin 2 × BitVec 32 × BaristaRole × BaristaRole × BitVec 32 × Mirror :=
  (s.active, s.roleEpoch, s.role0, s.role1, s.ctrlSeq, s.mirror)

theorem succession_foldl {α : Type} {g : State → α → State} (h : ∀ s x, succession (g s x) = succession s) (l : List α) (s : State) :
    succession (l.foldl g s) = succession s := by
  induction l generalizing s with
  | nil => rfl
  | cons x l ih => rw [List.foldl_cons, ih, h]

theorem succession_undoValues (s : State) : succession (undoValues s) = succession s :=
  (succession_foldl (g := fun s (e : Nat × List Byte) => setBlob s e.1 e.2) (fun _ _ => rfl) _ _).trans
    (succession_foldl (g := fun s (e : Nat × Word) => { s with dict := tset dictDefault s.dict e.1 e.2 }) (fun _ _ => rfl) _ _)

theorem succession_stopCompaction (s : State) (n : Nat) : succession (stopCompaction s n) = succession s := by
  unfold stopCompaction setCarafe
  split <;> rfl

theorem succession_dropMark (s : State) (m : FaultMsg) : succession (dropMark s m) = succession s := by
  unfold dropMark
  split <;> rfl

/-- The role, the epoch and the room in the numbering that a standby takes, its own undone values first (R376, R384, R385). -/
def takeRole (s : State) (n : Nat) : State :=
  setRole { undoValues s with active := Fin.ofNat 2 n, roleEpoch := (undoValues s).roleEpoch + 1, ctrlSeq := (undoValues s).ctrlSeq + 1023 } n .active

/-- What was under way at the old active is given up: compactions, and messages it had raised itself. -/
def dropWrites (s : State) : State :=
  let s := stopCompaction (stopCompaction s 0) 1
  s.faults.internal.foldl dropMark s

/-- The collector begins anew with an empty hand, the cupping period is abandoned, and the mirror becomes the journal (R380, R385). -/
def takeRecords (s : State) (n : Nat) : State :=
  let s := setFaults s (fun f => { f with
    busyUntil := 0, internal := [], kept := [], recovery := none, waitingRec := []
    logCount := BitVec.ofNat 64 (match logHigh (carafeOf s n) with | some k => k + 1 | none => 0)
    cup := { f.cup with open_ := false, k := max f.cup.k s.mirror.cupK } })
  let m := s.mirror
  let s := { s with journal := { pending := m.pending, next := m.held + 1, acked := m.held, periodicAt := s.ticks }, mirror := {} }
  let s := setPunel s (fun p => { p with clients := [], snaps := [], staged := [], expired := [], waiting := [], fieldOut := [] })
  let s := setSec s (fun x => { x with
    updState := if 1 ≤ x.updState ∧ x.updState ≤ 3 then 0 else x.updState, updClient := none, updBuf := []
    pendingLc := x.pendingLc.filter (fun e => decide (e.1.toNat ≤ m.held.toNat))
    pendingFw := x.pendingFw.filter (fun e => decide (e.1.toNat ≤ m.held.toNat)) })
  setBarOf s n { barOf s n with partnerLost := false, beatAt := s.ticks, epoch := s.roleEpoch }

/-- A barista names itself to every die with BARISTA_ACTIVE (R376). -/
def sayActive (s : State) (n : Nat) : State := ctrlSend s 0x7F 0x90 (siteBA n) [s.roleEpoch.zeroExtend 64]

/-- The standby that has become active, before it looks after light. -/
def takenOver (s : State) (n : Nat) : State := sayActive (takeRecords (dropWrites (takeRole s n)) n) n

theorem takeover_eq (s : State) (n : Nat) :
    takeover s n = takeoverMsg (relight (schedule (takenOver s n) (boundaryAfter (takenOver s n) 0) (.lightTree n))) := rfl

theorem succession_dropWrites (s : State) : succession (dropWrites s) = succession s :=
  (succession_foldl succession_dropMark _ _).trans ((succession_stopCompaction _ _).trans (succession_stopCompaction _ _))

theorem succession_takeRole (s : State) (n : Fin 2) : succession (takeRole s n.val) =
    (n, s.roleEpoch + 1, if n = 0 then .active else s.role0, if n = 0 then s.role1 else .active, s.ctrlSeq + 1023, s.mirror) := by
  have h := succession_undoValues s
  simp only [succession, Prod.mk.injEq] at h
  obtain ⟨-, he, h0, h1, hc, hm⟩ := h
  match n with
  | 0 => simp [succession, takeRole, setRole, he, h1, hc, hm]
  | 1 => simp [succession, takeRole, setRole, he, h0, hc, hm]

/-- A working active barista numbers what it sends, and sends it; nothing else changes (R378). -/
theorem ctrlSend_of_active {s : State} (h : roleOf s s.active.val = .active) (dst func field : Nat) (later : List Word) :
    ∃ out, ctrlSend s dst func field later = { s with ctrlSeq := s.ctrlSeq + 1, sent := out } := by
  unfold ctrlSend
  rw [if_neg (not_not_intro h)]
  dsimp only
  split <;> split <;> exact ⟨_, rfl⟩

/-- The change of records leaves who is active, under which epoch, role and numbering. -/
theorem takeRecords_keeps (s : State) (n : Nat) : (takeRecords s n).active = s.active ∧ (takeRecords s n).roleEpoch = s.roleEpoch ∧
    (takeRecords s n).role0 = s.role0 ∧ (takeRecords s n).role1 = s.role1 ∧ (takeRecords s n).ctrlSeq = s.ctrlSeq := by
  simp only [takeRecords, setBarOf, setSec, setPunel, setFaults, and_self]

theorem takeRecords_spec (s : State) (n : Nat) : (takeRecords s n).faults.cup.open_ = false ∧ (takeRecords s n).faults.kept = [] ∧
    (takeRecords s n).faults.recovery = none ∧ (takeRecords s n).journal.pending = s.mirror.pending ∧ (takeRecords s n).punel.clients = [] :=
  ⟨rfl, rfl, rfl, rfl, rfl⟩

theorem takenOver_spec (s : State) (n : Fin 2) :
    (takenOver s n.val).active = n ∧ (takenOver s n.val).roleEpoch = s.roleEpoch + 1 ∧ roleOf (takenOver s n.val) n.val = .active ∧
      (takenOver s n.val).ctrlSeq = s.ctrlSeq + 1024 ∧ (takenOver s n.val).faults.cup.open_ = false ∧ (takenOver s n.val).faults.kept = [] ∧
      (takenOver s n.val).faults.recovery = none ∧ (takenOver s n.val).journal.pending = s.mirror.pending ∧ (takenOver s n.val).punel.clients = [] := by
  have h := (succession_dropWrites (takeRole s n.val)).trans (succession_takeRole s n)
  generalize hu : dropWrites (takeRole s n.val) = u at h
  simp only [succession, Prod.mk.injEq] at h
  obtain ⟨ha, he, h0, h1, hc, hm⟩ := h
  obtain ⟨ka, ke, k0, k1, kc⟩ := takeRecords_keeps u n.val
  obtain ⟨hopen, hkept, hrec, hpend, hcl⟩ := takeRecords_spec u n.val
  have hX : takenOver s n.val = sayActive (takeRecords u n.val) n.val := by rw [takenOver, hu]
  generalize takeRecords u n.val = v at *
  have hr : roleOf v n.val = .active := by
    unfold roleOf
    rw [k0, k1, h0, h1]
    match n with
    | 0 => rfl
    | 1 => rfl
  have ha' : v.active = n := ka.trans ha
  obtain ⟨out, hx⟩ := ctrlSend_of_active (by rwa [ha']) 0x7F 0x90 (siteBA n.val) [v.roleEpoch.zeroExtend 64]
  rw [hX, sayActive, hx]
  refine ⟨ha', ke.trans he, hr, ?_, hopen, hkept, hrec, hpend.trans (congrArg Mirror.pending hm), hcl⟩
  change v.ctrlSeq + 1 = _
  rw [kc, hc, BitVec.add_assoc]
  rfl

end Takeover

section Loss
variable {s : State}

theorem doStandbyLoss_of_heard (h : collectorUp s = false ∨ (barOf s s.active.val).partnerLost = true ∨ s.ticks < (barOf s s.active.val).beatAt + 6000) :
    doStandbyLoss s = s :=
  if_pos (by simpa only [Bool.not_eq_true'] using h)

theorem doStandbyLoss_of_lost (hc : collectorUp s = true) (hp : (barOf s s.active.val).partnerLost = false)
    (ht : (barOf s s.active.val).beatAt + 6000 ≤ s.ticks) :
    doStandbyLoss s = commitDue (releaseAnswers (takeoverMsg (setBarOf s s.active.val { barOf s s.active.val with partnerLost := true }))) :=
  if_neg (by simp only [hc, hp, Bool.not_true, Bool.false_eq_true, false_or]; omega)

end Loss

section Named
variable {src : BitVec 7} {seq : BitVec 32} {site : BitVec 7} {epoch : BitVec 32} {s : State} {r : Bool × State}
  (hr : r = ctrlTakeAll (sigArrive s (ctrlPacket src.toNat 0x7F 0x90 seq site.toNat [epoch.zeroExtend 64])) src seq)
include hr

theorem doBaristaActive_of_untaken (h : r.1 = false ∨ (site ≠ 74 ∧ site ≠ 75)) : doBaristaActive s src seq site epoch = r.2 := by
  unfold doBaristaActive
  dsimp only
  rw [← hr, if_pos (by simpa only [Bool.not_eq_true'] using h)]

/-- A die that takes the packet serves the barista named; an active of a lower epoch falls silent (R376, R383). -/
theorem doBaristaActive_of_taken {n : Fin 2} (h : r.1 = true) (hs : site = BitVec.ofNat 7 (74 + n.val)) : doBaristaActive s src seq site epoch =
    if roleOf r.2 (1 - n.val) = .active ∧ (barOf r.2 (1 - n.val)).epoch < epoch then silence { r.2 with named := n } (1 - n.val) 10
    else { r.2 with named := n } := by
  have hn : site.toNat - 74 = n.val ∧ ¬(site ≠ 74 ∧ site ≠ 75) := by
    subst hs
    clear hr
    revert n
    decide
  unfold doBaristaActive
  dsimp only
  rw [← hr, if_neg (by simpa only [h, Bool.not_true, Bool.false_eq_true, false_or] using hn.2), hn.1, Fin.ofNat_val_eq_self]
  rfl

end Named

/-- BA1 hands back when nothing is under way (R387). -/
theorem doHandbackDue_eq (s : State) : doHandbackDue s =
    if s.active = 1 ∧ collectorUp s = true ∧ roleOf s 0 = .standby ∧ s.faults.recovery = none ∧ s.light.cal.holds = [] ∧ s.pow.level = 0 ∧
      s.mt.stepD = none ∧ s.handback = none
    then ctrlSend { s with handback := some (s.ctrlSeq + 1024, s.roleEpoch + 1) } 0x7F 0x92 0 [boundaryAfter s 2048, (s.roleEpoch + 1) ++ (s.ctrlSeq + 1024)]
    else s := by
  unfold doHandbackDue
  rw [← ite_not]
  refine if_congr ?_ rfl rfl
  simp only [not_or, not_not, ne_eq, Bool.not_eq_true', Bool.not_eq_false, Option.isSome_iff_ne_none, List.isEmpty_eq_false_iff]

/-- Settles O44: the beat by whether it is due, the loss of a partner by who lost it, the takeover step by step, BARISTA_ACTIVE and HANDBACK by
whether a die takes them, and the return of the role by whether anything is under way. -/
theorem baristaBeats : Obligations.BaristaBeats := by
  refine ⟨fun n s => congrArg Host.Outcome.next ?_, fun n role seq s => rfl, fun n s => congrArg Host.Outcome.next ?_, fun s n => ?_, fun s => ⟨fun h => ?_, fun hc hp ht => ?_⟩,
    fun src seq site epoch s r hr => ⟨fun h => ?_, fun n h hs => ?_⟩, fun s => congrArg Host.Outcome.next (doHandbackDue_eq s), ?_⟩
  · split
    · exact doHeartbeatTick_of_due (And.left ‹_›) (And.right ‹_›)
    · exact doHeartbeatTick_of_not_due ‹_›
  · split
    · obtain ⟨ha, hr, ht⟩ := ‹n ≠ s.active ∧ _›
      exact doHeartbeatLoss_of_silence ha hr ht
    · exact doHeartbeatLoss_of_other ‹_›
  · exact ⟨takenOver s n.val, _, takeover_eq s n.val, takenOver_spec s n⟩
  · exact congrArg Host.Outcome.next (doStandbyLoss_of_heard h)
  · exact congrArg Host.Outcome.next (doStandbyLoss_of_lost hc hp ht)
  · exact congrArg Host.Outcome.next (doBaristaActive_of_untaken hr h)
  · exact congrArg Host.Outcome.next (doBaristaActive_of_taken hr h hs)
  · rintro src seq th first epoch s _ rfl
    rfl

end Sys2Proof.Machine
end

section
/-! Low readings, lost light and HOLD (R143, R145, R158 to R160). -/
namespace Sys2Proof.Machine

section Low
variable (s : State) (k : Nat)

theorem lowSince_noteLow (low : Bool) :
    lowSince (noteLow s k low) k = if low then some ((lowSince s k).getD s.ticks) else none :=
  tget_tset_same _ _ _ _

theorem lowTwice_iff : lowTwice s k = true ↔ ∃ t, lowSince s k = some t ∧ t + 16 ≤ s.ticks := by
  simp only [lowTwice, Option.any_eq_true, decide_eq_true_eq]

end Low

section CombLoss
variable {s : State} {c : Nat}

theorem doCombLoss_of_lit (h : combLow s c = false) : doCombLoss s c = s :=
  if_pos (by rw [h]; rfl)

variable {bt : Nat}

/-- A tile that is dark already loses no comb again (R158). -/
theorem doCombLoss_of_dark (hs : (combAt s c).serves = some bt) (hd : (tfind s.light.lossAt bt).isSome = true) : doCombLoss s c = s := by
  simp only [doCombLoss, hs, hd, if_true, ite_self]

theorem doCombLoss_of_serving (h : combLow s c = true) (hs : (combAt s c).serves = some bt) (hd : tfind s.light.lossAt bt = none) :
    doCombLoss s c = if (combAt s c).state = 5 then retireComb (raise (tileDark s bt) bt 0x0A 0x20 4 false (c + bt * 16)) c
      else raise (tileDark s bt) bt 0x0A 0x20 4 false (c + bt * 16) := by
  simp only [doCombLoss, h, hs, hd, Bool.not_true, Bool.false_eq_true, if_false, Option.isSome_none]

theorem doCombLoss_of_off (hs : (combAt s c).serves = none) (hv : (combAt s c).state = 6 ∨ (combAt s c).state = 7) : doCombLoss s c = s := by
  simp only [doCombLoss, hs, hv, if_true, ite_self]

variable (h : combLow s c = true) (hs : (combAt s c).serves = none)
include h hs

theorem doCombLoss_of_idle (h6 : (combAt s c).state ≠ 6) (h7 : (combAt s c).state ≠ 7)
    (hi : (combAt s c).state ≠ 2 ∨ (combAt s c).target = none) : doCombLoss s c = retireComb s c := by
  simp only [doCombLoss, h, hs, h6, h7, Bool.not_true, Bool.false_eq_true, if_false, or_self]
  split
  · rename_i h2 ht
    exact absurd hi (by simp [h2, ht])
  · rfl

/-- A comb that lit for a tile is retired, and the next one is chosen (R160). -/
theorem doCombLoss_of_lighting (h2 : (combAt s c).state = 2) (ht : (combAt s c).target = some bt) :
    doCombLoss s c = match lightSpare (retireComb s c) bt with
      | some u => u
      | none => match servingComb (retireComb s c) bt with
        | some o => combFadeMsg (retireComb s c) o (combAt (retireComb s c) o).fade true
        | none => retireComb s c := by
  simp only [doCombLoss, h, hs, h2, ht, Bool.not_true, Bool.false_eq_true, if_false]
  rfl

end CombLoss

section LineLoss
variable {s : State} {p line : Nat}

theorem doPortLineLoss_of_lit (h : lowTwice s (tapLowKey p line) = false) : doPortLineLoss s p line = s :=
  if_pos (by rw [h]; rfl)

variable (h : lowTwice s (tapLowKey p line) = true)
include h

theorem doPortLineLoss_of_comb (hc : combsFault s (portTile p) = true) : doPortLineLoss s p line = holdRings s (portTile p) := by
  simp only [doPortLineLoss, h, hc, Bool.not_true, Bool.false_eq_true, if_false, if_true]

theorem doPortLineLoss_of_line (hc : combsFault s (portTile p) = false) :
    doPortLineLoss s p line = if excluded s p false line then s else lineLost s p false line := by
  simp only [doPortLineLoss, h, hc, Bool.not_true, Bool.false_eq_true, if_false]

end LineLoss

section RingLost
variable {s : State} {p : Nat} {rx : Bool} {line k : Nat} (hk : k = ringKey p rx line)
include hk

theorem ringLost_of_service (h : inService s p rx line = true) :
    ringLost s p rx line = lineLost (setRing_ s k { ringAt_ s k with reacquire := true }) p rx line := by
  subst hk
  exact if_pos h

theorem ringLost_of_spare (h : inService s p rx line = false) :
    ringLost s p rx line = setLight (setRing_ s k { ringAt_ s k with state := 1, fails := 0, passes := 0 }) (fun l => { l with
      unlocked := l.unlocked.filter (fun e => decide (s.ticks ≤ e.1 + 64)) ++ [(s.ticks, k)] }) := by
  subst hk
  exact if_neg (by rw [h]; exact Bool.false_ne_true)

theorem doRingUnlocked_of_none (h : (ringAt_ s k).state ≠ 4 ∨ lowTwice s (dropLowKey k) = false) : doRingUnlocked s p rx line = s := by
  subst hk
  exact if_pos (by simpa only [Bool.not_eq_true'] using h)

theorem doHoldTimeout_of_dark (h5 : (ringAt_ s k).state = 5) (ht : (ringAt_ s k).holdAt + 100000 ≤ s.ticks) :
    doHoldTimeout s p rx line = ringLost (setRing_ s k { ringAt_ s k with state := 4 }) p rx line := by
  subst hk
  exact if_pos ⟨h5, ht⟩

theorem doHoldTimeout_of_early (h : (ringAt_ s k).state ≠ 5 ∨ s.ticks < (ringAt_ s k).holdAt + 100000) : doHoldTimeout s p rx line = s := by
  subst hk
  exact if_neg (by rintro ⟨h5, ht⟩; exact h.elim (· h5) (Nat.not_lt.mpr ht))

variable (h4 : (ringAt_ s k).state = 4) (hl : lowTwice s (dropLowKey k) = true)
include h4 hl

theorem doRingUnlocked_of_comb (hc : combsFault s (portTile p) = true) : doRingUnlocked s p rx line = holdRings s (portTile p) := by
  subst hk
  simp only [doRingUnlocked, h4, hl, hc, ne_eq, not_true_eq_false, Bool.not_true, Bool.false_eq_true, or_self, if_false, if_true]

theorem doRingUnlocked_of_ring (hc : combsFault s (portTile p) = false) : doRingUnlocked s p rx line = ringLost s p rx line := by
  subst hk
  simp only [doRingUnlocked, h4, hl, hc, ne_eq, not_true_eq_false, Bool.not_true, Bool.false_eq_true, or_self, if_false]

end RingLost
end Sys2Proof.Machine
end

section
/-! Heaters and tone windows (R141, R144, R145). -/
namespace Sys2Proof.Machine

section Heat
variable {s : State} {asks : List (RingId × BitVec 16)}

theorem doHeaterUpdate_of_early (h : s.light.heatAt.any (fun t => decide (s.ticks < t + 1000)) = true) : doHeaterUpdate s asks = s := if_pos h

theorem doHeaterUpdate_of_due {s1 : State} (h : s.light.heatAt.any (fun t => decide (s.ticks < t + 1000)) = false)
    (h1 : s1 = asks.foldl (fun u a => setRing_ u (ringIdKey a.1) { ringAt_ u (ringIdKey a.1) with heaterTo := some a.2.toNat }) s) :
    doHeaterUpdate s asks = setLight ((s1.light.rings.map (·.1)).foldl heatRing s1) (fun l => { l with heatAt := some s1.ticks }) := by
  subst h1
  exact if_neg (by rw [h]; exact Bool.false_ne_true)

/-- A step of at most `n` toward a target lies between the value and the target, and within `n` of the value. -/
theorem stepTo_bounds (v target n : Nat) : stepTo v target n ≤ max v target ∧ min v target ≤ stepTo v target n ∧
    stepTo v target n ≤ v + n ∧ v ≤ stepTo v target n + n := by
  unfold stepTo
  split <;> omega

theorem heatRing_of_moving {k t : Nat} (ht : (ringAt_ s k).heaterTo = some t) (hm : heaterMoves (ringAt_ s k) = true) {h : Nat}
    (hh : h = stepTo (heaterOf k (ringAt_ s k)) t (if inService s (k / 72) (k % 72 / 36 == 1) (k % 36) then 3 else 32)) :
    heatRing s k = setRing_ s k { ringAt_ s k with heater := some h, heaterTo := if h = t then none else some t
                                                   from_ := if (ringAt_ s k).state = 2 ∨ (ringAt_ s k).state = 3 then s.now.toNat else (ringAt_ s k).from_ } := by
  subst hh
  simp only [heatRing, ht, hm, Bool.not_true, Bool.false_eq_true, if_false]

end Heat

theorem toneAt_iff (tones : List (BitVec 16)) (k : Nat) : toneAt tones k = true ↔ 50 ≤ (tones.getD k 0).toNat ∧
    ∀ j < 36, j ≠ k → 4 * (tones.getD j 0).toNat ≤ (tones.getD k 0).toNat := by
  simp only [toneAt, Bool.and_eq_true, decide_eq_true_eq, List.all_eq_true, List.mem_range, Bool.or_eq_true, beq_iff_eq, or_iff_not_imp_left, ne_eq]

@[simp] theorem ringAt_setRing_same (s : State) (k : Nat) (r : Ring) : ringAt_ (setRing_ s k r) k = r := tget_tset_same _ _ _ _

section Judge
variable {s : State} {w : RingWindow} {k : Nat} (hk : k = ringIdKey w.ring) (h4 : (ringAt_ s k).state = 4)
include hk h4

theorem judgeWindow_of_none (h : (ringAt_ s k).judgedAt = some s.ticks ∨ s.now.toNat < (ringAt_ s k).from_ + 262144) : judgeWindow s w = s := by
  subst hk
  rcases h with h | h
  · exact if_pos h
  · have hn : ¬(ringAt_ s (ringIdKey w.ring)).from_ + 262144 ≤ s.now.toNat := Nat.not_le.mpr h
    simp [judgeWindow, hn, h4]

variable {v : Ring} {u : State} (hv : v = { ringAt_ s k with judgedAt := some s.ticks }) (hu : u = setRing_ s k v)
  (hj : (ringAt_ s k).judgedAt ≠ some s.ticks) (hw : (ringAt_ s k).from_ + 262144 ≤ s.now.toNat)
include hv hu hj hw

/-- What a locked ring makes of a whole window not judged before. -/
theorem judgeWindow_of_locked : judgeWindow s w =
    if toneAt w.tones w.ring.line.val then setRing_ u k { v with fails := 0 }
    else if v.fails = 0 then setRing_ u k { v with fails := 1, seen := toneLine w.tones }
    else
      let z := ringExit (setRing_ (bump u Obj.wrongLine) k { v with state := 6, fails := 0, seen := (toneLine w.tones).orElse (fun _ => v.seen) })
        w.ring.port.val w.ring.rx w.ring.line.val false
      if w.ring.line.val = 32 then raisePortFail z w.ring.port.val 2 else z := by
  have hs : v.state = 4 := by rw [hv]; exact h4
  subst hk hu
  unfold judgeWindow
  dsimp only
  rw [if_neg hj, if_neg (by simp [hw, h4]), ← hv, ringAt_setRing_same, hs]
  rfl

end Judge
end Sys2Proof.Machine
end

section
/-! Monitors, lost light, heaters and tones (R140 to R145, R159, R160). -/
namespace Sys2Proof.Machine

/-- Settles O24: a reading by whether it is low, a comb by what it serves and does, a line and a ring by whether the comb is at fault, the
heaters by the bounds of a step, a window by the ring that is judged. -/
theorem lightLosses : Obligations.LightLosses := by
  refine ⟨fun ms s => rfl, ?_, fun s k low => lowSince_noteLow s k low, fun s k => lowTwice_iff s k, fun c s => ?_, fun p line s => ?_, ?_,
    fun bt s => ⟨rfl, rfl⟩, fun asks s s1 => ⟨fun h => ?_, fun h h1 => ?_⟩, fun s k t ht hm => ?_, fun ws s => ?_, toneAt_iff, ?_⟩
  · rintro s p line power _ rfl
    rfl
  · refine ⟨fun h => ?_, fun bt hs hd => ?_, fun bt h hs hd => ?_, fun hs hv => ?_, fun h hs h6 h7 => ⟨fun hi => ?_, fun bt h2 ht => ?_⟩⟩
    · exact congrArg Host.Outcome.next (doCombLoss_of_lit h)
    · exact congrArg Host.Outcome.next (doCombLoss_of_dark hs hd)
    · exact congrArg Host.Outcome.next (doCombLoss_of_serving h hs hd)
    · exact congrArg Host.Outcome.next (doCombLoss_of_off hs hv)
    · exact congrArg Host.Outcome.next (doCombLoss_of_idle h hs h6 h7 hi)
    · exact congrArg Host.Outcome.next (doCombLoss_of_lighting h hs h2 ht)
  · refine ⟨fun h => ?_, fun h hc => ?_, fun h hc => ?_⟩
    · exact congrArg Host.Outcome.next (doPortLineLoss_of_lit h)
    · exact congrArg Host.Outcome.next (doPortLineLoss_of_comb h hc)
    · exact congrArg Host.Outcome.next (doPortLineLoss_of_line h hc)
  · refine fun r s k hk => ⟨fun h => ?_, fun h4 hl => ⟨fun hc => ?_, fun hc hi => ?_, fun hc hi => ?_⟩, fun h5 ht => ?_, fun h => ?_⟩
    · exact congrArg Host.Outcome.next (doRingUnlocked_of_none hk h)
    · exact congrArg Host.Outcome.next (doRingUnlocked_of_comb hk h4 hl hc)
    · exact congrArg Host.Outcome.next ((doRingUnlocked_of_ring hk h4 hl hc).trans (ringLost_of_service hk hi))
    · exact congrArg Host.Outcome.next ((doRingUnlocked_of_ring hk h4 hl hc).trans (ringLost_of_spare hk hi))
    · exact congrArg Host.Outcome.next (doHoldTimeout_of_dark hk h5 ht)
    · exact congrArg Host.Outcome.next (doHoldTimeout_of_early hk h)
  · exact congrArg Host.Outcome.next (doHeaterUpdate_of_early h)
  · exact congrArg Host.Outcome.next (doHeaterUpdate_of_due h h1)
  · refine ⟨_, heatRing_of_moving ht hm rfl, ?_⟩
    generalize hn : (if inService s (k / 72) (k % 72 / 36 == 1) (k % 36) then 3 else 32) = n
    obtain ⟨hmax, hmin, hup, hdown⟩ := stepTo_bounds (heaterOf k (ringAt_ s k)) t n
    have h32 : n ≤ 32 := by rw [← hn]; split <;> decide
    refine ⟨hmax, hmin, by omega, by omega, fun hi => ?_⟩
    have h3 : n = 3 := by rw [← hn, if_pos hi]
    omega
  · refine ⟨fun h => congrArg Host.Outcome.next (if_pos h), fun h hv => ?_, fun h hv => ?_⟩
    · exact congrArg Host.Outcome.next ((if_neg (not_not_intro h)).trans (if_pos hv))
    · exact congrArg Host.Outcome.next ((if_neg (not_not_intro h)).trans (if_neg (by rw [hv]; exact Bool.false_ne_true)))
  · refine fun w s u k v hk hv hu h4 => ⟨judgeWindow_of_none hk h4, fun hj hw => ?_⟩
    rw [judgeWindow_of_locked hk h4 hv hu hj hw]
    refine ⟨fun ht => if_pos ht, fun ht hf => ?_, fun ht hf z hz => ?_⟩
    · rw [if_neg (by rw [ht]; exact Bool.false_ne_true), if_pos hf]
    · rw [if_neg (by rw [ht]; exact Bool.false_ne_true), if_neg hf, ← hz]
      exact if_congr (by rw [Fin.ext_iff]; rfl) rfl rfl

end Sys2Proof.Machine
end

section
/-! Calibration cycles, the swing and restored values (R148 to R151, R155, R237). -/
namespace Sys2Proof.Machine

section Cycle
variable {s u : State} {t : Word} (ht : t = boundary256 s (9 * 1024))
include ht

/-- The conditions of R148 and R385 under which no cycle starts. -/
theorem doCycleStart_of_held (h : dval s Obj.calEnable ≠ 1 ∨ s.light.cal.active = true ∨ cycleDue s (s.ticks + (t.toNat - s.now.toNat)) = false ∨
    roleOf s s.active.val ≠ .active ∨ s.mt.stepAt ≠ none) : doCycleStart s = s := by
  subst ht
  refine if_pos ?_
  simpa only [calMayName, Bool.not_eq_true', Bool.and_eq_false_iff, beq_eq_false_iff_ne, Option.isNone_eq_false_iff, Option.isSome_iff_ne_none] using h

theorem doCycleStart_of_due (hu : u = setCal s (fun c => { c with active := true, cycleAt := some (s.ticks + (t.toNat - s.now.toNat)), waiting := none }))
    (he : dval s Obj.calEnable = 1) (ha : s.light.cal.active = false) (hd : cycleDue s (s.ticks + (t.toNat - s.now.toNat)) = true)
    (hr : roleOf s s.active.val = .active) (hn : s.mt.stepAt = none) :
    doCycleStart s = if heldBack u 0 then setCal u (fun c => { c with waiting := some (0, 0) }) else sendCalStep u 0 0 t := by
  subst ht hu
  refine if_neg ?_
  simp only [calMayName, he, ha, hd, hr, hn, ne_eq, not_true_eq_false, Bool.false_eq_true, Bool.not_true, beq_self_eq_true, Option.isNone_none,
    Bool.and_self, or_self, not_false_eq_true]

end Cycle

section StepEnd
variable {s : State}

theorem doCalStepEnd_of_none (h : s.light.cal.running = none) : doCalStepEnd s = s := by
  simp only [doCalStepEnd, h]

variable {t : Word} (hr : s.light.cal.running = some t)
include hr

theorem doCalStepEnd_of_early (h : s.now.toNat < t.toNat + 1048576) : doCalStepEnd s = s := by
  simp only [doCalStepEnd, hr, h, if_true]

/-- After 1,024 frames the results are judged, the lanes go home but for those held, and the step is over (R150, R151). -/
theorem doCalStepEnd_of_over (h : t.toNat + 1048576 ≤ s.now.toNat) {rx : Bool} {line : Nat} {s1 : State} (hx : rx = (s.light.cal.side == 1))
    (hl : line = stepLine s.light.cal.step)
    (h1 : s1 = (List.range 366).foldl (fun u p => if calLine u p rx ≠ some line then u
      else if keepsSwing u p rx line then setCal u (fun c => { c with holds := c.holds.filter (fun h => !(h.1 == p && h.2.1 == rx)) ++ [(p, rx, line)] })
      else setCalLine u p rx none) ((calKeys (stepFrames s) none).foldl calResult (stepFrames s))) :
    doCalStepEnd s = setCal s1 (fun c => { c with
      running := none, active := c.active && (c.again || !(c.side == 1 && c.step == 34)), again := false, ports := trainingSteps c }) := by
  subst hx hl h1
  simp only [doCalStepEnd, hr]
  exact if_neg (Nat.not_lt.mpr h)

end StepEnd

section Result
variable {s : State} {k : Nat}

theorem calResult_of_closed (h : calOpen s k = false ∨ (calPortAt s k).ended = true) : calResult s k = s :=
  if_pos (by simpa only [Bool.not_eq_true'] using h)

variable (ho : calOpen s k = true) (he : (calPortAt s k).ended = false)
include ho he

theorem calResult_of_met (hp : (calPortAt s k).peak = true) (hr : (calPortAt s k).rejected = false) :
    calResult s k = setCal (bump s Obj.calSteps) (fun c => { c with fails := tset (fun _ => 0) c.fails k 0 }) := by
  simp only [calResult, ho, he, hp, hr, Bool.not_true, Bool.not_false, Bool.false_eq_true, or_self, and_self, if_false, if_true]

/-- The second failure in a row makes a marginal line (R150). -/
theorem calResult_of_failed (hf : (calPortAt s k).peak = false ∨ (calPortAt s k).rejected = true) {n : Nat} {u : State}
    (hn : n = tget (fun _ => 0) s.light.cal.fails k + 1)
    (hu : u = setCal (bump s Obj.calFailures) (fun c => { c with fails := tset (fun _ => 0) c.fails k n })) :
    calResult s k = if n = 2 then raise u (portTile (k / 72)) 0x03 0x19 4 false (portForm (k / 72) (k % 36) 0 + k % 72 / 36 * 2 ^ 21) else u := by
  subst hn hu
  have hm : ¬((calPortAt s k).peak = true ∧ (!(calPortAt s k).rejected) = true) := by
    rcases hf with hf | hf <;> simp [hf]
  simp only [calResult, ho, he, hm, Bool.not_true, Bool.false_eq_true, or_self, if_false]

end Result

section Resweep
variable {s : State} {p : Nat} {rx : Bool} {o : Option (Nat × Bool × Nat)} (ho : o = s.light.cal.holds.find? (fun h => h.1 == p && h.2.1 == rx))
include ho

theorem doResweepEnd_of_open (h : o = none ∨ o.any (fun h => unsettled s p rx h.2.2) = true) : doResweepEnd s p rx = s := by
  unfold doResweepEnd
  rw [← ho]
  match o, h with
  | none, _ => rfl
  | some (_, _, line), h => exact if_pos (by simpa using h)

theorem doResweepEnd_of_settled {h : Nat × Bool × Nat} (hh : o = some h) (hs : unsettled s p rx h.2.2 = false) :
    doResweepEnd s p rx = ctrlSend (if (ringAt_ s (ringKey p rx h.2.2)).state = 4 then s
      else ctrlSend s 0x7F 0x35 (p + 512 * b2n rx + 1024 * h.2.2) [boundaryAfter s 700]) 0x7F 0x3A (p + 512 * b2n rx) [boundaryAfter s 700] := by
  unfold doResweepEnd
  rw [← ho, hh]
  exact if_neg (by rw [hs]; exact Bool.false_ne_true)

end Resweep

/-- A record that checks, of a ready module, is restored side by side (R155). -/
theorem doCalLive_snd (s : State) (p : Nat) (bs : List Byte) : (doCalLive s p bs).2 =
    if calLiveOk p bs = true ∧ dval s Obj.moduleState = 1
    then (List.range 36).foldl (fun u k => restoreSide (restoreSide u p false k bs) p true k bs) s else s := by
  unfold doCalLive
  by_cases h : calLiveOk p bs = true ∧ dval s Obj.moduleState = 1
  · rw [if_pos h, if_neg (by simp [h.1, h.2])]
    rfl
  · rw [if_neg h, if_pos (by simpa only [not_and_or, Bool.not_eq_true', Bool.not_eq_true] using h)]

/-- Settles O25: a cycle's start by its conditions, the CONTROL functions by whether a die takes them, the end of a step by its time and each ring's result,
a re-sweep by its hold, and a restored record by its check. -/
theorem calibrationAndSwing : Obligations.CalibrationAndSwing := by
  refine ⟨fun s u t ht hu => ⟨fun he ha hd hr hn => ?_, fun h => ?_⟩, ?_, ?_, fun s k => ⟨calResult_of_closed, calResult_of_met, fun n u ho he hf hn hu => ?_⟩,
    ?_, fun p rx s o ho => ⟨fun h => ?_, fun h hh hs => ?_⟩, fun p bs s => congrArg Host.Outcome.next (doCalLive_snd s p.val bs)⟩
  · exact congrArg Host.Outcome.next (doCycleStart_of_due ht hu he ha hd hr hn)
  · exact congrArg Host.Outcome.next (doCycleStart_of_held ht h)
  · intro src seq step rx t s s1 took h
    refine congrArg Host.Outcome.next ?_
    dsimp only
    rw [h]
  · rintro last s0 s rfl
    refine ⟨fun h => ?_, fun t hr h => ?_, fun t rx line s1 hr h hx hl h1 => ?_⟩
    · exact congrArg Host.Outcome.next (doCalStepEnd_of_none h)
    · exact congrArg Host.Outcome.next (doCalStepEnd_of_early hr h)
    · exact congrArg Host.Outcome.next (doCalStepEnd_of_over hr h hx hl h1)
  · exact calResult_of_failed ho he hf hn hu
  · intro src seq p rx line t s s1 took
    refine ⟨fun h => congrArg Host.Outcome.next ?_, fun h => congrArg Host.Outcome.next ?_⟩ <;> dsimp only <;> rw [h]
  · exact congrArg Host.Outcome.next (doResweepEnd_of_open ho h)
  · exact congrArg Host.Outcome.next (doResweepEnd_of_settled ho hh hs)

end Sys2Proof.Machine
end

section
/-! Byte strings: the two readings of a number's bytes agree, and what a slice reads after a splice. -/
namespace Sys2Proof.Machine

@[simp] theorem length_toLe (k n : Nat) : (toLe k n).length = k := by
  induction k generalizing n with
  | zero => rfl
  | succ k ih => simp [toLe, ih]

theorem leNat_toLe {k n : Nat} (h : n < 256 ^ k) : leNat (toLe k n) = n := by
  induction k generalizing n with
  | zero => simp only [Nat.pow_zero, Nat.lt_one_iff] at h; simp [toLe, leNat, h]
  | succ k ih =>
    have hd : n / 256 < 256 ^ k := Nat.div_lt_of_lt_mul (by rwa [Nat.pow_succ'] at h)
    simp only [toLe, leNat, ih hd, BitVec.toNat_ofNat]
    omega

theorem toLe_leNat (bs : List Byte) : toLe bs.length (leNat bs) = bs := by
  induction bs with
  | nil => rfl
  | cons b bs ih =>
    have hb := b.isLt
    have hd : (b.toNat + 256 * leNat bs) / 256 = leNat bs := by omega
    have hm : BitVec.ofNat 8 (b.toNat + 256 * leNat bs) = b := by
      apply BitVec.eq_of_toNat_eq
      simp only [BitVec.toNat_ofNat]
      omega
    simp only [List.length_cons, toLe, leNat, hd, hm, ih]

/-- Byte strings of one length are told apart by their numbers. -/
theorem leNat_inj {a b : List Byte} (hl : a.length = b.length) (h : leNat a = leNat b) : a = b := by
  rw [← toLe_leNat a, ← toLe_leNat b, hl, h]

@[simp] theorem length_slice (bs : List Byte) (lo len : Nat) : (slice bs lo len).length = len := by
  simp [slice]

theorem getD_slice (bs : List Byte) {lo len n : Nat} (h : n < len) : (slice bs lo len).getD n 0 = bs.getD (lo + n) 0 := by
  simp only [slice, List.getD_eq_getElem?_getD, List.getElem?_append, List.length_take, List.length_drop, List.getElem?_take, List.getElem?_drop,
    List.getElem?_replicate]
  by_cases hn : lo + n < bs.length
  · rw [if_pos (by omega), if_pos h]
  · rw [if_neg (by omega), List.getElem?_eq_none (by omega)]
    split <;> rfl

theorem slice_zero_of_length {bs : List Byte} {n : Nat} (h : bs.length = n) : slice bs 0 n = bs := by
  subst h
  simp [slice]

theorem length_splice {bs v : List Byte} {lo : Nat} (h : lo + v.length ≤ bs.length) : (splice bs lo v).length = bs.length := by
  simp [splice]
  omega

theorem getD_splice {bs v : List Byte} {lo : Nat} (h : lo + v.length ≤ bs.length) (n : Nat) :
    (splice bs lo v).getD n 0 = if lo ≤ n ∧ n < lo + v.length then v.getD (n - lo) 0 else bs.getD n 0 := by
  have hlo : (bs.take lo).length = lo := by simp; omega
  simp only [splice, List.getD_eq_getElem?_getD, List.append_assoc]
  by_cases h1 : n < lo
  · rw [List.getElem?_append_left (by omega), List.getElem?_take_of_lt h1, if_neg (by omega)]
  · rw [List.getElem?_append_right (by omega), hlo]
    by_cases h2 : n < lo + v.length
    · rw [List.getElem?_append_left (by omega), if_pos (by omega)]
    · rw [List.getElem?_append_right (by omega), if_neg (by omega), List.getElem?_drop, show lo + v.length + (n - lo - v.length) = n by omega]

/-- Byte strings of one length that read alike are equal. -/
theorem eq_of_getD {a b : List Byte} (hl : a.length = b.length) (h : ∀ n, n < a.length → a.getD n 0 = b.getD n 0) : a = b := by
  refine List.ext_getElem hl (fun n h1 h2 => ?_)
  have := h n h1
  rwa [List.getD_eq_getElem _ _ h1, List.getD_eq_getElem _ _ h2] at this

theorem slice_congr {a b : List Byte} {lo lo' len : Nat} (h : ∀ n, n < len → a.getD (lo + n) 0 = b.getD (lo' + n) 0) :
    slice a lo len = slice b lo' len := by
  refine eq_of_getD (by simp) (fun n hn => ?_)
  rw [length_slice] at hn
  rw [getD_slice a hn, getD_slice b hn, h n hn]

/-- A slice at the place of a splice reads what was put there. -/
theorem slice_splice {bs v : List Byte} {lo : Nat} (h : lo + v.length ≤ bs.length) : slice (splice bs lo v) lo v.length = v := by
  refine eq_of_getD (by simp) (fun n hn => ?_)
  rw [length_slice] at hn
  rw [getD_slice _ hn, getD_splice h, if_pos (by omega), show lo + n - lo = n by omega]

/-- A slice beside a splice reads what was there. -/
theorem slice_splice_of_apart {bs v : List Byte} {lo a len : Nat} (h : lo + v.length ≤ bs.length) (ha : a + len ≤ lo ∨ lo + v.length ≤ a) :
    slice (splice bs lo v) a len = slice bs a len :=
  slice_congr (fun n hn => by rw [getD_splice h, if_neg (by omega)])

theorem leAt_splice_toLe {bs : List Byte} {lo k n : Nat} (h : lo + k ≤ bs.length) (hn : n < 256 ^ k) : leAt (splice bs lo (toLe k n)) lo k = n := by
  have := slice_splice (bs := bs) (v := toLe k n) (lo := lo) (by simpa using h)
  rw [length_toLe] at this
  rw [leAt, this, leNat_toLe hn]

end Sys2Proof.Machine
end

section
/-! The check code corrects any error of one die (R175, R176): multiplication by alpha has no small order, so the errors of two dies never
have the same syndromes; and a line is told by its symbols. -/
namespace Sys2Proof.Machine

/-! The field. -/

/-- A summand added to both sides falls out. -/
theorem xor_xor_xor_cancel_right (a b c : BitVec 32) : a ^^^ c ^^^ (b ^^^ c) = a ^^^ b := by
  rw [BitVec.xor_comm b c, ← BitVec.xor_assoc, BitVec.xor_assoc a, BitVec.xor_self, BitVec.xor_zero]

theorem gfAlpha_xor (x y : BitVec 32) : gfAlpha (x ^^^ y) = gfAlpha x ^^^ gfAlpha y := by
  unfold gfAlpha
  rw [BitVec.getLsbD_xor, BitVec.shiftLeft_xor_distrib]
  cases x.getLsbD 31 <;> cases y.getLsbD 31 <;> simp [xor_xor_xor_cancel_right] <;> ac_rfl

/-- Alpha is no divisor of zero: the modulus has a constant term. -/
theorem eq_zero_of_gfAlpha {x : BitVec 32} (h : gfAlpha x = 0) : x = 0 := by
  have hbit : ∀ i, (gfAlpha x).getLsbD i = false := by simp [h]
  unfold gfAlpha at h hbit
  have htop : x.getLsbD 31 = false := by
    by_contra hx
    have := hbit 0
    rw [Bool.not_eq_false] at hx
    rw [if_pos hx, BitVec.getLsbD_xor] at this
    simp at this
  apply BitVec.eq_of_getLsbD_eq
  intro i hi
  by_cases hi31 : i = 31
  · rw [hi31, htop]; rfl
  · have := hbit (i + 1)
    rw [if_neg (by rw [htop]; exact Bool.false_ne_true), BitVec.getLsbD_xor, BitVec.getLsbD_shiftLeft] at this
    simpa [show i + 1 < 32 by omega] using this

/-- A map of the field that adds up and commutes with alpha: multiplication by an element. -/
structure GfLinear (g : BitVec 32 → BitVec 32) : Prop where
  xor : ∀ x y, g (x ^^^ y) = g x ^^^ g y
  alpha : ∀ x, g (gfAlpha x) = gfAlpha (g x)

namespace GfLinear
variable {f g : BitVec 32 → BitVec 32}

theorem zero (hg : GfLinear g) : g 0 = 0 := by
  simpa using hg.xor 0 0

theorem id : GfLinear (fun x => x) := ⟨fun _ _ => rfl, fun _ => rfl⟩

theorem const_zero : GfLinear (fun _ => 0) := ⟨fun _ _ => rfl, fun _ => by decide⟩

theorem add (hf : GfLinear f) (hg : GfLinear g) : GfLinear (fun x => f x ^^^ g x) :=
  ⟨fun x y => by rw [hf.xor, hg.xor]; ac_rfl, fun x => by rw [hf.alpha, hg.alpha, gfAlpha_xor]⟩

theorem comp (hf : GfLinear f) (hg : GfLinear g) : GfLinear (fun x => f (g x)) :=
  ⟨fun x y => by rw [hg.xor, hf.xor], fun x => by rw [hg.alpha, hf.alpha]⟩

theorem alphaPow (n : Nat) : GfLinear (gfAlphaPow n) := by
  induction n with
  | zero => exact GfLinear.id
  | succ n ih => exact ih.comp ⟨gfAlpha_xor, fun _ => rfl⟩

/-- Such a map is known by what it makes of 1: every element is 1 multiplied up by alpha and added. -/
theorem eq_self (hg : GfLinear g) (h1 : g 1 = 1) (x : BitVec 32) : g x = x := by
  suffices h : ∀ n, ∀ x : BitVec 32, x.toNat < 2 ^ n → g x = x from h 32 x x.isLt
  intro n
  induction n with
  | zero =>
    intro x hx
    have : x = 0 := BitVec.eq_of_toNat_eq (by simpa using hx)
    rw [this, hg.zero]
  | succ n ih =>
    intro x hx
    have hhalf : g (x >>> 1) = x >>> 1 := ih _ (by rw [BitVec.toNat_ushiftRight, Nat.shiftRight_one]; omega)
    have hlow : g (x &&& 1) = x &&& 1 := by
      have hb : x &&& 1 = 0 ∨ x &&& 1 = 1 := by
        have : (x &&& 1).toNat < 2 := by
          rw [BitVec.toNat_and]
          exact lt_of_le_of_lt Nat.and_le_right (by decide)
        rcases (by omega : (x &&& 1).toNat = 0 ∨ (x &&& 1).toNat = 1) with h | h
        · exact .inl (BitVec.eq_of_toNat_eq h)
        · exact .inr (BitVec.eq_of_toNat_eq h)
      rcases hb with hb | hb <;> rw [hb]
      · exact hg.zero
      · exact h1
    have hx : gfAlpha (x >>> 1) ^^^ (x &&& 1) = x := by
      unfold gfAlpha
      rw [if_neg (by simp)]
      refine BitVec.eq_of_getLsbD_eq (fun i hi => ?_)
      rw [BitVec.getLsbD_xor, BitVec.getLsbD_xor, BitVec.getLsbD_shiftLeft, BitVec.getLsbD_and]
      cases i with
      | zero => simp
      | succ i => simp [hi, Nat.add_comm 1 i]
    conv_lhs => rw [← hx]
    rw [hg.xor, hg.alpha, hhalf, hlow, hx]

end GfLinear

/-- Multiplication by the element whose coefficients are the low `n` bits of `u`. -/
def gfScale (u : BitVec 32) : Nat → BitVec 32 → BitVec 32
  | 0, _ => 0
  | n + 1, x => gfScale u n x ^^^ (if u.getLsbD n then gfAlphaPow n x else 0)

theorem GfLinear.scale (u : BitVec 32) (n : Nat) : GfLinear (gfScale u n) := by
  induction n with
  | zero => exact GfLinear.const_zero
  | succ n ih =>
    refine ih.add ?_
    cases u.getLsbD n
    · exact GfLinear.const_zero
    · exact GfLinear.alphaPow n

@[simp] theorem gfAlphaPow_zero (n : Nat) : gfAlphaPow n 0 = 0 := (GfLinear.alphaPow n).zero

theorem gfAlphaPow_add (m n : Nat) (x : BitVec 32) : gfAlphaPow (m + n) x = gfAlphaPow m (gfAlphaPow n x) := by
  induction n generalizing x with
  | zero => rfl
  | succ n ih => exact ih (gfAlpha x)

theorem eq_zero_of_gfAlphaPow {n : Nat} {x : BitVec 32} (h : gfAlphaPow n x = 0) : x = 0 := by
  induction n generalizing x with
  | zero => exact h
  | succ n ih => exact eq_zero_of_gfAlpha (ih h)

/-- What a power of alpha leaves as it is, its multiples leave. -/
theorem gfAlphaPow_mul_of_fixed {k : Nat} {x : BitVec 32} (h : gfAlphaPow k x = x) (n : Nat) : gfAlphaPow (k * n) x = x := by
  induction n with
  | zero => rfl
  | succ n ih => rw [Nat.mul_succ, gfAlphaPow_add, h, ih]

/-- Where 1 + alpha^k has an inverse, alpha^k leaves only 0 as it is. -/
theorem eq_zero_of_fixed_of_inverse {k : Nat} (u : BitVec 32) (hu : gfScale u 32 (gfAlphaPow k 1 ^^^ 1) = 1) {x : BitVec 32} (h : gfAlphaPow k x = x) :
    x = 0 := by
  have hlin := (GfLinear.scale u 32).comp ((GfLinear.alphaPow k).add GfLinear.id)
  have hx := hlin.eq_self hu x
  rw [h, BitVec.xor_self] at hx
  exact hx.symm.trans (GfLinear.scale u 32).zero

/-- Alpha has no order from 1 to 15 on any element but 0: each of them divides 120, 126 or 143, where 1 + alpha^k has an inverse. -/
theorem eq_zero_of_gfAlphaPow_fixed {k : Nat} (h1 : 1 ≤ k) (h15 : k ≤ 15) {x : BitVec 32} (h : gfAlphaPow k x = x) : x = 0 := by
  have hk : 120 = k * (120 / k) ∨ 126 = k * (126 / k) ∨ 143 = k * (143 / k) := by
    interval_cases k <;> decide
  rcases hk with hk | hk | hk
  · exact eq_zero_of_fixed_of_inverse (k := 120) 0x8226f20d#32 (by decide +kernel) (by rw [hk]; exact gfAlphaPow_mul_of_fixed h _)
  · exact eq_zero_of_fixed_of_inverse (k := 126) 0x3ba3a610#32 (by decide +kernel) (by rw [hk]; exact gfAlphaPow_mul_of_fixed h _)
  · exact eq_zero_of_fixed_of_inverse (k := 143) 0x3677d916#32 (by decide +kernel) (by rw [hk]; exact gfAlphaPow_mul_of_fixed h _)

/-- Two different powers of alpha up to 15 agree on 0 alone. -/
theorem eq_zero_of_gfAlphaPow_eq {i j : Nat} (hi : i < 16) (hj : j < 16) (hij : i ≠ j) {x : BitVec 32} (h : gfAlphaPow i x = gfAlphaPow j x) : x = 0 := by
  wlog hlt : i < j generalizing i j
  · exact this hj hi (Ne.symm hij) h.symm (by omega)
  obtain ⟨k, rfl⟩ : ∃ k, j = i + k := ⟨j - i, by omega⟩
  rw [gfAlphaPow_add] at h
  refine eq_zero_of_gfAlphaPow_fixed (k := k) (by omega) (by omega) ?_
  have h0 : gfAlphaPow i (gfAlphaPow k x ^^^ x) = 0 := by rw [(GfLinear.alphaPow i).xor, h, BitVec.xor_self]; rfl
  exact BitVec.xor_eq_zero_iff.mp (eq_zero_of_gfAlphaPow h0)

/-! Syndromes of errors. -/

/-- The syndromes of an error of one die alone: a data die's, P's, Q's (R175). -/
def dieSyn (i : Fin 18) (e : BitVec 32) : BitVec 32 × BitVec 32 :=
  if i.val < 16 then (e, gfAlphaPow i.val e) else if i = 16 then (e, 0) else (0, e)

theorem dieSyn_of_data {i : Fin 18} (h : i.val < 16) (e : BitVec 32) : dieSyn i e = (e, gfAlphaPow i.val e) := if_pos h
@[simp] theorem dieSyn_p (e : BitVec 32) : dieSyn 16 e = (e, 0) := rfl
@[simp] theorem dieSyn_q (e : BitVec 32) : dieSyn 17 e = (0, e) := rfl

/-- A die is one of the 16 data dies, P's or Q's. -/
theorem die_cases (i : Fin 18) : i.val < 16 ∨ i = 16 ∨ i = 17 := by
  have := i.isLt
  simp only [Fin.ext_iff]
  omega

@[simp] theorem dieSyn_zero (i : Fin 18) : dieSyn i 0 = (0, 0) := by
  rcases die_cases i with h | rfl | rfl
  · rw [dieSyn_of_data h, gfAlphaPow_zero]
  · rfl
  · rfl

theorem dieSyn_xor (i : Fin 18) (e f : BitVec 32) : dieSyn i (e ^^^ f) = ((dieSyn i e).1 ^^^ (dieSyn i f).1, (dieSyn i e).2 ^^^ (dieSyn i f).2) := by
  rcases die_cases i with h | rfl | rfl
  · simp only [dieSyn_of_data h, (GfLinear.alphaPow i.val).xor]
  · simp
  · simp

/-- Errors of two dies never have the same syndromes: the code's distance is 3 (R176). -/
theorem eq_zero_of_dieSyn_eq {i j : Fin 18} (hij : i ≠ j) {e f : BitVec 32} (h : dieSyn i e = dieSyn j f) : e = 0 := by
  rcases die_cases i with hi | rfl | rfl <;> rcases die_cases j with hj | rfl | rfl <;>
    simp only [dieSyn_of_data, dieSyn_p, dieSyn_q, *, Prod.mk.injEq] at h
  · obtain ⟨rfl, h⟩ := h
    exact eq_zero_of_gfAlphaPow_eq hi hj (fun hv => hij (Fin.ext hv)) h
  · exact eq_zero_of_gfAlphaPow h.2
  · exact h.1
  · exact h.1.trans (eq_zero_of_gfAlphaPow h.2.symm)
  · exact absurd rfl hij
  · exact h.1
  · rw [h.2, ← h.1, gfAlphaPow_zero]
  · exact h.2
  · exact absurd rfl hij

/-- The die the syndromes fit has an error with these syndromes, and it is not 0. -/
theorem dieSyn_of_fitDie {s0 s1 : BitVec 32} {i : Fin 18} (h : fitDie s0 s1 = some i) : ∃ e, dieSyn i e = (s0, s1) := by
  unfold fitDie at h
  split at h
  · split at h
    · rename_i k hk
      have hs := List.find?_some hk
      cases h
      exact ⟨s0, by rw [dieSyn_of_data (by simp), ← beq_iff_eq.mp hs]; rfl⟩
    · cases h
  · rename_i h01
    split at h
    · rename_i h0
      cases h
      exact ⟨s0, by rw [dieSyn_p, Classical.not_not.mp (fun h1 => h01 ⟨h0, h1⟩)]⟩
    · rename_i h0
      split at h
      · cases h
        exact ⟨s1, by rw [dieSyn_q, Classical.not_not.mp h0]⟩
      · cases h

/-- The syndromes of one die's error fit a die. -/
theorem fitDie_dieSyn_isSome (i : Fin 18) {e : BitVec 32} (he : e ≠ 0) : (fitDie (dieSyn i e).1 (dieSyn i e).2).isSome = true := by
  rcases die_cases i with hi | rfl | rfl
  · rw [dieSyn_of_data hi]
    unfold fitDie
    rw [if_pos ⟨he, fun h => he (eq_zero_of_gfAlphaPow h)⟩]
    cases hf : (List.finRange 16).find? (fun k => gfAlphaPow k.val e == gfAlphaPow i.val e) with
    | some k => rfl
    | none => exact absurd (List.find?_eq_none.mp hf ⟨i.val, hi⟩ (List.mem_finRange _)) (by simp)
  · simp [fitDie, show e ≠ 0#32 from he]
  · simp [fitDie, show e ≠ 0#32 from he]

/-- The syndromes of one die's error fit that die. -/
theorem fitDie_dieSyn (i : Fin 18) {e : BitVec 32} (he : e ≠ 0) : fitDie (dieSyn i e).1 (dieSyn i e).2 = some i := by
  obtain ⟨k, hk⟩ := Option.isSome_iff_exists.mp (fitDie_dieSyn_isSome i he)
  obtain ⟨g, hg⟩ := dieSyn_of_fitDie hk
  rw [hk]
  by_contra hne
  exact he (eq_zero_of_dieSyn_eq (fun h => hne (by rw [h])) hg.symm)

/-- No error of one die has the syndromes of the poison mark (R175). -/
theorem dieSyn_ne_poison (i : Fin 18) (e : BitVec 32) : ¬((dieSyn i e).1 = 1 ∧ (dieSyn i e).2 = alpha40) := by
  rintro ⟨h1, h2⟩
  rcases die_cases i with hi | rfl | rfl
  · rw [dieSyn_of_data hi] at h1 h2
    dsimp only at h1 h2
    subst h1
    obtain ⟨n, hn⟩ := i
    dsimp only at hi h2
    revert h2
    interval_cases n <;> decide +kernel
  · exact absurd (show (0 : BitVec 32) = alpha40 from h2) (by decide +kernel)
  · exact absurd (show (0 : BitVec 32) = 1 from h1) (by decide)

theorem dieSyn_ne_zero (i : Fin 18) {e : BitVec 32} (he : e ≠ 0) : ¬((dieSyn i e).1 = 0 ∧ (dieSyn i e).2 = 0) := by
  rintro ⟨h1, h2⟩
  rcases die_cases i with hi | rfl | rfl
  · rw [dieSyn_of_data hi] at h1; exact he h1
  · exact he h1
  · exact he h2

/-- One die's error is corrected, with no die or that die marked (R176). -/
theorem decodeSyn_dieSyn {marked : Option (Fin 18)} {i : Fin 18} {e : BitVec 32} (he : e ≠ 0) (hm : marked = none ∨ marked = some i) :
    decodeSyn marked (dieSyn i e).1 (dieSyn i e).2 = .corrected i := by
  unfold decodeSyn
  rw [if_neg (dieSyn_ne_zero i he), if_neg (dieSyn_ne_poison i e), fitDie_dieSyn i he]
  rcases hm with rfl | rfl
  · rfl
  · exact if_pos rfl

/-- With a die marked, what decodes as clean or corrected has the syndromes of an error of that die alone (R176). -/
theorem decodeSyn_marked {j : Fin 18} {s0 s1 : BitVec 32} (h : decodeSyn (some j) s0 s1 = .clean ∨ ∃ k, decodeSyn (some j) s0 s1 = .corrected k) :
    ∃ g, dieSyn j g = (s0, s1) := by
  unfold decodeSyn at h
  split at h
  · rename_i h0
    exact ⟨0, by rw [dieSyn_zero, h0.1, h0.2]⟩
  · split at h
    · simp at h
    · split at h
      · rename_i k hk
        dsimp only at h
        split at h
        · rename_i hkj
          exact hkj ▸ dieSyn_of_fitDie hk
        · simp at h
      · simp at h

/-! Check symbols of a line with errors. -/

/-- The first `n` symbols, each multiplied by its factor, added up. -/
def symSum (g : Nat → BitVec 32 → BitVec 32) (n : Nat) (a : Nat → BitVec 32) : BitVec 32 := (List.range n).foldl (fun x k => x ^^^ g k (a k)) 0

theorem checkP_eq (d : List Byte) : checkP d = symSum (fun _ x => x) 16 (symbol d) := rfl
theorem checkQ_eq (d : List Byte) : checkQ d = symSum gfAlphaPow 16 (symbol d) := rfl

theorem symSum_succ (g : Nat → BitVec 32 → BitVec 32) (n : Nat) (a : Nat → BitVec 32) : symSum g (n + 1) a = symSum g n a ^^^ g n (a n) := by
  simp [symSum, List.range_succ]

theorem symSum_congr {g : Nat → BitVec 32 → BitVec 32} {n : Nat} {a b : Nat → BitVec 32} (h : ∀ k, k < n → a k = b k) : symSum g n a = symSum g n b := by
  induction n with
  | zero => rfl
  | succ n ih => rw [symSum_succ, symSum_succ, h n (by omega), ih (fun k hk => h k (by omega))]

section SymSum
variable {g : Nat → BitVec 32 → BitVec 32} (hg : ∀ k, GfLinear (g k))
include hg

theorem symSum_xor (n : Nat) (a b : Nat → BitVec 32) : symSum g n (fun k => a k ^^^ b k) = symSum g n a ^^^ symSum g n b := by
  induction n with
  | zero => simp [symSum]
  | succ n ih => rw [symSum_succ, symSum_succ, symSum_succ, ih, (hg n).xor]; ac_rfl

/-- A single symbol in error. -/
theorem symSum_single (n i : Nat) (e : BitVec 32) : symSum g n (fun k => if k = i then e else 0) = if i < n then g i e else 0 := by
  induction n with
  | zero => rfl
  | succ n ih =>
    rw [symSum_succ, ih]
    rcases Nat.lt_trichotomy i n with h | rfl | h
    · rw [if_pos h, if_neg (by omega), if_pos (by omega), (hg n).zero]; simp
    · rw [if_neg (by omega), if_pos rfl, if_pos (by omega)]; simp
    · rw [if_neg (by omega), if_neg (by omega), if_neg (by omega), (hg n).zero]; rfl

/-- What errors on two dies add to a sum of the symbols. -/
theorem symSum_errors {a b : Nat → BitVec 32} {i j : Nat} (hij : i ≠ j) {e f : BitVec 32}
    (h : ∀ k, k < 16 → a k = b k ^^^ (if k = i then e else if k = j then f else 0)) :
    symSum g 16 a = symSum g 16 b ^^^ ((if i < 16 then g i e else 0) ^^^ (if j < 16 then g j f else 0)) := by
  have h2 : ∀ k, k < 16 → a k = b k ^^^ ((if k = i then e else 0) ^^^ (if k = j then f else 0)) := by
    intro k hk
    rw [h k hk]
    by_cases hi : k = i
    · rw [if_pos hi, if_pos hi, if_neg (fun hj => hij (hi.symm.trans hj))]; simp
    · rw [if_neg hi, if_neg hi]; simp
  rw [symSum_congr h2, symSum_xor hg, symSum_xor hg, symSum_single hg, symSum_single hg]

end SymSum

/-- The error of a die in P's symbol: its own or, of a data die, as it is; and of Q's symbol. -/
theorem dieSyn_fst (i : Fin 18) (e : BitVec 32) : (dieSyn i e).1 = (if i.val < 16 then e else 0) ^^^ (if i.val = 16 then e else 0) := by
  rcases die_cases i with h | rfl | rfl
  · rw [dieSyn_of_data h, if_pos h, if_neg (by omega)]; simp
  · simp
  · simp

theorem dieSyn_snd (i : Fin 18) (e : BitVec 32) : (dieSyn i e).2 = (if i.val < 16 then gfAlphaPow i.val e else 0) ^^^ (if i.val = 17 then e else 0) := by
  rcases die_cases i with h | rfl | rfl
  · rw [dieSyn_of_data h, if_pos h, if_neg (by omega)]; simp
  · simp
  · simp

/-- Of two dies at most one is a given one. -/
theorem ite_ite_xor {i j n : Nat} (hij : i ≠ j) (e f : BitVec 32) :
    (if i = n then e else if j = n then f else 0) = (if i = n then e else 0) ^^^ (if j = n then f else 0) := by
  by_cases hi : i = n
  · rw [if_pos hi, if_pos hi, if_neg (fun hj => hij (hi.trans hj.symm))]; simp
  · rw [if_neg hi, if_neg hi]; simp

section Line
variable {d : List Byte} {st : Stack} {l : Nat} {i j : Fin 18} {e f : BitVec 32} (hij : i ≠ j)
  (hsym : ∀ k : Nat, k < 16 → symbol (lineBytes st l) k = symbol d k ^^^ (if k = i.val then e else if k = j.val then f else 0))
  (hchk : lineCheck st l = (checkQ d ^^^ (if i.val = 17 then e else if j.val = 17 then f else 0)) ++
    (checkP d ^^^ (if i.val = 16 then e else if j.val = 16 then f else 0)))
include hij hsym hchk

/-- The syndromes of a line whose symbols differ from what was written in two dies are those of the dies' errors, added. -/
theorem lineSyn_of_errors : lineSyn st l = ((dieSyn i e).1 ^^^ (dieSyn j f).1, (dieSyn i e).2 ^^^ (dieSyn j f).2) := by
  have hv : i.val ≠ j.val := fun h => hij (Fin.ext h)
  have hlo : ∀ q r : BitVec 32, (q ++ r).extractLsb' 0 32 = r := fun q r => BitVec.extractLsb'_append_eq_right
  have hhi : ∀ q r : BitVec 32, (q ++ r).extractLsb' 32 32 = q := fun q r => BitVec.extractLsb'_append_eq_left
  have hc : ∀ a b c : BitVec 32, a ^^^ b ^^^ (a ^^^ c) = b ^^^ c := fun a b c => by
    rw [BitVec.xor_comm a b, BitVec.xor_comm a c, xor_xor_xor_cancel_right]
  unfold lineSyn
  rw [hchk]
  dsimp only
  rw [hlo, hhi, checkP_eq (lineBytes st l), checkQ_eq (lineBytes st l), symSum_errors (fun _ => GfLinear.id) hv hsym,
    symSum_errors GfLinear.alphaPow hv hsym, ← checkP_eq, ← checkQ_eq, hc, hc, ite_ite_xor hv, ite_ite_xor hv, dieSyn_fst, dieSyn_fst, dieSyn_snd, dieSyn_snd]
  congr 1 <;> ac_rfl

/-- The only error is corrected, whatever the mark on its die (R176). -/
theorem lineState_of_one_error (he : e ≠ 0) (hf : f = 0) (hb : bufLineAt st l = none) (hm : st.marked = none ∨ st.marked = some i) :
    lineState st l = .corrected i ∧ (lineSyn st l).1 = (dieSyn i e).1 := by
  have hs := lineSyn_of_errors hij hsym hchk
  simp only [hf, dieSyn_zero] at hs
  have hz : ∀ x : BitVec 32, x ^^^ 0 = x := fun x => BitVec.xor_zero
  rw [hz, hz] at hs
  refine ⟨?_, by rw [hs]⟩
  unfold lineState
  rw [hb, hs]
  exact decodeSyn_dieSyn he hm

/-- With one die marked and another in error the line is neither clean nor corrected (R176). -/
theorem lineState_of_marked (he : e ≠ 0) (hb : bufLineAt st l = none) (hm : st.marked = some j) :
    lineState st l ≠ .clean ∧ ∀ k, lineState st l ≠ .corrected k := by
  have hs := lineSyn_of_errors hij hsym hchk
  have hl : lineState st l = decodeSyn (some j) (lineSyn st l).1 (lineSyn st l).2 := by
    unfold lineState
    rw [hb, hm]
  rw [hl, ← not_exists, ← not_or]
  intro h
  obtain ⟨g, hg⟩ := decodeSyn_marked h
  have hi : dieSyn i e = dieSyn j (g ^^^ f) := by
    rw [dieSyn_xor, hg, hs]
    dsimp only
    rw [BitVec.xor_assoc, BitVec.xor_assoc, BitVec.xor_self, BitVec.xor_self, BitVec.xor_zero, BitVec.xor_zero]
  exact he (eq_zero_of_dieSyn_eq hij hi)

end Line

/-! A line is told by its symbols. -/

theorem leNat_lt (bs : List Byte) : leNat bs < 256 ^ bs.length := by
  induction bs with
  | nil => simp [leNat]
  | cons b bs ih =>
    have := b.isLt
    simp only [leNat, List.length_cons, Nat.pow_succ]
    omega

theorem toNat_symbol (d : List Byte) (k : Nat) : (symbol d k).toNat = leAt d (4 * k) 4 := by
  have := leNat_lt (slice d (4 * k) 4)
  rw [length_slice] at this
  rw [symbol, BitVec.toNat_ofNat]
  exact Nat.mod_eq_of_lt this

theorem symbol_inj {a b : List Byte} {k : Nat} : symbol a k = symbol b k ↔ slice a (4 * k) 4 = slice b (4 * k) 4 := by
  constructor
  · intro h
    have h := congrArg BitVec.toNat h
    rw [toNat_symbol, toNat_symbol] at h
    exact leNat_inj (by simp) h
  · intro h
    unfold symbol leAt
    rw [h]

/-- Two lines with the same 16 symbols are equal. -/
theorem eq_of_symbols {a b : List Byte} (ha : a.length = 64) (hb : b.length = 64) (h : ∀ k, k < 16 → symbol a k = symbol b k) : a = b := by
  refine eq_of_getD (ha.trans hb.symm) (fun n hn => ?_)
  have hs := symbol_inj.mp (h (n / 4) (by omega))
  have hn4 : n = 4 * (n / 4) + n % 4 := by omega
  rw [hn4, ← getD_slice a (len := 4) (by omega), hs, getD_slice b (by omega)]

section Fix
variable {b : List Byte} (hb : b.length = 64) {i : Nat} (hi : i < 16) (s0 : BitVec 32)
include hb hi

theorem length_fixSymbol : (fixSymbol b i s0).length = 64 := by
  unfold fixSymbol
  rw [if_pos hi, length_splice (by rw [length_toLe]; omega), hb]

theorem symbol_fixSymbol_same : symbol (fixSymbol b i s0) i = symbol b i ^^^ s0 := by
  apply BitVec.eq_of_toNat_eq
  unfold fixSymbol
  rw [if_pos hi, toNat_symbol, leAt_splice_toLe (by omega) (symbol b i ^^^ s0).isLt]

theorem symbol_fixSymbol_ne {k : Nat} (hk : k ≠ i) : symbol (fixSymbol b i s0) k = symbol b k := by
  unfold fixSymbol
  rw [if_pos hi]
  exact symbol_inj.mpr (slice_splice_of_apart (by rw [length_toLe]; omega) (by rw [length_toLe]; omega))

end Fix

/-- Correcting the one symbol in error gives back the bytes as written. -/
theorem fixSymbol_of_one_error {b d : List Byte} (hb : b.length = 64) (hd : d.length = 64) (i : Fin 18) {e : BitVec 32}
    (h : ∀ k : Nat, k < 16 → symbol b k = symbol d k ^^^ (if k = i.val then e else 0)) : fixSymbol b i.val (dieSyn i e).1 = d := by
  have hother : ∀ k, k < 16 → k ≠ i.val → symbol b k = symbol d k := fun k hk hne => by
    rw [h k hk, if_neg hne]
    exact BitVec.xor_zero
  by_cases hi : i.val < 16
  · rw [dieSyn_of_data hi]
    refine eq_of_symbols (length_fixSymbol hb hi e) hd (fun k hk => ?_)
    by_cases hki : k = i.val
    · subst hki
      rw [symbol_fixSymbol_same hb hi, h _ hi, if_pos rfl, BitVec.xor_assoc, BitVec.xor_self, BitVec.xor_zero]
    · rw [symbol_fixSymbol_ne hb hi e hki, hother k hk hki]
  · unfold fixSymbol
    rw [if_neg hi]
    exact eq_of_symbols hb hd (fun k hk => hother k hk (by omega))

/-- Settles O56: the errors' syndromes decide how the line decodes, by the distance of the code. -/
theorem dramCorrectsOneDie : Obligations.DramCorrectsOneDie := by
  intro d st l i j e f hd hij he hb hsym hchk
  refine ⟨fun hf hm => ?_, fun hm => ?_⟩
  · obtain ⟨hst, hs0⟩ := lineState_of_one_error hij hsym hchk he hf hb hm
    have hlen : (lineBytes st l).length = 64 := by simp [lineBytes, hb]
    refine ⟨hst, ?_⟩
    simp only [lineRead, hst, hs0]
    rw [fixSymbol_of_one_error hlen hd i (fun k hk => by rw [hsym k hk, hf, ite_self])]
  · obtain ⟨hclean, hcorr⟩ := lineState_of_marked hij hsym hchk he hb hm
    unfold lineRead
    cases hst : lineState st l with
    | clean => exact absurd hst hclean
    | poison => rfl
    | corrected k => exact absurd hst (hcorr k)
    | uncorrectable k => rfl

end Sys2Proof.Machine
end

section
/-! Records at the stacks (R180 to R187): the ten atomics, the three reduces, and records refused. -/
namespace Sys2Proof.Machine

section Record
variable {s : State} {md site : Nat} {r : OpRecord} {data : List Flit} {p : Bool}

theorem doRecord_of_lost (hl : setLostNow s (setOf md) = true) (hw : stackWorks s md = true) :
    doRecord s md site r data p = emit s (.result md site (resultBytes 3 r 0)) := by
  unfold doRecord
  exact if_pos (by simp [hl, hw])

theorem doRecord_of_closed (hs : stackServes s md = false) (h : ¬(setLostNow s (setOf md) = true ∧ stackWorks s md = true)) :
    doRecord s md site r data p = s := by
  unfold doRecord
  rw [if_neg (by simpa using h), if_pos (by simp [hs])]

theorem doRecord_of_serves (hs : stackServes s md = true) : doRecord s md site r data p = recordHere s md site r data p := by
  unfold doRecord
  rw [if_neg (by simp [setLostNow_of_stackServes hs]), if_neg (by simp [hs])]

/-- A record that its stack has accepted, by whether it is valid, its bank is held, and it is an atomic. -/
theorem recordHere_eq : recordHere s md site r data p =
    if recordValid s md r = false then emit (raise s (siteMD md) 0x06 0x2C 1 false (lineDetail r.addr.toNat)) (.result md site (resultBytes 2 r 0))
    else if recordHeld s md r then updStack s md (fun st => { st with bankWait := st.bankWait ++ [.record site r data p] })
    else if isAtomicOp r.op.toNat then
      sendResult (atomicApply s md r p).2.2 md site (resultBytes (atomicApply s md r p).1 r (atomicApply s md r p).2.1)
    else sendResult (reduceApply s md r data).2 md site (resultBytes (reduceApply s md r data).1 r (reduceOld (reduceApply s md r data).1)) := by
  unfold recordHere
  cases recordValid s md r <;> rfl

theorem recordHere_of_invalid (hv : recordValid s md r = false) : recordHere s md site r data p =
    emit (raise s (siteMD md) 0x06 0x2C 1 false (lineDetail r.addr.toNat)) (.result md site (resultBytes 2 r 0)) := by
  rw [recordHere_eq, if_pos hv]

variable (hv : recordValid s md r = true)
include hv

/-- The address of a valid record lies on the stack (R185). -/
theorem mapAddr_of_recordValid : ∃ o, mapAddr s r.addr.toNat = some (md, o) := by
  unfold recordValid at hv
  cases hm : mapAddr s r.addr.toNat with
  | none => simp [hm] at hv
  | some x =>
    obtain ⟨m, o⟩ := x
    refine ⟨o, ?_⟩
    have hmd : m = md := by
      simp only [hm] at hv
      split at hv
      · simp only [Bool.and_eq_true, beq_iff_eq] at hv; exact hv.1.1.1.1.2
      · split at hv
        · simp only [Bool.and_eq_true, beq_iff_eq] at hv; exact hv.1.1.1.1.1.1.2
        · cases hv
    rw [hmd]

theorem recordHere_of_held (hh : recordHeld s md r = true) : recordHere s md site r data p =
    updStack s md (fun st => { st with bankWait := st.bankWait ++ [.record site r data p] }) := by
  rw [recordHere_eq, if_neg (by simp [hv]), if_pos hh]

variable (hh : recordHeld s md r = false)
include hh

theorem recordHere_of_atomic (ha : isAtomicOp r.op.toNat = true) : recordHere s md site r data p =
    sendResult (atomicApply s md r p).2.2 md site (resultBytes (atomicApply s md r p).1 r (atomicApply s md r p).2.1) := by
  rw [recordHere_eq, if_neg (by simp [hv]), if_neg (by simp [hh]), if_pos ha]

theorem recordHere_of_reduce (ha : isAtomicOp r.op.toNat = false) : recordHere s md site r data p =
    sendResult (reduceApply s md r data).2 md site (resultBytes (reduceApply s md r data).1 r (reduceOld (reduceApply s md r data).1)) := by
  rw [recordHere_eq, if_neg (by simp [hv]), if_neg (by simp [hh]), if_neg (by simp [ha])]

end Record

section Apply
variable {s : State} {md : Nat} {r : OpRecord} {p : Bool}

theorem atomicApply_of_poison (hp : (lineRead (stackAt s md) (recordLine s r)).2 = true) :
    atomicApply s md r p = (1, BitVec.allOnes 64, bump (lineReadEffects s md (recordLine s r)) Obj.atomics) := by
  unfold atomicApply
  exact if_pos hp

theorem atomicApply_of_clean (hp : (lineRead (stackAt s md) (recordLine s r)).2 = false) : atomicApply s md r p =
    (0, recordWord s md r, memWriteLine (updStack (bump (lineReadEffects s md (recordLine s r)) Obj.atomics) md (fun st => bufTake st
      { line := recordLine s r, data := (lineRead (stackAt s md) (recordLine s r)).1, poison := false })) md (recordLine s r)
      (splice (lineRead (stackAt s md) (recordLine s r)).1 (((mapAddr s r.addr.toNat).getD (0, 0)).2 % 64)
        (toLe 8 (atomicNew r.op.toNat (recordWord s md r) r.operand r.compare).toNat)) p) := by
  unfold atomicApply
  exact if_neg (by rw [← recordLine, hp]; exact Bool.false_ne_true)

/-- A reduce record of one line reads it, counts it and writes the combined line (R180, R181). -/
theorem reduceApply_of_one {o : Nat} (hm : mapAddr s r.addr.toNat = some (md, o)) (hl : r.lines = 1) (fl : Flit) :
    reduceApply s md r [fl] = (if (reduceLine s md (recordLine s r) r.op.toNat r.fmt.toNat fl).1 then 1 else 0,
      (reduceLine s md (recordLine s r) r.op.toNat r.fmt.toNat fl).2) := by
  simp [reduceApply, recordLine, hl, hm]

theorem sendResult_reduceApply {o : Nat} (site : Nat) (hm : mapAddr s r.addr.toNat = some (md, o)) (hl : r.lines = 1) (fl : Flit) :
    sendResult (reduceApply s md r [fl]).2 md site (resultBytes (reduceApply s md r [fl]).1 r (reduceOld (reduceApply s md r [fl]).1)) =
      reduceDone s md site r fl := by
  rw [reduceApply_of_one hm hl]
  cases h : (lineRead (stackAt s md) (recordLine s r)).2 <;> simp [reduceDone, reduceLine, reduceOld, h]

/-- An atomic that a stack executes (R184 to R187). -/
theorem recordHere_of_runs {site op : Nat} (data : List Flit) (h : RecordRuns s md r op) (ha : isAtomicOp op = true) :
    recordHere s md site r data p = atomicDone s md site r p (atomicNew op (recordWord s md r) r.operand r.compare) := by
  obtain ⟨-, hv, rfl, hh, hp⟩ := h
  rw [recordHere_of_atomic hv hh ha, atomicApply_of_clean hp]
  rfl

end Apply

section Commands
variable {md : Fin 24} {site : Fin 100} {r : OpRecord} {data : List Flit} {p : Bool} {s : State} {op : Nat}

theorem recordCmd_of_other (h : r.op.toNat ≠ op) : recordCmd op md site r data p s = s := if_neg h

theorem recordCmd_of_op (h : r.op.toNat = op) : recordCmd op md site r data p s = doRecord s md.val site.val r data p := if_pos h

theorem recordCmd_of_runs (h : RecordRuns s md.val r op) (ha : isAtomicOp op = true) : recordCmd op md site r data p s =
    atomicDone s md.val site.val r p (atomicNew op (recordWord s md.val r) r.operand r.compare) := by
  rw [recordCmd_of_op h.2.2.1, doRecord_of_serves h.1, recordHere_of_runs data h ha]

/-- A stack that serves nothing does nothing with a record, whatever its OP (R191, R195). -/
theorem recordCmd_of_closed (hs : stackServes s md.val = false) (h : ¬(setLostNow s (setOf md.val) = true ∧ stackWorks s md.val = true)) :
    recordCmd op md site r data p s = s := by
  unfold recordCmd
  rw [doRecord_of_closed hs h, ite_self]

/-- What a command does with a record of any OP, refused, held or poisoned. -/
theorem recordCmd_refusals : (r.op.toNat ≠ op → recordCmd op md site r data p s = s) ∧
    (r.op.toNat = op → setLostNow s (setOf md.val) = true → stackWorks s md.val = true →
      recordCmd op md site r data p s = emit s (.result md.val site.val (resultBytes 3 r 0))) ∧
    (stackServes s md.val = false → ¬(setLostNow s (setOf md.val) = true ∧ stackWorks s md.val = true) → recordCmd op md site r data p s = s) ∧
    (r.op.toNat = op → stackServes s md.val = true →
      (recordValid s md.val r = false → recordCmd op md site r data p s =
        emit (raise s (siteMD md.val) 0x06 0x2C 1 false (lineDetail r.addr.toNat)) (.result md.val site.val (resultBytes 2 r 0))) ∧
      (recordValid s md.val r = true → recordHeld s md.val r = true → recordCmd op md site r data p s =
        updStack s md.val (fun st => { st with bankWait := st.bankWait ++ [.record site.val r data p] })) ∧
      (isAtomicOp op = true → recordValid s md.val r = true → recordHeld s md.val r = false →
        (lineRead (stackAt s md.val) (recordLine s r)).2 = true → recordCmd op md site r data p s =
        sendResult (bump (lineReadEffects s md.val (recordLine s r)) Obj.atomics) md.val site.val (resultBytes 1 r (BitVec.allOnes 64)))) := by
  refine ⟨recordCmd_of_other, fun ho hl hw => ?_, recordCmd_of_closed, fun ho hs => ⟨fun hv => ?_, fun hv hh => ?_, fun ha hv hh hp => ?_⟩⟩ <;>
    rw [recordCmd_of_op ho]
  · exact doRecord_of_lost hl hw
  · rw [doRecord_of_serves hs, recordHere_of_invalid hv]
  · rw [doRecord_of_serves hs, recordHere_of_held hv hh]
  · rw [doRecord_of_serves hs, recordHere_of_atomic hv hh (ho ▸ ha), atomicApply_of_poison hp]

variable (hs : stackServes s md.val = true) (hv : recordValid s md.val r = true) (hh : recordHeld s md.val r = false)
include hs hv hh

theorem recordCmd_of_reduce (ho : r.op.toNat = op) (ha : isAtomicOp op = false) {u : State} {status : Nat} (hu : (status, u) = reduceApply s md.val r data) :
    recordCmd op md site r data p s = sendResult u md.val site.val (resultBytes status r (reduceOld status)) := by
  rw [recordCmd_of_op ho, doRecord_of_serves hs, recordHere_of_reduce hv hh (ho ▸ ha), ← hu]

theorem recordCmd_of_reduce_one (ho : r.op.toNat = op) (ha : isAtomicOp op = false) (hl : r.lines = 1) (fl : Flit) :
    recordCmd op md site r [fl] p s = reduceDone s md.val site.val r fl := by
  obtain ⟨o, hm⟩ := mapAddr_of_recordValid hv
  exact (recordCmd_of_reduce hs hv hh ho ha rfl).trans (sendResult_reduceApply site.val hm hl fl)

end Commands

section Invalid
variable {md : Fin 24} {site : Fin 100} {r : OpRecord} {s : State}

theorem exec_invalidRecord_of_named (h : r.op = 0 ∨ recordValid s md.val r = true) : exec (.invalidRecord md site r) s = .next s :=
  congrArg Host.Outcome.next (if_pos h)

theorem exec_invalidRecord_of_refused (h0 : r.op ≠ 0) (hv : recordValid s md.val r = false) :
    exec (.invalidRecord md site r) s = .next (doRecord s md.val site.val r [] false) :=
  congrArg Host.Outcome.next (if_neg (by rw [hv]; exact not_or.mpr ⟨h0, Bool.false_ne_true⟩))

end Invalid

/-- The commands that carry a record run `recordCmd` for the OP they name, and those up to 10 are the atomics. -/
theorem exec_record {md : Fin 24} {site : Fin 100} {r : OpRecord} {data : List Flit} {p : Bool} {op : Nat} {c : Instr} {q : Bool} {ds : List Flit}
    (h : (op, c, q, ds) ∈ [(1, Instr.add md site r p, p, []), (2, .swap md site r p, p, []), (3, .cas md site r p, p, []), (4, .min md site r p, p, []),
      (5, .max md site r p, p, []), (6, .minu md site r p, p, []), (7, .maxu md site r p, p, []), (8, .and md site r p, p, []), (9, .or md site r p, p, []),
      (10, .xor md site r p, p, []), (0x11, .reduceAdd md site r data, false, data), (0x12, .reduceMin md site r data, false, data),
      (0x13, .reduceMax md site r data, false, data)]) :
    (∀ s, exec c s = .next (recordCmd op md site r ds q s)) ∧ (op ≤ 10 → isAtomicOp op = true) := by
  simp only [List.mem_cons, List.not_mem_nil, or_false, Prod.mk.injEq] at h
  rcases h with h | h | h | h | h | h | h | h | h | h | h | h | h <;> obtain ⟨rfl, rfl, rfl, rfl⟩ := h <;> exact ⟨fun _ => rfl, by decide⟩

/-- Settles O15: each command runs `recordCmd` for its OP, and a record is answered by the branch its condition names. -/
theorem atomicsAndReduces : Obligations.AtomicsAndReduces := by
  refine ⟨fun md site r p s old ho => ?_, fun md site r data p s => ⟨fun hs hv hh => ⟨fun fl hl => ?_, fun u status hu => ?_⟩, ?_,
    exec_invalidRecord_of_named, fun h0 hv => ?_⟩⟩
  · subst ho
    refine ⟨fun h => ?_, fun h => ?_, fun h => ?_, fun h => ?_, fun h => ?_, fun h => ?_, fun h => ?_, fun h => ?_, fun h => ?_, fun h => ?_⟩ <;>
      refine congrArg Host.Outcome.next ((recordCmd_of_runs h rfl).trans ?_) <;>
      simp only [atomicNew, BitVec.slt, BitVec.ult, decide_eq_true_eq]
  · refine ⟨fun ho => ?_, fun ho => ?_, fun ho => ?_⟩ <;>
      exact congrArg Host.Outcome.next (recordCmd_of_reduce_one hs hv hh (by rw [ho]; rfl) rfl hl fl)
  · refine ⟨fun ho => ?_, fun ho => ?_, fun ho => ?_⟩ <;>
      exact congrArg Host.Outcome.next (recordCmd_of_reduce hs hv hh (by rw [ho]; rfl) rfl hu)
  · intro op c q ds h
    obtain ⟨hc, ha⟩ := exec_record h
    obtain ⟨hother, hlost, hclosed, hserves⟩ := recordCmd_refusals (md := md) (site := site) (r := r) (data := ds) (p := q) (s := s) (op := op)
    simp only [hc, Host.Outcome.next.injEq]
    exact ⟨hother, hlost, hclosed, fun ho hs => ⟨(hserves ho hs).1, (hserves ho hs).2.1, fun h10 => (hserves ho hs).2.2 (ha h10)⟩⟩
  · rw [exec_invalidRecord_of_refused h0 hv]
    exact ⟨fun hl hw => by rw [doRecord_of_lost hl hw], fun hs h => by rw [doRecord_of_closed hs h],
      fun hs => by rw [doRecord_of_serves hs, recordHere_of_invalid hv]⟩

end Sys2Proof.Machine
end

section
/-! An atomic changes one word of one DRAM line (R184, R187): the address map keeps the word inside its line, and what the access leaves of
every other line. -/
namespace Sys2Proof.Machine

/-- The stacks of a state whose stores are in canonical form are in canonical form. -/
theorem stackAt_wf {s : State} (h : Memory.wf s = true) (m : Nat) : (stackAt s m).wf = true := by
  simp only [Memory.wf, Bool.and_eq_true] at h
  unfold stackAt tget
  cases hf : tfind s.dramStacks m with
  | none => rfl
  | some st => exact all_tfind (fun e : Nat × Stack => e.2.wf) _ _ _ h.1.2 hf

/-- A mapped set starts at a whole multiple of 768 GiB (R166). -/
theorem setBaseOf_mod {s : State} (h : Memory.wf s = true) (n : Nat) : (setBaseOf s n).getD 0 % setSize = 0 := by
  simp only [Memory.wf, Bool.and_eq_true, List.all_eq_true, beq_iff_eq] at h
  unfold setBaseOf
  by_cases hn : n < s.setBase.length
  · rw [List.getD_eq_getElem _ _ hn]
    exact h.2 _ (List.getElem_mem hn)
  · rw [List.getD_eq_default _ _ (by omega)]
    rfl

/-- An address lies above the start of its set. -/
theorem le_of_addrSet {s : State} {a n : Nat} (h : addrSet s a = some n) : (setBaseOf s n).getD 0 ≤ a := by
  have := List.find?_some h
  cases hb : setBaseOf s n with
  | none => simp
  | some b => simp only [hb, decide_eq_true_eq] at this; exact this.1

/-- The map keeps the place of an address in its granule of 4,096 bytes (R168). -/
theorem mapAddr_mod {s : State} (h : Memory.wf s = true) {a m o : Nat} (ha : mapAddr s a = some (m, o)) : o % 4096 = a % 4096 := by
  unfold mapAddr at ha
  cases hn : addrSet s a with
  | none => simp [hn] at ha
  | some n =>
    simp only [hn, Option.some.injEq, Prod.mk.injEq] at ha
    have hb := setBaseOf_mod h n
    have hle := le_of_addrSet hn
    unfold setSize at hb
    omega

/-- The word of a valid atomic record lies in one line (R185). -/
theorem atomic_word_in_line {s : State} (h : Memory.wf s = true) {md : Nat} {r : OpRecord} (hv : recordValid s md r = true)
    (ha : isAtomicOp r.op.toNat = true) : ((mapAddr s r.addr.toNat).getD (0, 0)).2 % 64 + 8 ≤ 64 := by
  obtain ⟨o, ho⟩ := mapAddr_of_recordValid hv
  have hm := mapAddr_mod h ho
  have h8 : r.addr.toNat % 8 = 0 := by
    simp only [recordValid, ha, if_true, Bool.and_eq_true, beq_iff_eq] at hv
    exact hv.1.2
  rw [ho]
  dsimp only [Option.getD_some]
  omega

/-- A line of a stack in canonical form has 64 bytes. -/
theorem length_lineBytes {st : Stack} (h : st.wf = true) (l : Nat) : (lineBytes st l).length = 64 := by
  unfold lineBytes
  split
  · rename_i b hb
    exact ((Stack.wf_iff st).mp h).2.2.1 b (List.mem_of_find?_eq_some hb)
  · simp

theorem lineRead_of_clean {st : Stack} {l : Nat} (h : lineState st l = .clean) : lineRead st l = (lineBytes st l, false) := by
  simp only [lineRead, h]

theorem lineReadEffects_of_clean {s : State} {m l : Nat} (h : lineState (stackAt s m) l = .clean) : lineReadEffects s m l = s := by
  simp only [lineReadEffects, h]

/-- The map of addresses depends on the start of the sets alone. -/
theorem mapAddr_congr {s t : State} (h : t.setBase = s.setBase) (a : Nat) : mapAddr t a = mapAddr s a := by
  simp only [mapAddr, addrSet, setBaseOf, h]

@[simp] theorem memWriteLine_setBase (s : State) (m l : Nat) (d : List Byte) (p : Bool) : (memWriteLine s m l d p).setBase = s.setBase := by
  unfold memWriteLine
  cases p <;> rfl

@[simp] theorem stackAt_memWriteLine (s : State) (m l : Nat) (d : List Byte) (p : Bool) :
    stackAt (memWriteLine s m l d p) m = lineWrite (stackAt s m) l d p := by
  unfold memWriteLine
  cases p <;> simp

theorem stackAt_memWriteLine_ne (s : State) {j m : Nat} (l : Nat) (d : List Byte) (p : Bool) (h : j ≠ m) :
    stackAt (memWriteLine s m l d p) j = stackAt s j := by
  unfold memWriteLine
  cases p <;> simp [stackAt_updStack_ne s _ h]

@[simp] theorem sendResult_setBase (s : State) (md site : Nat) (bs : List Byte) : (sendResult s md site bs).setBase = s.setBase := by
  unfold sendResult
  split <;> rfl

@[simp] theorem stackAt_sendResult (s : State) (md site : Nat) (bs : List Byte) (j : Nat) : stackAt (sendResult s md site bs) j = stackAt s j := by
  unfold sendResult
  split <;> rfl

section Done
variable {s : State} {md site : Nat} {r : OpRecord} {p : Bool} {new : Word}

@[simp] theorem mapAddr_atomicDone (hc : lineState (stackAt s md) (recordLine s r) = .clean) (a : Nat) :
    mapAddr (atomicDone s md site r p new) a = mapAddr s a :=
  mapAddr_congr (by simp [atomicDone, lineReadEffects_of_clean hc]) a

/-- The stack takes the line into its buffer and writes the new word there (R187). -/
theorem stackAt_atomicDone (hc : lineState (stackAt s md) (recordLine s r) = .clean) : stackAt (atomicDone s md site r p new) md =
    lineWrite (bufTake (stackAt s md) { line := recordLine s r, data := lineBytes (stackAt s md) (recordLine s r), poison := false }) (recordLine s r)
      (splice (lineBytes (stackAt s md) (recordLine s r)) (((mapAddr s r.addr.toNat).getD (0, 0)).2 % 64) (toLe 8 new.toNat)) p := by
  simp [atomicDone, lineReadEffects_of_clean hc, lineRead_of_clean hc]

theorem stackAt_atomicDone_ne (hc : lineState (stackAt s md) (recordLine s r) = .clean) {m : Nat} (hm : m ≠ md) :
    stackAt (atomicDone s md site r p new) m = stackAt s m := by
  simp [atomicDone, lineReadEffects_of_clean hc, stackAt_memWriteLine_ne _ _ _ _ hm, stackAt_updStack_ne _ _ hm]

theorem recordLine_atomicDone (hc : lineState (stackAt s md) (recordLine s r) = .clean) :
    recordLine (atomicDone s md site r p new) r = recordLine s r := by
  rw [recordLine, mapAddr_atomicDone hc, recordLine]

variable (hwf : Memory.wf s = true) (hc : lineState (stackAt s md) (recordLine s r) = .clean)
include hwf hc

theorem lineRead_atomicDone_other {l : Nat} (hl : l ≠ recordLine s r) :
    lineRead (stackAt (atomicDone s md site r p new) md) l = lineRead (stackAt s md) l := by
  rw [stackAt_atomicDone hc, lineRead_lineWrite_ne _ _ _ hl,
    lineRead_bufTake _ _ (stackAt_wf hwf md) (lineRead_of_clean hc) (length_lineBytes (stackAt_wf hwf md) _)]

variable (hw : ((mapAddr s r.addr.toNat).getD (0, 0)).2 % 64 + 8 ≤ 64)
include hw

theorem lineRead_atomicDone : lineRead (stackAt (atomicDone s md site r p new) md) (recordLine s r) =
    (splice (lineBytes (stackAt s md) (recordLine s r)) (((mapAddr s r.addr.toNat).getD (0, 0)).2 % 64) (toLe 8 new.toNat), p) := by
  have hb := length_lineBytes (stackAt_wf hwf md) (recordLine s r)
  rw [stackAt_atomicDone hc, lineRead_lineWrite, slice_zero_of_length (by rw [length_splice (by simp [hb, hw]), hb])]

theorem recordWord_atomicDone : recordWord (atomicDone s md site r p new) md r = new := by
  have hb := length_lineBytes (stackAt_wf hwf md) (recordLine s r)
  rw [recordWord, recordLine_atomicDone hc, lineRead_atomicDone hwf hc hw, mapAddr_atomicDone hc,
    leAt_splice_toLe (by rw [hb]; exact hw) new.isLt, BitVec.ofNat_toNat, BitVec.setWidth_eq]

end Done

/-- The ten atomic commands run `recordCmd` for the OP they name (R184). -/
theorem exec_atomic {md : Fin 24} {site : Fin 100} {r : OpRecord} {p : Bool} {op : Nat} {c : Instr}
    (h : (op, c) ∈ [(1, Instr.add md site r p), (2, .swap md site r p), (3, .cas md site r p), (4, .min md site r p), (5, .max md site r p),
      (6, .minu md site r p), (7, .maxu md site r p), (8, .and md site r p), (9, .or md site r p), (10, .xor md site r p)]) :
    (∀ s, exec c s = .next (recordCmd op md site r [] p s)) ∧ isAtomicOp op = true := by
  simp only [List.mem_cons, List.not_mem_nil, or_false, Prod.mk.injEq] at h
  rcases h with h | h | h | h | h | h | h | h | h | h <;> obtain ⟨rfl, rfl⟩ := h <;> exact ⟨fun _ => rfl, rfl⟩

/-- Settles O55: the command is `atomicDone` with the new word of Table 10, whose line and word read back, every other line as before. -/
theorem atomicsChangeOneWord : Obligations.AtomicsChangeOneWord := by
  intro md site r p s op c hop hwf hruns hc
  obtain ⟨hexec, ha⟩ := exec_atomic hop
  have hw := atomic_word_in_line hwf hruns.2.1 (by rw [hruns.2.2.1]; exact ha)
  refine ⟨_, _, rfl, (hexec s).trans (congrArg _ (recordCmd_of_runs hruns ha)), lineRead_atomicDone hwf hc hw, recordLine_atomicDone hc,
    recordWord_atomicDone hwf hc hw, fun m l h => ?_⟩
  by_cases hm : m = md.val
  · subst hm
    exact lineRead_atomicDone_other hwf hc (h.resolve_left (fun h => h rfl))
  · rw [stackAt_atomicDone_ne hc hm]

end Sys2Proof.Machine
end

section
/-! Upkeep of a stack (R188 to R195): refresh, scrub, a soft repair's start and end, and the loss of its interface. -/
namespace Sys2Proof.Machine

section Refresh
variable {s : State} {md : Nat} (bank : Nat) (busy : Bool)

theorem doRefresh_of_down (h : (stackAt s md).off = true ∨ (stackAt s md).selfRefresh = true ∨ (stackAt s md).failed = true) :
    doRefresh s md bank busy = s := by
  unfold doRefresh
  exact if_pos (by simpa [or_assoc] using h)

theorem doRefresh_of_running (ho : (stackAt s md).off = false) (hs : (stackAt s md).selfRefresh = false) (hf : (stackAt s md).failed = false) {n : Nat}
    (hn : n = tget (fun _ => 0) (stackAt s md).postponed bank) : doRefresh s md bank busy = updStack s md (fun st => { st with
      postponed := tset (fun _ => 0) st.postponed bank (if busy then min (n + 1) 8 else n - 1)
      busyTo := if busy ∧ n < 8 then st.busyTo else tset (fun _ => 0) st.busyTo bank (s.ticks + 90) }) := by
  subst hn
  unfold doRefresh
  rw [if_neg (by simp [ho, hs, hf])]
  simp only [Bool.and_eq_true, decide_eq_true_eq]
  rfl

end Refresh

section Scrub
variable {s : State} {md : Nat}

theorem doScrub_of_closed (hs : stackServes s md = false) : doScrub s md = s := by
  unfold doScrub
  exact if_pos (by simp [hs])

variable (hs : stackServes s md = true) {u : State}
  (hu : u = List.foldl (fun u i => scrubLine u md (4 * (stackAt s md).scrubPos + i))
    (if (stackAt s md).scrubPos = 0 then updStack s md startPass else s) (List.range 4))
include hs hu

theorem doScrub_of_next (hp : (stackAt s md).scrubPos + 1 ≠ 2 ^ 29) :
    doScrub s md = updStack u md (fun st => { st with scrubPos := (stackAt s md).scrubPos + 1 }) := by
  subst hu
  unfold doScrub
  rw [if_neg (by simp [hs])]
  exact if_neg hp

theorem doScrub_of_last (hp : (stackAt s md).scrubPos + 1 = 2 ^ 29) :
    doScrub s md = bump (updStack u md (fun st => { st with scrubPos := 0, scrubbed := true })) Obj.scrubPasses := by
  subst hu
  unfold doScrub
  rw [if_neg (by simp [hs])]
  exact if_pos hp

end Scrub

section Repair
variable {s : State} {md : Nat} {r : DieRow}

theorem doRepair_of_idle (h : stackServes s md = false ∨ (stackAt s md).candidates.contains r = false ∨ (stackAt s md).repairing ≠ none) :
    doRepair s md r = s := by
  unfold doRepair
  exact if_pos (by simpa [or_assoc, Option.isSome_iff_ne_none] using h)

section Candidate
variable (hs : stackServes s md = true) (hc : (stackAt s md).candidates.contains r = true) (hr : (stackAt s md).repairing = none)
include hs hc hr

theorem doRepair_of_exhausted (hu : (stackAt s md).spareUsed.contains (spareOf r) = true) :
    doRepair s md r = bump (updStack s md (fun st => { st with candidates := st.candidates.erase r })) Obj.repairExhausted := by
  unfold doRepair
  rw [if_neg (by rw [hs, hc, hr]; decide)]
  exact if_pos hu

theorem doRepair_of_spare (hu : (stackAt s md).spareUsed.contains (spareOf r) = false) :
    doRepair s md r = raise (updStack s md (fun st => { st with candidates := st.candidates.erase r, repairing := some r })) (siteMD md) 0x05 0x2A 0 false
      (r.die + r.row / 2097152 * 32 + r.row / 131072 % 16 * 128 + r.row % 131072 * 2048) := by
  unfold doRepair
  rw [if_neg (by rw [hs, hc, hr]; decide)]
  exact if_neg (by rw [hu]; exact Bool.false_ne_true)

end Candidate

theorem doRepairDone_of_none (h : (stackAt s md).repairing = none) : doRepairDone s md = s := by
  simp only [doRepairDone, h]

variable {u : State} (hr : (stackAt s md).repairing = some r) (hu : u = (rowLines r.row).foldl (repairLine md) s)
include hr hu

theorem doRepairDone_of_failed (hf : (stackAt u md).failed = true) : doRepairDone s md = u := by
  simp only [doRepairDone, hr, ← hu]
  rw [if_pos hf]

theorem doRepairDone_of_works (hf : (stackAt u md).failed = false) : doRepairDone s md =
    runBankWait (queueRecord (bump (updStack u md (fun st => { st with
      repairing := none, rowHits := st.rowHits.filter (fun h => h.at_ != r), spareUsed := st.spareUsed ++ [spareOf r], softSincePower := st.softSincePower + 1
      busyTo := tset (fun _ => 0) st.busyTo (r.row / 131072) u.ticks
      records := st.records ++ [{ at_ := r, state := .soft, committed := false }] })) Obj.repairsSoft) 0x0030 (repairKey md r) [0]) md := by
  simp only [doRepairDone, hr, ← hu]
  rw [if_neg (by simp [hf])]

end Repair

/-- A stack that serves has not failed (R195). -/
theorem failed_of_stackServes {s : State} {m : Nat} (hs : stackServes s m = true) : (stackAt s m).failed = false := by
  simp only [stackServes, stackWorks, Bool.and_eq_true, Bool.not_eq_true'] at hs
  exact hs.1.1.1.1.1

theorem stackFail_of_works {s : State} {m : Nat} (row : Nat) (hf : (stackAt s m).failed = false) :
    stackFail s m row = raise (updStack s m (stackOut row)) (siteMD m) 0x05 0x2B 5 false (m + row * 32) := by
  unfold stackFail
  exact if_neg (by rw [hf]; exact Bool.false_ne_true)

theorem exec_stackLockLoss_of_serves {s : State} {md : Fin 24} (hs : stackServes s md.val = true) :
    exec (.stackLockLoss md) s = .next (stackFail s md.val 2) := congrArg Host.Outcome.next (if_pos hs)

theorem exec_stackLockLoss_of_closed {s : State} {md : Fin 24} (hs : stackServes s md.val = false) :
    exec (.stackLockLoss md) s = .next s := congrArg Host.Outcome.next (if_neg (by rw [hs]; exact Bool.false_ne_true))

theorem exec_patrolScrub_of_idle {s : State} {md : Fin 24} (h : idleCycle (thermAt s (siteMD md.val)).p (s.ticks / 2) = true) :
    exec (.patrolScrub md) s = .next s := congrArg Host.Outcome.next (if_pos h)

theorem exec_patrolScrub_of_slot {s : State} {md : Fin 24} (h : idleCycle (thermAt s (siteMD md.val)).p (s.ticks / 2) = false) :
    exec (.patrolScrub md) s = .next (doScrub s md.val) := congrArg Host.Outcome.next (if_neg (by rw [h]; exact Bool.false_ne_true))

/-- A stack that does not serve scrubs nothing, in an idle slot or not (R340). -/
theorem exec_patrolScrub_of_closed {s : State} {md : Fin 24} (hs : stackServes s md.val = false) : exec (.patrolScrub md) s = .next s := by
  cases hi : idleCycle (thermAt s (siteMD md.val)).p (s.ticks / 2) with
  | true => exact exec_patrolScrub_of_idle hi
  | false => rw [exec_patrolScrub_of_slot hi, doScrub_of_closed hs]

/-- Settles O17: each command is one operation of the stack, by the branch its conditions name. -/
theorem stackUpkeep : Obligations.StackUpkeep := by
  intro md s
  refine ⟨fun bank busy => ⟨fun ho hs hf => ?_, fun h => ?_⟩, fun h => h.elim exec_patrolScrub_of_closed exec_patrolScrub_of_idle,
    fun hs hi u hu => ⟨fun hp => ?_, fun hp => ?_⟩, fun die row => ⟨fun h => ?_, fun hs hc hr => ⟨fun hu => ?_, fun hu => ?_⟩⟩, fun h => ?_,
    fun r u hr hu => ⟨fun hf => ?_, fun hf => ?_⟩, fun hs => ?_, exec_stackLockLoss_of_closed⟩
  · exact congrArg Host.Outcome.next (doRefresh_of_running bank.val busy ho hs hf rfl)
  · exact congrArg Host.Outcome.next (doRefresh_of_down bank.val busy h)
  · rw [exec_patrolScrub_of_slot hi, doScrub_of_next hs hu hp]
  · rw [exec_patrolScrub_of_slot hi, doScrub_of_last hs hu hp]
  · exact congrArg Host.Outcome.next (doRepair_of_idle h)
  · exact congrArg Host.Outcome.next (doRepair_of_exhausted hs hc hr hu)
  · exact congrArg Host.Outcome.next (doRepair_of_spare hs hc hr hu)
  · exact congrArg Host.Outcome.next (doRepairDone_of_none h)
  · exact congrArg Host.Outcome.next (doRepairDone_of_failed hr hu hf)
  · exact congrArg Host.Outcome.next (doRepairDone_of_works hr hu hf)
  · rw [exec_stackLockLoss_of_serves hs, stackFail_of_works 2 (failed_of_stackServes hs)]

end Sys2Proof.Machine
end

section
/-! What is stored keeps its canonical form (R166, R175, R179): the rules for the parts of a state, and for choices and folds. -/
namespace Sys2Proof.Machine

/-! Choices and folds, over any check of a part. -/

section Choice
variable {α β : Type} {w : α → Bool}

theorem wf_ite {c : Prop} {_ : Decidable c} {a b : α} (ha : w a = true) (hb : w b = true) : w (if c then a else b) = true := by
  split
  · exact ha
  · exact hb

theorem wf_foldl {f : α → β → α} {l : List β} {a : α} (hf : ∀ u x, w u = true → w (f u x) = true) (ha : w a = true) :
    w (l.foldl f a) = true := by
  induction l generalizing a with
  | nil => exact ha
  | cons x l ih => exact ih (hf a x ha)

/-- A fold that carries something beside. -/
theorem wf_foldl_snd {γ : Type} {f : γ × α → β → γ × α} {l : List β} {r : γ × α} (hf : ∀ u x, w u.2 = true → w (f u x).2 = true)
    (hr : w r.2 = true) : w (l.foldl f r).2 = true :=
  wf_foldl (w := fun r : γ × α => w r.2) hf hr

theorem wf_foldl_snd_snd {γ δ : Type} {f : γ × δ × α → β → γ × δ × α} {l : List β} {r : γ × δ × α}
    (hf : ∀ u x, w u.2.2 = true → w (f u x).2.2 = true) (hr : w r.2.2 = true) : w (l.foldl f r).2.2 = true :=
  wf_foldl (w := fun r : γ × δ × α => w r.2.2) hf hr

theorem wf_overNats {ns : List Nat} {f : Nat → α → α} {a : α} (hf : ∀ n u, w u = true → w (f n u) = true) (ha : w a = true) :
    w (overNats ns f a) = true :=
  wf_foldl (fun u n => hf n u) ha

end Choice

/-! The parts of a state. -/

theorem Tile.wf_iff (t : Tile) : t.wf = true ↔ t.store.wf = true ∧ t.deep.wf = true := by
  unfold Tile.wf
  exact Bool.and_eq_true_iff

theorem wf_tile_mk {t : Tile} (hs : t.store.wf = true) (hd : t.deep.wf = true) : t.wf = true := (Tile.wf_iff t).mpr ⟨hs, hd⟩

theorem wf_tile_kept {t u : Tile} (h : t.wf = true) (hu : (u.store, u.deep) = (t.store, t.deep)) : u.wf = true := by
  obtain ⟨hs, hd⟩ := Prod.mk.inj hu
  rwa [Tile.wf_iff, hs, hd, ← Tile.wf_iff]

theorem wf_store_of_tile {t : Tile} (h : t.wf = true) : t.store.wf = true := ((Tile.wf_iff t).mp h).1

theorem wf_deep_of_tile {t : Tile} (h : t.wf = true) : t.deep.wf = true := ((Tile.wf_iff t).mp h).2

theorem wf_tile_store {t : Tile} {st : Store} (h : t.wf = true) (hst : st.wf = true) : Tile.wf { t with store := st } = true :=
  wf_tile_mk hst (wf_deep_of_tile (t := t) h)

theorem wf_tile_deep {t : Tile} {st : Store} (h : t.wf = true) (hst : st.wf = true) : Tile.wf { t with deep := st } = true :=
  wf_tile_mk (wf_store_of_tile (t := t) h) hst

/-- A store with no byte listed, cleared or not. -/
theorem wf_store_empty {st : Store} (h : st.bytes = []) : st.wf = true := by
  rw [Store.wf_iff, h]
  exact ⟨rfl, fun _ => rfl⟩

theorem wf_lostStore {ctr place : Nat} : (lostStore ctr place).wf = true := rfl

theorem wf_tileReset {k : Nat} : (tileReset k).wf = true := rfl

/-- A stack whose write-back buffer is lost keeps what its banks hold. -/
theorem wf_stack_unbuffered {st st' : Stack} (h : st.wf = true) (hb : st'.bytes = st.bytes) (hl : st'.lineBuf = []) : st'.wf = true := by
  rw [Stack.wf_iff, hb, hl]
  exact ⟨((Stack.wf_iff st).mp h).1, by decide, fun b hb => absurd hb List.not_mem_nil, List.nodup_nil⟩

/-- A line read has 64 bytes, corrected or not. -/
theorem length_lineRead {st : Stack} (h : st.wf = true) (l : Nat) : (lineRead st l).1.length = 64 := by
  unfold lineRead
  split
  · exact length_lineBytes h l
  · exact length_lineBytes h l
  · next i _ =>
    by_cases hi : i.val < 16
    · exact length_fixSymbol (length_lineBytes h l) hi _
    · rw [fixSymbol, if_neg hi]
      exact length_lineBytes h l
  · exact length_lineBytes h l

/-- What an instruction of a core leaves, when it does not stall, is in canonical form. -/
def RvOut.wf : RvOut → Bool
  | .ok s _ => Memory.wf s
  | .trap s _ _ => Memory.wf s
  | .stall => true

/-- Where a command goes on, what it leaves is in canonical form. -/
def keepsForm : Host.Outcome State Fault Refusal → Bool
  | .next t => Memory.wf t
  | _ => true

theorem keepsForm_next {t : State} (h : Memory.wf t = true) : keepsForm (.next t) = true := h

/-- What a write of the dictionary leaves is in canonical form. -/
def WriteOut.wf (o : WriteOut) : Bool := Memory.wf o.state

theorem Memory.wf_iff (s : State) :
    Memory.wf s = true ↔ s.tiles.all (fun e => e.2.wf) = true ∧ s.dramStacks.all (fun e => e.2.wf) = true ∧
      s.setBase.all (fun b => b.getD 0 % setSize == 0) = true := by
  unfold Memory.wf
  rw [Bool.and_eq_true_iff, Bool.and_eq_true_iff, and_assoc]

/-- What a step does beside the memory leaves its form as it is. -/
theorem wf_kept {s t : State} (h : Memory.wf s = true) (ht : (t.tiles, t.dramStacks, t.setBase) = (s.tiles, s.dramStacks, s.setBase)) :
    Memory.wf t = true := by
  obtain ⟨htiles, hrest⟩ := Prod.mk.inj ht
  obtain ⟨hstacks, hbase⟩ := Prod.mk.inj hrest
  rwa [Memory.wf_iff, htiles, hstacks, hbase, ← Memory.wf_iff]

theorem wf_stack_kept {st st' : Stack} (h : st.wf = true) (ht : (st'.bytes, st'.lineBuf) = (st.bytes, st.lineBuf)) : st'.wf = true := by
  obtain ⟨hbytes, hbuf⟩ := Prod.mk.inj ht
  rwa [Stack.wf_iff, hbytes, hbuf, ← Stack.wf_iff]

section Parts
variable {s : State} (h : Memory.wf s = true)
include h

theorem wf_tileAt {k : Nat} : (tileAt s k).wf = true := by
  unfold tileAt tget
  cases hf : tfind s.tiles k with
  | none => exact wf_tileReset
  | some t => exact all_tfind (fun e : Nat × Tile => e.2.wf) _ _ _ ((Memory.wf_iff s).mp h).1 hf

theorem wf_setTile {k : Nat} {t : Tile} (ht : t.wf = true) : Memory.wf (setTile s k t) = true := by
  obtain ⟨htiles, hstacks, hbase⟩ := (Memory.wf_iff s).mp h
  exact (Memory.wf_iff _).mpr ⟨all_tset _ _ _ _ _ htiles ht, hstacks, hbase⟩

theorem wf_updTile {k : Nat} {f : Tile → Tile} (hf : ∀ t, t.wf = true → (f t).wf = true) : Memory.wf (updTile s k f) = true :=
  wf_setTile h (hf _ (wf_tileAt h))

theorem wf_stackAt {m : Nat} : (stackAt s m).wf = true := stackAt_wf h m

theorem wf_setStack {m : Nat} {st : Stack} (hst : st.wf = true) : Memory.wf (setStack s m st) = true := by
  obtain ⟨htiles, hstacks, hbase⟩ := (Memory.wf_iff s).mp h
  exact (Memory.wf_iff _).mpr ⟨htiles, all_tset (fun e : Nat × Stack => e.2.wf) (fun _ => {}) _ _ _ hstacks hst, hbase⟩

theorem wf_updStack {m : Nat} {f : Stack → Stack} (hf : ∀ st, st.wf = true → (f st).wf = true) : Memory.wf (updStack s m f) = true :=
  wf_setStack h (hf _ (wf_stackAt h))

end Parts

end Sys2Proof.Machine
end

section
/-! O60, the operations of Sys2Proof/Machine/Ops.lean: what they leave is in canonical form. -/
namespace Sys2Proof.Machine
variable {s : State}

theorem wf_dset {code v : Nat} (h : Memory.wf s = true) : Memory.wf (dset s code v) = true := h

theorem wf_bump {code n : Nat} (h : Memory.wf s = true) : Memory.wf (bump s code n) = true := h

theorem wf_setBlob {code : Nat} {bs : List Byte} (h : Memory.wf s = true) : Memory.wf (setBlob s code bs) = true := h

theorem wf_raiseMax {code v : Nat} (h : Memory.wf s = true) : Memory.wf (raiseMax s code v) = true := by
  unfold raiseMax
  exact wf_ite (wf_dset h) h

theorem wf_setDie {n : Nat} {d : ComputeDie} (h : Memory.wf s = true) : Memory.wf (setDie s n d) = true := h

theorem wf_setInfl {p : Nat} {i : Inflater} (h : Memory.wf s = true) : Memory.wf (setInfl s p i) = true := h

theorem wf_setPort {p : Nat} {v : PortSt} (h : Memory.wf s = true) : Memory.wf (setPort s p v) = true := h

theorem wf_updPort {p : Nat} {f : PortSt → PortSt} (h : Memory.wf s = true) : Memory.wf (updPort s p f) = true := by
  unfold updPort
  exact wf_setPort h

theorem wf_setBt {n : Nat} {v : BaseTile} (h : Memory.wf s = true) : Memory.wf (setBt s n v) = true := h

theorem wf_updBt {n : Nat} {f : BaseTile → BaseTile} (h : Memory.wf s = true) : Memory.wf (updBt s n f) = true := by
  unfold updBt
  exact wf_setBt h

theorem wf_setDom {d : Nat} {v : DomSt} (h : Memory.wf s = true) : Memory.wf (setDom s d v) = true := h

theorem wf_wakeFromOff {d : Nat} (h : Memory.wf s = true) : Memory.wf (wakeFromOff s d) = true := by
  unfold wakeFromOff
  extract_lets s1 _ s2
  have h1 : Memory.wf s1 = true := wf_setDom h
  have h2 : Memory.wf s2 = true := wf_ite h1 h1
  exact wf_ite h2 h2

theorem wf_emit {o : Output} (h : Memory.wf s = true) : Memory.wf (emit s o) = true := h

theorem wf_deliver {o : Output} (h : Memory.wf s = true) : Memory.wf (deliver s o) = true := h

theorem wf_sigArrive {p : SigPacket} (h : Memory.wf s = true) : Memory.wf (sigArrive s p) = true := by
  unfold sigArrive
  exact wf_kept (wf_raiseMax (wf_deliver h)) rfl

theorem wf_raiseMsg {m : FaultMsg} (h : Memory.wf s = true) : Memory.wf (raiseMsg s m) = true := by
  unfold raiseMsg
  extract_lets _ s1
  have h1 : Memory.wf s1 = true := wf_ite h h
  exact wf_ite h1 (wf_emit h1)

theorem wf_raise {site block kind sev : Nat} {poison : Bool} {detail : Nat} (h : Memory.wf s = true) :
    Memory.wf (raise s site block kind sev poison detail) = true := by
  unfold raise
  exact wf_raiseMsg h

theorem wf_setRole {n : Nat} {r : BaristaRole} (h : Memory.wf s = true) : Memory.wf (setRole s n r) = true := by
  unfold setRole
  exact wf_ite h h

theorem wf_ctrlSend {dst func field : Nat} {later : List Word} (h : Memory.wf s = true) :
    Memory.wf (ctrlSend s dst func field later) = true := by
  unfold ctrlSend
  exact wf_ite h (wf_ite (wf_emit (wf_emit (wf_ite h (wf_emit h)))) (wf_emit (wf_ite h (wf_emit h))))

theorem wf_ctrlSendFrom {src dst func field : Nat} {later : List Word} (h : Memory.wf s = true) :
    Memory.wf (ctrlSendFrom s src dst func field later) = true := by
  unfold ctrlSendFrom
  exact wf_emit h

theorem wf_ctrlTake {site : Nat} {src : BitVec 7} {seq : BitVec 32} (h : Memory.wf s = true) :
    Memory.wf (ctrlTake s site src seq).2 = true := by
  unfold ctrlTake
  split
  · exact h
  · split
    · dsimp only
      split
      · exact h
      · exact wf_bump h
    · exact h

theorem wf_ctrlTakeAll {src : BitVec 7} {seq : BitVec 32} (h : Memory.wf s = true) : Memory.wf (ctrlTakeAll s src seq).2 = true := by
  unfold ctrlTakeAll
  exact wf_foldl_snd (fun _ _ hr => wf_ctrlTake hr) h

theorem wf_schedule {t : Word} {c : Change} (h : Memory.wf s = true) : Memory.wf (schedule s t c) = true := h

theorem wf_bumpFree (h : Memory.wf s = true) : Memory.wf (bumpFree s) = true := h

theorem wf_setCarafe {n : Nat} {c : Carafe} (h : Memory.wf s = true) : Memory.wf (setCarafe s n c) = true := by
  unfold setCarafe
  exact wf_ite h h

theorem wf_slotItem {n kind : Nat} {bytes : List Byte} (h : Memory.wf s = true) : Memory.wf (slotItem s n kind bytes) = true := h

theorem wf_mirrorItem {kind : Nat} {bytes : List Byte} (h : Memory.wf s = true) : Memory.wf (mirrorItem s kind bytes) = true := by
  unfold mirrorItem
  exact wf_ite (wf_slotItem h) h

theorem wf_addRecord {r : Rec} (h : Memory.wf s = true) : Memory.wf (addRecord s r) = true := by
  unfold addRecord
  exact wf_ite h (wf_mirrorItem h)

theorem wf_queueRecord {type key : Nat} {data : List Byte} {immediate : Bool} {part : Nat} (h : Memory.wf s = true) :
    Memory.wf (queueRecord s type key data immediate part) = true := by
  unfold queueRecord
  exact wf_ite (wf_kept (wf_addRecord h) rfl) (wf_addRecord h)

theorem wf_queueClassC {type key : Nat} {data : List Byte} {part : Nat} (h : Memory.wf s = true) :
    Memory.wf (queueClassC s type key data part) = true := h

end Sys2Proof.Machine
end

section
/-! O60, the operations of Sys2Proof/Machine/Store.lean: what they leave is in canonical form. -/
namespace Sys2Proof.Machine
variable {s : State}

theorem wf_storeOf {t : Tile} {deep : Bool} (ht : Tile.wf t = true) : Store.wf (storeOf t deep) = true := by
  unfold storeOf
  exact wf_ite (wf_deep_of_tile ht) (wf_store_of_tile ht)

theorem wf_withStore {t : Tile} {deep : Bool} {st : Store} (ht : Tile.wf t = true) (hst : Store.wf st = true) :
    Tile.wf (withStore t deep st) = true := by
  unfold withStore
  exact wf_ite (wf_tile_deep ht hst) (wf_tile_store ht hst)

theorem wf_tileWrite {t : Tile} {deep : Bool} {a : Nat} {bs : List Byte} {poison : Bool} (ht : Tile.wf t = true) :
    Tile.wf (tileWrite t deep a bs poison) = true := by
  unfold tileWrite
  dsimp only
  split
  · refine wf_ite ?_ (wf_withStore ht (wf_storeWrite _ _ _ _ (wf_storeOf ht)))
    exact wf_tile_kept (wf_withStore ht (wf_storeWrite _ _ _ _ (wf_storeOf ht))) rfl
  · exact wf_withStore ht (wf_storeWrite _ _ _ _ (wf_storeOf ht))

theorem wf_readEffects {k : Nat} {deep : Bool} {a len : Nat} (h : Memory.wf s = true) : Memory.wf (readEffects s k deep a len) = true := by
  unfold readEffects
  refine wf_foldl (fun _ _ hs => ?_) (wf_ite h (wf_bump h))
  exact wf_raise (wf_updTile hs (fun _ ht => wf_withStore ht (wf_setMark _ _ _ (wf_storeOf ht))))

theorem wf_consumePoison {k addr : Nat} (h : Memory.wf s = true) : Memory.wf (consumePoison s k addr) = true := by
  unfold consumePoison
  exact wf_raise h

end Sys2Proof.Machine
end

section
/-! O60, the operations of Sys2Proof/Machine/Dram.lean: what they leave is in canonical form. -/
namespace Sys2Proof.Machine
variable {s : State}

theorem wf_settleStack {m : Nat} (h : Memory.wf s = true) : Memory.wf (settleStack s m) = true := by
  unfold settleStack
  exact wf_ite (wf_updStack h (fun _ hst => wf_stack_kept (wf_bufFlush _ hst) rfl)) h

theorem wf_stackOut {row : Nat} {st : Stack} (hst : Stack.wf st = true) : Stack.wf (stackOut row st) = true :=
  wf_stack_unbuffered hst rfl rfl

theorem wf_stackFail {m row : Nat} (h : Memory.wf s = true) : Memory.wf (stackFail s m row) = true := by
  unfold stackFail
  exact wf_ite h (wf_raise (wf_updStack h (fun _ hst => wf_stackOut hst)))

theorem wf_creditRow {st : Stack} {row : DieRow} {l : Nat} (hst : Stack.wf st = true) : Stack.wf (creditRow st row l) = true := hst

theorem wf_creditDie {m l : Nat} {die : Fin 18} {corrected : Bool} (h : Memory.wf s = true) :
    Memory.wf (creditDie s m l die corrected) = true := by
  unfold creditDie
  extract_lets st row c st1 fresh st2 s1 limit
  have h1 : st1.wf = true := wf_ite (wf_creditRow (wf_stackAt (s := s) (m := m) h)) (wf_stackAt h)
  have h2 : st2.wf = true := wf_ite h1 h1
  have hs : Memory.wf s1 = true := wf_setStack h h2
  split
  · split
    · exact wf_queueRecord (wf_raise (wf_setStack hs h2))
    · exact wf_ite hs (wf_stackFail hs)
  · exact hs

theorem wf_countUncorr {m l : Nat} (h : Memory.wf s = true) : Memory.wf (countUncorr s m l) = true := by
  unfold countUncorr
  dsimp only
  split
  · exact wf_stackFail (wf_raise (wf_setStack (wf_bump h) (wf_stack_kept (wf_stackAt (wf_bump h)) rfl)))
  · exact wf_raise (wf_setStack (wf_bump h) (wf_stack_kept (wf_stackAt (wf_bump h)) rfl))

theorem wf_lineReadEffects {m l : Nat} (h : Memory.wf s = true) : Memory.wf (lineReadEffects s m l) = true := by
  unfold lineReadEffects
  split
  · exact wf_creditDie (wf_bump h)
  · dsimp only
    split
    · exact wf_creditDie (wf_countUncorr h)
    · exact wf_countUncorr h
  · exact h

theorem wf_memWriteLine {m l : Nat} {data : List Byte} {poison : Bool} (h : Memory.wf s = true) :
    Memory.wf (memWriteLine s m l data poison) = true := by
  unfold memWriteLine
  exact wf_ite (wf_bump (wf_updStack h (fun _ hst => wf_lineWrite _ _ _ _ hst))) (wf_updStack h (fun _ hst => wf_lineWrite _ _ _ _ hst))

theorem wf_memMerge {m l at_ : Nat} {data : List Byte} {poison : Bool} (h : Memory.wf s = true) :
    Memory.wf (memMerge s m l at_ data poison) = true := by
  unfold memMerge
  exact wf_ite (wf_memWriteLine h) (wf_memWriteLine (wf_lineReadEffects h))

theorem wf_dramWriteGo {takes : State → Nat → Bool} {n a : Nat} {bs : List Byte} {poison : Bool} (h : Memory.wf s = true) :
    Memory.wf (dramWriteGo takes n s a bs poison) = true := by
  induction n generalizing s a bs with
  | zero => exact h
  | succ n ih =>
    refine wf_ite h (ih ?_)
    split
    · exact wf_ite (wf_memMerge h) h
    · exact h

theorem wf_dramWrite {a : Nat} {bs : List Byte} {poison : Bool} (h : Memory.wf s = true) : Memory.wf (dramWrite s a bs poison) = true := by
  unfold dramWrite
  exact wf_dramWriteGo h

theorem wf_rangeReadEffects {a len : Nat} (h : Memory.wf s = true) : Memory.wf (rangeReadEffects s a len) = true := by
  unfold rangeReadEffects
  refine wf_foldl (fun _ _ hs => ?_) h
  split
  · exact wf_lineReadEffects hs
  · exact hs

end Sys2Proof.Machine
end

section
/-! O60, the operations of Sys2Proof/Machine/Engine.lean: what they leave is in canonical form. -/
namespace Sys2Proof.Machine
variable {s : State}

theorem wf_setTherm {site : Nat} {t : Therm} (h : Memory.wf s = true) : Memory.wf (setTherm s site t) = true := h

theorem wf_localIrq {t : Tile} {n : Nat} (ht : Tile.wf t = true) : Tile.wf (localIrq t n) = true := ht

theorem wf_settleHalt {t : Tile} (ht : Tile.wf t = true) : Tile.wf (settleHalt t) = true := by
  unfold settleHalt
  split
  · exact wf_ite (wf_ite (wf_localIrq ht) ht) ht
  · exact ht

theorem wf_haltQueue {t : Tile} {e : Nat} {tag : BitVec 32} (ht : Tile.wf t = true) : Tile.wf (haltQueue t e tag) = true := by
  unfold haltQueue
  exact wf_settleHalt ht

theorem wf_completeWhere {sel : Started → Bool} {t : Tile} (ht : Tile.wf t = true) : Tile.wf (completeWhere sel t) = true := by
  unfold completeWhere
  exact wf_tile_kept (wf_foldl (fun _ _ ht => wf_tileWrite ht) ht) rfl

theorem wf_runDesc {ctr now : Nat} {t : Tile} {d : Desc} (ht : Tile.wf t = true) : Tile.wf (runDesc ctr now t d) = true := by
  unfold runDesc
  exact wf_ite ht ht

theorem wf_startDesc {op k : Nat} (h : Memory.wf s = true) : Memory.wf (startDesc op k s) = true := by
  unfold startDesc
  extract_lets t a f d rs s1
  have hf : Memory.wf f = true := wf_readEffects h
  have h1 : Memory.wf s1 = true := wf_foldl (fun _ _ hs => wf_readEffects hs) hf
  clear_value f s1
  refine wf_ite h (wf_ite (wf_bumpFree (wf_consumePoison (wf_setTile hf (wf_haltQueue (wf_tileAt hf))))) (wf_ite h (wf_ite h ?_)))
  split
  · exact wf_bumpFree (wf_setTile hf (wf_haltQueue (wf_tileAt hf)))
  · split
    · exact wf_bumpFree (wf_consumePoison (wf_setTile h1 (wf_haltQueue (wf_tileAt h1))))
    · exact wf_bumpFree (wf_setTile h1 (wf_runDesc (wf_completeWhere (wf_tileAt h1))))

theorem wf_retireDesc {t : Tile} (ht : Tile.wf t = true) : Tile.wf (retireDesc t) = true := by
  unfold retireDesc
  split
  · exact ht
  · exact wf_settleHalt (wf_ite (wf_localIrq (wf_foldl (fun _ _ ht => wf_tileWrite ht) ht)) (wf_foldl (fun _ _ ht => wf_tileWrite ht) ht))

theorem wf_doRetire {k : Nat} (h : Memory.wf s = true) : Memory.wf (doRetire k s) = true := by
  unfold doRetire
  exact wf_ite h (wf_updTile h (fun _ ht => wf_retireDesc ht))

theorem wf_writeTail {ctr : Nat} {t : Tile} {v : Word} (ht : Tile.wf t = true) : Tile.wf (writeTail ctr t v) = true := by
  unfold writeTail
  exact wf_ite ht (wf_ite ht (wf_settleHalt ht))

theorem wf_writeBase {t : Tile} {v : Word} (ht : Tile.wf t = true) : Tile.wf (writeBase t v) = true := by
  unfold writeBase
  exact wf_ite ht ht

theorem wf_writeSeed {t : Tile} {v : Word} (ht : Tile.wf t = true) : Tile.wf (writeSeed t v) = true := ht

theorem wf_clearQueue {t : Tile} (ht : Tile.wf t = true) : Tile.wf (clearQueue t) = true := by
  unfold clearQueue
  exact wf_ite ht ht

theorem wf_writeCtrl {t : Tile} {v : Word} (ht : Tile.wf t = true) : Tile.wf (writeCtrl t v) = true := by
  unfold writeCtrl
  extract_lets _ t1 t2
  have h1 : t1.wf = true := ht
  have h2 : t2.wf = true := wf_ite (wf_clearQueue h1) h1
  exact wf_ite h2 h2

theorem wf_finishAbort {t : Tile} (ht : Tile.wf t = true) : Tile.wf (finishAbort t) = true := by
  unfold finishAbort
  exact wf_ite ht ht

theorem wf_onTile {k : Nat} {f : Tile → Tile} (hf : ∀ t, t.wf = true → (f t).wf = true) (h : Memory.wf s = true) :
    Memory.wf (onTile k f s) = true :=
  wf_ite (wf_updTile h hf) h

@[simp] theorem wf_execNop {cd : Fin 16} {t : Fin 64} (h : Memory.wf s = true) :
    keepsForm (execNop cd t s) = true := keepsForm_next (wf_startDesc h)

@[simp] theorem wf_execMma {cd : Fin 16} {t : Fin 64} (h : Memory.wf s = true) :
    keepsForm (execMma cd t s) = true := keepsForm_next (wf_startDesc h)

@[simp] theorem wf_execAccLoad {cd : Fin 16} {t : Fin 64} (h : Memory.wf s = true) : keepsForm (execAccLoad cd t s) = true :=
  keepsForm_next (wf_startDesc h)

@[simp] theorem wf_execAccStore {cd : Fin 16} {t : Fin 64} (h : Memory.wf s = true) : keepsForm (execAccStore cd t s) = true :=
  keepsForm_next (wf_startDesc h)

@[simp] theorem wf_execAccZero {cd : Fin 16} {t : Fin 64} (h : Memory.wf s = true) : keepsForm (execAccZero cd t s) = true :=
  keepsForm_next (wf_startDesc h)

@[simp] theorem wf_execMark {cd : Fin 16} {t : Fin 64} (h : Memory.wf s = true) : keepsForm (execMark cd t s) = true :=
  keepsForm_next (wf_startDesc h)

@[simp] theorem wf_execDescriptorRetire {cd : Fin 16} {t : Fin 64} (h : Memory.wf s = true) :
    keepsForm (execDescriptorRetire cd t s) = true :=
  keepsForm_next (wf_doRetire h)

@[simp] theorem wf_execMqTail {cd : Fin 16} {t : Fin 64} {v : Word} (h : Memory.wf s = true) : keepsForm (execMqTail cd t v s) = true :=
  keepsForm_next (wf_bumpFree (wf_onTile (fun _ hx => wf_writeTail hx) h))

@[simp] theorem wf_execMqClear {cd : Fin 16} {t : Fin 64} {v : Word} (h : Memory.wf s = true) : keepsForm (execMqClear cd t v s) = true :=
  keepsForm_next (wf_onTile (fun _ hx => wf_writeCtrl hx) h)

@[simp] theorem wf_execMqAbort {cd : Fin 16} {t : Fin 64} {v : Word} (h : Memory.wf s = true) : keepsForm (execMqAbort cd t v s) = true :=
  keepsForm_next (wf_onTile (fun _ hx => wf_writeCtrl hx) h)

@[simp] theorem wf_execMqAborted {cd : Fin 16} {t : Fin 64} (h : Memory.wf s = true) : keepsForm (execMqAborted cd t s) = true :=
  keepsForm_next (wf_onTile (fun _ ht => wf_finishAbort ht) h)

@[simp] theorem wf_execMqBase {cd : Fin 16} {t : Fin 64} {v : Word} (h : Memory.wf s = true) : keepsForm (execMqBase cd t v s) = true :=
  keepsForm_next (wf_onTile (fun _ hx => wf_writeBase hx) h)

@[simp] theorem wf_execSrSeed {cd : Fin 16} {t : Fin 64} {v : Word} (h : Memory.wf s = true) : keepsForm (execSrSeed cd t v s) = true :=
  keepsForm_next (wf_onTile (fun _ hx => wf_writeSeed hx) h)

end Sys2Proof.Machine
end

section
/-! O60, the operations of Sys2Proof/Machine/Flow.lean: what they leave is in canonical form. -/
namespace Sys2Proof.Machine
variable {s : State}

theorem wf_setFlow {t : Tile} {flow : Nat} {f : FlowSt} (ht : Tile.wf t = true) : Tile.wf (setFlow t flow f) = true := ht

theorem wf_updXfer {t : Tile} {flow n : Nat} {g : Transfer → Transfer} (ht : Tile.wf t = true) : Tile.wf (updXfer t flow n g) = true := by
  unfold updXfer
  exact wf_setFlow ht

theorem wf_flowLine {k flow line : Nat} {poison : Bool} (h : Memory.wf s = true) : Memory.wf (flowLine s k flow line poison) = true := by
  unfold flowLine
  split
  · exact h
  · dsimp only
    split
    · exact h
    · exact wf_setTile h (wf_updXfer (wf_tileAt h))

theorem wf_flowChecked {k flow : Nat} {n : Option Nat} {lines : Nat} (h : Memory.wf s = true) :
    Memory.wf (flowChecked s k flow n lines) = true := by
  unfold flowChecked
  split
  · exact h
  · dsimp only
    split
    · exact h
    · exact wf_setTile h (wf_updXfer (wf_tileAt h))

theorem wf_openRecv {t : Tile} {flow lines n : Nat} (ht : Tile.wf t = true) : Tile.wf (openRecv t flow lines n) = true := by
  unfold openRecv
  exact wf_ite ht (wf_setFlow ht)

theorem wf_flowReduced {k flow : Nat} (h : Memory.wf s = true) : Memory.wf (flowReduced s k flow) = true := by
  unfold flowReduced
  dsimp only
  split
  · exact h
  · exact wf_setTile h (wf_updXfer (wf_tileAt h))

theorem wf_flowFenced {k flow line : Nat} (h : Memory.wf s = true) : Memory.wf (flowFenced s k flow line) = true := by
  unfold flowFenced
  dsimp only
  split
  · exact h
  · exact wf_setTile h (wf_updXfer (wf_tileAt h))

theorem wf_pumpReqs {cd : Nat} (h : Memory.wf s = true) : Memory.wf (pumpReqs cd s) = true := by
  unfold pumpReqs
  refine wf_ite h ?_
  split
  · exact h
  · exact wf_emit (wf_setDie h)

theorem wf_pumpAll (h : Memory.wf s = true) : Memory.wf (pumpAll s) = true := by
  unfold pumpAll
  exact wf_foldl (fun _ _ hs => wf_pumpReqs hs) h

theorem wf_issueReqFor {f : ReqFor} {cd t flow n : Nat} {load : Bool} {addr lines : Nat} {mds : List Nat} (h : Memory.wf s = true) :
    Memory.wf (issueReqFor s f cd t flow n load addr lines mds) = true := by
  unfold issueReqFor
  exact wf_pumpReqs (wf_setDie h)

theorem wf_issueReq {cd t flow n : Nat} {load : Bool} {addr lines : Nat} {mds : List Nat} (h : Memory.wf s = true) :
    Memory.wf (issueReq s cd t flow n load addr lines mds) = true := by
  unfold issueReq
  exact wf_issueReqFor h

theorem wf_finishReq {cd : Nat} {r : DieReq} (h : Memory.wf s = true) : Memory.wf (finishReq s cd r) = true := by
  unfold finishReq
  refine wf_pumpReqs (wf_setDie ?_)
  split
  · exact wf_updTile h (fun _ ht => wf_updXfer ht)
  · exact wf_setDie h
  · exact h

theorem wf_reqDone {cd md : Nat} {tag : BitVec 10} {status : BitVec 2} (h : Memory.wf s = true) :
    Memory.wf (reqDone s cd md tag status) = true := by
  unfold reqDone
  dsimp only
  split
  · exact h
  · exact wf_ite (wf_finishReq (wf_setDie h)) (wf_pumpReqs (wf_setDie h))

theorem wf_refuseAddr {cd a : Nat} (h : Memory.wf s = true) : Memory.wf (refuseAddr s cd a) = true := by
  unfold refuseAddr
  exact wf_raise h

theorem wf_bootRefused {f : ReqFor} {cd t addr lines : Nat} (h : Memory.wf s = true) :
    Memory.wf (bootRefused s f cd t addr lines) = true := by
  unfold bootRefused
  dsimp only
  split
  · exact wf_setDie (wf_refuseAddr h)
  · exact wf_bumpFree (wf_updTile (wf_refuseAddr h) (fun _ hx => wf_tile_kept (wf_foldl (fun _ _ hx => wf_tileWrite hx) hx) rfl))
  · exact wf_refuseAddr h

theorem wf_bootLoad {f : ReqFor} {cd t addr lines : Nat} (h : Memory.wf s = true) : Memory.wf (bootLoad s f cd t addr lines) = true := by
  unfold bootLoad
  exact wf_ite (wf_bootRefused h) (wf_issueReqFor h)

theorem wf_bootNext {k : Nat} (h : Memory.wf s = true) : Memory.wf (bootNext s k) = true := by
  unfold bootNext
  exact wf_ite h (wf_bootLoad (wf_setTile h (wf_tile_kept (wf_tileAt h) rfl)))

theorem wf_bootLine {k flow : Nat} {poison : Bool} (h : Memory.wf s = true) : Memory.wf (bootLine s k flow poison) = true := by
  unfold bootLine
  split
  · exact wf_ite h (wf_bootNext (wf_updTile h (fun _ ht => ht)))
  · exact h

end Sys2Proof.Machine
end

section
/-! O60, the operations of Sys2Proof/Machine/Mesh.lean: what they leave is in canonical form. -/
namespace Sys2Proof.Machine
variable {s : State}

theorem wf_noteHead {cd r : Nat} {p : MeshPacket} (h : Memory.wf s = true) : Memory.wf (noteHead s cd r p) = true := by
  unfold noteHead
  exact wf_ite (wf_setDie h) h

theorem wf_dropHead {cd r : Nat} {p : MeshPacket} (h : Memory.wf s = true) : Memory.wf (dropHead s cd r p) = true := by
  unfold dropHead
  exact wf_setDie h

theorem wf_meshPut {cd n : Nat} {p : MeshPacket} (h : Memory.wf s = true) : Memory.wf (meshPut s cd n p) = true := by
  unfold meshPut
  exact wf_emit (wf_noteHead h)

theorem wf_meshSend {cd : Nat} {p : MeshPacket} (h : Memory.wf s = true) : Memory.wf (meshSend s cd p) = true := by
  unfold meshSend
  exact wf_meshPut h

theorem wf_takeLink {cd r out n : Nat} (h : Memory.wf s = true) : Memory.wf (takeLink s cd r out n) = true := by
  unfold takeLink
  exact wf_ite h (wf_setDie h)

theorem wf_cutEdge {cd r : Nat} (h : Memory.wf s = true) : Memory.wf (cutEdge s cd r) = true := by
  unfold cutEdge
  exact wf_setDie h

theorem wf_forward {cd r : Nat} {p : MeshPacket} (h : Memory.wf s = true) : Memory.wf (forward s cd r p) = true := by
  unfold forward
  exact wf_meshPut (wf_dropHead (wf_takeLink h))

theorem wf_discardPacket {cd router : Nat} {p : MeshPacket} {range : Bool} (h : Memory.wf s = true) :
    Memory.wf (discardPacket s cd router p range) = true := by
  unfold discardPacket
  exact wf_raise h

theorem wf_fencedDiscard {cd : Nat} {p : MeshPacket} (h : Memory.wf s = true) : Memory.wf (fencedDiscard s cd p) = true := by
  unfold fencedDiscard
  exact wf_ite (wf_meshSend h) h

theorem wf_hop {cd r : Nat} {p : MeshPacket} (h : Memory.wf s = true) : Memory.wf (hop s cd r p) = true := by
  unfold hop
  refine wf_ite h (wf_ite (wf_discardPacket (wf_deliver h)) ?_)
  exact wf_ite (wf_fencedDiscard (wf_dropHead (wf_deliver h))) (wf_ite (wf_forward (wf_deliver h)) h)

@[simp] theorem wf_execMeshHop {cd : Fin 16} {r : Fin 64} {p : MeshPacket} (h : Memory.wf s = true) :
    keepsForm (execMeshHop cd r p s) = true :=
  keepsForm_next (wf_ite (wf_hop h) h)

@[simp] theorem wf_execMeshDiscard {cd : Fin 16} {r : Fin 64} {p : MeshPacket} (h : Memory.wf s = true) :
    keepsForm (execMeshDiscard cd r p s) = true :=
  keepsForm_next (wf_ite h (wf_ite (wf_discardPacket (wf_deliver h)) (wf_ite (wf_discardPacket (wf_deliver h)) h)))

theorem wf_netWrite {k line : Nat} {fs : List Flit} {eng : List Host.Cell} (h : Memory.wf s = true) :
    Memory.wf (netWrite s k line fs eng) = true := by
  unfold netWrite
  refine wf_updTile ?_ (fun _ ht => wf_foldl (fun _ _ ht => wf_tileWrite ht) ht)
  exact wf_updTile h (fun _ ht => wf_foldl (fun _ _ ht => wf_tileWrite ht) ht)

theorem wf_collisionNotices {cd dst src flow : Nat} {ls : List Nat} (h : Memory.wf s = true) :
    Memory.wf (collisionNotices s cd dst src flow ls) = true := by
  unfold collisionNotices
  exact wf_foldl (fun _ _ hs => wf_bump (wf_meshSend hs)) h

theorem wf_portWrite {cd t src line flow : Nat} {fs : List Flit} {eng : List Host.Cell} (h : Memory.wf s = true) :
    Memory.wf (portWrite s cd t src line flow fs eng) = true := by
  unfold portWrite
  exact wf_foldl (fun _ _ hs => wf_bootLine (wf_flowLine hs)) (wf_collisionNotices (wf_netWrite h))

theorem wf_doWrite {cd : Nat} {p : MeshPacket} {eng : List Host.Cell} (h : Memory.wf s = true) : Memory.wf (doWrite s cd p eng) = true := by
  unfold doWrite
  exact wf_ite (wf_discardPacket h) (wf_ite (wf_ite (wf_fencedDiscard h) (wf_portWrite h)) (wf_setDie h))

@[simp] theorem wf_execWrite {cd : Fin 16} {p : MeshPacket} {eng : List (Nat × Byte)} (h : Memory.wf s = true) :
    keepsForm (execWrite cd p eng s) = true :=
  keepsForm_next (wf_ite (wf_doWrite (wf_deliver h)) h)

theorem wf_doReadReq {cd : Nat} {p : MeshPacket} (h : Memory.wf s = true) : Memory.wf (doReadReq s cd p) = true := by
  unfold doReadReq
  exact wf_ite (wf_discardPacket h) (wf_ite h (wf_ite (wf_fencedDiscard h) (wf_bumpFree (wf_meshSend (wf_readEffects h)))))

@[simp] theorem wf_execReadReq {cd : Fin 16} {p : MeshPacket} (h : Memory.wf s = true) : keepsForm (execReadReq cd p s) = true :=
  keepsForm_next (wf_ite (wf_doReadReq (wf_deliver h)) h)

theorem wf_doReadRsp {cd : Nat} {p : MeshPacket} {eng : List Host.Cell} (h : Memory.wf s = true) :
    Memory.wf (doReadRsp s cd p eng) = true := by
  unfold doReadRsp
  exact wf_ite (wf_discardPacket h) (wf_ite h (wf_collisionNotices (wf_netWrite h)))

@[simp] theorem wf_execReadRsp {cd : Fin 16} {p : MeshPacket} {eng : List (Nat × Byte)} (h : Memory.wf s = true) :
    keepsForm (execReadRsp cd p eng s) = true :=
  keepsForm_next (wf_ite (wf_doReadRsp (wf_deliver h)) h)

theorem wf_doReduce {cd r : Nat} {p : MeshPacket} (h : Memory.wf s = true) : Memory.wf (doReduce s cd r p) = true := by
  unfold doReduce
  dsimp only
  split
  · exact h
  · split
    · exact wf_fencedDiscard (wf_dropHead (wf_deliver h))
    · split
      · exact wf_ite (wf_forward (wf_deliver h)) h
      · split
        · exact wf_ite (wf_bumpFree (wf_forward (wf_dropHead (wf_setDie (wf_deliver h))))) h
        · exact wf_ite (wf_ite (wf_forward (wf_deliver h)) h) (wf_dropHead (wf_setDie (wf_deliver h)))

@[simp] theorem wf_execReduce {cd : Fin 16} {r : Fin 64} {p : MeshPacket} (h : Memory.wf s = true) :
    keepsForm (execReduce cd r p s) = true :=
  keepsForm_next (wf_ite (wf_doReduce h) h)

theorem wf_doCombineExpiry {cd r i : Nat} (h : Memory.wf s = true) : Memory.wf (doCombineExpiry s cd r i) = true := by
  unfold doCombineExpiry
  dsimp only
  split
  · exact h
  · exact wf_ite (wf_fencedDiscard (wf_setDie h)) (wf_ite h (wf_forward (wf_setDie h)))

@[simp] theorem wf_execCombineWaitExpiry {cd : Fin 16} {r : Fin 64} {i : Fin 32} (h : Memory.wf s = true) :
    keepsForm (execCombineWaitExpiry cd r i s) = true :=
  keepsForm_next (wf_ite (wf_doCombineExpiry h) h)

theorem wf_doCombineFlit {cd t src flow line count : Nat} {bf16 : Bool} {fl : Flit} {eng : List Host.Cell} (h : Memory.wf s = true) :
    Memory.wf (doCombineFlit s cd t src flow line count bf16 fl eng) = true := by
  unfold doCombineFlit
  extract_lets k tl old cur curP s1 out
  have h1 : Memory.wf s1 = true := wf_ite h (wf_readEffects h)
  split
  · exact h
  · extract_lets held excess s2 s3 s4 s5 done s6
    have h4 : Memory.wf s4 = true := wf_updTile (wf_collisionNotices (wf_netWrite h1)) (fun _ ht => ht)
    have h5 : Memory.wf s5 = true := wf_ite (wf_raise (wf_bump (wf_meshSend h4))) h4
    have h6 : Memory.wf s6 = true := wf_ite (wf_meshSend (wf_updTile h5 (fun _ ht => ht))) h5
    exact wf_ite h (wf_bumpFree h6)

theorem wf_combTake {cd : Nat} {p : MeshPacket} {i : Nat} (h : Memory.wf s = true) : Memory.wf (combTake s cd p i) = true := by
  unfold combTake
  exact wf_ite (wf_updTile (wf_deliver h) (fun _ ht => ht)) (wf_updTile h (fun _ ht => ht))

@[simp] theorem wf_execCombineFlit {cd : Fin 16} {p : MeshPacket} {i : Fin 16} {eng : List (Nat × Byte)} (h : Memory.wf s = true) :
    keepsForm (execCombineFlit cd p i eng s) = true := by
  unfold execCombineFlit
  refine keepsForm_next ?_
  split
  · exact h
  · refine wf_ite h (wf_ite (wf_fencedDiscard (wf_deliver h)) ?_)
    exact wf_ite (wf_discardPacket (wf_deliver h)) (wf_ite h (wf_doCombineFlit (wf_combTake h)))

theorem wf_doNotice {cd : Nat} {p : MeshPacket} (h : Memory.wf s = true) : Memory.wf (doNotice s cd p) = true := by
  unfold doNotice
  exact wf_ite (wf_flowFenced h) h

@[simp] theorem wf_execNotice {cd : Fin 16} {p : MeshPacket} (h : Memory.wf s = true) : keepsForm (execNotice cd p s) = true :=
  keepsForm_next (wf_ite (wf_doNotice (wf_deliver h)) h)

theorem wf_doProgress {cd event : Nat} {p : MeshPacket} (h : Memory.wf s = true) : Memory.wf (doProgress s cd event p) = true := by
  unfold doProgress
  exact wf_ite h (wf_ite (wf_flowChecked (wf_setDie h)) (wf_flowReduced h))

@[simp] theorem wf_execUnitChecked {cd : Fin 16} {p : MeshPacket} (h : Memory.wf s = true) : keepsForm (execUnitChecked cd p s) = true :=
  keepsForm_next (wf_ite (wf_doProgress (wf_deliver h)) h)

@[simp] theorem wf_execReduceDone {cd : Fin 16} {p : MeshPacket} (h : Memory.wf s = true) : keepsForm (execReduceDone cd p s) = true :=
  keepsForm_next (wf_ite (wf_doProgress (wf_deliver h)) h)

end Sys2Proof.Machine
end

section
/-! O60, the operations of Sys2Proof/Machine/Signal.lean: what they leave is in canonical form. -/
namespace Sys2Proof.Machine
variable {s : State}

theorem wf_doSigFlit {l : Nat} {w : Word} {crc : BitVec 8} (h : Memory.wf s = true) : Memory.wf (doSigFlit s l w crc) = true := by
  unfold doSigFlit
  exact wf_ite h (wf_ite h (wf_ite (wf_bump (wf_emit (wf_emit h))) (wf_emit h)))

@[simp] theorem wf_execSigFlit {l : Fin 144} {w : Word} {crc : BitVec 8} (h : Memory.wf s = true) :
    keepsForm (execSigFlit l w crc s) = true :=
  keepsForm_next (wf_doSigFlit h)

@[simp] theorem wf_execSigDiscard {site : Fin 100} {p : SigPacket} (h : Memory.wf s = true) : keepsForm (execSigDiscard site p s) = true :=
  keepsForm_next (wf_ite h (wf_raise (wf_sigArrive h)))

theorem wf_setArb {kind : ArbKind} {i : Nat} {a : ArbSt} (h : Memory.wf s = true) : Memory.wf (setArb s kind i a) = true := h

theorem wf_doArbiter {kind : ArbKind} {i : Nat} {rs : List ArbReq} (h : Memory.wf s = true) : Memory.wf (doArbiter s kind i rs) = true := by
  unfold doArbiter
  dsimp only
  split
  · exact h
  · exact wf_ite (wf_bump (wf_setArb h)) (wf_setArb h)

theorem wf_arbRelease {kind : ArbKind} {i : Nat} (h : Memory.wf s = true) : Memory.wf (arbRelease s kind i) = true := by
  unfold arbRelease
  exact wf_setArb h

@[simp] theorem wf_execArbiterDecision {kind : ArbKind} {i : Fin 100000} {rs : List ArbReq} (h : Memory.wf s = true) :
    keepsForm (execArbiterDecision kind i rs s) = true :=
  keepsForm_next (wf_ite (wf_doArbiter h) h)

theorem wf_doWindowEnd {kind : ArbKind} {i : Nat} (h : Memory.wf s = true) : Memory.wf (doWindowEnd s kind i) = true := by
  unfold doWindowEnd
  exact wf_ite h (wf_ite (wf_bump (wf_setArb h)) (wf_setArb h))

@[simp] theorem wf_execArbiterWindowEnd {kind : ArbKind} {i : Fin 100000} (h : Memory.wf s = true) :
    keepsForm (execArbiterWindowEnd kind i s) = true :=
  keepsForm_next (wf_doWindowEnd h)

theorem wf_cutEffect {kind : ArbKind} {i : Nat} {item : CutItem} (h : Memory.wf s = true) : Memory.wf (cutEffect s kind i item) = true := by
  unfold cutEffect
  split
  · extract_lets cd d r s1 s2 s3
    have h2 : Memory.wf s2 = true := wf_ite (wf_deliver h) (wf_forward (wf_deliver h))
    have h3 : Memory.wf s3 = true := by
      refine wf_ite (wf_updTile h2 (fun t ht => ?_)) h2
      exact wf_tile_store ht (wf_foldl (fun _ _ hst => wf_setMark _ _ _ hst) (wf_store_of_tile ht))
    exact wf_meshSend h3
  · exact wf_deliver h
  · exact wf_ite h h
  · exact h

theorem wf_doHoldCut {kind : ArbKind} {i : Nat} {item : CutItem} (h : Memory.wf s = true) : Memory.wf (doHoldCut s kind i item) = true := by
  unfold doHoldCut
  dsimp only
  split
  · exact h
  · refine wf_ite h (wf_cutEffect (wf_raise ?_))
    split
    · exact wf_bump (wf_setArb h)
    · exact wf_setArb h

@[simp] theorem wf_execEngineGuard {cd : Fin 16} {t : Fin 64} (h : Memory.wf s = true) : keepsForm (execEngineGuard cd t s) = true :=
  keepsForm_next (wf_ite (wf_bump h) h)

end Sys2Proof.Machine
end

section
/-! O60, the operations of Sys2Proof/Machine/Mem.lean: what they leave is in canonical form. -/
namespace Sys2Proof.Machine
variable {s : State}

theorem wf_sendDone {md : Nat} {r : Request} {status : Nat} (h : Memory.wf s = true) : Memory.wf (sendDone s md r status) = true := by
  unfold sendDone
  exact wf_emit h

theorem wf_stackQueue {st : Stack} {flow : Nat} {items : List TxFlit} (hst : Stack.wf st = true) :
    Stack.wf (stackQueue st flow items) = true := by
  unfold stackQueue
  exact wf_ite hst hst

theorem wf_loadLine {md : Nat} {r : Request} {acc : List TxFlit × Bool × State} {i : Nat} (hacc : Memory.wf acc.2.2 = true) :
    Memory.wf (loadLine md r acc i).2.2 = true := by
  unfold loadLine
  dsimp only
  split
  · exact hacc
  · exact wf_lineReadEffects hacc

theorem wf_waitBank {md : Nat} {x : BankItem} (h : Memory.wf s = true) : Memory.wf (waitBank s md x) = true := by
  unfold waitBank
  exact wf_updStack h (fun _ hst => hst)

theorem wf_refuseHere {md block a : Nat} (h : Memory.wf s = true) : Memory.wf (refuseHere s md block a) = true := by
  unfold refuseHere
  exact wf_raise h

theorem wf_loadLost {md : Nat} {r : Request} (h : Memory.wf s = true) : Memory.wf (loadLost s md r) = true := by
  unfold loadLost
  exact wf_bumpFree (wf_updStack (wf_updStack h (fun _ hst => wf_stackQueue hst)) (fun _ hst => hst))

theorem wf_loadHere {md : Nat} {r : Request} (h : Memory.wf s = true) : Memory.wf (loadHere s md r) = true := by
  unfold loadHere
  dsimp only
  split
  · exact wf_sendDone (wf_refuseHere h)
  · split
    · exact wf_waitBank h
    · split
      · split
        · exact wf_sendDone h
        · split
          · exact wf_foldl_snd_snd (fun _ _ hacc => wf_loadLine hacc) h
          · exact wf_updStack (wf_foldl_snd_snd (fun _ _ hacc => wf_loadLine hacc) h) (fun _ hst => wf_stack_kept (wf_stackQueue hst) rfl)
      · exact wf_sendDone h

theorem wf_doLoadReq {md : Nat} {r : Request} (h : Memory.wf s = true) : Memory.wf (doLoadReq s md r) = true := by
  unfold doLoadReq
  exact wf_ite (wf_loadLost h) (wf_ite h (wf_loadHere h))

@[simp] theorem wf_execLoadReq {md : Fin 24} {r : Request} (h : Memory.wf s = true) : keepsForm (execLoadReq md r s) = true :=
  keepsForm_next (wf_ite h (wf_doLoadReq (wf_sigArrive h)))

theorem wf_doStoreReq {md : Nat} {r : Request} (h : Memory.wf s = true) : Memory.wf (doStoreReq s md r) = true := by
  unfold doStoreReq
  refine wf_ite (wf_sendDone h) (wf_ite h (wf_ite (wf_sendDone (wf_refuseHere h)) ?_))
  exact wf_ite (wf_sendDone h) (wf_updStack h (fun _ hst => hst))

@[simp] theorem wf_execStoreReq {md : Fin 24} {r : Request} (h : Memory.wf s = true) : keepsForm (execStoreReq md r s) = true :=
  keepsForm_next (wf_ite h (wf_doStoreReq (wf_sigArrive h)))

@[simp] theorem wf_execReqDone {cd : Fin 16} {md : Fin 24} {tile : BitVec 6} {tag : BitVec 10} {status : BitVec 2}
  (h : Memory.wf s = true) :
    keepsForm (execReqDone cd md tile tag status s) = true :=
  keepsForm_next (wf_ite h (wf_reqDone (wf_sigArrive h)))

theorem wf_addResults {ret : Nat} {st : Stack} {hd : Held} {res : List Byte} (hst : Stack.wf st = true) :
    Stack.wf (addResults ret st hd res).1 = true := by
  unfold addResults
  dsimp only
  split
  · exact hst
  · exact wf_stackQueue hst

theorem wf_closeHeld {md : Nat} {hd : Held} (h : Memory.wf s = true) : Memory.wf (closeHeld s md hd) = true := by
  unfold closeHeld
  refine wf_ite h ?_
  extract_lets s1 s2
  have h1 : Memory.wf s1 = true := wf_updStack h (fun _ hst => hst)
  have h2 : Memory.wf s2 = true := by
    dsimp only [s2]
    clear_value s1
    split
    · exact wf_ite h1 (wf_updStack h1 (fun _ hst => wf_stackQueue hst))
    · exact h1
  exact wf_settleStack (wf_sendDone h2)

theorem wf_serveHeld {md : Nat} {hd : Held} {i : Nat} (h : Memory.wf s = true) : Memory.wf (serveHeld s md hd i) = true := by
  unfold serveHeld
  exact wf_ite h (wf_ite (wf_closeHeld h) (wf_updStack h (fun _ hst => hst)))

theorem wf_atomicApply {md : Nat} {r : OpRecord} {poison : Bool} (h : Memory.wf s = true) :
    Memory.wf (atomicApply s md r poison).2.2 = true := by
  unfold atomicApply
  extract_lets o l v s1 old s2
  have h1 : Memory.wf s1 = true := wf_bump (wf_lineReadEffects h)
  split
  · exact h1
  · exact wf_memWriteLine (wf_updStack h1 (fun st hst => wf_bufTake st _ (length_lineRead (wf_stackAt h) l) hst))

theorem wf_reduceLine {md l op fmt : Nat} {fl : Flit} (h : Memory.wf s = true) : Memory.wf (reduceLine s md l op fmt fl).2 = true := by
  unfold reduceLine
  exact wf_memWriteLine (wf_bump (wf_lineReadEffects h))

theorem wf_reduceApply {md : Nat} {r : OpRecord} {data : List Flit} (h : Memory.wf s = true) :
    Memory.wf (reduceApply s md r data).2 = true := by
  unfold reduceApply
  refine wf_foldl_snd (fun _ _ hacc => ?_) h
  split
  · exact wf_reduceLine hacc
  · exact hacc

theorem wf_sendResult {md site : Nat} {bs : List Byte} (h : Memory.wf s = true) : Memory.wf (sendResult s md site bs) = true := by
  unfold sendResult
  exact wf_ite h (wf_emit h)

theorem wf_recordHere {md site : Nat} {r : OpRecord} {data : List Flit} {poison : Bool} (h : Memory.wf s = true) :
    Memory.wf (recordHere s md site r data poison) = true := by
  unfold recordHere
  refine wf_ite (wf_emit (wf_refuseHere h)) ?_
  exact wf_ite (wf_waitBank h) (wf_ite (wf_sendResult (wf_atomicApply h)) (wf_sendResult (wf_reduceApply h)))

theorem wf_doRecord {md site : Nat} {r : OpRecord} {data : List Flit} {poison : Bool} (h : Memory.wf s = true) :
    Memory.wf (doRecord s md site r data poison) = true := by
  unfold doRecord
  exact wf_ite (wf_emit h) (wf_ite h (wf_recordHere h))

theorem wf_recordCmd {op : Nat} {md : Fin 24} {site : Fin 100} {r : OpRecord} {data : List Flit} {poison : Bool} (h : Memory.wf s = true) :
    Memory.wf (recordCmd op md site r data poison s) = true := by
  unfold recordCmd
  exact wf_ite (wf_doRecord h) h

@[simp] theorem wf_execAdd {md : Fin 24} {site : Fin 100} {r : OpRecord} {poison : Bool} (h : Memory.wf s = true) :
    keepsForm (execAdd md site r poison s) = true :=
  keepsForm_next (wf_recordCmd h)

@[simp] theorem wf_execSwap {md : Fin 24} {site : Fin 100} {r : OpRecord} {poison : Bool} (h : Memory.wf s = true) :
    keepsForm (execSwap md site r poison s) = true :=
  keepsForm_next (wf_recordCmd h)

@[simp] theorem wf_execCas {md : Fin 24} {site : Fin 100} {r : OpRecord} {poison : Bool} (h : Memory.wf s = true) :
    keepsForm (execCas md site r poison s) = true :=
  keepsForm_next (wf_recordCmd h)

@[simp] theorem wf_execMin {md : Fin 24} {site : Fin 100} {r : OpRecord} {poison : Bool} (h : Memory.wf s = true) :
    keepsForm (execMin md site r poison s) = true :=
  keepsForm_next (wf_recordCmd h)

@[simp] theorem wf_execMax {md : Fin 24} {site : Fin 100} {r : OpRecord} {poison : Bool} (h : Memory.wf s = true) :
    keepsForm (execMax md site r poison s) = true :=
  keepsForm_next (wf_recordCmd h)

@[simp] theorem wf_execMinu {md : Fin 24} {site : Fin 100} {r : OpRecord} {poison : Bool} (h : Memory.wf s = true) :
    keepsForm (execMinu md site r poison s) = true :=
  keepsForm_next (wf_recordCmd h)

@[simp] theorem wf_execMaxu {md : Fin 24} {site : Fin 100} {r : OpRecord} {poison : Bool} (h : Memory.wf s = true) :
    keepsForm (execMaxu md site r poison s) = true :=
  keepsForm_next (wf_recordCmd h)

@[simp] theorem wf_execAnd {md : Fin 24} {site : Fin 100} {r : OpRecord} {poison : Bool} (h : Memory.wf s = true) :
    keepsForm (execAnd md site r poison s) = true :=
  keepsForm_next (wf_recordCmd h)

@[simp] theorem wf_execOr {md : Fin 24} {site : Fin 100} {r : OpRecord} {poison : Bool} (h : Memory.wf s = true) :
    keepsForm (execOr md site r poison s) = true :=
  keepsForm_next (wf_recordCmd h)

@[simp] theorem wf_execXor {md : Fin 24} {site : Fin 100} {r : OpRecord} {poison : Bool} (h : Memory.wf s = true) :
    keepsForm (execXor md site r poison s) = true :=
  keepsForm_next (wf_recordCmd h)

@[simp] theorem wf_execReduceAdd {md : Fin 24} {site : Fin 100} {r : OpRecord} {data : List Flit} (h : Memory.wf s = true) :
    keepsForm (execReduceAdd md site r data s) = true :=
  keepsForm_next (wf_recordCmd h)

@[simp] theorem wf_execReduceMin {md : Fin 24} {site : Fin 100} {r : OpRecord} {data : List Flit} (h : Memory.wf s = true) :
    keepsForm (execReduceMin md site r data s) = true :=
  keepsForm_next (wf_recordCmd h)

@[simp] theorem wf_execReduceMax {md : Fin 24} {site : Fin 100} {r : OpRecord} {data : List Flit} (h : Memory.wf s = true) :
    keepsForm (execReduceMax md site r data s) = true :=
  keepsForm_next (wf_recordCmd h)

@[simp] theorem wf_execInvalidRecord {md : Fin 24} {site : Fin 100} {r : OpRecord} (h : Memory.wf s = true) :
    keepsForm (execInvalidRecord md site r s) = true :=
  keepsForm_next (wf_ite h (wf_doRecord h))

theorem wf_atomicRecord {md : Nat} {r : OpRecord} {poison : Bool} (h : Memory.wf s = true) :
    Memory.wf (atomicRecord s md r poison).2 = true := by
  unfold atomicRecord
  split
  · exact h
  · split
    · exact wf_refuseHere h
    · exact wf_atomicApply h

theorem wf_atomicFlit {md : Nat} {hd : Held} {ret : Nat} {fl : Flit} (h : Memory.wf s = true) :
    Memory.wf (atomicFlit s md hd ret fl).1 = true := by
  unfold atomicFlit
  extract_lets x y
  have hx : Memory.wf x.2 = true := wf_foldl_snd (fun _ _ hacc => wf_atomicRecord hacc) h
  exact wf_setStack hx (wf_addResults (wf_stackAt hx))

theorem wf_storeFlit {md src : Nat} {tile : BitVec 6} {tag : BitVec 10} {pos : Nat} {fl : Flit} (h : Memory.wf s = true) :
    Memory.wf (storeFlit s md src tile tag pos fl) = true := by
  unfold storeFlit
  split
  · exact h
  · refine wf_ite h (wf_ite h (wf_ite (wf_waitBank h) (wf_serveHeld ?_)))
    split
    · exact wf_memWriteLine h
    · exact wf_reduceLine h
    · exact wf_atomicFlit h
    · exact h

theorem wf_doStoreTimeout {md : Nat} {src : BitVec 7} {tile : BitVec 6} {tag : BitVec 10} (h : Memory.wf s = true) :
    Memory.wf (doStoreTimeout s md src tile tag) = true := by
  unfold doStoreTimeout
  split
  · exact h
  · refine wf_ite h (wf_bumpFree (wf_closeHeld (wf_ite h (wf_foldl (fun _ _ hs' => ?_) h))))
    split
    · exact wf_memWriteLine hs'
    · exact hs'

@[simp] theorem wf_execStoreReqTimeout {md : Fin 24} {src : BitVec 7} {tile : BitVec 6} {tag : BitVec 10} (h : Memory.wf s = true) :
    keepsForm (execStoreReqTimeout md src tile tag s) = true :=
  keepsForm_next (wf_doStoreTimeout h)

theorem wf_doRefresh {md bank : Nat} {busy : Bool} (h : Memory.wf s = true) : Memory.wf (doRefresh s md bank busy) = true := by
  unfold doRefresh
  exact wf_ite h (wf_setStack h (wf_stack_kept (wf_stackAt h) rfl))

@[simp] theorem wf_execRefresh {md : Fin 24} {bank : Fin 64} {busy : Bool} (h : Memory.wf s = true) :
    keepsForm (execRefresh md bank busy s) = true :=
  keepsForm_next (wf_doRefresh h)

theorem wf_startPass {st : Stack} (hst : Stack.wf st = true) : Stack.wf (startPass st) = true := by
  unfold startPass
  exact wf_ite hst hst

theorem wf_scrubLine {md l : Nat} (h : Memory.wf s = true) : Memory.wf (scrubLine s md l) = true := by
  unfold scrubLine
  dsimp only
  split
  · exact wf_updStack (wf_lineReadEffects h) (fun _ hx => wf_lineWrite _ _ _ _ hx)
  · exact wf_memWriteLine (wf_lineReadEffects h)
  · exact h

theorem wf_doScrub {md : Nat} (h : Memory.wf s = true) : Memory.wf (doScrub s md) = true := by
  unfold doScrub
  split
  · exact h
  · dsimp only
    split
    · refine wf_bump (wf_updStack ?_ (fun _ hst => hst))
      exact wf_foldl (fun _ _ hs => wf_scrubLine hs) (wf_ite (wf_updStack h (fun _ hst => wf_startPass hst)) h)
    · refine wf_updStack (wf_foldl (fun _ _ hs => wf_scrubLine hs) (wf_ite (wf_updStack h (fun _ hst => (wf_startPass ?_))) h))
        (fun _ hst => hst)
      exact hst

@[simp] theorem wf_execPatrolScrub {md : Fin 24} (h : Memory.wf s = true) : keepsForm (execPatrolScrub md s) = true :=
  keepsForm_next (wf_ite h (wf_doScrub h))

theorem wf_doRepair {md : Nat} {r : DieRow} (h : Memory.wf s = true) : Memory.wf (doRepair s md r) = true := by
  unfold doRepair
  dsimp only
  split
  · exact h
  · refine wf_ite (wf_bump (wf_setStack h (wf_stack_kept (wf_stackAt h) rfl))) ?_
    exact wf_raise (wf_setStack h (wf_stack_kept (wf_stack_kept (wf_stackAt h) rfl) rfl))

@[simp] theorem wf_execSoftRepair {md : Fin 24} {die : Fin 18} {row : Fin 8388608} (h : Memory.wf s = true) :
    keepsForm (execSoftRepair md die row s) = true :=
  keepsForm_next (wf_doRepair h)

@[simp] theorem wf_execStackLockLoss {md : Fin 24} (h : Memory.wf s = true) : keepsForm (execStackLockLoss md s) = true :=
  keepsForm_next (wf_ite (wf_stackFail h) h)

end Sys2Proof.Machine
end

section
/-! O60, the operations of Sys2Proof/Machine/FabFlits.lean: what they leave is in canonical form. -/
namespace Sys2Proof.Machine
variable {s : State}

theorem wf_setLink {l : Nat} {v : LinkSt} (h : Memory.wf s = true) : Memory.wf (setLink s l v) = true := h

theorem wf_enqueue {l : Nat} {p : FabPacket} (h : Memory.wf s = true) : Memory.wf (enqueue s l p) = true := by
  unfold enqueue
  exact wf_setLink h

theorem wf_pathSend {me peer : Nat} {p : FabPacket} (h : Memory.wf s = true) : Memory.wf (pathSend s me peer p) = true := by
  unfold pathSend
  exact wf_enqueue h

theorem wf_setHostPath {l : Nat} {ps : List FabPacket} (h : Memory.wf s = true) : Memory.wf (setHostPath s l ps) = true := h

theorem wf_freeInput {l : Nat} {p : FabPacket} (h : Memory.wf s = true) : Memory.wf (freeInput s l p) = true := by
  unfold freeInput
  exact wf_setLink h

theorem wf_grantPacket {l : Nat} (h : Memory.wf s = true) : Memory.wf (grantPacket s l).2 = true := by
  unfold grantPacket
  dsimp only
  split
  · exact h
  · split
    · exact h
    · split <;> exact wf_doArbiter h

theorem wf_copySent {q : FabPacket} (h : Memory.wf s = true) : Memory.wf (copySent s q) = true := by
  unfold copySent
  split
  · exact h
  · exact wf_ite (wf_freeInput h) h

theorem wf_stampExclude {l : Nat} {p : FabPacket} (h : Memory.wf s = true) : Memory.wf (stampExclude s l p).2 = true := by
  unfold stampExclude
  exact wf_ite (wf_setLink h) (wf_schedule h)

theorem wf_stampOut {l : Nat} {p : FabPacket} (h : Memory.wf s = true) : Memory.wf (stampOut s l p).2 = true := by
  unfold stampOut
  split
  · exact h
  · split
    · exact wf_stampExclude h
    · exact h

theorem wf_fillFlits {n l : Nat} {acc : List (Flit × Bool)} (h : Memory.wf s = true) : Memory.wf (fillFlits n s l acc).1 = true := by
  induction n generalizing s acc with
  | zero => exact h
  | succ n ih =>
    unfold fillFlits
    dsimp only
    split
    · exact ih (wf_ite (wf_arbRelease (wf_setLink h)) (wf_setLink h))
    · have hg : Memory.wf (grantPacket s l).2 = true := wf_grantPacket h
      generalize grantPacket s l = g at hg
      obtain ⟨_ | p, t⟩ := g
      · exact hg
      · refine ih (wf_ite (wf_arbRelease ?_) ?_)
        · exact wf_copySent (wf_setLink (wf_stampOut hg))
        · exact wf_copySent (wf_setLink (wf_stampOut hg))

theorem wf_fillSlot {l : Nat} {hd : SlotHeader} (h : Memory.wf s = true) : Memory.wf (fillSlot s l hd).2 = true := by
  unfold fillSlot
  split
  · exact h
  · exact wf_fillFlits h

theorem wf_of_fillSlot {t : State} {l : Nat} {hd : SlotHeader} {o : Option (SlotHeader × List Flit)} (h : Memory.wf s = true)
    (ht : fillSlot s l hd = (o, t)) : Memory.wf t = true := by
  have hf := wf_fillSlot (l := l) (hd := hd) h
  rwa [ht] at hf

theorem wf_breakStream {l : Nat} {read : Option (SlotHeader × List Flit)} (h : Memory.wf s = true) :
    Memory.wf (breakStream s l read) = true := by
  unfold breakStream
  exact wf_bumpFree (wf_setLink h)

theorem wf_joinStream {l head : Nat} {fs : List Flit} (h : Memory.wf s = true) : Memory.wf (joinStream s l head fs).2 = true := by
  unfold joinStream
  extract_lets v1 v2 cut s1 v3 v4 r
  have h1 : Memory.wf s1 = true := wf_ite h (wf_bumpFree h)
  split
  · exact wf_setLink h1
  · exact wf_setLink h1

theorem wf_pathBurst {l : Nat} {hd : SlotHeader} {fs : List Flit} (h : Memory.wf s = true) : Memory.wf (pathBurst s l hd fs) = true := by
  unfold pathBurst
  exact wf_kept (wf_joinStream (wf_setLink h)) rfl

theorem wf_dropPaths {site : Nat} (h : Memory.wf s = true) : Memory.wf (dropPaths s site) = true := by
  unfold dropPaths
  exact wf_kept (wf_foldl (fun _ _ hs => wf_copySent hs) h) rfl

end Sys2Proof.Machine
end

section
/-! O60, the operations of Sys2Proof/Machine/Bank.lean: what they leave is in canonical form. -/
namespace Sys2Proof.Machine
variable {s : State}

theorem wf_storeFlits {a size : Nat} {fs : List Flit} (h : Memory.wf s = true) : Memory.wf (storeFlits s a size fs) = true := by
  unfold storeFlits
  exact wf_foldl (fun _ _ hs => wf_dramWriteGo hs) h

theorem wf_memServe {p : FabPacket} (h : Memory.wf s = true) : Memory.wf (memServe s p).2.2.2 = true := by
  unfold memServe
  dsimp only
  split
  · exact wf_rangeReadEffects h
  · split
    · exact wf_refuseHere h
    · exact wf_atomicApply h
  · split
    · exact wf_refuseHere h
    · exact wf_reduceApply h
  · exact wf_storeFlits h

theorem wf_hostSend {me peer : Nat} {p : FabPacket} (h : Memory.wf s = true) : Memory.wf (hostSend s me peer p) = true := by
  unfold hostSend
  exact wf_setHostPath h

theorem wf_unitAnswer {md site : Nat} {p : FabPacket} {status : Nat} {result : Option (List Byte)} {data : List Flit}
  (h : Memory.wf s = true) :
    Memory.wf (unitAnswer s md site p status result data) = true := by
  unfold unitAnswer
  refine wf_ite h ?_
  dsimp only
  split
  · exact wf_hostSend h
  · exact wf_pathSend h

theorem wf_unitHere {md site : Nat} {p : FabPacket} (h : Memory.wf s = true) : Memory.wf (unitHere s md site p) = true := by
  unfold unitHere
  exact wf_ite (wf_waitBank h) (wf_unitAnswer (wf_memServe h))

theorem wf_unitLost {md site : Nat} {p : FabPacket} (h : Memory.wf s = true) : Memory.wf (unitLost s md site p) = true := by
  unfold unitLost
  exact wf_unitAnswer h

theorem wf_serveUnit {md site : Nat} {p : FabPacket} (h : Memory.wf s = true) : Memory.wf (serveUnit s md site p) = true := by
  unfold serveUnit
  exact wf_ite (wf_unitLost h) (wf_ite h (wf_unitHere h))

theorem wf_runBankItem {md : Nat} {x : BankItem} (h : Memory.wf s = true) : Memory.wf (runBankItem md s x) = true := by
  unfold runBankItem
  dsimp only
  split
  · exact h
  · split
    · exact wf_ite (wf_loadLost h) (wf_loadHere h)
    · exact wf_storeFlit h
    · exact wf_ite (wf_sendResult h) (wf_recordHere h)
    · exact wf_ite (wf_unitLost h) (wf_unitHere h)

theorem wf_runBankWait {md : Nat} (h : Memory.wf s = true) : Memory.wf (runBankWait s md) = true := by
  unfold runBankWait
  exact wf_settleStack (wf_foldl (fun _ _ hs => wf_runBankItem hs) (wf_updStack h (fun _ hst => hst)))

theorem wf_repairLine {md l : Nat} (h : Memory.wf s = true) : Memory.wf (repairLine md s l) = true := by
  unfold repairLine
  refine wf_ite h ?_
  split
  · exact wf_updStack h (fun _ hx => wf_lineWrite _ _ _ _ hx)
  · exact wf_memWriteLine (wf_countUncorr h)
  · exact h

theorem wf_doRepairDone {md : Nat} (h : Memory.wf s = true) : Memory.wf (doRepairDone s md) = true := by
  unfold doRepairDone
  split
  · exact h
  · dsimp only
    split
    · exact wf_foldl (fun _ _ hs => wf_repairLine hs) h
    · exact wf_runBankWait (wf_queueRecord (wf_bump (wf_updStack (wf_foldl (fun _ _ hs => wf_repairLine hs) h) (fun _ hst => hst))))

@[simp] theorem wf_execSoftRepairDone {md : Fin 24} (h : Memory.wf s = true) : keepsForm (execSoftRepairDone md s) = true :=
  keepsForm_next (wf_doRepairDone h)

theorem wf_flushHeld {md : Nat} (h : Memory.wf s = true) : Memory.wf (flushHeld s md) = true := by
  unfold flushHeld
  refine wf_ite h (wf_runBankWait (wf_foldl (fun _ _ hs => wf_closeHeld hs) ?_))
  exact wf_bumpFree (wf_setStack h (wf_stack_kept (wf_stackAt h) rfl))

theorem wf_giveUpSet {n : Nat} (h : Memory.wf s = true) : Memory.wf (giveUpSet s n) = true := by
  unfold giveUpSet
  exact wf_foldl (fun _ _ hs => wf_flushHeld hs) (wf_dset (wf_dset h))

end Sys2Proof.Machine
end

section
/-! O60, the operations of Sys2Proof/Machine/Inflate.lean: what they leave is in canonical form. -/
namespace Sys2Proof.Machine
variable {s : State}

theorem wf_writeLinesGo {cd src dst flow fuel line : Nat} {fs : List Flit} (h : Memory.wf s = true) :
    Memory.wf (writeLinesGo cd src dst flow fuel s line fs) = true := by
  induction fuel generalizing s line fs with
  | zero => exact h
  | succ fuel ih => exact wf_ite h (ih (wf_meshSend h))

theorem wf_adapterWrite {p tile flow line : Nat} {fs : List Flit} (h : Memory.wf s = true) :
    Memory.wf (adapterWrite s p tile flow line fs) = true := by
  unfold adapterWrite
  exact wf_writeLinesGo h

theorem wf_inflateErr {p row flow : Nat} (h : Memory.wf s = true) : Memory.wf (inflateErr s p row flow) = true := by
  unfold inflateErr
  exact wf_raise h

theorem wf_noteUnit {k flow n u : Nat} {hd : UnitHead} (h : Memory.wf s = true) : Memory.wf (noteUnit s k flow n u hd) = true := by
  unfold noteUnit
  split
  · exact h
  · exact wf_updTile h (fun _ ht => wf_updXfer ht)

theorem wf_of_poisonUnit {t : State} {p tile flow n u : Nat} (h : Memory.wf s = true) (ht : poisonUnit s p tile flow n u = some t) :
    Memory.wf t = true := by
  unfold poisonUnit at ht
  dsimp only at ht
  split at ht
  · split at ht
    · rw [← Option.some.inj ht]
      exact wf_adapterWrite h
    · exact absurd ht (Option.some_ne_none t).symm
  · exact absurd ht (Option.some_ne_none t).symm

theorem wf_settleOwed {p : Nat} (h : Memory.wf s = true) : Memory.wf (settleOwed s p) = true := by
  refine wf_foldl (fun u _ hs => ?_) h
  split
  · next hp => exact wf_setInfl (wf_of_poisonUnit hs hp)
  · exact hs

theorem wf_noteHeader {cd k flow n u : Nat} {hd : UnitHead} (h : Memory.wf s = true) :
    Memory.wf (noteHeader s cd k flow n u hd) = true := by
  unfold noteHeader
  exact wf_overNats (fun _ _ hs => wf_settleOwed hs) (wf_noteUnit h)

theorem wf_inflateFlit {p tile flow n off : Nat} {fl : Flit} (h : Memory.wf s = true) :
    Memory.wf (inflateFlit s p tile flow n off fl) = true := by
  unfold inflateFlit
  extract_lets k u s1 f _ s2
  have h1 : Memory.wf s1 = true := wf_ite (wf_noteHeader h) h
  have h2 : Memory.wf s2 = true := wf_inflateErr (wf_setInfl h1)
  clear_value s1 s2
  refine wf_ite h1 (wf_ite ?_ (wf_setInfl h1))
  split
  · next hp => exact wf_of_poisonUnit h2 hp
  · exact wf_setInfl h2

theorem wf_doPackedUnit {p : Nat} (h : Memory.wf s = true) : Memory.wf (doPackedUnit s p) = true := by
  unfold doPackedUnit
  dsimp only
  split
  · exact h
  · split
    · split
      · exact h
      · split
        · exact wf_setInfl h
        · split
          · exact wf_bumpFree (wf_updTile (wf_adapterWrite (wf_inflateErr (wf_setInfl h))) (fun _ ht => wf_updXfer ht))
          · split
            · exact wf_bumpFree (wf_adapterWrite (wf_inflateErr (wf_setInfl h)))
            · exact wf_setInfl (wf_adapterWrite (wf_setInfl h))
    · exact wf_setInfl h

@[simp] theorem wf_execPackedUnit {p : Fin 192} (h : Memory.wf s = true) : keepsForm (execPackedUnit p s) = true :=
  keepsForm_next (wf_ite (wf_doPackedUnit h) h)

theorem wf_doUnitCheck {p : Nat} (h : Memory.wf s = true) : Memory.wf (doUnitCheck s p) = true := by
  unfold doUnitCheck
  dsimp only
  split
  · exact h
  · exact wf_ite (wf_meshSend (wf_setDie (wf_setInfl h))) (wf_bumpFree (wf_adapterWrite (wf_inflateErr (wf_setInfl h))))

@[simp] theorem wf_execUnitCheckDone {p : Fin 192} (h : Memory.wf s = true) : keepsForm (execUnitCheckDone p s) = true :=
  keepsForm_next (wf_ite (wf_doUnitCheck h) h)

end Sys2Proof.Machine
end

section
/-! O60, the operations of Sys2Proof/Machine/Slots.lean: what they leave is in canonical form. -/
namespace Sys2Proof.Machine
variable {s : State}

theorem wf_setHouseQ {site service : Nat} {q : List (Nat × List Flit)} (h : Memory.wf s = true) :
    Memory.wf (setHouseQ s site service q) = true := h

theorem wf_setHostPort {n : Nat} {v : HostPort} (h : Memory.wf s = true) : Memory.wf (setHostPort s n v) = true := h

theorem wf_hostFill {port n : Nat} (h : Memory.wf s = true) : Memory.wf (hostFill s port n) = true := by
  unfold hostFill
  exact wf_ite (wf_bump (wf_emit (wf_setHostPort h))) (wf_setHostPort h)

theorem wf_hostDrain {port n : Nat} (h : Memory.wf s = true) : Memory.wf (hostDrain s port n) = true := by
  unfold hostDrain
  exact wf_ite (wf_emit (wf_setHostPort h)) (wf_setHostPort h)

theorem wf_hostSlot {site peer : Nat} (h : Memory.wf s = true) : Memory.wf (hostSlot s site peer).2 = true := by
  unfold hostSlot
  exact wf_ite (wf_hostDrain (wf_setHostPath h)) (wf_setHostPath h)

theorem wf_setTxQueue {p flow : Nat} {q : List TxFlit} (h : Memory.wf s = true) : Memory.wf (setTxQueue s p flow q) = true := by
  unfold setTxQueue
  split
  · exact wf_setDie h
  · exact wf_updStack h (fun _ hst => hst)
  · exact h

theorem wf_sendLeft {k flow n lines : Nat} (h : Memory.wf s = true) : Memory.wf (sendLeft s k flow n lines) = true := by
  unfold sendLeft
  exact wf_updTile h (fun _ ht => wf_updXfer ht)

theorem wf_dueSlot {q k flow n : Nat} (h : Memory.wf s = true) : Memory.wf (dueSlot s q k flow n) = true := by
  unfold dueSlot
  split
  · exact wf_updPort (wf_updTile h (fun _ ht => wf_updXfer (wf_openRecv ht)))
  · exact h

theorem wf_dueReq {site : Nat} {x : TxFlit} (h : Memory.wf s = true) : Memory.wf (dueReq s site x) = true := by
  unfold dueReq
  split
  · split
    · exact wf_ite h (wf_updTile h (fun _ ht => wf_updXfer ht))
    · exact h
  · exact h

theorem wf_runSent {p flow : Nat} {run : List TxFlit} (h : Memory.wf s = true) : Memory.wf (runSent s p flow run) = true := by
  unfold runSent
  split
  · refine wf_foldl (fun _ _ hs => ?_) h
    split
    · exact wf_serveHeld hs
    · exact hs
  · exact wf_ite h (wf_sendLeft h)
  · exact h

theorem wf_sendBurst {p q : Nat} {b : Burst} (h : Memory.wf s = true) : Memory.wf (sendBurst s p q b) = true := by
  unfold sendBurst
  exact wf_emit h

theorem wf_sendJob {sl p q flow avail : Nat} (h : Memory.wf s = true) : Memory.wf (sendJob s sl p q flow avail) = true := by
  unfold sendJob
  dsimp only
  split
  · exact wf_sendBurst (wf_ite (wf_bump h) h)
  · refine wf_runSent (wf_sendBurst ?_)
    split
    · exact wf_ite (wf_dueReq (wf_setTxQueue (wf_ite (wf_bump h) h))) (wf_dueSlot (wf_setTxQueue (wf_ite (wf_bump h) h)))
    · exact wf_dueReq (wf_setTxQueue (wf_ite (wf_bump h) h))

theorem wf_tableStep {site q : Nat} (h : Memory.wf s = true) : Memory.wf (tableStep s site q) = true := by
  unfold tableStep
  dsimp only
  split
  · exact h
  · exact wf_ite (wf_setHouseQ h) h

theorem wf_sendHouse {sl p q : Nat} (h : Memory.wf s = true) : Memory.wf (sendHouse s sl p q) = true := by
  unfold sendHouse
  extract_lets site s1 hd ws idle s2 s3 x
  have h1 : Memory.wf s1 = true := wf_tableStep h
  have hidle : ∀ u, Memory.wf u = true → Memory.wf (idle u) = true := fun u hu => wf_sendBurst hu
  have h2 : Memory.wf s2 = true := wf_doArbiter h1
  have h3 : Memory.wf s3 = true := wf_arbRelease h2
  have hx : Memory.wf x.2 = true := wf_hostSlot h3
  clear_value s1 idle s2 s3 x
  refine wf_ite (hidle _ h1) ?_
  split
  · exact hidle _ h2
  · split
    · split
      · next heq => exact wf_sendBurst (wf_of_fillSlot h3 heq)
      · next heq => exact hidle _ (wf_of_fillSlot h3 heq)
    · refine wf_ite (wf_sendBurst hx) ?_
      split
      · exact hidle _ h3
      · exact wf_sendBurst (wf_ite h3 (wf_setHouseQ h3))

theorem wf_testSlot {sl : Nat} (h : Memory.wf s = true) : Memory.wf (testSlot s sl) = true := by
  unfold testSlot
  refine wf_ite h (wf_overNats (fun _ _ hs => ?_) h)
  split
  · exact wf_emit hs
  · exact hs

theorem wf_doSlotStart {sl : Fin 64} {short : List (Nat × Nat)} (h : Memory.wf s = true) : Memory.wf (doSlotStart s sl short) = true := by
  unfold doSlotStart
  refine wf_ite h (wf_ite (wf_testSlot h) (wf_overNats (fun _ _ hs => ?_) h))
  split
  · exact hs
  · exact wf_sendHouse hs
  · exact wf_sendJob hs

theorem wf_countLines {lane : Nat → Nat} {p q : Nat} {wrong : List (List Nat)} (h : Memory.wf s = true) :
    Memory.wf (countLines s lane p q wrong) = true := by
  unfold countLines
  exact wf_ite h (wf_setPort (wf_bump h))

theorem wf_countCorrected {p q : Nat} {wrong : List (List Nat)} (h : Memory.wf s = true) :
    Memory.wf (countCorrected s p q wrong) = true := by
  unfold countCorrected
  exact wf_countLines h

theorem wf_discardSlot {sl q c : Nat} {sender : Option Nat} (h : Memory.wf s = true) : Memory.wf (discardSlot s sl q c sender) = true := by
  unfold discardSlot
  exact wf_raise (wf_setPort (wf_bump h))

theorem wf_deliverLines {q t : Nat} {fd : FlowDesc} {pt : Part} {n off : Nat} {fs : List Flit} (h : Memory.wf s = true) :
    Memory.wf (deliverLines s q t fd pt n off fs) = true := by
  unfold deliverLines
  exact wf_ite (wf_foldl (fun _ _ hs => wf_inflateFlit hs) h) (wf_adapterWrite h)

theorem wf_landLines {q cd : Nat} {r : DieReq} {off : Nat} {fs : List Flit} (h : Memory.wf s = true) :
    Memory.wf (landLines s q cd r off fs) = true := by
  unfold landLines
  split
  · split
    · exact wf_deliverLines h
    · exact h
  · exact wf_adapterWrite h
  · exact h

theorem wf_deliverReq {q cd : Nat} {hd : SlotHeader} {fs : List Flit} (h : Memory.wf s = true) :
    Memory.wf (deliverReq s q cd hd fs) = true := by
  unfold deliverReq
  dsimp only
  split
  · exact h
  · refine wf_ite ?_ (wf_ite (wf_finishReq (wf_landLines (wf_setDie h))) (wf_landLines (wf_setDie h)))
    split
    · exact wf_adapterWrite h
    · exact h

theorem wf_deliverSend {q cd : Nat} {hd : SlotHeader} {fs : List Flit} (h : Memory.wf s = true) :
    Memory.wf (deliverSend s q cd hd fs) = true := by
  unfold deliverSend
  dsimp only
  split
  · exact h
  · split
    · exact h
    · split
      · exact h
      · exact wf_ite (wf_adapterWrite h) h

theorem wf_deliverFlow {q : Nat} {hd : SlotHeader} {fs : List Flit} (h : Memory.wf s = true) :
    Memory.wf (deliverFlow s q hd fs) = true := by
  unfold deliverFlow
  split
  · exact wf_ite (wf_deliverReq h) (wf_deliverSend h)
  · exact wf_ite (wf_foldl (fun _ _ hs => wf_storeFlit hs) h) h
  · exact h

theorem wf_deliverHouse {q : Nat} {hd : SlotHeader} {fs : List Flit} (h : Memory.wf s = true) :
    Memory.wf (deliverHouse s q hd fs) = true := by
  unfold deliverHouse
  exact wf_ite (wf_pathBurst h) (wf_ite h h)

end Sys2Proof.Machine
end

section
/-! O60, the operations of Sys2Proof/Machine/Tables.lean: what they leave is in canonical form. -/
namespace Sys2Proof.Machine
variable {s : State}

theorem wf_sendVerdict {bt site gen result cause : Nat} (h : Memory.wf s = true) :
    Memory.wf (sendVerdict s bt site gen result cause) = true := by
  unfold sendVerdict
  exact wf_ctrlSendFrom (wf_ite (wf_dset h) h)

theorem wf_setShadow {bt : Nat} {hd : Shadow} (h : Memory.wf s = true) : Memory.wf (setShadow s bt hd) = true := by
  unfold setShadow
  exact wf_updBt h

theorem wf_takeHeader {bt : Nat} {src : BitVec 7} {fs : List Flit} (h : Memory.wf s = true) :
    Memory.wf (takeHeader s bt src fs) = true := by
  unfold takeHeader
  exact wf_ite (wf_sendVerdict (wf_bump h)) (wf_ite (wf_sendVerdict h) (wf_setShadow h))

theorem wf_takeRows {bt : Nat} {src : BitVec 7} {fs : List Flit} (h : Memory.wf s = true) : Memory.wf (takeRows s bt src fs) = true := by
  unfold takeRows
  exact wf_ite (wf_bump h) (wf_ite (wf_setShadow h) h)

@[simp] theorem wf_execTableHeaderSlot {bt : Fin 8} {src : BitVec 7} {fs : List Flit} (h : Memory.wf s = true) :
    keepsForm (execTableHeaderSlot bt src fs s) = true :=
  keepsForm_next (wf_takeHeader h)

@[simp] theorem wf_execTableRowsSlot {bt : Fin 8} {src : BitVec 7} {fs : List Flit} (h : Memory.wf s = true) :
    keepsForm (execTableRowsSlot bt src fs s) = true :=
  keepsForm_next (wf_takeRows h)

theorem wf_rejectWhole {hd : Shadow} (h : Memory.wf s = true) : Memory.wf (rejectWhole s hd) = true := by
  unfold rejectWhole
  exact wf_overNats (fun _ _ hs => wf_ite (wf_setShadow hs) hs) h

theorem wf_doTableChecked {bt : Nat} (h : Memory.wf s = true) : Memory.wf (doTableChecked s bt) = true := by
  unfold doTableChecked
  exact wf_ite h (wf_ite (wf_sendVerdict (wf_setShadow h)) (wf_sendVerdict (wf_rejectWhole (wf_setShadow (wf_ite h (wf_bump h))))))

@[simp] theorem wf_execTableChecked {bt : Fin 8} (h : Memory.wf s = true) : keepsForm (execTableChecked bt s) = true :=
  keepsForm_next (wf_doTableChecked h)

theorem wf_doTableSwap {bt : Nat} {src : BitVec 7} {gen : BitVec 8} {t : Word} (h : Memory.wf s = true) :
    Memory.wf (doTableSwap s bt src gen t) = true := by
  unfold doTableSwap
  exact wf_ite h (wf_ite (wf_raise (wf_updBt (wf_sendVerdict h))) (wf_ite (wf_setShadow h) (wf_raise (wf_updBt (wf_sendVerdict h)))))

@[simp] theorem wf_execTableSwap {bt : Fin 8} {src : BitVec 7} {gen : BitVec 8} {t : Word} (h : Memory.wf s = true) :
    keepsForm (execTableSwap bt src gen t s) = true :=
  keepsForm_next (wf_doTableSwap h)

theorem wf_clearShadow {bt : Nat} (h : Memory.wf s = true) : Memory.wf (clearShadow s bt) = true := by
  unfold clearShadow
  exact wf_setShadow h

theorem wf_doTableClear {src : BitVec 7} {gen : BitVec 8} {owner : BitVec 7} (h : Memory.wf s = true) :
    Memory.wf (doTableClear s src gen owner) = true := by
  unfold doTableClear
  exact wf_overNats (fun _ _ hs => wf_ite (wf_ite (wf_clearShadow hs) hs) (wf_ite (wf_clearShadow hs) hs)) h

@[simp] theorem wf_execTableClear {src : BitVec 7} {seq : BitVec 32} {gen : BitVec 8} {owner : BitVec 7} (h : Memory.wf s = true) :
    keepsForm (execTableClear src seq gen owner s) = true :=
  keepsForm_next (wf_ite (wf_doTableClear (wf_ctrlTakeAll (wf_sigArrive h))) (wf_ctrlTakeAll (wf_sigArrive h)))

theorem wf_deliverHouseSlot {q : Nat} {hd : SlotHeader} {fs : List Flit} (h : Memory.wf s = true) :
    Memory.wf (deliverHouseSlot s q hd fs) = true := by
  unfold deliverHouseSlot
  exact wf_ite (wf_ite (wf_takeHeader h) (wf_takeRows h)) (wf_deliverHouse h)

theorem wf_breakPath {sl q : Nat} {sender : Option Nat} {read : Option (SlotHeader × List Flit)} (h : Memory.wf s = true) :
    Memory.wf (breakPath s sl q sender read) = true := by
  unfold breakPath
  split
  · exact wf_ite (wf_breakStream h) h
  · exact h

theorem wf_doSlotBurst {q : Nat} {bits : BitVec 14336} (h : Memory.wf s = true) : Memory.wf (doSlotBurst s q bits) = true := by
  unfold doSlotBurst
  extract_lets s1 sl sender
  have h1 : Memory.wf s1 = true := h
  clear_value s1 sender
  refine wf_ite h1 ?_
  split
  · exact wf_breakPath (wf_discardSlot h1)
  · refine wf_ite (wf_breakPath (wf_discardSlot h1)) ?_
    extract_lets hd s2
    have h2 : Memory.wf s2 = true := by
      dsimp only [s2]
      split
      · exact wf_countCorrected h1
      · exact h1
    clear_value s2
    split
    · exact wf_breakPath (wf_discardSlot h2)
    · exact wf_ite (wf_deliverFlow h2) (wf_ite (wf_deliverHouseSlot h2) h2)

theorem wf_nameChange {t : Word} {c : Change} {now : State → State} (h : Memory.wf s = true)
    (hnow : ∀ u, Memory.wf u = true → Memory.wf (now u) = true) : Memory.wf (nameChange s t c now) = true :=
  wf_ite (hnow s h) h

theorem wf_raisePortFail {p cond : Nat} (h : Memory.wf s = true) : Memory.wf (raisePortFail s p cond) = true := by
  unfold raisePortFail
  exact wf_raise h

theorem wf_excludeRecord {p : Nat} {rx : Bool} (h : Memory.wf s = true) : Memory.wf (excludeRecord s p rx) = true := by
  unfold excludeRecord
  exact wf_queueRecord h

theorem wf_excludeLine {p : Nat} {rx : Bool} {line : Nat} (h : Memory.wf s = true) : Memory.wf (excludeLine s p rx line) = true := by
  unfold excludeLine
  exact wf_ite h (wf_ite (wf_raisePortFail (wf_excludeRecord (wf_bump (wf_setPort h)))) (wf_excludeRecord (wf_bump (wf_setPort h))))

theorem wf_endStepAt {p : Nat} {rx : Bool} (h : Memory.wf s = true) : Memory.wf (endStepAt s p rx) = true := h

theorem wf_applyExclude {p : Nat} {rx : Bool} {line : Nat} (h : Memory.wf s = true) : Memory.wf (applyExclude s p rx line) = true := by
  unfold applyExclude
  extract_lets held cal s1 s2
  clear_value held
  have h1 : Memory.wf s1 = true := wf_excludeLine h
  have h2 : Memory.wf s2 = true := by
    dsimp only [s2]
    split
    · exact wf_ite (wf_excludeLine h1) h1
    · exact h1
  exact wf_ite (wf_endStepAt h2) h2

@[simp] theorem wf_execLaneExcludeClear {p : Fin 366} (h : Memory.wf s = true) : keepsForm (execLaneExcludeClear p s) = true :=
  keepsForm_next (wf_excludeRecord (wf_excludeRecord (wf_updPort h)))

theorem wf_doLineMarginal {q line : Nat} (h : Memory.wf s = true) : Memory.wf (doLineMarginal s q line) = true := by
  unfold doLineMarginal
  exact wf_foldl (fun _ _ hs' => wf_ite (wf_raise hs') hs') (wf_ite (wf_raise h) h)

@[simp] theorem wf_execLineMarginal {q : Fin 366} {line : Fin 36} (h : Memory.wf s = true) : keepsForm (execLineMarginal q line s) = true :=
  keepsForm_next (wf_doLineMarginal h)

theorem wf_doUncorrLimit {q : Nat} (h : Memory.wf s = true) : Memory.wf (doUncorrLimit s q) = true := by
  unfold doUncorrLimit
  exact wf_foldl (fun _ _ hs' => wf_ite (wf_raisePortFail hs') hs') (wf_ite (wf_raisePortFail h) h)

@[simp] theorem wf_execUncorrFrameLimit {q : Fin 366} (h : Memory.wf s = true) : keepsForm (execUncorrFrameLimit q s) = true :=
  keepsForm_next (wf_doUncorrLimit h)

theorem wf_doCellFailure {bt i : Nat} (h : Memory.wf s = true) : Memory.wf (doCellFailure s bt i) = true := by
  unfold doCellFailure
  exact wf_ite (wf_foldl (fun _ _ hs => wf_raisePortFail hs) (wf_raise (wf_updBt h))) (wf_schedule (wf_raise h))

@[simp] theorem wf_execCellFailure {bt : Fin 8} {i : Fin 512} (h : Memory.wf s = true) : keepsForm (execCellFailure bt i s) = true :=
  keepsForm_next (wf_doCellFailure h)

theorem wf_dropUnlit {bt : Nat} {entries : Tbl (BitVec 32)} (h : Memory.wf s = true) : Memory.wf (dropUnlit s bt entries) = true := by
  unfold dropUnlit
  exact wf_overNats (fun _ _ hs => wf_updStack hs (fun _ hst => hst)) (wf_overNats (fun _ _ hs => wf_setDie hs) h)

theorem wf_tilePortsFail {bt : Nat} {ps : List Nat} (h : Memory.wf s = true) : Memory.wf (tilePortsFail s bt ps) = true := by
  unfold tilePortsFail
  dsimp only
  split
  · exact wf_setBt h
  · split
    · exact wf_setBt h
    · split
      · exact wf_sendVerdict (wf_setBt (wf_ite (wf_dset h) (wf_bump (wf_dset h))))
      · exact wf_ite (wf_dropUnlit (wf_setBt (wf_dset h))) (wf_setBt (wf_dset h))

theorem wf_lightPortsFail {ps : List Nat} (h : Memory.wf s = true) : Memory.wf (lightPortsFail s ps) = true := by
  unfold lightPortsFail
  refine wf_overNats (fun _ _ hs => wf_ite (wf_stackFail hs) hs) ?_
  exact wf_overNats (fun _ _ hs => wf_tilePortsFail hs) (wf_foldl (fun _ _ hs => wf_updPort hs) h)

theorem wf_applySwap {bt : Nat} (h : Memory.wf s = true) : Memory.wf (applySwap s bt) = true := by
  unfold applySwap
  exact wf_ite (wf_dropUnlit (wf_setBt (wf_dset h))) h

theorem wf_applyBlend (h : Memory.wf s = true) : Memory.wf (applyBlend s) = true := by
  unfold applyBlend
  exact wf_ite h (wf_ite (wf_overNats (fun _ _ hs => wf_updBt hs) h) h)

@[simp] theorem wf_execHouseBlendChange (h : Memory.wf s = true) : keepsForm (execHouseBlendChange s) = true :=
  keepsForm_next (wf_ite (wf_applyBlend h) h)

theorem wf_doLoadTimeout {cd : Nat} {tag : BitVec 10} (h : Memory.wf s = true) : Memory.wf (doLoadTimeout s cd tag) = true := by
  unfold doLoadTimeout
  dsimp only
  split
  · exact h
  · exact wf_ite h (wf_bumpFree (wf_finishReq (wf_foldl (fun _ _ hs' => wf_landLines hs') h)))

@[simp] theorem wf_execLoadReqTimeout {cd : Fin 16} {tag : BitVec 10} (h : Memory.wf s = true) :
    keepsForm (execLoadReqTimeout cd tag s) = true :=
  keepsForm_next (wf_ite (wf_doLoadTimeout h) h)

theorem wf_doFlowTimeout {cd t flow : Nat} (h : Memory.wf s = true) : Memory.wf (doFlowTimeout s cd t flow) = true := by
  unfold doFlowTimeout
  dsimp only
  split
  · split
    · exact h
    · refine wf_ite h (wf_bumpFree (wf_updTile (wf_setDie ?_) (fun _ htl => wf_updXfer htl)))
      split
      · exact wf_foldl (fun _ _ hs' => wf_adapterWrite hs') h
      · exact h
  · exact h

@[simp] theorem wf_execFlowTransferTimeout {cd : Fin 16} {t : Fin 64} {flow : BitVec 16} (h : Memory.wf s = true) :
    keepsForm (execFlowTransferTimeout cd t flow s) = true :=
  keepsForm_next (wf_ite (wf_doFlowTimeout h) h)

end Sys2Proof.Machine
end

section
/-! O60, the operations of Sys2Proof/Machine/Dma.lean: what they leave is in canonical form. -/
namespace Sys2Proof.Machine
variable {s : State}

theorem wf_writeDmaLen {t : Tile} {v : Word} (ht : Tile.wf t = true) : Tile.wf (writeDmaLen t v) = true := by
  unfold writeDmaLen
  exact wf_ite ht ht

@[simp] theorem wf_execDmaLen {cd : Fin 16} {t : Fin 64} {v : Word} (h : Memory.wf s = true) : keepsForm (execDmaLen cd t v s) = true :=
  keepsForm_next (wf_ite (wf_updTile h (fun _ hx => wf_writeDmaLen hx)) h)

theorem wf_copyLine {ctr now : Nat} {t0 : Tile} {src dst : Bool × Nat} {free : Bool} {t : Tile} {i : Nat} (ht : Tile.wf t = true) :
    Tile.wf (copyLine ctr now t0 src dst free t i) = true := by
  unfold copyLine
  exact wf_tileWrite ht

theorem wf_doCopyDone {k : Nat} (h : Memory.wf s = true) : Memory.wf (doCopyDone s k) = true := by
  unfold doCopyDone
  extract_lets t
  split
  · exact h
  · extract_lets t1
    have h1 : t1.wf = true := wf_tileAt (s := s) (k := k) h
    clear_value t1
    split
    · exact wf_setTile h h1
    · split
      · extract_lets s1 t2
        have hs : Memory.wf s1 = true := wf_readEffects (wf_setTile h h1)
        have h2 : t2.wf = true := wf_tileAt hs
        exact wf_bumpFree (wf_setTile hs (wf_foldl (fun _ _ ht => wf_copyLine ht) h2))
      · exact wf_setTile h h1

@[simp] theorem wf_execDmaCopyDone {cd : Fin 16} {t : Fin 64} (h : Memory.wf s = true) : keepsForm (execDmaCopyDone cd t s) = true :=
  keepsForm_next (wf_ite (wf_doCopyDone h) h)

theorem wf_wakeDeep {n : Nat} (h : Memory.wf s = true) : Memory.wf (wakeDeep s n) = true :=
  wf_overNats (fun _ _ hs => wf_updTile hs (fun _ ht => wf_tile_deep ht (wf_store_empty rfl))) h

@[simp] theorem wf_execDeepStoreWake {n : Fin 16} (h : Memory.wf s = true) : keepsForm (execDeepStoreWake n s) = true :=
  keepsForm_next (wf_ite (wf_setDom (wf_wakeDeep h)) h)

end Sys2Proof.Machine
end

section
/-! O60, the operations of Sys2Proof/Machine/Xfer.lean: what they leave is in canonical form. -/
namespace Sys2Proof.Machine
variable {s : State}

theorem wf_beginXfer {k flow : Nat} {x : Transfer} (h : Memory.wf s = true) : Memory.wf (beginXfer s k flow x) = true := by
  unfold beginXfer
  exact wf_updTile h (fun _ ht => wf_setFlow ht)

theorem wf_bufEffects {k line n : Nat} (h : Memory.wf s = true) : Memory.wf (bufEffects s k line n) = true := by
  unfold bufEffects
  exact wf_readEffects h

theorem wf_txGo {k flow fuel line : Nat} {items : List TxFlit} (h : Memory.wf s = true) :
    Memory.wf (txGo k flow fuel s line items) = true := by
  induction fuel generalizing s line items with
  | zero => exact h
  | succ fuel ih =>
    unfold txGo
    split
    · exact h
    · exact ih (wf_meshSend h)

theorem wf_txWrite {k flow line : Nat} {items : List TxFlit} (h : Memory.wf s = true) : Memory.wf (txWrite s k flow line items) = true := by
  unfold txWrite
  exact wf_txGo h

theorem wf_addUnit {u : RemoteUnit} (h : Memory.wf s = true) : Memory.wf (addUnit s u) = true := by
  unfold addUnit
  exact wf_pathSend h

theorem wf_unitEnded {u : RemoteUnit} {bits : BitVec 4} (h : Memory.wf s = true) : Memory.wf (unitEnded s u bits).2 = true := by
  unfold unitEnded
  exact wf_updTile h (fun _ ht => wf_updXfer ht)

theorem wf_startRemote {k : Nat} {d : FlowDesc} {p : Part} {r : Resolved} {x : Transfer} (h : Memory.wf s = true) :
    Memory.wf (startRemote s k d p r x) = true := by
  unfold startRemote
  dsimp only
  split
  · exact wf_beginXfer h
  · exact wf_bumpFree (wf_foldl (fun _ _ hs => wf_addUnit hs) (wf_beginXfer (wf_ite h (wf_bufEffects h))))

theorem wf_lostResults {k ret n : Nat} {fs : List Flit} (h : Memory.wf s = true) : Memory.wf (lostResults s k ret n fs) = true := by
  unfold lostResults
  split
  · exact h
  · exact wf_adapterWrite h

theorem wf_lostLocal {k : Nat} {d : FlowDesc} {p : Part} {a : Nat} {x : Transfer} (h : Memory.wf s = true) :
    Memory.wf (lostLocal s k d p a x) = true := by
  unfold lostLocal
  refine wf_refuseAddr (wf_bumpFree (wf_ite (wf_deliverLines (wf_beginXfer h)) ?_))
  exact wf_ite (wf_lostResults (wf_bufEffects (wf_beginXfer h))) (wf_beginXfer h)

theorem wf_lostRecords {cd : Nat} {r : DieReq} {unsent : List TxFlit} (h : Memory.wf s = true) :
    Memory.wf (lostRecords s cd r unsent) = true := by
  unfold lostRecords
  dsimp only
  split
  · split
    · exact h
    · exact wf_ite (wf_ite h (wf_setDie h)) (wf_adapterWrite (wf_ite h (wf_setDie h)))
  · exact h

theorem wf_lostShare {n cd : Nat} {r : DieReq} (h : Memory.wf s = true) : Memory.wf (lostShare n cd s r) = true := by
  unfold lostShare
  extract_lets mds pos d unsent r1 s1 s2 s3
  have h2 : Memory.wf s2 = true := wf_lostRecords (wf_setDie h)
  have h3 : Memory.wf s3 = true := wf_ite (wf_foldl (fun _ _ hs => wf_landLines hs) h2) h2
  exact wf_bumpFree (wf_ite (wf_finishReq h3) h3)

theorem wf_applySetLost {n : Nat} (h : Memory.wf s = true) : Memory.wf (applySetLost s n) = true := by
  unfold applySetLost
  exact wf_ite h (wf_overNats (fun _ _ hs => wf_foldl (fun _ _ hs => wf_lostShare hs) hs) (wf_giveUpSet h))

theorem wf_startLocal {k : Nat} {d : FlowDesc} {p : Part} {r : Resolved} {x : Transfer} (h : Memory.wf s = true) :
    Memory.wf (startLocal s k d p r x) = true := by
  unfold startLocal
  refine wf_ite (wf_refuseAddr (wf_beginXfer h)) ?_
  exact wf_ite (wf_lostLocal h) (wf_bumpFree (wf_issueReq (wf_txWrite (wf_beginXfer (wf_ite h (wf_bufEffects h))))))

theorem wf_startSend {k : Nat} {d : FlowDesc} {p : Part} {x : Transfer} (h : Memory.wf s = true) :
    Memory.wf (startSend s k d p x) = true := by
  unfold startSend
  exact wf_bumpFree (wf_txWrite (wf_beginXfer (wf_bufEffects h)))

theorem wf_startRecv {k : Nat} {d : FlowDesc} {p : Part} (h : Memory.wf s = true) : Memory.wf (startRecv s k d p) = true := by
  unfold startRecv
  exact wf_ite h (wf_updTile h (fun _ ht => wf_setFlow (wf_openRecv ht)))

theorem wf_startReduce {k : Nat} {d : FlowDesc} {p : Part} {x : Transfer} (h : Memory.wf s = true) :
    Memory.wf (startReduce s k d p x) = true := by
  unfold startReduce
  dsimp only
  split
  · exact wf_beginXfer h
  · exact wf_foldl (fun _ _ hs => wf_meshSend hs) (wf_bumpFree (wf_beginXfer (wf_bufEffects h)))

theorem wf_doDmaFlow {k flow : Nat} (h : Memory.wf s = true) : Memory.wf (doDmaFlow s k flow) = true := by
  unfold doDmaFlow
  split
  · exact wf_updTile h (fun _ ht => ht)
  · dsimp only
    split
    · exact wf_startRecv h
    · split
      · exact h
      · split
        · exact wf_startSend h
        · exact wf_startReduce h
        · exact wf_updTile h (fun _ ht => ht)
        · split
          · exact wf_beginXfer h
          · exact wf_ite (wf_beginXfer h) (wf_ite (wf_startRemote h) (wf_startLocal h))

@[simp] theorem wf_execDmaFlow {cd : Fin 16} {t : Fin 64} {v : Word} (h : Memory.wf s = true) : keepsForm (execDmaFlow cd t v s) = true :=
  keepsForm_next (wf_ite (wf_doDmaFlow h) h)

theorem wf_doXferComplete {k flow : Nat} (h : Memory.wf s = true) : Memory.wf (doXferComplete s k flow) = true := by
  unfold doXferComplete
  split
  · exact h
  · dsimp only
    split
    · exact h
    · exact wf_ite (wf_setTile (wf_setDie h) (wf_ite (wf_localIrq (wf_setFlow (wf_tileAt h))) (wf_setFlow (wf_tileAt h)))) h

@[simp] theorem wf_execFlowTransferComplete {cd : Fin 16} {t : Fin 64} {flow : BitVec 16} (h : Memory.wf s = true) :
    keepsForm (execFlowTransferComplete cd t flow s) = true :=
  keepsForm_next (wf_ite (wf_doXferComplete h) h)

end Sys2Proof.Machine
end

section
/-! O60, the operations of Sys2Proof/Machine/Sync.lean: what they leave is in canonical form. -/
namespace Sys2Proof.Machine
variable {s : State}

theorem wf_syncMisuse {site block g e : Nat} (h : Memory.wf s = true) : Memory.wf (syncMisuse s site block g e) = true := by
  unfold syncMisuse
  exact wf_raise h

theorem wf_sendArrive {cd g : Nat} (h : Memory.wf s = true) : Memory.wf (sendArrive s cd g) = true := by
  unfold sendArrive
  split
  · exact h
  · exact wf_ite (wf_emit (wf_setDie h)) h

theorem wf_doSyncArrive {k g : Nat} (h : Memory.wf s = true) : Memory.wf (doSyncArrive s k g) = true := by
  unfold doSyncArrive
  exact wf_ite (wf_syncMisuse h) (wf_ite h (wf_sendArrive (wf_setTile h (wf_tile_kept (wf_tileAt h) rfl))))

@[simp] theorem wf_execSyncArrive {cd : Fin 16} {t : Fin 64} {v : Word} (h : Memory.wf s = true) :
    keepsForm (execSyncArrive cd t v s) = true :=
  keepsForm_next (wf_ite (wf_doSyncArrive h) h)

theorem wf_doBarrierArrive {cd src g e : Nat} (h : Memory.wf s = true) : Memory.wf (doBarrierArrive s cd src g e) = true := by
  unfold doBarrierArrive
  split
  · exact h
  · exact wf_ite h (wf_ite (wf_foldl (fun _ _ hs => wf_emit hs) (wf_setDie h)) (wf_setDie h))

@[simp] theorem wf_execBarrierArrive {cd : Fin 16} {src : BitVec 7} {g : BitVec 8} {e : BitVec 32} (h : Memory.wf s = true) :
    keepsForm (execBarrierArrive cd src g e s) = true :=
  keepsForm_next (wf_ite (wf_doBarrierArrive (wf_sigArrive h)) h)

theorem wf_doBarrierRelease {cd g e : Nat} (h : Memory.wf s = true) : Memory.wf (doBarrierRelease s cd g e) = true := by
  unfold doBarrierRelease
  split
  · exact h
  · exact wf_foldl (fun _ _ hs => wf_updTile hs (fun _ ht => wf_ite (wf_ite (wf_localIrq ht) ht) ht)) h

@[simp] theorem wf_execBarrierRelease {cd : Fin 16} {src : BitVec 7} {g : BitVec 8} {e : BitVec 32} (h : Memory.wf s = true) :
    keepsForm (execBarrierRelease cd src g e s) = true :=
  keepsForm_next (wf_ite (wf_doBarrierRelease (wf_sigArrive h)) h)

theorem wf_sendFlag {k op : Nat} {v : Word} (h : Memory.wf s = true) : Memory.wf (sendFlag s k op v) = true := by
  unfold sendFlag
  dsimp only
  split
  · exact h
  · exact wf_emit h

@[simp] theorem wf_execFlagValue {cd : Fin 16} {t : Fin 64} {v : Word} (h : Memory.wf s = true) :
    keepsForm (execFlagValue cd t v s) = true :=
  keepsForm_next (wf_ite (wf_sendFlag h) h)

@[simp] theorem wf_execFlagAddWrite {cd : Fin 16} {t : Fin 64} {v : Word} (h : Memory.wf s = true) :
    keepsForm (execFlagAddWrite cd t v s) = true :=
  keepsForm_next (wf_ite (wf_sendFlag h) h)

theorem wf_doFlagWrite {cd f op : Nat} {v : Word} (h : Memory.wf s = true) : Memory.wf (doFlagWrite s cd f op v) = true := by
  unfold doFlagWrite
  split
  · exact h
  · exact wf_ite h (wf_foldl (fun _ _ hs => wf_emit hs) (wf_setDie h))

@[simp] theorem wf_execFlagWrite {cd : Fin 16} {src : BitVec 7} {f : BitVec 12} {op : BitVec 4} {v : Word} (h : Memory.wf s = true) :
    keepsForm (execFlagWrite cd src f op v s) = true :=
  keepsForm_next (wf_ite (wf_doFlagWrite (wf_sigArrive h)) h)

theorem wf_doFlagNotify {cd f : Nat} {v : Word} (h : Memory.wf s = true) : Memory.wf (doFlagNotify s cd f v) = true := by
  unfold doFlagNotify
  dsimp only
  split
  · exact wf_setDie h
  · exact wf_foldl (fun _ _ hs => wf_updTile hs (fun _ ht => wf_ite (wf_localIrq ht) ht)) (wf_setDie h)

@[simp] theorem wf_execFlagNotify {cd : Fin 16} {src : BitVec 7} {f : BitVec 12} {v : Word} (h : Memory.wf s = true) :
    keepsForm (execFlagNotify cd src f v s) = true :=
  keepsForm_next (wf_ite (wf_doFlagNotify (wf_sigArrive h)) h)

end Sys2Proof.Machine
end

section
/-! O60, the operations of Sys2Proof/Machine/Rings.lean: what they leave is in canonical form. -/
namespace Sys2Proof.Machine
variable {s : State}

theorem wf_setQp {q : Nat} {v : QpSt} (h : Memory.wf s = true) : Memory.wf (setQp s q v) = true := h

theorem wf_setRing {r : Nat} {v : RingSt} (h : Memory.wf s = true) : Memory.wf (setRing s r v) = true := h

theorem wf_hostError {port q code : Nat} (h : Memory.wf s = true) : Memory.wf (hostError s port q code) = true := by
  unfold hostError
  exact wf_raise h

theorem wf_wireRequest {q : Nat} {r : QpReq} (h : Memory.wf s = true) : Memory.wf (wireRequest s q r) = true := by
  unfold wireRequest
  exact wf_ite h (wf_ite (wf_setQp h) (wf_emit h))

theorem wf_wireHeld {q : Nat} (h : Memory.wf s = true) : Memory.wf (wireHeld s q) = true := by
  unfold wireHeld
  split
  · exact wf_ite (wf_wireRequest (wf_setQp h)) h
  · exact h

theorem wf_pumpQp {q : Nat} (h : Memory.wf s = true) : Memory.wf (pumpQp s q) = true := by
  unfold pumpQp
  dsimp only
  split
  · exact wf_wireRequest (wf_setQp h)
  · exact h

theorem wf_queueRequest {q : Nat} {r : QpReq} (h : Memory.wf s = true) : Memory.wf (queueRequest s q r) = true := by
  unfold queueRequest
  exact wf_pumpQp (wf_setQp h)

theorem wf_recordKept {ring n : Nat} (h : Memory.wf s = true) : Memory.wf (recordKept s ring n) = true := by
  unfold recordKept
  exact wf_hostError (wf_setRing h)

theorem wf_sendBody {ring : Nat} (h : Memory.wf s = true) : Memory.wf (sendBody s ring) = true := by
  unfold sendBody
  dsimp only
  split
  · exact h
  · exact wf_queueRequest h

theorem wf_recordsKept {ring : Nat} (h : Memory.wf s = true) : Memory.wf (recordsKept s ring) = true := by
  unfold recordsKept
  exact wf_foldl (fun _ _ hs => wf_recordKept hs) h

theorem wf_pairRecordsKept {q : Nat} (h : Memory.wf s = true) : Memory.wf (pairRecordsKept s q) = true := by
  unfold pairRecordsKept
  exact wf_ite (wf_overNats (fun _ _ hs => wf_ite (wf_recordsKept hs) hs) h) h

theorem wf_qpFail {q code : Nat} (h : Memory.wf s = true) : Memory.wf (qpFail s q code) = true := by
  unfold qpFail
  exact wf_ite h (wf_pairRecordsKept (wf_ite (wf_hostError (wf_hostDrain (wf_setQp h))) (wf_hostDrain (wf_setQp h))))

theorem wf_deliverRecord {ring n : Nat} {bs : List Byte} (h : Memory.wf s = true) : Memory.wf (deliverRecord s ring n bs) = true := by
  unfold deliverRecord
  dsimp only
  split
  · exact wf_setRing h
  · refine wf_ite (wf_setRing (wf_dramWrite (wf_dramWrite h))) ?_
    exact wf_ite (wf_recordKept (wf_setRing h)) (wf_ite (wf_sendBody (wf_setRing h)) (wf_setRing h))

theorem wf_hostBack (h : Memory.wf s = true) : Memory.wf (hostBack s) = true := by
  unfold hostBack
  exact wf_overNats (fun _ _ hs => wf_ite (wf_foldl (fun _ _ hs => wf_deliverRecord hs) (wf_setRing hs)) hs) h

theorem wf_doRecordAck {ring : Nat} (h : Memory.wf s = true) : Memory.wf (doRecordAck s ring) = true := by
  unfold doRecordAck
  dsimp only
  split
  · exact wf_ite (wf_sendBody (wf_setRing (wf_queueRequest h))) h
  · exact h

@[simp] theorem wf_execRecordWriteAck {ring : Fin 16} (h : Memory.wf s = true) : keepsForm (execRecordWriteAck ring s) = true :=
  keepsForm_next (wf_doRecordAck h)

theorem wf_endEntry {ring status detail restarts : Nat} {user end_ : Word} (h : Memory.wf s = true) :
    Memory.wf (endEntry s ring status detail restarts user end_) = true := by
  unfold endEntry
  extract_lets v n s1 s2 s3 s4 s5 s6
  have h3 : Memory.wf s3 = true := wf_dset (wf_bump (wf_setRing h))
  have h4 : Memory.wf s4 = true := wf_ite (wf_bump h3) h3
  have h5 : Memory.wf s5 = true := wf_ite (wf_bump h4) h4
  have h6 : Memory.wf s6 = true := wf_ite h5 (wf_raise h5)
  exact wf_deliverRecord h6

theorem wf_abortQueued {fuel ring a : Nat} (h : Memory.wf s = true) : Memory.wf (abortQueued fuel s ring a) = true := by
  induction fuel generalizing s with
  | zero => exact h
  | succ fuel ih => exact wf_ite h (ih (wf_endEntry h))

theorem wf_doRingConfig {r : Nat} {bs : List Byte} (h : Memory.wf s = true) : Memory.wf (doRingConfig s r bs).2 = true := by
  unfold doRingConfig
  extract_lets busy v _ s1
  have h1 : Memory.wf s1 = true := wf_setQp h
  split
  · exact h
  · exact wf_setRing h1

@[simp] theorem wf_execRingConfig {r : Fin 16} {bs : List Byte} (h : Memory.wf s = true) : keepsForm (execRingConfig r bs s) = true :=
  keepsForm_next (wf_doRingConfig h)

end Sys2Proof.Machine
end

section
/-! O60, the operations of Sys2Proof/Machine/Jobs.lean: what they leave is in canonical form. -/
namespace Sys2Proof.Machine
variable {s : State}

theorem wf_setJob {j : Job} (h : Memory.wf s = true) : Memory.wf (setJob s j) = true := h

theorem wf_queueTables {hd : Nat} {bts : List Nat} {gen : Nat} {head : List Byte} {es : Tbl (BitVec 32)} (h : Memory.wf s = true) :
    Memory.wf (queueTables s hd bts gen head es) = true := by
  unfold queueTables
  exact wf_setHouseQ h

theorem wf_dropTables {hd : Nat} (h : Memory.wf s = true) : Memory.wf (dropTables s hd) = true := by
  unfold dropTables
  exact wf_setHouseQ h

theorem wf_writeScratch {e : RingEntry} {im : Image} {v : VariantE} {binding : List Nat} (h : Memory.wf s = true) :
    Memory.wf (writeScratch s e im v binding) = true := by
  unfold writeScratch
  exact wf_bumpFree (wf_dramWrite (wf_overNats (fun _ _ hs' => wf_dramWrite hs') (wf_overNats (fun _ _ hs => wf_dramWrite hs) h)))

theorem wf_releaseShadow {hd : Nat} (h : Memory.wf s = true) : Memory.wf (releaseShadow s hd) = true := by
  unfold releaseShadow
  exact wf_foldl (fun _ _ hs => wf_ctrlSendFrom hs) (wf_dropTables h)

theorem wf_endJob {status detail : Nat} (h : Memory.wf s = true) : Memory.wf (endJob s status detail) = true := by
  unfold endJob
  split
  · exact h
  · dsimp only
    split
    · exact wf_abortQueued (wf_setRing (wf_endEntry (wf_kept (wf_releaseShadow h) rfl)))
    · exact wf_endEntry (wf_kept (wf_releaseShadow h) rfl)

theorem wf_finishJob {status detail : Nat} (h : Memory.wf s = true) : Memory.wf (finishJob s status detail) = true := by
  unfold finishJob
  split
  · exact h
  · exact wf_ite (wf_endJob (wf_setJob h)) (wf_setJob h)

theorem wf_goStart {swap : Bool} {gen : BitVec 8} (h : Memory.wf s = true) : Memory.wf (goStart s swap gen) = true := by
  unfold goStart
  split
  · exact h
  · exact wf_setJob (wf_ctrlSendFrom (wf_ite (wf_ctrlSendFrom h) h))

theorem wf_startLoading (h : Memory.wf s = true) : Memory.wf (startLoading s) = true := by
  unfold startLoading
  split
  · exact h
  · split
    · exact h
    · dsimp only
      split
      · exact wf_finishJob (wf_setJob h)
      · split
        · exact wf_goStart (wf_writeScratch (wf_setJob h))
        · split
          · exact wf_goStart (wf_writeScratch (wf_setJob h))
          · exact wf_setJob (wf_queueTables (wf_writeScratch (wf_setJob h)))

theorem wf_doJobTake (h : Memory.wf s = true) : Memory.wf (doJobTake s) = true := by
  unfold doJobTake
  refine wf_ite h ?_
  split
  · exact h
  · exact wf_ite h h

@[simp] theorem wf_execJobTake (h : Memory.wf s = true) : keepsForm (execJobTake s) = true := keepsForm_next (wf_doJobTake h)

theorem wf_doImageChecked (h : Memory.wf s = true) : Memory.wf (doImageChecked s) = true := by
  unfold doImageChecked
  split
  · exact h
  · refine wf_ite h ?_
    split
    · exact wf_endJob h
    · exact wf_startLoading (wf_setJob h)

@[simp] theorem wf_execImageChecked (h : Memory.wf s = true) : keepsForm (execImageChecked s) = true := keepsForm_next (wf_doImageChecked h)

theorem wf_doVerdict {hd bt gen result : Nat} {cause : Word} (h : Memory.wf s = true) :
    Memory.wf (doVerdict s hd bt gen result cause) = true := by
  unfold doVerdict
  split
  · exact h
  · split
    · exact h
    · split
      · exact wf_queueTables (wf_setJob h)
      · split
        · exact wf_ite (wf_finishJob h) (wf_releaseShadow (wf_setJob h))
        · exact wf_ite (wf_ite (wf_ite (wf_goStart (wf_setJob h)) (wf_setJob (wf_setJob h))) (wf_setJob h)) h

@[simp] theorem wf_execTableVerdict {hd : Fin 2} {bt : Fin 8} {seq : BitVec 32} {gen result : BitVec 8} {cause : Word}
  (h : Memory.wf s = true) :
    keepsForm (execTableVerdict hd bt seq gen result cause s) = true :=
  keepsForm_next (wf_doVerdict (wf_sigArrive h))

theorem wf_tileAtStart {t : Tile} (ht : Tile.wf t = true) : Tile.wf (tileAtStart t) = true := ht

theorem wf_bootDie {j : Job} {n : Nat} (h : Memory.wf s = true) : Memory.wf (bootDie j s n) = true := by
  unfold bootDie
  exact wf_overNats (fun _ _ hs => wf_bootLoad hs) (wf_bootLoad h)

theorem wf_applyJobStart (h : Memory.wf s = true) : Memory.wf (applyJobStart s) = true := by
  unfold applyJobStart
  split
  · exact h
  · split
    · exact h
    · split
      · exact h
      · refine wf_foldl (fun _ _ hs => wf_bootDie hs) ?_
        refine wf_setJob (wf_overNats (fun _ _ hs => wf_setDie hs) (wf_foldl (fun _ _ hs => ?_) (wf_dset h)))
        exact wf_ite hs (wf_updTile hs (fun _ ht => wf_tileAtStart ht))

@[simp] theorem wf_execJobStart {hd : Fin 2} {seq : BitVec 32} {variant gen : BitVec 8} {restarts : BitVec 16} {t scratch : Word}
  (h : Memory.wf s = true) :
    keepsForm (execJobStart hd seq variant gen restarts t scratch s) = true :=
  keepsForm_next (wf_ite (wf_applyJobStart (wf_sigArrive h)) (wf_schedule (wf_sigArrive h)))

theorem wf_stopDone (h : Memory.wf s = true) : Memory.wf (stopDone s) = true := by
  unfold stopDone
  split
  · exact h
  · split
    · exact h
    · split
      · exact wf_ite (wf_endJob (wf_setJob h)) (wf_setJob h)
      · exact wf_ite (wf_finishJob h) (wf_ite (wf_finishJob h) (wf_startLoading (wf_bump (wf_setJob h))))

theorem wf_beginStop {reason : Nat} {ending : Option (Nat × Nat × Bool)} {lossKind lossUnit : Nat} (h : Memory.wf s = true) :
    Memory.wf (beginStop s reason ending lossKind lossUnit) = true := by
  unfold beginStop
  split
  · exact h
  · dsimp only
    split
    · exact wf_ite (wf_setJob h) h
    · exact wf_ite (wf_ctrlSendFrom (wf_setJob h)) h
    · split
      · exact wf_ite (wf_setJob h) h
      · exact h
    · split
      · exact wf_ctrlSendFrom (wf_setJob (wf_ite (wf_releaseShadow h) (wf_dropTables h)))
      · exact wf_stopDone (wf_setJob (wf_ite (wf_releaseShadow h) (wf_dropTables h)))

theorem wf_endAny {reason status detail : Nat} (h : Memory.wf s = true) : Memory.wf (endAny s reason status detail) = true := by
  unfold endAny
  exact wf_beginStop h

theorem wf_jobLoss {kind unit : Nat} (h : Memory.wf s = true) : Memory.wf (jobLoss s kind unit) = true := by
  unfold jobLoss
  split
  · exact h
  · split
    · exact h
    · exact h
    · exact h
    · exact wf_ite h (wf_beginStop h)

@[simp] theorem wf_execSetLost {src : BitVec 7} {seq : BitVec 32} {set : Fin 4} {stack : Fin 24} {t : Word} (h : Memory.wf s = true) :
    keepsForm (execSetLost src seq set stack t s) = true := by
  unfold execSetLost
  extract_lets s1 r s2
  have hr : Memory.wf r.2 = true := wf_ctrlTakeAll (wf_sigArrive h)
  have h2 : Memory.wf s2 = true := wf_ite (wf_applySetLost hr) (wf_schedule hr)
  exact keepsForm_next (wf_ite (wf_ite (wf_jobLoss h2) h2) hr)

@[simp] theorem wf_execPortFailed {src : BitVec 7} {seq : BitVec 32} {p : Fin 366} {t : Word} (h : Memory.wf s = true) :
    keepsForm (execPortFailed src seq p t s) = true := by
  unfold execPortFailed
  extract_lets s1 r s2
  have hr : Memory.wf r.2 = true := wf_ctrlTakeAll (wf_sigArrive h)
  have h2 : Memory.wf s2 = true := wf_schedule (wf_bump hr)
  exact keepsForm_next (wf_ite (wf_ite (wf_jobLoss h2) h2) hr)

theorem wf_judgeExits (h : Memory.wf s = true) : Memory.wf (judgeExits s) = true := by
  unfold judgeExits
  split
  · exact h
  · refine wf_ite h ?_
    split
    · exact wf_beginStop h
    · exact wf_ite (wf_setJob h) h

theorem wf_doTileBoot {k : Nat} (h : Memory.wf s = true) : Memory.wf (doTileBoot s k) = true := by
  unfold doTileBoot
  split
  · exact wf_ite h (wf_ite (wf_bumpFree (wf_beginStop h)) h)
  · exact wf_ite h (wf_ite (wf_beginStop h) (wf_ite h (wf_setJob (wf_updTile h (fun _ ht => ht)))))
  · exact h

@[simp] theorem wf_execTileBoot {cd : Fin 16} {t : Fin 64} (h : Memory.wf s = true) : keepsForm (execTileBoot cd t s) = true :=
  keepsForm_next (wf_ite (wf_doTileBoot h) h)

theorem wf_doJobRunning (h : Memory.wf s = true) : Memory.wf (doJobRunning s) = true := by
  unfold doJobRunning
  split
  · exact h
  · split
    · exact h
    · refine wf_judgeExits ?_
      split
      · split
        · exact wf_ite (wf_setJob h) (wf_setJob (wf_queueTables (wf_setJob h)))
        · exact wf_setJob h
      · exact wf_setJob h

@[simp] theorem wf_execJobRunning (h : Memory.wf s = true) : keepsForm (execJobRunning s) = true := keepsForm_next (wf_doJobRunning h)

theorem wf_doJobExit {k code : Nat} (h : Memory.wf s = true) : Memory.wf (doJobExit s k code) = true := by
  unfold doJobExit
  split
  · exact wf_ite (wf_judgeExits (wf_setJob h)) h
  · exact h

@[simp] theorem wf_execJobExit {cd : Fin 16} {t : Fin 64} {v : Word} (h : Memory.wf s = true) : keepsForm (execJobExit cd t v s) = true :=
  keepsForm_next (wf_ite (wf_doJobExit h) h)

theorem wf_stopReq {cd : Nat} {r : DieReq} (h : Memory.wf s = true) : Memory.wf (stopReq cd s r) = true := by
  unfold stopReq
  exact wf_ite h (wf_ite (wf_finishReq (wf_setDie h)) (wf_setDie h))

theorem wf_unqueueUnit {u : RemoteUnit} (h : Memory.wf s = true) : Memory.wf (unqueueUnit s u) = true := by
  unfold unqueueUnit
  exact wf_ite (wf_setLink h) h

theorem wf_stopUnits {mine : RemoteUnit → Bool} (h : Memory.wf s = true) : Memory.wf (stopUnits s mine) = true := by
  unfold stopUnits
  exact wf_foldl (fun _ _ hs => wf_unitEnded (wf_unqueueUnit hs)) h

theorem wf_stopDie {owner site : Nat} (h : Memory.wf s = true) : Memory.wf (stopDie s owner site) = true := by
  unfold stopDie
  refine wf_ctrlSendFrom ?_
  split
  · exact wf_stopUnits (wf_foldl (fun _ _ hs => wf_stopReq hs) (wf_foldl (fun _ _ hs => wf_updTile hs (fun _ ht => ht)) h))
  · exact wf_stopUnits h
  · exact h

@[simp] theorem wf_execJobStop {hd : Fin 2} {seq : BitVec 32} {reason : BitVec 8} (h : Memory.wf s = true) :
    keepsForm (execJobStop hd seq reason s) = true :=
  keepsForm_next (wf_foldl (fun _ _ hs => wf_stopDie hs) (wf_sigArrive h))

theorem wf_doJobStopped {hd site : Nat} (h : Memory.wf s = true) : Memory.wf (doJobStopped s hd site) = true := by
  unfold doJobStopped
  split
  · exact h
  · split
    · exact h
    · exact wf_ite h (wf_ite (wf_stopDone (wf_setJob h)) (wf_setJob h))

@[simp] theorem wf_execJobStopped {hd : Fin 2} {seq : BitVec 32} {site : Fin 100} (h : Memory.wf s = true) :
    keepsForm (execJobStopped hd seq site s) = true :=
  keepsForm_next (wf_doJobStopped (wf_sigArrive h))

@[simp] theorem wf_execJobStopTimeout (h : Memory.wf s = true) : keepsForm (execJobStopTimeout s) = true := by
  unfold execJobStopTimeout
  refine keepsForm_next ?_
  split
  · exact wf_ite (wf_stopDone h) h
  · exact h

theorem wf_doJobDrained (h : Memory.wf s = true) : Memory.wf (doJobDrained s) = true := by
  unfold doJobDrained
  split
  · exact h
  · split
    · exact h
    · exact wf_ite (wf_ite (wf_endJob h) h) (wf_ite (wf_ite (wf_endJob h) h) h)

@[simp] theorem wf_execJobDrained (h : Memory.wf s = true) : keepsForm (execJobDrained s) = true := keepsForm_next (wf_doJobDrained h)

@[simp] theorem wf_execRunLimitExpiry (h : Memory.wf s = true) : keepsForm (execRunLimitExpiry s) = true := by
  unfold execRunLimitExpiry
  refine keepsForm_next ?_
  split
  · exact wf_ite (wf_endAny h) h
  · exact h

theorem wf_doTail {r v : Nat} (h : Memory.wf s = true) : Memory.wf (doTail s r v) = true := by
  unfold doTail
  exact wf_ite (wf_setRing h) (wf_bump h)

@[simp] theorem wf_execTail {r : Fin 16} {v : Word} (h : Memory.wf s = true) :
    keepsForm (execTail r v s) = true := keepsForm_next (wf_doTail h)

theorem wf_doAbort {r a : Nat} (h : Memory.wf s = true) : Memory.wf (doAbort s r a) = true := by
  unfold doAbort
  refine wf_ite ?_ (wf_bump h)
  dsimp only
  split
  · exact wf_ite (wf_endAny (wf_setRing (wf_setRing h))) (wf_abortQueued (wf_setRing h))
  · exact wf_abortQueued (wf_setRing h)

@[simp] theorem wf_execAbort {r : Fin 16} {a : Word} (h : Memory.wf s = true) :
    keepsForm (execAbort r a s) = true := keepsForm_next (wf_doAbort h)

end Sys2Proof.Machine
end

section
/-! O60, the operations of Sys2Proof/Machine/HostPorts.lean: what they leave is in canonical form. -/
namespace Sys2Proof.Machine
variable {s : State}

theorem wf_portSend {port : Nat} {o : HostOut} (h : Memory.wf s = true) : Memory.wf (portSend s port o) = true := by
  unfold portSend
  exact wf_ite h (wf_ite (wf_setHostPort h) (wf_emit h))

theorem wf_answer {q : Nat} {kind : RoceKind} {psn : BitVec 24} {data : List Byte} (h : Memory.wf s = true) :
    Memory.wf (answer s q kind psn data) = true := by
  unfold answer
  exact wf_ite (wf_portSend h) h

theorem wf_nak {q : Nat} {kind : RoceKind} {psn : BitVec 24} (h : Memory.wf s = true) : Memory.wf (nak s q kind psn) = true := by
  unfold nak
  exact wf_qpFail (wf_answer h)

theorem wf_nakCounted {q : Nat} {kind : RoceKind} {psn : BitVec 24} (h : Memory.wf s = true) :
    Memory.wf (nakCounted s q kind psn) = true := by
  unfold nakCounted
  exact wf_nak (wf_hostError (wf_bump h))

theorem wf_congest {q : Nat} {ce : Bool} (h : Memory.wf s = true) : Memory.wf (congest s q ce) = true := by
  unfold congest
  exact wf_ite (wf_answer (wf_bump h)) h

theorem wf_doWindow {w : Nat} {bs : List Byte} (h : Memory.wf s = true) : Memory.wf (doWindow s w bs).2 = true := by
  unfold doWindow
  split <;> exact h

@[simp] theorem wf_execWindow {w : Fin 256} {bs : List Byte} (h : Memory.wf s = true) : keepsForm (execWindow w bs s) = true :=
  keepsForm_next (wf_doWindow h)

theorem wf_doorbellWrite {va v : Nat} (h : Memory.wf s = true) : Memory.wf (doorbellWrite s va v) = true := by
  unfold doorbellWrite
  split
  · exact wf_doTail h
  · exact wf_doAbort h
  · exact wf_bump h
  · exact wf_bump h
  · exact h

theorem wf_updReq {q id : Nat} {f : HostReq → HostReq} (h : Memory.wf s = true) : Memory.wf (updReq s q id f) = true := by
  unfold updReq
  exact wf_setQp h

theorem wf_sendUnits {q : Nat} {r : HostReq} (h : Memory.wf s = true) : Memory.wf (sendUnits s q r) = true := by
  unfold sendUnits
  refine wf_foldl (fun _ _ hs => ?_) (wf_updReq h)
  split
  · exact wf_hostSend hs
  · exact hs

theorem wf_endReq {q id : Nat} (h : Memory.wf s = true) : Memory.wf (endReq s q id) = true := by
  unfold endReq
  exact wf_setQp h

theorem wf_hostRefuse {q a : Nat} (h : Memory.wf s = true) : Memory.wf (hostRefuse s q a) = true := by
  unfold hostRefuse
  exact wf_raise h

theorem wf_beginReq {q : Nat} {r : HostReq} (h : Memory.wf s = true) : Memory.wf (beginReq s q r) = true := by
  unfold beginReq
  dsimp only
  split
  · exact wf_ite (wf_nakCounted h) (wf_nak h)
  · exact wf_answer (wf_endReq h)
  · exact wf_ite (wf_answer (wf_endReq h)) (wf_answer (wf_doorbellWrite (wf_endReq h)))
  · exact wf_ite (wf_answer (wf_setQp (wf_hostDrain h))) (wf_ite (wf_nakCounted (wf_hostRefuse h)) (wf_sendUnits (wf_updReq h)))
  · exact wf_ite (wf_nakCounted (wf_hostRefuse h)) (wf_sendUnits h)
  · exact wf_ite (wf_nakCounted (wf_hostRefuse h)) (wf_sendUnits h)

theorem wf_finishHost {q : Nat} {r : HostReq} (h : Memory.wf s = true) : Memory.wf (finishHost s q r) = true := by
  unfold finishHost
  dsimp only
  split
  · exact wf_ite (wf_nakCounted h) (wf_ite (wf_endReq (wf_answer h)) (wf_updReq (wf_answer h)))
  · exact wf_ite (wf_nakCounted h) (wf_ite (wf_nakCounted h) (wf_answer (wf_setQp (wf_endReq h))))
  · exact wf_ite (wf_nakCounted h) (wf_answer (wf_ite (wf_setRing (wf_endReq h)) (wf_endReq h)))

theorem wf_pumpPair {fuel q : Nat} (h : Memory.wf s = true) : Memory.wf (pumpPair fuel s q) = true := by
  induction fuel generalizing s with
  | zero => exact h
  | succ fuel ih =>
    unfold pumpPair
    dsimp only
    split
    · exact ih (wf_finishHost h)
    · split
      · exact ih (wf_beginReq h)
      · exact h

theorem wf_pumpPairs {q : Nat} (h : Memory.wf s = true) : Memory.wf (pumpPairs s q) = true := by
  unfold pumpPairs
  exact wf_foldl (fun _ _ hs => wf_pumpPair hs) (wf_pumpPair h)

theorem wf_takeReq {q : Nat} {r : HostReq} (h : Memory.wf s = true) : Memory.wf (takeReq s q r) = true := by
  unfold takeReq
  exact wf_pumpPairs (wf_setQp h)

theorem wf_takeHostAnswer {p : FabPacket} (h : Memory.wf s = true) : Memory.wf (takeHostAnswer s p) = true := by
  unfold takeHostAnswer
  exact wf_pumpPairs (wf_updReq h)

theorem wf_doQp {q : Nat} {bs : List Byte} (h : Memory.wf s = true) : Memory.wf (doQp s q bs).2 = true := by
  unfold doQp
  dsimp only
  split
  · exact wf_pumpPairs (wf_pairRecordsKept (wf_setQp (wf_hostDrain h)))
  · split
    · exact wf_setQp h
    · exact h

@[simp] theorem wf_execQp {q : Fin 4096} {bs : List Byte} (h : Memory.wf s = true) :
    keepsForm (execQp q bs s) = true := keepsForm_next (wf_doQp h)

theorem wf_advance {q n : Nat} (h : Memory.wf s = true) : Memory.wf (advance s q n) = true := by
  unfold advance
  exact wf_setQp h

theorem wf_refuse {q : Nat} {kind : RoceKind} {counted : Bool} {psn : BitVec 24} (h : Memory.wf s = true) :
    Memory.wf (refuse s q kind counted psn) = true := by
  unfold refuse
  exact wf_takeReq h

theorem wf_outOfOrder {q : Nat} (h : Memory.wf s = true) : Memory.wf (outOfOrder s q) = true := by
  unfold outOfOrder
  exact wf_ite h (wf_takeReq h)

theorem wf_writePart {q : Nat} {p : WritePkt} {va left : Nat} {key : BitVec 32} (h : Memory.wf s = true) :
    Memory.wf (writePart s q p va left key) = true := by
  unfold writePart
  exact wf_takeReq (wf_setQp (wf_hostFill (wf_advance h)))

theorem wf_doRdmaWrite {f : HostFrame} {q : Nat} {p : WritePkt} (h : Memory.wf s = true) : Memory.wf (doRdmaWrite s f q p) = true := by
  unfold doRdmaWrite
  dsimp only
  split
  · exact h
  · split
    · exact wf_answer h
    · exact wf_outOfOrder h
    · split
      · split
        · exact wf_refuse h
        · refine wf_ite ?_ (wf_ite (wf_refuse h) (wf_ite (wf_refuse h) (wf_writePart h)))
          exact wf_ite (wf_refuse h) (wf_ite (wf_takeReq (wf_advance h)) (wf_refuse h))
      · split
        · exact wf_refuse h
        · exact wf_ite (wf_refuse h) (wf_writePart h)

@[simp] theorem wf_execRdmaWrite {f : HostFrame} {q : Fin 4096} {p : WritePkt} {ce : Bool} (h : Memory.wf s = true) :
    keepsForm (execRdmaWrite f q p ce s) = true :=
  keepsForm_next (wf_doRdmaWrite (wf_congest h))

theorem wf_doRdmaRead {f : HostFrame} {q : Nat} {psn : BitVec 24} {va rkey len : Nat} (h : Memory.wf s = true) :
    Memory.wf (doRdmaRead s f q psn va rkey len) = true := by
  unfold doRdmaRead
  dsimp only
  split
  · exact h
  · split
    · exact wf_outOfOrder h
    · split
      · exact wf_refuse h
      · split
        · exact wf_ite (wf_refuse h) (wf_ite (wf_takeReq (wf_ite (wf_advance h) h)) (wf_refuse h))
        · exact wf_ite (wf_refuse h) (wf_ite (wf_refuse h) (wf_takeReq (wf_ite (wf_advance h) h)))

@[simp] theorem wf_execRdmaRead {f : HostFrame} {q : Fin 4096} {psn : BitVec 24} {va : Word} {rkey len : BitVec 32} {ce : Bool}
  (h : Memory.wf s = true) :
    keepsForm (execRdmaRead f q psn va rkey len ce s) = true :=
  keepsForm_next (wf_doRdmaRead (wf_congest h))

theorem wf_doSend {f : HostFrame} {q : Nat} {psn : BitVec 24} {data : List Byte} (h : Memory.wf s = true) :
    Memory.wf (doSend s f q psn data) = true := by
  unfold doSend
  refine wf_ite h ?_
  split
  · exact wf_answer h
  · exact wf_outOfOrder h
  · exact wf_ite (wf_refuse h) (wf_takeReq (wf_hostFill (wf_advance h)))

@[simp] theorem wf_execSend {f : HostFrame} {q : Fin 4096} {psn : BitVec 24} {data : List Byte} {ce : Bool} (h : Memory.wf s = true) :
    keepsForm (execSend f q psn data ce s) = true :=
  keepsForm_next (wf_doSend (wf_congest h))

theorem wf_doHostAtomic {f : HostFrame} {q : Nat} {psn : BitVec 24} {va rkey op : Nat} {opd cmp : Word} (h : Memory.wf s = true) :
    Memory.wf (doHostAtomic s f q psn va rkey op opd cmp) = true := by
  unfold doHostAtomic
  dsimp only
  split
  · exact h
  · split
    · exact wf_outOfOrder h
    · split
      · exact wf_answer h
      · exact h
    · split
      · exact wf_refuse h
      · split
        · exact wf_refuse h
        · refine wf_ite (wf_ite (wf_refuse h) (wf_refuse h)) ?_
          exact wf_ite (wf_refuse h) (wf_ite (wf_refuse h) (wf_takeReq (wf_hostFill (wf_advance h))))

@[simp] theorem wf_execFetchAdd {f : HostFrame} {q : Fin 4096} {psn : BitVec 24} {va : Word} {rkey : BitVec 32} {add : Word} {ce : Bool}
  (h : Memory.wf s = true) :
    keepsForm (execFetchAdd f q psn va rkey add ce s) = true :=
  keepsForm_next (wf_doHostAtomic (wf_congest h))

@[simp] theorem wf_execCmpSwap {f : HostFrame} {q : Fin 4096} {psn : BitVec 24} {va : Word} {rkey : BitVec 32} {cmp swap : Word} {ce :
  Bool} (h : Memory.wf s = true) :
    keepsForm (execCmpSwap f q psn va rkey cmp swap ce s) = true :=
  keepsForm_next (wf_doHostAtomic (wf_congest h))

@[simp] theorem wf_execInvalidRequest {f : HostFrame} {q : Fin 4096} {psn : BitVec 24} {answerable writeImm : Bool}
  (h : Memory.wf s = true) :
    keepsForm (execInvalidRequest f q psn answerable writeImm s) = true :=
  keepsForm_next (wf_ite (wf_refuse h) h)

theorem wf_doHostMemTimeout {q : Nat} (h : Memory.wf s = true) : Memory.wf (doHostMemTimeout s q) = true := by
  unfold doHostMemTimeout
  dsimp only
  split
  · exact h
  · split
    · exact h
    · exact wf_ite h (wf_bumpFree (wf_pumpPairs (wf_nakCounted (wf_ite h (wf_dramWrite h)))))

@[simp] theorem wf_execHostMemoryTimeout {q : Fin 4096} (h : Memory.wf s = true) : keepsForm (execHostMemoryTimeout q s) = true :=
  keepsForm_next (wf_doHostMemTimeout h)

theorem wf_retryRequest {q : Nat} {rnr : Bool} (h : Memory.wf s = true) : Memory.wf (retryRequest s q rnr) = true := by
  unfold retryRequest
  dsimp only
  split
  · exact h
  · exact wf_ite (wf_wireRequest (wf_setQp h)) (wf_qpFail h)

theorem wf_doRoceAck {f : HostFrame} {q : Nat} {psn : BitVec 24} {k : AckKind} (h : Memory.wf s = true) :
    Memory.wf (doRoceAck s f q psn k) = true := by
  unfold doRoceAck
  dsimp only
  split
  · exact h
  · split
    · exact h
    · refine wf_ite h ?_
      split
      · exact wf_pumpQp (wf_ite (wf_setQp h) (wf_setRing (wf_setQp h)))
      · exact wf_retryRequest h
      · exact wf_retryRequest h
      · exact wf_qpFail h

@[simp] theorem wf_execRoceAck {f : HostFrame} {q : Fin 4096} {psn : BitVec 24} {k : AckKind} (h : Memory.wf s = true) :
    keepsForm (execRoceAck f q psn k s) = true :=
  keepsForm_next (wf_doRoceAck h)

@[simp] theorem wf_execQpAckTimeout {q : Fin 4096} (h : Memory.wf s = true) : keepsForm (execQpAckTimeout q s) = true := by
  unfold execQpAckTimeout
  refine keepsForm_next ?_
  split
  · exact wf_ite (wf_retryRequest h) h
  · exact h

@[simp] theorem wf_execCnp {f : HostFrame} {q : Fin 4096} (h : Memory.wf s = true) : keepsForm (execCnp f q s) = true :=
  keepsForm_next (wf_ite (wf_bumpFree (wf_setQp h)) h)

theorem wf_ethSend {port : Nat} {kind : EthKind} {data : List Byte} (h : Memory.wf s = true) :
    Memory.wf (ethSend s port kind data) = true := by
  unfold ethSend
  exact wf_emit h

@[simp] theorem wf_execArp {f : HostFrame} {senderMac : BitVec 48} {senderIp targetIp : BitVec 32} (h : Memory.wf s = true) :
    keepsForm (execArp f senderMac senderIp targetIp s) = true :=
  keepsForm_next (wf_ite (wf_ethSend h) h)

@[simp] theorem wf_execNeighbourDiscovery {f : HostFrame} {source target : List Byte} (h : Memory.wf s = true) :
    keepsForm (execNeighbourDiscovery f source target s) = true :=
  keepsForm_next (wf_ite (wf_ethSend h) h)

@[simp] theorem wf_execIcmpEcho {f : HostFrame} {source dst payload : List Byte} (h : Memory.wf s = true) :
    keepsForm (execIcmpEcho f source dst payload s) = true :=
  keepsForm_next (wf_ite (wf_ethSend h) h)

theorem wf_doPfc {f : HostFrame} {prio : Nat} {pause : Bool} (h : Memory.wf s = true) : Memory.wf (doPfc s f prio pause) = true := by
  unfold doPfc
  refine wf_ite h ?_
  refine wf_ite (wf_setHostPort h) (wf_foldl (fun _ _ hs => wf_ite (wf_wireHeld hs) hs)
    (wf_foldl (fun _ _ hs => (wf_emit ?_)) (wf_setHostPort h)))
  exact hs

@[simp] theorem wf_execPfcFrame {f : HostFrame} {prio : Fin 8} {pause : Bool} (h : Memory.wf s = true) :
    keepsForm (execPfcFrame f prio pause s) = true :=
  keepsForm_next (wf_doPfc h)

@[simp] theorem wf_execPauseFrame {_f : HostFrame} (h : Memory.wf s = true) : keepsForm (execPauseFrame _f s) = true := keepsForm_next h

theorem wf_beginLink {port : Nat} (h : Memory.wf s = true) : Memory.wf (beginLink s port) = true := by
  unfold beginLink
  exact wf_setHostPort h

theorem wf_cageRead {c : Cage} (h : Memory.wf s = true) : Memory.wf (cageRead s c) = true := by
  unfold cageRead
  exact wf_setHostPort h

theorem wf_doBringup {c : Cage} (h : Memory.wf s = true) : Memory.wf (doBringup s c) = true := by
  unfold doBringup
  exact wf_ite h (wf_ite (wf_cageRead h) (wf_ite h (wf_cageRead (wf_beginLink h))))

@[simp] theorem wf_execHostLinkBringup {cage : Cage} (h : Memory.wf s = true) : keepsForm (execHostLinkBringup cage s) = true :=
  keepsForm_next (wf_doBringup h)

theorem wf_doLinkUp {port : Nat} {partner : BitVec 4} (h : Memory.wf s = true) : Memory.wf (doLinkUp s port partner) = true := by
  unfold doLinkUp
  dsimp only
  split
  · exact wf_ite (wf_setHostPort h) h
  · exact h

@[simp] theorem wf_execHostLinkUp {port : Fin 2} {modes : BitVec 4} (h : Memory.wf s = true) :
    keepsForm (execHostLinkUp port modes s) = true :=
  keepsForm_next (wf_doLinkUp h)

theorem wf_doPortDown {port : Nat} (h : Memory.wf s = true) : Memory.wf (doPortDown s port) = true := by
  unfold doPortDown
  exact wf_ite (wf_setHostPort h) h

@[simp] theorem wf_execFecLockLoss {port : Fin 2} (h : Memory.wf s = true) : keepsForm (execFecLockLoss port s) = true :=
  keepsForm_next (wf_doPortDown h)

theorem wf_bringupFailed {port : Nat} (h : Memory.wf s = true) : Memory.wf (bringupFailed s port) = true := by
  unfold bringupFailed
  exact wf_ite (wf_setHostPort h) h

theorem wf_hostClock (h : Memory.wf s = true) : Memory.wf (hostClock s) = true := by
  unfold hostClock
  exact wf_foldl (fun _ _ hs => wf_ite (wf_wireHeld (wf_setQp hs)) hs) (wf_bringupFailed (wf_bringupFailed h))

theorem wf_hostDieLost {n : Nat} (h : Memory.wf s = true) : Memory.wf (hostDieLost s n) = true := by
  unfold hostDieLost
  exact wf_pumpPairs (wf_foldl (fun _ _ hs => wf_ite (wf_qpFail hs) hs) (wf_setHostPort (wf_dropPaths h)))

end Sys2Proof.Machine
end

section
/-! O60, the operations of Sys2Proof/Machine/Fab.lean: what they leave is in canonical form. -/
namespace Sys2Proof.Machine
variable {s : State}

theorem wf_egress {l : Nat} {p : FabPacket} (h : Memory.wf s = true) : Memory.wf (egress s l p) = true := by
  unfold egress
  exact wf_ite (wf_bump h) (wf_ite (wf_bump h) (wf_enqueue h))

theorem wf_routeUni {f : Nat} {arr : Option Nat} {p : FabPacket} (h : Memory.wf s = true) : Memory.wf (routeUni s f arr p) = true := by
  unfold routeUni
  exact wf_ite (wf_bump h) (wf_ite (wf_bump h) (wf_ite (wf_pathSend h) (wf_egress h)))

theorem wf_copyMulti {f : Nat} {arr : Option Nat} {g : Nat} {p : FabPacket} (h : Memory.wf s = true) :
    Memory.wf (copyMulti s f arr g p) = true := by
  unfold copyMulti
  exact wf_overNats (fun _ _ hs => wf_egress hs) h

theorem wf_holdMulti {e n : Nat} {p : FabPacket} (h : Memory.wf s = true) : Memory.wf (holdMulti s e n p) = true := by
  unfold holdMulti
  exact wf_ite (wf_freeInput h) h

theorem wf_routeMulti {f : Nat} {arr : Option Nat} {g : Nat} {p : FabPacket} (h : Memory.wf s = true) :
    Memory.wf (routeMulti s f arr g p) = true := by
  unfold routeMulti
  exact wf_overNats (fun _ _ hs => wf_pathSend hs) (wf_copyMulti h)

theorem wf_writeResults {u : RemoteUnit} (h : Memory.wf s = true) : Memory.wf (writeResults s u) = true := by
  unfold writeResults
  dsimp only
  split
  · exact wf_ite h (wf_adapterWrite h)
  · exact h

theorem wf_endUnit {u : RemoteUnit} {bits : BitVec 4} {data : List Flit} {result : List Byte} (h : Memory.wf s = true) :
    Memory.wf (endUnit s u bits data result) = true := by
  unfold endUnit
  extract_lets k _ s1 s2 r
  have h1 : Memory.wf s1 = true := wf_ite h h
  have h2 : Memory.wf s2 = true := by
    dsimp only [s2]
    split
    · exact wf_ite h1 (wf_adapterWrite h1)
    · exact h1
  exact wf_ite (wf_writeResults (wf_unitEnded h2)) (wf_unitEnded h2)

theorem wf_answerRemote {u : RemoteUnit} {status : Nat} {result : List Byte} {data : List Flit} (h : Memory.wf s = true) :
    Memory.wf (answerRemote s u status result data) = true := by
  unfold answerRemote
  exact wf_pathSend h

theorem wf_unitAnswered {cd : Nat} {p : FabPacket} (h : Memory.wf s = true) : Memory.wf (unitAnswered s cd p) = true := by
  unfold unitAnswered
  split
  · exact h
  · exact wf_endUnit h

theorem wf_endOp {o : FabOp} {status : Nat} {result : List Byte} {data : List Flit} (h : Memory.wf s = true) :
    Memory.wf (endOp s o status result data) = true := by
  unfold endOp
  dsimp only
  split
  · exact h
  · exact wf_answerRemote h

theorem wf_unanswered {o : FabOp} (h : Memory.wf s = true) : Memory.wf (unanswered s o) = true := by
  unfold unanswered
  exact wf_raise (wf_bump h)

theorem wf_endUnanswered {o : FabOp} (h : Memory.wf s = true) : Memory.wf (endUnanswered s o) = true := by
  unfold endUnanswered
  exact wf_ite (wf_endOp (wf_unanswered h)) (wf_endOp (wf_unanswered h))

theorem wf_takeAnswer {p : FabPacket} (h : Memory.wf s = true) : Memory.wf (takeAnswer s p) = true := by
  unfold takeAnswer
  split
  · exact wf_bump h
  · exact wf_ite (wf_bump h) (wf_ite (wf_ite (wf_bump h) (wf_ite (wf_endOp h) h)) (wf_endOp h))

theorem wf_answerHere {f : Nat} {a : FabPacket} (h : Memory.wf s = true) : Memory.wf (answerHere s f a) = true := by
  unfold answerHere
  exact wf_ite (wf_takeAnswer h) (wf_pathSend h)

theorem wf_sendAnswer {f : Nat} {p : FabPacket} {status : Nat} {result : Option (List Byte)} {data : List Flit} (h : Memory.wf s = true) :
    Memory.wf (sendAnswer s f p status result data) = true := by
  unfold sendAnswer
  exact wf_ite (wf_answerHere h) (wf_routeUni h)

theorem wf_keyFault {f src region : Nat} (h : Memory.wf s = true) : Memory.wf (keyFault s f src region) = true := by
  unfold keyFault
  exact wf_ite (wf_bump h) (wf_raise h)

theorem wf_decide_ {f : Nat} {p : FabPacket} {status : Nat} {result : Option (List Byte)} {data : List Flit} (h : Memory.wf s = true) :
    Memory.wf (decide_ s f p status result data) = true := by
  unfold decide_
  exact wf_foldl (fun _ _ hs => wf_sendAnswer (wf_bump hs)) (wf_sendAnswer h)

theorem wf_passOn {f : Nat} {p : FabPacket} (h : Memory.wf s = true) : Memory.wf (passOn s f p) = true := by
  unfold passOn
  exact wf_pathSend h

theorem wf_memAnswered {f : Nat} {a : FabPacket} (h : Memory.wf s = true) : Memory.wf (memAnswered s f a) = true := by
  unfold memAnswered
  split
  · exact h
  · exact wf_decide_ h

theorem wf_refuseReq {f : Nat} {p : FabPacket} {status : Nat} {region : Option Nat} (h : Memory.wf s = true) :
    Memory.wf (refuseReq s f p status region) = true := by
  unfold refuseReq
  extract_lets s1 s2 a s3
  have h1 : Memory.wf s1 = true := by
    cases region with
    | some r => exact wf_keyFault h
    | none => exact h
  have h2 : Memory.wf s2 = true := wf_ite (wf_bump h1) h1
  have h3 : Memory.wf s3 = true := wf_ite (wf_raise h2) h2
  exact wf_sendAnswer h3

theorem wf_executeReq {f : Nat} {p : FabPacket} {run : State → Nat → State} (h : Memory.wf s = true)
    (hrun : ∀ u n, Memory.wf u = true → Memory.wf (run u n) = true) : Memory.wf (executeReq s f p run) = true := by
  unfold executeReq
  refine wf_ite (wf_ite h (wf_sendAnswer h)) (wf_ite h (wf_ite h ?_))
  split
  · split
    · exact wf_sendAnswer h
    · exact h
  · split
    · exact wf_refuseReq h
    · exact wf_ite (wf_ite (wf_refuseReq h) (hrun _ _ h)) (hrun _ _ h)

theorem wf_executeMem {f : Nat} {p : FabPacket} (h : Memory.wf s = true) : Memory.wf (executeMem s f p) = true := by
  unfold executeMem
  exact wf_executeReq h (fun _ _ hs => wf_passOn hs)

theorem wf_arriveUni {l : Nat} {p : FabPacket} {here : State → State} (h : Memory.wf s = true)
    (hhere : ∀ u, Memory.wf u = true → Memory.wf (here u) = true) : Memory.wf (arriveUni s l p here) = true :=
  wf_ite (hhere _ h) (wf_routeUni h)

@[simp] theorem wf_execFabLoad {l : Fin 16} {p : FabPacket} (h : Memory.wf s = true) : keepsForm (execFabLoad l p s) = true :=
  keepsForm_next (wf_ite (wf_arriveUni h (fun _ hs => wf_executeMem hs)) h)

@[simp] theorem wf_execFabStore {l : Fin 16} {p : FabPacket} (h : Memory.wf s = true) : keepsForm (execFabStore l p s) = true :=
  keepsForm_next (wf_ite (wf_arriveUni h (fun _ hs => wf_executeMem hs)) h)

@[simp] theorem wf_execFabAtomic {l : Fin 16} {p : FabPacket} (h : Memory.wf s = true) : keepsForm (execFabAtomic l p s) = true :=
  keepsForm_next (wf_ite (wf_arriveUni h (fun _ hs => wf_executeMem hs)) h)

@[simp] theorem wf_execFabReduce {l : Fin 16} {p : FabPacket} (h : Memory.wf s = true) : keepsForm (execFabReduce l p s) = true :=
  keepsForm_next (wf_ite (wf_arriveUni h (fun _ hs => wf_executeMem hs)) h)

theorem wf_doMcastStore {l : Nat} {p : FabPacket} (h : Memory.wf s = true) : Memory.wf (doMcastStore s l p) = true := by
  unfold doMcastStore
  exact wf_ite (wf_executeMem (wf_routeMulti (wf_holdMulti h))) (wf_routeMulti (wf_holdMulti h))

@[simp] theorem wf_execMcastStore {l : Fin 16} {p : FabPacket} (h : Memory.wf s = true) : keepsForm (execMcastStore l p s) = true :=
  keepsForm_next (wf_ite (wf_doMcastStore h) h)

@[simp] theorem wf_execRsp {l : Fin 16} {p : FabPacket} (h : Memory.wf s = true) : keepsForm (execRsp l p s) = true :=
  keepsForm_next (wf_ite (wf_arriveUni h (fun _ hs => wf_answerHere hs)) h)

@[simp] theorem wf_execFabricDiscard {l : Fin 16} {p : FabPacket} (h : Memory.wf s = true) : keepsForm (execFabricDiscard l p s) = true :=
  keepsForm_next (wf_ite (wf_bump (wf_freeInput h)) h)

theorem wf_sendAttempt {f : Nat} {p : FabPacket} (h : Memory.wf s = true) : Memory.wf (sendAttempt s f p) = true := by
  unfold sendAttempt
  exact wf_ite (wf_ite (wf_executeMem (wf_routeMulti h)) (wf_routeMulti h)) (wf_ite (wf_executeMem h) (wf_routeUni h))

theorem wf_unitStage {u : RemoteUnit} {n : Nat} (h : Memory.wf s = true) : Memory.wf (unitStage s u n) = true := h

theorem wf_unitArrived {f cd : Nat} {p : FabPacket} (h : Memory.wf s = true) : Memory.wf (unitArrived s f cd p) = true := by
  unfold unitArrived
  split
  · exact h
  · exact wf_unitStage h

theorem wf_inject {f : Nat} (h : Memory.wf s = true) : Memory.wf (inject s f) = true := by
  unfold inject
  exact wf_ite (wf_doArbiter h) h

theorem wf_originate {f : Nat} {u : RemoteUnit} (h : Memory.wf s = true) : Memory.wf (originate s f u) = true := by
  unfold originate
  refine wf_ite (wf_answerRemote (wf_unitStage h)) ?_
  split
  · exact h
  · exact wf_sendAttempt h

theorem wf_doRemoteUnit {f cd : Nat} (h : Memory.wf s = true) : Memory.wf (doRemoteUnit s f cd) = true := by
  unfold doRemoteUnit
  split
  · exact h
  · exact wf_ite (wf_originate (wf_arbRelease (wf_inject h))) (wf_inject h)

theorem wf_unitUnanswered {f : Nat} {u : RemoteUnit} (h : Memory.wf s = true) : Memory.wf (unitUnanswered s f u) = true := by
  unfold unitUnanswered
  exact wf_raise (wf_bump h)

theorem wf_cutUnit {f g : Nat} (h : Memory.wf s = true) : Memory.wf (cutUnit s f g) = true := by
  unfold cutUnit
  split
  · exact h
  · exact wf_ite (wf_answerRemote (wf_unitUnanswered (wf_unitStage h))) (wf_answerRemote (wf_unitUnanswered (wf_unitStage h)))

@[simp] theorem wf_execHoldCut {kind : ArbKind} {i : Fin 100000} {item : CutItem} (h : Memory.wf s = true) :
    keepsForm (execHoldCut kind i item s) = true := by
  unfold execHoldCut
  refine keepsForm_next ?_
  dsimp only
  split
  · exact wf_ite (wf_cutUnit (wf_doHoldCut h)) (wf_doHoldCut h)
  · exact wf_doHoldCut h

@[simp] theorem wf_execRemoteUnit {fd : Fin 8} {cd : Fin 16} (h : Memory.wf s = true) : keepsForm (execRemoteUnit fd cd s) = true :=
  keepsForm_next (wf_ite (wf_doRemoteUnit h) h)

@[simp] theorem wf_execDedupeExpiry (h : Memory.wf s = true) : keepsForm (execDedupeExpiry s) = true := keepsForm_next h

theorem wf_doMemoryTimeout {f : Nat} (h : Memory.wf s = true) : Memory.wf (doMemoryTimeout s f) = true := by
  unfold doMemoryTimeout
  split
  · exact h
  · exact wf_ite (wf_decide_ h) (wf_decide_ h)

@[simp] theorem wf_execMemoryAnswerTimeout {fd : Fin 8} (h : Memory.wf s = true) : keepsForm (execMemoryAnswerTimeout fd s) = true :=
  keepsForm_next (wf_ite (wf_doMemoryTimeout h) h)

theorem wf_doThrottle {f : Nat} (h : Memory.wf s = true) : Memory.wf (doThrottle s f) = true := by
  unfold doThrottle
  exact wf_ite h (wf_ite h (wf_ite h h))

@[simp] theorem wf_execThrottleReview {fd : Fin 8} (h : Memory.wf s = true) : keepsForm (execThrottleReview fd s) = true :=
  keepsForm_next (wf_ite (wf_doThrottle h) h)

theorem wf_doRegion {r : Nat} {bs : List Byte} (h : Memory.wf s = true) : Memory.wf (doRegion s r bs).2 = true := by
  unfold doRegion
  dsimp only
  split <;> exact h

@[simp] theorem wf_execRegion {r : Fin 4096} {bs : List Byte} (h : Memory.wf s = true) : keepsForm (execRegion r bs s) = true :=
  keepsForm_next (wf_doRegion h)

end Sys2Proof.Machine
end

section
/-! O60, the operations of Sys2Proof/Machine/FabSync.lean: what they leave is in canonical form. -/
namespace Sys2Proof.Machine
variable {s : State}

theorem wf_setBar {g : Nat} {b : FabBar} (h : Memory.wf s = true) : Memory.wf (setBar s g b) = true := h

theorem wf_setFabFlag {f : Nat} {v : FabFlag} (h : Memory.wf s = true) : Memory.wf (setFabFlag s f v) = true := h

theorem wf_syncUpdate {op n : Nat} {v : Word} (h : Memory.wf s = true) : Memory.wf (syncUpdate s op n v) = true := by
  unfold syncUpdate
  exact wf_ctrlSendFrom h

theorem wf_originateVc0 {p : FabPacket} (h : Memory.wf s = true) : Memory.wf (originateVc0 s p) = true := h

theorem wf_doReleased {g e : Nat} (h : Memory.wf s = true) : Memory.wf (doReleased s g e) = true := by
  unfold doReleased
  exact wf_ite h (wf_ite (wf_syncUpdate (wf_setBar h)) h)

theorem wf_doNotified {f count : Nat} {v : Word} (h : Memory.wf s = true) : Memory.wf (doNotified s f count v) = true := by
  unfold doNotified
  exact wf_ite (wf_syncUpdate (wf_setFabFlag h)) h

theorem wf_sendRelease {g e : Nat} (h : Memory.wf s = true) : Memory.wf (sendRelease s g e) = true := by
  unfold sendRelease
  exact wf_originateVc0 h

theorem wf_doBarArrive {src g e : Nat} (h : Memory.wf s = true) : Memory.wf (doBarArrive s src g e) = true := by
  unfold doBarArrive
  refine wf_ite h ?_
  exact wf_ite (wf_ite (wf_doReleased h) (wf_originateVc0 h)) (wf_ite (wf_raise h) (wf_ite (wf_sendRelease (wf_setBar h)) (wf_setBar h)))

theorem wf_flagChanged {f : Nat} {v : Word} (h : Memory.wf s = true) : Memory.wf (flagChanged s f v) = true := by
  unfold flagChanged
  exact wf_ite (wf_originateVc0 (wf_setFabFlag h)) (wf_setFabFlag h)

theorem wf_runFlag {f : Nat} {p : FabPacket} (h : Memory.wf s = true) : Memory.wf (runFlag s f p) = true := by
  unfold runFlag
  refine wf_decide_ ?_
  split
  · exact wf_flagChanged h
  · exact wf_flagChanged h
  · exact h

theorem wf_executeFlag {f : Nat} {p : FabPacket} (h : Memory.wf s = true) : Memory.wf (executeFlag s f p) = true := by
  unfold executeFlag
  exact wf_ite (wf_executeReq h (fun _ _ hs => wf_runFlag hs)) h

@[simp] theorem wf_execBarArrive {l : Fin 16} {p : FabPacket} (h : Memory.wf s = true) : keepsForm (execBarArrive l p s) = true :=
  keepsForm_next (wf_ite (wf_arriveUni h (fun _ hs => wf_doBarArrive hs)) h)

theorem wf_takeVc0 {p : FabPacket} (h : Memory.wf s = true) : Memory.wf (takeVc0 s p) = true := by
  unfold takeVc0
  exact wf_ite (wf_doReleased h) (wf_doNotified h)

theorem wf_spreadVc0 {f : Nat} {arr : Option Nat} {p : FabPacket} (h : Memory.wf s = true) : Memory.wf (spreadVc0 s f arr p) = true := by
  unfold spreadVc0
  extract_lets g s1 s2
  have h1 : Memory.wf s1 = true := by
    cases arr with
    | some l => exact wf_holdMulti h
    | none => exact h
  have h2 : Memory.wf s2 = true := wf_routeMulti h1
  exact wf_ite (wf_takeVc0 h2) h2

theorem wf_doBarRelease {l : Nat} {p : FabPacket} (h : Memory.wf s = true) : Memory.wf (doBarRelease s l p) = true := by
  unfold doBarRelease
  exact wf_ite (wf_arriveUni h (fun _ hs => wf_takeVc0 hs)) (wf_spreadVc0 h)

@[simp] theorem wf_execBarRelease {l : Fin 16} {p : FabPacket} (h : Memory.wf s = true) : keepsForm (execBarRelease l p s) = true :=
  keepsForm_next (wf_ite (wf_doBarRelease h) h)

@[simp] theorem wf_execFlagStore {l : Fin 16} {p : FabPacket} (h : Memory.wf s = true) : keepsForm (execFlagStore l p s) = true :=
  keepsForm_next (wf_ite (wf_arriveUni h (fun _ hs => wf_executeFlag hs)) h)

@[simp] theorem wf_execFlagAdd {l : Fin 16} {p : FabPacket} (h : Memory.wf s = true) : keepsForm (execFlagAdd l p s) = true :=
  keepsForm_next (wf_ite (wf_arriveUni h (fun _ hs => wf_executeFlag hs)) h)

@[simp] theorem wf_execFlagRead {l : Fin 16} {p : FabPacket} (h : Memory.wf s = true) : keepsForm (execFlagRead l p s) = true :=
  keepsForm_next (wf_ite (wf_arriveUni h (fun _ hs => wf_executeFlag hs)) h)

theorem wf_doFabNotify {l : Nat} {p : FabPacket} (h : Memory.wf s = true) : Memory.wf (doFabNotify s l p) = true := by
  unfold doFabNotify
  exact wf_spreadVc0 h

@[simp] theorem wf_execFabFlagNotify {l : Fin 16} {p : FabPacket} (h : Memory.wf s = true) : keepsForm (execFabFlagNotify l p s) = true :=
  keepsForm_next (wf_ite (wf_doFabNotify h) h)

theorem wf_launchVc0 {f : Nat} {p : FabPacket} (h : Memory.wf s = true) : Memory.wf (launchVc0 s f p) = true := by
  unfold launchVc0
  exact wf_ite (wf_spreadVc0 h) (wf_ite (wf_ite (wf_doBarArrive h) (wf_executeFlag h)) (wf_routeUni h))

theorem wf_startFlagOp {p : FabPacket} (h : Memory.wf s = true) : Memory.wf (startFlagOp s p) = true := by
  unfold startFlagOp
  refine wf_ite h ?_
  split
  · exact h
  · exact wf_launchVc0 h

theorem wf_sendVc0 {p : FabPacket} (h : Memory.wf s = true) : Memory.wf (sendVc0 s p) = true := by
  unfold sendVc0
  exact wf_ite (wf_startFlagOp h) (wf_launchVc0 (wf_ite (wf_setBar h) h))

theorem wf_releasePaced (h : Memory.wf s = true) : Memory.wf (releasePaced s) = true := by
  unfold releasePaced
  split
  · exact h
  · exact wf_ite (wf_sendVc0 (wf_kept (wf_inject h) rfl)) (wf_inject h)

theorem wf_fabricClock (h : Memory.wf s = true) : Memory.wf (fabricClock s) = true := by
  unfold fabricClock
  exact wf_releasePaced (wf_pumpAll h)

theorem wf_sendBarArrive {g : Nat} (h : Memory.wf s = true) : Memory.wf (sendBarArrive s g) = true := by
  unfold sendBarArrive
  exact wf_originateVc0 (wf_setBar h)

theorem wf_fabSync {k op n : Nat} {v : Word} (h : Memory.wf s = true) : Memory.wf (fabSync s k op n v) = true := by
  unfold fabSync
  exact wf_ctrlSendFrom h

theorem wf_doFabArrive {k g : Nat} (h : Memory.wf s = true) : Memory.wf (doFabArrive s k g) = true := by
  unfold doFabArrive
  exact wf_ite h (wf_fabSync (wf_setTile h (wf_tile_kept (wf_tileAt h) rfl)))

@[simp] theorem wf_execFabArrive {cd : Fin 16} {t : Fin 64} {v : Word} (h : Memory.wf s = true) :
    keepsForm (execFabArrive cd t v s) = true :=
  keepsForm_next (wf_ite (wf_doFabArrive h) h)

@[simp] theorem wf_execFabFlagValue {cd : Fin 16} {t : Fin 64} {v : Word} (h : Memory.wf s = true) :
    keepsForm (execFabFlagValue cd t v s) = true :=
  keepsForm_next (wf_ite (wf_fabSync h) h)

@[simp] theorem wf_execFabFlagAdd {cd : Fin 16} {t : Fin 64} {v : Word} (h : Memory.wf s = true) :
    keepsForm (execFabFlagAdd cd t v s) = true :=
  keepsForm_next (wf_ite (wf_fabSync h) h)

theorem wf_doSyncArrived {g : Nat} {e : Word} (h : Memory.wf s = true) : Memory.wf (doSyncArrived s g e) = true := by
  unfold doSyncArrived
  exact wf_ite h (wf_ite (wf_sendBarArrive (wf_setBar h)) (wf_setBar h))

@[simp] theorem wf_execFabSyncArrive {cd : Fin 16} {seq : BitVec 32} {g : BitVec 12} {e : Word} (h : Memory.wf s = true) :
    keepsForm (execFabSyncArrive cd seq g e s) = true :=
  keepsForm_next (wf_ite (wf_doSyncArrived (wf_sigArrive h)) h)

theorem wf_sendFlagOp {opc f : Nat} {v : Word} (h : Memory.wf s = true) : Memory.wf (sendFlagOp s opc f v) = true := by
  unfold sendFlagOp
  exact wf_originateVc0 h

@[simp] theorem wf_execFabSyncFlagStore {cd : Fin 16} {seq : BitVec 32} {f : BitVec 12} {v : Word} (h : Memory.wf s = true) :
    keepsForm (execFabSyncFlagStore cd seq f v s) = true :=
  keepsForm_next (wf_ite (wf_sendFlagOp (wf_sigArrive h)) h)

@[simp] theorem wf_execFabSyncFlagAdd {cd : Fin 16} {seq : BitVec 32} {f : BitVec 12} {v : Word} (h : Memory.wf s = true) :
    keepsForm (execFabSyncFlagAdd cd seq f v s) = true :=
  keepsForm_next (wf_ite (wf_sendFlagOp (wf_sigArrive h)) h)

@[simp] theorem wf_execFabSyncRelease {fd : Fin 8} {seq : BitVec 32} {g : BitVec 12} {e : Word} (h : Memory.wf s = true) :
    keepsForm (execFabSyncRelease fd seq g e s) = true :=
  keepsForm_next (wf_foldl (fun _ _ hs => wf_setDie hs) (wf_sigArrive h))

@[simp] theorem wf_execFabSyncFlag {fd : Fin 8} {seq : BitVec 32} {f : BitVec 12} {v : Word} (h : Memory.wf s = true) :
    keepsForm (execFabSyncFlag fd seq f v s) = true :=
  keepsForm_next (wf_foldl (fun _ _ hs => wf_setDie hs) (wf_sigArrive h))

@[simp] theorem wf_execBarrierResend {g : Fin 1024} (h : Memory.wf s = true) : keepsForm (execBarrierResend g s) = true := by
  unfold execBarrierResend
  refine keepsForm_next ?_
  split
  · exact wf_ite (wf_sendBarArrive h) h
  · exact h

theorem wf_resend {f : Nat} {o : FabOp} (h : Memory.wf s = true) : Memory.wf (resend s f o) = true := by
  unfold resend
  exact wf_ite h (wf_ite (wf_endOp h) (wf_ite (wf_originateVc0 (wf_bump h)) (wf_sendAttempt (wf_bump h))))

theorem wf_doAttemptTimeout {f tag : Nat} (h : Memory.wf s = true) : Memory.wf (doAttemptTimeout s f tag) = true := by
  unfold doAttemptTimeout
  split
  · exact h
  · exact wf_ite h (wf_ite (wf_endUnanswered h) (wf_ite h (wf_resend h)))

@[simp] theorem wf_execAttemptTimeout {fd : Fin 8} {tag : BitVec 12} (h : Memory.wf s = true) :
    keepsForm (execAttemptTimeout fd tag s) = true :=
  keepsForm_next (wf_ite (wf_doAttemptTimeout h) h)

theorem wf_doBarrierTable {bs : List Byte} (h : Memory.wf s = true) : Memory.wf (doBarrierTable s bs).2 = true := by
  unfold doBarrierTable
  split
  · exact h
  · exact wf_overNats (fun _ _ hs => wf_setDie hs) (wf_overNats (fun _ _ hs => wf_setBar hs) h)

@[simp] theorem wf_execBarrierTable {bs : List Byte} (h : Memory.wf s = true) : keepsForm (execBarrierTable bs s) = true :=
  keepsForm_next (wf_doBarrierTable h)

theorem wf_doFlagTable {bs : List Byte} (h : Memory.wf s = true) : Memory.wf (doFlagTable s bs).2 = true := by
  unfold doFlagTable
  split
  · exact h
  · dsimp only
    exact wf_overNats (fun _ _ hs => wf_setFabFlag hs) h

@[simp] theorem wf_execFlagTable {bs : List Byte} (h : Memory.wf s = true) : keepsForm (execFlagTable bs s) = true :=
  keepsForm_next (wf_doFlagTable h)

theorem wf_doSyncTakeover (h : Memory.wf s = true) : Memory.wf (doSyncTakeover s) = true := by
  unfold doSyncTakeover
  split
  · exact h
  · exact wf_ite h (wf_raise h)

@[simp] theorem wf_execSyncDieTakeover (h : Memory.wf s = true) :
    keepsForm (execSyncDieTakeover s) = true := keepsForm_next (wf_doSyncTakeover h)

end Sys2Proof.Machine
end

section
/-! O60, the operations of Sys2Proof/Machine/FabLinks.lean: what they leave is in canonical form. -/
namespace Sys2Proof.Machine
variable {s : State}

theorem wf_queueVc3 {l : Nat} {p : FabPacket} (h : Memory.wf s = true) : Memory.wf (queueVc3 s l p) = true := by
  unfold queueVc3
  exact wf_enqueue h

theorem wf_linkChatter {sl l : Nat} (h : Memory.wf s = true) : Memory.wf (linkChatter s sl l) = true := by
  unfold linkChatter
  exact wf_ite h (wf_ite (wf_queueVc3 (wf_queueVc3 h)) (wf_queueVc3 h))

theorem wf_extSlot {sl l : Nat} (h : Memory.wf s = true) : Memory.wf (extSlot s sl l) = true := by
  unfold extSlot
  refine wf_ite (wf_ite (wf_emit h) h) ?_
  extract_lets s1 me far hd
  have h1 : Memory.wf s1 = true := wf_linkChatter h
  split
  · next heq => exact wf_emit (wf_of_fillSlot h1 heq)
  · next heq => exact wf_emit (wf_bump (wf_of_fillSlot h1 heq))

@[simp] theorem wf_execSlotStart {sl : Fin 64} {short : List (Nat × Nat)} (h : Memory.wf s = true) :
    keepsForm (execSlotStart sl short s) = true :=
  keepsForm_next (wf_ite (wf_overNats (fun _ _ hs => wf_extSlot hs) (wf_doSlotStart h)) h)

theorem wf_extDiscard {l c : Nat} {read : Option (SlotHeader × List Flit)} (h : Memory.wf s = true) :
    Memory.wf (extDiscard s l c read) = true := by
  unfold extDiscard
  exact wf_discardSlot (wf_breakStream h)

theorem wf_takeRxChanges {l frame : Nat} (h : Memory.wf s = true) : Memory.wf (takeRxChanges s l frame) = true := by
  unfold takeRxChanges
  exact wf_ite h (wf_foldl (fun _ _ hs => wf_applyExclude hs) (wf_setLink h))

theorem wf_doExtBurst {l : Nat} {bits : BitVec 14336} (h : Memory.wf s = true) : Memory.wf (doExtBurst s l bits) = true := by
  unfold doExtBurst
  split
  · exact h
  · split
    · exact wf_extDiscard h
    · split
      · exact wf_extDiscard h
      · dsimp only
        split
        · exact wf_extDiscard (wf_countLines (wf_ite (wf_takeRxChanges h) h))
        · split
          · exact wf_foldl (fun _ _ hs => wf_emit hs) (wf_joinStream (wf_setLink (wf_countLines (wf_ite (wf_takeRxChanges h) h))))
          · exact wf_setLink (wf_countLines (wf_ite (wf_takeRxChanges h) h))

theorem wf_acquireRings {p : Nat} (h : Memory.wf s = true) : Memory.wf (acquireRings s p) = true := by
  unfold acquireRings
  exact wf_kept h rfl

theorem wf_startTraining {l : Nat} (h : Memory.wf s = true) : Memory.wf (startTraining s l) = true := by
  unfold startTraining
  exact wf_acquireRings (wf_setLink h)

theorem wf_noteVanished {m : Nat} (h : Memory.wf s = true) : Memory.wf (noteVanished s m) = true := by
  unfold noteVanished
  exact wf_ite h h

theorem wf_linkDown {l : Nat} (h : Memory.wf s = true) : Memory.wf (linkDown s l) = true := by
  unfold linkDown
  extract_lets v s1 s2 s3 s4 s5
  have h2 : Memory.wf s2 = true := wf_foldl (fun _ _ hs => wf_copySent hs) (wf_setLink (wf_bump h))
  have h3 : Memory.wf s3 = true := wf_foldl (fun _ _ hs => wf_applyExclude hs) h2
  have h4 : Memory.wf s4 = true := wf_foldl (fun _ _ hs => wf_applyExclude hs) h3
  have h5 : Memory.wf s5 = true := by
    dsimp only [s5]
    clear_value s4
    split
    · exact wf_noteVanished h4
    · exact h4
  exact wf_ite h (wf_ite (wf_raise (wf_bump h5)) h4)

@[simp] theorem wf_execLinkSilence {l : Fin 16} {dark : Bool} (h : Memory.wf s = true) : keepsForm (execLinkSilence l dark s) = true :=
  keepsForm_next (wf_ite (wf_linkDown h) h)

@[simp] theorem wf_execLinkTrainingRetry {l : Fin 16} (h : Memory.wf s = true) : keepsForm (execLinkTrainingRetry l s) = true := by
  unfold execLinkTrainingRetry
  refine keepsForm_next ?_
  refine wf_ite h ?_
  split
  · exact h
  · exact wf_startTraining h
  · exact wf_ite (wf_setLink (wf_startTraining h)) h

theorem wf_doHello {l : Nat} {p : FabPacket} (h : Memory.wf s = true) : Memory.wf (doHello s l p) = true := by
  unfold doHello
  dsimp only
  split
  · exact wf_freeInput h
  · exact wf_ite (wf_setLink (wf_freeInput h)) (wf_linkDown (wf_freeInput h))
  · exact wf_ite (wf_setLink (wf_freeInput h)) (wf_setLink (wf_freeInput h))

@[simp] theorem wf_execHello {l : Fin 16} {p : FabPacket} (h : Memory.wf s = true) : keepsForm (execHello l p s) = true :=
  keepsForm_next (wf_ite (wf_doHello h) h)

theorem wf_addRxChange {l f : Nat} {own : Bool} {line : Nat} (h : Memory.wf s = true) : Memory.wf (addRxChange s l f own line) = true := by
  unfold addRxChange
  exact wf_setLink h

@[simp] theorem wf_execLaneExclude {src : BitVec 7} {seq : BitVec 32} {p : Fin 366} {rx : Bool} {line : Fin 36} {t : Word}
    (h : Memory.wf s = true) : keepsForm (execLaneExclude src seq p rx line t s) = true := by
  unfold execLaneExclude
  extract_lets s1 r
  have hr : Memory.wf r.2 = true := wf_ctrlTakeAll (wf_sigArrive h)
  exact keepsForm_next (wf_ite hr (wf_ite (wf_nameChange hr (fun _ hs => wf_applyExclude hs)) (wf_queueVc3 hr)))

@[simp] theorem wf_execLinkExclude {l : Fin 16} {p : FabPacket} (h : Memory.wf s = true) : keepsForm (execLinkExclude l p s) = true :=
  keepsForm_next (wf_ite (wf_ite (wf_schedule (wf_freeInput h)) (wf_addRxChange (wf_freeInput h))) h)

theorem wf_applyLinkExclude {l : Nat} {rx : Bool} {line : Nat} (h : Memory.wf s = true) :
    Memory.wf (applyLinkExclude s l rx line) = true := by
  unfold applyLinkExclude
  exact wf_ite h (wf_setLink h)

theorem wf_doRouteShadow {bs : List Byte} (h : Memory.wf s = true) : Memory.wf (doRouteShadow s bs).2 = true := by
  unfold doRouteShadow
  extract_lets
  split
  · exact h
  · exact wf_kept h rfl

@[simp] theorem wf_execRouteShadow {bs : List Byte} (h : Memory.wf s = true) : keepsForm (execRouteShadow bs s) = true :=
  keepsForm_next (wf_doRouteShadow h)

theorem wf_startDrain {leaver : Option Nat} (h : Memory.wf s = true) : Memory.wf (startDrain s leaver) = true := by
  unfold startDrain
  split
  · split <;> exact h
  · exact h

@[simp] theorem wf_execRouteSwap {v : BitVec 8} (h : Memory.wf s = true) : keepsForm (execRouteSwap v s) = true :=
  keepsForm_next (wf_ite (wf_startDrain h) h)

theorem wf_doFlushEnd (h : Memory.wf s = true) : Memory.wf (doFlushEnd s) = true := by
  unfold doFlushEnd
  split
  · exact h
  · refine wf_ite h (wf_schedule (wf_kept (wf_overNats (fun _ _ hs => (wf_bump (wf_foldl (fun _ _ hs => ?_) (wf_setLink hs)))) h) rfl))
    exact wf_copySent hs

@[simp] theorem wf_execDrainFlushEnd (h : Memory.wf s = true) : keepsForm (execDrainFlushEnd s) = true := keepsForm_next (wf_doFlushEnd h)

theorem wf_routeRecord (h : Memory.wf s = true) : Memory.wf (routeRecord s) = true := by
  unfold routeRecord
  exact wf_overNats (fun _ _ hs => wf_queueClassC hs) h

theorem wf_applyRouteSwitch (h : Memory.wf s = true) : Memory.wf (applyRouteSwitch s) = true := by
  unfold applyRouteSwitch
  split
  · exact h
  · exact wf_foldl (fun _ _ hs => wf_ite (wf_queueVc3 hs) hs) (wf_routeRecord h)

@[simp] theorem wf_execLeave {l : Fin 16} {p : FabPacket} (h : Memory.wf s = true) : keepsForm (execLeave l p s) = true :=
  keepsForm_next (wf_ite (wf_startDrain (wf_freeInput h)) h)

@[simp] theorem wf_execDrained {l : Fin 16} {p : FabPacket} (h : Memory.wf s = true) : keepsForm (execDrained l p s) = true :=
  keepsForm_next (wf_ite h h)

theorem wf_doFabricLeave (h : Memory.wf s = true) : Memory.wf (doFabricLeave s) = true := by
  unfold doFabricLeave
  exact wf_ite h (wf_kept (wf_overNats (fun _ _ hs => wf_queueVc3 hs) h) rfl)

@[simp] theorem wf_execFabricLeave {v : BitVec 8} (h : Memory.wf s = true) : keepsForm (execFabricLeave v s) = true :=
  keepsForm_next (wf_ite (wf_doFabricLeave h) h)

theorem wf_goDark (h : Memory.wf s = true) : Memory.wf (goDark s) = true := by
  unfold goDark
  extract_lets s1
  have h1 : Memory.wf s1 = true := wf_overNats (fun _ _ hs => wf_linkDown hs) h
  clear_value s1
  exact h1

theorem wf_doLeaveTimeout (h : Memory.wf s = true) : Memory.wf (doLeaveTimeout s) = true := by
  unfold doLeaveTimeout
  split
  · exact h
  · refine wf_ite h (wf_ite (wf_goDark h) ?_)
    split
    · exact h
    · exact wf_ite h (wf_goDark h)

@[simp] theorem wf_execLeaveTimeout (h : Memory.wf s = true) : keepsForm (execLeaveTimeout s) = true := keepsForm_next (wf_doLeaveTimeout h)

theorem wf_handedOver {f : Nat} {p : FabPacket} (h : Memory.wf s = true) : Memory.wf (handedOver s f p) = true := by
  unfold handedOver
  exact wf_ite (wf_copyMulti h) (wf_ite (wf_routeUni h) (wf_ite (wf_answerHere h) (wf_ite (wf_executeFlag h) (wf_executeMem h))))

theorem wf_takePath {me peer : Nat} {p : FabPacket} (h : Memory.wf s = true) : Memory.wf (takePath s me peer p) = true := by
  unfold takePath
  split
  · exact wf_unitArrived h
  · exact wf_memAnswered h
  · exact wf_handedOver h
  · exact wf_unitAnswered h
  · exact wf_serveUnit h
  · exact h

theorem wf_pathTaken {l : Nat} {p : FabPacket} (h : Memory.wf s = true) : Memory.wf (pathTaken s l p) = true := by
  unfold pathTaken
  split
  · exact wf_ite (wf_holdMulti h) (wf_freeInput h)
  · exact wf_freeInput h

theorem wf_drainPaths (h : Memory.wf s = true) : Memory.wf (drainPaths s) = true := by
  unfold drainPaths
  exact wf_foldl (fun _ _ hs => wf_takePath (wf_pathTaken hs)) h

theorem wf_fabricDieLost {n : Nat} (h : Memory.wf s = true) : Memory.wf (fabricDieLost s n) = true := by
  unfold fabricDieLost
  extract_lets shares s1 s2 s3
  have h1 : Memory.wf s1 = true := wf_dropPaths (wf_overNats (fun _ _ hs => wf_linkDown hs) h)
  have h2 : Memory.wf s2 = true := wf_foldl (fun _ _ hs => wf_unanswered hs) h1
  have h3 : Memory.wf s3 = true := by
    refine wf_foldl (fun u x hu => ?_) h2
    extract_lets u1
    have h1 : Memory.wf u1 = true := wf_ite hu (wf_unitUnanswered hu)
    exact wf_endUnit h1
  clear_value s3
  exact h3

end Sys2Proof.Machine
end

section
/-! O60, the operations of Sys2Proof/Machine/Time.lean: what they leave is in canonical form. -/
namespace Sys2Proof.Machine
variable {s : State}

theorem wf_setMt {f : ModTime → ModTime} (h : Memory.wf s = true) : Memory.wf (setMt s f) = true := h

theorem wf_timeEvent {site what : Nat} (h : Memory.wf s = true) : Memory.wf (timeEvent s site what) = true := by
  unfold timeEvent
  exact wf_raise h

theorem wf_doHoldover {bt : Nat} (h : Memory.wf s = true) : Memory.wf (doHoldover s bt) = true := by
  unfold doHoldover
  exact wf_ite h (wf_timeEvent (wf_bump (wf_setBt h)))

@[simp] theorem wf_execHoldoverEntry {bt : Fin 8} (h : Memory.wf s = true) : keepsForm (execHoldoverEntry bt s) = true :=
  keepsForm_next (wf_doHoldover h)

theorem wf_correctCount {site : Nat} (h : Memory.wf s = true) : Memory.wf (correctCount s site) = true := by
  unfold correctCount
  exact wf_ite h (wf_ite (wf_timeEvent (wf_bump (wf_setMt h))) (wf_bump (wf_setMt h)))

theorem wf_doBroadcastAbsent (h : Memory.wf s = true) : Memory.wf (doBroadcastAbsent s) = true := by
  unfold doBroadcastAbsent
  exact wf_ite (wf_raise (wf_endAny (wf_overNats (fun _ _ hs => wf_linkDown hs) (wf_overNats (fun _ _ hs => wf_updPort hs) h)))) h

@[simp] theorem wf_execBroadcastAbsent (h : Memory.wf s = true) :
    keepsForm (execBroadcastAbsent s) = true := keepsForm_next (wf_doBroadcastAbsent h)

theorem wf_doTreeTrim {tree bt : Nat} {late : ℤ} (h : Memory.wf s = true) : Memory.wf (doTreeTrim s tree bt late) = true := by
  unfold doTreeTrim
  exact wf_ite h (wf_updBt h)

@[simp] theorem wf_execTreeTrim {tree : Fin 2} {bt : Fin 8} {late : ℤ} (h : Memory.wf s = true) :
    keepsForm (execTreeTrim tree bt late s) = true :=
  keepsForm_next (wf_doTreeTrim h)

theorem wf_doDroop {k : Nat} (h : Memory.wf s = true) : Memory.wf (doDroop s k) = true := by
  unfold doDroop
  exact wf_ite h (wf_cutEdge (wf_setTile h (wf_tile_kept (wf_tileAt h) rfl)))

@[simp] theorem wf_execDroop {cd : Fin 16} {t : Fin 64} (h : Memory.wf s = true) : keepsForm (execDroop cd t s) = true :=
  keepsForm_next (wf_ite (wf_doDroop h) h)

theorem wf_applyEpoch {v : Word} (h : Memory.wf s = true) : Memory.wf (applyEpoch s v) = true := by
  unfold applyEpoch
  exact wf_setMt (wf_foldl (fun _ _ hs => wf_timeEvent (wf_bump hs)) h)

@[simp] theorem wf_execTime {src : BitVec 7} {v : Word} (h : Memory.wf s = true) : keepsForm (execTime src v s) = true :=
  keepsForm_next (wf_ite (wf_schedule (wf_sigArrive h)) (wf_sigArrive h))

theorem wf_doFabTime {l : Nat} {p : FabPacket} {ps : Nat} (h : Memory.wf s = true) : Memory.wf (doFabTime s l p ps) = true := by
  unfold doFabTime
  exact wf_ite (wf_setMt (wf_setMt (wf_setLink (wf_freeInput h)))) (wf_setMt (wf_setLink (wf_freeInput h)))

@[simp] theorem wf_execFabTime {l : Fin 16} {p : FabPacket} {ps : Fin 1000} (h : Memory.wf s = true) :
    keepsForm (execFabTime l p ps s) = true :=
  keepsForm_next (wf_ite (wf_doFabTime h) h)

theorem wf_takeSource {x : Source} (h : Memory.wf s = true) : Memory.wf (takeSource s x) = true := by
  unfold takeSource
  exact wf_setMt h

theorem wf_judgeTime (h : Memory.wf s = true) : Memory.wf (judgeTime s) = true := by
  unfold judgeTime
  exact wf_ite h (wf_ite (wf_setMt h) (wf_setMt h))

theorem wf_adoptSource {x : Source} (h : Memory.wf s = true) : Memory.wf (adoptSource s x) = true := by
  unfold adoptSource
  exact wf_judgeTime (wf_takeSource h)

theorem wf_doReview (h : Memory.wf s = true) : Memory.wf (doReview s) = true := by
  unfold doReview
  extract_lets b n s1
  have h1 : Memory.wf s1 = true := wf_ite (wf_judgeTime (wf_takeSource h)) (wf_ite (wf_setMt h) (wf_ite (wf_adoptSource h) (wf_setMt h)))
  exact wf_ite h1 (wf_setMt h1)

@[simp] theorem wf_execTimeSourceReview (h : Memory.wf s = true) : keepsForm (execTimeSourceReview s) = true :=
  keepsForm_next (wf_ite (wf_doReview (wf_setMt h)) h)

theorem wf_doSourceLost (h : Memory.wf s = true) : Memory.wf (doSourceLost s) = true := by
  unfold doSourceLost
  exact wf_ite h (wf_ite (wf_adoptSource h) (wf_setMt h))

@[simp] theorem wf_execSourceLost (h : Memory.wf s = true) : keepsForm (execSourceLost s) = true := keepsForm_next (wf_doSourceLost h)

theorem wf_setPtp {n : Nat} {v : PtpPort} (h : Memory.wf s = true) : Memory.wf (setPtp s n v) = true := by
  unfold setPtp
  exact wf_setMt h

theorem wf_electMaster (h : Memory.wf s = true) : Memory.wf (electMaster s) = true := by
  unfold electMaster
  exact wf_ite (wf_setMt h) (wf_overNats (fun _ _ hs => wf_setHostPort hs) (wf_setMt h))

theorem wf_doAnnounce {f : HostFrame} {a : AnnounceMsg} (h : Memory.wf s = true) : Memory.wf (doAnnounce s f a) = true := by
  unfold doAnnounce
  exact wf_ite h (wf_electMaster (wf_ite h (wf_setPtp h)))

@[simp] theorem wf_execPtpAnnounce {f : HostFrame} {a : AnnounceMsg} (h : Memory.wf s = true) : keepsForm (execPtpAnnounce f a s) = true :=
  keepsForm_next (wf_doAnnounce h)

theorem wf_ptpClock (h : Memory.wf s = true) : Memory.wf (ptpClock s) = true := by
  unfold ptpClock
  exact wf_ite (wf_electMaster (wf_ite (wf_setPtp (wf_ite (wf_setPtp h) h)) (wf_ite (wf_setPtp h) h))) h

theorem wf_syncOffset {n : Nat} {t1 t2 : ℤ} (h : Memory.wf s = true) : Memory.wf (syncOffset s n t1 t2) = true := by
  unfold syncOffset
  exact wf_ite (wf_setMt (wf_setHostPort (wf_setPtp h))) (wf_setHostPort (wf_setPtp h))

@[simp] theorem wf_execPtpSync {f : HostFrame} {sender : PtpSender} {seq : BitVec 16} {origin : Word} {twoStep : Bool} {err : Fin 9}
  (h : Memory.wf s = true) :
    keepsForm (execPtpSync f sender seq origin twoStep err s) = true :=
  keepsForm_next (wf_ite h (wf_ite (wf_setPtp h) (wf_syncOffset h)))

@[simp] theorem wf_execPtpFollowUp {f : HostFrame} {sender : PtpSender} {seq : BitVec 16} {origin : Word} (h : Memory.wf s = true) :
    keepsForm (execPtpFollowUp f sender seq origin s) = true :=
  keepsForm_next (wf_ite (wf_syncOffset h) h)

@[simp] theorem wf_execPtpDelayReq {port : Fin 2} {err : Fin 9} (h : Memory.wf s = true) : keepsForm (execPtpDelayReq port err s) = true :=
  keepsForm_next (wf_ite (wf_ethSend (wf_setPtp h)) h)

@[simp] theorem wf_execPtpDelayResp {f : HostFrame} {sender : PtpSender} {seq : BitVec 16} {receive : Word} (h : Memory.wf s = true) :
    keepsForm (execPtpDelayResp f sender seq receive s) = true :=
  keepsForm_next (wf_ite (wf_setPtp h) h)

theorem wf_doStepDue (h : Memory.wf s = true) : Memory.wf (doStepDue s) = true := by
  unfold doStepDue
  split
  · exact h
  · exact wf_ite h (wf_ctrlSend (wf_setMt h))

@[simp] theorem wf_execTimeStepDue (h : Memory.wf s = true) : keepsForm (execTimeStepDue s) = true := keepsForm_next (wf_doStepDue h)

@[simp] theorem wf_execTimeStep {src : BitVec 7} {seq : BitVec 32} {f d : Word} (h : Memory.wf s = true) :
    keepsForm (execTimeStep src seq f d s) = true :=
  keepsForm_next (wf_ite (wf_schedule (wf_ctrlTakeAll (wf_sigArrive h))) (wf_ctrlTakeAll (wf_sigArrive h)))

theorem wf_applyTimeStep {d : Word} (h : Memory.wf s = true) : Memory.wf (applyTimeStep s d) = true := by
  unfold applyTimeStep
  exact wf_setMt (wf_overNats (fun _ _ hs => wf_setLink hs) (wf_bump (wf_kept (wf_foldl (fun _ _ hs => wf_endUnanswered hs) h) rfl)))

end Sys2Proof.Machine
end

section
/-! O60, the operations of Sys2Proof/Machine/Comb.lean: what they leave is in canonical form. -/
namespace Sys2Proof.Machine
variable {s : State}

theorem wf_setLight {f : Light → Light} (h : Memory.wf s = true) : Memory.wf (setLight s f) = true := h

theorem wf_setRing_ {k : Nat} {r : Ring} (h : Memory.wf s = true) : Memory.wf (setRing_ s k r) = true := by
  unfold setRing_
  exact wf_setLight h

theorem wf_lineLost {p : Nat} {rx : Bool} {line : Nat} (h : Memory.wf s = true) : Memory.wf (lineLost s p rx line) = true := by
  unfold lineLost
  exact wf_ite (wf_raisePortFail (wf_setLight h)) (wf_raise (wf_setLight h))

theorem wf_withdraw {site : Nat} {w : Word} (h : Memory.wf s = true) : Memory.wf (withdraw s site w) = true := h

theorem wf_recallLosses {bt : Nat} (h : Memory.wf s = true) : Memory.wf (recallLosses s bt) = true := by
  unfold recallLosses
  refine wf_foldl (fun _ _ hs => wf_ite (wf_setRing_ hs) hs) ?_
  exact wf_foldl (fun _ _ hs => wf_withdraw hs) (wf_foldl (fun _ _ hs => wf_ite (wf_setRing_ hs) hs) h)

theorem wf_holdRings {bt : Nat} (h : Memory.wf s = true) : Memory.wf (holdRings s bt) = true := by
  unfold holdRings
  exact wf_setLight h

theorem wf_setComb {c : Nat} {v : Comb} (h : Memory.wf s = true) : Memory.wf (setComb s c v) = true := by
  unfold setComb
  exact wf_setLight h

theorem wf_noteLow {k : Nat} {low : Bool} (h : Memory.wf s = true) : Memory.wf (noteLow s k low) = true := by
  unfold noteLow
  exact wf_setLight h

theorem wf_sampleDrop {k power : Nat} (h : Memory.wf s = true) : Memory.wf (sampleDrop s k power) = true := by
  unfold sampleDrop
  exact wf_ite (wf_setRing_ (wf_noteLow (wf_setLight h))) (wf_noteLow (wf_setLight h))

theorem wf_setCalPort {k : Nat} {v : CalPort} (h : Memory.wf s = true) : Memory.wf (setCalPort s k v) = true := by
  unfold setCalPort
  exact wf_setLight h

theorem wf_samplePeak {id : RingId} {found : Option (Nat × Nat)} (h : Memory.wf s = true) : Memory.wf (samplePeak s id found) = true := by
  unfold samplePeak
  dsimp only
  split
  · exact wf_ite (wf_setRing_ h) (wf_setRing_ h)
  · split
    · exact wf_setRing_ h
    · exact h
  · exact wf_ite (wf_setCalPort (wf_setRing_ h)) h
  · exact h

theorem wf_rejectStep {k : Nat} (h : Memory.wf s = true) : Memory.wf (rejectStep s k) = true := by
  unfold rejectStep
  exact wf_setRing_ (wf_setCalPort h)

theorem wf_samplePrbs {id : RingId} {bits : BitVec 448} (h : Memory.wf s = true) : Memory.wf (samplePrbs s id bits) = true := by
  unfold samplePrbs
  dsimp only
  split
  · exact wf_ite h (wf_ite (wf_setCalPort h) (wf_ite (wf_setCalPort h) (wf_ite (wf_rejectStep h) h)))
  · exact h

theorem wf_trackStep {id : RingId} {up delay : Bool} (h : Memory.wf s = true) : Memory.wf (trackStep s id up delay) = true := by
  unfold trackStep
  exact wf_ite h (wf_ite (wf_ite h (wf_setRing_ h)) (wf_ite h (wf_setRing_ h)))

theorem wf_sample {x1 : Monitor} (h : Memory.wf s = true) : Memory.wf (sample s x1) = true := by
  unfold sample
  split
  · exact wf_noteLow (wf_setComb h)
  · exact wf_noteLow h
  · exact wf_sampleDrop h
  · exact wf_samplePeak h
  · exact wf_setCalPort h
  · exact wf_samplePrbs h
  · exact wf_trackStep h
  · exact wf_trackStep h
  · exact wf_updPort h

@[simp] theorem wf_execMonitorSample {ms : List Monitor} (h : Memory.wf s = true) : keepsForm (execMonitorSample ms s) = true :=
  keepsForm_next (wf_foldl (fun _ _ hs => wf_sample hs) h)

theorem wf_combRecord {c : Nat} (h : Memory.wf s = true) : Memory.wf (combRecord s c) = true := by
  unfold combRecord
  exact wf_queueClassC h

theorem wf_retireComb {c : Nat} (h : Memory.wf s = true) : Memory.wf (retireComb s c) = true := by
  unfold retireComb
  exact wf_combRecord (wf_setComb (wf_ite h (wf_setDom h)))

theorem wf_of_lightSpare {t : State} {bt : Nat} (h : Memory.wf s = true) (ht : lightSpare s bt = some t) : Memory.wf t = true := by
  obtain ⟨c, -, rfl⟩ := Option.map_eq_some_iff.mp ht
  exact h

theorem wf_combFadeMsg {c fade : Nat} {none_ : Bool} (h : Memory.wf s = true) : Memory.wf (combFadeMsg s c fade none_) = true := by
  unfold combFadeMsg
  exact wf_raise h

theorem wf_tileDark {bt : Nat} (h : Memory.wf s = true) : Memory.wf (tileDark s bt) = true := by
  unfold tileDark
  exact wf_holdRings (wf_kept (wf_recallLosses h) rfl)

theorem wf_doCombLoss {c : Nat} (h : Memory.wf s = true) : Memory.wf (doCombLoss s c) = true := by
  unfold doCombLoss
  dsimp only
  refine wf_ite h ?_
  split
  · exact wf_ite h (wf_ite (wf_retireComb (wf_raise (wf_tileDark h))) (wf_raise (wf_tileDark h)))
  · refine wf_ite h ?_
    have hr := wf_retireComb (c := c) h
    split
    · split
      · next hl => exact wf_of_lightSpare hr hl
      · split
        · exact wf_combFadeMsg hr
        · exact hr
    · exact hr

@[simp] theorem wf_execCombLoss {c : Fin 10} (h : Memory.wf s = true) :
    keepsForm (execCombLoss c s) = true := keepsForm_next (wf_doCombLoss h)

theorem wf_doPortLineLoss {p line : Nat} (h : Memory.wf s = true) : Memory.wf (doPortLineLoss s p line) = true := by
  unfold doPortLineLoss
  exact wf_ite h (wf_ite (wf_holdRings h) (wf_ite h (wf_lineLost h)))

@[simp] theorem wf_execPortLineLoss {p : Fin 366} {line : Fin 36} (h : Memory.wf s = true) : keepsForm (execPortLineLoss p line s) = true :=
  keepsForm_next (wf_doPortLineLoss h)

theorem wf_ringLost {p : Nat} {rx : Bool} {line : Nat} (h : Memory.wf s = true) : Memory.wf (ringLost s p rx line) = true := by
  unfold ringLost
  exact wf_ite (wf_lineLost (wf_setRing_ h)) (wf_setLight (wf_setRing_ h))

theorem wf_doRingUnlocked {p : Nat} {rx : Bool} {line : Nat} (h : Memory.wf s = true) : Memory.wf (doRingUnlocked s p rx line) = true := by
  unfold doRingUnlocked
  exact wf_ite h (wf_ite (wf_holdRings h) (wf_ringLost h))

@[simp] theorem wf_execRingUnlocked {r : RingId} (h : Memory.wf s = true) : keepsForm (execRingUnlocked r s) = true :=
  keepsForm_next (wf_doRingUnlocked h)

theorem wf_doHoldTimeout {p : Nat} {rx : Bool} {line : Nat} (h : Memory.wf s = true) : Memory.wf (doHoldTimeout s p rx line) = true := by
  unfold doHoldTimeout
  exact wf_ite (wf_ringLost (wf_setRing_ h)) h

@[simp] theorem wf_execHoldTimeout {r : RingId} (h : Memory.wf s = true) : keepsForm (execHoldTimeout r s) = true :=
  keepsForm_next (wf_doHoldTimeout h)

@[simp] theorem wf_execRingInputDark {bt : Fin 8} {cw : Bool} (h : Memory.wf s = true) : keepsForm (execRingInputDark bt cw s) = true :=
  keepsForm_next (wf_raise h)

theorem wf_heatRing {k : Nat} (h : Memory.wf s = true) : Memory.wf (heatRing s k) = true := by
  unfold heatRing
  dsimp only
  split
  · exact h
  · exact wf_ite h (wf_setRing_ h)

theorem wf_doHeaterUpdate {asks : List (RingId × BitVec 16)} (h : Memory.wf s = true) : Memory.wf (doHeaterUpdate s asks) = true := by
  unfold doHeaterUpdate
  exact wf_ite h (wf_setLight (wf_foldl (fun _ _ hs => wf_heatRing hs) (wf_foldl (fun _ _ hs => wf_setRing_ hs) h)))

@[simp] theorem wf_execHeaterUpdate {asks : List (RingId × BitVec 16)} (h : Memory.wf s = true) :
    keepsForm (execHeaterUpdate asks s) = true :=
  keepsForm_next (wf_doHeaterUpdate h)

theorem wf_ringBoundary {k : Nat} (h : Memory.wf s = true) : Memory.wf (ringBoundary s k) = true := by
  unfold ringBoundary
  exact wf_setRing_ h

theorem wf_ringsBoundary (h : Memory.wf s = true) : Memory.wf (ringsBoundary s) = true := by
  unfold ringsBoundary
  exact wf_foldl (fun _ _ hs => wf_ringBoundary hs) h

theorem wf_ringExit {p : Nat} {rx : Bool} {line : Nat} {failed : Bool} (h : Memory.wf s = true) :
    Memory.wf (ringExit s p rx line failed) = true := by
  unfold ringExit
  exact wf_raise h

theorem wf_resweepRecord {p : Nat} {rx : Bool} {line : Nat} {ok : Bool} (h : Memory.wf s = true) :
    Memory.wf (resweepRecord s p rx line ok) = true := by
  unfold resweepRecord
  exact wf_ite (wf_queueClassC h) h

theorem wf_ringFailed {p : Nat} {rx : Bool} {line : Nat} (h : Memory.wf s = true) : Memory.wf (ringFailed s p rx line) = true := by
  unfold ringFailed
  dsimp only
  split
  · exact wf_raisePortFail (wf_resweepRecord (wf_ringExit (wf_setRing_ (wf_bump h))))
  · refine wf_ite ?_ (wf_resweepRecord (wf_ringExit (wf_setRing_ (wf_bump h))))
    exact wf_setRing_ (wf_resweepRecord (wf_ringExit (wf_setRing_ (wf_bump h))))

theorem wf_sweepOn {w : RingWindow} (h : Memory.wf s = true) : Memory.wf (sweepOn s w) = true := by
  unfold sweepOn
  dsimp only
  split
  · exact wf_setRing_ h
  · exact wf_ite (wf_ringFailed (wf_setRing_ h)) (wf_setRing_ h)

theorem wf_lockRing {w : RingWindow} (h : Memory.wf s = true) : Memory.wf (lockRing s w) = true := by
  unfold lockRing
  exact wf_resweepRecord (wf_setRing_ h)

theorem wf_wrongOn {w : RingWindow} (h : Memory.wf s = true) : Memory.wf (wrongOn s w) = true := by
  unfold wrongOn
  refine wf_ite h ?_
  split <;> exact wf_setRing_ h

theorem wf_judgeWindow {w : RingWindow} (h : Memory.wf s = true) : Memory.wf (judgeWindow s w) = true := by
  unfold judgeWindow
  dsimp only
  split
  · exact h
  · split
    · exact wf_ite (wf_sweepOn (wf_setRing_ h)) h
    · split
      · exact wf_ite (wf_lockRing (wf_setRing_ h)) (wf_sweepOn (wf_setRing_ h))
      · exact wf_ite (wf_lockRing (wf_setRing_ h)) (wf_sweepOn (wf_setRing_ h))
      · split
        · exact wf_setRing_ (wf_setRing_ h)
        · split
          · exact wf_setRing_ (wf_setRing_ h)
          · refine wf_ite ?_ (wf_ringExit (wf_setRing_ (wf_bump (wf_setRing_ h))))
            exact wf_raisePortFail (wf_ringExit (wf_setRing_ (wf_bump (wf_setRing_ h))))
      · exact wf_wrongOn (wf_setRing_ h)
      · exact wf_setRing_ h

@[simp] theorem wf_execToneWindowEnd {ws : List RingWindow} (h : Memory.wf s = true) : keepsForm (execToneWindowEnd ws s) = true :=
  keepsForm_next (wf_ite h (wf_ite (wf_setLight h) (wf_foldl (fun _ _ hs => wf_judgeWindow hs) h)))

theorem wf_setCal {f : Cal → Cal} (h : Memory.wf s = true) : Memory.wf (setCal s f) = true := by
  unfold setCal
  exact wf_setLight h

theorem wf_sendCalStep {side step : Nat} {t : Word} (h : Memory.wf s = true) : Memory.wf (sendCalStep s side step t) = true := by
  unfold sendCalStep
  exact wf_ite (wf_setCal (wf_ctrlSend h)) (wf_overNats (fun _ _ hs => wf_queueVc3 hs) (wf_setCal (wf_ctrlSend h)))

theorem wf_doCycleStart (h : Memory.wf s = true) : Memory.wf (doCycleStart s) = true := by
  unfold doCycleStart
  exact wf_ite h (wf_ite (wf_setCal (wf_setCal h)) (wf_sendCalStep (wf_setCal h)))

@[simp] theorem wf_execCalCycleStart (h : Memory.wf s = true) : keepsForm (execCalCycleStart s) = true := keepsForm_next (wf_doCycleStart h)

@[simp] theorem wf_execCalStep {src : BitVec 7} {seq : BitVec 32} {step : Fin 35} {rx : Bool} {t : Word} (h : Memory.wf s = true) :
    keepsForm (execCalStep src seq step rx t s) = true :=
  keepsForm_next (wf_ite (wf_schedule (wf_ctrlTakeAll (wf_sigArrive h))) (wf_ctrlTakeAll (wf_sigArrive h)))

theorem wf_setCalLine {p : Nat} {rx : Bool} {line : Option Nat} (h : Memory.wf s = true) : Memory.wf (setCalLine s p rx line) = true := by
  unfold setCalLine
  exact wf_updPort h

theorem wf_applyCalStart {rx : Bool} {step : Nat} (h : Memory.wf s = true) : Memory.wf (applyCalStart s rx step) = true := by
  unfold applyCalStart
  exact wf_overNats (fun _ _ hs => wf_ite hs (wf_setCalPort (wf_setCalLine hs))) (wf_setCal h)

theorem wf_doLinkCal {l : Nat} {p : FabPacket} (h : Memory.wf s = true) : Memory.wf (doLinkCal s l p) = true := by
  unfold doLinkCal
  dsimp only
  split
  · exact wf_ite (wf_endStepAt (wf_setLink (wf_freeInput h))) (wf_setLink (wf_freeInput h))
  · exact wf_setLink (wf_freeInput h)

@[simp] theorem wf_execLinkCal {l : Fin 16} {p : FabPacket} (h : Memory.wf s = true) : keepsForm (execLinkCal l p s) = true :=
  keepsForm_next (wf_ite (wf_doLinkCal h) h)

theorem wf_transmitFrame {k f : Nat} (h : Memory.wf s = true) : Memory.wf (transmitFrame s k f) = true := by
  unfold transmitFrame
  dsimp only
  split
  · exact wf_setRing_ (wf_setCalPort h)
  · refine wf_ite (wf_ite (wf_setCalPort h) (wf_rejectStep (wf_setCalPort h))) ?_
    split
    · exact wf_setRing_ (wf_setCalPort h)
    · exact wf_setCalPort h

theorem wf_receiveFrame {k f : Nat} (h : Memory.wf s = true) : Memory.wf (receiveFrame s k f) = true := by
  unfold receiveFrame
  dsimp only
  split
  · split
    · exact wf_setRing_ h
    · exact wf_rejectStep h
  · split
    · split
      · exact wf_setRing_ h
      · exact wf_rejectStep h
    · split
      · exact wf_setRing_ h
      · exact wf_setRing_ h
      · exact h

theorem wf_stepFrame {k f : Nat} (h : Memory.wf s = true) : Memory.wf (stepFrame s k f) = true := by
  unfold stepFrame
  exact wf_ite h (wf_ite (wf_setRing_ (wf_rejectStep h)) (wf_ite (wf_transmitFrame h) (wf_receiveFrame h)))

theorem wf_stepKeys {f : Option Nat} {keys : List Nat} (h : Memory.wf s = true) : Memory.wf (stepKeys s f keys) = true := by
  unfold stepKeys
  split
  · exact wf_ite (wf_overNats (fun _ _ hs => wf_stepFrame hs) h) h
  · exact h

theorem wf_stepFrames (h : Memory.wf s = true) : Memory.wf (stepFrames s) = true := by
  unfold stepFrames
  exact wf_stepKeys h

theorem wf_calResult {k : Nat} (h : Memory.wf s = true) : Memory.wf (calResult s k) = true := by
  unfold calResult
  exact wf_ite h (wf_ite (wf_setCal (wf_bump h)) (wf_ite (wf_raise (wf_setCal (wf_bump h))) (wf_setCal (wf_bump h))))

theorem wf_dropSteps {p : Nat} (h : Memory.wf s = true) : Memory.wf (dropSteps s p) = true := by
  unfold dropSteps
  exact wf_setCal h

theorem wf_beginSide {p : Nat} {rx : Bool} (h : Memory.wf s = true) : Memory.wf (beginSide s p rx) = true := by
  unfold beginSide
  exact wf_overNats (fun _ _ hs => wf_setCalPort hs) (wf_setCal (wf_dropSteps h))

theorem wf_trainPort {p : Nat} (h : Memory.wf s = true) : Memory.wf (trainPort s p) = true := by
  unfold trainPort
  split
  · exact h
  · dsimp only
    split
    · exact wf_stepKeys h
    · split
      · exact wf_beginSide (wf_overNats (fun _ _ hs => wf_calResult hs) (wf_stepKeys h))
      · split
        · exact wf_setLink (wf_setCal (wf_dropSteps (wf_overNats (fun _ _ hs => wf_calResult hs) (wf_stepKeys h))))
        · exact wf_setCal (wf_dropSteps (wf_overNats (fun _ _ hs => wf_calResult hs) (wf_stepKeys h)))

theorem wf_trainFrames (h : Memory.wf s = true) : Memory.wf (trainFrames s) = true := by
  unfold trainFrames
  extract_lets s1
  have h1 : Memory.wf s1 = true := wf_overNats (fun _ _ hs => wf_trainPort hs) h
  clear_value s1
  exact wf_ite h1 (wf_ite (wf_ite (wf_overNats (fun _ _ hs => wf_beginSide hs) (wf_setCal h1)) (wf_ite (wf_setCal h1) h1))
    (wf_overNats (fun _ _ hs => wf_ite (wf_beginSide hs) hs) h1))

theorem wf_doCalStepEnd (h : Memory.wf s = true) : Memory.wf (doCalStepEnd s) = true := by
  unfold doCalStepEnd
  dsimp only
  split
  · exact h
  · split
    · exact h
    · refine wf_setCal (wf_overNats (fun _ _ hs => ?_) (wf_overNats (fun _ _ hs => wf_calResult hs) (wf_stepFrames h)))
      exact wf_ite hs (wf_ite (wf_setCal hs) (wf_setCalLine hs))

@[simp] theorem wf_execCalStepEnd {last : List Monitor} (h : Memory.wf s = true) : keepsForm (execCalStepEnd last s) = true :=
  keepsForm_next (wf_doCalStepEnd (wf_foldl (fun _ _ hs => wf_sample hs) h))

theorem wf_sendHolds {t : Word} (h : Memory.wf s = true) : Memory.wf (sendHolds s t) = true := by
  unfold sendHolds
  exact wf_overNats (fun _ _ hs => wf_ctrlSend hs) h

theorem wf_excludeFailed {ports : List Nat} {t : Word} (h : Memory.wf s = true) : Memory.wf (excludeFailed s ports t) = true := by
  unfold excludeFailed
  exact wf_overNats (fun _ _ hs => wf_ctrlSend hs) h

theorem wf_nameNext {t : Word} (h : Memory.wf s = true) : Memory.wf (nameNext s t) = true := by
  unfold nameNext
  dsimp only
  split
  · exact wf_ite (wf_setCal h) (wf_ite (wf_setCal h) (wf_sendCalStep h))
  · exact wf_ite h (wf_ite (wf_setCal (wf_setCal h)) (wf_sendCalStep (wf_setCal h)))

theorem wf_missedStep (h : Memory.wf s = true) : Memory.wf (missedStep s) = true := by
  unfold missedStep
  split
  · exact wf_ite (wf_setCal h) h
  · exact h

theorem wf_resumeCal (h : Memory.wf s = true) : Memory.wf (resumeCal s) = true := by
  unfold resumeCal
  dsimp only
  split
  · exact wf_missedStep h
  · exact wf_ite (wf_missedStep h) (wf_ite (wf_setCal (wf_missedStep h)) (wf_sendCalStep (wf_setCal (wf_missedStep h))))

theorem wf_calAhead (h : Memory.wf s = true) : Memory.wf (calAhead s) = true := by
  unfold calAhead
  dsimp only
  split
  · exact wf_resumeCal (wf_trainFrames h)
  · split
    · exact wf_excludeFailed (wf_sendHolds (wf_stepFrames (wf_trainFrames h)))
    · split
      · exact wf_nameNext (wf_stepFrames (wf_trainFrames h))
      · exact wf_ite (wf_excludeFailed (wf_sendHolds (wf_stepFrames (wf_trainFrames h)))) (wf_stepFrames (wf_trainFrames h))

@[simp] theorem wf_execSwingHold {src : BitVec 7} {seq : BitVec 32} {p : Fin 366} {rx : Bool} {line : Fin 36} {t : Word}
  (h : Memory.wf s = true) :
    keepsForm (execSwingHold src seq p rx line t s) = true :=
  keepsForm_next (wf_ite (wf_setCal (wf_ctrlTakeAll (wf_sigArrive h))) (wf_ctrlTakeAll (wf_sigArrive h)))

theorem wf_doResweepEnd {p : Nat} {rx : Bool} (h : Memory.wf s = true) : Memory.wf (doResweepEnd s p rx) = true := by
  unfold doResweepEnd
  split
  · exact h
  · exact wf_ite h (wf_ctrlSend (wf_ite h (wf_ctrlSend h)))

@[simp] theorem wf_execResweepEnd {p : Fin 366} {rx : Bool} (h : Memory.wf s = true) : keepsForm (execResweepEnd p rx s) = true :=
  keepsForm_next (wf_doResweepEnd h)

@[simp] theorem wf_execSwingRelease {src : BitVec 7} {seq : BitVec 32} {p : Fin 366} {rx : Bool} {t : Word} (h : Memory.wf s = true) :
    keepsForm (execSwingRelease src seq p rx t s) = true :=
  keepsForm_next (wf_ite (wf_schedule (wf_ctrlTakeAll (wf_sigArrive h))) (wf_ctrlTakeAll (wf_sigArrive h)))

theorem wf_applySwingRelease {p : Nat} {rx : Bool} (h : Memory.wf s = true) : Memory.wf (applySwingRelease s p rx) = true := by
  unfold applySwingRelease
  exact wf_setCal (wf_setCalLine h)

theorem wf_endCalAt {p : Nat} (h : Memory.wf s = true) : Memory.wf (endCalAt s p) = true := by
  unfold endCalAt
  exact wf_setCal (wf_setCalLine (wf_setCalLine h))

theorem wf_voidCal (h : Memory.wf s = true) : Memory.wf (voidCal s) = true := by
  unfold voidCal
  exact wf_ite (wf_setLight h) (wf_setCal (wf_overNats (fun _ _ hs => wf_endCalAt hs) (wf_setLight h)))

theorem wf_restoreSide {p : Nat} {rx : Bool} {line : Nat} {bs : List Byte} (h : Memory.wf s = true) :
    Memory.wf (restoreSide s p rx line bs) = true := by
  unfold restoreSide
  exact wf_ite h (wf_ite (wf_bump h) (wf_setRing_ h))

theorem wf_doCalLive {p : Nat} {bs : List Byte} (h : Memory.wf s = true) : Memory.wf (doCalLive s p bs).2 = true := by
  unfold doCalLive
  split
  · exact h
  · exact wf_overNats (fun _ _ hs => wf_restoreSide (wf_restoreSide hs)) h

@[simp] theorem wf_execCalLive {p : Fin 366} {bs : List Byte} (h : Memory.wf s = true) : keepsForm (execCalLive p bs s) = true :=
  keepsForm_next (wf_doCalLive h)

theorem wf_doFade {c : Nat} {taps : List Nat} (h : Memory.wf s = true) : Memory.wf (doFade s c taps) = true := by
  unfold doFade
  extract_lets v drive f light retire v1 s1
  refine wf_ite h ?_
  have h1 : Memory.wf s1 = true := wf_bumpFree (wf_setComb h)
  split
  · exact wf_ite (wf_retireComb h1) h1
  · extract_lets lit s2
    have h2 : Memory.wf s2 = true := wf_ite (wf_setComb h1) h1
    refine wf_ite h2 ?_
    split
    · next hl => exact wf_ite (wf_combFadeMsg (wf_of_lightSpare h2 hl)) (wf_of_lightSpare h2 hl)
    · exact wf_combFadeMsg h2

@[simp] theorem wf_execFadeEvaluation {c : Fin 10} {lanes others : List (BitVec 16)} (h : Memory.wf s = true) :
    keepsForm (execFadeEvaluation c lanes others s) = true :=
  keepsForm_next (wf_doFade h)

theorem wf_sendCombSwitch {c bt : Nat} {sudden : Bool} {t : Word} (h : Memory.wf s = true) :
    Memory.wf (sendCombSwitch s c bt sudden t) = true := by
  unfold sendCombSwitch
  exact wf_ctrlSend (wf_bump h)

theorem wf_fullDrive {c : Nat} (h : Memory.wf s = true) : Memory.wf (fullDrive s c) = true := by
  unfold fullDrive
  exact wf_setComb h

theorem wf_doSpareReady {c : Nat} (h : Memory.wf s = true) : Memory.wf (doSpareReady s c) = true := by
  unfold doSpareReady
  dsimp only
  split
  · exact wf_sendCombSwitch (wf_fullDrive h)
  · exact wf_fullDrive h
  · exact wf_fullDrive h
  · exact h

@[simp] theorem wf_execSpareReady {c : Fin 10} (h : Memory.wf s = true) :
    keepsForm (execSpareReady c s) = true := keepsForm_next (wf_doSpareReady h)

theorem wf_takeCombSwitch {src : BitVec 7} {seq : BitVec 32} {c bt : Nat} {sudden : Bool} {t : Word} (h : Memory.wf s = true) :
    Memory.wf (takeCombSwitch s src seq c bt sudden t) = true := by
  unfold takeCombSwitch
  exact wf_ite (wf_schedule (wf_ctrlTakeAll (wf_sigArrive h))) (wf_ctrlTakeAll (wf_sigArrive h))

@[simp] theorem wf_execCombSwitchPlanned {src : BitVec 7} {seq : BitVec 32} {c : Fin 10} {bt : Fin 8} {t : Word} (h : Memory.wf s = true) :
    keepsForm (execCombSwitchPlanned src seq c bt t s) = true :=
  keepsForm_next (wf_takeCombSwitch h)

@[simp] theorem wf_execCombSwitchSudden {src : BitVec 7} {seq : BitVec 32} {c : Fin 10} {bt : Fin 8} {t : Word} (h : Memory.wf s = true) :
    keepsForm (execCombSwitchSudden src seq c bt t s) = true :=
  keepsForm_next (wf_takeCombSwitch h)

theorem wf_endTileSteps {bt : Nat} (h : Memory.wf s = true) : Memory.wf (endTileSteps s bt) = true := by
  unfold endTileSteps
  exact wf_foldl (fun _ _ hs => wf_setCalPort hs) h

theorem wf_combReplaced {o : Nat} {dead : Bool} (h : Memory.wf s = true) : Memory.wf (combReplaced s o dead) = true := by
  unfold combReplaced
  exact wf_ite (wf_retireComb h) (wf_combRecord (wf_setComb h))

theorem wf_applyCombSwitch {bt c : Nat} {sudden : Bool} (h : Memory.wf s = true) : Memory.wf (applyCombSwitch s bt c sudden) = true := by
  unfold applyCombSwitch
  dsimp only
  split
  · exact h
  · refine wf_combRecord ?_
    split
    · refine wf_endTileSteps (wf_setLight (wf_kept ?_ rfl))
      split
      · exact h
      · exact wf_combReplaced h
    · refine wf_setComb ?_
      split
      · exact h
      · exact wf_combReplaced h

end Sys2Proof.Machine
end

section
/-! O60, the operations of Sys2Proof/Machine/Power.lean: what they leave is in canonical form. -/
namespace Sys2Proof.Machine
variable {s : State}

theorem wf_setPow {f : Supply → Supply} (h : Memory.wf s = true) : Memory.wf (setPow s f) = true := h

theorem wf_crossings (h : Memory.wf s = true) : Memory.wf (crossings s) = true := by
  unfold crossings
  exact wf_overNats (fun _ _ hs => wf_ite (wf_bump (wf_setPow hs)) hs) h

theorem wf_alertRelease (h : Memory.wf s = true) : Memory.wf (alertRelease s) = true := by
  unfold alertRelease
  exact wf_ite h h

theorem wf_doInputReading {rs : List Nat} {bus : Nat} (h : Memory.wf s = true) : Memory.wf (doInputReading s rs bus) = true := by
  unfold doInputReading
  extract_lets vs s1 v w s2 s3 s4
  have h1 : Memory.wf s1 = true := wf_setPow h
  have h2 : Memory.wf s2 = true := wf_ite (wf_alertRelease h1) h1
  have h3 : Memory.wf s3 = true := wf_setPow h2
  have h4 : Memory.wf s4 = true := wf_ite h3 (wf_crossings h3)
  exact wf_ite h (wf_ite (wf_ite (wf_alertRelease h1) h1) (wf_ite h4 h4))

@[simp] theorem wf_execInputReading {rs : List (BitVec 16)} {bus : BitVec 16} (h : Memory.wf s = true) :
    keepsForm (execInputReading rs bus s) = true :=
  keepsForm_next (wf_doInputReading h)

theorem wf_supplyMsg {d : Nat} (h : Memory.wf s = true) : Memory.wf (supplyMsg s d) = true := by
  unfold supplyMsg
  exact wf_raise h

theorem wf_doInputDisconnect (h : Memory.wf s = true) : Memory.wf (doInputDisconnect s) = true := by
  unfold doInputDisconnect
  split
  · exact wf_ite h (wf_supplyMsg (wf_bump (wf_setPow h)))
  · exact h

@[simp] theorem wf_execInputDisconnect (h : Memory.wf s = true) :
    keepsForm (execInputDisconnect s) = true := keepsForm_next (wf_doInputDisconnect h)

theorem wf_doInputReconnect (h : Memory.wf s = true) : Memory.wf (doInputReconnect s) = true := by
  unfold doInputReconnect
  split
  · exact wf_ite (wf_setPow h) h
  · exact h

@[simp] theorem wf_execInputReconnect (h : Memory.wf s = true) :
    keepsForm (execInputReconnect s) = true := keepsForm_next (wf_doInputReconnect h)

theorem wf_doOvervoltage (h : Memory.wf s = true) : Memory.wf (doOvervoltage s) = true := by
  unfold doOvervoltage
  exact wf_ite (wf_supplyMsg (wf_setPow h)) h

@[simp] theorem wf_execOvervoltageNotice (h : Memory.wf s = true) :
    keepsForm (execOvervoltageNotice s) = true := keepsForm_next (wf_doOvervoltage h)

theorem wf_doStageFail {n : Nat} (h : Memory.wf s = true) : Memory.wf (doStageFail s n) = true := by
  unfold doStageFail
  exact wf_ite h (wf_raise (wf_bump (wf_setPow h)))

@[simp] theorem wf_execStageFail {n : Fin 12} (h : Memory.wf s = true) :
    keepsForm (execStageFail n s) = true := keepsForm_next (wf_doStageFail h)

theorem wf_doPowerReview {w : Nat} (h : Memory.wf s = true) : Memory.wf (doPowerReview s w) = true := by
  unfold doPowerReview
  exact wf_ite h (wf_ite (wf_bump (wf_setPow (wf_setPow h))) (wf_setPow h))

@[simp] theorem wf_execPowerLimitReview {w : BitVec 16} (h : Memory.wf s = true) : keepsForm (execPowerLimitReview w s) = true :=
  keepsForm_next (wf_doPowerReview h)

theorem wf_doPowerRelease {w : Nat} (h : Memory.wf s = true) : Memory.wf (doPowerRelease s w) = true := by
  unfold doPowerRelease
  exact wf_ite h (wf_setPow h)

@[simp] theorem wf_execPowerLimitRelease {w : BitVec 16} (h : Memory.wf s = true) : keepsForm (execPowerLimitRelease w s) = true :=
  keepsForm_next (wf_doPowerRelease h)

theorem wf_computeDark {n : Nat} (h : Memory.wf s = true) : Memory.wf (computeDark s n) = true := by
  unfold computeDark
  extract_lets s1 s2 s3
  have h1 : Memory.wf s1 = true := by
    refine wf_overNats (fun t u hu => wf_updTile hu (fun x hx => ?_)) h
    exact wf_tile_mk wf_lostStore (wf_deep_of_tile (t := x) hx)
  have h3 : Memory.wf s3 = true := wf_overNats (fun _ _ hs => wf_setInfl hs) (wf_setDie h1)
  clear_value s3
  exact wf_dropPaths h3

theorem wf_deepLost {n : Nat} (h : Memory.wf s = true) : Memory.wf (deepLost s n) = true := by
  unfold deepLost
  exact wf_bumpFree (wf_overNats (fun _ _ hs => wf_updTile hs (fun _ hx => wf_tile_deep hx wf_lostStore)) h)

theorem wf_stackDark {m : Nat} (h : Memory.wf s = true) : Memory.wf (stackDark s m) = true := wf_updStack h (fun _ _ => rfl)

theorem wf_enterRefresh {m : Nat} (h : Memory.wf s = true) : Memory.wf (enterRefresh s m) = true := by
  unfold enterRefresh
  exact wf_settleStack (wf_updStack h (fun _ hst => hst))

theorem wf_bankRings {d state : Nat} (h : Memory.wf s = true) : Memory.wf (bankRings s d state) = true := by
  unfold bankRings
  exact wf_foldl (fun _ _ hs => wf_overNats (fun _ _ hs => wf_setRing_ hs) (wf_updPort hs)) h

theorem wf_combPark {c state : Nat} (h : Memory.wf s = true) : Memory.wf (combPark s c state) = true := by
  unfold combPark
  exact wf_ite h (wf_setComb h)

theorem wf_domDown {d : Nat} {v : DomSt} (h : Memory.wf s = true) : Memory.wf (domDown s d v) = true := by
  unfold domDown
  refine wf_ite h ?_
  extract_lets s1 s2 _ s3 s4 s5
  have h1 : Memory.wf s1 = true := wf_setDom h
  have h2 : Memory.wf s2 = true := wf_ite h1 h1
  have h3 : Memory.wf s3 = true := wf_ite h2 h2
  have h4 : Memory.wf s4 = true := wf_computeDark h3
  have h5 : Memory.wf s5 = true := wf_fabricDieLost h3
  clear_value s3 s4 s5
  refine wf_ite ?_ (wf_ite (wf_ite h3 (wf_deepLost h3)) (wf_ite (wf_ite (wf_enterRefresh h3) (wf_stackDark h3))
    (wf_ite (wf_bankRings (wf_foldl (fun _ _ hs => wf_endCalAt hs) h3)) (wf_ite ?_ (wf_ite (wf_hostDieLost h3) (wf_combPark h3))))))
  · split
    · exact wf_doJobStopped h4
    · exact h4
  · split
    · exact wf_doJobStopped h5
    · exact h5

theorem wf_domUp {d : Nat} (h : Memory.wf s = true) : Memory.wf (domUp s d) = true := by
  unfold domUp
  refine wf_ite h ?_
  split
  · exact wf_wakeFromOff h
  · exact wf_setDom h
  · exact wf_setDom h
  · exact wf_setDom h
  · exact h

theorem wf_doDomainOn {d : Nat} (h : Memory.wf s = true) : Memory.wf (doDomainOn s d) = true := by
  unfold doDomainOn
  split
  · split
    · exact h
    · dsimp only
      split
      · exact wf_setDie (wf_setDom h)
      · split
        · exact wf_ite (wf_wakeDeep (wf_setDom h)) (wf_setDom h)
        · split
          · exact wf_updStack (wf_setDom h) (fun _ hst => hst)
          · split
            · exact wf_bankRings (wf_setDom h)
            · split
              · exact wf_overNats (fun _ _ hs => wf_ite (wf_startTraining hs) hs) (wf_setDom h)
              · split
                · exact wf_hostBack (wf_setDom h)
                · refine wf_ite (wf_setComb (wf_setDom h)) ?_
                  exact wf_ite (wf_fullDrive (wf_setComb (wf_setDom h))) (wf_setComb (wf_setComb (wf_setDom h)))
  · exact h

@[simp] theorem wf_execDomainOn {d : Fin 92} (h : Memory.wf s = true) :
    keepsForm (execDomainOn d s) = true := keepsForm_next (wf_doDomainOn h)

theorem wf_combDark {c : Nat} (h : Memory.wf s = true) : Memory.wf (combDark s c) = true := by
  unfold combDark
  split
  · exact wf_tileDark h
  · exact h

theorem wf_domLost {d : Nat} {v : DomSt} (h : Memory.wf s = true) : Memory.wf (domLost s d v) = true := by
  unfold domLost
  dsimp only
  split
  · exact wf_domDown (wf_domDown h)
  · split
    · exact wf_domDown (wf_domDown h)
    · exact wf_ite (wf_updStack (wf_domDown h) (fun _ hst => wf_stackOut hst)) (wf_ite (wf_domDown h) (wf_combDark (wf_domDown h)))

theorem wf_doDomainFault {d : Nat} (h : Memory.wf s = true) : Memory.wf (doDomainFault s d) = true := by
  unfold doDomainFault
  exact wf_ite h (wf_raise (wf_domLost h))

@[simp] theorem wf_execDomainFault {d : Fin 92} (h : Memory.wf s = true) : keepsForm (execDomainFault d s) = true :=
  keepsForm_next (wf_doDomainFault h)

theorem wf_shedHost {n : Nat} (h : Memory.wf s = true) : Memory.wf (shedHost s n) = true := by
  unfold shedHost
  exact wf_ite (wf_domDown (wf_ctrlSend h)) h

theorem wf_shedCombs (h : Memory.wf s = true) : Memory.wf (shedCombs s) = true := by
  unfold shedCombs
  refine wf_overNats (fun _ _ hs => ?_) h
  split
  · exact wf_ite hs (wf_domDown hs)
  · exact wf_ite (wf_domDown hs) hs

theorem wf_shedActions {n : Nat} (h : Memory.wf s = true) : Memory.wf (shedActions s n) = true := by
  unfold shedActions
  split
  · refine wf_overNats (fun _ _ hs => wf_ite (wf_domDown hs) hs) ?_
    exact wf_overNats (fun _ _ hs => wf_domDown hs) (wf_overNats (fun _ _ hs => wf_domDown hs) (wf_endAny h))
  · exact wf_shedHost h
  · refine wf_overNats (fun _ _ hs => wf_ite (wf_domDown hs) (wf_domDown (wf_domDown hs))) ?_
    exact wf_shedCombs (wf_overNats (fun _ _ hs => wf_ite (wf_domDown hs) hs) (wf_shedHost (wf_overNats (fun _ _ hs => wf_domDown hs) h)))
  · exact h

theorem wf_doShedFalling (h : Memory.wf s = true) : Memory.wf (doShedFalling s) = true := by
  unfold doShedFalling
  exact wf_ite h (wf_supplyMsg (wf_shedActions (wf_setPow h)))

@[simp] theorem wf_execShedFalling (h : Memory.wf s = true) : keepsForm (execShedFalling s) = true := keepsForm_next (wf_doShedFalling h)

theorem wf_shedUndo {n : Nat} (h : Memory.wf s = true) : Memory.wf (shedUndo s n) = true := by
  unfold shedUndo
  split
  · exact wf_overNats (fun _ _ hs => wf_domUp hs) (wf_overNats (fun _ _ hs => wf_domUp hs) (wf_overNats (fun _ _ hs => wf_domUp hs) h))
  · exact wf_domUp h
  · refine wf_overNats (fun _ _ hs => wf_domUp hs) ?_
    refine wf_domUp (wf_overNats (fun _ _ hs => wf_ite (wf_domUp hs) hs) ?_)
    exact wf_overNats (fun _ _ hs => wf_domUp hs) (wf_overNats (fun _ _ hs => wf_ite (wf_domUp hs) hs) h)
  · exact h

theorem wf_doShedRising (h : Memory.wf s = true) : Memory.wf (doShedRising s) = true := by
  unfold doShedRising
  exact wf_ite (wf_ite (wf_setPow h) h) (wf_shedUndo (wf_setPow (wf_ite (wf_setPow h) h)))

@[simp] theorem wf_execShedRising (h : Memory.wf s = true) : keepsForm (execShedRising s) = true := keepsForm_next (wf_doShedRising h)

end Sys2Proof.Machine
end

section
/-! O60, the operations of Sys2Proof/Machine/Heat.lean: what they leave is in canonical form. -/
namespace Sys2Proof.Machine
variable {s : State}

theorem wf_setBarOf {n : Nat} {b : Barista} (h : Memory.wf s = true) : Memory.wf (setBarOf s n b) = true := h

theorem wf_stopCompaction {n : Nat} (h : Memory.wf s = true) : Memory.wf (stopCompaction s n) = true := by
  unfold stopCompaction
  exact wf_setCarafe h

theorem wf_stopWrites {n : Nat} (h : Memory.wf s = true) : Memory.wf (stopWrites s n) = true := by
  unfold stopWrites
  exact wf_setCarafe h

theorem wf_silence {n cause : Nat} (h : Memory.wf s = true) : Memory.wf (silence s n cause) = true := by
  unfold silence
  exact wf_ite h (wf_ite (wf_ite (wf_setRole h) h) (wf_bump (wf_setRole (wf_setBarOf (wf_stopWrites h)))))

theorem wf_thermEvent {site what p : Nat} (h : Memory.wf s = true) : Memory.wf (thermEvent s site what p) = true := by
  unfold thermEvent
  exact wf_raise h

theorem wf_addPause {site step what from_ : Nat} (h : Memory.wf s = true) : Memory.wf (addPause s site step what from_) = true := by
  unfold addPause
  exact wf_ite (wf_bump (wf_setTherm h)) (wf_thermEvent (wf_bump (wf_setTherm h)))

theorem wf_tripOutcome {site : Nat} (h : Memory.wf s = true) : Memory.wf (tripOutcome s site) = true := by
  unfold tripOutcome
  split
  · exact wf_doStageFail h
  · exact wf_foldl (fun _ _ hs => wf_ite hs (wf_domLost hs)) h
  · exact wf_silence h
  · exact wf_silence h
  · split
    · exact wf_domLost h
    · exact h

theorem wf_tripDie {site : Nat} (h : Memory.wf s = true) : Memory.wf (tripDie s site) = true := by
  unfold tripDie
  exact wf_ite h (wf_raise (wf_tripOutcome (wf_bump (wf_setTherm h))))

theorem wf_doTrip {site : Nat} (h : Memory.wf s = true) : Memory.wf (doTrip s site) = true := by
  unfold doTrip
  exact wf_foldl (fun _ _ hs => wf_tripDie hs) (wf_tripDie h)

theorem wf_thermalCycle {site : Nat} {v : ℤ} (h : Memory.wf s = true) : Memory.wf (thermalCycle s site v) = true := by
  unfold thermalCycle
  dsimp only
  split
  · exact wf_ite (wf_setTherm h) (wf_setTherm h)
  · exact wf_ite h (wf_setTherm h)

theorem wf_checkSample {site : Nat} {v : Int} {rate : Option Int} (h : Memory.wf s = true) :
    Memory.wf (checkSample s site v rate) = true := by
  unfold checkSample
  extract_lets t atLeast warnN actN act limit warn tripN s1 s2 s3 s4
  have h1 : Memory.wf s1 = true := wf_setTherm h
  have h2 : Memory.wf s2 = true := wf_ite (wf_thermEvent (wf_bump h1)) h1
  have h3 : Memory.wf s3 = true := wf_ite (wf_bump h2) h2
  have h4 : Memory.wf s4 = true := wf_ite (wf_ite (wf_addPause h3) (wf_ite (wf_addPause h3) h3)) h3
  exact wf_ite (wf_doTrip h4) h4

theorem wf_doSample {site : Nat} {v : Option ℤ} {power : Nat} {pc : ℤ} (h : Memory.wf s = true) :
    Memory.wf (doSample s site v power pc) = true := by
  unfold doSample
  dsimp only
  split
  · exact wf_setTherm (wf_setTherm h)
  · exact wf_ite (wf_setTherm (wf_setTherm h)) (wf_checkSample (wf_thermalCycle (wf_setTherm (wf_setTherm h))))

@[simp] theorem wf_execSensorSample {site : Fin 100} {v : Option (BitVec 16)} {power pc : BitVec 32} (h : Memory.wf s = true) :
    keepsForm (execSensorSample site v power pc s) = true :=
  keepsForm_next (wf_ite (wf_doSample h) h)

theorem wf_doThermalReview {site : Nat} (h : Memory.wf s = true) : Memory.wf (doThermalReview s site) = true := by
  unfold doThermalReview
  dsimp only
  split
  · exact h
  · exact wf_ite h (wf_ite (wf_addPause (wf_setTherm h)) (wf_setTherm h))

@[simp] theorem wf_execThermalReview {site : Fin 100} (h : Memory.wf s = true) : keepsForm (execThermalReview site s) = true :=
  keepsForm_next (wf_doThermalReview h)

theorem wf_doThermalRelease {site : Nat} (h : Memory.wf s = true) : Memory.wf (doThermalRelease s site) = true := by
  unfold doThermalRelease
  dsimp only
  split
  · exact h
  · exact wf_ite h (wf_ite (wf_thermEvent (wf_setTherm (wf_setTherm h))) (wf_setTherm h))

@[simp] theorem wf_execThermalRelease {site : Fin 100} (h : Memory.wf s = true) : keepsForm (execThermalRelease site s) = true :=
  keepsForm_next (wf_doThermalRelease h)

theorem wf_doDramTemp {m : Nat} {ts : List ℤ} (h : Memory.wf s = true) : Memory.wf (doDramTemp s m ts) = true := by
  unfold doDramTemp
  split
  · exact h
  · exact wf_ite (wf_doTrip (wf_setTherm (wf_updStack h (fun _ hst => hst)))) (wf_setTherm (wf_updStack h (fun _ hst => hst)))

@[simp] theorem wf_execDramTempRead {md : Fin 24} {ts : List (BitVec 16)} (h : Memory.wf s = true) :
    keepsForm (execDramTempRead md ts s) = true :=
  keepsForm_next (wf_ite (wf_doDramTemp h) h)

theorem wf_breakSensor {site state : Nat} (h : Memory.wf s = true) : Memory.wf (breakSensor s site state) = true := by
  unfold breakSensor
  exact wf_ite (wf_raise (wf_bump (wf_setTherm h))) (wf_thermEvent (wf_raise (wf_bump (wf_setTherm h))))

theorem wf_doSensorBroken {site how : Nat} (h : Memory.wf s = true) : Memory.wf (doSensorBroken s site how) = true := by
  unfold doSensorBroken
  refine wf_ite h (wf_ite ?_ (wf_ite (wf_breakSensor h) h))
  split
  · exact wf_ite (wf_thermEvent (wf_setTherm h)) h
  · exact h

@[simp] theorem wf_execSensorBroken {site : Fin 100} {how : Fin 3} (h : Memory.wf s = true) :
    keepsForm (execSensorBroken site how s) = true :=
  keepsForm_next (wf_doSensorBroken h)

theorem wf_doCoolant {inlet outlet : ℤ} {flow : Nat} (h : Memory.wf s = true) : Memory.wf (doCoolant s inlet outlet flow) = true := by
  unfold doCoolant
  exact wf_ite (wf_raise h) h

@[simp] theorem wf_execCoolantRead {inlet outlet flow : BitVec 16} (h : Memory.wf s = true) :
    keepsForm (execCoolantRead inlet outlet flow s) = true :=
  keepsForm_next (wf_ite (wf_doCoolant h) h)

theorem wf_doLowFlow (h : Memory.wf s = true) : Memory.wf (doLowFlow s) = true := by
  unfold doLowFlow
  split
  · exact h
  · exact wf_ite h (wf_overNats (fun _ _ hs => wf_ite (wf_thermEvent (wf_setTherm hs)) hs) h)

@[simp] theorem wf_execLowFlow (h : Memory.wf s = true) : keepsForm (execLowFlow s) = true := keepsForm_next (wf_doLowFlow h)

end Sys2Proof.Machine
end

section
/-! O60, the operations of Sys2Proof/Machine/Faults.lean: what they leave is in canonical form. -/
namespace Sys2Proof.Machine
variable {s : State}

theorem wf_setFaults {f : Faults → Faults} (h : Memory.wf s = true) : Memory.wf (setFaults s f) = true := h

theorem wf_sendFence {site : Nat} {tile : Option Nat} {cause : Nat} {t : Word} (h : Memory.wf s = true) :
    Memory.wf (sendFence s site tile cause t) = true := by
  unfold sendFence
  exact wf_ctrlSend h

theorem wf_sendPortFailed {t : Word} {p : Nat} (h : Memory.wf s = true) : Memory.wf (sendPortFailed s t p) = true := by
  unfold sendPortFailed
  exact wf_ite h (wf_ctrlSend h)

theorem wf_sendSetLost {set stack : Nat} {t : Word} (h : Memory.wf s = true) : Memory.wf (sendSetLost s set stack t) = true := by
  unfold sendSetLost
  exact wf_ite h (wf_ctrlSend h)

theorem wf_sendDieFence {site cause : Nat} {t : Word} (h : Memory.wf s = true) : Memory.wf (sendDieFence s site cause t) = true := by
  unfold sendDieFence
  dsimp only
  split
  · exact wf_sendSetLost (wf_sendFence h)
  · exact wf_sendFence h

theorem wf_switchIn {bt : Nat} {t : Word} (h : Memory.wf s = true) : Memory.wf (switchIn s bt t) = true := by
  unfold switchIn
  dsimp only
  split
  · exact wf_foldl (fun _ _ hs => wf_sendPortFailed hs) h
  · exact wf_ite (wf_silence h) (wf_sendCombSwitch (wf_setComb (wf_ite (wf_silence h) h)))

theorem wf_actOn {m : FaultMsg} {forced : Bool} {t : Word} {u : FaultUnit} (h : Memory.wf s = true) :
    Memory.wf (actOn s m forced t u) = true := by
  unfold actOn
  dsimp only
  split
  · exact wf_ite (wf_ite h (wf_ctrlSend h)) (wf_sendPortFailed h)
  · exact wf_switchIn h
  · exact wf_sendSetLost h
  · exact wf_ite h (wf_sendDieFence h)
  · exact wf_ite h (wf_sendFence h)
  · exact h
  · exact h
  · exact h
  · exact h
  · exact h

theorem wf_startRecovery {m : FaultMsg} {forced : Bool} (h : Memory.wf s = true) : Memory.wf (startRecovery s m forced) = true := by
  unfold startRecovery
  dsimp only
  split
  · exact wf_setFaults h
  · exact h
  · exact wf_ite (wf_foldl (fun _ _ hs => wf_actOn hs) h) (wf_setFaults (wf_foldl (fun _ _ hs => wf_actOn hs) h))

theorem wf_secondHit {r : Recovery} {hit all : List FaultUnit} (h : Memory.wf s = true) : Memory.wf (secondHit s r hit all) = true := by
  unfold secondHit
  refine wf_setFaults (wf_foldl (fun _ _ hs => ?_) (wf_ite (wf_endAny h) h))
  split
  · exact wf_sendPortFailed hs
  · exact wf_switchIn hs
  · exact wf_foldl (fun _ _ hs => wf_sendPortFailed hs) hs
  · exact hs

theorem wf_poisonEnds {m : FaultMsg} (h : Memory.wf s = true) : Memory.wf (poisonEnds s m) = true := by
  unfold poisonEnds
  dsimp only
  split
  · exact wf_beginStop (wf_bump h)
  · exact wf_bump h

theorem wf_actMessage {m : FaultMsg} {forced : Bool} (h : Memory.wf s = true) : Memory.wf (actMessage s m forced) = true := by
  unfold actMessage
  refine wf_ite (wf_poisonEnds h) ?_
  split
  · exact wf_startRecovery h
  · exact wf_ite h (wf_ite (wf_setFaults (wf_bump h)) (wf_secondHit (wf_bump h)))

theorem wf_sendAck {m : FaultMsg} (h : Memory.wf s = true) : Memory.wf (sendAck s m) = true := by
  unfold sendAck
  exact wf_ctrlSend h

theorem wf_alertPulse (h : Memory.wf s = true) : Memory.wf (alertPulse s) = true := by
  unfold alertPulse
  exact wf_setFaults h

theorem wf_logMessage {m : FaultMsg} {forced alerting : Bool} (h : Memory.wf s = true) :
    Memory.wf (logMessage s m forced alerting) = true := by
  unfold logMessage
  exact wf_bump (wf_setFaults (wf_mirrorItem (wf_setCarafe h)))

theorem wf_dropMark {m : FaultMsg} (h : Memory.wf s = true) : Memory.wf (dropMark s m) = true := by
  unfold dropMark
  exact wf_ite h (wf_setFaults h)

theorem wf_handleMsg {m : FaultMsg} {rep : Bool} (h : Memory.wf s = true) : Memory.wf (handleMsg s m rep) = true := by
  unfold handleMsg
  extract_lets s1 forced alerting s2 s3 s4 s5 s6
  have h1 : Memory.wf s1 = true := wf_setFaults h
  have h3 : Memory.wf s3 = true := wf_dropMark (wf_logMessage h1)
  have h4 : Memory.wf s4 = true := wf_ite (wf_alertPulse h3) h3
  have h5 : Memory.wf s5 = true := wf_ite (wf_setFaults h4) h4
  have h6 : Memory.wf s6 = true := wf_actMessage h5
  exact wf_ite (wf_sendAck (wf_setFaults (wf_bump h1))) (wf_ite (wf_sendAck h6) h6)

theorem wf_doFault {n : Nat} {m : FaultMsg} {rep : Bool} (h : Memory.wf s = true) : Memory.wf (doFault s n m rep) = true := by
  unfold doFault
  dsimp only
  split
  · exact wf_ite (wf_emit (wf_sigArrive h)) (wf_dropMark (wf_sigArrive h))
  · split
    · exact wf_dropMark (wf_sigArrive h)
    · refine wf_ite (wf_ite h (wf_handleMsg (wf_setFaults h))) ?_
      exact wf_ite (wf_dropMark (wf_bump (wf_sigArrive h))) (wf_handleMsg (wf_sigArrive h))

@[simp] theorem wf_execFault {n : Fin 2} {m : FaultMsg} {rep : Bool} (h : Memory.wf s = true) : keepsForm (execFault n m rep s) = true :=
  keepsForm_next (wf_doFault h)

theorem wf_doFaultAck {src : BitVec 7} {seq : BitVec 32} {m : FaultMsg} (h : Memory.wf s = true) :
    Memory.wf (doFaultAck s src seq m) = true := by
  unfold doFaultAck
  exact wf_ite (wf_setFaults (wf_ctrlTake (wf_sigArrive h))) (wf_ctrlTake (wf_sigArrive h))

@[simp] theorem wf_execFaultAck {src : BitVec 7} {seq : BitVec 32} {m : FaultMsg} (h : Memory.wf s = true) :
    keepsForm (execFaultAck src seq m s) = true :=
  keepsForm_next (wf_doFaultAck h)

theorem wf_doFaultRepeat {m : FaultMsg} (h : Memory.wf s = true) : Memory.wf (doFaultRepeat s m) = true := by
  unfold doFaultRepeat
  split
  · exact h
  · exact wf_emit (wf_setFaults h)

@[simp] theorem wf_execFaultRepeat {m : FaultMsg} (h : Memory.wf s = true) : keepsForm (execFaultRepeat m s) = true :=
  keepsForm_next (wf_doFaultRepeat h)

@[simp] theorem wf_execKeptMessageExpiry (h : Memory.wf s = true) :
    keepsForm (execKeptMessageExpiry s) = true := keepsForm_next (wf_setFaults h)

theorem wf_doFaultForce {site : Nat} {v : Word} (h : Memory.wf s = true) : Memory.wf (doFaultForce s site v).2 = true := by
  unfold doFaultForce
  dsimp only
  split
  · split
    · exact h
    · exact wf_raiseMsg (wf_setFaults h)
  · exact h

@[simp] theorem wf_execFaultForce {site : Fin 100} {v : Word} (h : Memory.wf s = true) : keepsForm (execFaultForce site v s) = true :=
  keepsForm_next (wf_doFaultForce h)

theorem wf_doAlertPulseEnd (h : Memory.wf s = true) : Memory.wf (doAlertPulseEnd s) = true := by
  unfold doAlertPulseEnd
  exact wf_ite h (wf_setFaults h)

@[simp] theorem wf_execAlertPulseEnd (h : Memory.wf s = true) :
    keepsForm (execAlertPulseEnd s) = true := keepsForm_next (wf_doAlertPulseEnd h)

theorem wf_doAlertClear {v : Nat} (h : Memory.wf s = true) : Memory.wf (doAlertClear s v) = true := by
  unfold doAlertClear
  refine wf_ite h ?_
  split
  · exact wf_ite h (wf_setFaults h)
  · exact wf_setFaults h
  · exact h

@[simp] theorem wf_execAlertClear {v : BitVec 8} (h : Memory.wf s = true) : keepsForm (execAlertClear v s) = true :=
  keepsForm_next (wf_doAlertClear h)

theorem wf_startWaiting {ms : List (FaultMsg × Bool)} (h : Memory.wf s = true) : Memory.wf (startWaiting s ms) = true := by
  induction ms generalizing s with
  | nil => exact wf_setFaults h
  | cons m ms ih =>
    unfold startWaiting
    extract_lets s1
    have h1 : Memory.wf s1 = true := wf_startRecovery (wf_setFaults h)
    exact wf_ite h1 (ih h1)

theorem wf_doRecoveryEnd (h : Memory.wf s = true) : Memory.wf (doRecoveryEnd s) = true := by
  unfold doRecoveryEnd
  split
  · exact h
  · refine wf_ite h ?_
    refine wf_ite (wf_setFaults (wf_foldl (fun _ _ hs => ?_) h)) (wf_startWaiting (wf_raiseMax h))
    split
    · exact wf_switchIn hs
    · exact hs

@[simp] theorem wf_execRecoveryEnd (h : Memory.wf s = true) : keepsForm (execRecoveryEnd s) = true := keepsForm_next (wf_doRecoveryEnd h)

theorem wf_doFence {src : BitVec 7} {seq : BitVec 32} {site : Nat} {tile : Option Nat} {cause : Nat} {t : Word} (h : Memory.wf s = true) :
    Memory.wf (doFence s src seq site tile cause t) = true := by
  unfold doFence
  dsimp only
  split
  · exact wf_ctrlTakeAll (wf_sigArrive h)
  · split
    · exact wf_jobLoss (wf_schedule (wf_ctrlTakeAll (wf_sigArrive h)))
    · exact wf_schedule (wf_ctrlTakeAll (wf_sigArrive h))

@[simp] theorem wf_execFence {src : BitVec 7} {seq : BitVec 32} {site : Fin 100} {tile : Option (Fin 64)} {cause : BitVec 4} {t : Word}
  (h : Memory.wf s = true) :
    keepsForm (execFence src seq site tile cause t s) = true :=
  keepsForm_next (wf_doFence h)

theorem wf_fenceTile {k cause : Nat} {forced : Bool} (h : Memory.wf s = true) : Memory.wf (fenceTile s k cause forced) = true := by
  unfold fenceTile
  refine wf_ite h ?_
  extract_lets s1 s2 n1 s3 s4 s5 n
  have h2 : Memory.wf s2 = true := wf_updTile (wf_setFaults h) (fun _ ht => ht)
  have h4 : Memory.wf s4 = true := wf_queueRecord (wf_setFaults h2)
  have h5 : Memory.wf s5 = true := wf_ite h2 (wf_ite (wf_bump (wf_setFaults (wf_queueRecord h4))) h4)
  exact wf_ite (wf_sendFence h5) h5

theorem wf_shadowsOf {site : Nat} (h : Memory.wf s = true) : Memory.wf (shadowsOf s site) = true := by
  unfold shadowsOf
  exact wf_overNats (fun _ _ hs => wf_ite (wf_clearShadow hs) hs) h

theorem wf_fenceDie {site cause : Nat} {forced : Bool} (h : Memory.wf s = true) : Memory.wf (fenceDie s site cause forced) = true := by
  unfold fenceDie
  extract_lets s1
  have h1 : Memory.wf s1 = true := wf_setFaults h
  clear_value s1
  refine wf_ite h ?_
  split
  · exact wf_domDown (wf_domDown h1)
  · exact wf_domDown (wf_domDown h1)
  · extract_lets s2
    have h2 : Memory.wf s2 = true := wf_updStack h1 (fun _ hst => wf_stackOut hst)
    exact wf_ite h2 (wf_sendSetLost h2)
  · extract_lets s2
    have h2 : Memory.wf s2 = true := wf_fabricDieLost h1
    clear_value s2
    split
    · exact wf_doJobStopped h2
    · exact h2
  · extract_lets s2
    have h2 : Memory.wf s2 = true := wf_shadowsOf (wf_hostDieLost h1)
    clear_value s2
    split
    · exact wf_ite (wf_endAny (wf_setJob h2)) h2
    · exact h2
  · exact h1

theorem wf_hubLost {site : Nat} (h : Memory.wf s = true) : Memory.wf (hubLost s site) = true := by
  unfold hubLost
  split
  · exact wf_silence h
  · exact wf_tripOutcome h
  · exact wf_tripOutcome h
  · split
    · exact wf_domLost h
    · exact h

theorem wf_doSigLinkFail {l : Nat} (h : Memory.wf s = true) : Memory.wf (doSigLinkFail s l) = true := by
  unfold doSigLinkFail
  exact wf_ite h (wf_ite (wf_raise h) (wf_raise (wf_hubLost h)))

@[simp] theorem wf_execSigLinkFail {l : Fin 144} (h : Memory.wf s = true) : keepsForm (execSigLinkFail l s) = true :=
  keepsForm_next (wf_doSigLinkFail h)

theorem wf_setCup {f : Cupping → Cupping} (h : Memory.wf s = true) : Memory.wf (setCup s f) = true := by
  unfold setCup
  exact wf_setFaults h

theorem wf_doCuppingPeriod (h : Memory.wf s = true) : Memory.wf (doCuppingPeriod s) = true := by
  unfold doCuppingPeriod
  exact wf_ite h (wf_ctrlSend (wf_bumpFree (wf_setCup h)))

@[simp] theorem wf_execCuppingPeriod (h : Memory.wf s = true) :
    keepsForm (execCuppingPeriod s) = true := keepsForm_next (wf_doCuppingPeriod h)

theorem wf_doCupStart {src : BitVec 7} {seq : BitVec 32} {m period : Nat} {t seed : Word} (h : Memory.wf s = true) :
    Memory.wf (doCupStart s src seq m period t seed) = true := by
  unfold doCupStart
  exact wf_ite (wf_schedule (wf_setCup (wf_ctrlTakeAll (wf_sigArrive h)))) (wf_ctrlTakeAll (wf_sigArrive h))

@[simp] theorem wf_execCupStart {src : BitVec 7} {seq : BitVec 32} {m : BitVec 4} {period : BitVec 16} {t seed : Word}
  (h : Memory.wf s = true) :
    keepsForm (execCupStart src seq m period t seed s) = true :=
  keepsForm_next (wf_doCupStart h)

theorem wf_mirrorK (h : Memory.wf s = true) : Memory.wf (mirrorK s) = true := by
  unfold mirrorK
  exact wf_mirrorItem h

theorem wf_applyCupStart (h : Memory.wf s = true) : Memory.wf (applyCupStart s) = true := by
  unfold applyCupStart
  split
  · exact h
  · exact wf_mirrorK (wf_setCup (wf_overNats (fun _ _ hs => wf_overNats (fun _ _ hs => wf_ite hs (wf_updTile hs (fun _ hx => hx))) hs) h))

@[simp] theorem wf_execCupTest {cd : Fin 16} {t : Fin 64} (h : Memory.wf s = true) : keepsForm (execCupTest cd t s) = true :=
  keepsForm_next (wf_ite (wf_setTile h (wf_tile_kept (wf_tileAt h) rfl)) h)

theorem wf_sendCupResults {n : Nat} (h : Memory.wf s = true) : Memory.wf (sendCupResults s n) = true := by
  unfold sendCupResults
  exact wf_overNats (fun _ _ hs => wf_ctrlSendFrom hs) h

theorem wf_cupSend {n : Nat} (h : Memory.wf s = true) : Memory.wf (cupSend s n) = true := by
  unfold cupSend
  exact wf_ite h (wf_sendCupResults (wf_setCup h))

theorem wf_cupEnd {k : Nat} {st : CupState} {sum : Word} (h : Memory.wf s = true) : Memory.wf (cupEnd s k st sum) = true := by
  unfold cupEnd
  exact wf_ite h (wf_ite (wf_cupSend (wf_setTile h (wf_tile_kept (wf_tileAt h) rfl))) (wf_setTile h (wf_tile_kept (wf_tileAt h) rfl)))

@[simp] theorem wf_execCupTestEnd {cd : Fin 16} {t : Fin 64} {wrong : Word} (h : Memory.wf s = true) :
    keepsForm (execCupTestEnd cd t wrong s) = true :=
  keepsForm_next (wf_ite h (wf_cupEnd h))

@[simp] theorem wf_execCupHung {cd : Fin 16} {t : Fin 64} (h : Memory.wf s = true) : keepsForm (execCupHung cd t s) = true :=
  keepsForm_next (wf_ite h (wf_cupEnd h))

theorem wf_cupMsg {kind sev k : Nat} (h : Memory.wf s = true) : Memory.wf (cupMsg s kind sev k) = true := by
  unfold cupMsg
  exact wf_raise h

theorem wf_applyVerdict {c : Cupping} {k : Nat} (h : Memory.wf s = true) : Memory.wf (applyVerdict s c k) = true := by
  unfold applyVerdict
  split
  · exact wf_updTile h (fun _ hx => hx)
  · exact wf_cupMsg h
  · exact wf_cupMsg h
  · exact wf_bump (wf_cupMsg h)
  · exact wf_bump (wf_cupMsg h)

theorem wf_judgeCup (h : Memory.wf s = true) : Memory.wf (judgeCup s) = true := by
  unfold judgeCup
  exact wf_setCup (wf_bump (wf_bump (wf_foldl (fun _ _ hs => wf_applyVerdict hs) h)))

theorem wf_cupRecheck (h : Memory.wf s = true) : Memory.wf (cupRecheck s) = true := by
  unfold cupRecheck
  exact wf_ite (wf_judgeCup (wf_setCup h)) (wf_setCup h)

theorem wf_doCupResult {cd j : Nat} {seq : BitVec 32} {period fin : Nat} {sums : List Word} (h : Memory.wf s = true) :
    Memory.wf (doCupResult s cd j seq period fin sums) = true := by
  unfold doCupResult
  exact wf_ite (wf_sigArrive h) (wf_ite (wf_judgeCup (wf_setCup (wf_sigArrive h))) (wf_setCup (wf_sigArrive h)))

@[simp] theorem wf_execCupResult {cd : Fin 16} {j : Fin 11} {seq : BitVec 32} {period : BitVec 16} {fin : BitVec 6} {sums : List Word}
  (h : Memory.wf s = true) :
    keepsForm (execCupResult cd j seq period fin sums s) = true :=
  keepsForm_next (wf_doCupResult h)

@[simp] theorem wf_execCupJudgementTimeout (h : Memory.wf s = true) : keepsForm (execCupJudgementTimeout s) = true :=
  keepsForm_next (wf_ite (wf_judgeCup h) h)

theorem wf_cupReportOf {k : Nat} {hung : Bool} (h : Memory.wf s = true) : Memory.wf (cupReportOf s k hung) = true := by
  unfold cupReportOf
  exact wf_bump (wf_setFaults h)

theorem wf_applyFence {site : Nat} {tile : Option Nat} {cause : Nat} {forced : Bool} (h : Memory.wf s = true) :
    Memory.wf (applyFence s site tile cause forced) = true := by
  unfold applyFence
  split
  · exact wf_fenceDie h
  · refine wf_ite h ?_
    refine wf_ite (wf_cupReportOf (wf_ite (wf_cupSend (wf_fenceTile ?_)) (wf_fenceTile h)))
      (wf_ite (wf_cupSend (wf_fenceTile h)) (wf_fenceTile h))
    exact h

end Sys2Proof.Machine
end

section
/-! O60, the operations of Sys2Proof/Machine/Barista.lean: what they leave is in canonical form. -/
namespace Sys2Proof.Machine
variable {s : State}

theorem wf_setJournal {f : Journal → Journal} (h : Memory.wf s = true) : Memory.wf (setJournal s f) = true := h

theorem wf_setMirror {f : Mirror → Mirror} (h : Memory.wf s = true) : Memory.wf (setMirror s f) = true := h

theorem wf_setPunel {f : Punel → Punel} (h : Memory.wf s = true) : Memory.wf (setPunel s f) = true := h

theorem wf_setSec {f : Security → Security} (h : Memory.wf s = true) : Memory.wf (setSec s f) = true := h

theorem wf_sendDict {site dst addr uport : Nat} {u : List Byte} (h : Memory.wf s = true) :
    Memory.wf (sendDict s site dst addr uport u) = true := by
  unfold sendDict
  exact wf_setHouseQ h

theorem wf_sendUnit {id : ClientId} {unit : List Byte} (h : Memory.wf s = true) : Memory.wf (sendUnit s id unit) = true := by
  unfold sendUnit
  split
  · exact wf_ite (wf_emit h) (wf_setPunel h)
  · exact wf_sendDict h

theorem wf_fieldSend {n : Nat} (h : Memory.wf s = true) : Memory.wf (fieldSend s n) = true := by
  unfold fieldSend
  exact wf_foldl (fun _ _ hs => wf_emit hs) (wf_setPunel h)

theorem wf_sendReply {id : ClientId} {unit : List Byte} (h : Memory.wf s = true) : Memory.wf (sendReply s id unit) = true := by
  unfold sendReply
  exact wf_sendUnit (wf_setPunel h)

theorem wf_releaseAnswers (h : Memory.wf s = true) : Memory.wf (releaseAnswers s) = true := by
  unfold releaseAnswers
  exact wf_foldl (fun _ _ hs => wf_sendReply hs) (wf_setPunel h)

theorem wf_setFwImage {n k : Nat} {bs : List Byte} (h : Memory.wf s = true) : Memory.wf (setFwImage s n k bs) = true := by
  unfold setFwImage
  exact wf_setCarafe h

theorem wf_eraseRwp (h : Memory.wf s = true) : Memory.wf (eraseRwp s) = true := h

theorem wf_deriveKeys (h : Memory.wf s = true) : Memory.wf (deriveKeys s) = true := by
  unfold deriveKeys
  exact wf_setSec h

theorem wf_applyLc {st : Nat} {key : List Byte} {counter count erase : Nat} (h : Memory.wf s = true) :
    Memory.wf (applyLc s st key counter count erase) = true := by
  unfold applyLc
  extract_lets changed left s1 s2 s3 s4 s5
  have h2 : Memory.wf s2 = true := wf_setBlob (wf_dset (wf_dset (wf_dset h)))
  have h3 : Memory.wf s3 = true := wf_ite (wf_setPunel h2) h2
  have h4 : Memory.wf s4 = true := wf_ite (wf_eraseRwp h3) h3
  have h5 : Memory.wf s5 = true := wf_ite (wf_overNats (fun _ _ hs => wf_linkDown hs) h4) h4
  exact wf_ite (wf_deriveKeys h5) h5

theorem wf_applyCommitted (h : Memory.wf s = true) : Memory.wf (applyCommitted s) = true := by
  unfold applyCommitted
  extract_lets last lc fw s1 s2 s3 k
  have h1 : Memory.wf s1 = true := wf_foldl (fun _ _ hs => wf_applyLc hs) h
  have h2 : Memory.wf s2 = true := by
    refine wf_foldl (fun _ _ hs => ?_) h1
    dsimp only
    split
    · exact wf_dset (wf_setSec hs)
    · exact wf_setSec hs
  have h3 : Memory.wf s3 = true := wf_setSec h2
  clear_value s3
  refine wf_ite h3 ?_
  split
  · exact wf_setFwImage h3
  · exact wf_setFwImage h3
  · exact wf_setSec h3
  · exact wf_ite (wf_setSec h3) h3
  · exact wf_setSec h3
  · exact h3

theorem wf_commitNow {cause : Nat} (h : Memory.wf s = true) : Memory.wf (commitNow s cause) = true := by
  unfold commitNow
  exact wf_releaseAnswers (wf_applyCommitted (wf_foldl (fun _ _ hs => wf_addRecord hs) (wf_mirrorItem (wf_setJournal (wf_setCarafe h)))))

theorem wf_tryCommit {cause : Nat} (h : Memory.wf s = true) : Memory.wf (tryCommit s cause) = true := by
  unfold tryCommit
  exact wf_ite h (wf_ite (wf_commitNow h) (wf_setJournal h))

theorem wf_commitDue (h : Memory.wf s = true) : Memory.wf (commitDue s) = true := by
  unfold commitDue
  split
  · exact wf_tryCommit h
  · exact wf_ite (wf_tryCommit h) h

theorem wf_addWear {k n : Nat} (h : Memory.wf s = true) : Memory.wf (addWear s k n) = true := h

theorem wf_wearSeconds {n : Nat} (h : Memory.wf s = true) : Memory.wf (wearSeconds s n) = true := by
  unfold wearSeconds
  exact wf_overNats (fun _ _ hs => wf_ite (wf_addWear hs) hs) (wf_overNats (fun _ _ hs => wf_ite (wf_addWear hs) hs) (wf_addWear h))

theorem wf_doPeriodic (h : Memory.wf s = true) : Memory.wf (doPeriodic s) = true := by
  unfold doPeriodic
  exact wf_ite h (wf_tryCommit (wf_foldl (fun _ _ hs => wf_addRecord hs) (wf_setJournal (wf_wearSeconds h))))

@[simp] theorem wf_execPeriodicCommit (h : Memory.wf s = true) : keepsForm (execPeriodicCommit s) = true := keepsForm_next (wf_doPeriodic h)

@[simp] theorem wf_execEarlyCommit (h : Memory.wf s = true) :
    keepsForm (execEarlyCommit s) = true := keepsForm_next (wf_ite (wf_tryCommit h) h)

@[simp] theorem wf_execCarafeCommitNow {v : BitVec 8} (h : Memory.wf s = true) : keepsForm (execCarafeCommitNow v s) = true :=
  keepsForm_next (wf_ite (wf_tryCommit h) h)

theorem wf_doCompaction {n : Nat} (h : Memory.wf s = true) : Memory.wf (doCompaction s n) = true := by
  unfold doCompaction
  exact wf_ite (wf_setCarafe h) h

@[simp] theorem wf_execCompaction {n : Fin 2} (h : Memory.wf s = true) :
    keepsForm (execCompaction n s) = true := keepsForm_next (wf_doCompaction h)

theorem wf_doCompactionDone {n : Nat} (h : Memory.wf s = true) : Memory.wf (doCompactionDone s n) = true := by
  unfold doCompactionDone
  split
  · exact h
  · exact wf_setCarafe h

@[simp] theorem wf_execCompactionDone {n : Fin 2} (h : Memory.wf s = true) : keepsForm (execCompactionDone n s) = true :=
  keepsForm_next (wf_doCompactionDone h)

theorem wf_takeRecord {n : Nat} {r : Rec} (h : Memory.wf s = true) : Memory.wf (takeRecord s n r) = true := by
  unfold takeRecord
  split
  · exact h
  · dsimp only
    split
    · exact wf_setMirror (wf_ite (wf_setCarafe (wf_setMirror h)) (wf_setMirror h))
    · exact wf_ite (wf_setMirror (wf_setMirror (wf_setMirror h))) (wf_setMirror (wf_setMirror h))

theorem wf_takeLog {n : Nat} {e : LogEntry} (h : Memory.wf s = true) : Memory.wf (takeLog s n e) = true := by
  unfold takeLog
  exact wf_ite h (wf_setCarafe h)

theorem wf_takeCommitted {n : Nat} {r : Rec} (h : Memory.wf s = true) : Memory.wf (takeCommitted s n r) = true := by
  unfold takeCommitted
  exact wf_ite h (wf_setMirror (wf_setCarafe h))

theorem wf_sendCommitted {seq number : Nat} (h : Memory.wf s = true) : Memory.wf (sendCommitted s seq number) = true := by
  unfold sendCommitted
  refine wf_foldl (fun _ _ hs => ?_) (wf_foldl (fun _ _ hs => wf_slotItem hs) h)
  split
  · exact wf_slotItem hs
  · exact wf_slotItem hs
  · exact wf_slotItem hs
  · exact hs

theorem wf_takeItem {n kind : Nat} {bs : List Byte} (h : Memory.wf s = true) : Memory.wf (takeItem s n kind bs) = true := by
  unfold takeItem
  dsimp only
  split
  · exact wf_ite (wf_takeRecord h) h
  · exact wf_ite (wf_takeLog (wf_takeLog h)) h
  · exact wf_ite h (wf_ite (wf_sendCommitted h) (wf_ite (wf_commitDue (wf_releaseAnswers (wf_setJournal h))) h))
  · exact wf_ite (wf_takeCommitted h) h
  · exact wf_ite h (wf_ite (wf_setMirror h) (wf_setMirror h))
  · exact h

theorem wf_doBaristaSlot {n : Nat} (h : Memory.wf s = true) : Memory.wf (doBaristaSlot s n) = true := by
  unfold doBaristaSlot
  dsimp only
  split
  · exact h
  · split
    · exact h
    · exact wf_ite (wf_slotItem (wf_overNats (fun _ _ hs => wf_takeItem hs) h)) (wf_overNats (fun _ _ hs => wf_takeItem hs) h)

@[simp] theorem wf_execBaristaSlot {n : Fin 2} (h : Memory.wf s = true) : keepsForm (execBaristaSlot n s) = true :=
  keepsForm_next (wf_doBaristaSlot h)

theorem wf_doHeartbeatTick {n : Nat} (h : Memory.wf s = true) : Memory.wf (doHeartbeatTick s n) = true := by
  unfold doHeartbeatTick
  exact wf_ite h (wf_emit (wf_setBarOf h))

@[simp] theorem wf_execHeartbeatTick {n : Fin 2} (h : Memory.wf s = true) : keepsForm (execHeartbeatTick n s) = true :=
  keepsForm_next (wf_doHeartbeatTick h)

@[simp] theorem wf_execHeartbeat {n role : Fin 2} {seq : Word} (h : Memory.wf s = true) : keepsForm (execHeartbeat n role seq s) = true :=
  keepsForm_next (wf_setBarOf (wf_sigArrive h))

theorem wf_takeoverMsg (h : Memory.wf s = true) : Memory.wf (takeoverMsg s) = true := by
  unfold takeoverMsg
  exact wf_raise h

theorem wf_undoValues (h : Memory.wf s = true) : Memory.wf (undoValues s) = true := by
  unfold undoValues
  exact wf_foldl (fun _ _ hs => wf_setBlob hs) (wf_foldl (fun _ _ hs => hs) h)

theorem wf_relight (h : Memory.wf s = true) : Memory.wf (relight s) = true := by
  unfold relight
  exact wf_overNats (fun _ _ hs => wf_switchIn hs) h

theorem wf_takeover {n : Nat} (h : Memory.wf s = true) : Memory.wf (takeover s n) = true := by
  unfold takeover
  refine wf_takeoverMsg (wf_relight (wf_schedule (wf_ctrlSend (wf_setBarOf (wf_setSec (wf_setPunel ?_))))))
  refine wf_kept (wf_foldl (fun _ _ hs => wf_dropMark hs) ?_) rfl
  exact wf_stopCompaction (wf_stopCompaction (wf_setRole (wf_kept (wf_undoValues h) rfl)))

theorem wf_doHeartbeatLoss {n : Nat} (h : Memory.wf s = true) : Memory.wf (doHeartbeatLoss s n) = true := by
  unfold doHeartbeatLoss
  exact wf_ite h (wf_takeover h)

@[simp] theorem wf_execHeartbeatLoss {n : Fin 2} (h : Memory.wf s = true) : keepsForm (execHeartbeatLoss n s) = true :=
  keepsForm_next (wf_doHeartbeatLoss h)

theorem wf_doStandbyLoss (h : Memory.wf s = true) : Memory.wf (doStandbyLoss s) = true := by
  unfold doStandbyLoss
  exact wf_ite h (wf_commitDue (wf_releaseAnswers (wf_takeoverMsg (wf_setBarOf h))))

@[simp] theorem wf_execStandbyLoss (h : Memory.wf s = true) : keepsForm (execStandbyLoss s) = true := keepsForm_next (wf_doStandbyLoss h)

theorem wf_doBaristaActive {src : BitVec 7} {seq : BitVec 32} {site : BitVec 7} {epoch : BitVec 32} (h : Memory.wf s = true) :
    Memory.wf (doBaristaActive s src seq site epoch) = true := by
  unfold doBaristaActive
  dsimp only
  split
  · exact wf_ctrlTakeAll (wf_sigArrive h)
  · exact wf_ite (wf_silence (wf_kept (wf_ctrlTakeAll (wf_sigArrive h)) rfl)) (wf_kept (wf_ctrlTakeAll (wf_sigArrive h)) rfl)

@[simp] theorem wf_execBaristaActive {src : BitVec 7} {seq : BitVec 32} {site : BitVec 7} {epoch : BitVec 32} (h : Memory.wf s = true) :
    keepsForm (execBaristaActive src seq site epoch s) = true :=
  keepsForm_next (wf_doBaristaActive h)

theorem wf_doHandbackDue (h : Memory.wf s = true) : Memory.wf (doHandbackDue s) = true := by
  unfold doHandbackDue
  exact wf_ite h (wf_ctrlSend h)

@[simp] theorem wf_execHandbackDue (h : Memory.wf s = true) : keepsForm (execHandbackDue s) = true := keepsForm_next (wf_doHandbackDue h)

theorem wf_doHandback {src : BitVec 7} {seq : BitVec 32} {th : Word} {first epoch : BitVec 32} (h : Memory.wf s = true) :
    Memory.wf (doHandback s src seq th first epoch) = true := by
  unfold doHandback
  exact wf_ite (wf_schedule (wf_kept (wf_ctrlTakeAll (wf_sigArrive h)) rfl)) (wf_ctrlTakeAll (wf_sigArrive h))

@[simp] theorem wf_execHandback {src : BitVec 7} {seq : BitVec 32} {th : Word} {first epoch : BitVec 32} (h : Memory.wf s = true) :
    keepsForm (execHandback src seq th first epoch s) = true :=
  keepsForm_next (wf_doHandback h)

theorem wf_applyHandback (h : Memory.wf s = true) : Memory.wf (applyHandback s) = true := by
  unfold applyHandback
  split
  · exact h
  · split
    · exact h
    · refine wf_setMt (wf_bumpFree (wf_overNats (fun _ _ ht => wf_updBt ht) (wf_schedule (wf_setMirror (wf_setBarOf (wf_setBarOf ?_))))))
      exact wf_setRole (wf_setRole h)

@[simp] theorem wf_execWatchdog {n : Fin 2} (h : Memory.wf s = true) : keepsForm (execWatchdog n s) = true := keepsForm_next (wf_silence h)

theorem wf_replaceUnit {n offset : Nat} (h : Memory.wf s = true) : Memory.wf (replaceUnit s n offset) = true := by
  unfold replaceUnit
  split
  · exact wf_setCarafe h
  · exact wf_silence h

theorem wf_doKnownAnswer {n : Nat} {found : SelfCheck} (h : Memory.wf s = true) : Memory.wf (doKnownAnswer s n found) = true := by
  unfold doKnownAnswer
  refine wf_ite h ?_
  split
  · exact wf_silence h
  · exact wf_replaceUnit h
  · exact wf_ite h (wf_setBarOf h)
  · exact wf_ite h (wf_silence (wf_setBarOf h))

@[simp] theorem wf_execKnownAnswerTest {n : Fin 2} {found : SelfCheck} (h : Memory.wf s = true) :
    keepsForm (execKnownAnswerTest n found s) = true :=
  keepsForm_next (wf_doKnownAnswer h)

theorem wf_doOscillator {n cycles : Nat} (h : Memory.wf s = true) : Memory.wf (doOscillator s n cycles) = true := by
  unfold doOscillator
  exact wf_ite h (wf_ite (wf_silence (wf_setBarOf h)) (wf_setBarOf h))

@[simp] theorem wf_execOscillatorCheck {n : Fin 2} {cycles : BitVec 32} (h : Memory.wf s = true) :
    keepsForm (execOscillatorCheck n cycles s) = true :=
  keepsForm_next (wf_doOscillator h)

@[simp] theorem wf_execBaristaSupplyOutOfRange {n : Fin 2} (h : Memory.wf s = true) : keepsForm (execBaristaSupplyOutOfRange n s) = true :=
  keepsForm_next (wf_silence h)

theorem wf_powerFailBatch {n : Nat} (h : Memory.wf s = true) : Memory.wf (powerFailBatch s n) = true := by
  unfold powerFailBatch
  exact wf_setCarafe h

theorem wf_commitOwn {n cause : Nat} (h : Memory.wf s = true) : Memory.wf (commitOwn s n cause) = true := by
  unfold commitOwn
  exact wf_setCarafe h

theorem wf_commitBoth {cause : Nat} (h : Memory.wf s = true) : Memory.wf (commitBoth s cause) = true := by
  unfold commitBoth
  exact wf_overNats (fun _ _ hs => wf_ite (wf_commitOwn (wf_setCarafe hs)) hs) h

theorem wf_logRest (h : Memory.wf s = true) : Memory.wf (logRest s) = true := by
  unfold logRest
  exact wf_foldl (fun _ _ hs => wf_dropMark (wf_logMessage hs)) h

theorem wf_darken (h : Memory.wf s = true) : Memory.wf (darken s) = true := by
  unfold darken
  extract_lets s1 s2
  have h1 : Memory.wf s1 = true :=
    wf_overNats (fun _ _ hs => wf_ite hs (wf_setDom (wf_ite (wf_deepLost (wf_computeDark hs)) (wf_ite (wf_stackDark hs) hs)))) h
  have h2 : Memory.wf s2 = true := wf_overNats (fun _ _ hs => wf_setLink hs) h1
  clear_value s2
  exact h2

theorem wf_doPowerFail (h : Memory.wf s = true) : Memory.wf (doPowerFail s) = true := by
  unfold doPowerFail
  refine wf_ite h ?_
  extract_lets s1 s2 s3 s4 s5 s6 s7
  have h1 : Memory.wf s1 = true := wf_setPow h
  have h2 : Memory.wf s2 = true := wf_ite (wf_logRest (wf_raise h1)) h1
  have h4 : Memory.wf s4 = true := wf_bump (wf_commitBoth h2)
  have h5 : Memory.wf s5 = true := wf_overNats (fun _ _ hs => wf_ite (wf_powerFailBatch hs) hs) h4
  have h7 : Memory.wf s7 = true := wf_setFaults (wf_darken h5)
  clear_value s7
  exact h7

@[simp] theorem wf_execPowerFail (h : Memory.wf s = true) : keepsForm (execPowerFail s) = true := keepsForm_next (wf_doPowerFail h)

end Sys2Proof.Machine
end

section
/-! O60, the operations of Sys2Proof/Machine/Cold.lean: what they leave is in canonical form. -/
namespace Sys2Proof.Machine
variable {s : State}

theorem wf_setStartup {f : Startup → Startup} (h : Memory.wf s = true) : Memory.wf (setStartup s f) = true := h

theorem wf_coldState : Memory.wf (coldState s) = true := by
  refine (Memory.wf_iff _).mpr ⟨rfl, List.all_eq_true.mpr (fun e he => ?_), rfl⟩
  obtain ⟨x, -, hx⟩ := List.mem_filterMap.mp he
  split at hx
  · exact absurd hx (Option.some_ne_none e).symm
  · rw [← Option.some.inj hx]
    rfl

theorem wf_enterRom {slotId : BitVec 6} {began at_ : Nat} : Memory.wf (enterRom s slotId began at_) = true := by
  unfold enterRom
  exact wf_kept wf_coldState rfl

theorem wf_restoreValue {r : Rec} (h : Memory.wf s = true) : Memory.wf (restoreValue s r) = true := by
  unfold restoreValue
  dsimp only
  split
  · exact wf_ite h (wf_ite (wf_setBlob h) (wf_dset h))
  · exact h

theorem wf_restoreRec {r : Rec} (h : Memory.wf s = true) : Memory.wf (restoreRec s r) = true := by
  unfold restoreRec
  dsimp only
  split
  · exact wf_dset h
  · exact wf_restoreValue h
  · exact wf_setFaults h
  · exact wf_bump (wf_setFaults h)
  · exact wf_updStack h (fun _ hx => hx)
  · exact wf_updStack h (fun _ hx => hx)
  · exact wf_setStartup h
  · exact wf_updPort h
  · exact wf_setComb h
  · exact wf_setPow h
  · exact wf_ite h (wf_dset h)
  · exact wf_dset h
  · exact wf_setSec h
  · exact h

theorem wf_restoreRom {recs : List Rec} (h : Memory.wf s = true) : Memory.wf (restoreRom s recs) = true := by
  unfold restoreRom
  refine wf_ite ?_ (wf_foldl (fun _ _ hs => wf_restoreRec hs) h)
  exact wf_setBlob (wf_dset (wf_dset (wf_dset (wf_foldl (fun _ _ hs => wf_restoreRec hs) h))))

theorem wf_restoreAll {recs : List Rec} (h : Memory.wf s = true) : Memory.wf (restoreAll s recs) = true := by
  unfold restoreAll
  exact wf_kept (wf_foldl (fun _ _ hs => wf_restoreRec hs) (wf_restoreRom h)) rfl

end Sys2Proof.Machine
end

section
/-! O60, the operations of Sys2Proof/Machine/Security.lean: what they leave is in canonical form. -/
namespace Sys2Proof.Machine
variable {s : State}

theorem wf_lcRecord {st : Nat} {key : List Byte} {counter count erase : Nat} (h : Memory.wf s = true) :
    Memory.wf (lcRecord s st key counter count erase) = true := by
  unfold lcRecord
  exact wf_setSec (wf_queueRecord (wf_queueRecord h))

theorem wf_fwRecord {a b : Nat} {roll : Option Nat} (h : Memory.wf s = true) : Memory.wf (fwRecord s a b roll) = true := by
  unfold fwRecord
  refine wf_setSec ?_
  split
  · exact wf_queueRecord (wf_queueRecord h)
  · exact wf_queueRecord h

theorem wf_fwSlotRecord {k st : Nat} (h : Memory.wf s = true) : Memory.wf (fwSlotRecord s k st) = true := by
  unfold fwSlotRecord
  exact wf_fwRecord h

theorem wf_doLcRequest {bs : List Byte} (h : Memory.wf s = true) : Memory.wf (doLcRequest s bs).2 = true := by
  unfold doLcRequest
  dsimp only
  split
  · exact wf_dset h
  · exact wf_commitDue (wf_lcRecord (wf_dset h))

@[simp] theorem wf_execLcRequest {bs : List Byte} (h : Memory.wf s = true) : keepsForm (execLcRequest bs s) = true :=
  keepsForm_next (wf_ite (wf_doLcRequest h) h)

theorem wf_countTamper (h : Memory.wf s = true) : Memory.wf (countTamper s) = true := by
  unfold countTamper
  exact wf_ite h (wf_commitDue (wf_lcRecord (wf_setSec h)))

theorem wf_tamperEvent {source : Nat} (h : Memory.wf s = true) : Memory.wf (tamperEvent s source) = true := by
  unfold tamperEvent
  exact wf_countTamper (wf_dset (wf_setSec h))

theorem wf_doTamper {source : Nat} (h : Memory.wf s = true) : Memory.wf (doTamper s source) = true := by
  unfold doTamper
  exact wf_ite (wf_ite h (wf_ite (wf_tamperEvent (wf_setSec h)) (wf_setSec h))) (wf_ite (wf_tamperEvent h) h)

@[simp] theorem wf_execTamper {source : Fin 3} (h : Memory.wf s = true) :
    keepsForm (execTamper source s) = true := keepsForm_next (wf_doTamper h)

theorem wf_updClient {id : ClientId} {f : Client → Client} (h : Memory.wf s = true) : Memory.wf (updClient s id f) = true := by
  unfold updClient
  exact wf_setPunel h

theorem wf_doVendorResponse {id : ClientId} {sig : List Byte} (h : Memory.wf s = true) :
    Memory.wf (doVendorResponse s id sig).2 = true := by
  unfold doVendorResponse
  split
  · split
    · exact h
    · split <;> exact wf_updClient h
  · exact h

@[simp] theorem wf_execVendorResponse {id : ClientId} {sig : List Byte} (h : Memory.wf s = true) :
    keepsForm (execVendorResponse id sig s) = true :=
  keepsForm_next (wf_ite (wf_doVendorResponse h) h)

theorem wf_dropUpdate {st : Nat} (h : Memory.wf s = true) : Memory.wf (dropUpdate s st) = true := by
  unfold dropUpdate
  exact wf_setFwImage (wf_setSec h)

theorem wf_romSlots {a b : Nat} (h : Memory.wf s = true) : Memory.wf (romSlots s a b) = true := by
  unfold romSlots
  exact wf_setSec (wf_overNats (fun _ _ hs => wf_ite hs (wf_setCarafe hs)) h)

theorem wf_afterSegment {last : Bool} (h : Memory.wf s = true) : Memory.wf (afterSegment s last) = true := by
  unfold afterSegment
  exact wf_ite (wf_setSec (wf_ite (wf_setFwImage h) h)) (wf_ite (wf_setFwImage h) h)

theorem wf_updateSegment {id : ClientId} {first last : Bool} {offset total : Nat} {data : List Byte} (h : Memory.wf s = true) :
    Memory.wf (updateSegment s id first last offset total data).state = true := by
  unfold updateSegment
  dsimp only
  split
  · split
    · exact h
    · split
      · exact h
      · split
        · exact h
        · split
          · exact wf_dset h
          · split
            · exact wf_afterSegment (wf_romSlots (wf_setSec h))
            · exact wf_afterSegment (wf_commitDue (wf_fwSlotRecord (wf_setSec h)))
  · split
    · exact h
    · split
      · exact h
      · split
        · exact h
        · exact wf_afterSegment (wf_setSec h)

@[simp] theorem wf_execUpdateImage {id : ClientId} {first last : Bool} {offset total : BitVec 32} {data : List Byte}
  (h : Memory.wf s = true) :
    keepsForm (execUpdateImage id first last offset total data s) = true :=
  keepsForm_next (wf_ite (wf_updateSegment h) h)

theorem wf_abortUpdate {id : ClientId} (h : Memory.wf s = true) : Memory.wf (abortUpdate s id) = true := by
  unfold abortUpdate
  exact wf_ite (wf_dropUpdate h) h

theorem wf_markStaged (h : Memory.wf s = true) : Memory.wf (markStaged s) = true := by
  unfold markStaged
  exact wf_ite (wf_setSec (wf_romSlots h)) (wf_commitDue (wf_fwSlotRecord h))

theorem wf_doImageVerified (h : Memory.wf s = true) : Memory.wf (doImageVerified s) = true := by
  unfold doImageVerified
  exact wf_ite h (wf_ite (wf_dropUpdate (wf_dset h)) (wf_ite (wf_setSec (wf_dset h)) (wf_markStaged (wf_setSec (wf_dset h)))))

@[simp] theorem wf_execImageVerified (h : Memory.wf s = true) :
    keepsForm (execImageVerified s) = true := keepsForm_next (wf_doImageVerified h)

theorem wf_doImageCopied (h : Memory.wf s = true) : Memory.wf (doImageCopied s) = true := by
  unfold doImageCopied
  exact wf_ite h (wf_markStaged (wf_setFwImage h))

@[simp] theorem wf_execImageCopied (h : Memory.wf s = true) : keepsForm (execImageCopied s) = true := keepsForm_next (wf_doImageCopied h)

theorem wf_doUpdateActivate {v : Nat} (h : Memory.wf s = true) : Memory.wf (doUpdateActivate s v).2 = true := by
  unfold doUpdateActivate
  dsimp only
  split
  · exact h
  · split
    · split
      · exact wf_enterRom
      · exact h
    · split
      · exact wf_commitDue (wf_fwSlotRecord (wf_setSec h))
      · exact h

@[simp] theorem wf_execUpdateActivate {v : BitVec 8} (h : Memory.wf s = true) : keepsForm (execUpdateActivate v s) = true :=
  keepsForm_next (wf_ite (wf_doUpdateActivate h) h)

theorem wf_confirmTrial (h : Memory.wf s = true) : Memory.wf (confirmTrial s).2 = true := by
  unfold confirmTrial
  split
  · split
    · exact h
    · exact wf_commitDue (wf_fwRecord (wf_setSec h))
  · exact h

@[simp] theorem wf_execUpdateConfirm {v : BitVec 8} (h : Memory.wf s = true) : keepsForm (execUpdateConfirm v s) = true :=
  keepsForm_next (wf_ite (wf_confirmTrial h) h)

theorem wf_doConfirmTimer (h : Memory.wf s = true) : Memory.wf (doConfirmTimer s) = true := by
  unfold doConfirmTimer
  exact wf_ite h (wf_confirmTrial h)

@[simp] theorem wf_execConfirmTimer (h : Memory.wf s = true) : keepsForm (execConfirmTimer s) = true := keepsForm_next (wf_doConfirmTimer h)

end Sys2Proof.Machine
end

section
/-! O60, the operations of Sys2Proof/Machine/StartUp.lean: what they leave is in canonical form. -/
namespace Sys2Proof.Machine
variable {s : State}

theorem wf_finishUnit {u : Nat} (h : Memory.wf s = true) : Memory.wf (finishUnit s u) = true := by
  unfold finishUnit
  exact wf_setStartup h

theorem wf_startFail {cause : Nat} (h : Memory.wf s = true) : Memory.wf (startFail s cause) = true := by
  unfold startFail
  refine wf_setStartup (wf_dset (wf_dset (wf_dset (wf_ite ?_ h))))
  split
  · exact wf_setPunel (wf_setRole h)
  · exact h

theorem wf_startFence {site cause : Nat} (h : Memory.wf s = true) : Memory.wf (startFence s site cause) = true := by
  unfold startFence
  refine wf_ite h ?_
  extract_lets s1 s2 s3
  have h1 : Memory.wf s1 = true := wf_setFaults h
  have h2 : Memory.wf s2 = true := by
    dsimp only [s2]
    split
    · exact wf_ite h1 (wf_setDom h1)
    · exact h1
  have h3 : Memory.wf s3 = true := by
    dsimp only [s3]
    clear_value s2
    split
    · exact wf_updStack h2 (fun _ hst => wf_stackOut hst)
    · exact wf_ite h2 (wf_setDom h2)
    · exact wf_ite h2 (wf_setDom h2)
    · exact h2
  exact wf_ite (wf_raise h3) h3

theorem wf_startSilent {n : Nat} (h : Memory.wf s = true) : Memory.wf (startSilent s n) = true := by
  unfold startSilent
  exact wf_ite (wf_setRole h) (wf_ite (wf_ctrlSend (wf_setBarOf (wf_setRole (wf_kept (wf_setRole h) rfl)))) (wf_startFail (wf_setRole h)))

theorem wf_combOut {c : Nat} (h : Memory.wf s = true) : Memory.wf (combOut s c) = true := by
  unfold combOut
  dsimp only
  split
  · exact wf_setStartup (wf_setComb h)
  · split
    · exact wf_combRecord (wf_setComb (wf_setStartup (wf_setComb h)))
    · exact wf_foldl (fun _ _ hs => wf_updPort hs) (wf_setStartup (wf_setComb h))

theorem wf_setBooted {n : Nat} {k : Option (Fin 2)} (h : Memory.wf s = true) : Memory.wf (setBooted s n k) = true := by
  unfold setBooted
  exact wf_setSec h

theorem wf_bootAgain {n : Nat} (h : Memory.wf s = true) : Memory.wf (bootAgain s n) = true := by
  unfold bootAgain
  dsimp only
  split
  · exact wf_ite (wf_ite (wf_commitDue (wf_fwSlotRecord (wf_setSec (wf_setBooted h)))) (wf_setBooted h)) (wf_startSilent h)
  · exact wf_startSilent h

theorem wf_dieRefused {site : Nat} (h : Memory.wf s = true) : Memory.wf (dieRefused s site) = true := by
  unfold dieRefused
  split
  · exact wf_startFail h
  · exact wf_bootAgain h
  · exact wf_startSilent h
  · exact wf_doStageFail h
  · exact wf_combOut h
  · exact wf_startFence h
  · exact h

theorem wf_enterStep {n : Nat} (h : Memory.wf s = true) : Memory.wf (enterStep s n) = true := by
  unfold enterStep
  exact wf_setStartup h

theorem wf_endRom (h : Memory.wf s = true) : Memory.wf (endRom s) = true := by
  unfold endRom
  extract_lets live
  clear_value live
  cases live with
  | nil => exact wf_startFail h
  | cons first rest =>
    dsimp -zeta only
    extract_lets s1 own n c s2 s3
    have h1 : Memory.wf s1 = true := wf_restoreRom h
    have h2 : Memory.wf s2 = true := wf_ite h1 (wf_romSlots h1)
    have h3 : Memory.wf s3 = true := wf_startFail h2
    clear_value own n c s2 s3
    split
    · exact h3
    · refine wf_enterStep (wf_foldl (fun u k hu => ?_) (wf_setSec h2))
      split
      · exact wf_setBooted hu
      · exact wf_setRole hu

theorem wf_alignCarafes {n : Nat} (h : Memory.wf s = true) : Memory.wf (alignCarafes s n) = true := by
  unfold alignCarafes
  exact wf_setCarafe (wf_setCarafe h)

theorem wf_failItem {x1 : FactoryItem} (h : Memory.wf s = true) : Memory.wf (failItem s x1) = true := by
  unfold failItem
  split
  · exact h
  · exact wf_updPort h
  · exact wf_updPort h
  · exact wf_combOut h
  · exact wf_startFence h

theorem wf_takeSettings (h : Memory.wf s = true) : Memory.wf (takeSettings s) = true := by
  unfold takeSettings
  exact wf_setPunel h

theorem wf_endRecovery (h : Memory.wf s = true) : Memory.wf (endRecovery s) = true := by
  unfold endRecovery
  dsimp only
  split
  · exact wf_startFail h
  · exact wf_startFail h
  · refine wf_enterStep (wf_ctrlSend (wf_countTamper (wf_takeSettings (wf_foldl (fun _ _ hs => wf_queueClassC hs) ?_))))
    refine wf_setSec (wf_setFaults (wf_kept (wf_foldl (fun _ _ hs => wf_failItem hs) ?_) rfl))
    exact wf_restoreAll (wf_setRole (wf_setRole (wf_kept (wf_ite (wf_alignCarafes h) h) rfl)))

theorem wf_doSilenceReset {n : Nat} (h : Memory.wf s = true) : Memory.wf (doSilenceReset s n) = true := by
  unfold doSilenceReset
  split
  · exact h
  · refine wf_ite h ?_
    extract_lets pass _ s0 s1 k s2 s3 s4 s5
    have h1 : Memory.wf s1 = true := wf_bumpFree h
    have h2 : Memory.wf s2 = true := wf_ite h1 (wf_setBooted h1)
    have h4 : Memory.wf s4 = true := wf_setSec (wf_setRole (wf_setCarafe h2))
    clear_value s4
    have h5 : Memory.wf s5 = true := h4
    exact wf_ite (wf_setRole h1) (wf_slotItem h5)

@[simp] theorem wf_execSilenceReset {n : Fin 2} (h : Memory.wf s = true) : keepsForm (execSilenceReset n s) = true :=
  keepsForm_next (wf_doSilenceReset h)

theorem wf_copyStaged {n : Nat} (h : Memory.wf s = true) : Memory.wf (copyStaged s n) = true := by
  unfold copyStaged
  exact wf_ite (wf_setFwImage h) h

theorem wf_doRemirrorDone {n : Nat} (h : Memory.wf s = true) : Memory.wf (doRemirrorDone s n) = true := by
  unfold doRemirrorDone
  exact wf_ite h (wf_ite (wf_slotItem h) (wf_setJournal (wf_setRole (wf_setBarOf (wf_setBarOf (wf_kept (wf_copyStaged h) rfl))))))

@[simp] theorem wf_execRemirrorDone {n : Fin 2} (h : Memory.wf s = true) : keepsForm (execRemirrorDone n s) = true :=
  keepsForm_next (wf_doRemirrorDone h)

theorem wf_endReports (h : Memory.wf s = true) : Memory.wf (endReports s) = true := by
  unfold endReports
  dsimp only
  split
  · exact wf_foldl (fun _ _ hs => wf_ite hs (wf_dieRefused hs)) h
  · refine wf_enterStep (wf_overNats (fun _ _ hs => wf_ite (wf_wakeFromOff hs) hs) ?_)
    exact wf_overNats (fun _ _ hs => wf_ite (wf_startFence hs) hs) (wf_dset (wf_foldl (fun _ _ hs => wf_ite hs (wf_dieRefused hs)) h))

theorem wf_endTests (h : Memory.wf s = true) : Memory.wf (endTests s) = true := by
  unfold endTests
  exact wf_enterStep (wf_foldl (fun _ _ hs => wf_startFence hs) h)

theorem wf_enterCombs (h : Memory.wf s = true) : Memory.wf (enterCombs s) = true := by
  unfold enterCombs
  refine wf_overNats (fun _ _ hs => ?_) (wf_overNats (fun _ _ hs => wf_updBt hs) (wf_enterStep h))
  exact wf_ite (wf_combOut hs) (wf_ite hs (wf_ite (wf_wakeFromOff hs) hs))

theorem wf_repairRecord {m : Nat} {r : DieRow} {state : Nat} {immediate : Bool} (h : Memory.wf s = true) :
    Memory.wf (repairRecord s m r state immediate) = true := by
  unfold repairRecord
  exact wf_queueRecord h

theorem wf_enterTraining (h : Memory.wf s = true) : Memory.wf (enterTraining s) = true := by
  unfold enterTraining
  refine wf_commitDue (wf_overNats (fun _ _ hs => ?_) (wf_overNats (fun _ _ hs => wf_ite (wf_acquireRings hs) hs)
    (wf_setCal (wf_enterStep h))))
  refine wf_foldl (fun _ _ hs => wf_repairRecord hs) ?_
  exact wf_setStack (wf_foldl (fun _ _ hs => wf_repairRecord hs) hs) (wf_stack_kept (wf_stackAt hs) rfl)

theorem wf_stackTrained {m : Nat} {badDie : Option (Fin 18)} (h : Memory.wf s = true) : Memory.wf (stackTrained s m badDie) = true := by
  unfold stackTrained
  extract_lets st fuse recs soft s1 s2
  have h2 : Memory.wf s2 = true := wf_foldl (fun _ _ hs => wf_repairRecord hs) (wf_setStack h rfl)
  clear_value s2
  split
  · exact wf_queueRecord (wf_raise (wf_updStack h2 (fun _ hst => hst)))
  · exact wf_ite h2 (wf_updStack h2 (fun _ hst => wf_stackOut hst))
  · exact h2

theorem wf_mapSets (h : Memory.wf s = true) : Memory.wf (mapSets s) = true := by
  unfold mapSets
  extract_lets bad go lost
  have hgo : go.1.all (fun b => b.getD 0 % setSize == 0) = true := by
    refine wf_foldl (w := fun r : List (Option Nat) × Nat => r.1.all (fun b => b.getD 0 % setSize == 0)) (fun u x hu => ?_) rfl
    generalize setSize = n at hu ⊢
    split
    · rw [List.all_append, hu]
      simp
    · rw [List.all_append, hu]
      simp
  clear_value go
  exact wf_dset (wf_dset ((Memory.wf_iff _).mpr ⟨((Memory.wf_iff s).mp h).1, ((Memory.wf_iff s).mp h).2.1, hgo⟩))

theorem wf_endTraining (h : Memory.wf s = true) : Memory.wf (endTraining s) = true := by
  unfold endTraining
  refine wf_enterStep (wf_mapSets (wf_foldl (fun _ _ hs => ?_) (wf_setCal (wf_foldl (fun _ _ hs => wf_ringFailed hs) h))))
  exact wf_updStack hs (fun _ hst => wf_stackOut hst)

theorem wf_clearLines {p : Nat} (h : Memory.wf s = true) : Memory.wf (clearLines s p) = true := by
  unfold clearLines
  exact wf_ite h (wf_excludeRecord (wf_excludeRecord (wf_setPort h)))

theorem wf_endQualification (h : Memory.wf s = true) : Memory.wf (endQualification s) = true := by
  unfold endQualification
  exact wf_enterStep (wf_setStartup (wf_foldl (fun _ _ hs => wf_updPort hs) (wf_overNats (fun _ _ hs => wf_clearLines hs) h)))

theorem wf_enterBlend (h : Memory.wf s = true) : Memory.wf (enterBlend s) = true := by
  unfold enterBlend
  exact wf_schedule (wf_enterStep (wf_setStartup h))

theorem wf_applyBlendStart (h : Memory.wf s = true) : Memory.wf (applyBlendStart s) = true := by
  unfold applyBlendStart
  exact wf_ite h (wf_setLight h)

theorem wf_judgeReady (h : Memory.wf s = true) : Memory.wf (judgeReady s) = true := by
  unfold judgeReady
  refine wf_ite (wf_startFail h) ?_
  exact wf_overNats (fun _ _ hs => wf_ite (wf_startTraining hs) hs) (wf_overNats (fun _ _ hs => wf_ite (wf_beginLink hs) hs) h)

theorem wf_endStep (h : Memory.wf s = true) : Memory.wf (endStep s) = true := by
  unfold endStep
  split
  · exact wf_enterRom
  · exact wf_endRom (wf_foldl (fun _ _ hs => wf_ite hs (wf_setRole hs)) h)
  · exact wf_endRecovery (wf_foldl (fun _ _ hs => wf_ite hs (wf_setRole hs)) h)
  · exact wf_endReports h
  · exact wf_enterStep h
  · exact wf_endTests h
  · exact wf_enterCombs h
  · exact wf_enterTraining (wf_foldl (fun _ _ hs => wf_ite (wf_combOut hs) hs) h)
  · exact wf_endTraining h
  · exact wf_endQualification h
  · exact wf_enterBlend h
  · exact wf_judgeReady h
  · exact h

theorem wf_jointRecord {key : Nat} {g : JointGroup} (h : Memory.wf s = true) : Memory.wf (jointRecord s key g) = true := by
  unfold jointRecord
  exact wf_queueRecord h

theorem wf_jointOutcome {site : Nat} {carries : JointCarries} {fence : State → State} (h : Memory.wf s = true)
    (hfence : ∀ u, Memory.wf u = true → Memory.wf (fence u) = true) : Memory.wf (jointOutcome s site carries fence) = true := by
  cases carries with
  | lines p rx mask => exact wf_overNats (fun _ _ hs => wf_ite (wf_applyExclude hs) hs) h
  | deepData t => exact wf_updTile h (fun _ ht => ht)
  | deepBank t b => exact wf_updTile h (fun _ ht => ht)
  | control => exact hfence s h

theorem wf_jointFails {site group joint : Nat} {carries : JointCarries} {fence : State → State} (h : Memory.wf s = true)
    (hfence : ∀ u, Memory.wf u = true → Memory.wf (fence u) = true) : Memory.wf (jointFails s site group joint carries fence) = true :=
  wf_ite h (wf_ite (wf_ite h (wf_jointRecord h)) (wf_ite h (wf_jointOutcome h hfence)))

theorem wf_jointsTested (h : Memory.wf s = true) : Memory.wf (jointsTested s) = true := by
  unfold jointsTested
  exact wf_commitDue (wf_finishUnit (wf_setStartup (wf_foldl (fun _ _ hs => wf_jointRecord hs) h)))

theorem wf_jointFence {site : Nat} (h : Memory.wf s = true) : Memory.wf (jointFence site s) = true := by
  unfold jointFence
  refine wf_fenceDie ?_
  split
  · exact wf_jobLoss (wf_raise h)
  · exact wf_raise h

theorem wf_doJointFail {site group joint : Nat} {carries : JointCarries} (h : Memory.wf s = true) :
    Memory.wf (doJointFail s site group joint carries) = true := by
  unfold doJointFail
  exact wf_ite h (wf_schedule h)

theorem wf_applyJoint {site group joint : Nat} {carries : JointCarries} (h : Memory.wf s = true) :
    Memory.wf (applyJoint s site group joint carries) = true := by
  unfold applyJoint
  exact wf_commitDue (wf_jointFails h (fun _ hs => wf_jointFence hs))

@[simp] theorem wf_execJointFail {site : Fin 100} {group : BitVec 16} {carries : JointCarries} {joint : Fin 34} (h : Memory.wf s = true) :
    keepsForm (execJointFail site group carries joint s) = true :=
  keepsForm_next (wf_doJointFail h)

theorem wf_romResult {n : Nat} {pass plate : Bool} (h : Memory.wf s = true) : Memory.wf (romResult s n pass plate) = true := by
  unfold romResult
  split
  · exact wf_startFail h
  · exact wf_ite (wf_setRole (wf_finishUnit h)) (wf_ite (wf_dset (wf_setSec (wf_setSec (wf_finishUnit h)))) (wf_setSec (wf_finishUnit h)))

theorem wf_startEvent {e : StartEvent} (h : Memory.wf s = true) : Memory.wf (startEvent s e) = true := by
  unfold startEvent
  dsimp only
  split
  · exact wf_ite h h
  · exact wf_ite (wf_setPow (wf_finishUnit h)) h
  · exact wf_ite (wf_romResult h) h
  · exact wf_ite (wf_ite (wf_finishUnit (wf_finishUnit (wf_setCarafe h))) (wf_finishUnit (wf_setCarafe h))) h
  · exact wf_ite (wf_setStartup h) h
  · exact wf_ite (wf_ite (wf_finishUnit h) (wf_startFence h)) h
  · exact wf_ite (wf_foldl (fun _ _ hs => wf_jointFails hs (fun _ hs => wf_startFence hs)) h) h
  · exact wf_ite (wf_jointsTested h) h
  · exact wf_ite (wf_ite (wf_finishUnit (wf_setDom h)) (wf_combOut (wf_finishUnit h))) h
  · exact wf_ite (wf_finishUnit (wf_ite (wf_stackTrained h) (wf_updStack h (fun _ hst => wf_stackOut hst)))) h
  · exact wf_ite (wf_applyExclude (wf_ite (wf_setStartup h) h)) (wf_ite (wf_setStartup h) h)
  · exact wf_ite (wf_endStep h) h

@[simp] theorem wf_execStartUp {e : StartEvent} (h : Memory.wf s = true) :
    keepsForm (execStartUp e s) = true := keepsForm_next (wf_startEvent h)

theorem wf_doStepLimit (h : Memory.wf s = true) : Memory.wf (doStepLimit s) = true := by
  unfold doStepLimit
  exact wf_ite h (wf_endStep h)

@[simp] theorem wf_execStartupStepLimit (h : Memory.wf s = true) :
    keepsForm (execStartupStepLimit s) = true := keepsForm_next (wf_doStepLimit h)

theorem wf_doResetN {held : Nat} (h : Memory.wf s = true) : Memory.wf (doResetN s held) = true := by
  unfold doResetN
  extract_lets free hit s1 s2 s3
  have h1 : Memory.wf s1 = true := wf_ite (wf_bumpFree h) h
  have h3 : Memory.wf s3 = true := wf_setFaults (wf_darken (wf_commitBoth h1))
  clear_value s3
  exact wf_ite h1 h3

@[simp] theorem wf_execResetN {held : BitVec 32} (h : Memory.wf s = true) :
    keepsForm (execResetN held s) = true := keepsForm_next (wf_doResetN h)

@[simp] theorem wf_execResetRelease {slotId : BitVec 6} (h : Memory.wf s = true) : keepsForm (execResetRelease slotId s) = true :=
  keepsForm_next (wf_ite wf_enterRom h)

theorem wf_doGrinderRun {v : Nat} (h : Memory.wf s = true) : Memory.wf (doGrinderRun s v).2 = true := by
  unfold doGrinderRun
  split
  · exact h
  · exact wf_setStartup h

@[simp] theorem wf_execGrinderRun {v : BitVec 8} (h : Memory.wf s = true) : keepsForm (execGrinderRun v s) = true :=
  keepsForm_next (wf_doGrinderRun h)

theorem wf_marchClear (h : Memory.wf s = true) : Memory.wf (marchClear s) = true := by
  refine wf_overNats (fun k u hu => ?_) h
  have hdeep : Memory.wf (updTile u k (fun x => { x with deep := { ({} : Store) with cleared := true } })) = true :=
    wf_updTile hu (fun _ ht => wf_tile_deep ht (wf_store_empty rfl))
  exact wf_ite (wf_ite (wf_updTile hdeep (fun _ ht => wf_tile_store ht (wf_store_empty rfl))) hdeep) hu

theorem wf_marchFail {f : MarchFail} (h : Memory.wf s = true) : Memory.wf (marchFail s f) = true := by
  unfold marchFail
  split
  · exact wf_raise (wf_bump h)
  · exact wf_ite (wf_startFence (wf_bump h)) (wf_ite (wf_bump h) (wf_sendFence (wf_bump h)))

theorem wf_doGrinderDone {fails : List MarchFail} (h : Memory.wf s = true) : Memory.wf (doGrinderDone s fails) = true := by
  unfold doGrinderDone
  exact wf_ite h (wf_foldl (fun _ _ hs => wf_marchFail hs) (wf_setStartup (wf_ite (wf_marchClear h) h)))

@[simp] theorem wf_execGrinderDone {fails : List MarchFail} (h : Memory.wf s = true) : keepsForm (execGrinderDone fails s) = true :=
  keepsForm_next (wf_doGrinderDone h)

end Sys2Proof.Machine
end

section
/-! O60, the operations of Sys2Proof/Machine/Punel.lean: what they leave is in canonical form. -/
namespace Sys2Proof.Machine
variable {s : State}

theorem wf_dropSnaps (h : Memory.wf s = true) : Memory.wf (dropSnaps s) = true := by
  unfold dropSnaps
  exact wf_setPunel h

theorem wf_dropStaged (h : Memory.wf s = true) : Memory.wf (dropStaged s) = true := by
  unfold dropStaged
  exact wf_setPunel h

theorem wf_dropReplies (h : Memory.wf s = true) : Memory.wf (dropReplies s) = true := by
  unfold dropReplies
  exact wf_setPunel h

theorem wf_admitClient {id : ClientId} (h : Memory.wf s = true) : Memory.wf (admitClient s id).2 = true := by
  unfold admitClient
  split
  · exact wf_updClient h
  · dsimp only
    split
    · exact wf_bumpFree (wf_setPunel h)
    · split
      · split
        · exact h
        · exact wf_bumpFree (wf_setPunel (wf_setPunel h))
      · exact h

theorem wf_dropSnap {id : ClientId} {r : PunelReq} (h : Memory.wf s = true) : Memory.wf (dropSnap s id r) = true := by
  unfold dropSnap
  exact wf_setPunel h

theorem wf_dropStage {id : ClientId} {r : PunelReq} (h : Memory.wf s = true) : Memory.wf (dropStage s id r) = true := by
  unfold dropStage
  exact wf_setPunel h

theorem wf_readObject {c : Client} {e : DictEntry} {r : PunelReq} (h : Memory.wf s = true) : Memory.wf (readObject s c e r).2 = true := by
  unfold readObject
  dsimp only
  split
  · split <;> exact h
  · split
    · split
      · exact h
      · split
        · exact h
        · exact wf_setPunel (wf_dropSnap h)
    · split
      · exact h
      · split
        · exact h
        · exact wf_setPunel h

theorem wf_keepOld {code : Nat} {blob : Bool} (h : Memory.wf s = true) : Memory.wf (keepOld s code blob) = true := by
  unfold keepOld
  exact wf_ite (wf_setMirror h) h

theorem wf_mirrorValue {code : Nat} {bs : List Byte} (h : Memory.wf s = true) : Memory.wf (mirrorValue s code bs) = true := by
  unfold mirrorValue
  exact wf_foldl (fun _ _ hs => wf_mirrorItem hs) h

theorem wf_writeRwp {code : Nat} {e : DictEntry} {bs : List Byte} (h : Memory.wf s = true) :
    Memory.wf (writeRwp s code e bs).state = true := by
  unfold writeRwp
  extract_lets blob same s1 s2 s3
  have h1 : Memory.wf s1 = true := wf_keepOld h
  have h2 : Memory.wf s2 = true := wf_ite (wf_setBlob h1) (wf_dset h1)
  split
  · exact h
  · exact wf_foldl (w := Memory.wf) (fun _ _ hs => wf_queueRecord hs) h2

theorem wf_writeRw {code : Nat} {bs : List Byte} (h : Memory.wf s = true) : Memory.wf (writeRw s code bs).state = true := by
  unfold writeRw
  exact wf_mirrorValue (wf_dset (wf_keepOld h))

theorem wf_ownRule {r : Bool × State} (hr : Memory.wf r.2 = true) : Memory.wf (ownRule r).state = true := hr

theorem wf_ownRecord {more : Nat} {r : Bool × State} (hr : Memory.wf r.2 = true) :
    Memory.wf (ownRecord s more r).state = true := by
  unfold ownRecord
  split <;> exact hr

theorem wf_clearAtStart {p : Nat} (h : Memory.wf s = true) : Memory.wf (clearAtStart s p) = true := by
  unfold clearAtStart
  exact wf_excludeRecord (wf_excludeRecord (wf_updPort h))

theorem wf_writeWo {id : ClientId} {code : Nat} {bs : List Byte} (h : Memory.wf s = true) :
    Memory.wf (writeWo s id code bs).state = true := by
  unfold writeWo
  dsimp only
  split
  · exact wf_clearAtStart h
  · exact wf_ite (wf_startDrain h) h
  · exact wf_doFabricLeave h
  · exact wf_doAlertClear h
  · exact wf_tryCommit h
  · exact wf_ownRecord (wf_doLcRequest h)
  · exact wf_ownRule (wf_doVendorResponse h)
  · exact wf_ownRecord (wf_doUpdateActivate h)
  · exact wf_ownRecord (wf_confirmTrial h)
  · exact wf_ownRule (wf_doGrinderRun h)
  · exact wf_ownRule (wf_doFaultForce h)

theorem wf_writeTable {code : Nat} {bs : List Byte} (h : Memory.wf s = true) : Memory.wf (writeTable s code bs).2 = true := by
  unfold writeTable
  dsimp only
  split
  · exact wf_doRouteShadow h
  · split
    · exact wf_doBarrierTable h
    · split
      · exact wf_doFlagTable h
      · split
        · exact wf_doCalLive h
        · split
          · exact wf_doRegion h
          · split
            · exact wf_doRingConfig h
            · split
              · exact wf_doWindow h
              · exact wf_doQp h

theorem wf_writeValue {id : ClientId} {e : DictEntry} {code : Nat} {bs : List Byte} (h : Memory.wf s = true) :
    Memory.wf (writeValue s id e code bs).state = true := by
  unfold writeValue
  extract_lets r
  have hr : Memory.wf r.2 = true := wf_writeTable h
  have ht : Memory.wf (if r.1 = true then mirrorValue r.2 code bs else r.2) = true := wf_ite (wf_mirrorValue hr) hr
  clear_value r
  change WriteOut.wf _ = true
  exact wf_ite h (wf_ite h (wf_ite h (wf_ite h (wf_ite h (wf_ite h (wf_ite (wf_updClient h) (wf_ite (wf_updClient h)
    (wf_ite (wf_writeWo h) (wf_ite (wf_writeRwp h) (wf_ite ht (wf_writeRw h)))))))))))

theorem wf_writeImage {id : ClientId} {r : PunelReq} (h : Memory.wf s = true) : Memory.wf (writeImage s id r).state = true := by
  unfold writeImage
  exact wf_updateSegment h

theorem wf_writeObject {id : ClientId} {e : DictEntry} {r : PunelReq} (h : Memory.wf s = true) :
    Memory.wf (writeObject s id e r).state = true := by
  unfold writeObject
  dsimp only
  split
  · exact wf_writeImage h
  · split
    · split
      · exact h
      · split
        · exact h
        · split
          · exact h
          · exact wf_writeValue h
    · split
      · split
        · exact h
        · split
          · exact h
          · split
            · exact h
            · split
              · exact wf_writeValue (wf_dropStage h)
              · exact wf_setPunel (wf_dropStage h)
      · split
        · exact h
        · split
          · exact h
          · split
            · exact h
            · split
              · exact h
              · split
                · exact wf_writeValue (wf_dropStage h)
                · exact wf_setPunel h

theorem wf_abortObject {id : ClientId} {r : PunelReq} (h : Memory.wf s = true) : Memory.wf (abortObject s id r) = true := by
  unfold abortObject
  exact wf_ite (wf_abortUpdate h) (wf_dropStage h)

theorem wf_handle {id : ClientId} {admitted : Bool} {r : PunelReq} (h : Memory.wf s = true) :
    Memory.wf (handle s id admitted r).2 = true := by
  unfold handle
  dsimp only
  split
  · exact h
  · split
    · split
      · exact wf_readObject h
      · split
        · exact wf_writeObject h
        · exact wf_abortObject h
    · exact h

theorem wf_respond {id : ClientId} {r : PunelReq} {a : Answer} (h : Memory.wf s = true) : Memory.wf (respond s id r a) = true := by
  unfold respond
  dsimp only
  split
  · exact wf_releaseAnswers (wf_setPunel (wf_ite (wf_bump (wf_bump h)) (wf_bump h)))
  · exact wf_sendReply (wf_ite (wf_bump (wf_bump h)) (wf_bump h))

theorem wf_takeRequest {id : ClientId} {u : List Byte} (h : Memory.wf s = true) : Memory.wf (takeRequest s id u) = true := by
  unfold takeRequest
  dsimp only
  split
  · exact wf_sendUnit (wf_bump (wf_admitClient h))
  · split
    · exact wf_bump (wf_setPunel (wf_admitClient h))
    · exact wf_respond (wf_handle (wf_admitClient h))

theorem wf_rateFull (h : Memory.wf s = true) : Memory.wf (rateFull s).2 = true := by
  unfold rateFull
  split
  · exact wf_setPunel h
  · split
    · exact h
    · exact wf_setPunel h

theorem wf_doPunel {id : ClientId} {bcast spoiled : Bool} {u : List Byte} (h : Memory.wf s = true) :
    Memory.wf (doPunel s id bcast spoiled u) = true := by
  unfold doPunel
  dsimp only
  split
  · exact wf_dropReplies (wf_dropStaged (wf_dropSnaps h))
  · split
    · split
      · exact wf_bump (wf_dropReplies (wf_dropStaged (wf_dropSnaps h)))
      · exact wf_dropReplies (wf_dropStaged (wf_dropSnaps h))
    · split
      · exact wf_bump (wf_dropReplies (wf_dropStaged (wf_dropSnaps h)))
      · split
        · exact wf_bump (wf_rateFull (wf_dropReplies (wf_dropStaged (wf_dropSnaps h))))
        · exact wf_takeRequest (wf_rateFull (wf_dropReplies (wf_dropStaged (wf_dropSnaps h))))

theorem wf_unitIn {id : ClientId} {bcast : Bool} {f : UnitFrame} {u : List Byte} (h : Memory.wf s = true) :
    Memory.wf (unitIn s id bcast f u) = true := by
  unfold unitIn
  split
  · exact wf_ite h (wf_doPunel h)
  · exact wf_ite (wf_sendDict h) h

@[simp] theorem wf_execPunelRead {id : ClientId} {bcast : Bool} {f : UnitFrame} {unit : List Byte} (h : Memory.wf s = true) :
    keepsForm (execPunelRead id bcast f unit s) = true :=
  keepsForm_next (wf_ite h (wf_unitIn h))

@[simp] theorem wf_execPunelWrite {id : ClientId} {bcast : Bool} {f : UnitFrame} {unit : List Byte} (h : Memory.wf s = true) :
    keepsForm (execPunelWrite id bcast f unit s) = true :=
  keepsForm_next (wf_ite (wf_unitIn h) h)

@[simp] theorem wf_execPunelAbort {id : ClientId} {bcast : Bool} {f : UnitFrame} {unit : List Byte} (h : Memory.wf s = true) :
    keepsForm (execPunelAbort id bcast f unit s) = true :=
  keepsForm_next (wf_ite (wf_unitIn h) h)

@[simp] theorem wf_execAttestReport {id : ClientId} {f : UnitFrame} {unit : List Byte} (h : Memory.wf s = true) :
    keepsForm (execAttestReport id f unit s) = true :=
  keepsForm_next (wf_ite (wf_unitIn h) h)

@[simp] theorem wf_execSnapshotExpiry (h : Memory.wf s = true) : keepsForm (execSnapshotExpiry s) = true := keepsForm_next (wf_dropSnaps h)

@[simp] theorem wf_execStagingExpiry (h : Memory.wf s = true) : keepsForm (execStagingExpiry s) = true := keepsForm_next (wf_dropStaged h)

@[simp] theorem wf_execReplyCacheExpiry (h : Memory.wf s = true) :
    keepsForm (execReplyCacheExpiry s) = true := keepsForm_next (wf_dropReplies h)

theorem wf_doBeacon (h : Memory.wf s = true) : Memory.wf (doBeacon s) = true := by
  unfold doBeacon
  exact wf_ite h (wf_fieldSend (wf_setPunel h))

@[simp] theorem wf_execPlcaBeacon (h : Memory.wf s = true) : keepsForm (execPlcaBeacon s) = true := keepsForm_next (wf_doBeacon h)

theorem wf_doBeaconLoss (h : Memory.wf s = true) : Memory.wf (doBeaconLoss s) = true := by
  unfold doBeaconLoss
  extract_lets s1
  have h1 : Memory.wf s1 = true := by
    dsimp only [s1]
    split
    · exact wf_ite (wf_setPunel h) h
    · exact h
  exact wf_ite (wf_fieldSend h1) h1

@[simp] theorem wf_execPlcaBeaconLoss (h : Memory.wf s = true) :
    keepsForm (execPlcaBeaconLoss s) = true := keepsForm_next (wf_doBeaconLoss h)

theorem wf_doFieldCollision (h : Memory.wf s = true) : Memory.wf (doFieldCollision s) = true := by
  unfold doFieldCollision
  exact wf_ite h (wf_ite (wf_fieldSend (wf_bump (wf_setPunel h))) (wf_bump (wf_setPunel h)))

@[simp] theorem wf_execNodeIdConflict (h : Memory.wf s = true) :
    keepsForm (execNodeIdConflict s) = true := keepsForm_next (wf_doFieldCollision h)

end Sys2Proof.Machine
end

section
/-! O60, the operations of Sys2Proof/Machine/HostSlots.lean: what they leave is in canonical form. -/
namespace Sys2Proof.Machine
variable {s : State}

theorem wf_takeHostUnit {me peer : Nat} {p : FabPacket} (h : Memory.wf s = true) : Memory.wf (takeHostUnit s me peer p) = true := by
  unfold takeHostUnit
  split
  · exact wf_serveUnit h
  · exact wf_takeHostAnswer h
  · exact h

theorem wf_drainHost (h : Memory.wf s = true) : Memory.wf (drainHost s) = true := by
  unfold drainHost
  exact wf_foldl (fun _ _ hs => wf_takeHostUnit hs) h

theorem wf_takeDict {me peer : Nat} {fs : List Flit} (h : Memory.wf s = true) : Memory.wf (takeDict s me peer fs) = true := by
  unfold takeDict
  split
  · exact h
  · dsimp only
    split
    · exact wf_ite (wf_doPunel h) h
    · exact wf_ite (wf_ethSend h) h
    · exact h

theorem wf_drainDictAt {site : Nat} (h : Memory.wf s = true) : Memory.wf (drainDictAt s site) = true := by
  unfold drainDictAt
  exact wf_foldl (fun _ _ hs => wf_takeDict hs) h

theorem wf_drainSlots (h : Memory.wf s = true) : Memory.wf (drainSlots s) = true := by
  unfold drainSlots
  exact wf_foldl (fun _ _ hs => wf_drainDictAt hs) (wf_drainHost (wf_drainPaths h))

@[simp] theorem wf_execSlotBurst {q : Fin 366} {bits : BitVec 14336} (h : Memory.wf s = true) : keepsForm (execSlotBurst q bits s) = true :=
  keepsForm_next (wf_ite (wf_drainSlots (wf_doSlotBurst h)) (wf_doExtBurst h))

end Sys2Proof.Machine
end

section
/-! O60, the operations of Sys2Proof/Machine/Frame.lean: what they leave is in canonical form. -/
namespace Sys2Proof.Machine
variable {s : State}

theorem wf_logClock (h : Memory.wf s = true) : Memory.wf (logClock s) = true := by
  unfold logClock
  exact wf_overNats (fun _ _ hs => wf_ite (wf_setCarafe hs) hs) h

theorem wf_clockWork (h : Memory.wf s = true) : Memory.wf (clockWork s) = true := by
  unfold clockWork
  exact wf_logClock (wf_ptpClock (wf_hostClock (wf_fabricClock h)))

theorem wf_toBoundary (h : Memory.wf s = true) : Memory.wf (toBoundary s) = true := by
  unfold toBoundary
  exact wf_clockWork h

theorem wf_portsFail {ps : List Nat} (h : Memory.wf s = true) : Memory.wf (portsFail s ps) = true := by
  unfold portsFail
  exact wf_ite h (wf_foldl (fun _ _ hs => wf_linkDown hs) (wf_foldl (fun _ _ hs => wf_endCalAt hs) (wf_lightPortsFail h)))

theorem wf_applyChange {x1 : Change} (h : Memory.wf s = true) : Memory.wf (applyChange s x1) = true := by
  unfold applyChange
  split
  · exact wf_applyExclude h
  · exact h
  · exact wf_bump (wf_updBt h)
  · exact wf_cupRecheck (wf_applyFence h)
  · exact wf_applySetLost h
  · exact wf_applyCombSwitch h
  · exact wf_applyCalStart h
  · exact wf_applySwingRelease h
  · exact wf_applyLinkExclude h
  · exact wf_applyRouteSwitch h
  · exact wf_applyTimeStep (wf_voidCal h)
  · exact wf_applyEpoch h
  · exact wf_applyHandback h
  · exact wf_setMt h
  · exact wf_ite h (wf_setMt h)
  · exact wf_applyJobStart h
  · exact wf_applyCupStart h
  · exact wf_applyJoint h
  · exact wf_applyBlendStart h

theorem wf_doMarker {site : Nat} {phase : ℤ} (h : Memory.wf s = true) : Memory.wf (doMarker s site phase) = true := by
  unfold doMarker
  exact wf_ite h (wf_ite (wf_setBt (wf_correctCount h)) (wf_correctCount h))

@[simp] theorem wf_execFrameMarker {site : Fin 100} {phase : ℤ} (h : Memory.wf s = true) :
    keepsForm (execFrameMarker site phase s) = true :=
  keepsForm_next (wf_doMarker h)

theorem wf_sendTime (h : Memory.wf s = true) : Memory.wf (sendTime s) = true := by
  unfold sendTime
  exact wf_ite (wf_emit h) h

theorem wf_newFrame (h : Memory.wf s = true) : Memory.wf (newFrame s) = true := by
  unfold newFrame
  exact wf_foldl (fun _ _ hs => wf_updPort hs) (wf_overNats (fun _ _ hs => wf_updBt hs) h)

theorem wf_fenceShadows {x1 : Change} (h : Memory.wf s = true) : Memory.wf (fenceShadows s x1) = true := by
  unfold fenceShadows
  split
  · exact wf_shadowsOf h
  · exact h

theorem wf_doFrame (h : Memory.wf s = true) : Memory.wf (doFrame s) = true := by
  unfold doFrame
  extract_lets s1 due s2 s3 s4 s5 s6 s7 s8
  have h1 : Memory.wf s1 = true := wf_doCalStepEnd (wf_newFrame (wf_toBoundary h))
  clear_value s1
  have h2 : Memory.wf s2 = true := h1
  have h4 : Memory.wf s4 = true := wf_portsFail (wf_foldl (fun _ _ hs => wf_fenceShadows hs) h2)
  have h6 : Memory.wf s6 = true := wf_foldl (fun _ _ hs => wf_applyChange hs) (wf_overNats (fun _ _ hs => wf_applySwap hs) h4)
  have h8 : Memory.wf s8 = true := wf_sendTime (wf_ringsBoundary (wf_calAhead (wf_applyBlend h6)))
  clear_value s8
  exact h8

@[simp] theorem wf_execFrameBoundary (h : Memory.wf s = true) : keepsForm (execFrameBoundary s) = true := keepsForm_next (wf_doFrame h)

end Sys2Proof.Machine
end

section
/-! O60, the operations of Sys2Proof/Machine/Csr.lean: what they leave is in canonical form. -/
namespace Sys2Proof.Machine
variable {s : State}

theorem wf_clearFlowStatus {t : Tile} {v : Word} (ht : Tile.wf t = true) : Tile.wf (clearFlowStatus t v) = true := by
  unfold clearFlowStatus
  dsimp only
  split <;> exact ht

theorem wf_plainCsr {t : Tile} {csr : Nat} {v : Word} (ht : Tile.wf t = true) : Tile.wf (plainCsr t csr v) = true := by
  unfold plainCsr
  split
  · exact ht
  · exact ht
  · exact ht
  · exact ht
  · exact ht
  · exact wf_clearFlowStatus ht
  · exact ht
  · exact ht
  · exact ht
  · exact ht
  · exact ht
  · exact ht

theorem wf_customWrite {k csr : Nat} {v : Word} (h : Memory.wf s = true) : Memory.wf (customWrite s k csr v) = true := by
  unfold customWrite
  split
  · exact wf_updTile h (fun _ ht => wf_writeBase ht)
  · exact wf_bumpFree (wf_updTile h (fun _ ht => wf_writeTail ht))
  · exact wf_updTile h (fun _ ht => wf_writeCtrl ht)
  · exact wf_updTile h (fun _ ht => wf_writeSeed ht)
  · exact wf_updTile h (fun _ ht => wf_writeDmaLen ht)
  · exact wf_doDmaFlow h
  · exact wf_doSyncArrive h
  · exact wf_sendFlag h
  · exact wf_sendFlag h
  · exact wf_doJobExit h
  · exact wf_doFabArrive h
  · exact wf_fabSync h
  · exact wf_fabSync h
  · exact wf_updTile h (fun _ ht => wf_plainCsr ht)

@[simp] theorem wf_execCsrWrite {cd : Fin 16} {t : Fin 64} {csr : Fin 32} {v : Word} (h : Memory.wf s = true) :
    keepsForm (execCsrWrite cd t csr v s) = true :=
  keepsForm_next (wf_ite (wf_customWrite h) h)

end Sys2Proof.Machine
end

section
/-! O60, the operations of Sys2Proof/Machine/RvState.lean: what they leave is in canonical form. -/
namespace Sys2Proof.Machine
variable {s : State}

theorem wf_updCore {k : Nat} {f : CoreSt → CoreSt} (h : Memory.wf s = true) : Memory.wf (updCore s k f) = true := by
  unfold updCore
  exact wf_updTile h (fun _ ht => ht)

theorem wf_setXs {k n : Nat} {v : Word} (h : Memory.wf s = true) : Memory.wf (setXs s k n v) = true := by
  unfold setXs
  exact wf_updCore h

theorem wf_setFs {k n : Nat} {v : Word} (h : Memory.wf s = true) : Memory.wf (setFs s k n v) = true := by
  unfold setFs
  exact wf_updCore h

theorem wf_setCycle {k : Nat} {v : Word} (h : Memory.wf s = true) : Memory.wf (setCycle s k v) = true := by
  unfold setCycle
  exact wf_updCore h

theorem wf_setInhibit {k : Nat} {v : Word} (h : Memory.wf s = true) : Memory.wf (setInhibit s k v) = true := by
  unfold setInhibit
  exact wf_setCycle (wf_updCore h)

theorem wf_csrWrite {k n : Nat} {v : Word} (h : Memory.wf s = true) : Memory.wf (csrWrite s k n v) = true := by
  unfold csrWrite
  dsimp only
  split
  · exact wf_customWrite h
  · split
    · exact wf_updCore h
    · exact wf_updCore h
    · exact wf_updCore h
    · exact wf_updTile h (fun _ ht => ht)
    · exact wf_updTile h (fun _ ht => ht)
    · exact wf_updTile h (fun _ ht => ht)
    · exact wf_updTile h (fun _ ht => ht)
    · exact wf_updCore h
    · exact wf_updCore h
    · exact wf_updCore h
    · exact wf_setInhibit h
    · exact wf_updCore h
    · exact wf_updCore h
    · exact wf_updCore h
    · exact wf_updCore h
    · exact wf_updCore h
    · exact wf_setCycle h
    · exact wf_updCore h
    · exact h

theorem wf_flushCache {k : Nat} (h : Memory.wf s = true) : Memory.wf (flushCache s k) = true := by
  unfold flushCache
  exact wf_updTile h (fun _ ht => ht)

theorem wf_coreLoad {k a len : Nat} (h : Memory.wf s = true) : Memory.wf (coreLoad s k a len).1 = true := by
  unfold coreLoad
  split
  · exact h
  · exact wf_ite (wf_consumePoison (wf_readEffects h)) (wf_readEffects h)

theorem wf_coreStore {k a : Nat} {bs : List Byte} (h : Memory.wf s = true) : Memory.wf (coreStore s k a bs) = true := by
  unfold coreStore
  split
  · exact h
  · exact wf_updTile h (fun _ ht => wf_tileWrite ht)

end Sys2Proof.Machine
end

section
/-! O60, the operations of Sys2Proof/Machine/RvInt.lean: what they leave is in canonical form. -/
namespace Sys2Proof.Machine
variable {s : State}

theorem wf_execAmo {k w : Nat} {next : Word} (h : Memory.wf s = true) : RvOut.wf (execAmo s k w next) = true := by
  unfold execAmo
  dsimp only
  split
  · exact h
  · split
    · refine wf_ite h ?_
      split
      · exact h
      · exact wf_updCore (wf_coreLoad h)
    · split
      · exact h
      · refine wf_ite (wf_updCore (wf_ite (wf_coreStore h) h)) ?_
        split
        · exact h
        · exact wf_setXs (wf_coreStore (wf_coreLoad h))

theorem wf_execZicsr {k w : Nat} {next : Word} (h : Memory.wf s = true) : RvOut.wf (execZicsr s k w next) = true := by
  unfold execZicsr
  dsimp only
  split
  · exact h
  · exact wf_ite h (wf_ite rfl (wf_ite (wf_csrWrite (wf_setXs h)) (wf_setXs h)))

theorem wf_execSystem {k w : Nat} {pc next : Word} (h : Memory.wf s = true) : RvOut.wf (execSystem s k w pc next) = true := by
  unfold execSystem
  exact wf_ite (wf_ite h (wf_ite h (wf_ite (wf_updCore h) (wf_ite h h)))) (wf_ite h (wf_execZicsr h))

theorem wf_execLoad {k w : Nat} {next : Word} (h : Memory.wf s = true) : RvOut.wf (execLoad s k w next) = true := by
  unfold execLoad
  refine wf_ite h ?_
  split
  · exact h
  · exact wf_setXs (wf_coreLoad h)

theorem wf_execStoreI {k w : Nat} {next : Word} (h : Memory.wf s = true) : RvOut.wf (execStoreI s k w next) = true := by
  unfold execStoreI
  refine wf_ite h ?_
  split
  · exact h
  · exact wf_coreStore h

theorem wf_retX {k w : Nat} {next : Word} {r : Option Word} (h : Memory.wf s = true) : RvOut.wf (retX s k w next r) = true := by
  unfold retX
  split
  · exact wf_setXs h
  · exact h

theorem wf_execInt {k w : Nat} {pc next : Word} (h : Memory.wf s = true) : RvOut.wf (execInt s k w pc next) = true := by
  unfold execInt
  dsimp only
  split
  · exact wf_retX h
  · exact wf_retX h
  · exact wf_setXs h
  · exact wf_ite (wf_setXs h) h
  · split <;> exact h
  · exact wf_execLoad h
  · exact wf_execStoreI h
  · exact wf_retX h
  · exact wf_retX h
  · exact wf_retX h
  · exact wf_retX h
  · exact wf_ite h (wf_ite (wf_flushCache h) h)
  · exact wf_execAmo h
  · exact wf_execSystem h
  · exact h

end Sys2Proof.Machine
end

section
/-! O60, the operations of Sys2Proof/Machine/RvFloat.lean: what they leave is in canonical form. -/
namespace Sys2Proof.Machine
variable {s : State}

theorem wf_retF {k w : Nat} {next : Word} {f : Fmt} {r : FOut} (h : Memory.wf s = true) : RvOut.wf (retF s k w next f r) = true := by
  unfold retF
  exact wf_updCore h

theorem wf_retFx {k w : Nat} {next v : Word} {flags : Nat} (h : Memory.wf s = true) : RvOut.wf (retFx s k w next v flags) = true := by
  unfold retFx
  exact wf_updCore h

theorem wf_illegal {w : Nat} (h : Memory.wf s = true) : RvOut.wf (illegal s w) = true := h

theorem wf_execFload {k w : Nat} {next : Word} (h : Memory.wf s = true) : RvOut.wf (execFload s k w next) = true := by
  unfold execFload
  refine wf_ite (wf_illegal h) ?_
  split
  · exact h
  · exact wf_setFs (wf_coreLoad h)

theorem wf_execFstore {k w : Nat} {next : Word} (h : Memory.wf s = true) : RvOut.wf (execFstore s k w next) = true := by
  unfold execFstore
  refine wf_ite (wf_illegal h) ?_
  split
  · exact h
  · exact wf_coreStore h

theorem wf_execFmaOp {k w : Nat} {next : Word} (h : Memory.wf s = true) : RvOut.wf (execFmaOp s k w next) = true := by
  unfold execFmaOp
  dsimp only
  split
  · exact wf_ite (wf_illegal h) (wf_retF h)
  · exact wf_illegal h

theorem wf_execFcvt {k w : Nat} {next : Word} {f : Fmt} (h : Memory.wf s = true) : RvOut.wf (execFcvt s k w next f) = true := by
  unfold execFcvt
  dsimp only
  split
  · split
    · exact wf_retF h
    · exact wf_illegal h
  · split
    · exact wf_ite (wf_illegal h) (wf_retFx h)
    · exact wf_illegal h
  · split
    · exact wf_ite (wf_illegal h) (wf_retF h)
    · exact wf_illegal h
  · exact wf_ite (wf_illegal h) (wf_ite (wf_setXs h) (wf_ite (wf_setXs h) (wf_illegal h)))
  · exact wf_ite (wf_setFs h) (wf_illegal h)
  · exact wf_illegal h

theorem wf_execFpOp {k w : Nat} {next : Word} (h : Memory.wf s = true) : RvOut.wf (execFpOp s k w next) = true := by
  unfold execFpOp
  dsimp only
  split
  · exact wf_illegal h
  · split
    · exact wf_execFcvt h
    · split
      · exact wf_ite (wf_setFs h) (wf_illegal h)
      · exact wf_ite (wf_retF h) (wf_illegal h)
      · split
        · exact wf_retFx h
        · exact wf_illegal h
      · split
        · exact wf_illegal h
        · split
          · exact wf_retF h
          · exact wf_retF h
          · exact wf_retF h
          · exact wf_retF h
          · exact wf_ite (wf_retF h) (wf_illegal h)
          · exact wf_illegal h

theorem wf_execFloat {k w : Nat} {next : Word} (h : Memory.wf s = true) : RvOut.wf (execFloat s k w next) = true := by
  unfold execFloat
  refine wf_ite (wf_illegal h) ?_
  split
  · exact wf_execFload h
  · exact wf_execFstore h
  · exact wf_execFpOp h
  · exact wf_execFmaOp h

theorem wf_execScalar {k w : Nat} {pc next : Word} (h : Memory.wf s = true) : RvOut.wf (execScalar s k w pc next) = true := by
  unfold execScalar
  exact wf_ite (wf_execFloat h) (wf_execInt h)

end Sys2Proof.Machine
end

section
/-! O60, the operations of Sys2Proof/Machine/VecMem.lean: what they leave is in canonical form. -/
namespace Sys2Proof.Machine
variable {s : State}

theorem wf_updVec {k : Nat} {f : VecSt → VecSt} (h : Memory.wf s = true) : Memory.wf (updVec s k f) = true := by
  unfold updVec
  exact wf_updTile h (fun _ ht => ht)

theorem wf_execVset {k w : Nat} {next : Word} (h : Memory.wf s = true) : RvOut.wf (execVset s k w next) = true := by
  unfold execVset
  exact wf_ite (wf_setXs (wf_updVec h)) (wf_ite (wf_setXs (wf_updVec h)) (wf_ite (wf_setXs (wf_updVec h)) (wf_illegal h)))

theorem wf_vecReadEffects {k : Nat} {accs : List Nat} {len : Nat} (h : Memory.wf s = true) :
    Memory.wf (vecReadEffects s k accs len) = true := by
  unfold vecReadEffects
  dsimp only
  split
  · refine wf_consumePoison (wf_foldl (fun _ _ hs => ?_) h)
    split
    · exact wf_readEffects hs
    · exact hs
  · refine wf_foldl (fun _ _ hs => ?_) h
    split
    · exact wf_readEffects hs
    · exact hs

theorem wf_vLoad {k : Nat} {g : VCfg} {m : VMem} {vd : Nat} {addr : Nat → Nat → Nat} {next : Word} (h : Memory.wf s = true) :
    RvOut.wf (vLoad s k g m vd addr next) = true := by
  unfold vLoad
  dsimp only
  split <;> exact wf_updVec (wf_vecReadEffects h)

theorem wf_vStore {k : Nat} {g : VCfg} {m : VMem} {vs3 : Nat} {addr : Nat → Nat → Nat} {next : Word} (h : Memory.wf s = true) :
    RvOut.wf (vStore s k g m vs3 addr next) = true := by
  unfold vStore
  dsimp only
  split <;> exact wf_updVec (wf_foldl (fun _ _ hs => wf_foldl (fun _ _ hs => wf_coreStore hs) hs) h)

theorem wf_execVmem {k : Nat} {g : VCfg} {legal : Bool} {w : Nat} {next : Word} (h : Memory.wf s = true) :
    RvOut.wf (execVmem s k g legal w next) = true := by
  unfold execVmem
  dsimp only
  split
  · exact wf_illegal h
  · exact wf_ite (wf_vLoad h) (wf_vStore h)

theorem wf_putVOut {k w : Nat} {float : Bool} {o : VOut} (h : Memory.wf s = true) : Memory.wf (putVOut s k w float o) = true := by
  unfold putVOut
  dsimp only
  split
  · refine wf_setFs ?_
    split
    · exact wf_setXs (wf_ite (wf_updCore (wf_updVec h)) (wf_updVec h))
    · exact wf_ite (wf_updCore (wf_updVec h)) (wf_updVec h)
  · split
    · exact wf_setXs (wf_ite (wf_updCore (wf_updVec h)) (wf_updVec h))
    · exact wf_ite (wf_updCore (wf_updVec h)) (wf_updVec h)

theorem wf_retV {k w : Nat} {float : Bool} {next : Word} {o : Option VOut} (h : Memory.wf s = true) :
    RvOut.wf (retV s k w float next o) = true := by
  unfold retV
  split
  · exact wf_putVOut h
  · exact wf_illegal h

theorem wf_execVector {k w : Nat} {next : Word} (h : Memory.wf s = true) : RvOut.wf (execVector s k w next) = true := by
  unfold execVector
  dsimp only
  split
  · exact wf_illegal h
  · refine wf_ite (wf_execVmem h) (wf_ite (wf_execVset h) (wf_ite (wf_illegal h) (wf_ite ?_ (wf_retV h))))
    split
    · exact wf_retV h
    · exact wf_illegal h

end Sys2Proof.Machine
end

section
/-! O60, the operations of Sys2Proof/Machine/Riscv.lean: what they leave is in canonical form. -/
namespace Sys2Proof.Machine
variable {s : State}

theorem wf_retire {k w : Nat} {inhibited : Bool} {pc : Word} (h : Memory.wf s = true) : Memory.wf (retire s k w inhibited pc) = true := by
  unfold retire
  exact wf_updCore h

theorem wf_settle {k w raw : Nat} {inhibited : Bool} {r : RvOut} (h : Memory.wf s = true) (hr : r.wf = true) :
    Memory.wf (settle s k w raw inhibited r) = true := by
  cases r with
  | ok t pc => exact wf_bumpFree (wf_retire (s := t) hr)
  | trap t cause tval => exact wf_bumpFree (wf_updCore (s := t) hr)
  | stall => exact h

theorem wf_fetchLine {k a n : Nat} (h : Memory.wf s = true) : Memory.wf (fetchLine s k a n) = true := by
  unfold fetchLine
  exact wf_ite h (wf_updTile (wf_coreLoad h) (fun _ ht => ht))

theorem wf_fetchEffects {k len : Nat} (h : Memory.wf s = true) : Memory.wf (fetchEffects s k len) = true := by
  unfold fetchEffects
  exact wf_ite (wf_fetchLine h) (wf_fetchLine (wf_fetchLine h))

theorem wf_runInstr {k : Nat} {vec : Bool} (h : Memory.wf s = true) : Memory.wf (runInstr s k vec) = true := by
  unfold runInstr
  dsimp only
  split
  · exact wf_ite h (wf_settle h h)
  · split
    · exact wf_ite h (wf_settle h (wf_fetchEffects h))
    · exact wf_ite h (wf_settle h (wf_ite (wf_execVector (wf_fetchEffects h)) (wf_execScalar (wf_fetchEffects h))))

theorem wf_stepCore {k : Nat} {vec : Bool} (h : Memory.wf s = true) : Memory.wf (stepCore s k vec) = true := by
  unfold stepCore
  exact wf_ite h (wf_ite (wf_runInstr h) (wf_bumpFree (wf_updCore h)))

@[simp] theorem wf_execCoreInstruction {cd : Fin 16} {t : Fin 64} (h : Memory.wf s = true) :
    keepsForm (execCoreInstruction cd t s) = true :=
  keepsForm_next (wf_ite (wf_stepCore h) h)

@[simp] theorem wf_execVectorInstruction {cd : Fin 16} {t : Fin 64} (h : Memory.wf s = true) :
    keepsForm (execVectorInstruction cd t s) = true :=
  keepsForm_next (wf_ite (wf_stepCore h) h)

end Sys2Proof.Machine
end

section
/-! O60: every command and every step keeps what is stored in its canonical form. -/
namespace Sys2Proof.Machine
variable {s : State}

/-- Each command has its own simp lemma `wf_exec…`. -/
theorem wf_exec (c : Instr) (h : Memory.wf s = true) : keepsForm (exec c s) = true := by
  cases c <;> simp only [exec] <;> simp [h]

theorem wf_step (h : Memory.wf s = true) : keepsForm (step s) = true := by
  cases hp : s.pending with
  | nil =>
    rw [step_of_nil hp]
    exact keepsForm_next (wf_clockWork h)
  | cons c rest =>
    rw [step_of_cons hp]
    exact wf_exec c h

theorem wf_of_keepsForm {o : Host.Outcome State Fault Refusal} {t : State} (ho : keepsForm o = true) (ht : o = .next t) : Memory.wf t = true := by
  rwa [ht] at ho

/-- Settles O60: every operation of the model keeps the form (the `wf_…` lemmas, from the stores up to `clockWork`), so every command
does (`wf_exec`) and every step does (`wf_step`). -/
theorem storedFormKept : Obligations.StoredFormKept :=
  ⟨fun c _ _ h ht => wf_of_keepsForm (wf_exec c h) ht, fun _ _ h ht => wf_of_keepsForm (wf_step h) ht⟩

end Sys2Proof.Machine
end

section
/-! A job from its ring entry to its last exit (R213 to R218, R223, R327): taken, checked, started, booted, run and exited. -/
namespace Sys2Proof.Machine

section Take
variable {s : State} {r : Nat} {e : RingEntry}

theorem doJobTake_of_none (h : mayTake s = false ∨ nextRing s = none) : doJobTake s = s := by
  unfold doJobTake
  rcases h with h | h
  · exact if_pos (by simp [h])
  · simp only [h, ite_self]

/-- The next ring's entry goes to that ring's engine, which starts checking it, once the dies it needs are on (R214, R327). -/
theorem doJobTake_of_ring (hm : mayTake s = true) (hr : nextRing s = some r)
    (he : e = ringEntry (dramBytes s ((ringAt s r).base + 64 * ((ringAt s r).head % (ringAt s r).entries)) 64)) :
    doJobTake s = if diesReady s e = false then s else { setRing s r { ringAt s r with head := (ringAt s r).head + 1 } with
      lastRing := r, job := some { phase := .checking, ring := r, entryNo := (ringAt s r).head, owner := ringServer s r, entry := e, takenAt := s.ticks } } := by
  subst he
  unfold doJobTake
  rw [if_neg (by simp [hm]), hr]
  simp only [Bool.not_eq_true']

end Take

section Image
variable {s : State} {j : Job} (hj : s.job = some j)
include hj

theorem doImageChecked_of_other_phase (h : j.phase ≠ .checking) : doImageChecked s = s := by
  simp only [doImageChecked, hj, h, ne_eq, not_false_eq_true, if_true]

theorem doImageChecked_of_rejected (h : j.phase = .checking) {c : Nat} (hc : checkImage s j.entry = .inl c) : doImageChecked s = endJob s 3 c := by
  simp only [doImageChecked, hj, h, hc, ne_eq, not_true_eq_false, if_false]

theorem doImageChecked_of_sound (h : j.phase = .checking) {im : Image} (hc : checkImage s j.entry = .inr im) :
    doImageChecked s = startLoading (setJob s { j with image := some im }) := by
  simp only [doImageChecked, hj, h, hc, ne_eq, not_true_eq_false, if_false]

end Image

theorem doImageChecked_of_no_job {s : State} (h : s.job = none) : doImageChecked s = s := by simp only [doImageChecked, h]

section Boot
variable {s : State} {k : Nat}

theorem doTileBoot_of_no_job (h : s.job = none) : doTileBoot s k = s := by simp only [doTileBoot, h]

variable {j : Job} (hj : s.job = some j)
include hj

theorem doTileBoot_of_not_booting (h : j.phase ≠ .starting ∨ j.bootSent = false ∨ j.booted.contains k = true) : doTileBoot s k = s := by
  cases hv : vtileOf s k with
  | none =>
    simp only [doTileBoot, hj, hv]
    refine if_pos ?_
    simp only [Bool.not_eq_true']
    tauto
  | some v =>
    simp only [doTileBoot, hj, hv]
    refine if_pos ?_
    simpa only [Bool.not_eq_true'] using h

/-- No tile boots before its die record has arrived, and none is stopped without poison (R213). -/
theorem doTileBoot_of_no_record {v : Nat} (hv : vtileOf s k = some v) (hg : (tileAt s k).bootBad = false) (hr : (dieAt s (k / 64)).dieRec = none) :
    doTileBoot s k = s := by
  simp [doTileBoot, hj, hv, hg, hr]

section Starting
variable (hp : j.phase = .starting) (hs : j.bootSent = true) (hb : j.booted.contains k = false)
include hp hs hb

/-- A tile no vtile names loads its boot record only: poison in it stops the job (R213, log 110). -/
theorem doTileBoot_of_unnamed (hv : vtileOf s k = none) : doTileBoot s k =
    if (boundDies j.binding).contains (k / 64) = true ∧ (tileAt s k).bootBad = true
    then bumpFree (beginStop s 1 (some (6, (Config.freeWord s.freeCtr k).toNat % 65536, true)) 0 0) else s := by
  simp only [doTileBoot, hj, hv, hp, hs, hb, ite_and, ne_eq, not_true_eq_false, Bool.not_true, Bool.false_eq_true, false_or, or_false, Bool.not_eq_true']
  cases (boundDies j.binding).contains (k / 64) <;> simp

variable {v : Nat} (hv : vtileOf s k = some v)
include hv

theorem doTileBoot_of_poison (h : (tileAt s k).bootBad = true ∨ (dieAt s (k / 64)).dieRec = some true) :
    doTileBoot s k = beginStop s 1 (some (6, v, true)) 0 0 := by
  simp only [doTileBoot, hj, hv, hp, hs, hb, ne_eq, not_true_eq_false, Bool.not_true, Bool.false_eq_true, false_or, if_false]
  exact if_pos h

/-- All that a tile loads has arrived when its boot record and the lines that record names have (R213). -/
theorem doTileBoot_of_record (hg : (tileAt s k).bootBad = false) (hr : (dieAt s (k / 64)).dieRec = some false) : doTileBoot s k =
    if (tileAt s k).bootGot < 1 + (bootLines (tileAt s k)).1 + (bootLines (tileAt s k)).2 then s
    else setJob (updTile s k (fun y => { y with
      jobInfo := BitVec.ofNat 64 (v + j.variant.getD 0 * 65536 + j.restarts % 65536 * 2 ^ 32), core := { y.core with running := true, pc := 0 } }))
      { j with booted := j.booted ++ [k] } := by
  simp only [doTileBoot, hj, hv, hp, hs, hb, hg, hr, ne_eq, not_true_eq_false, Bool.not_true, Bool.false_eq_true, false_or, if_false, or_self,
    Option.some.injEq, Option.isNone_some]

end Starting
end Boot

section Command
variable {s : State} {cd : Fin 16} {t : Fin 64}

theorem exec_tileBoot_of_live (h : tileLive s (tkey cd t) = true) : exec (.tileBoot cd t) s = .next (doTileBoot s (tkey cd t)) :=
  congrArg Host.Outcome.next (if_pos h)

theorem exec_tileBoot_of_out (h : tileLive s (tkey cd t) = false) : exec (.tileBoot cd t) s = .next s :=
  congrArg Host.Outcome.next (if_neg (by simp [h]))

theorem exec_jobExit_of_live (w : Word) (h : tileLive s (tkey cd t) = true) :
    exec (.jobExit cd t w) s = .next (doJobExit s (tkey cd t) (w.toNat % 65536)) :=
  congrArg Host.Outcome.next (if_pos h)

theorem exec_jobExit_of_out (w : Word) (h : tileLive s (tkey cd t) = false) : exec (.jobExit cd t w) s = .next s :=
  congrArg Host.Outcome.next (if_neg (by simp [h]))

/-- A command of a tile that would change nothing changes nothing whether the tile is live or not. -/
theorem exec_tileBoot_of_idle (h : doTileBoot s (tkey cd t) = s) : exec (.tileBoot cd t) s = .next s :=
  congrArg Host.Outcome.next (by rw [h, ite_self])

theorem exec_jobExit_of_idle {w : Word} (h : doJobExit s (tkey cd t) (w.toNat % 65536) = s) : exec (.jobExit cd t w) s = .next s :=
  congrArg Host.Outcome.next (by rw [h, ite_self])

end Command

section Run
variable {s : State}

theorem doJobRunning_of_no_job (h : s.job = none) : doJobRunning s = s := by simp only [doJobRunning, h]

/-- The variant that stands by for the one that runs, if the image has it (R215, Table 14 step 6). -/
def standbyVariant (s : State) (j : Job) : Option VariantE :=
  (runVariant s).bind (fun v => j.image.bind (fun im => im.variants.find? (fun e => e.variant == v.standby)))

/-- The standby variant's set goes to the base tiles, unless their shadows hold it already (R221). -/
def loadStandby (s : State) (j : Job) (st : VariantE) : State :=
  if (heldShadow s j.owner (variantSet s j.entry st).1 (variantSet s j.entry st).2).isSome then s
  else setJob (queueTables s j.owner (List.range 8) (nextGen s j.loadGen).toNat (variantSet s j.entry st).1 (variantSet s j.entry st).2) { j with
    phase := .running, loadGen := nextGen s j.loadGen, verdicts := [], loading := some st.variant, tableBuf := variantSet s j.entry st, busy := [] }

variable {j : Job} (hj : s.job = some j)
include hj

theorem doJobRunning_of_unready (h : j.phase ≠ .starting ∨ j.binding.all (fun k => j.booted.contains k) = false) : doJobRunning s = s := by
  simp only [doJobRunning, hj]
  exact if_pos (by simpa only [Bool.not_eq_true'] using h)

theorem doJobRunning_of_ready (hp : j.phase = .starting) (hb : j.binding.all (fun k => j.booted.contains k) = true)
    {s1 : State} (h1 : s1 = setJob s { j with phase := .running }) :
    doJobRunning s = judgeExits ((standbyVariant s1 j).elim s1 (loadStandby s1 j)) := by
  subst h1
  simp only [doJobRunning, hj, standbyVariant]
  rw [if_neg (by simp only [hp, hb, ne_eq, not_true_eq_false, Bool.not_true, Bool.false_eq_true, or_self, not_false_eq_true])]
  cases runVariant (setJob s { j with phase := .running }) with
  | none => rfl
  | some v =>
    simp only [Option.bind_some]
    cases j.image.bind (fun im => im.variants.find? (fun e => e.variant == v.standby)) <;> rfl

end Run

section Exit
variable {s : State} {k code : Nat}

theorem doJobExit_of_no_vtile (h : s.job = none ∨ vtileOf s k = none) : doJobExit s k code = s := by
  rcases h with h | h
  · simp only [doJobExit, h]
  · cases hj : s.job <;> simp only [doJobExit, hj, h]

variable {j : Job} {v : Nat} (hj : s.job = some j) (hv : vtileOf s k = some v)
include hj hv

/-- The first exit of a vtile counts, and a first non-zero code after an exit with 0 (R217). -/
theorem doJobExit_of_counted (hp : j.phase = .starting ∨ j.phase = .running)
    (h : tfind j.exits v = none ∨ code ≠ 0 ∧ tfind j.exits v = some 0) :
    doJobExit s k code = judgeExits (setJob s { j with exits := tput j.exits v code }) := by
  simp only [doJobExit, hj, hv]
  exact if_pos ⟨hp, by simpa only [Option.isNone_iff_eq_none] using h⟩

theorem doJobExit_of_uncounted
    (h : j.phase ≠ .starting ∧ j.phase ≠ .running ∨ (∃ c, tfind j.exits v = some c ∧ (code = 0 ∨ c ≠ 0))) : doJobExit s k code = s := by
  simp only [doJobExit, hj, hv]
  refine if_neg ?_
  rintro ⟨hp, he⟩
  rcases h with ⟨h1, h2⟩ | ⟨c, hc, h⟩
  · exact hp.elim h1 h2
  · simp only [hc, Option.isNone_some, Bool.false_eq_true, false_or, Option.some.injEq] at he
    exact h.elim he.1 (fun h => h he.2)

end Exit

section Judge
variable {s : State} {j : Job} (hj : s.job = some j)
include hj

theorem judgeExits_of_other_phase (h : j.phase ≠ .running) : judgeExits s = s := by
  simp only [judgeExits, hj, h, ne_eq, not_false_eq_true, if_true]

theorem judgeExits_of_code (h : j.phase = .running) {e : Nat × Nat} (he : j.exits.find? (fun e => e.2 ≠ 0) = some e) :
    judgeExits s = beginStop s 1 (some (1, e.2 + e.1 * 65536, true)) 0 0 := by
  simp only [judgeExits, hj, h, he, ne_eq, not_true_eq_false, if_false]

theorem judgeExits_of_zeros (h : j.phase = .running) (he : j.exits.find? (fun e => e.2 ≠ 0) = none) :
    judgeExits s = if (List.range j.binding.length).all (fun v => (tfind j.exits v).isSome) = true
      then setJob s { j with phase := .draining, status := some (0, 0), decided := s.now } else s := by
  simp only [judgeExits, hj, h, he, ne_eq, not_true_eq_false, if_false]

end Judge

/-- Settles O27: each command by what of the job and the tile it finds; the running job by whether its image has a standby variant, and an
exit by the codes that stand. -/
theorem jobStarts : Obligations.JobStarts := by
  refine ⟨fun s => ⟨fun h => ?_, fun r e hm hr he => ?_⟩, fun s => ⟨fun h => ?_, fun j hj => ⟨fun h => ?_, fun h => ⟨fun c hc => ?_, fun im hc => ?_⟩⟩⟩,
    ?_, ?_, fun s => ⟨fun h => ?_, fun j hj => ⟨fun h => ?_, ?_⟩⟩, ?_, ?_⟩
  · exact congrArg Host.Outcome.next (doJobTake_of_none h)
  · exact congrArg Host.Outcome.next (doJobTake_of_ring hm hr he)
  · exact congrArg Host.Outcome.next (doImageChecked_of_no_job h)
  · exact congrArg Host.Outcome.next (doImageChecked_of_other_phase hj h)
  · exact congrArg Host.Outcome.next (doImageChecked_of_rejected hj h hc)
  · exact congrArg Host.Outcome.next (doImageChecked_of_sound hj h hc)
  · rintro hd seq variant gen restarts t scratch s _ rfl
    rw [← sigArrive_now s (ctrlPacket (siteHD hd.val) 0x7F 0x60 seq (variant.toNat + gen.toNat * 256 + restarts.toNat * 65536) [t, scratch])]
    rfl
  · refine fun cd t s => ⟨fun h => ?_, fun j hl hj => ⟨fun h => ?_, fun hp hs hb =>
      ⟨fun hv => ?_, fun v hv => ⟨fun h => ?_, fun hg hr => ?_, fun hg hr => ?_⟩⟩⟩⟩
    · rcases h with h | h
      · exact exec_tileBoot_of_out h
      · exact exec_tileBoot_of_idle (doTileBoot_of_no_job h)
    · exact exec_tileBoot_of_idle (doTileBoot_of_not_booting hj h)
    · rw [exec_tileBoot_of_live hl, doTileBoot_of_unnamed hj hp hs hb hv]
    · rw [exec_tileBoot_of_live hl, doTileBoot_of_poison hj hp hs hb hv h]
    · exact exec_tileBoot_of_idle (doTileBoot_of_no_record hj hv hg hr)
    · rw [exec_tileBoot_of_live hl, doTileBoot_of_record hj hp hs hb hv hg hr]
  · exact congrArg Host.Outcome.next (doJobRunning_of_no_job h)
  · exact congrArg Host.Outcome.next (doJobRunning_of_unready hj h)
  · intro s1 hp hb h1
    refine congrArg Host.Outcome.next ((doJobRunning_of_ready hj hp hb h1).trans (congrArg judgeExits ?_))
    unfold standbyVariant
    split
    next h => rw [h]; rfl
    next st h => rw [h]; rfl
  · refine fun cd t w s => ⟨fun h => ?_, fun j v hl hj hv => ⟨fun hp h => ?_, fun h => ?_⟩⟩
    · rcases h with h | h
      · exact exec_jobExit_of_out w h
      · exact exec_jobExit_of_idle (doJobExit_of_no_vtile h)
    · rw [exec_jobExit_of_live w hl, doJobExit_of_counted hj hv hp h]
    · exact exec_jobExit_of_idle (doJobExit_of_uncounted hj hv h)
  · exact fun s j hj => ⟨judgeExits_of_other_phase hj, fun h => ⟨fun e he => judgeExits_of_code hj h he, judgeExits_of_zeros hj h⟩⟩

end Sys2Proof.Machine
end

section
/-! A job's stop, drain and end (R215 to R223, R288 to R292): JOB_STOP at a die, the last answer, what a job waits for, and its record. -/
namespace Sys2Proof.Machine

section Die
variable {s : State} {n owner : Nat} {j : Job}

/-- A bound tile at JOB_STOP: its core halts and its queue aborts (R220). -/
def stoppedTile (t : Tile) : Tile := { t with halted := true, core := { t.core with running := false }, mq := { t.mq with aborting := true } }

/-- The bound tiles of a compute die that are in service stop (R220). -/
def stopTiles (s : State) (j : Job) (n : Nat) : State :=
  (j.binding.filter (fun k => k / 64 == n && !tileOut s k)).foldl (fun u k => updTile u k stoppedTile) s

theorem stopDie_of_compute (hk : siteKind (siteCD n) = some (.cd, n)) (hj : s.job = some j) : stopDie s owner (siteCD n) =
    ctrlSendFrom (stopUnits ((dieAt (stopTiles s j n) n).reqs.foldl (stopReq n) (stopTiles s j n)) (fun x => x.cd == n)) (siteCD n) owner 0x62 (siteCD n) := by
  simp only [stopDie, hk, hj]
  rfl

theorem stopDie_of_fabric (hk : siteKind (siteFD n) = some (.fd, n)) (hj : s.job = some j) :
    stopDie s owner (siteFD n) = ctrlSendFrom (stopUnits s (fun x => x.fd == n)) (siteFD n) owner 0x62 (siteFD n) := by
  simp only [stopDie, hk, hj]

variable {r : DieReq}

theorem stopReq_of_sent (h : r.unsent = []) : stopReq n s r = s := if_pos (by simp [h])

/-- A request that still waits for an answer, and a load, stay; what of them is unsent is not sent (R220). -/
theorem stopReq_of_unsent (h : r.unsent ≠ []) (hw : r.waiting ≠ [] ∨ r.load = true) : stopReq n s r = setDie s n { dieAt s n with
    reqs := (dieAt s n).reqs.map (fun x => if x.tag = r.tag then { r with unsent := [], worst := worseStatus r.worst 1 } else x) } := by
  unfold stopReq
  rw [if_neg (by simpa using h)]
  exact if_neg (by rcases hw with hw | hw <;> simp [hw])

end Die

section Answer
variable {s : State} {hd site : Nat}

theorem doJobStopped_of_no_job (h : s.job = none) : doJobStopped s hd site = s := by simp only [doJobStopped, h]

variable {j : Job} (hj : s.job = some j)
include hj

theorem doJobStopped_of_not_stopping (h : j.stop = none ∨ j.owner ≠ hd) : doJobStopped s hd site = s := by
  cases hs : j.stop with
  | none => simp only [doJobStopped, hj, hs]
  | some st =>
    simp only [doJobStopped, hj, hs]
    exact if_pos (h.resolve_left (by simp [hs]))

/-- The last answer at the owner engine ends the stop; dies fenced meanwhile are not waited for (R220). -/
theorem doJobStopped_of_stopping {st st' : Stop} (hs : j.stop = some st) (ho : j.owner = hd)
    (h' : st' = { st with awaiting := st.awaiting.filter (fun x => x != site && !fencedSite s x) }) :
    doJobStopped s hd site = if st'.awaiting = [] then stopDone (setJob s { j with stop := some st' }) else setJob s { j with stop := some st' } := by
  subst h'
  simp only [doJobStopped, hj, hs, ho, ne_eq, not_true_eq_false, if_false, List.isEmpty_iff]

/-- A stop that ends with a status leaves the job draining, or ends it once its requests have ended (R220, R223). -/
theorem stopDone_of_ending {u : State} {st : Stop} {status detail : Nat} {drain : Bool} (hs : j.stop = some st) (he : st.ending = some (status, detail, drain))
    (hu : u = setJob s { j with status := some (status, detail), decided := st.decided, phase := if drain then .draining else .stopping, stop := none }) :
    stopDone s = if drain = false ∧ requestsEnded u = true then endJob u status detail else u := by
  subst hu
  simp only [stopDone, hj, hs, he, Bool.and_eq_true, Bool.not_eq_true']

end Answer

section Wait
variable {s : State}

theorem exec_jobStopTimeout_of_no_stop (h : s.job.bind (·.stop) = none) : exec .jobStopTimeout s = .next s :=
  congrArg Host.Outcome.next (by rw [h])

theorem exec_jobStopTimeout_of_stop {st : Stop} (h : s.job.bind (·.stop) = some st) :
    exec .jobStopTimeout s = .next (if st.at_ + 25000 ≤ s.ticks then stopDone s else s) :=
  congrArg Host.Outcome.next (by rw [h])

theorem exec_runLimitExpiry_of_no_job (h : s.job = none) : exec .runLimitExpiry s = .next s :=
  congrArg Host.Outcome.next (by rw [h])

theorem exec_runLimitExpiry_of_job {j : Job} (h : s.job = some j) : exec .runLimitExpiry s =
    .next (if j.entry.runLimit ≠ 0 ∧ j.takenAt + 1000 * j.entry.runLimit ≤ s.ticks then beginStop s 5 (some (0x0A, 0, false)) 0 0 else s) :=
  congrArg Host.Outcome.next (by rw [h]; rfl)

theorem doJobDrained_of_undecided (h : s.job.bind (·.status) = none) : doJobDrained s = s := by
  cases hj : s.job with
  | none => simp only [doJobDrained, hj]
  | some j =>
    rw [hj, Option.bind_some] at h
    simp only [doJobDrained, hj, h]

variable {j : Job} {status detail : Nat} (hj : s.job = some j) (hs : j.status = some (status, detail))
include hj hs

theorem doJobDrained_of_draining (h : j.phase = .draining) :
    doJobDrained s = if (requestsEnded s && transfersEnded s j) = true then endJob s status detail else s := by
  simp only [doJobDrained, hj, hs, h, if_true]

/-- A job that is not to drain waits for its requests alone, and for no stop (R223). -/
theorem doJobDrained_of_ending (h : j.phase ≠ .draining) :
    doJobDrained s = if j.stop = none ∧ requestsEnded s = true then endJob s status detail else s := by
  simp only [doJobDrained, hj, hs, h, if_false, Option.isNone_iff_eq_none, ite_and]

end Wait

section End
variable {s : State}

/-- The job is gone, its shadows are released and its record is under way (R215, R223, R290). -/
def jobCleared (s : State) (j : Job) (status detail : Nat) : State :=
  endEntry { releaseShadow s j.owner with job := none, flowKinds := [] } j.ring status detail j.restarts j.entry.tag
    (if j.status.isSome then j.decided else (releaseShadow s j.owner).now)

variable {j : Job} {status detail : Nat} (hj : s.job = some j)
include hj

theorem endJob_of_no_reach (h : (ringAt (jobCleared s j status detail) j.ring).reach = none) : endJob s status detail = jobCleared s j status detail := by
  unfold jobCleared at h ⊢
  simp only [endJob, hj, h]

/-- An abort that waited for the job ends the ring's entries below it (R290). -/
theorem endJob_of_reach {a : Nat} (h : (ringAt (jobCleared s j status detail) j.ring).reach = some a) : endJob s status detail =
    abortQueued 4096 (setRing (jobCleared s j status detail) j.ring { ringAt (jobCleared s j status detail) j.ring with reach := none }) j.ring a := by
  unfold jobCleared at h ⊢
  simp only [endJob, hj, h]

end End

section Ack
variable {s : State} {ring : Nat}

theorem doRecordAck_of_none (h : (ringAt s ring).recs = [] ∨ (ringAt s ring).acked = false) : doRecordAck s ring = s := by
  cases hr : (ringAt s ring).recs with
  | nil => simp only [doRecordAck, hr]
  | cons e rest =>
    simp only [doRecordAck, hr]
    exact if_neg (by simp [h.resolve_left (by simp [hr])])

/-- The write of a record's first eight bytes, which hold SEQ, over the ring's queue pair (R292). -/
def seqWrite (v : RingSt) (ring n : Nat) (bs : List Byte) : QpReq :=
  { psn := 0, ring := ring, setup := v.setup, n := n, va := v.recBase + 64 * ((n - 1) % max v.entries 1),
    rkey := v.recKey, data := bs.take 8, seqPart := true, sentAt := 0, tries := 0 }

theorem doRecordAck_of_acked {n : Nat} {bs : List Byte} {rest : List (Nat × List Byte)} {u : State}
    (h : (ringAt s ring).recs = (n, bs) :: rest) (ha : (ringAt s ring).acked = true)
    (hu : u = queueRequest s (ringAt s ring).qp (seqWrite (ringAt s ring) ring n bs)) :
    doRecordAck s ring = sendBody (setRing u ring { ringAt u ring with seq := n, recs := rest, acked := false }) ring := by
  subst hu
  simp only [doRecordAck, h, ha, if_true]
  rfl

end Ack

/-- Settles O28: a stop at a die by the die's kind and at a request by what of it is unsent, an answer by the job it finds, the end of a stop,
a drain and an end by what has ended, and a record by whether its body is acknowledged. -/
theorem jobStops : Obligations.JobStops := by
  refine ⟨?_, ?_, fun s n j owner hk hj => stopDie_of_fabric hk hj, fun s n r => ⟨stopReq_of_sent, stopReq_of_unsent⟩, ?_,
    fun s => ⟨exec_jobStopTimeout_of_no_stop, fun st => exec_jobStopTimeout_of_stop⟩, fun s u j st status detail drain hj hs he hu => stopDone_of_ending hj hs he hu,
    fun s => ⟨fun h => ?_, fun j status detail hj hs => ⟨fun h => ?_, fun h => ?_⟩⟩,
    fun s => ⟨exec_runLimitExpiry_of_no_job, fun j => exec_runLimitExpiry_of_job⟩, ?_, fun ring s => ⟨fun h => ?_, fun n bs rest h ha => ⟨_, rfl, ?_⟩⟩⟩
  · rintro hd seq reason s _ rfl
    rfl
  · rintro s _ n j owner hk hj rfl
    exact stopDie_of_compute hk hj
  · rintro hd seq site s _ rfl
    rw [← sigArrive_job s (ctrlPacket site.val (siteHD hd.val) 0x62 seq site.val [])]
    refine ⟨fun h => ?_, fun j hj => ⟨fun h => ?_, fun st st' hs ho h' => ?_⟩⟩
    · exact congrArg Host.Outcome.next (doJobStopped_of_no_job h)
    · exact congrArg Host.Outcome.next (doJobStopped_of_not_stopping hj h)
    · exact congrArg Host.Outcome.next (doJobStopped_of_stopping hj hs ho h')
  · exact congrArg Host.Outcome.next (doJobDrained_of_undecided h)
  · exact congrArg Host.Outcome.next (doJobDrained_of_draining hj hs h)
  · exact congrArg Host.Outcome.next (doJobDrained_of_ending hj hs h)
  · rintro s _ j status detail hj rfl
    split
    next h => exact endJob_of_no_reach hj h
    next a h => exact endJob_of_reach hj h
  · exact congrArg Host.Outcome.next (doRecordAck_of_none h)
  · exact congrArg Host.Outcome.next (doRecordAck_of_acked h ha rfl)

end Sys2Proof.Machine
end

section
/-! Fences and the cupping test (R220, R352, R363 to R371): FENCE and CUP_START where they are taken, a tile's test, and the collected results. -/
namespace Sys2Proof.Machine

section Fence
variable {s : State} {src : BitVec 7} {seq : BitVec 32} {site cause : Nat} {tile : Option Nat} {t : Word} {r : Bool × State}
  (hr : r = ctrlTakeAll (sigArrive s (ctrlPacket src.toNat 0x7F 0x80 seq (site + 128 * b2n tile.isSome + 256 * tile.getD 0 + 16384 * cause) [t])) src seq)
include hr

theorem doFence_of_untaken (h : r.1 = false) : doFence s src seq site tile cause t = r.2 := by
  unfold doFence
  dsimp only
  rw [← hr, if_pos (by simp [h])]

variable {s2 : State} (ht : r.1 = true) (h2 : s2 = schedule r.2 t (.fence site tile cause (cause == 9)))
include ht h2

/-- The job engine judges a fence as soon as it is taken, before its boundary: one that hits a unit of the job is a loss (R220, R363). -/
theorem doFence_of_taken : doFence s src seq site tile cause t = (fenceHits s2 site tile).elim s2 (fun h => jobLoss s2 h.1 h.2) := by
  subst h2
  unfold doFence
  dsimp only
  rw [← hr, if_neg (by simp [ht])]
  cases fenceHits (schedule r.2 t (.fence site tile cause (cause == 9))) site tile <;> rfl

end Fence

section Period
variable {s : State}

theorem doCuppingPeriod_of_held (h : dval s Obj.cupEnable ≠ 1 ∨ dval s Obj.moduleState ≠ 1 ∨ s.faults.cup.open_ = true ∨ s.faults.cup.named ≠ none ∨
    collectorUp s = false) : doCuppingPeriod s = s :=
  if_pos (by simpa only [Option.isSome_iff_ne_none, Bool.not_eq_true'] using h)

/-- A period's boundary: 2,048 ns ahead at least, and a period after the last (R366). -/
def periodBoundary (s : State) : Word :=
  if s.faults.cup.k = 0 then boundaryAfter s 2048 else BitVec.ofNat 64 (max (boundaryAfter s 2048).toNat (s.faults.cup.t.toNat + cupP s))

/-- A period's seed is a free value, and 1 where that is zero (R366). -/
def periodSeed (s : State) : Word := if Config.freeWord s.freeCtr 0xC0 = 0 then 1 else Config.freeWord s.freeCtr 0xC0

theorem periodSeed_ne_zero (s : State) : periodSeed s ≠ 0 := by
  unfold periodSeed
  split
  · decide
  · assumption

theorem doCuppingPeriod_of_due (he : dval s Obj.cupEnable = 1) (hm : dval s Obj.moduleState = 1) (ho : s.faults.cup.open_ = false)
    (hn : s.faults.cup.named = none) (hc : collectorUp s = true) :
    doCuppingPeriod s = ctrlSend (bumpFree (setCup s (fun c => { c with named := some (periodBoundary s, 1 + s.faults.cup.k % 15, periodSeed s) })))
      0x7F 0x82 (1 + s.faults.cup.k % 15 + s.faults.cup.k % 65536 * 16) [periodBoundary s, periodSeed s] :=
  if_neg (by simp [he, hm, ho, hn, hc])

end Period

section Test
variable {s : State} {k : Nat} {st : CupState} {sum : Word}

theorem cupEnd_of_not_running (h : tileLive s k = false ∨ (tileAt s k).cup ≠ .running) : cupEnd s k st sum = s :=
  if_pos (by simpa only [Bool.not_eq_true'] using h)

/-- The last tile of a die to finish or hang sends the die's results (R368). -/
theorem cupEnd_of_running {n : Nat} (hn : k / 64 = n) (hl : tileLive s k = true) (hr : (tileAt s k).cup = .running) {u : State}
    (hu : u = setTile s k { tileAt s k with cup := st, cupSum := sum }) : cupEnd s k st sum = if cupDone u n = true then cupSend u n else u := by
  subst hn hu
  exact if_neg (by simp [hl, hr])

end Test

section Result
variable {s d : State} {cd j : Nat} {seq : BitVec 32} {period fin : Nat} {sums : List Word}

/-- The sums of a CUP_RESULT packet join those collected: one for each tile its FINISHED bits name (R368). -/
def collectSums (cd j fin : Nat) (sums : List Word) (c : Tbl Word) : Tbl Word :=
  (List.range (cupTiles j).length).foldl (fun t i => if bitAt fin i then tput t (64 * cd + 6 * j + i) (sums.getD i 0) else t) c

variable (hd : d = sigArrive s (ctrlPacket (siteCD cd) (activeSite s) 0x83 seq (cupField period j fin) sums))
include hd

theorem cup_of_arrival : d.faults.cup = s.faults.cup ∧ collectorUp d = collectorUp s := by
  subst hd
  simp [collectorUp, roleOf]

theorem doCupResult_of_other (h : s.faults.cup.open_ = false ∨ period ≠ (s.faults.cup.k - 1) % 65536 ∨ s.faults.cup.expect.contains cd = false ∨
    collectorUp s = false) : doCupResult s cd j seq period fin sums = d := by
  obtain ⟨hcup, hup⟩ := cup_of_arrival hd
  rw [← hcup, ← hup] at h
  unfold doCupResult
  rw [← hd]
  exact if_pos (by simpa only [Bool.not_eq_true'] using h)

/-- A result for the open period is kept, and the judgement closes when every expected die has reported (R368, R370). -/
theorem doCupResult_of_open (ho : s.faults.cup.open_ = true) (hp : period = (s.faults.cup.k - 1) % 65536) (he : s.faults.cup.expect.contains cd = true)
    (hc : collectorUp s = true) {u : State}
    (hu : u = setCup d (fun c => { c with reported := addPos c.reported (16 * cd + j), sums := collectSums cd j fin sums c.sums })) :
    doCupResult s cd j seq period fin sums = if cupAllIn u = true then judgeCup u else u := by
  obtain ⟨hcup, hup⟩ := cup_of_arrival hd
  rw [← hcup] at ho hp he
  rw [← hup] at hc
  subst hu
  unfold doCupResult
  rw [← hd]
  exact if_neg (by simp only [ho, ← hp, he, hc, Bool.not_true, Bool.false_eq_true, ne_eq, not_true_eq_false, or_self, not_false_eq_true])

end Result

theorem judgeCup_closes (s : State) : (judgeCup s).faults.cup.open_ = false := rfl

/-- Settles O42: FENCE by whether a die takes it and what it hits, a period by whether one is due, a tile's test by its time and its die's
other tiles, and a result by the period it is for. -/
theorem fencesAndCupping : Obligations.FencesAndCupping := by
  refine ⟨?_, fun s => ⟨fun h => ?_, fun he hm ho hn hc => ⟨periodSeed s, periodBoundary s, _, periodSeed_ne_zero s, rfl, rfl, ?_⟩⟩, ?_, ?_, ?_,
    fun cd j seq period fin sums s d hd => ⟨fun h => ?_, fun ho hp he hc => ?_⟩, fun s => rfl, judgeCup_closes⟩
  · intro src seq site tile cause t s r hr
    refine ⟨fun h => ?_, fun s2 ht h2 => ⟨fun h => ?_, fun k u h => ?_⟩⟩
    · exact congrArg Host.Outcome.next (doFence_of_untaken hr h)
    · exact congrArg Host.Outcome.next ((doFence_of_taken hr ht h2).trans (by rw [h]; rfl))
    · exact congrArg Host.Outcome.next ((doFence_of_taken hr ht h2).trans (by rw [h]; rfl))
  · exact congrArg Host.Outcome.next (doCuppingPeriod_of_held h)
  · exact congrArg Host.Outcome.next (doCuppingPeriod_of_due he hm ho hn hc)
  · rintro src seq m period t seed s _ rfl
    rfl
  · refine fun cd t s => congrArg Host.Outcome.next (if_congr ?_ rfl rfl)
    rw [List.isEmpty_iff]
  · refine fun cd t s wrong => ⟨fun h => ⟨?_, ?_⟩, fun u v hl hr hu hv => ⟨?_, ?_⟩⟩
    · exact congrArg Host.Outcome.next ((congrArg (ite _ s) (cupEnd_of_not_running h)).trans (ite_self _))
    · exact congrArg Host.Outcome.next ((congrArg (ite _ s) (cupEnd_of_not_running h)).trans (ite_self _))
    · exact congrArg Host.Outcome.next (congrArg (ite _ s) (cupEnd_of_running (tkey_div cd t) hl hr hu))
    · exact congrArg Host.Outcome.next (congrArg (ite _ s) (cupEnd_of_running (tkey_div cd t) hl hr hv))
  · exact congrArg Host.Outcome.next (doCupResult_of_other hd h)
  · exact ⟨_, rfl, congrArg Host.Outcome.next (doCupResult_of_open hd ho hp he hc rfl)⟩

end Sys2Proof.Machine
end

section
/-! Packets on an external link (R238 to R240): when a command takes one, and where a unicast packet goes from there. -/
namespace Sys2Proof.Machine

section Arrive
variable {s : State} {l : Nat} {p : FabPacket} {opc : BitVec 8}

theorem mayArrive_iff : mayArrive s l p opc.toNat = true ↔ linkIsUp s l = true ∧ p.opc = opc ∧ shapeOk p = true := by
  simp only [mayArrive, Bool.and_eq_true, beq_iff_eq, BitVec.toNat_inj, and_assoc]

/-- A packet that arrives whole, of the command's OPC on an up link, is taken. -/
theorem taken_of_whole {t u : State} (hup : linkIsUp s l = true) (ho : p.opc = opc) (hs : shapeOk p = true) :
    (if mayArrive s l p opc.toNat = true then t else u) = t :=
  if_pos (mayArrive_iff.2 ⟨hup, ho, hs⟩)

/-- One that does not is left where it is. -/
theorem untaken_of_broken {t u : State} (h : linkIsUp s l = false ∨ p.opc ≠ opc ∨ shapeOk p = false) :
    (if mayArrive s l p opc.toNat = true then t else u) = u :=
  if_neg (by rw [mayArrive_iff]; rintro ⟨hup, ho, hs⟩; simp [hup, ho, hs] at h)

theorem arriveUni_eq (here : State → State) :
    arriveUni s l p here = if isOwn s p.dst.toNat = true then here (freeInput { s with sent := s.sent.erase (.fabIn l p) } l p)
      else routeUni (freeInput { s with sent := s.sent.erase (.fabIn l p) } l p) (l / 2) (some l) p := rfl

/-- A unicast packet that arrives whole is taken here by the module it names, and else routed on. -/
theorem arriveUni_of_whole {here : State → State} {u : State} (hup : linkIsUp s l = true) (ho : p.opc = opc) (hs : shapeOk p = true) :
    (if mayArrive s l p opc.toNat = true then arriveUni s l p here else u) =
      if isOwn s p.dst.toNat = true then here (freeInput { s with sent := s.sent.erase (.fabIn l p) } l p)
      else routeUni (freeInput { s with sent := s.sent.erase (.fabIn l p) } l p) (l / 2) (some l) p :=
  (taken_of_whole hup ho hs).trans (arriveUni_eq here)

end Arrive

section Discard
variable {l : Fin 16} {p : FabPacket} {s : State}

theorem exec_fabricDiscard_of_bad (hm : (linkAt s l.val).mode ≠ .down) (hs : shapeOk p = false) :
    exec (.fabricDiscard l p) s = .next (bump (freeInput { s with sent := s.sent.erase (.fabIn l.val p) } l.val p) Obj.fabricDiscards) :=
  congrArg Host.Outcome.next (if_pos (by simp [hm, hs]))

theorem exec_fabricDiscard_of_good (h : (linkAt s l.val).mode = .down ∨ shapeOk p = true) : exec (.fabricDiscard l p) s = .next s :=
  congrArg Host.Outcome.next (if_neg (by rcases h with h | h <;> simp [h]))

end Discard

/-! Requests at their executing die (R244, R247, R266). -/

section Execute
variable {s : State} {f : Nat} {p : FabPacket} {run : State → Nat → State}

section Idempotent
variable (hn : nonIdempotent p.opc.toNat = false)
include hn

theorem executeReq_of_stale (hs : isStale s p = true) : executeReq s f p run = bump s Obj.fabricStale := by
  simp only [executeReq, hn, hs, Bool.false_and, Bool.false_eq_true, if_false, if_true]

theorem executeReq_of_refused {c : Nat × Option Nat} (hs : isStale s p = false) (hc : checkReq s p = some c) :
    executeReq s f p run = refuseReq s f p c.1 c.2 := by
  simp only [executeReq, hn, hs, hc, Bool.false_and, Bool.false_eq_true, if_false]

theorem executeReq_of_passed (hs : isStale s p = false) (hc : checkReq s p = none) : executeReq s f p run = run s f := by
  simp only [executeReq, hn, hs, hc, Bool.false_and, Bool.false_eq_true, if_false]

end Idempotent

section Once
variable (hn : nonIdempotent p.opc.toNat = true) (hd : tget (fun _ => 0) s.fab.deadShares (homeDie p) ≤ s.ticks)
include hn hd

theorem executeReq_of_foreign (hf : nextUp s (homeDie p) ≠ f) :
    executeReq s f p run = pathSend s (siteFD f) (siteFD (nextUp s (homeDie p))) p := by
  unfold executeReq
  rw [if_neg (by simpa [hn] using hd), if_pos (by simp [hn, hf])]

/-- A repeat of a decided operation is answered from its dedupe entry. -/
theorem executeReq_of_decided {e : Dedupe} {o : Nat × Word} (hs : isStale s p = false) (hf : nextUp s (homeDie p) = f) (he : dedupeOf s p = some e)
    (ho : e.outcome = some o) : executeReq s f p run = sendAnswer (bump s Obj.fabricDedupeHits) f p o.1 (some (cachedResult p o)) [] := by
  unfold executeReq
  rw [if_neg (by simpa [hn] using hd), if_neg (by simp [hf]), if_neg (by simp [hs])]
  simp only [hn, he, ho, if_true]

end Once

end Execute

theorem answerHere_of_origin {u : State} {f : Nat} {p : FabPacket} (h : p.origFd.toNat = f) : answerHere u f p = takeAnswer u p := if_pos h

theorem answerHere_elsewhere {u : State} {f : Nat} {p : FabPacket} (h : p.origFd.toNat ≠ f) :
    answerHere u f p = pathSend u (siteFD f) (siteFD p.origFd.toNat) p := if_neg h

/-! A unit at its memory base die (R191, R196, R247). -/

section Serve
variable {s : State} {md : Nat} {site : Nat} {p : FabPacket}

theorem serveUnit_of_lost (hl : setLostNow s (setOf md) = true) (hw : stackWorks s md = true) : serveUnit s md site p = unitLost s md site p :=
  if_pos (by rw [hl, hw]; rfl)

theorem serveUnit_of_out (hs : stackServes s md = false) (hw : stackWorks s md = false) : serveUnit s md site p = s := by
  unfold serveUnit
  rw [if_neg (by simp [hw]), if_pos (by simp [hs])]

theorem serveUnit_of_serves (hs : stackServes s md = true)
    (hb : (linesOf (p.addr.toNat % 2 ^ 44) (rangeOf p)).any (fun l => bankHeldAt s md (64 * l)) = false) :
    serveUnit s md site p = unitAnswer (memServe s p).2.2.2 md site p (memServe s p).1 (memServe s p).2.1 (memServe s p).2.2.1 := by
  unfold serveUnit
  rw [if_neg (by simp [setLostNow_of_stackServes hs]), if_neg (by simp [hs])]
  exact if_neg (by simp only [hb, Bool.false_eq_true, not_false_eq_true])

end Serve

/-- Settles O29: a packet by whether it arrives whole and its OPC, a request by its freshness and its checks, an operation that must not run
twice by its home die, and a unit by what its stack is. -/
theorem fabricPackets : Obligations.FabricPackets := by
  refine ⟨?_, fun p u f => ⟨answerHere_of_origin, answerHere_elsewhere⟩, fun s f p hn => ⟨executeReq_of_stale hn, fun c => executeReq_of_refused hn, ?_⟩,
    fun s m f p => ⟨serveUnit_of_serves, serveUnit_of_lost, serveUnit_of_out⟩,
    fun s f p hn hd => ⟨executeReq_of_foreign hn hd, fun e o => executeReq_of_decided hn hd⟩⟩
  · rintro l p s _ rfl
    refine ⟨fun hup hs => ⟨?_, ?_, ?_, ?_, ?_, fun ho => ⟨_, rfl, congrArg Host.Outcome.next (taken_of_whole hup ho hs)⟩⟩,
      ?_, ?_, ?_, ?_, ?_, ?_, exec_fabricDiscard_of_bad, exec_fabricDiscard_of_good⟩
    iterate 5 exact fun ho => congrArg Host.Outcome.next (arriveUni_of_whole hup ho hs)
    iterate 6 exact fun h => congrArg Host.Outcome.next (untaken_of_broken h)
  · rintro _ hs hc rfl
    exact executeReq_of_passed hn hs hc

end Sys2Proof.Machine
end

section
/-! Remote requests at their origin (R246, R251, R264, R265), the time limits of an executing die (R247, R266), and regions (R243). -/
namespace Sys2Proof.Machine

/-- What a die does changes nothing when it is out of service, or has nothing to do. -/
theorem ite_of_idle {up : Bool} {s t : State} (h : up = false ∨ t = s) : (if up = true then t else s) = s := by
  rcases h with h | h
  · exact if_neg (Bool.not_eq_true _ ▸ h)
  · rw [h, ite_self]

section Unit
variable {s : State} {fd : Fin 8} {cd : Fin 16}

theorem doRemoteUnit_of_none {f c : Nat} (h : headUnit s f c = none) : doRemoteUnit s f c = s := by
  simp only [doRemoteUnit, h]

theorem exec_remoteUnit_of_idle (h : fdUp s fd.val = false ∨ headUnit s fd.val cd.val = none) : exec (.remoteUnit fd cd) s = .next s :=
  congrArg Host.Outcome.next (ite_of_idle (h.imp_right doRemoteUnit_of_none))

theorem exec_remoteUnit_of_head {u : RemoteUnit} (hf : fdUp s fd.val = true) (hu : headUnit s fd.val cd.val = some u) :
    exec (.remoteUnit fd cd) s = .next (if (arbAt (inject s fd.val) .fabric (16 + fd.val)).holder = some cd.val
      then originate (arbRelease (inject s fd.val) .fabric (16 + fd.val)) fd.val u else inject s fd.val) :=
  congrArg Host.Outcome.next ((if_pos hf).trans (by simp only [doRemoteUnit, hu]))

end Unit

section Originate
variable {s : State} {f : Nat} {u : RemoteUnit}

/-- The module has no route for a unit: it has no number, or a unit for one module has no entry (R229, R255). -/
def unitUnrouted (s : State) (u : RemoteUnit) : Bool := if u.opc = 5 then s.fab.own == 0xFFFF else noRoute s (u.addr / 2 ^ 44)

theorem unitUnrouted_of_multi (h : u.opc = 5) : unitUnrouted s u = (s.fab.own == 0xFFFF) := if_pos h
theorem unitUnrouted_of_single (h : u.opc ≠ 5) : unitUnrouted s u = noRoute s (u.addr / 2 ^ 44) := if_neg h

theorem originate_of_unrouted (h : unitUnrouted s u = true) : originate s f u = answerRemote (unitStage s u 2) u 11 [] [] := by
  unfold unitUnrouted at h
  unfold originate
  exact if_pos h

/-- A unit with a route becomes an operation with the lowest free tag, is counted and sent, and throttles its die. -/
theorem originate_of_routed {tag : Nat} {s1 : State} (h : unitUnrouted s u = false) (ht : freeFabTag s f = some tag)
    (h1 : s1 = bump (unitStage s u 2) Obj.fabricRequests) :
    originate s f u = sendAttempt { s1 with fab := { s1.fab with
      ops := s1.fab.ops ++ [{ fd := f, tag := tag, packet := unitPacket s u tag, first := s1.ticks, attempt := 0, owner := .unit u,
                              members := if u.opc = 5 then groupMembers s1 u.group else 1, done := [], other := none }],
      throttleFree := tset (fun _ => 0) s1.fab.throttleFree f (s1.ticks + throttleTime (tget (fun _ => 0) s.fab.throttle f) (u.data.length + 1)) } }
      f (unitPacket s u tag) := by
  subst h1
  unfold unitUnrouted at h
  unfold originate
  simp only [h, ht, Bool.false_eq_true, if_false]

end Originate

/-! An operation's time limit (R265). -/

section Timeout
variable {s : State} {f tag : Nat} {o : FabOp}

theorem endOp_of_unit {u : RemoteUnit} (status : Nat) (result : List Byte) (data : List Flit) (h : o.owner = .unit u) :
    endOp s o status result data = answerRemote { s with fab := { s.fab with ops := s.fab.ops.erase o } } u status result data := by
  simp only [endOp, h]

theorem doAttemptTimeout_of_none (h : s.fab.ops.find? (fun o => o.fd == f && o.tag == tag) = none) : doAttemptTimeout s f tag = s := by
  simp only [doAttemptTimeout, h]

theorem exec_attemptTimeout_of_none {fd : Fin 8} {t : BitVec 12}
    (h : fdUp s fd.val = false ∨ s.fab.ops.find? (fun o => o.fd == fd.val && o.tag == t.toNat) = none) : exec (.attemptTimeout fd t) s = .next s :=
  congrArg Host.Outcome.next (ite_of_idle (h.imp_right doAttemptTimeout_of_none))

theorem exec_attemptTimeout_of_up {fd : Fin 8} {t : BitVec 12} (h : fdUp s fd.val = true) :
    exec (.attemptTimeout fd t) s = .next (doAttemptTimeout s fd.val t.toNat) :=
  congrArg Host.Outcome.next (if_pos h)

section Found
variable (ho : s.fab.ops.find? (fun o => o.fd == f && o.tag == tag) = some o)
include ho

theorem doAttemptTimeout_of_early (h : s.ticks < o.first + (o.attempt + 1) * (o.packet.tmo.toNat * 1000)) : doAttemptTimeout s f tag = s := by
  simp only [doAttemptTimeout, ho, if_pos h]

variable (h : o.first + (o.attempt + 1) * (o.packet.tmo.toNat * 1000) ≤ s.ticks)
include h

theorem doAttemptTimeout_of_last (hl : 2 ≤ o.attempt) : doAttemptTimeout s f tag = endUnanswered s o := by
  simp only [doAttemptTimeout, ho, if_neg (Nat.not_lt.mpr h)]
  exact if_pos hl

theorem doAttemptTimeout_of_retry {o' : FabOp} (hl : o.attempt < 2)
    (ho' : o' = { o with attempt := o.attempt + 1, packet := { o.packet with attempt := BitVec.ofNat 2 (o.attempt + 1), sent := s.now } }) :
    doAttemptTimeout s f tag = if opDrained s o = true then s
      else resend { s with fab := { s.fab with ops := s.fab.ops.map (fun x => if x = o then o' else x) } } f o' := by
  subst ho'
  simp only [doAttemptTimeout, ho, if_neg (Nat.not_lt.mpr h)]
  exact if_neg (Nat.not_le.mpr hl)

end Found

theorem resend_of_silent (h : originatesNone s = true) : resend s f o = s := if_pos h

theorem resend_of_unrouted (h : originatesNone s = false) (ho : o.packet.opc ≠ 5) (hr : noRoute s o.packet.dst.toNat = true) :
    resend s f o = endOp s o 11 [] [] := by
  unfold resend
  rw [if_neg (by simp [h]), if_pos ⟨ho, hr⟩]

theorem resend_of_routed (h : originatesNone s = false) (hr : o.packet.opc = 5 ∨ noRoute s o.packet.dst.toNat = false) :
    resend s f o = if o.packet.vc = 0 then originateVc0 (bump s Obj.fabricRetries) o.packet else sendAttempt (bump s Obj.fabricRetries) f o.packet := by
  unfold resend
  rw [if_neg (by simp [h]), if_neg (by rcases hr with hr | hr <;> simp [hr])]

end Timeout

section Memory
variable {s : State} {fd : Fin 8}

theorem doMemoryTimeout_of_none {f : Nat} (h : s.fab.memWaits.find? (fun w => w.fd == f && decide (s.ticks ≥ w.at_ + 20000)) = none) :
    doMemoryTimeout s f = s := by
  simp only [doMemoryTimeout, h]

theorem exec_memoryAnswerTimeout_of_none
    (h : fdUp s fd.val = false ∨ s.fab.memWaits.find? (fun w => w.fd == fd.val && decide (s.ticks ≥ w.at_ + 20000)) = none) :
    exec (.memoryAnswerTimeout fd) s = .next s :=
  congrArg Host.Outcome.next (ite_of_idle (h.imp_right doMemoryTimeout_of_none))

theorem exec_memoryAnswerTimeout_of_late {w : MemWait} (hf : fdUp s fd.val = true)
    (h : s.fab.memWaits.find? (fun w => w.fd == fd.val && decide (s.ticks ≥ w.at_ + 20000)) = some w) :
    exec (.memoryAnswerTimeout fd) s = .next (if w.packet.opc = 1
      then decide_ { s with fab := { s.fab with memWaits := s.fab.memWaits.erase w } } fd.val w.packet 1 none (onesLines (sizeFlits w.packet.w4))
      else decide_ { s with fab := { s.fab with memWaits := s.fab.memWaits.erase w } } fd.val w.packet 10 none []) :=
  congrArg Host.Outcome.next ((if_pos hf).trans (by simp only [doMemoryTimeout, h]))

end Memory

/-! Throttling (R264). -/

section Throttle
variable {s : State} {fd : Fin 8}

theorem exec_throttleReview_of_out (h : fdUp s fd.val = false) : exec (.throttleReview fd) s = .next s :=
  congrArg Host.Outcome.next (if_neg (by simp [h]))

/-- The state in which a fabric die's throttle stands at a level from now on. -/
def throttleSet (s : State) (f lvl : Nat) : State :=
  { s with fab := { s.fab with throttle := tset (fun _ => 0) s.fab.throttle f lvl, throttleSince := tset (fun _ => 0) s.fab.throttleSince f s.ticks } }

theorem doThrottle_of_rise {f now : Nat} (hn : now = fillLevel (egressFill s f)) (h : tget (fun _ => 0) s.fab.throttle f ≤ now) :
    doThrottle s f = throttleSet s f now := by
  subst hn
  rcases Nat.lt_or_eq_of_le h with hlt | heq
  · exact if_pos hlt
  · refine (if_neg (by omega)).trans ((if_pos heq.symm).trans ?_)
    rw [← heq]; rfl

theorem doThrottle_of_fall {f lvl : Nat} (hl : lvl = tget (fun _ => 0) s.fab.throttle f) (h : fillLevel (egressFill s f) < lvl) :
    doThrottle s f = if tget (fun _ => 0) s.fab.throttleSince f + 10000 ≤ s.ticks then throttleSet s f (lvl - 1) else s := by
  subst hl
  exact (if_neg (by omega)).trans (if_neg (by omega))

end Throttle

/-! Regions (R243). -/

section Region
variable {s : State} {r : Nat} {bs : List Byte} {e : FabRegion}

/-- The state in which a region entry is replaced, the old one still seen for a while. -/
def regionSet (s : State) (r : Nat) (e : FabRegion) : State :=
  { s with fab := { s.fab with regions := tset (fun _ => {}) s.fab.regions r { cur := e, prev := (tget (fun _ => {}) s.fab.regions r).cur, at_ := some s.ticks } } }

theorem doRegion_of_malformed (h : regionBytesOk bs = false) : (doRegion s r bs).2 = s := by
  unfold doRegion
  rw [if_pos (by simp [h])]

variable (he : e = regionOfBytes bs) (h : regionBytesOk bs = true)
include he h

theorem doRegion_of_free (h1 : e.state ≠ 1) (h2 : e.state ≠ 2) : (doRegion s r bs).2 = regionSet s r e := by
  subst he
  unfold doRegion
  rw [if_neg (by simp [h, h1, h2])]
  rfl

/-- An OPEN or CLOSED entry must fit: its size, its place in mapped DRAM, and no other such entry it overlaps. -/
theorem doRegion_of_held (hs : e.state = 1 ∨ e.state = 2) : (doRegion s r bs).2 =
    if 21 ≤ e.sizeLog2 ∧ e.sizeLog2 ≤ 41 ∧ e.base % 2 ^ e.sizeLog2 = 0 ∧ inMapped s e.base (2 ^ e.sizeLog2) = true ∧
      s.fab.regions.any (fun x => x.1 != r && overlaps e x.2.cur) = false
    then regionSet s r e else s := by
  subst he
  have hheld : ((regionOfBytes bs).state == 1 || (regionOfBytes bs).state == 2) = true := by simpa using hs
  unfold doRegion
  simp only [hheld, h, Bool.not_true, Bool.true_and, Bool.false_or]
  split
  · next hbad =>
    rw [if_neg]
    rintro ⟨hlo, hhi, hbase, hmap, hover⟩
    simp [hlo, hhi, hbase, hmap, hover] at hbad
  · next hgood =>
    rw [if_pos]
    · rfl
    · simpa [and_assoc] using hgood

end Region

/-- Settles O30: a unit by the grant, its route and its tag, an attempt by its window and its number, a silent memory base die by its wait, the
throttle by the level asked for, and a region by its form and its fit. -/
theorem fabricOrigin : Obligations.FabricOrigin := by
  refine ⟨?_, fun s f u => ⟨fun h hr => ?_, fun h ho => ?_, fun tag s1 h ht h1 => ?_⟩, fun s o u status result data => endOp_of_unit status result data,
    fun fd tag s => ⟨exec_attemptTimeout_of_none, fun o hf ho => ?_⟩, fun s f o => ⟨resend_of_silent, resend_of_unrouted, resend_of_routed⟩,
    fun s => rfl, fun fd s => ⟨exec_memoryAnswerTimeout_of_none, fun w => exec_memoryAnswerTimeout_of_late⟩,
    fun fd s => ⟨exec_throttleReview_of_out, fun now lvl hf hn hl => ⟨fun h => ?_, fun h => ?_⟩⟩, ?_⟩
  · rintro fd cd s _ rfl
    exact ⟨exec_remoteUnit_of_idle, fun u => exec_remoteUnit_of_head⟩
  · exact originate_of_unrouted ((unitUnrouted_of_single h).trans hr)
  · exact originate_of_unrouted ((unitUnrouted_of_multi h).trans (by simp [ho]))
  · refine originate_of_routed ?_ ht h1
    rcases h with ⟨h5, hown⟩ | ⟨h5, hr⟩
    · rw [unitUnrouted_of_multi h5]; simpa using hown
    · rw [unitUnrouted_of_single h5, hr]
  · rw [exec_attemptTimeout_of_up hf]
    exact ⟨fun h => congrArg Host.Outcome.next (doAttemptTimeout_of_early ho h),
      fun h => ⟨fun hl => congrArg Host.Outcome.next (doAttemptTimeout_of_last ho h hl),
      fun o' hl ho' => congrArg Host.Outcome.next (doAttemptTimeout_of_retry ho h hl ho')⟩⟩
  · exact congrArg Host.Outcome.next ((if_pos hf).trans (doThrottle_of_rise hn (hl ▸ h)))
  · exact congrArg Host.Outcome.next ((if_pos hf).trans (doThrottle_of_fall hl (hn ▸ h)))
  · rintro r bs s e _ he rfl
    exact ⟨fun h => congrArg Host.Outcome.next (doRegion_of_malformed h), fun h h1 h2 => congrArg Host.Outcome.next (doRegion_of_free he h h1 h2),
      fun h hs => congrArg Host.Outcome.next (doRegion_of_held he h hs)⟩

end Sys2Proof.Machine
end

section
/-! External links (R235 to R237, R311): training, HELLO, silence and loss, and the packets that announce changes of lines, calibration and time. -/
namespace Sys2Proof.Machine

section Training
variable {l : Fin 16} {s : State}

theorem exec_linkTrainingRetry_of_idle (h : linkMay s l.val = false ∨ (linkAt s l.val).mode = .up) : exec (.linkTrainingRetry l) s = .next s := by
  refine congrArg Host.Outcome.next ?_
  rcases h with h | h
  · exact if_pos (by simp [h])
  · simp only [h, ite_self]

variable (h : linkMay s l.val = true)
include h

theorem exec_linkTrainingRetry_of_down (hm : (linkAt s l.val).mode = .down) : exec (.linkTrainingRetry l) s = .next (startTraining s l.val) :=
  congrArg Host.Outcome.next ((if_neg (by simp [h])).trans (by simp only [hm]))

theorem exec_linkTrainingRetry_of_training (hm : (linkAt s l.val).mode = .training) : exec (.linkTrainingRetry l) s = .next
    (if (linkAt s l.val).since + (if (linkAt s l.val).retried = true then 1000000000 else 4000000000) ≤ s.ticks
      then setLink (startTraining s l.val) l.val { linkAt (startTraining s l.val) l.val with retried := true } else s) :=
  congrArg Host.Outcome.next ((if_neg (by simp [h])).trans (by simp only [hm]))

end Training

/-! What taking a packet leaves of its link: only the flits freed there are others. -/

section Freed
variable (v : LinkSt) (p : FabPacket)

theorem freePacket_eq : ∃ t, freePacket v p = { v with freed := t } := by
  unfold freePacket freeFlits
  split
  · exact ⟨_, rfl⟩
  · exact ⟨_, rfl⟩

@[simp] theorem freePacket_mode : (freePacket v p).mode = v.mode := by
  obtain ⟨t, h⟩ := freePacket_eq v p; rw [h]
@[simp] theorem freePacket_neighbour : (freePacket v p).neighbour = v.neighbour := by
  obtain ⟨t, h⟩ := freePacket_eq v p; rw [h]

end Freed

@[simp] theorem linkAt_setLink_same (s : State) (l : Nat) (v : LinkSt) : linkAt (setLink s l v) l = v := tget_tset_same _ _ _ _

@[simp] theorem linkAt_freeInput_same (s : State) (l : Nat) (p : FabPacket) : linkAt (freeInput s l p) l = freePacket (linkAt s l) p :=
  linkAt_setLink_same _ _ _

/-! HELLO (R235, R236). -/

section Hello
variable {l : Nat} {p : FabPacket} {s s1 : State} {bs : List Byte} {v : LinkSt} {old : BitVec 36 → BitVec 36}

theorem exec_hello_of_broken {k : Fin 16} (h : p.opc ≠ 0x21 ∨ shapeOk p = false ∨ linkMay s k.val = false) : exec (.hello k p) s = .next s :=
  congrArg Host.Outcome.next (if_neg (by rintro ⟨ho, hs, hm⟩; simp [ho, hs, hm] at h))

theorem exec_hello_of_whole {k : Fin 16} (hm : linkMay s k.val = true) (ho : p.opc = 0x21) (hs : shapeOk p = true) :
    exec (.hello k p) s = .next (doHello s k.val p) :=
  congrArg Host.Outcome.next (if_pos ⟨ho, hs, hm⟩)

variable (h1 : s1 = freeInput { s with sent := s.sent.erase (.fabIn l p) } l p) (hbs : bs = ((p.data.head?).map (·.data)).getD [])
  (hold : old = fun x => if (linkAt s l).mode = .up then x else 0)
  (hv : v = { linkAt s1 l with heard := true, farTx := old (linkAt s1 l).farTx ||| BitVec.ofNat 36 (leAt bs 8 8),
                               farRx := old (linkAt s1 l).farRx ||| BitVec.ofNat 36 (leAt bs 16 8) })
include h1

theorem linkAt_taken : linkAt s1 l = freePacket (linkAt s l) p := by
  subst h1; exact linkAt_freeInput_same _ _ _

include hbs hold hv

/-- HELLO by the state of its link, which its arrival leaves as it is. -/
theorem doHello_eq : doHello s l p = match (linkAt s l).mode with
    | .down => s1
    | .up => if v.neighbour = some (leAt bs 0 2, leAt bs 2 1, leAt bs 3 1) then setLink s1 l v else linkDown s1 l
    | .training => if (bitAt (leAt bs 4 1) 0 && decide (leAt bs 0 2 < 4096) && decide (leAt bs 0 2 ≠ s1.fab.own)) = true
        then setLink s1 l { v with mode := .up, since := s1.ticks, neighbour := some (leAt bs 0 2, leAt bs 2 1, leAt bs 3 1),
                                   sent := [], got := [], freed := [], told := [], vc0Out := [] }
        else setLink s1 l v := by
  have hmode : (linkAt s1 l).mode = (linkAt s l).mode := by rw [linkAt_taken h1, freePacket_mode]
  rw [← hmode] at hold ⊢
  subst hv hold hbs h1
  rfl

theorem doHello_of_down (hm : (linkAt s l).mode = .down) : doHello s l p = s1 := by
  rw [doHello_eq h1 hbs hold hv, hm]

theorem doHello_of_training (hm : (linkAt s l).mode = .training) : doHello s l p = setLink s1 l
    (if bitAt (leAt bs 4 1) 0 = true ∧ leAt bs 0 2 < 4096 ∧ leAt bs 0 2 ≠ s.fab.own
      then { v with mode := .up, since := s.ticks, neighbour := some (leAt bs 0 2, leAt bs 2 1, leAt bs 3 1),
                    sent := [], got := [], freed := [], told := [], vc0Out := [] } else v) := by
  have hown : s1.fab.own = s.fab.own := by rw [h1]; rfl
  have hticks : s1.ticks = s.ticks := by rw [h1]; rfl
  rw [doHello_eq h1 hbs hold hv, hm, apply_ite (setLink s1 l), hown, hticks]
  simp only [Bool.and_eq_true, decide_eq_true_eq, and_assoc]

theorem doHello_of_up (hm : (linkAt s l).mode = .up) : doHello s l p =
    if (linkAt s l).neighbour = some (leAt bs 0 2, leAt bs 2 1, leAt bs 3 1) then setLink s1 l v else linkDown s1 l := by
  have hn : v.neighbour = (linkAt s l).neighbour := by rw [hv, ← freePacket_neighbour (linkAt s l) p, ← linkAt_taken h1]
  rw [doHello_eq h1 hbs hold hv, hm, hn]

end Hello

/-! A link goes down (R107, R235, R236, R273). -/

section Down
variable {s x : State} {l : Nat} {v : LinkSt}

theorem linkDown_of_down (h : (linkAt s l).mode = .down) : linkDown s l = s := if_pos h

/-- The state in which a link has gone dark: its queued packets are discarded and counted, and the changes of its own lines that were named
or announced take effect. -/
def linkDarkened (s : State) (l : Nat) (v : LinkSt) : State :=
  List.foldl (fun u p => applyExclude u (linkPort l) (bitAt p.w4.toNat 0) (fld p.w4.toNat 1 6))
    (List.foldl (fun u e => applyExclude u (linkPort l) true e.2.2)
      (List.foldl copySent (setLink (bump s Obj.fabricRouteDiscards v.queue.length) l { mode := .down, since := s.ticks }) v.queue)
      (v.rxChanges.filter (·.2.1)))
    (v.queue.filter (fun p => p.opc == 0x24))

variable (hv : v = linkAt s l) (hx : x = linkDarkened s l v)
include hv hx

theorem linkDown_of_training (h : v.mode = .training) : linkDown s l = x := by
  subst hv hx
  exact (if_neg (by simp [h])).trans (if_neg (by simp [h]))

theorem linkDown_of_up (h : v.mode = .up) : linkDown s l =
    raise (bump (match v.neighbour with | some n => noteVanished x n.1 | none => x) (Obj.linkDowns + 256 * l))
      (siteFD (linkFd l)) 0x0C 0x30 4 false (l + ((v.neighbour.map (·.1)).getD 0) * 16) := by
  subst hv hx
  exact (if_neg (by simp [h])).trans (if_pos h)

end Down

theorem exec_linkSilence (l : Fin 16) (dark : Bool) (s : State) : exec (.linkSilence l dark) s = .next
    (if (linkAt s l.val).mode = .up ∧ (dark = true ∨ ((linkAt s l.val).predict.map (·.2)).getD (linkAt s l.val).since + 512 ≤ s.ticks)
      then linkDown s l.val else s) := rfl

/-! LINK_CAL and TIME (R237, R311). -/

section Announced
variable {l : Nat} {p : FabPacket} {s s1 u : State}

theorem doLinkCal_eq (h1 : s1 = freeInput { s with sent := s.sent.erase (.fabIn l p) } l p)
    (hu : u = setLink s1 l { linkAt s1 l with
      calFrames := (linkAt s1 l).calFrames.filter (fun e => decide (frameNo s1 < e.2.1 + 1024)) ++
        [(stepLine (p.w4.toNat % 64), p.w5.toNat, bitAt p.w4.toNat 6)] }) :
    doLinkCal s l p = match s.light.cal.running with
      | some t => if givesWay u l = true ∧ linkClash u l (!bitAt p.w4.toNat 6) (t.toNat / 1024) = true ∧ (s.light.cal.side = 1) = !bitAt p.w4.toNat 6
          then endStepAt u (linkPort l) (!bitAt p.w4.toNat 6) else u
      | none => u := by
  subst hu h1; rfl

end Announced

/-- Settles O31: training and HELLO by the state of the link, silence by how long it lasts, a link's fall by what it was, and the packets of a
link's neighbour by whether they arrive whole. -/
theorem fabricLinkStates : Obligations.FabricLinkStates := by
  refine ⟨fun l s => ⟨exec_linkTrainingRetry_of_idle, fun h => ⟨exec_linkTrainingRetry_of_down h, exec_linkTrainingRetry_of_training h⟩⟩,
    fun l p s => ⟨exec_hello_of_broken, fun s1 bs old v hm ho hs h1 hbs hold hv => ?_⟩, exec_linkSilence,
    fun s x l v hv hx => ⟨fun h => linkDown_of_down (hv ▸ h), linkDown_of_training hv hx, linkDown_of_up hv hx⟩,
    fun l p s => ⟨fun h => ?_, fun h => ?_, fun h ps => ?_, fun s1 hup hs h1 => ⟨fun ho => ?_, fun u ho hu => ?_, ?_⟩⟩⟩
  · rw [exec_hello_of_whole hm ho hs]
    exact ⟨fun h => congrArg Host.Outcome.next (doHello_of_down h1 hbs hold hv h), fun h => congrArg Host.Outcome.next (doHello_of_training h1 hbs hold hv h),
      fun h => congrArg Host.Outcome.next (doHello_of_up h1 hbs hold hv h)⟩
  · exact congrArg Host.Outcome.next (untaken_of_broken (h.imp_right Or.symm))
  · exact congrArg Host.Outcome.next (untaken_of_broken (h.imp_right Or.symm))
  · exact congrArg Host.Outcome.next (untaken_of_broken (h.imp_right Or.symm))
  · subst h1
    exact congrArg Host.Outcome.next (taken_of_whole hup ho hs)
  · exact congrArg Host.Outcome.next ((taken_of_whole hup ho hs).trans (doLinkCal_eq h1 hu))
  · rintro ps bs e th dl u ho rfl rfl rfl rfl rfl
    subst h1
    exact congrArg Host.Outcome.next (taken_of_whole hup ho hs)

end Sys2Proof.Machine
end

section
/-! Routing sets (R257), drains (R271) and leaving the fabric (R272). -/
namespace Sys2Proof.Machine

section Routes
variable {s : State}

theorem exec_routeShadow (bs : List Byte) (s : State) : exec (.routeShadow bs) s =
    .next (if routeSetOk s bs = true then { s with fab := { s.fab with shadow := routeEntries bs } } else s) := by
  refine congrArg Host.Outcome.next ?_
  unfold doRouteShadow
  cases routeSetOk s bs <;> rfl

theorem exec_routeSwap_of_held {v : BitVec 8} (h : v ≠ 1 ∨ s.fab.drain.isSome = true) : exec (.routeSwap v) s = .next s := by
  refine congrArg Host.Outcome.next (if_neg ?_)
  rintro ⟨hv, hd⟩
  rcases h with h | h
  · exact h hv
  · rw [Option.isNone_iff_eq_none.1 hd] at h; exact Bool.false_ne_true h

/-- The drain of every module and group whose entries differ, as it starts. -/
def drainStarted (s : State) (leaver : Option Nat) : Drain :=
  { at_ := s.ticks, modules := (routeDiff s).filter (· < 4096), groups := ((routeDiff s).filter (4096 ≤ ·)).map (· - 4096), leavers := leaver.toList,
    queued := s.fab.links.flatMap (fun e => e.2.queue.filter (fun p =>
      if isMulti p then (((routeDiff s).filter (4096 ≤ ·)).map (· - 4096)).contains (multiGroup s p)
      else ((routeDiff s).filter (· < 4096)).contains p.dst.toNat)),
    flushed := false, shadow := s.fab.shadow }

theorem startDrain_of_none (leaver : Option Nat) (h : s.fab.drain = none) :
    startDrain s leaver = { s with fab := { s.fab with drain := some (drainStarted s leaver) } } := by
  simp only [startDrain, h]; rfl

theorem startDrain_of_some {d : Drain} {l : Nat} (h : s.fab.drain = some d) :
    startDrain s (some l) = { s with fab := { s.fab with drain := some { d with leavers := addPos d.leavers l } } } := by
  simp only [startDrain, h]

theorem exec_routeSwap_of_free (h : s.fab.drain = none) :
    exec (.routeSwap 1) s = .next { s with fab := { s.fab with drain := some (drainStarted s none) } } :=
  congrArg Host.Outcome.next ((if_pos ⟨rfl, Option.isNone_iff_eq_none.2 h⟩).trans (startDrain_of_none none h))

end Routes

/-! The end of a drain's wait (R271 steps 2 and 3). -/

section Flush
variable {s : State}

theorem doFlushEnd_of_none (h : s.fab.drain = none) : doFlushEnd s = s := by
  simp only [doFlushEnd, h]

variable {d : Drain} (hd : s.fab.drain = some d)
include hd

theorem doFlushEnd_of_early (h : d.flushed = true ∨ s.ticks < d.at_ + 195000) : doFlushEnd s = s := by
  simp only [doFlushEnd, hd]
  exact if_pos h

theorem doFlushEnd_of_due {u : State} (hf : d.flushed = false) (h : d.at_ + 195000 ≤ s.ticks) (hu : u = List.foldl (fun u l =>
      bump (List.foldl copySent (setLink u l { linkAt u l with queue := (linkAt u l).queue.filter (fun p => !d.queued.contains p) })
          ((linkAt u l).queue.filter (fun p => d.queued.contains p))) Obj.fabricDrainDiscards
        ((linkAt u l).queue.length - ((linkAt u l).queue.filter (fun p => !d.queued.contains p)).length)) s (s.fab.links.map (·.1))) :
    doFlushEnd s = schedule { u with fab := { u.fab with drain := some { d with flushed := true } } } (boundaryAfter u 1024) .routeSwitch := by
  subst hu
  simp only [doFlushEnd, hd]
  refine (if_neg ?_).trans rfl
  simpa only [hf, Bool.false_eq_true, false_or, not_lt] using h

end Flush

/-! Leaving (R272). -/

section Leave
variable {s : State}

theorem exec_fabricLeave_of_held {v : BitVec 8} (h : v ≠ 1 ∨ s.fab.leaving ≠ none ∨ s.fab.left = true) : exec (.fabricLeave v) s = .next s := by
  refine congrArg Host.Outcome.next ?_
  rcases h with h | h
  · exact if_neg h
  · rw [show doFabricLeave s = s from if_pos (by rwa [Option.isSome_iff_ne_none]), ite_self]

theorem exec_fabricLeave_of_free {u : State} (h : s.fab.leaving = none) (hl : s.fab.left = false)
    (hu : u = List.foldl (fun u l => queueVc3 u l (vc3Packet u 0x22 [] 0 0)) s ((List.range 16).filter (linkIsUp s))) :
    exec (.fabricLeave 1) s = .next { u with fab := { u.fab with leaving := some u.ticks, drainedFrom := [] } } := by
  subst hu
  exact congrArg Host.Outcome.next ((if_pos rfl).trans (if_neg (by simp [h, hl])))

theorem doLeaveTimeout_of_none (h : s.fab.leaving = none) : doLeaveTimeout s = s := by
  simp only [doLeaveTimeout, h]

section Leaving
variable {ups : List Nat} {t : Nat} (hu : ups = (List.range 16).filter (linkIsUp s)) (ht : s.fab.leaving = some t)
include hu ht

theorem doLeaveTimeout_of_early (h : s.ticks < t + 250000) (hd : ups.all (fun l => s.fab.drainedFrom.contains l) = false) : doLeaveTimeout s = s := by
  subst hu
  simp only [doLeaveTimeout, ht]
  exact if_pos ⟨h, by rw [hd]; rfl⟩

variable (h : t + 250000 ≤ s.ticks ∨ ups.all (fun l => s.fab.drainedFrom.contains l) = true)
include h

/-- When all have answered, or the wait is over, the links go dark with their queues empty, and else 20 microseconds later. -/
theorem doLeaveTimeout_of_ended : doLeaveTimeout s =
    if ups.all (fun l => (linkAt s l).queue.isEmpty && (linkAt s l).out.isEmpty) = true then goDark s
    else match s.fab.leaveEnd with
      | none => { s with fab := { s.fab with leaveEnd := some s.ticks } }
      | some e => if s.ticks < e + 20000 then s else goDark s := by
  subst hu
  simp only [doLeaveTimeout, ht]
  refine if_neg ?_
  rintro ⟨hlt, hno⟩
  exact h.elim (Nat.not_le.mpr hlt) (fun hall => by rw [hall] at hno; exact Bool.false_ne_true hno)

end Leaving

theorem goDark_eq {u : State} (hu : u = List.foldl (fun u l => linkDown u l) s (List.range 16)) :
    goDark s = { u with fab := { u.fab with leaving := none, left := true, leaveEnd := none } } := by
  unfold goDark overNats
  rw [← hu]

end Leave

/-- Settles O32: a routing set by whether it is accepted, a drain by whether one runs and how long, LEAVE and DRAINED by whether they arrive
whole, and the leaving by who has answered and what is still queued. -/
theorem fabricRouting : Obligations.FabricRouting := by
  refine ⟨exec_routeShadow, fun s hit h hh => hh ▸ exec_routeSwap_of_free h, fun v s => exec_routeSwap_of_held,
    fun s => ⟨fun h => congrArg Host.Outcome.next (doFlushEnd_of_none h), fun d hd => ⟨fun h => congrArg Host.Outcome.next (doFlushEnd_of_early hd h),
      fun hf h => ⟨_, rfl, congrArg Host.Outcome.next (doFlushEnd_of_due hd hf h rfl)⟩⟩⟩,
    fun l p s => ⟨fun h => ?_, fun h => ?_, fun s1 hup hs h1 => ⟨fun d ho hd => ?_, fun ho hd => ?_, fun ho => ?_⟩⟩,
    fun v s => exec_fabricLeave_of_held, fun s h hl => ⟨_, rfl, exec_fabricLeave_of_free h hl rfl⟩,
    fun s ups hu => ⟨fun h => congrArg Host.Outcome.next (doLeaveTimeout_of_none h),
      fun t ht => ⟨fun h hd => ?_, fun h => ⟨fun he => ?_, fun he => ?_⟩⟩⟩,
    fun s u => goDark_eq⟩
  · exact congrArg Host.Outcome.next (untaken_of_broken (h.imp_right Or.symm))
  · exact congrArg Host.Outcome.next (untaken_of_broken (h.imp_right Or.symm))
  · have hd1 : s1.fab.drain = some d := by rw [h1]; exact hd
    rw [← startDrain_of_some hd1, h1]
    exact congrArg Host.Outcome.next (taken_of_whole hup ho hs)
  · have hd1 : s1.fab.drain = none := by rw [h1]; exact hd
    refine ⟨drainStarted s1 (some l.val), ?_, ?_⟩
    · rw [← startDrain_of_none _ hd1, h1]
      exact congrArg Host.Outcome.next (taken_of_whole hup ho hs)
    · subst h1
      exact ⟨rfl, rfl, rfl, rfl, rfl, rfl⟩
  · subst h1
    exact congrArg Host.Outcome.next (taken_of_whole hup ho hs)
  · exact congrArg Host.Outcome.next (doLeaveTimeout_of_early hu ht h hd)
  · exact congrArg Host.Outcome.next ((doLeaveTimeout_of_ended hu ht h).trans (if_pos he))
  · exact congrArg Host.Outcome.next ((doLeaveTimeout_of_ended hu ht h).trans (if_neg (Bool.not_eq_true _ ▸ he)))

end Sys2Proof.Machine
end

section
/-! Barriers and flags between modules (R259, R260, R263): arrivals at their home, releases, notified values, flag operations, and their tables. -/
namespace Sys2Proof.Machine

/-! An arrival at its home (R259), by how far its epoch lies ahead of the running one, modulo 2^32. -/

section Arrived
variable {s : State} {g : Nat} {b : FabBar} (src e : Nat) (hb : b = barAt s g)
include hb

theorem doBarArrive_elsewhere (h : barHome b ≠ s.fab.own ∨ syncUp s = false) : doBarArrive s src g e = s := by
  subst hb
  unfold doBarArrive
  exact if_pos (h.imp_right (fun h => by rw [h]; rfl))

variable {src e} (hh : barHome b = s.fab.own) (hs : syncUp s = true)
include hh hs

/-- At its home, with the sync die up, an arrival is judged by the distance of its epoch. -/
theorem doBarArrive_at_home {ahead : Nat} {m : List Nat} (ha : ahead = (e + 2 ^ 32 - b.homeEpoch) % 2 ^ 32)
    (hm : m = addPos (tget (fun _ => []) b.maps e) src) : doBarArrive s src g e =
      if 2 ^ 31 ≤ ahead then (if isOwn s src = true then doReleased s g e else originateVc0 s (releasePacket s g e src))
      else if 2 ≤ ahead then raise s (siteFD s.fab.syncDie) 0x0D 0x13 1 false (g % 1024 + e % 2 ^ 30 * 1024)
      else if ahead = 0 ∧ barExpect b ≤ m.length then
        sendRelease (setBar s g { b with maps := tdel b.maps e, homeEpoch := (e + 1) % 2 ^ 32 }) g e
      else setBar s g { b with maps := tset (fun _ => []) b.maps e m } := by
  subst hb ha hm
  unfold doBarArrive
  exact if_neg (by simp [hh, hs])

variable {m : List Nat} (hm : m = addPos (tget (fun _ => []) b.maps e) src)

section Kept
include hm

theorem doBarArrive_of_last (ha : (e + 2 ^ 32 - b.homeEpoch) % 2 ^ 32 = 0) (hn : barExpect b ≤ m.length) : doBarArrive s src g e =
    sendRelease (setBar s g { b with maps := tdel b.maps e, homeEpoch := (e + 1) % 2 ^ 32 }) g e := by
  rw [doBarArrive_at_home hb hh hs rfl hm, ha, if_neg (by decide), if_neg (by decide), if_pos ⟨rfl, hn⟩]

theorem doBarArrive_of_earlier (ha : (e + 2 ^ 32 - b.homeEpoch) % 2 ^ 32 = 0 ∧ m.length < barExpect b ∨ (e + 2 ^ 32 - b.homeEpoch) % 2 ^ 32 = 1) :
    doBarArrive s src g e = setBar s g { b with maps := tset (fun _ => []) b.maps e m } := by
  rw [doBarArrive_at_home hb hh hs rfl hm, if_neg (by omega), if_neg (by omega), if_neg (by omega)]

end Kept

theorem doBarArrive_of_ahead (h2 : 2 ≤ (e + 2 ^ 32 - b.homeEpoch) % 2 ^ 32) (h31 : (e + 2 ^ 32 - b.homeEpoch) % 2 ^ 32 < 2 ^ 31) :
    doBarArrive s src g e = raise s (siteFD s.fab.syncDie) 0x0D 0x13 1 false (g % 1024 + e % 2 ^ 30 * 1024) := by
  rw [doBarArrive_at_home hb hh hs rfl rfl, if_neg (Nat.not_le.mpr h31), if_pos h2]

theorem doBarArrive_of_released (h : 2 ^ 31 ≤ (e + 2 ^ 32 - b.homeEpoch) % 2 ^ 32) :
    doBarArrive s src g e = if isOwn s src = true then doReleased s g e else originateVc0 s (releasePacket s g e src) := by
  rw [doBarArrive_at_home hb hh hs rfl rfl, if_pos h]

end Arrived

/-! A release and a notified value at a member. -/

section Member
variable {s : State} {g e : Nat}

theorem doReleased_of_other (h : barLocal (barAt s g) = 0 ∨ syncUp s = false ∨ (barAt s g).epoch ≠ e) : doReleased s g e = s := by
  unfold doReleased
  rcases h with h | h | h
  · exact if_pos (.inl h)
  · exact if_pos (.inr (by rw [h]; rfl))
  · exact (congrArg (ite _ s) (if_neg h)).trans (ite_self _)

theorem doReleased_of_member (hl : barLocal (barAt s g) ≠ 0) (hs : syncUp s = true) (he : (barAt s g).epoch = e) : doReleased s g e =
    syncUpdate (setBar s g { barAt s g with epoch := (e + 1) % 2 ^ 32, arrived := 0, sentAt := none }) 0 g (BitVec.ofNat 64 ((e + 1) % 2 ^ 32)) :=
  (if_neg (by simp [hl, hs])).trans (if_pos he)

end Member

/-! A flag operation at its home: the answer holds the old value. -/

section Flag
variable {s : State} {f : Nat} {p : FabPacket} {old : Word} (ho : old = (fabFlagAt s p.flag.toNat).value)
include ho

theorem runFlag_of_store (h : p.opc = 0x12) :
    runFlag s f p = decide_ (flagChanged s p.flag.toNat p.w5) f p 0 (some (resultBytes 0 (fabRecord p) old)) [] := by
  subst ho; simp only [runFlag, h]; rfl

theorem runFlag_of_add (h : p.opc = 0x13) :
    runFlag s f p = decide_ (flagChanged s p.flag.toNat (old + p.w5)) f p 0 (some (resultBytes 0 (fabRecord p) old)) [] := by
  subst ho; simp only [runFlag, h]; rfl

theorem runFlag_of_read (h : p.opc = 0x14) : runFlag s f p = decide_ s f p 0 (some (resultBytes 0 (fabRecord p) old)) [] := by
  subst ho; simp only [runFlag, h]; rfl

end Flag

/-! Releases and notifies on a link (R250, R256). -/

section Spread
variable {s : State} {l : Nat} {p : FabPacket}

theorem doBarRelease_of_single (h : p.dst ≠ p.src) (ho : p.opc = 0x11) : doBarRelease s l p =
    arriveUni s l p (fun s => doReleased s p.group.toNat (p.w5.toNat % 2 ^ 32)) := by
  have htake : (fun s : State => takeVc0 s p) = fun s => doReleased s p.group.toNat (p.w5.toNat % 2 ^ 32) := funext fun s => if_pos ho
  exact (if_pos h).trans (by rw [htake])

variable {g : Nat} {u : State}

/-- A multicast release or notify that arrives is copied on over its group, and taken here by a member. -/
theorem spreadVc0_of_link (hg : vc0Group s p = g)
    (hu : u = routeMulti (holdMulti { s with sent := s.sent.erase (.fabIn l p) } l (copyCount s (l / 2) (some l) g p) p) (l / 2) (some l) g p) :
    spreadVc0 s (l / 2) (some l) p = if groupLocal u g = true then takeVc0 u p else u := by
  subst hg hu; rfl

theorem vc0Group_of_release (h : p.opc = 0x11) : vc0Group s p = barRelease (barAt s p.group.toNat) := if_pos h
theorem vc0Group_of_notify (h : p.opc = 0x15) : vc0Group s p = p.group.toNat % 256 := if_neg (by rw [h]; decide)
theorem takeVc0_of_release (h : p.opc = 0x11) : takeVc0 s p = doReleased s p.group.toNat (p.w5.toNat % 2 ^ 32) := if_pos h
theorem takeVc0_of_notify (h : p.opc = 0x15) : takeVc0 s p = doNotified s p.flag.toNat (p.w4.toNat % 2 ^ 32) p.w5 := if_neg (by rw [h]; decide)

end Spread

/-! Time limits and tables. -/

section Resend
variable {g : Fin 1024} {s : State}

theorem exec_barrierResend_of_none (h : (barAt s g.val).sentAt = none) : exec (.barrierResend g) s = .next s :=
  congrArg Host.Outcome.next (by simp only [h])

theorem exec_barrierResend_of_sent {t : Nat} (h : (barAt s g.val).sentAt = some t) : exec (.barrierResend g) s = .next
    (if t + fabricT s ≤ s.ticks ∧ syncUp s = true ∧ originatesNone s = false ∧
      s.fab.paced.any (fun e => e.2.opc == 0x10 && e.2.group.toNat == g.val) = false then sendBarArrive s g.val else s) := by
  refine congrArg Host.Outcome.next ?_
  simp only [h, Bool.not_eq_true']

end Resend

theorem exec_barrierTable (bs : List Byte) (s : State) : exec (.barrierTable bs) s = .next
    (if bs.length = 8192 ∧ (List.range 1024).all (fun g => barEntryOk (leAt bs (8 * g) 8)) = true
      then List.foldl (fun u n => setDie u n { dieAt u n with fabEpoch := [] })
        (List.foldl (fun u g => setBar u g { entry := BitVec.ofNat 64 (leAt bs (8 * g) 8) }) s (List.range 1024)) (List.range 16) else s) := by
  refine congrArg Host.Outcome.next ?_
  unfold doBarrierTable overNats
  split
  · next h => rw [if_neg (by rintro ⟨hl, ha⟩; simp [hl, ha] at h)]
  · next h => rw [if_pos (by simpa using h)]

theorem exec_flagTable (bs : List Byte) (s : State) : exec (.flagTable bs) s = .next
    (if bs.length = 65536 ∧ (List.range 4096).all (fun f => flagEntryOk (slice bs (16 * f) 16)) = true
      then List.foldl (fun u f => setFabFlag u f { fabFlagAt u f with
        home := leAt (slice bs (16 * f) 16) 0 2, notify := leAt (slice bs (16 * f) 16) 2 1, notifyOn := leAt (slice bs (16 * f) 16) 3 1 == 1,
        initial := BitVec.ofNat 64 (leAt (slice bs (16 * f) 16) 8 8), value := BitVec.ofNat 64 (leAt (slice bs (16 * f) 16) 8 8) })
        s (List.range 4096) else s) := by
  refine congrArg Host.Outcome.next ?_
  unfold doFlagTable overNats
  split
  · next h => rw [if_neg (by rintro ⟨hl, ha⟩; simp [hl, ha] at h)]
  · next h => rw [if_pos (by simpa using h)]

section Takeover
variable {s : State}

theorem doSyncTakeover_of_held (h : (List.range 8).find? (fdUp s) = none ∨ syncUp s = true) : doSyncTakeover s = s := by
  unfold doSyncTakeover
  split
  · rfl
  · next n hn => exact if_pos (h.resolve_left (by rw [hn]; exact Option.some_ne_none n))

theorem doSyncTakeover_of_lost {n : Nat} (hn : (List.range 8).find? (fdUp s) = some n) (h : syncUp s = false) :
    doSyncTakeover s = raise { s with fab := { s.fab with
      syncDie := n, syncLost := none, bars := s.fab.bars.map (fun e => (e.1, { e.2 with maps := [], homeEpoch := 0 })),
      flags := s.fab.flags.map (fun e => (e.1, { e.2 with value := e.2.initial })) } } (siteFD n) 0x0D 0x33 4 false n := by
  simp only [doSyncTakeover, hn]
  exact if_neg (by simp [h])

end Takeover

/-- Settles O33: an arrival at its home by the distance of its epoch, a release and a notify by their group, a flag operation by its OPC, and the
time limit, the tables and the takeover by their conditions. -/
theorem fabricBarriersAndFlags : Obligations.FabricBarriersAndFlags := by
  refine ⟨fun l p s => ⟨fun h => ?_, ?_⟩, fun s src g e b m hb hm he hhe => ⟨doBarArrive_elsewhere src e hb, fun hh hs => ?_⟩,
    fun s g e => ⟨doReleased_of_other, doReleased_of_member⟩, fun s f c v => rfl,
    fun l p s => ⟨fun h => ?_, fun h => ?_, fun h => ?_, fun h => ?_, fun h => ?_, ?_⟩,
    fun s f p old ho => ⟨runFlag_of_store ho, runFlag_of_add ho, runFlag_of_read ho⟩,
    fun g s => ⟨exec_barrierResend_of_none, fun t => exec_barrierResend_of_sent⟩, exec_barrierTable, exec_flagTable,
    fun s => ⟨fun h => congrArg Host.Outcome.next (doSyncTakeover_of_held h), fun n hn h => congrArg Host.Outcome.next (doSyncTakeover_of_lost hn h)⟩⟩
  · exact congrArg Host.Outcome.next (untaken_of_broken (h.imp_right Or.symm))
  · rintro s1 hup hs ho rfl
    exact congrArg Host.Outcome.next (arriveUni_of_whole hup ho hs)
  · refine ⟨fun h0 hn => doBarArrive_of_last hb hh hs hm (by omega) hn, fun h0 hn => doBarArrive_of_earlier hb hh hs hm (.inl ⟨by omega, hn⟩),
      fun h1 => doBarArrive_of_earlier hb hh hs hm (.inr h1), doBarArrive_of_ahead hb hh hs, doBarArrive_of_released hb hh hs⟩
  iterate 5 exact congrArg Host.Outcome.next (untaken_of_broken (h.imp_right Or.symm))
  · rintro s0 s1 hup hs rfl rfl
    refine ⟨fun ho hd => ?_, fun g u ho hd hg hu => ?_, fun g u ho hg hu => ?_, ?_⟩
    · exact congrArg Host.Outcome.next ((taken_of_whole hup ho hs).trans ((doBarRelease_of_single hd ho).trans (arriveUni_eq _)))
    · rw [← takeVc0_of_release ho]
      exact congrArg Host.Outcome.next ((taken_of_whole hup ho hs).trans
        ((if_neg (not_not.mpr hd)).trans (spreadVc0_of_link ((vc0Group_of_release ho).trans hg.symm) hu)))
    · rw [← takeVc0_of_notify ho]
      exact congrArg Host.Outcome.next ((taken_of_whole hup ho hs).trans (spreadVc0_of_link ((vc0Group_of_notify ho).trans hg.symm) hu))
    · rintro _ rfl
      refine ⟨fun ho => ?_, fun ho => ?_, fun ho => ?_⟩
      iterate 3 exact congrArg Host.Outcome.next (arriveUni_of_whole hup ho hs)

end Sys2Proof.Machine
end

section
/-! The sync die (R250, R259 to R263): what tiles send it, what it takes, when its packets leave, and its announcements. -/
namespace Sys2Proof.Machine

section Tile
variable {cd : Fin 16} {t : Fin 64} {v : Word} {s : State}

theorem exec_fabArrive : exec (.fabArrive cd t v) s = .next (if tileLive s (tkey cd t) = true then doFabArrive s (tkey cd t) (v.toNat % 1024) else s) := rfl

theorem exec_fabFlagValue : exec (.fabFlagValue cd t v) s =
    .next (if tileLive s (tkey cd t) = true then fabSync s (tkey cd t) 1 ((tileAt s (tkey cd t)).fabFsel.toNat % 4096) v else s) := rfl

theorem exec_fabFlagAdd : exec (.fabFlagAdd cd t v) s =
    .next (if tileLive s (tkey cd t) = true then fabSync s (tkey cd t) 2 ((tileAt s (tkey cd t)).fabFsel.toNat % 4096) v else s) := rfl

end Tile

/-! The arrival of a signal packet leaves the barriers and what the sync die has to send. -/

@[simp] theorem barAt_sigArrive (s : State) (p : SigPacket) (g : Nat) : barAt (sigArrive s p) g = barAt s g := by simp [barAt]

section Synced
variable {s : State} {g : Nat} {e : Word} {b : FabBar} (hb : b = barAt s g)
include hb

theorem doSyncArrived_of_other (h : barLocal b = 0 ∨ e.toNat ≠ b.epoch ∨ b.sentAt ≠ none) : doSyncArrived s g e = s := by
  subst hb
  exact if_pos (h.imp_right (.imp_right Option.isSome_iff_ne_none.2))

/-- An arrival of the running epoch is counted, and the last one sends BAR_ARRIVE. -/
theorem doSyncArrived_of_local (hl : barLocal b ≠ 0) (he : e.toNat = b.epoch) (hn : b.sentAt = none) : doSyncArrived s g e =
    if barLocal b ≤ b.arrived + 1 then sendBarArrive (setBar s g { b with arrived := b.arrived + 1 }) g
    else setBar s g { b with arrived := b.arrived + 1 } := by
  subst hb
  exact if_neg (by simp [hl, he, hn])

end Synced

section Hears
variable {cd : Fin 16} {seq : BitVec 32} {s : State}

section Unheard
variable (h : syncHears s cd = false)
include h

theorem exec_fabSyncArrive_unheard (g : BitVec 12) (e : Word) : exec (.fabSyncArrive cd seq g e) s = .next s :=
  congrArg Host.Outcome.next (if_neg (Bool.not_eq_true _ ▸ h))
theorem exec_fabSyncFlagStore_unheard (f : BitVec 12) (v : Word) : exec (.fabSyncFlagStore cd seq f v) s = .next s :=
  congrArg Host.Outcome.next (if_neg (Bool.not_eq_true _ ▸ h))
theorem exec_fabSyncFlagAdd_unheard (f : BitVec 12) (v : Word) : exec (.fabSyncFlagAdd cd seq f v) s = .next s :=
  congrArg Host.Outcome.next (if_neg (Bool.not_eq_true _ ▸ h))

end Unheard

section Heard
variable (h : syncHears s cd = true)
include h

theorem exec_fabSyncArrive_heard (g : BitVec 12) (e : Word) :
    exec (.fabSyncArrive cd seq g e) s = .next (doSyncArrived (sigArrive s (fabSyncPacket s cd seq 0 g.toNat e)) (g.toNat % 1024) e) :=
  congrArg Host.Outcome.next (if_pos h)
theorem exec_fabSyncFlagStore_heard (f : BitVec 12) (v : Word) :
    exec (.fabSyncFlagStore cd seq f v) s = .next (sendFlagOp (sigArrive s (fabSyncPacket s cd seq 1 f.toNat v)) 0x12 f.toNat v) :=
  congrArg Host.Outcome.next (if_pos h)
theorem exec_fabSyncFlagAdd_heard (f : BitVec 12) (v : Word) :
    exec (.fabSyncFlagAdd cd seq f v) s = .next (sendFlagOp (sigArrive s (fabSyncPacket s cd seq 2 f.toNat v)) 0x13 f.toNat v) :=
  congrArg Host.Outcome.next (if_pos h)

end Heard
end Hears

/-! A packet of the sync die leaves (R250, R251, R263). -/

section Release
variable {s : State}

theorem releasePaced_of_none (h : nextVc0 s = none) : releasePaced s = s := by
  simp only [releasePaced, h]

theorem nextVc0_of_early {t : Nat} (ht : tfind s.fab.lastVc0 s.fab.syncDie = some t) (h : s.ticks < t + 64) : nextVc0 s = none := by
  simp only [nextVc0, ht]
  exact if_neg (by simpa using h)

theorem releasePaced_of_next {u : State} {f : Nat} {e : Nat × FabPacket} (hf : f = s.fab.syncDie) (hu : u = inject s f) (he : nextVc0 s = some e) :
    releasePaced s = if (arbAt u .fabric (16 + f)).holder = some 18
      then sendVc0 { arbRelease u .fabric (16 + f) with fab := { (arbRelease u .fabric (16 + f)).fab with
        paced := (arbRelease u .fabric (16 + f)).fab.paced.erase e,
        lastVc0 := tput (arbRelease u .fabric (16 + f)).fab.lastVc0 f (arbRelease u .fabric (16 + f)).ticks } } e.2
      else u := by
  subst hu hf
  simp only [releasePaced, he]

variable {p : FabPacket}

theorem startFlagOp_of_unrouted (h : noRoute s p.dst.toNat = true) : startFlagOp s p = s := by
  unfold startFlagOp
  exact if_pos h

theorem startFlagOp_of_routed {tag : Nat} {u : State} (h : noRoute s p.dst.toNat = false) (ht : freeFabTag s s.fab.syncDie = some tag)
    (hu : u = bump s Obj.fabricRequests) {q : FabPacket}
    (hq : q = stampVc0 s { p with origFd := BitVec.ofNat 3 s.fab.syncDie, tag := BitVec.ofNat 12 tag }) :
    startFlagOp s p = launchVc0 { u with fab := { u.fab with ops := u.fab.ops ++
      [{ fd := s.fab.syncDie, tag := tag, packet := q, first := s.ticks, attempt := 0, owner := .sync p.flag.toNat, members := 1, done := [], other := none }] } }
      s.fab.syncDie q := by
  subst hu hq
  unfold startFlagOp
  simp only [h, ht, Bool.false_eq_true, if_false]
  rfl

variable (ho : p.opc = 0x12 ∨ p.opc = 0x13) (ha : p.attempt = 0)
include ho ha

theorem sendVc0_of_flagOp : sendVc0 s p = startFlagOp s p := by
  refine if_pos ?_
  rcases ho with ho | ho
  · rw [ho]; exact ⟨by decide, by decide, ha⟩
  · rw [ho]; exact ⟨by decide, by decide, ha⟩

/-- A flag operation on attempt 0 has SENT and FIRST stamped as it leaves (R239, R265). -/
theorem stampVc0_of_flagOp : stampVc0 s p = { p with sent := s.now, w4 := BitVec.ofNat 64 (s.now.toNat % 2 ^ 32 * 2 ^ 32) } := by
  unfold stampVc0
  rw [if_pos ⟨ha, .inr (ho.imp_right .inl)⟩]

end Release

/-- Settles O34: a tile's writes by whether it is live, a packet at the sync die by whether it is heard, a packet that leaves by its turn, the
grant and its route, and the announcements as the folds over the dies that hear them. -/
theorem fabricSyncDie : Obligations.FabricSyncDie := by
  refine ⟨fun cd t v s => ?_, fun cd seq g e s => ⟨fun h => exec_fabSyncArrive_unheard h g e, fun u b h hu hb => ?_⟩,
    fun cd seq f v s => ⟨fun h => ⟨exec_fabSyncFlagStore_unheard h f v, exec_fabSyncFlagAdd_unheard h f v⟩,
      fun h => ⟨exec_fabSyncFlagStore_heard h f v, exec_fabSyncFlagAdd_heard h f v⟩⟩,
    fun s p => ⟨rfl, rfl, rfl⟩, fun s u f hf hu => ⟨fun t ht h => ?_, fun e => releasePaced_of_next hf hu⟩, fun s p ho ha => ?_,
    fun fd seq n v s => rfl, fun fd seq n v s => rfl⟩
  · rw [exec_fabArrive, exec_fabFlagValue, exec_fabFlagAdd]
    refine ⟨fun h => ?_, fun h => ⟨?_, ?_, ?_⟩⟩
    · simp only [h, Bool.false_eq_true, if_false, and_self]
    iterate 3 exact congrArg Host.Outcome.next (if_pos h)
  · have hbu : b = barAt u (g.toNat % 1024) := by rw [hu, barAt_sigArrive, hb]
    rw [exec_fabSyncArrive_heard h, ← hu]
    refine ⟨fun ho => ?_, fun hl he hn => ⟨fun hlt => ?_, fun hle => ?_⟩⟩
    · rw [doSyncArrived_of_other hbu ho]
    · rw [doSyncArrived_of_local hbu hl he hn, if_neg (Nat.not_le.mpr hlt)]
    · rw [doSyncArrived_of_local hbu hl he hn, if_pos hle]
  · subst hf
    exact releasePaced_of_none (nextVc0_of_early ht h)
  · rw [sendVc0_of_flagOp ho ha]
    refine ⟨startFlagOp_of_unrouted, fun tag q u hr ht hu hq => startFlagOp_of_routed hr ht hu (hq.trans ?_)⟩
    exact (stampVc0_of_flagOp (p := { p with origFd := BitVec.ofNat 3 s.fab.syncDie, tag := BitVec.ofNat 12 tag }) ho ha).symm

end Sys2Proof.Machine
end

section
/-! Requests of a host on a queue pair (R278, R280 to R286, R289): what a packet of each kind does by its place in the PSNs, its window and its lengths,
how a request that is answered ends, and the timeout of one that is not. -/
namespace Sys2Proof.Machine

theorem psnPlace_of_expected {v : QpSt} {psn : BitVec 24} (h : psn = v.ePsn) : psnPlace v psn = .eq := if_pos h

section Write
variable {s : State} {f : HostFrame} {q : Nat} {p : WritePkt}

theorem doRdmaWrite_of_untaken (h : qpReady s f q = false ∨ hostTakes s f p.data.length = false) : doRdmaWrite s f q p = s :=
  if_pos (by rcases h with h | h <;> simp [h])

variable (hr : qpReady s f q = true) (ht : hostTakes s f p.data.length = true)
include hr ht

theorem doRdmaWrite_of_duplicate (h : psnPlace (qpAt s q) p.psn = .lt) : doRdmaWrite s f q p = answer s q .ack (donePsn (qpAt s q)) [] := by
  simp [doRdmaWrite, hr, ht, h]

theorem doRdmaWrite_of_ahead (h : psnPlace (qpAt s q) p.psn = .gt) : doRdmaWrite s f q p = outOfOrder s q := by
  simp [doRdmaWrite, hr, ht, h]

variable (he : p.psn = (qpAt s q).ePsn)
include he

section First
variable (hf : p.first = true)
include hf

theorem doRdmaWrite_first_of_no_window (hw : winOf s p.rkey = none) : doRdmaWrite s f q p = refuse s q .nakAccess true p.psn := by
  simp [doRdmaWrite, hr, ht, psnPlace_of_expected he, hf, hw]

variable {e : WinE}

/-- Window 0 holds the doorbells, of 8 bytes each (R283). -/
theorem doRdmaWrite_first_of_doorbells (hw : winOf s p.rkey = some (0, e)) : doRdmaWrite s f q p =
    if 65536 < p.va.toNat + p.len.toNat then refuse s q .nakAccess true p.psn
    else if p.last = true ∧ p.len = 8 ∧ p.data.length = 8 ∧ p.va.toNat % 8 = 0 then
      takeReq (advance s q 1) q { id := 0, op := .bell, psn := p.psn, addr := p.va.toNat, len := 8, data := p.data }
    else refuse s q .nakInvalid false p.psn := by
  simp [doRdmaWrite, hr, ht, psnPlace_of_expected he, hf, hw]

theorem doRdmaWrite_first_of_window {w : Nat} (hw : winOf s p.rkey = some (w, e)) (h0 : w ≠ 0) : doRdmaWrite s f q p =
    if winCovers e p.va.toNat p.len.toNat 1 = false then refuse s q .nakAccess true p.psn
    else if p.len.toNat > 2 ^ 31 ∨ (p.last = true ∧ p.data.length ≠ p.len.toNat) ∨
        (p.last = false ∧ (p.data.length ≠ mtuBytes (qpAt s q) ∨ p.len.toNat ≤ mtuBytes (qpAt s q))) ∨ p.data.length > mtuBytes (qpAt s q) then
      refuse s q .nakInvalid false p.psn
    else writePart s q p p.va.toNat p.len.toNat p.rkey := by
  simp [doRdmaWrite, hr, ht, psnPlace_of_expected he, hf, hw, h0]

end First

section Later
variable (hf : p.first = false)
include hf

theorem doRdmaWrite_later_of_no_message (hm : (qpAt s q).msg = none) : doRdmaWrite s f q p = refuse s q .nakInvalid false p.psn := by
  simp [doRdmaWrite, hr, ht, psnPlace_of_expected he, hf, hm]

theorem doRdmaWrite_later_of_message {va left : Nat} {key : BitVec 32} (hm : (qpAt s q).msg = some (va, left, key)) : doRdmaWrite s f q p =
    if (p.last = true ∧ p.data.length ≠ left) ∨ (p.last = false ∧ (p.data.length ≠ mtuBytes (qpAt s q) ∨ left ≤ mtuBytes (qpAt s q))) ∨
        p.data.length > mtuBytes (qpAt s q) then refuse s q .nakInvalid false p.psn
    else writePart s q p va left key := by
  simp [doRdmaWrite, hr, ht, psnPlace_of_expected he, hf, hm]

end Later
end Write

section Read
variable {s : State} {f : HostFrame} {q : Nat} {psn : BitVec 24} {va len : Nat} {rkey : BitVec 32}

theorem doRdmaRead_of_not_ready (h : qpReady s f q = false) : doRdmaRead s f q psn va rkey.toNat len = s := if_pos (by simp [h])

variable (hr : qpReady s f q = true)
include hr

theorem doRdmaRead_of_ahead (h : psnPlace (qpAt s q) psn = .gt) : doRdmaRead s f q psn va rkey.toNat len = outOfOrder s q := by
  simp [doRdmaRead, hr, h]

variable (hp : psnPlace (qpAt s q) psn ≠ .gt)
include hp

theorem doRdmaRead_of_no_window (hw : winOf s rkey = none) : doRdmaRead s f q psn va rkey.toNat len = refuse s q .nakAccess true psn := by
  simp [doRdmaRead, hr, hw]

variable {e : WinE} {u : State}
  (hu : u = if psnPlace (qpAt s q) psn = .eq then advance s q (max 1 (cdiv len (mtuBytes (qpAt s q)))) else s)
include hu

theorem doRdmaRead_of_doorbells (hw : winOf s rkey = some (0, e)) : doRdmaRead s f q psn va rkey.toNat len =
    if 65536 < va + len then refuse s q .nakAccess true psn
    else if len = 8 ∧ va % 8 = 0 then takeReq u q { id := 0, op := .bell, psn := psn, addr := va, len := 8 }
    else refuse s q .nakInvalid false psn := by
  simp [doRdmaRead, hr, hw, hu]

theorem doRdmaRead_of_window {w : Nat} (hw : winOf s rkey = some (w, e)) (h0 : w ≠ 0) : doRdmaRead s f q psn va rkey.toNat len =
    if winCovers e va len 0 = false then refuse s q .nakAccess true psn
    else if len > 2 ^ 31 ∨ 16 ≤ outstanding (qpAt s q) .read then refuse s q .nakInvalid false psn
    else takeReq u q { id := 0, op := .read, psn := psn, addr := va, len := len } := by
  simp [doRdmaRead, hr, hw, h0, hu]

end Read

section Send
variable {s : State} {f : HostFrame} {q : Nat} {psn : BitVec 24} {data : List Byte}

theorem doSend_of_untaken (h : qpReady s f q = false ∨ hostTakes s f data.length = false) : doSend s f q psn data = s :=
  if_pos (by rcases h with h | h <;> simp [h])

variable (hr : qpReady s f q = true) (ht : hostTakes s f data.length = true)
include hr ht

theorem doSend_of_duplicate (h : psnPlace (qpAt s q) psn = .lt) : doSend s f q psn data = answer s q .ack (donePsn (qpAt s q)) [] := by
  simp [doSend, hr, ht, h]

theorem doSend_of_ahead (h : psnPlace (qpAt s q) psn = .gt) : doSend s f q psn data = outOfOrder s q := by
  simp [doSend, hr, ht, h]

theorem doSend_of_expected (he : psn = (qpAt s q).ePsn) : doSend s f q psn data =
    if data.length ≠ 64 ∨ (qpAt s q).ring > 15 then refuse s q .nakInvalid false psn
    else takeReq (hostFill (advance s q 1) f.port.val 64) q { id := 0, op := .entry, psn := psn, len := 64, data := data } := by
  simp [doSend, hr, ht, psnPlace_of_expected he]

end Send

section Atomic
variable {f : HostFrame} {q : Nat} {psn : BitVec 24} {va op : Nat} {rkey : BitVec 32} {opd cmp : Word}

/-- FETCH_ADD and CMP_SWAP are one operation with their own code and operands (R280). -/
theorem exec_of_hostAtomic {q : Fin 4096} {va x y : Word} {ce : Bool} {s : State} {c : Instr}
    (h : (c, op, opd, cmp) ∈ [(Instr.fetchAdd f q psn va rkey x ce, 1, x, 0), (.cmpSwap f q psn va rkey x y ce, 3, y, x)]) :
    exec c s = .next (doHostAtomic (congest s q.val (ce && qpReady s f q.val)) f q.val psn va.toNat rkey.toNat op opd cmp) := by
  simp only [List.mem_cons, List.not_mem_nil, or_false, Prod.mk.injEq] at h
  obtain ⟨rfl, rfl, rfl, rfl⟩ | ⟨rfl, rfl, rfl, rfl⟩ := h
  · rfl
  · rfl

variable {s : State}

theorem doHostAtomic_of_untaken (h : qpReady s f q = false ∨ hostTakes s f 8 = false) : doHostAtomic s f q psn va rkey.toNat op opd cmp = s :=
  if_pos (by rcases h with h | h <;> simp [h])

variable (hr : qpReady s f q = true) (ht : hostTakes s f 8 = true)
include hr ht

theorem doHostAtomic_of_ahead (h : psnPlace (qpAt s q) psn = .gt) : doHostAtomic s f q psn va rkey.toNat op opd cmp = outOfOrder s q := by
  simp [doHostAtomic, hr, ht, h]

section Duplicate
variable (h : psnPlace (qpAt s q) psn = .lt)
include h

theorem doHostAtomic_of_replayed {r : Nat × Word} (hf : (qpAt s q).replay.find? (fun r => r.1 == psn.toNat) = some r) :
    doHostAtomic s f q psn va rkey.toNat op opd cmp = answer s q .atomicAck psn (toBe 8 r.2.toNat) := by
  simp [doHostAtomic, hr, ht, h, hf]

theorem doHostAtomic_of_forgotten (hf : (qpAt s q).replay.find? (fun r => r.1 == psn.toNat) = none) :
    doHostAtomic s f q psn va rkey.toNat op opd cmp = s := by
  simp [doHostAtomic, hr, ht, h, hf]

end Duplicate

variable (he : psn = (qpAt s q).ePsn)
include he

theorem doHostAtomic_of_misaligned (ha : va % 8 ≠ 0) : doHostAtomic s f q psn va rkey.toNat op opd cmp = refuse s q .nakInvalid true psn := by
  simp [doHostAtomic, hr, ht, psnPlace_of_expected he, if_pos ha]

variable (ha : va % 8 = 0) {e : WinE}
include ha

theorem doHostAtomic_of_no_window (hw : winOf s rkey = none) :
    doHostAtomic s f q psn va rkey.toNat op opd cmp = refuse s q .nakAccess true psn := by
  simp [doHostAtomic, hr, ht, psnPlace_of_expected he, ha, hw]

theorem doHostAtomic_of_doorbells (hw : winOf s rkey = some (0, e)) : doHostAtomic s f q psn va rkey.toNat op opd cmp =
    if 65536 < va + 8 then refuse s q .nakAccess true psn else refuse s q .nakInvalid false psn := by
  simp [doHostAtomic, hr, ht, psnPlace_of_expected he, ha, hw]

theorem doHostAtomic_of_window {w : Nat} (hw : winOf s rkey = some (w, e)) (h0 : w ≠ 0) : doHostAtomic s f q psn va rkey.toNat op opd cmp =
    if winCovers e va 8 2 = false then refuse s q .nakAccess true psn
    else if 16 ≤ outstanding (qpAt s q) .atomic then refuse s q .nakInvalid false psn
    else takeReq (hostFill (advance s q 1) f.port.val 8) q
      { id := 0, op := .atomic, psn := psn, addr := va, len := 8, code := op, operand := opd, compare := cmp } := by
  simp [doHostAtomic, hr, ht, psnPlace_of_expected he, ha, hw, h0]

end Atomic

section Finish
variable {s : State} {q : Nat} {r : HostReq} (hg : r.got.any (fun e => e.2.status != 0) = false)
include hg

/-- Units that all ended well leave no status 1. -/
theorem got_any_one_of_well : r.got.any (fun e => e.2.status.toNat == 1) = false := by
  rw [List.any_eq_false] at hg ⊢
  intro e he
  have h0 := hg e he
  simp only [bne_iff_ne, ne_eq, Decidable.not_not] at h0
  simp [h0]

theorem finishHost_of_read (ho : r.op = .read) (hl : r.len ≤ mtuBytes (qpAt s q)) :
    finishHost s q r = endReq (answer s q .readResponse r.psn (answeredBytes (qpAt s q) r)) q r.id := by
  simp only [finishHost, ho, hg, hl, Bool.false_eq_true, if_false, if_true]

theorem finishHost_of_atomic {old : Word} {u : State} (ho : r.op = .atomic) (hold : old = (r.got.head?.map (fun e => e.2.w5)).getD 0)
    (hu : u = endReq s q r.id) : finishHost s q r =
      answer (setQp u q { qpAt u q with replay := ((r.psn.toNat, old) :: (qpAt u q).replay).take 16 }) q .atomicAck r.psn (toBe 8 old.toNat) := by
  simp only [finishHost, ho, hg, got_any_one_of_well hg, Bool.false_eq_true, if_false, hold, hu]

theorem finishHost_of_entry {u : State} (ho : r.op = .entry) (hu : u = endReq s q r.id) : finishHost s q r =
    answer (setRing u (qpAt s q).ring { ringAt u (qpAt s q).ring with tail := (ringAt u (qpAt s q).ring).tail + 1 }) q .ack r.psn [] := by
  simp only [finishHost, ho, hg, Bool.false_eq_true, if_false, if_true, hu]

theorem finishHost_of_write (ho : r.op = .write) : finishHost s q r = answer (endReq s q r.id) q .ack r.psn [] := by
  simp only [finishHost, ho, hg, Bool.false_eq_true, reduceCtorEq, if_false]

end Finish

section Begin
variable {s : State} {q : Nat} {r : HostReq}

/-- A full ring answers RNR, and what came after the SEND is dropped (R289). -/
theorem beginReq_of_full_ring {v : QpSt} {g : RingSt} (hv : v = qpAt s q) (hg : g = ringAt s v.ring) (ho : r.op = .entry)
    (hfull : g.head + g.entries ≤ g.tail) :
    beginReq s q r = answer (setQp (hostDrain s v.port (reqBytes v)) q { v with ePsn := r.psn, reqs := [] }) q .rnrNak r.psn [] := by
  subst hg hv
  simp only [beginReq, ho]
  exact if_pos hfull

end Begin

section Timeout
variable {s : State} {q : Nat}

theorem doHostMemTimeout_of_no_request (h : (qpAt s q).reqs = []) : doHostMemTimeout s q = s := by simp only [doHostMemTimeout, h]

variable {r : HostReq} {rest : List HostReq} (h : (qpAt s q).reqs = r :: rest)
include h

theorem doHostMemTimeout_of_unsent (ha : r.at_ = none) : doHostMemTimeout s q = s := by simp only [doHostMemTimeout, h, ha]

theorem doHostMemTimeout_of_sent {t : Nat} (ha : r.at_ = some t) : doHostMemTimeout s q =
    if reqAnswered (qpAt s q) r = true ∨ s.ticks < t + 20000 then s
    else bumpFree (pumpPairs (nakCounted
      (if r.op = .read then s else dramWrite s r.addr (freeBytes s.freeCtr r.addr r.len) (Config.freeBool s.freeCtr r.addr)) q .nakOperational r.psn) q) := by
  simp only [doHostMemTimeout, h, ha]

end Timeout

theorem exec_invalidRequest (f : HostFrame) (q : Fin 4096) (psn : BitVec 24) (a w : Bool) (s : State) :
    exec (.invalidRequest f q psn a w) s = .next (if qpReady s f q.val = true ∧ a = true then refuse s q.val .nakInvalid w psn else s) := by
  simp only [← Bool.and_eq_true]
  rfl

/-- Settles O35: a packet by its place in the PSNs and what it asks by its window and lengths, the two atomics as one operation, a request's end
by its kind, and the timeout by whether its units have left. -/
theorem hostRequests : Obligations.HostRequests := by
  refine ⟨?_, ?_, ?_, ?_, exec_invalidRequest, ?_, fun s q r v g hv hg => beginReq_of_full_ring hv hg, ?_⟩
  · rintro f q p ce s s1 rfl
    refine ⟨fun h => congrArg Host.Outcome.next (doRdmaWrite_of_untaken h), ?_⟩
    rintro _ _ hr ht rfl rfl
    refine ⟨fun h => congrArg Host.Outcome.next (doRdmaWrite_of_duplicate hr ht h), fun h => congrArg Host.Outcome.next (doRdmaWrite_of_ahead hr ht h),
      fun he hf => ⟨fun hw => ?_, fun e hw => ?_, fun w e hw h0 => ?_⟩, fun he hf => ⟨fun hm => ?_, fun va left key hm => ?_⟩⟩
    · exact congrArg Host.Outcome.next (doRdmaWrite_first_of_no_window hr ht he hf hw)
    · exact congrArg Host.Outcome.next (doRdmaWrite_first_of_doorbells hr ht he hf hw)
    · exact congrArg Host.Outcome.next (doRdmaWrite_first_of_window hr ht he hf hw h0)
    · exact congrArg Host.Outcome.next (doRdmaWrite_later_of_no_message hr ht he hf hm)
    · exact congrArg Host.Outcome.next (doRdmaWrite_later_of_message hr ht he hf hm)
  · rintro f q psn va rkey len ce s s1 rfl
    refine ⟨fun h => congrArg Host.Outcome.next (doRdmaRead_of_not_ready h), ?_⟩
    rintro _ u hr rfl hu
    refine ⟨fun h => congrArg Host.Outcome.next (doRdmaRead_of_ahead hr h), fun hp => ⟨fun hw => ?_, fun e hw => ?_, fun w e hw h0 => ?_⟩⟩
    · exact congrArg Host.Outcome.next (doRdmaRead_of_no_window hr hp hw)
    · exact congrArg Host.Outcome.next (doRdmaRead_of_doorbells hr hp hu hw)
    · exact congrArg Host.Outcome.next (doRdmaRead_of_window hr hp hu hw h0)
  · rintro f q psn data ce s s1 rfl
    refine ⟨fun h => congrArg Host.Outcome.next (doSend_of_untaken h), ?_⟩
    rintro _ hr ht rfl
    exact ⟨fun h => congrArg Host.Outcome.next (doSend_of_duplicate hr ht h), fun h => congrArg Host.Outcome.next (doSend_of_ahead hr ht h),
      fun he => congrArg Host.Outcome.next (doSend_of_expected hr ht he)⟩
  · rintro f q psn va rkey x y ce s s1 c op o k rfl hc
    rw [exec_of_hostAtomic hc]
    refine ⟨fun h => congrArg Host.Outcome.next (doHostAtomic_of_untaken h), ?_⟩
    rintro _ hr ht rfl
    refine ⟨fun h => congrArg Host.Outcome.next (doHostAtomic_of_ahead hr ht h), fun h => congrArg Host.Outcome.next ?_,
      fun he => ⟨fun ha => ?_, fun ha hw => ?_, fun e ha hw => ?_, fun w e ha hw h0 => ?_⟩⟩
    · split
      next r hf => exact doHostAtomic_of_replayed hr ht h hf
      next hf => exact doHostAtomic_of_forgotten hr ht h hf
    · exact congrArg Host.Outcome.next (doHostAtomic_of_misaligned hr ht he ha)
    · exact congrArg Host.Outcome.next (doHostAtomic_of_no_window hr ht he ha hw)
    · exact congrArg Host.Outcome.next (doHostAtomic_of_doorbells hr ht he ha hw)
    · exact congrArg Host.Outcome.next (doHostAtomic_of_window hr ht he ha hw h0)
  · rintro s q r _ rfl hg
    exact ⟨finishHost_of_read hg, fun old u => finishHost_of_atomic hg, fun u => finishHost_of_entry hg, finishHost_of_write hg⟩
  · refine fun q s => ⟨fun h => congrArg Host.Outcome.next (doHostMemTimeout_of_no_request h), fun r rest h =>
      ⟨fun ha => congrArg Host.Outcome.next (doHostMemTimeout_of_unsent h ha), ?_⟩⟩
    rintro t _ ha rfl
    exact congrArg Host.Outcome.next (doHostMemTimeout_of_sent h ha)

end Sys2Proof.Machine
end

section
/-! Queue pairs, windows, rings, doorbells and host ports (R277 to R283, R287, R289, R290, R292, R295, R420): entries written, answers to the pair's
own requests, addresses, flow control and links. -/
namespace Sys2Proof.Machine

/-! Entries of queue pairs, windows and rings, and the doorbells (R281, R283, R287, R289). -/

section Pair
variable {s : State} {q : Nat} {bs : List Byte}

theorem doQp_of_reset (hl : bs.length = 64) (h0 : leAt bs 0 1 = 0) : (doQp s q bs).2 =
    pumpPairs (pairRecordsKept (setQp (hostDrain s (qpAt s q).port (reqBytes (qpAt s q))) q { entry := bs }) q) q :=
  congrArg Prod.snd (if_pos ⟨hl, h0⟩)

theorem doQp_of_readied (h1 : leAt bs 0 1 = 1) (hs : (qpAt s q).state = 0) (ho : qpEntryOk bs = true) : (doQp s q bs).2 =
    setQp s q { entry := bs, state := 1, port := leAt bs 1 1, mtu := leAt bs 2 1, ring := leAt bs 3 1, sPsn := BitVec.ofNat 24 (leAt bs 8 3),
                ePsn := BitVec.ofNat 24 (leAt bs 12 3), timeout := leAt bs 32 1, retry := leAt bs 33 1, rnrRetry := leAt bs 34 1 } := by
  simp [doQp, h1, hs, ho]

theorem doQp_of_refused (h0 : bs.length ≠ 64 ∨ leAt bs 0 1 ≠ 0) (h1 : leAt bs 0 1 ≠ 1 ∨ (qpAt s q).state ≠ 0 ∨ qpEntryOk bs = false) :
    (doQp s q bs).2 = s := by
  unfold doQp
  rw [if_neg (not_and_or.mpr h0), if_neg]
  rintro ⟨ha, hb, hc⟩
  simp [ha, hb, hc] at h1

end Pair

section Window
variable {s : State} {w : Nat} {bs : List Byte}

theorem doWindow_of_refused (h : windowOf s w bs = none) : (doWindow s w bs).2 = s := by simp only [doWindow, h]

theorem doWindow_of_taken {e : WinE} (h : windowOf s w bs = some e) : (doWindow s w bs).2 = { s with host := { s.host with
    wins := tset (fun _ => {}) s.host.wins w { cur := e, prev := (tget (fun _ => {}) s.host.wins w).cur, at_ := some s.ticks } } } := by
  simp only [doWindow, h]

end Window

section Ring
variable {s : State} {r : Nat}

/-- A ring is busy while a job of it runs (R287). -/
theorem doRingConfig_eq {bs : List Byte} {v : RingSt} (hv : v = ringAt s r) : (doRingConfig s r bs).2 =
    if s.job.map (·.ring) = some r ∨ ringConfigOk bs = false then s
    else setRing (setQp s v.qp { qpAt s v.qp with queue := (qpAt s v.qp).queue.filter (fun x => x.ring != r) }) r
      { entry := bs, base := leAt bs 0 8, entries := leAt bs 8 2, mode := leAt bs 10 1, qp := leAt bs 12 2,
        recBase := leAt bs 16 8, recKey := leAt bs 24 4, setup := v.setup + 1 } := by
  subst hv
  unfold doRingConfig
  cases hj : s.job with
  | none => by_cases ho : ringConfigOk bs = true <;> simp [ho]
  | some j => by_cases hr : j.ring = r <;> by_cases ho : ringConfigOk bs = true <;> simp [hr, ho]

variable {a : Nat}

theorem doAbort_of_refused (h : ¬((ringAt s r).head < a ∧ a ≤ (ringAt s r).tail)) : doAbort s r a = bump s Obj.hostDoorbellRefused := if_neg h

variable {u : State} (hu : u = setRing s r { ringAt s r with abort := a }) (hh : (ringAt s r).head < a) (ht : a ≤ (ringAt s r).tail)
include hu hh ht

theorem doAbort_of_no_job (hj : s.job = none) : doAbort s r a = abortQueued 4096 u r a := by
  have hju : u.job = none := by rw [hu]; exact hj
  rw [hu] at hju ⊢
  simp [doAbort, hh, ht, hju]

/-- An ABORT past the running entry stops its job; what lies below it follows at its end (R290). -/
theorem doAbort_of_job {j : Job} (hj : s.job = some j) : doAbort s r a = if j.ring = r ∧ j.entryNo < a
    then beginStop (setRing u r { ringAt u r with reach := some (max a ((ringAt s r).reach.getD 0)) }) 2 (some (2, 0, false)) 0 0
    else abortQueued 4096 u r a := by
  have hju : u.job = some j := by rw [hu]; exact hj
  rw [hu] at hju ⊢
  simp [doAbort, hh, ht, hju, endAny]

end Ring

/-! Answers to a pair's own requests (R281, R292). -/

section Answered
variable {s : State} {q : Nat} {f : HostFrame} {psn : BitVec 24} {k : AckKind}

theorem doRoceAck_of_none (h : qpReady s f q = false ∨ (qpAt s q).out.map (·.psn) ≠ some psn.toNat) : doRoceAck s f q psn k = s := by
  by_cases hr : qpReady s f q = true
  · have hp : (qpAt s q).out.map (·.psn) ≠ some psn.toNat := h.resolve_left (by simp [hr])
    cases ho : (qpAt s q).out with
    | none => simp only [doRoceAck, ho, ite_self]
    | some r =>
      have hne : r.psn ≠ psn.toNat := by simpa [ho] using hp
      simp [doRoceAck, ho, hne]
  · exact if_pos (by simpa using hr)

variable (hr : qpReady s f q = true) {r : QpReq} (ho : (qpAt s q).out = some r) (hp : r.psn = psn.toNat)
include hr ho hp

theorem doRoceAck_of_error : doRoceAck s f q psn .error = qpFail s q 1 := by
  simp [doRoceAck, hr, ho, hp]

theorem doRoceAck_of_sequence : doRoceAck s f q psn .sequence = retryRequest s q false := by
  simp [doRoceAck, hr, ho, hp]

theorem doRoceAck_of_rnr : doRoceAck s f q psn .rnr = retryRequest s q true := by
  simp [doRoceAck, hr, ho, hp]

theorem doRoceAck_of_ack {u : State} (hu : u = setQp s q { qpAt s q with out := none }) : doRoceAck s f q psn .ack =
    pumpQp (if r.seqPart = true ∨ (ringAt u r.ring).setup ≠ r.setup then u else setRing u r.ring { ringAt u r.ring with acked := true }) q := by
  simp [doRoceAck, hr, ho, hp, hu]

end Answered

section Retry
variable {s : State} {q : Nat} {rnr : Bool}

theorem exec_qpAckTimeout_of_none {q : Fin 4096} (h : (qpAt s q.val).out = none) : exec (.qpAckTimeout q) s = .next s :=
  congrArg Host.Outcome.next (by rw [h])

theorem exec_qpAckTimeout_of_request {q : Fin 4096} {r : QpReq} (h : (qpAt s q.val).out = some r) : exec (.qpAckTimeout q) s =
    .next (if r.sentAt + 4096 * 2 ^ (qpAt s q.val).timeout ≤ s.ticks then retryRequest s q.val false else s) :=
  congrArg Host.Outcome.next (by rw [h])

variable {r : QpReq} (ho : (qpAt s q).out = some r)
include ho

theorem retryRequest_of_exhausted (h : if rnr = true then (qpAt s q).rnrRetry ≠ 7 ∧ (qpAt s q).rnrRetry ≤ r.rnr else (qpAt s q).retry ≤ r.tries) :
    retryRequest s q rnr = qpFail s q 1 := by
  simp only [retryRequest, ho]
  refine if_neg ?_
  cases rnr with
  | true => simpa using h
  | false => simpa using h

theorem retryRequest_of_left {r' : QpReq}
    (h : if rnr = true then (qpAt s q).rnrRetry = 7 ∨ r.rnr < (qpAt s q).rnrRetry else r.tries < (qpAt s q).retry)
    (hr : r' = if rnr = true then { r with rnr := r.rnr + 1, sentAt := s.ticks } else { r with tries := r.tries + 1, sentAt := s.ticks }) :
    retryRequest s q rnr = wireRequest (setQp s q { qpAt s q with out := some r' }) q r' := by
  subst hr
  simp only [retryRequest, ho]
  exact if_pos h

end Retry

/-! Addresses and flow control (R278, R279). -/

section Port
variable {s : State} {f : HostFrame}

theorem exec_icmpEcho (source dst payload : List Byte) : exec (.icmpEcho f source dst payload) s =
    .next (if linkUp s f.port.val = true ∧ frameOk s f = true ∧ ownAddress s f.port.val dst = true ∧ onSubnet s f.port.val (mapped source) = true
      then ethSend s f.port.val .echoReply (source ++ payload) else s) := by
  refine congrArg Host.Outcome.next (if_congr ?_ rfl rfl)
  simp only [Bool.and_eq_true, and_assoc]

variable {prio : Nat} {pause : Bool} {g : HostFrame} (hg : g = { f with vlan := (hostTag s f.port.val).map (Fin.ofNat 4096) })
include hg

theorem doPfc_of_other (h : linkUp s f.port.val = false ∨ frameOk s g = false ∨ prio ≠ dval s Obj.hostPfcPriority) : doPfc s f prio pause = s := by
  subst hg
  exact if_pos (h.imp (by simp) (Or.imp_left (by simp)))

variable (hl : linkUp s f.port.val = true) (hf : frameOk s g = true) (hp : prio = dval s Obj.hostPfcPriority)
include hl hf hp

theorem doPfc_of_pause : doPfc s f prio true = setHostPort s f.port.val { hostPortAt s f.port.val with pausedTx := true } := by
  subst hg
  simp [doPfc, hl, hf, hp]

/-- The end of a pause sends the frames it held, then the requests of the port's pairs (R278). -/
theorem doPfc_of_resume {u : State} (hu : u = (hostPortAt s f.port.val).heldTx.foldl (fun u o => emit u (.host f.port.val o))
    (setHostPort s f.port.val { hostPortAt s f.port.val with pausedTx := false, heldTx := [] })) :
    doPfc s f prio false = u.host.qps.foldl (fun u e => if (qpAt u e.1).port = f.port.val then wireHeld u e.1 else u) u := by
  subst hg
  simp [doPfc, hl, hf, hp, hu]

end Port

/-! Links (R277, R279). -/

section Link
variable {s : State}

theorem doBringup_of_dark {c : Cage} (h : hostDieUp s c.port.val = false ∨ s.light.cal.blendRuns = false) : doBringup s c = s :=
  if_pos (h.imp (by simp) (by simp))

theorem doBringup_of_lit {c : Cage} {p : HostPort} (hp : p = hostPortAt s c.port.val) (hd : hostDieUp s c.port.val = true)
    (hb : s.light.cal.blendRuns = true) : doBringup s c = if p.link = 1 ∧ p.step = 1 then cageRead s c
      else if p.link ≠ 0 ∨ (p.step ≠ 0 ∧ s.ticks < p.since + 1000000000) then s else cageRead (beginLink s c.port.val) c := by
  subst hp
  exact if_neg (by simp [hd, hb])

/-- A module that stays in low power brings no link up (R464). -/
theorem linkMode_of_lowPower {p : HostPort} (modes : BitVec 4) (h : p.lowPower = true) : linkMode p modes = none := if_pos h

variable {n : Nat} {modes : BitVec 4}

theorem doLinkUp_of_no_mode (h : linkMode (hostPortAt s n) modes = none) : doLinkUp s n modes = s := by simp only [doLinkUp, h]

theorem doLinkUp_of_mode {m : Nat} (h : linkMode (hostPortAt s n) modes = some m) : doLinkUp s n modes =
    if hostDieUp s n = true ∧ (hostPortAt s n).link = 1 ∧ (hostPortAt s n).step = 2 ∧ s.ticks ≤ (hostPortAt s n).since + bringupTime (hostPortAt s n)
    then setHostPort s n { hostPortAt s n with link := 2, step := 4, speed := modeSpeed m, since := s.ticks } else s := by
  simp only [doLinkUp, h]

end Link

/-- Settles O36: an entry by whether it is taken, an ABORT by the job it finds, an answer by its kind, a frame by whether the port takes it, and a
link's event by the step the port is in. -/
theorem hostQueuesAndPorts : Obligations.HostQueuesAndPorts := by
  refine ⟨fun q bs s => ⟨fun hl h0 => ?_, fun h1 hs ho => ?_, fun h0 h1 => ?_⟩, fun w bs s => ⟨fun h => ?_, fun e h => ?_⟩, ?_, ?_, ?_,
    fun q s => ⟨exec_qpAckTimeout_of_none, fun r => exec_qpAckTimeout_of_request⟩,
    fun s q rnr r ho => ⟨retryRequest_of_exhausted ho, fun r' => retryRequest_of_left ho⟩, fun f q s => rfl,
    fun f s => ⟨?_, fun _ _ => rfl, exec_icmpEcho, ?_, rfl⟩,
    fun port s => ⟨fun h => congrArg Host.Outcome.next (if_pos h), fun h => congrArg Host.Outcome.next (if_neg h)⟩,
    fun c s p hp => ⟨fun h => congrArg Host.Outcome.next (doBringup_of_dark h), fun hd hb => congrArg Host.Outcome.next (doBringup_of_lit hp hd hb)⟩,
    fun s c n => ⟨rfl, rfl⟩, fun p modes => linkMode_of_lowPower modes, ?_⟩
  · exact congrArg Host.Outcome.next (doQp_of_reset hl h0)
  · exact congrArg Host.Outcome.next (doQp_of_readied h1 hs ho)
  · exact congrArg Host.Outcome.next (doQp_of_refused h0 h1)
  · exact congrArg Host.Outcome.next (doWindow_of_refused h)
  · exact congrArg Host.Outcome.next (doWindow_of_taken h)
  · refine fun r bs s v hv => ⟨fun hj ho => ?_, fun h => ?_⟩
    · exact congrArg Host.Outcome.next ((doRingConfig_eq hv).trans (if_neg (by simp [hj, ho])))
    · exact congrArg Host.Outcome.next ((doRingConfig_eq hv).trans (if_pos h.symm))
  · rintro r v s u _ rfl hu
    exact ⟨rfl, fun h => congrArg Host.Outcome.next (doAbort_of_refused h), fun hj hh ht => congrArg Host.Outcome.next (doAbort_of_no_job hu hh ht hj),
      fun j hj hh ht => congrArg Host.Outcome.next (doAbort_of_job hu hh ht hj)⟩
  · refine fun f q psn k s => ⟨fun h => congrArg Host.Outcome.next (doRoceAck_of_none h), fun r hr ho hp => ⟨?_, ?_, ?_, fun u hu => ?_⟩⟩
    · exact congrArg Host.Outcome.next (doRoceAck_of_error hr ho hp)
    · exact congrArg Host.Outcome.next (doRoceAck_of_sequence hr ho hp)
    · exact congrArg Host.Outcome.next (doRoceAck_of_rnr hr ho hp)
    · exact congrArg Host.Outcome.next (doRoceAck_of_ack hr ho hp hu)
  · rintro mac ip target _ rfl
    rfl
  · refine fun prio pause g hg => ⟨fun h => congrArg Host.Outcome.next (doPfc_of_other hg h), fun hl hf hp => ⟨?_, fun u hu => ?_⟩⟩
    · exact congrArg Host.Outcome.next (doPfc_of_pause hg hl hf hp)
    · exact congrArg Host.Outcome.next (doPfc_of_resume hg hl hf hp hu)
  · rintro port modes s _ rfl
    exact ⟨fun h => congrArg Host.Outcome.next (doLinkUp_of_no_mode h), fun m h => congrArg Host.Outcome.next (doLinkUp_of_mode h)⟩

end Sys2Proof.Machine
end

section
/-! IEEE 1588 at a host port (R279, R293, R310): the messages of a master that the port follows, Delay_Req, and the election of the best master. -/
namespace Sys2Proof.Machine

section Follow
variable {s : State} {f : HostFrame} {sender : PtpSender} {seq : BitVec 16} {origin : Word} {err : Fin 9}

theorem exec_ptpSync_of_other {two : Bool} (h : follows s f sender = false) : exec (.ptpSync f sender seq origin two err) s = .next s :=
  congrArg Host.Outcome.next (if_pos (by simp [h]))

variable (h : follows s f sender = true)
include h

/-- A two-step Sync waits for the Follow_Up of its number (R293). -/
theorem exec_ptpSync_of_twoStep : exec (.ptpSync f sender seq origin true err) s = .next (setPtp s f.port.val
    { ptpAt s f.port.val with waiting := true, syncSeq := seq.toNat, syncRx := stamp s err }) :=
  congrArg Host.Outcome.next (if_neg (by simp [h]))

theorem exec_ptpSync_of_oneStep :
    exec (.ptpSync f sender seq origin false err) s = .next (syncOffset s f.port.val (origin.toNat * 1000) (stamp s err)) :=
  congrArg Host.Outcome.next (if_neg (by simp [h]))

end Follow

section Announce
variable {s : State} {f : HostFrame} {a : AnnounceMsg}

theorem doAnnounce_of_other (h : ptpOn s f.port.val = false ∨ frameOk s f = false ∨ a.domain.toNat ≠ dval s Obj.hostPtpDomain) : doAnnounce s f a = s :=
  if_pos (h.imp (by simp) (Or.imp_left (by simp)))

variable (hp : ptpOn s f.port.val = true) (hf : frameOk s f = true) (hd : a.domain.toNat = dval s Obj.hostPtpDomain)
include hp hf hd

theorem doAnnounce_of_first (hb : (ptpAt s f.port.val).best = none) : doAnnounce s f a =
    electMaster (setPtp s f.port.val { ptpAt s f.port.val with best := some (masterOf a), heardAt := s.ticks }) := by
  simp [doAnnounce, hp, hf, hd, hb]

/-- The master held stays while it is the better one and another's (R293). -/
theorem doAnnounce_of_held {b : Master} (hb : (ptpAt s f.port.val).best = some b) : doAnnounce s f a =
    electMaster (if b.rank < (masterOf a).rank ∧ b.port ≠ (masterOf a).port then s
      else setPtp s f.port.val { ptpAt s f.port.val with best := some (masterOf a), heardAt := s.ticks }) := by
  simp [doAnnounce, hp, hf, hd, hb]

end Announce

section Elect

/-- The better of two masters heard (R293). -/
def betterMaster (b : Option (Nat × Master)) (e : Nat × Master) : Option (Nat × Master) :=
  match b with
  | none => some e
  | some x => if e.2.rank < x.2.rank then some e else some x

/-- The best master over both ports. -/
def bestMaster (s : State) : Option (Nat × Master) :=
  ((List.range 2).filterMap (fun i => if ptpOn s i = true then (ptpAt s i).best.map (fun b => (i, b)) else none)).foldl betterMaster none

variable {s : State} {best : Option (Nat × Master)} (hb : best = bestMaster s)
include hb

theorem electMaster_of_same (h : best.map (fun e => (e.1, e.2.port)) = s.mt.master.map (fun e => (e.1, e.2.port))) :
    electMaster s = setMt s (fun m => { m with master := best }) := by
  subst hb
  exact if_pos h

/-- The new best master is followed through its own port alone. -/
theorem electMaster_of_new (h : best.map (fun e => (e.1, e.2.port)) ≠ s.mt.master.map (fun e => (e.1, e.2.port))) : electMaster s =
    (List.range 2).foldl (fun u i => setHostPort u i { hostPortAt u i with ptp := if best.map (·.1) = some i then 1 else 0 })
      (setMt s (fun m => { m with master := best })) := by
  subst hb
  exact if_neg h

end Elect

/-- Settles O38: a message of a master by whether the port follows it, an Announce by the master held, and the election by whether the best master
is the one followed. -/
theorem precisionTime : Obligations.PrecisionTime := by
  refine ⟨?_, fun s n t1 t2 => ⟨_, rfl, rfl⟩, ?_, ?_, fun s best hb => ⟨electMaster_of_same hb, electMaster_of_new hb⟩⟩
  · rintro f sender seq origin receive err two s _ rfl
    exact ⟨exec_ptpSync_of_other, fun h => ⟨exec_ptpSync_of_twoStep h, exec_ptpSync_of_oneStep h⟩, rfl, rfl⟩
  · rintro port err s _ rfl
    rfl
  · rintro f a s _ rfl
    refine ⟨fun h => congrArg Host.Outcome.next (doAnnounce_of_other h), fun hp hf hd => ⟨fun hb => ?_, fun b hb => ?_⟩⟩
    · exact congrArg Host.Outcome.next (doAnnounce_of_first hp hf hd hb)
    · exact congrArg Host.Outcome.next (doAnnounce_of_held hp hf hd hb)

end Sys2Proof.Machine
end

section
/-! The dictionary and the field network (R294, R403, R406 to R417): a unit on its route, a request within the rate, what its handling comes to, and
PLCA's beacons, their loss and collisions. -/
namespace Sys2Proof.Machine

/-! A unit on its route (R294, R406, R408, R416). -/

section Unit
variable {s : State} {id : ClientId} {b : Bool} {u : List Byte}

/-- A tagged frame of the field network does not reach the server (R406). -/
theorem unitIn_field (mac : BitVec 48) (f : UnitFrame) :
    unitIn s (.field mac) b f u = if f.vlan ≠ none then s else doPunel s (.field mac) b f.spoiled u :=
  if_congr Option.isSome_iff_ne_none rfl rfl

variable {d : State} {sp : Bool} (hd : d = dropReplies (dropStaged (dropSnaps s)))
include hd

theorem doPunel_of_unserved (h : routeServed d id = false) : doPunel s id b sp u = d := by
  subst hd
  exact if_pos (by simp [h])

variable (hr : routeServed d id = true)
include hr

theorem doPunel_of_spoiled_field {mac : BitVec 48} (hid : id = .field mac) (hs : sp = true) : doPunel s id b sp u = bump d Obj.fieldFramesBad := by
  subst hd hid hs
  simp [doPunel, hr]

variable (hs : sp = false)
include hs

theorem doPunel_of_dropped (h : privilegeOf d id = 0 ∨ unitGood id u = false ∨ (b = true ∧ broadcastOk u = false)) :
    doPunel s id b sp u = bump d Obj.punelDropped := by
  subst hd hs
  simp [doPunel, hr, if_pos h]

/-- A request of a client with privilege, sound and allowed, counts against the running second (R416). -/
theorem doPunel_of_request (hp : privilegeOf d id ≠ 0) (hg : unitGood id u = true) (hb : b = false ∨ broadcastOk u = true) : doPunel s id b sp u =
    if d.punel.rateAt + 1000000000 ≤ d.ticks then takeRequest (setPunel d (fun p => { p with rateAt := d.ticks, rateN := 1 })) id u
    else if 20000 ≤ d.punel.rateN then bump d Obj.punelDropped else takeRequest (setPunel d (fun p => { p with rateN := p.rateN + 1 })) id u := by
  have hn : ¬(privilegeOf d id = 0 ∨ unitGood id u = false ∨ (b = true ∧ broadcastOk u = false)) := by
    rintro (h | h | ⟨h, h'⟩)
    · exact hp h
    · simp [h] at hg
    · simp [h, h'] at hb
  subst hd hs
  simp [doPunel, hr, if_neg hn, rateFull]
  split
  · rfl
  · split
    · rfl
    · rfl

end Unit

/-! A request within the rate (R413, R415), by what the server has for its TXN. -/

section Request
variable {s : State} {id : ClientId} {u : List Byte} {q : Bool × State} {r : PunelReq} (hq : q = admitClient s id) (hr : r = punelReq u)
include hq hr

theorem takeRequest_of_kept {x : Nat × List Byte × Nat} (h : (clientAt q.2 id).bind (fun c => c.replies.find? (fun x => x.1 == r.txn)) = some x) :
    takeRequest s id u = sendUnit (bump q.2 Obj.punelDuplicates) id x.2.1 := by
  subst hq hr
  simp only [takeRequest, h]

variable (h : (clientAt q.2 id).bind (fun c => c.replies.find? (fun x => x.1 == r.txn)) = none)
include h

theorem takeRequest_of_waiting {w : Waiting} (hw : q.2.punel.waiting.find? (fun w => w.id == id && leAt w.answer 2 2 == r.txn) = some w) :
    takeRequest s id u = bump (setPunel q.2 (fun p => { p with waiting := p.waiting ++ [w] })) Obj.punelDuplicates := by
  subst hq hr
  simp only [takeRequest, h, hw]

theorem takeRequest_of_new (hw : q.2.punel.waiting.find? (fun w => w.id == id && leAt w.answer 2 2 == r.txn) = none) :
    takeRequest s id u = respond (handle q.2 id q.1 r).2 id r (handle q.2 id q.1 r).1 := by
  subst hq hr
  simp only [takeRequest, h, hw]

end Request

/-! What handling a request comes to (R411 to R414). -/

section Handle
variable {s : State} {id : ClientId} {r : PunelReq}

theorem handle_of_early {ad : Bool} (h : earlyStatus s (privilegeOf s id) r ≠ 0) :
    (handle s id ad r).2 = s ∧ (handle s id ad r).1.status = earlyStatus s (privilegeOf s id) r := by
  unfold handle
  rw [if_pos h]
  exact ⟨rfl, rfl⟩

variable (h : earlyStatus s (privilegeOf s id) r = 0)
include h

/-- A client with no entry finds BUSY (R413). -/
theorem handle_of_unadmitted : (handle s id false r).2 = s ∧ (handle s id false r).1.status = 7 := by
  unfold handle
  rw [if_neg (not_not.mpr h)]
  exact ⟨rfl, rfl⟩

variable {c : Client} {e : DictEntry} (hc : clientAt s id = some c) (he : dictFind r.code = some e)
include hc he

theorem handle_of_read (ho : r.op = 1) : handle s id true r = readObject s c e r := by
  simp [handle, h, hc, he, ho]

theorem handle_of_write (ho : r.op = 2) :
    (handle s id true r).1.status = (writeObject s id e r).status ∧ (handle s id true r).2 = (writeObject s id e r).state := by
  simp [handle, h, hc, he, ho]

theorem handle_of_abort (ho : r.op = 3) : (handle s id true r).1.status = 0 ∧
    (handle s id true r).2 = if r.code = Obj.updateImage then abortUpdate s id else dropStage s id r := by
  simp [handle, h, hc, he, ho]
  rfl

end Handle

section Early
variable {s : State} {v : Nat} {r : PunelReq} {e : DictEntry} (he : dictFind r.code = some e) (hm : malformed r = false) (ht : tooLarge r = false)
include he hm ht

/-- A READ or WRITE that the object's access does not allow (R412). -/
theorem earlyStatus_of_wrong_access (h : (r.op = 2 ∧ e.access = 0) ∨ (r.op = 1 ∧ e.access = 2)) : earlyStatus s v r = 2 := by
  obtain ⟨ho, ha⟩ | ⟨ho, ha⟩ := h
  · simp [earlyStatus, he, hm, ht, ho, ha, firstStatus]
  · simp [earlyStatus, he, hm, ht, ho, ha, firstStatus]

/-- A WRITE below the privilege that the object asks (R403). -/
theorem earlyStatus_of_low_privilege (ho : r.op = 2) (ha : e.access ≠ 0) (hv : v ≤ e.priv) : earlyStatus s v r = 3 := by
  simp [earlyStatus, he, hm, ht, ho, ha, firstStatus, Nat.lt_succ_of_le hv]

end Early

/-! The field network (R407). -/

section Field
variable {s : State}

theorem sendsFreely_iff : sendsFreely s = true ↔
    s.punel.state = 3 ∨ (s.punel.state = 2 ∧ s.punel.beaconAt.getD s.punel.phyAt + 4000000 ≤ s.ticks) := by
  simp only [sendsFreely, Bool.or_eq_true, Bool.and_eq_true, beq_iff_eq, decide_eq_true_eq, ge_iff_le]

theorem exec_plcaBeaconLoss_of_none (h : s.punel.beaconAt = none) :
    exec .plcaBeaconLoss s = .next (if sendsFreely s = true then fieldSend s s.punel.fieldOut.length else s) :=
  congrArg Host.Outcome.next (by simp only [doBeaconLoss, h])

theorem exec_plcaBeaconLoss_of_beacon {t : Nat} {u : State} (h : s.punel.beaconAt = some t)
    (hu : u = if s.punel.state = 1 ∧ s.punel.coordinator = false ∧ t + 4000000 ≤ s.ticks then setPunel s (fun p => { p with state := 2 }) else s) :
    exec .plcaBeaconLoss s = .next (if sendsFreely u = true then fieldSend u u.punel.fieldOut.length else u) :=
  congrArg Host.Outcome.next (by simp only [doBeaconLoss, h, hu, Bool.not_eq_true', ge_iff_le])

theorem exec_nodeIdConflict_outside_plca (h : s.punel.state ≠ 1) : exec .nodeIdConflict s = .next s := congrArg Host.Outcome.next (if_pos h)

/-- The state a collision in the module's own opportunity leaves, before what waits is sent. -/
def fieldCollided (s : State) (cs : List Nat) : State :=
  bump (setPunel s (fun p => { p with collisions := cs.take 16, state := if 16 ≤ cs.length then 3 else 1 })) Obj.fieldCollisions

/-- After a collision the module sends freely exactly when it was the sixteenth within 1 s. -/
theorem sendsFreely_fieldCollided (cs : List Nat) : sendsFreely (fieldCollided s cs) = true ↔ 16 ≤ cs.length := by
  by_cases hn : 16 ≤ cs.length
  · simp [sendsFreely, fieldCollided, setPunel, hn]
  · simp [sendsFreely, fieldCollided, setPunel, hn]

theorem exec_nodeIdConflict_in_plca {cs : List Nat} (h : s.punel.state = 1)
    (hcs : cs = s.ticks :: s.punel.collisions.filter (fun t => decide (s.ticks < t + 1000000000))) :
    exec .nodeIdConflict s = .next (if 16 ≤ cs.length then fieldSend (fieldCollided s cs) s.punel.fieldOut.length else fieldCollided s cs) := by
  subst hcs
  refine congrArg Host.Outcome.next ?_
  simp only [doFieldCollision, setPunel, h, ne_eq, not_true_eq_false, if_false]
  exact if_congr (sendsFreely_fieldCollided (s := s) _) rfl rfl

end Field

/-- Settles O47: a unit by its route and its checks, a request by what is kept for its TXN and by its operation, and PLCA's events by FIELD_STATE. -/
theorem dictionaryAndFieldNetwork : Obligations.DictionaryAndFieldNetwork := by
  refine ⟨⟨fun id b f u s => ⟨rfl, rfl, rfl⟩, fun b f u s => ⟨fun mac => unitIn_field mac f, fun n a p => rfl⟩,
      fun id b sp u s d hd => ⟨doPunel_of_unserved hd, fun mac hid hr hs => doPunel_of_spoiled_field hd hr hid hs,
        fun hr hs => doPunel_of_dropped hd hr hs, fun hr hs => doPunel_of_request hd hr hs⟩,
    fun id u s q r hq hr => ⟨fun x => takeRequest_of_kept hq hr, fun h => ⟨fun w => takeRequest_of_waiting hq hr h, takeRequest_of_new hq hr h⟩⟩,
    fun s id ad r => ⟨handle_of_early, handle_of_unadmitted,
      fun c e h hc he => ⟨handle_of_read h hc he, handle_of_write h hc he, handle_of_abort h hc he⟩⟩,
    fun s v r e he hm ht => ⟨fun ho ha => ?_, fun ho ha => ?_, earlyStatus_of_low_privilege he hm ht⟩, fun s => ⟨rfl, rfl, rfl⟩⟩,
    fun s => sendsFreely_iff, fun s => rfl, fun s => ⟨exec_plcaBeaconLoss_of_none, fun t u => exec_plcaBeaconLoss_of_beacon⟩,
    fun s => ⟨exec_nodeIdConflict_outside_plca, fun cs => exec_nodeIdConflict_in_plca⟩, fun s mac u => rfl, fun s n a p u => rfl⟩
  · exact earlyStatus_of_wrong_access he hm ht (.inl ⟨ho, ha⟩)
  · exact earlyStatus_of_wrong_access he hm ht (.inr ⟨ho, ha⟩)

end Sys2Proof.Machine
end

section
/-! O52: a step is the command at the front of the queue, or a tick of the clock (R306). -/
namespace Sys2Proof.Machine

theorem State.tick_eq_clocks (s : State) :
    s.tick = logClock (ptpClock (hostClock (fabricClock { s with ticks := s.ticks + 1, now := s.now + 1 }))) := rfl

/-- A command put before the queue of `s` runs on `s` itself: what is left of the queue is the queue of `s`. -/
theorem step_of_put_first (c : Instr) (s : State) : step { s with pending := c :: s.pending } = exec c s :=
  step_of_cons (s := { s with pending := c :: s.pending }) rfl

/-- Settles O52: by the queue, whose first command runs on the rest of it (`step_of_cons`); with none the clock ticks (`step_of_nil`), and the
tick runs the four clocks in their order. -/
theorem stepTakesFront : Obligations.StepTakesFront :=
  ⟨step_of_put_first, fun _ _ _ h => step_of_cons h, fun s h => (step_of_nil h).trans (congrArg Host.Outcome.next s.tick_eq_clocks)⟩

end Sys2Proof.Machine
end

section
/-! RESET_N, the grinder's march and joints that fail in service (R332, R445 to R448, R460). -/
namespace Sys2Proof.Machine

section Reset
variable {s u : State} {held : Nat} {hit : Bool}
  (hh : hit = (decide (6000 ≤ held) || (decide (4000 ≤ held ∧ held < 6000) && Config.freeBool s.freeCtr 0x10A0)))
include hh

theorem doResetN_of_no_reset (hu : u = if 4000 ≤ held ∧ held < 6000 then bumpFree s else s)
    (h : s.pow.failed = true ∨ s.startup.inReset = true ∨ powered s = false ∨ hit = false) : doResetN s held = u := by
  subst hh hu
  unfold doResetN
  simp only [decide_eq_true_eq]
  exact if_pos (by simpa only [Bool.not_eq_true'] using h)

/-- A reset leaves the module dark, with both baristas silent and ALERT_N released (R332, R460). -/
theorem doResetN_of_reset (h : hit = true) (hf : s.pow.failed = false) (hr : s.startup.inReset = false) (hp : powered s = true) :
    (doResetN s held).role0 = .silent ∧ (doResetN s held).role1 = .silent ∧ (doResetN s held).faults.alert = .released ∧
      (doResetN s held).startup.inReset = true ∧ (doResetN s held).job = none ∧ (doResetN s held).sent = [] ∧
      dval (doResetN s held) Obj.moduleState = 0 := by
  have hno : ¬(s.pow.failed = true ∨ s.startup.inReset = true ∨ (!powered s) = true ∨ (!hit) = true) := by simp [hf, hr, hp, h]
  subst hh
  unfold doResetN
  dsimp only
  rw [if_neg hno]
  exact ⟨rfl, rfl, rfl, rfl, rfl, rfl, dval_dset _ _ _⟩

end Reset

section Release
variable {s : State} (slotId : BitVec 6)

theorem exec_resetRelease_of_running (h : s.startup.inReset = false) : exec (.resetRelease slotId) s = .next s :=
  congrArg Host.Outcome.next (if_neg (by rw [h]; exact Bool.false_ne_true))

theorem exec_resetRelease_of_reset (h : s.startup.inReset = true) : exec (.resetRelease slotId) s =
    .next (enterRom s slotId (max s.ticks (s.startup.resetLow + 5000000)) (max s.ticks (s.startup.resetLow + 5000000))) :=
  congrArg Host.Outcome.next (if_pos h)

/-- The boot ROM finds the carafes' units, a broken cover mesh and the time, and of all else what is at reset (R332, R439). -/
theorem enterRom_keeps (s : State) (began at_ : Nat) :
    (enterRom s slotId began at_).startup.step = 2 ∧ (enterRom s slotId began at_).startup.slotId = slotId ∧
      (enterRom s slotId began at_).startup.stepAt = at_ ∧ (enterRom s slotId began at_).dict = State.reset.dict ∧
      (enterRom s slotId began at_).tiles = [] ∧ (enterRom s slotId began at_).job = none ∧
      (carafeOf (enterRom s slotId began at_) 0).units = (carafeOf s 0).units ∧
      (carafeOf (enterRom s slotId began at_) 1).units = (carafeOf s 1).units ∧
      (enterRom s slotId began at_).sec.meshBroken = s.sec.meshBroken ∧ (enterRom s slotId began at_).now = s.now :=
  ⟨rfl, rfl, rfl, rfl, rfl, rfl, rfl, rfl, rfl, rfl⟩

end Release

/-- A march starts without a job and without another march, in one of its two modes (R446). -/
theorem doGrinderRun_eq (s : State) (v : Nat) : (doGrinderRun s v).2 =
    if s.job = none ∧ s.startup.grinder ≠ 1 ∧ (v = 1 ∨ v = 2) then setStartup s (fun x => { x with grinder := 1, grinderMode := v }) else s := by
  have hc : (s.job.isSome = true ∨ (v ≠ 1 ∧ v ≠ 2) ∨ s.startup.grinder = 1) ↔ ¬(s.job = none ∧ s.startup.grinder ≠ 1 ∧ (v = 1 ∨ v = 2)) := by
    rw [Option.isSome_iff_ne_none]
    tauto
  unfold doGrinderRun
  split
  · rw [if_neg (hc.mp ‹_›)]
  · rw [if_pos (not_not.mp (mt hc.mpr ‹_›))]

theorem doJointFail_eq (s : State) (site group joint : Nat) (carries : JointCarries) : doJointFail s site group joint carries =
    if dval s Obj.moduleState = 1 ∧ jointFits site carries = true then schedule s (boundaryAfter s 700) (.joint site group joint carries) else s := by
  unfold doJointFail
  rw [← ite_not]
  refine if_congr ?_ rfl rfl
  simp only [not_or, not_not, ne_eq, Bool.not_eq_true', Bool.not_eq_false]

/-- Settles O51: RESET_N by whether it resets, its release by whether a reset is under way, and the march and the joints by the one condition
under which each acts. -/
theorem resetGrinderJoints : Obligations.ResetGrinderJoints := by
  refine ⟨fun held s hit u hh hu => ⟨fun h => congrArg Host.Outcome.next (doResetN_of_no_reset hh hu h),
      fun h hf hr hp => ⟨_, rfl, doResetN_of_reset hh h hf hr hp⟩⟩,
    fun slotId s => ⟨exec_resetRelease_of_running slotId, fun h => ⟨_, exec_resetRelease_of_reset slotId h, enterRom_keeps slotId s _ _⟩⟩,
    fun v s => ?_, fun s fs => rfl, ?_, fun site g carries j s => congrArg Host.Outcome.next (doJointFail_eq s site.val g.toNat j.val carries)⟩
  · refine congrArg Host.Outcome.next ((doGrinderRun_eq s v.toNat).trans ?_)
    simp only [← BitVec.toNat_inj]
    rfl
  · rintro s _ cd t deep site n rfl
    exact ⟨rfl, rfl⟩

end Sys2Proof.Machine
end

section
/-! The baristas' self-checks, their silence, re-mirroring and power-fail (R330, R375, R383 to R389, R394, R399). -/
namespace Sys2Proof.Machine

section Roles
variable (s : State) (n : Nat)

@[simp] theorem roleOf_setRole_same (r : BaristaRole) : roleOf (setRole s n r) n = r := by
  unfold roleOf setRole
  split <;> rfl

@[simp] theorem barOf_setRole (r : BaristaRole) (k : Nat) : barOf (setRole s n r) k = barOf s k := by
  unfold setRole
  split <;> rfl

@[simp] theorem barOf_setBarOf_same (b : Barista) : barOf (setBarOf s n b) n = b := tget_tset_same _ _ _ _

theorem barOf_setBarOf_ne {k : Nat} (b : Barista) (h : k ≠ n) : barOf (setBarOf s n b) k = barOf s k := tget_tset_ne _ _ _ h

/-- Only the carafes change when one of them is set. -/
theorem setCarafe_eq (c : Carafe) :
    setCarafe s n c = { s with carafe0 := if n = 0 then c else s.carafe0, carafe1 := if n = 0 then s.carafe1 else c } := by
  unfold setCarafe
  split <;> rfl

end Roles

section Silence
variable {s : State} {n c : Nat}

theorem silence_of_dead (h : roleOf s n = .dead) : silence s n c = s := if_pos h

theorem silence_of_silent (h : roleOf s n = .silent) : silence s n c = if c = 8 then setRole s n .dead else s :=
  (if_neg (by simp [h])).trans (if_pos h)

/-- What was under way at a barista that falls silent is given up: its timing tree's light, a compaction and its log queue (R383, R393). -/
def cutOff (s : State) (n : Nat) : State := stopWrites { s with mt := { s.mt with lit := s.mt.lit.filter (· != n) } } n

theorem stopWrites_ticks (s : State) (n : Nat) : (stopWrites s n).ticks = s.ticks := by rw [stopWrites, setCarafe_eq]

theorem stopWrites_now (s : State) (n : Nat) : (stopWrites s n).now = s.now := by rw [stopWrites, setCarafe_eq]

/-- A barista that was heard records the check and the time; the third silence within 24 h, or check 8, lasts (R383, R386). -/
theorem silence_of_heard (hs : roleOf s n ≠ .silent) (hd : roleOf s n ≠ .dead) : silence s n c =
    bump (setRole (setBarOf (cutOff s n) n { barOf s n with
        silentAt := some s.ticks, cause := c
        silences := (barOf s n).silences.filter (fun t => decide (s.now.toNat < t + 86400000000000)) ++ [s.now.toNat] }) n
      (if c = 8 ∨ 2 ≤ ((barOf s n).silences.filter (fun t => decide (s.now.toNat < t + 86400000000000))).length then .dead else .silent))
      (Obj.baristaSilences + 256 * n) := by
  simp only [silence, if_neg hd, if_neg hs, Bool.or_eq_true, decide_eq_true_eq, stopWrites_ticks, stopWrites_now]
  rfl

theorem silence_spec (hs : roleOf s n ≠ .silent) (hd : roleOf s n ≠ .dead) :
    roleOf (silence s n c) n = (if c = 8 ∨ 2 ≤ ((barOf s n).silences.filter (fun t => decide (s.now.toNat < t + 86400000000000))).length
      then .dead else .silent) ∧ (barOf (silence s n c) n).cause = c ∧ (barOf (silence s n c) n).silentAt = some s.ticks := by
  have hr (u : State) (k : Nat) : roleOf (bump u k) n = roleOf u n := rfl
  have hb (u : State) (k : Nat) : barOf (bump u k) n = barOf u n := rfl
  simp only [silence_of_heard hs hd, hr, hb, roleOf_setRole_same, barOf_setRole, barOf_setBarOf_same, and_self]

end Silence

section Tests
variable {s : State} {n : Nat}

theorem doKnownAnswer_of_cut (h : outputsOpen s n = false) (f : SelfCheck) : doKnownAnswer s n f = s := if_pos (by rw [h]; rfl)

variable (h : outputsOpen s n = true)
include h

/-- A double error and a failed unit are found at any time, an answer counts each 10 ms (R383). -/
theorem doKnownAnswer_of_sramDouble : doKnownAnswer s n .sramDouble = silence s n 3 := if_neg (by simp [h])

theorem doKnownAnswer_of_badUnit (o : BitVec 29) : doKnownAnswer s n (.badUnit o) = replaceUnit s n o.toNat := if_neg (by simp [h])

variable {u : State} (hu : u = setBarOf s n { barOf s n with testAt := s.ticks })
include hu

theorem doKnownAnswer_of_right : doKnownAnswer s n .right = if s.ticks < (barOf s n).testAt + 10000000 then s else u := by
  subst hu
  exact if_neg (by simp [h])

theorem doKnownAnswer_of_wrong : doKnownAnswer s n .wrong = if s.ticks < (barOf s n).testAt + 10000000 then s else silence u n 2 := by
  subst hu
  exact if_neg (by simp [h])

end Tests

section Unit
variable {s : State} {n offset : Nat}

theorem replaceUnit_of_none (h : replaceBlock (carafeOf s n) (offset / 65536) = none) : replaceUnit s n offset = silence s n 5 := by
  simp only [replaceUnit, h]

theorem replaceUnit_of_spare {c : Carafe} (h : replaceBlock (carafeOf s n) (offset / 65536) = some c) : replaceUnit s n offset = setCarafe s n c := by
  simp only [replaceUnit, h]

end Unit

theorem doOscillator_eq (s : State) (n cycles : Nat) : doOscillator s n cycles =
    if outputsOpen s n = false ∨ s.ticks < (barOf s n).countAt + 1000000 then s
    else if cycles < 999900 ∨ 1000100 < cycles then silence (setBarOf s n { barOf s n with countAt := s.ticks }) n 4
    else setBarOf s n { barOf s n with countAt := s.ticks } := by
  simp only [doOscillator, Bool.not_eq_true']

section Reset
variable {s : State} {n : Nat}

theorem doSilenceReset_of_none (h : (barOf s n).silentAt = none) : doSilenceReset s n = s := by
  simp only [doSilenceReset, h]

/-- 1 ms after its silence a barista begins anew: with a self-test and an image that pass it recovers its carafe and asks for what it lacks (R386). -/
theorem doSilenceReset_of_silence {t k : Nat} {u v w x : State} (ht : (barOf s n).silentAt = some t)
    (hk : k = ((bootedOf u n).map (·.val)).getD 0)
    (hx : x = if slotUsable u n k = true then u else setBooted u n (some (Fin.ofNat 2 (1 - k))))
    (hu : u = bumpFree { setBarOf s n { barOf s n with silentAt := none } with ctrlWin := tdel s.ctrlWin (siteBA n) })
    (hv : v = setSec (setRole (setCarafe x n (recoverCarafe (carafeOf x n))) n .remirroring)
      (fun x => { x with latch := tset (fun _ => false) x.latch n x.meshBroken, sealed_ := tset (fun _ => false) x.sealed_ n (!x.meshBroken) }))
    (hw : w = { v with mirror := { held := (carafeOf v n).lastCommit } }) :
    doSilenceReset s n = if roleOf s n ≠ .silent ∨ s.ticks < t + 1000000 then s
      else if Config.freeBool s.freeCtr 0xE40 = false ∨ (slotUsable u n k = false ∧ slotUsable u n (1 - k) = false) then setRole u n .dead
      else slotItem w n 3 (ackBytes w n) := by
  subst hw hv hx hk hu
  simp only [doSilenceReset, ht, Bool.not_eq_true']

end Reset

section Remirror
variable {s : State} {n : Nat}

theorem doRemirrorDone_of_other (h : roleOf s n ≠ .remirroring ∨ collectorUp s = false ∨ n = s.active.val) : doRemirrorDone s n = s :=
  if_pos (by simpa only [Bool.not_eq_true'] using h)

variable (hr : roleOf s n = .remirroring) (hc : collectorUp s = true) (hn : n ≠ s.active.val)
include hr hc hn

theorem doRemirrorDone_of_behind (h : (carafeOf s n).lastCommit ≠ (carafeOf s s.active.val).lastCommit ∨
      logHigh (carafeOf s n) ≠ logHigh (carafeOf s s.active.val)) : doRemirrorDone s n = slotItem s n 3 (ackBytes s n) :=
  (if_neg (by simp [hr, hc, hn])).trans (if_pos h)

omit hr hc hn in
/-- A staged image changes the carafe it is copied to, and nothing else. -/
theorem copyStaged_eq (s : State) (n : Nat) : ∃ c0 c1, copyStaged s n = { s with carafe0 := c0, carafe1 := c1 } := by
  unfold copyStaged setFwImage
  dsimp only
  split
  · exact ⟨_, _, setCarafe_eq _ _ _⟩
  · exact ⟨s.carafe0, s.carafe1, rfl⟩

/-- A barista that holds the active's last commit and log entry is standby, with what the active has pending (R386, R394). -/
theorem doRemirrorDone_of_level (hl : (carafeOf s n).lastCommit = (carafeOf s s.active.val).lastCommit)
    (hg : logHigh (carafeOf s n) = logHigh (carafeOf s s.active.val)) :
    roleOf (doRemirrorDone s n) n = .standby ∧ (doRemirrorDone s n).mirror.pending = s.journal.pending ∧
      (doRemirrorDone s n).mirror.held = s.journal.next - 1 ∧ (doRemirrorDone s n).mirror.cupK = s.faults.cup.k ∧
      (doRemirrorDone s n).journal.acked = s.journal.next - 1 ∧ (barOf (doRemirrorDone s n) n).beatAt = s.ticks := by
  obtain ⟨c0, c1, hs⟩ := copyStaged_eq s n
  unfold doRemirrorDone
  rw [if_neg (by simp [hr, hc, hn])]
  dsimp only
  rw [if_neg (by simp [hl, hg]), hs]
  have hrole (u : State) (f : Journal → Journal) : roleOf (setJournal u f) n = roleOf u n := rfl
  have hbar (u : State) (f : Journal → Journal) : barOf (setJournal u f) n = barOf u n := rfl
  refine ⟨by rw [hrole, roleOf_setRole_same], ?_, ?_, ?_, ?_, by rw [hbar, barOf_setRole, barOf_setBarOf_ne _ _ _ hn, barOf_setBarOf_same]⟩
  all_goals
    unfold setRole
    split <;> rfl

end Remirror

section Fail
variable {s : State}

theorem doPowerFail_of_none (h : s.pow.failed = true ∨ powerFailing s = false) : doPowerFail s = s :=
  if_pos (by simpa only [Bool.not_eq_true'] using h)

/-- Power-fail leaves the module dark: the baristas silent, ALERT_N held, no job (R330, R399). -/
theorem doPowerFail_of_failing (hf : s.pow.failed = false) (hp : powerFailing s = true) :
    (doPowerFail s).role0 = .silent ∧ (doPowerFail s).role1 = .silent ∧ (doPowerFail s).faults.alert = .held ∧
      (doPowerFail s).faults.alertByPower = true ∧ (doPowerFail s).job = none ∧ (doPowerFail s).sent = [] ∧
      dval (doPowerFail s) Obj.moduleState = 0 := by
  have hno : ¬(s.pow.failed = true ∨ (!powerFailing s) = true) := by simp [hf, hp]
  unfold doPowerFail
  dsimp only
  rw [if_neg hno]
  exact ⟨rfl, rfl, rfl, rfl, rfl, rfl, dval_dset _ _ _⟩

end Fail

/-- Settles O45: a silence by the barista's role, a test and a count by whether they are due, a reset by the time since the silence, a
re-mirroring by what the barista holds, and power-fail by whether the readings for it stand. -/
theorem baristaChecks : Obligations.BaristaChecks := by
  refine ⟨fun s n c => ⟨silence_of_dead, silence_of_silent, silence_spec⟩, fun n s => ⟨rfl, rfl⟩, fun n s => ⟨fun h f => ?_, ?_⟩, fun c block => rfl, ?_,
    fun n s => ⟨fun h => ?_, fun t u v w k x ht hk hx hu hv hw => congrArg Host.Outcome.next (doSilenceReset_of_silence ht hk hx hu hv hw)⟩,
    fun n s => ⟨fun h => ?_, fun hr hc hn => ?_⟩, fun s => ⟨fun h => congrArg Host.Outcome.next (doPowerFail_of_none h),
      fun hf hp => ⟨_, rfl, doPowerFail_of_failing hf hp⟩⟩⟩
  · exact congrArg Host.Outcome.next (doKnownAnswer_of_cut h f)
  · refine fun u h hu => ⟨congrArg Host.Outcome.next (doKnownAnswer_of_sramDouble h), fun o => ⟨fun ho => ?_, fun c ho => ?_⟩,
      congrArg Host.Outcome.next (doKnownAnswer_of_right h hu), congrArg Host.Outcome.next (doKnownAnswer_of_wrong h hu)⟩
    · exact congrArg Host.Outcome.next ((doKnownAnswer_of_badUnit h o).trans (replaceUnit_of_none ho))
    · exact congrArg Host.Outcome.next ((doKnownAnswer_of_badUnit h o).trans (replaceUnit_of_spare ho))
  · rintro n c s _ rfl
    exact congrArg Host.Outcome.next (doOscillator_eq s n.val c.toNat)
  · exact congrArg Host.Outcome.next (doSilenceReset_of_none h)
  · exact congrArg Host.Outcome.next (doRemirrorDone_of_other (by simpa only [Fin.ext_iff] using h))
  · have hn' : n.val ≠ s.active.val := fun e => hn (Fin.ext e)
    exact ⟨fun h => congrArg Host.Outcome.next (doRemirrorDone_of_behind hr hc hn' h),
      fun hl hg => ⟨_, rfl, doRemirrorDone_of_level hr hc hn' hl hg⟩⟩

end Sys2Proof.Machine
end

section
/-! The power input, the stages and shedding (R317 to R330). -/
namespace Sys2Proof.Machine

/-- A table written once at each key of a list reads there what was written. -/
theorem tget_foldl_tset {α : Type} [DecidableEq α] (d f : Nat → α) (ns : List Nat) (t : Tbl α) (k : Nat) :
    tget d (ns.foldl (fun t n => tset d t n (f n)) t) k = if k ∈ ns then f k else tget d t k := by
  induction ns generalizing t with
  | nil => rfl
  | cons n ns ih =>
    rw [List.foldl_cons, ih, tget_tset]
    by_cases hk : k = n
    · subst hk
      simp
    · simp [hk]

section Reading

/-- One level that four low readings call for is crossed (R326). -/
def crossLevel (n : Nat) (s : State) : State :=
  if tget (fun _ => 0) s.pow.below n ≥ 4 ∧ s.pow.inputLevel < n then bump (setPow s (fun w => { w with inputLevel := n })) Obj.shedEvents else s

theorem crossLevel_startup (n : Nat) (s : State) : (crossLevel n s).startup = s.startup := by
  unfold crossLevel
  split <;> rfl

theorem crossings_eq (s : State) : crossings s = [1, 2, 3, 4].foldl (fun u n => crossLevel n u) s := rfl

theorem crossings_startup (s : State) : (crossings s).startup = s.startup := by
  simp only [crossings_eq, List.foldl, crossLevel_startup]

theorem crossLevel_ticks (n : Nat) (s : State) : (crossLevel n s).ticks = s.ticks := by
  unfold crossLevel
  split <;> rfl

theorem crossings_ticks (s : State) : (crossings s).ticks = s.ticks := by
  simp only [crossings_eq, List.foldl, crossLevel_ticks]

/-- What a reading of the bus leaves in the supply (R319). -/
def busRead (s : State) (bus : Nat) (w : Supply) : Supply :=
  { w with readAt := some s.ticks, bus := bus, busLow := since s w.busLow (decide (bus < 5400)) }

/-- What a reading of `v` by the stages leaves in it (R319, R326). -/
def stagesRead (s : State) (v : Nat) (w : Supply) : Supply :=
  { w with
    input := v, inputMin := some (min (w.inputMin.getD v) v)
    below := [1, 2, 3, 4, 5].foldl (fun t n => tset (fun _ => 0) t n (if v < fallsBelow n then tget (fun _ => 0) w.below n + 1 else 0)) []
    above := [1, 2, 3, 4].foldl (fun t n => match since s (tfind w.above n) (decide (v ≥ risesTo n)) with | some a => tput t n a | none => t) []
    overAt := since s w.overAt (decide (v > 6400)), under := since s w.under (decide (v ≤ 6200))
    good := since s w.good (decide (v ≥ 4500)) }

/-- The supply after a reading of `v` and of the bus. -/
def readSupply (s : State) (v bus : Nat) : Supply := stagesRead s v (busRead s bus s.pow)

theorem readSupply_below (s : State) (v bus : Nat) {n : Nat} (h : n ∈ [1, 2, 3, 4, 5]) :
    tget (fun _ => 0) (readSupply s v bus).below n = if v < fallsBelow n then tget (fun _ => 0) s.pow.below n + 1 else 0 :=
  (tget_foldl_tset _ _ _ _ _).trans (if_pos h)

section Alert
variable {s : State}

theorem alertRelease_of_supply (h : s.pow.failed = false) : alertRelease s = s := if_neg (by rw [h]; exact Bool.false_ne_true)

/-- The release of ALERT_N looks at the supply only for whether power has failed. -/
theorem alertRelease_setPow (s : State) {f : Supply → Supply} (h : (f s.pow).failed = s.pow.failed) :
    alertRelease (setPow s f) = setPow (alertRelease s) f := by
  have h' : (setPow s f).pow.failed = s.pow.failed := h
  unfold alertRelease
  rw [h']
  split <;> rfl

theorem stagesRead_alertRelease (s : State) (v : Nat) : stagesRead (alertRelease s) v = stagesRead s v := by
  unfold alertRelease
  split <;> rfl

end Alert

/-- A reading crosses the levels it calls for; after a power-fail it crosses none, and one of no input releases ALERT_N (R330). -/
def readingTaken (s : State) (v bus : Nat) : State :=
  if s.pow.failed = true then (if v = 0 then alertRelease { s with pow := readSupply s v bus } else { s with pow := readSupply s v bus })
  else crossings { s with pow := readSupply s v bus }

variable {s : State} {rs : List Nat} {bus : Nat}

theorem readingTaken_startup (v : Nat) : (readingTaken s v bus).startup = s.startup := by
  unfold readingTaken alertRelease
  split
  · split
    · split <;> rfl
    · rfl
  · exact crossings_startup _

theorem readingTaken_ticks (v : Nat) : (readingTaken s v bus).ticks = s.ticks := by
  unfold readingTaken alertRelease
  split
  · split
    · split <;> rfl
    · rfl
  · exact crossings_ticks _

theorem doInputReading_of_early (h : readingDue s = false) : doInputReading s rs bus = s := if_pos (by rw [h]; rfl)

/-- Below 45 V a start-up under way begins again at step 1 (R439). -/
def restarted (c : State) (v : Nat) : State :=
  if c.startup.step ≠ 0 ∧ v < 4500 then { c with startup := { c.startup with step := 1, began := c.ticks, stepAt := c.ticks, finished := [] } } else c

theorem restarted_readingTaken (v : Nat) : restarted (readingTaken s v bus) v =
    if s.startup.step ≠ 0 ∧ v < 4500 then
      { readingTaken s v bus with startup := { s.startup with step := 1, began := s.ticks, stepAt := s.ticks, finished := [] } }
    else readingTaken s v bus := by
  unfold restarted
  dsimp only
  rw [readingTaken_startup, readingTaken_ticks]

/-- What a reading takes, in the model's order: the bus, ALERT_N with the input, the stages. -/
def readingFed (s : State) (v bus : Nat) : State :=
  let s := setPow s (busRead s bus)
  let s := if v = 0 then alertRelease s else s
  setPow s (stagesRead s v)

theorem readingFed_eq (s : State) (v bus : Nat) : readingFed s v bus =
    if v = 0 then alertRelease { s with pow := readSupply s v bus } else { s with pow := readSupply s v bus } := by
  unfold readingFed
  split
  · dsimp only
    rw [stagesRead_alertRelease, ← alertRelease_setPow _ rfl]
    rfl
  · rfl

theorem readingTaken_eq (s : State) (v bus : Nat) :
    readingTaken s v bus = if s.pow.failed = true then readingFed s v bus else crossings (readingFed s v bus) := by
  unfold readingTaken
  rw [readingFed_eq]
  split
  · rfl
  · rename_i hf
    rw [alertRelease_of_supply (s := { s with pow := readSupply s v bus }) (Bool.eq_false_of_not_eq_true hf), ite_self]

variable {vs : List Nat} (h : readingDue s = true) (hvs : vs = (stagesInService s).filterMap (fun n => rs[n]?))
include h hvs

theorem doInputReading_of_due : doInputReading s rs bus =
    if vs.isEmpty then (if bus = 0 then alertRelease (setPow s (busRead s bus)) else setPow s (busRead s bus))
    else restarted (if s.pow.failed = true then readingFed s (median vs) bus else crossings (readingFed s (median vs) bus)) (median vs) := by
  subst hvs
  exact if_neg (by simp [h])

theorem doInputReading_of_no_stage {w : Supply} (hw : w = busRead s bus s.pow) (he : vs = []) :
    doInputReading s rs bus = if bus = 0 then alertRelease { s with pow := w } else { s with pow := w } := by
  rw [doInputReading_of_due h hvs, he, hw]
  rfl

theorem doInputReading_of_stages {v : Nat} (he : vs ≠ []) (hv : v = median vs) :
    doInputReading s rs bus = restarted (readingTaken s v bus) v := by
  rw [doInputReading_of_due h hvs, if_neg (by simpa using he), ← hv, readingTaken_eq]

end Reading

section Disconnect
variable {s : State} {t : Nat}

theorem doInputDisconnect_of_none (h : s.pow.overAt = none) : doInputDisconnect s = s := by simp only [doInputDisconnect, h]

theorem doInputDisconnect_of_over (h : s.pow.overAt = some t) : doInputDisconnect s = if s.pow.disconnected = false ∧ t + 1000 ≤ s.ticks
    then supplyMsg (bump (setPow s (fun w => { w with disconnected := true })) Obj.inputOverEvents) (s.pow.level + 16) else s := by
  simp only [doInputDisconnect, h]
  rw [← ite_not]
  exact if_congr (by simp only [not_or, Bool.not_eq_true, Nat.not_lt]) rfl rfl

theorem doInputReconnect_of_none (h : s.pow.under = none) : doInputReconnect s = s := by simp only [doInputReconnect, h]

theorem doInputReconnect_of_under (h : s.pow.under = some t) : doInputReconnect s =
    if s.pow.disconnected = true ∧ t + 10000 ≤ s.ticks then setPow s (fun w => { w with disconnected := false }) else s := by
  simp only [doInputReconnect, h, ge_iff_le]

variable {u : State} (hu : u = supplyMsg (setPow s (fun w => { w with noticeAt := some s.ticks })) (s.pow.level + 8))
include hu

theorem doOvervoltage_of_first (h : s.pow.noticeAt = none) : doOvervoltage s = if 5800 < s.pow.input ∧ s.pow.input ≤ 6400 then u else s := by
  subst hu
  simp only [doOvervoltage, h, and_true]

theorem doOvervoltage_of_notice (h : s.pow.noticeAt = some t) : doOvervoltage s =
    if 5800 < s.pow.input ∧ s.pow.input ≤ 6400 ∧ t + 1000000000 ≤ s.ticks then u else s := by
  subst hu
  simp only [doOvervoltage, h, ge_iff_le, decide_eq_true_eq]

end Disconnect

section Stages
variable {s : State} {n : Nat}

theorem doStageFail_of_out (h : stageOut s n = true) : doStageFail s n = s := if_pos h

theorem doStageFail_of_service (h : stageOut s n = false) : doStageFail s n =
    raise (bump (setPow s (fun w => { w with stagesFailed := w.stagesFailed ++ [n] })) Obj.stageFaults) (sitePS n) 0x08 0x41 4 false n :=
  if_neg (by rw [h]; exact Bool.false_ne_true)

end Stages

section Shedding
variable {s : State}

theorem doShedFalling_eq (s : State) : doShedFalling s = if operating s = true ∧ s.pow.level < 4 ∧ s.pow.level < wantedLevel s
    then supplyMsg (shedActions (setPow s (fun w => { w with level := s.pow.level + 1 })) (s.pow.level + 1)) (s.pow.level + 1) else s := by
  unfold doShedFalling
  rw [← ite_not]
  exact if_congr (by simp only [not_or, Bool.not_eq_true', Bool.not_eq_false, ge_iff_le, Nat.not_le]) rfl rfl

/-- The level the input calls for falls by one after 1 ms above its rising threshold (R326). -/
def levelRisen (s : State) : State :=
  if 0 < s.pow.inputLevel ∧ (tfind s.pow.above s.pow.inputLevel).any (fun t => decide (t + 1000000 ≤ s.ticks)) = true
  then setPow s (fun w => { w with inputLevel := w.inputLevel - 1 }) else s

/-- The deepest level that nothing calls for any more is undone (R321, R326). -/
theorem doShedRising_eq {s s1 : State} (h1 : s1 = levelRisen s) :
    doShedRising s = if operating s1 = true ∧ wantedLevel s1 < s1.pow.level
      then shedUndo (setPow s1 (fun w => { w with level := s1.pow.level - 1 })) s1.pow.level else s1 := by
  unfold doShedRising
  extract_lets up risen
  have hr : risen = s1 := by
    rw [h1]
    unfold risen up levelRisen
    cases tfind s.pow.above s.pow.inputLevel with
    | none => rfl
    | some t => exact if_congr (and_congr Iff.rfl (by rw [Option.any_some])) rfl rfl
  clear_value risen
  subst hr
  rw [← ite_not]
  refine if_congr ?_ rfl rfl
  cases operating risen <;> simp
  omega

end Shedding

/-- Settles O39: a reading by whether one is due and a stage is in service, each threshold by the time its condition has held, and shedding by
the level the input and the stages call for. -/
theorem powerInput : Obligations.PowerInput := by
  refine ⟨fun rs bus s => ⟨fun h => congrArg Host.Outcome.next (doInputReading_of_early h), fun vs w h hvs hw => ⟨fun he => ?_, fun v he hv => ?_⟩⟩,
    fun s => ⟨fun h => ?_, fun h => ?_, fun t h => ?_, fun t h => ?_⟩, fun s u hu => ⟨fun h => ?_, fun t h => ?_⟩, fun n s => ⟨fun h => ?_, fun h => ?_⟩,
    fun w s => ⟨rfl, rfl⟩, fun s => congrArg Host.Outcome.next (doShedFalling_eq s), fun s s1 h1 => congrArg Host.Outcome.next (doShedRising_eq h1)⟩
  · exact congrArg Host.Outcome.next (doInputReading_of_no_stage h hvs hw he)
  · refine ⟨readSupply s v bus.toNat, readingTaken s v bus.toNat, rfl, rfl, rfl, rfl, rfl, rfl, rfl, fun n hn => readSupply_below s v _ hn, rfl, ?_⟩
    exact congrArg Host.Outcome.next ((doInputReading_of_stages h hvs he hv).trans (restarted_readingTaken v))
  · exact congrArg Host.Outcome.next (doInputDisconnect_of_none h)
  · exact congrArg Host.Outcome.next (doInputReconnect_of_none h)
  · exact congrArg Host.Outcome.next (doInputDisconnect_of_over h)
  · exact congrArg Host.Outcome.next (doInputReconnect_of_under h)
  · exact congrArg Host.Outcome.next (doOvervoltage_of_first hu h)
  · exact congrArg Host.Outcome.next (doOvervoltage_of_notice hu h)
  · exact congrArg Host.Outcome.next (doStageFail_of_out h)
  · exact congrArg Host.Outcome.next (doStageFail_of_service h)

end Sys2Proof.Machine
end

section
/-! Switched domains, the dies' sensors and pauses, and the coolant (R322 to R324, R335 to R345). -/
namespace Sys2Proof.Machine

section Domains
variable {s u : State} {d e : Nat} {f : DomFrom}

/-- In start-up step 5 a domain waits for those whose place comes first (R439). -/
theorem domReady_of_earlier_rising (h5 : s.startup.step = 5) (he : e < 82) (hc : riseClass e < riseClass d) (hf : domAt s e = .turningOn f) :
    domReady s d = false := by
  have hturn : inTurn s d = false := by
    rw [inTurn, h5, bne_self_eq_false, Bool.false_or, List.all_eq_false]
    exact ⟨e, List.mem_range.mpr he, by simp [hf, hc]⟩
  exact if_pos (by rw [hturn]; rfl)

theorem doDomainOn_of_other (h : ∀ f, domAt s d ≠ .turningOn f) : doDomainOn s d = s := by
  cases hd : domAt s d with
  | turningOn f => exact absurd hd (h f)
  | _ => simp only [doDomainOn, hd]

/-- A comb leaves the state shedding parked it in: to full drive if it serves a tile, else to idle drive (R161, R329). -/
def combRisen (s : State) (c : Nat) : State :=
  let v := combAt s c
  let w := setComb s c { v with state := v.parked.getD v.state, parked := none }
  if v.parked = none then w else if v.serves ≠ none then fullDrive w c else setComb w c { combAt w c with drive := some (Config.combFactory c 3) }

variable (hf : domAt s d = .turningOn f)
include hf

theorem doDomainOn_of_waiting (h : domReady s d = false) : doDomainOn s d = s := by
  simp only [doDomainOn, hf, h, Bool.not_false, if_true]

/-- What starts with a domain follows from its number (R322, R329). -/
theorem doDomainOn_of_ready (h : domReady s d = true) (hu : u = setDom s d .on) : doDomainOn s d =
    if d < 16 then setDie u d { dieAt u d with clockFrom := u.ticks }
    else if d < 32 then (if f = .off then wakeDeep u (d - 16) else u)
    else if d < 56 then updStack u (d - 32) (fun st => { st with selfRefresh := false, closing := false, off := st.off && decide (dval u Obj.moduleState = 0) })
    else if d < 72 then bankRings u d 1
    else if d < 80 then overNats [2 * (d - 72), 2 * (d - 72) + 1] (fun l x => if linkMay x l = true ∧ dval x Obj.moduleState = 1 then startTraining x l else x) u
    else if d < 82 then hostBack u
    else combRisen u (d - 82) := by
  subst hu
  simp only [doDomainOn, hf, h, Bool.not_true, Bool.false_eq_true, if_false, combRisen, Option.isNone_iff_eq_none, Option.isSome_iff_ne_none]

end Domains

section DomainFault
variable {s : State} {d : Nat}

theorem doDomainFault_of_faulted (h : domAt s d = .faulted) : doDomainFault s d = s := if_pos h

theorem doDomainFault_of_sound (h : domAt s d ≠ .faulted) :
    doDomainFault s d = raise (domLost s d .faulted) (siteTile (domSite d)) 0x08 0x40 5 false d := if_neg h

end DomainFault

section Sample

/-- The sites of cache dies (R15). -/
theorem siteKind_kd_iff (x : Nat) : (∃ n, siteKind x = some (.kd, n)) ↔ 24 ≤ x ∧ x < 40 := by
  unfold siteKind
  constructor
  · rintro ⟨n, h⟩
    revert h
    repeat' split
    all_goals rintro ⟨⟩
    omega
  · rintro ⟨hl, hu⟩
    exact ⟨x - 24, by rw [if_neg (by omega), if_neg (by omega), if_pos hu]⟩

/-- What a sample leaves of a die's history, and the checks of Table 1 that its value brings (R335, R336). -/
def sampleStored (s : State) (site : Nat) (y : Therm) (est val : Option Int) : State :=
  match val with
  | none => setTherm s site { y with
      value := if y.sensor = 0 ∨ y.sensor = 4 then y.value else none, estimate := est, warnN := 0, actN := 0, tripN := 0
      hist := (y.hist.headD 0 :: y.hist).take (if y.hist.isEmpty = true then 0 else 20) }
  | some z =>
    let r := (y.hist[19]?).map (fun old => (z - old) * 10)
    let u := setTherm s site { y with value := some z, estimate := est, rate := r, high := some (max (y.high.getD z) z), hist := (z :: y.hist).take 20 }
    if y.sensor = 4 then u else checkSample (thermalCycle u site z) site z r

variable {s : State} {site power : Nat} {v est val : Option Int} {pc : Int} {kd : Bool} {t y : Therm}

theorem doSample_eq (hkd : kd = decide (24 ≤ site ∧ site < 40)) (ht : t = thermAt s site)
    (hy : y = watchPower s site { t with
      reading := if sampleOk v = true then v else t.reading, bad := if sampleOk v = true then 0 else t.bad + 1
      still := if (sampleOk v && v == t.reading && dieOn s site) = true then t.still else if sampleOk v = true then some s.ticks else none
      pk := if kd = true then filtered (site - 24) t.pk power else t.pk
      pc := if kd = true then filtered (site - 24) t.pc pc else t.pc, sampledAt := some s.ticks } power)
    (hest : est = if kd = true then some (kdEstimate (setTherm s site y) (site - 24) y.pk y.pc) else none)
    (hval : val = dieValue site y (if sampleOk v = true then v else none) est) :
    doSample s site v power pc = sampleStored (setTherm s site y) site y est val := by
  unfold doSample
  extract_lets t0 ok n isKd
  have hk : isKd = kd := by
    rw [hkd, Bool.eq_iff_iff, decide_eq_true_eq, ← siteKind_kd_iff]
    unfold isKd
    split
    next n h => simp [h]
    next h => simpa using h
  clear_value isKd
  subst hk hval hest hy ht
  rfl

end Sample

section Reviews
variable {s : State} {site r : Nat} {t : Therm} (ht : t = thermAt s site)
include ht

theorem doThermalReview_of_none (h : t.reviewFrom = none) : doThermalReview s site = s := by
  subst ht
  simp only [doThermalReview, h]

theorem doThermalRelease_of_none (h : t.reviewFrom = none) : doThermalRelease s site = s := by
  subst ht
  simp only [doThermalRelease, h]

variable (h : t.reviewFrom = some r)
include h

theorem doThermalReview_of_review {u : State} (hu : u = setTherm s site { t with reviews := t.reviews + 1 }) :
    doThermalReview s site = if s.ticks < r + (t.reviews + 1) * 1000000 then s
      else if (t.act = true ∨ t.limit = true) ∧ t.p < 15 then addPause u site 1 3 (r + (t.reviews + 1) * 1000000) else u := by
  subst ht hu
  simp only [doThermalReview, h, Bool.and_eq_true, Bool.or_eq_true, decide_eq_true_eq]

/-- A die that is cool, and does not warm, falls by a step to no less than what is held for it (R338). -/
theorem doThermalRelease_of_review {t' : Therm} {u : State} {q : Nat} (ht' : t' = { t with releases := t.releases + 1 }) (hu : u = setTherm s site t')
    (hq : q = max (t.p - 1) (pauseFloor u site t')) :
    doThermalRelease s site = if s.ticks < r + (t.releases + 1) * 10000000 then s
      else if t.act = false ∧ t.limit = false ∧ (∀ x ∈ t.rate, x < (dval u Obj.thermWarnRate : Int)) ∧
        t.value.any (fun v => decide (v < 970)) = true ∧ q ≠ t.p then thermEvent (setTherm u site (setPause u t' q)) site 3 q
      else u := by
  subst ht hq hu ht'
  simp only [doThermalRelease, h, Bool.and_eq_true, Bool.not_eq_true', decide_eq_true_eq, and_assoc]
  refine if_congr Iff.rfl rfl (if_congr ?_ rfl rfl)
  refine and_congr Iff.rfl (and_congr Iff.rfl (and_congr ?_ (and_congr ?_ Iff.rfl)))
  · cases (thermAt s site).rate <;> simp
  · cases (thermAt s site).value <;> simp

end Reviews

section Dram
variable {s : State} {m : Nat}

theorem doDramTemp_cons {a hot : Int} {as : List Int} {u : State} (hh : hot = as.foldl max a)
    (hu : u = (let u := updStack s m (fun st => { st with
        window16 := decide (hot > 850)
        temps := (List.range (as.length + 1)).foldl (fun t i => tset (fun _ => 0) t i (BitVec.ofInt 16 ((a :: as).getD i 0))) st.temps })
      setTherm u (siteMD m) { thermAt u (siteMD m) with dram := some hot, dramAt := some s.ticks })) :
    doDramTemp s m (a :: as) = if hot ≥ 1050 then doTrip u (siteMD m) else u := by
  subst hu hh
  rfl

end Dram

section Sensors
variable {s : State} {site : Nat} {how : Nat} {t : Therm} (ht : t = thermAt s site)
include ht

theorem doSensorBroken_of_tripped (h : t.sensor = 4) : doSensorBroken s site how = s := if_pos (ht ▸ h)

section Broken
variable (h4 : t.sensor ≠ 4) (h0 : t.sensor ≠ 0)
include h4 h0

theorem doSensorBroken_of_said (h : t.minuteAt = none) : doSensorBroken s site how = s := by
  subst ht
  simp only [doSensorBroken, if_neg h4, if_pos h0, h]

/-- Of a broken die without pauses the message comes again each minute (R342). -/
theorem doSensorBroken_of_minute {m : Nat} (h : t.minuteAt = some m) : doSensorBroken s site how =
    if pauses site = false ∧ m + 60000000000 ≤ s.ticks then thermEvent (setTherm s site { t with minuteAt := some s.ticks }) site 5 0 else s := by
  subst ht
  simp only [doSensorBroken, if_neg h4, if_pos h0, h, Bool.not_eq_true', ge_iff_le]

end Broken

variable (h : t.sensor = 0)
include h

/-- A sensor in order is found broken when what is watched for has come about (R342). -/
theorem doSensorBroken_of_sound {met : Bool} (hm : met = match how with
      | 0 => decide (t.bad ≥ 3)
      | 1 => dieOn s site && (match t.still with | some a => decide (s.ticks ≥ a + 10000000000) | none => false)
      | _ => t.steps.any (fun x => decide (s.ticks ≥ x.1 + 10000000000))) :
    doSensorBroken s site how = if met = true then breakSensor s site (how + 1) else s := by
  subst ht hm
  exact (if_neg (by rw [h]; decide)).trans (if_neg (not_not_intro h))

theorem doSensorBroken_of_range : doSensorBroken s site 0 = if 3 ≤ t.bad then breakSensor s site 1 else s :=
  (doSensorBroken_of_sound ht h rfl).trans (if_congr decide_eq_true_iff rfl rfl)

theorem doSensorBroken_of_unread (hs : t.still = none) : doSensorBroken s site 1 = s :=
  (doSensorBroken_of_sound ht h rfl).trans (if_neg (by simp [hs]))

theorem doSensorBroken_of_still {a : Nat} (hs : t.still = some a) :
    doSensorBroken s site 1 = if dieOn s site = true ∧ a + 10000000000 ≤ s.ticks then breakSensor s site 2 else s :=
  (doSensorBroken_of_sound ht h rfl).trans (if_congr (by simp [hs]) rfl rfl)

theorem doSensorBroken_of_steps : doSensorBroken s site 2 =
    if t.steps.any (fun x => decide (x.1 + 10000000000 ≤ s.ticks)) = true then breakSensor s site 3 else s :=
  doSensorBroken_of_sound ht h rfl

end Sensors

section Coolant
variable {s : State}

theorem doCoolant_eq {inlet outlet : Int} {flow : Nat} {ok : Option Nat} {u : Coolant} {calm due : Bool}
    (hc : calm = true ↔ ∃ a, ok = some a ∧ a + 10000000000 ≤ s.ticks) (hd : due = true ↔ ∀ a, s.coolant.saidAt = some a → a + 1000000000 ≤ s.ticks)
    (hok : ok = since s s.coolant.okSince (decide (flow ≥ 400)))
    (hu : u = { s.coolant with
      readAt := some s.ticks, inlet := inlet, outlet := outlet, flow := flow, lowSince := since s s.coolant.lowSince (decide (flow < 200))
      okSince := ok, hold := s.coolant.hold && !calm }) :
    doCoolant s inlet outlet flow = if (inlet > 450 ∨ inlet < 150 ∨ flow < 400) ∧ due = true
      then raise { s with coolant := { u with saidAt := some s.ticks } } (siteTile (activeSite { s with coolant := u })) 0x09 0x48 1 false (4 * 128)
      else { s with coolant := u } := by
  unfold doCoolant
  extract_lets c ok' calm' c' s' out due'
  have hcalm : calm' = calm := by
    rw [Bool.eq_iff_iff, hc, hok]
    unfold calm' ok' c
    cases since s s.coolant.okSince (decide (flow ≥ 400)) <;> simp
  have hdue : due' = due := by
    have hsaid : c'.saidAt = s.coolant.saidAt := rfl
    have hticks : s'.ticks = s.ticks := rfl
    rw [Bool.eq_iff_iff, hd]
    unfold due'
    rw [hsaid, hticks]
    cases s.coolant.saidAt <;> simp
  have hout : out = true ↔ inlet > 450 ∨ inlet < 150 ∨ flow < 400 := by
    simp only [out, Bool.or_eq_true, decide_eq_true_eq, or_assoc]
  have hu' : u = c' := by rw [hu, hok, ← hcalm]
  rw [hu']
  exact if_congr (by rw [Bool.and_eq_true, hdue, hout]) rfl rfl

theorem doLowFlow_of_none (h : s.coolant.lowSince = none) : doLowFlow s = s := by simp only [doLowFlow, h]

theorem doLowFlow_of_low {t : Nat} (h : s.coolant.lowSince = some t) :
    doLowFlow s = if s.ticks < t + 1000000000 ∨ s.coolant.hold = true then s else List.foldl (fun u n => if (thermAt u (siteCD n)).p < 8
        then thermEvent (setTherm u (siteCD n) (setPause u (thermAt u (siteCD n)) 8)) (siteCD n) 3 8 else u)
      { s with coolant := { s.coolant with hold := true } } (List.range 16) := by
  simp only [doLowFlow, h]
  rfl

end Coolant

/-- Settles O40: a domain by whether it is on its way, ready and of which kind; a sample by whether it is due and gives a value; reviews, broken
sensors and coolant by the time each condition has held. -/
theorem domainsAndHeat : Obligations.DomainsAndHeat := by
  refine ⟨fun s d e f => domReady_of_earlier_rising, fun d s => ⟨fun h => ?_, fun f hf => ⟨fun h => ?_, fun u h hu => ?_⟩⟩,
    fun d s => ⟨fun h => ?_, fun h => ?_⟩, fun site v power pc s => ⟨fun h => ?_, ?_⟩,
    fun site s t ht => ⟨fun h => ⟨?_, ?_⟩, fun r h => ⟨fun u hu => ?_, fun t' u q ht' hu hq => ?_⟩⟩,
    fun md s => ⟨?_, fun a as => ⟨fun h => ?_, fun hot u h hh hu => ?_⟩⟩,
    fun site how s t ht => ⟨fun h => ?_, fun h4 h0 h => ?_, fun m h4 h0 h => ?_, fun h => ⟨?_, fun hs => ?_, fun a hs => ?_, ?_⟩⟩,
    fun inlet outlet flow s => ⟨fun h => ?_, fun ok u calm due h hc hd hok hu => ?_⟩, fun s => ⟨fun h => ?_, fun t h => ?_⟩⟩
  · exact congrArg Host.Outcome.next (doDomainOn_of_other h)
  · exact congrArg Host.Outcome.next (doDomainOn_of_waiting hf h)
  · have hx : exec (.domainOn d) s = .next _ := congrArg Host.Outcome.next (doDomainOn_of_ready hf h hu)
    have hcomb (c : Nat) (h82 : 82 ≤ d.val) (hc : c = d.val - 82) : exec (.domainOn d) s = .next (combRisen u c) := by
      rw [hx, hc]
      simp (disch := omega) only [if_neg]
    refine ⟨fun h16 => ?_, fun h16 h32 => ?_, fun h32 h56 => ?_, fun h56 h72 => ?_, fun h72 h80 => ?_, fun h80 h82 => ?_,
      fun c v w h82 hc hv hw => (hcomb c h82 hc).trans (by subst hw hv; rfl)⟩
    all_goals
      rw [hx]
      simp (disch := omega) only [if_neg, if_pos]
  · exact congrArg Host.Outcome.next (doDomainFault_of_faulted h)
  · exact congrArg Host.Outcome.next (doDomainFault_of_sound h)
  · exact congrArg Host.Outcome.next (if_neg (by simp [h]))
  · intro x kd t y est val h hx hkd ht hy hest hval
    have hstored : exec (.sensorSample site v power pc) s = .next (sampleStored (setTherm s site.val y) site.val y est val) := by
      subst hx
      exact congrArg Host.Outcome.next ((if_pos h).trans (doSample_eq hkd ht hy hest hval))
    refine ⟨fun hn => ?_, fun z r u hz hr hu => ?_⟩
    · rw [hstored, hn]
      rfl
    · rw [hstored, hz, hu, hr]
      rfl
  · exact congrArg Host.Outcome.next (doThermalReview_of_none ht h)
  · exact congrArg Host.Outcome.next (doThermalRelease_of_none ht h)
  · exact congrArg Host.Outcome.next (doThermalReview_of_review ht h hu)
  · exact congrArg Host.Outcome.next (doThermalRelease_of_review ht h ht' hu hq)
  · exact congrArg Host.Outcome.next (ite_self s)
  · exact congrArg Host.Outcome.next (if_neg (by simp [h]))
  · refine congrArg Host.Outcome.next ((if_pos h).trans (doDramTemp_cons hh ?_))
    rw [hu, List.length_map, List.map_cons]
  · exact congrArg Host.Outcome.next (doSensorBroken_of_tripped ht h)
  · exact congrArg Host.Outcome.next (doSensorBroken_of_said ht h4 h0 h)
  · exact congrArg Host.Outcome.next (doSensorBroken_of_minute ht h4 h0 h)
  · exact congrArg Host.Outcome.next (doSensorBroken_of_range ht h)
  · exact congrArg Host.Outcome.next (doSensorBroken_of_unread ht h hs)
  · exact congrArg Host.Outcome.next (doSensorBroken_of_still ht h hs)
  · exact congrArg Host.Outcome.next (doSensorBroken_of_steps ht h)
  · exact congrArg Host.Outcome.next (if_neg (by simp [h]))
  · exact congrArg Host.Outcome.next ((if_pos h).trans (doCoolant_eq hc hd hok hu))
  · exact congrArg Host.Outcome.next (doLowFlow_of_none h)
  · exact congrArg Host.Outcome.next (doLowFlow_of_low h)

end Sys2Proof.Machine
end

section
/-! The cupping test's pairs and the judge's verdicts (R369, R370). -/
namespace Sys2Proof.Machine

/-! Partners of a period (R369). -/

section Partners
variable (c : Cupping) (k : Nat)

theorem cupPair_of_die {t : Nat} (n : Nat) (ht : t < 64) : cupPair c (64 * n + t) = 64 * (n ^^^ c.m) + t := by
  have hdiv : (64 * n + t) / 64 = n := by omega
  have hmod : (64 * n + t) % 64 = t := by omega
  rw [cupPair, hdiv, hmod]

theorem cupPair_div : cupPair c k / 64 = k / 64 ^^^ c.m := by
  unfold cupPair
  omega

theorem cupPair_mod : cupPair c k % 64 = k % 64 := by
  unfold cupPair
  omega

/-- Partners are each other's, since the die's number is taken xor the same M twice. -/
@[simp] theorem cupPair_cupPair : cupPair c (cupPair c k) = k := by
  rw [cupPair, cupPair_div, cupPair_mod, Nat.xor_xor_cancel_right, Nat.div_add_mod]

theorem cupPair_div_lt (hk : k / 64 < 16) (hm : c.m < 16) : cupPair c k / 64 < 16 := by
  rw [cupPair_div]
  exact Nat.xor_lt_two_pow (n := 4) hk hm

theorem cupPair_div_ne (hm : 1 ≤ c.m) : cupPair c k / 64 ≠ k / 64 := by
  rw [cupPair_div]
  intro h
  have hz : c.m = 0 := by rw [← Nat.xor_xor_cancel_left (x := k / 64) (y := c.m), h, Nat.xor_self]
  omega

end Partners

/-- Among 15 periods in a row each M of 1 to 15 comes once (R366). -/
theorem exists_period_of_m {m : Nat} (hm : 1 ≤ m) (hm' : m ≤ 15) (k0 : Nat) : ∃ k, k0 ≤ k ∧ k < k0 + 15 ∧ 1 + k % 15 = m :=
  ⟨k0 + (m + 14 - k0 % 15) % 15, by omega, by omega, by omega⟩

/-- Two dies meet in the period whose M is the xor of their numbers. -/
theorem cupPair_of_xor {c : Cupping} {n n' t : Nat} (ht : t < 64) (hm : c.m = n ^^^ n') : cupPair c (64 * n + t) = 64 * n' + t := by
  rw [cupPair_of_die c n ht, hm, Nat.xor_xor_cancel_left]

/-- Settles O57: a partner's die is the tile's own xor M, which is not its own as M is not 0; two dies meet in the period of their xor. -/
theorem cupPartners : Obligations.CupPartners := by
  refine ⟨fun c n t hn ht hm hm' => ⟨cupPair_of_die c n ht, cupPair_mod c _, ?_, cupPair_div_ne c _ hm, cupPair_cupPair c _⟩,
    fun k0 n n' t hn hn' hne ht => ?_⟩
  · exact Nat.xor_lt_two_pow (n := 4) hn (by omega)
  · have hpos : n ^^^ n' ≠ 0 := Nat.xor_ne_zero_iff.mpr hne
    have hlt : n ^^^ n' < 16 := Nat.xor_lt_two_pow (n := 4) hn hn'
    obtain ⟨k, hk, hk', hm⟩ := exists_period_of_m (m := n ^^^ n') (by omega) (by omega) k0
    exact ⟨k, hk, hk', fun c hc => cupPair_of_xor ht (hc.trans hm)⟩

/-! Verdicts (R370). -/

section Verdicts
variable {c : Cupping} {k : Nat}

theorem pairAgrees_iff : pairAgrees c k = true ↔ ∃ x, tfind c.sums k = some x ∧ tfind c.sums (cupPair c k) = some x := by
  unfold pairAgrees
  cases tfind c.sums k with
  | none => simp
  | some a =>
    cases tfind c.sums (cupPair c k) with
    | none => simp
    | some b => simp [eq_comm (a := a)]

theorem pairAgrees_cupPair : pairAgrees c (cupPair c k) = pairAgrees c k := by
  rw [Bool.eq_iff_iff, pairAgrees_iff, pairAgrees_iff, cupPair_cupPair]
  exact exists_congr fun x => and_comm

theorem verdictOf_of_unreported (h : dieReported c (k / 64) = false) : verdictOf c k = .unjudged := if_pos (by simp [h])

variable (hr : dieReported c (k / 64) = true)
include hr

theorem verdictOf_of_agreeing (h : pairAgrees c k = true) : verdictOf c k = .passes := (if_neg (by simp [hr])).trans (if_pos h)

theorem verdictOf_of_unfinished (h : tfind c.sums k = none) : verdictOf c k = .hung := by
  have ha : pairAgrees c k ≠ true := by simp [pairAgrees_iff, h]
  rw [verdictOf, if_neg (by simp [hr]), if_neg ha, h]

omit hr in
/-- A loser disagrees with its partner and with the first tile of a third die that agrees with its own (R370). -/
theorem exists_winner_of_loses (h : verdictOf c k = .loses) :
    pairAgrees c k = false ∧ ∃ x n, tfind c.sums k = some x ∧
      (List.range 16).find? (fun n => n != k / 64 && n != cupPair c k / 64 && pairAgrees c (64 * n + k % 64)) = some n ∧
      tfind c.sums (64 * n + k % 64) ≠ some x := by
  unfold verdictOf at h
  split at h
  · cases h
  split at h
  · cases h
  rename_i _ ha
  refine ⟨Bool.eq_false_of_not_eq_true ha, ?_⟩
  split at h
  · cases h
  rename_i x hx
  split at h
  · cases h
  rename_i n hn
  split at h
  · cases h
  rename_i hne
  exact ⟨x, n, hx, hn, hne⟩

omit hr in
/-- A loser finished with another sum than its partner and than a third tile, which agrees with its own partner (R370). -/
theorem exists_agreeing_third_of_loses (h : verdictOf c k = .loses) : ∃ x y n, n < 16 ∧ n ≠ k / 64 ∧ n ≠ cupPair c k / 64 ∧
    tfind c.sums k = some x ∧ tfind c.sums (cupPair c k) ≠ some x ∧ pairAgrees c (64 * n + k % 64) = true ∧
    tfind c.sums (64 * n + k % 64) = some y ∧ x ≠ y := by
  obtain ⟨ha, x, n, hx, hn, hne⟩ := exists_winner_of_loses h
  have hn16 : n < 16 := List.mem_range.mp (List.mem_of_find?_eq_some hn)
  have hthird := List.find?_some hn
  simp only [Bool.and_eq_true, bne_iff_ne, ne_eq] at hthird
  obtain ⟨⟨hown, hpartner⟩, hagrees⟩ := hthird
  obtain ⟨y, hy, _⟩ := pairAgrees_iff.mp hagrees
  refine ⟨x, y, n, hn16, hown, hpartner, hx, fun hp => ?_, hagrees, hy, fun e => hne (e ▸ hy)⟩
  exact absurd (pairAgrees_iff.mpr ⟨x, hx, hp⟩) (by simp [ha])

end Verdicts

/-- Settles O43: pairs by the xor of their dies' numbers, a verdict by whether the die reported and the pair agrees, and a loser by the third tile
the judge found. -/
theorem cupVerdicts : Obligations.CupVerdicts := by
  intro c k hk hm hm'
  have hlt : cupPair c k / 64 < 16 := cupPair_div_lt c k (by omega) hm'
  refine ⟨cupPair_cupPair c k, by omega, fun h => cupPair_div_ne c k hm (congrArg (· / 64) h), cupPair_mod c k, pairAgrees_cupPair,
    verdictOf_of_unreported, verdictOf_of_unfinished, fun x hr hx hy => verdictOf_of_agreeing hr (pairAgrees_iff.mpr ⟨x, hx, hy⟩), exists_agreeing_third_of_loses⟩

end Sys2Proof.Machine
end

section
/-! The codes of the kinds of die (R419). -/
namespace Sys2Proof.Machine

/-- Settles O58: a site's code is that of the kind of die it holds. -/
theorem dieKindsCoded : Obligations.DieKindsCoded := by
  intro site k n h
  unfold kindCode
  rw [h]
  cases k <;> simp

end Sys2Proof.Machine
end

section
/-! Fault messages at the collector, ALERT_N and recoveries (R347 to R359). -/
namespace Sys2Proof.Machine

/-! A message reaches a barista (R350, R387). -/

section Arrival
variable {s d : State} {n : Nat} {m : FaultMsg} {rep : Bool} (hd : d = sigArrive s (faultPacket (siteBA n) m rep))

section Elsewhere
include hd

theorem doFault_of_inactive (h : n ≠ s.active.val) : doFault s n m rep =
    if n = 1 ∧ roleOf s 1 = .standby then emit d (.sig (faultPacket (siteBA 0) m rep)) else dropMark d m := by
  subst hd
  exact if_pos h

theorem doFault_of_down (hn : n = s.active.val) (hc : collectorUp s = false) : doFault s n m rep = dropMark d m := by
  subst hd
  exact (if_neg (not_not.mpr hn)).trans (if_pos (by simp [hc]))

/-- A message is lost where the collector is at work or its own queue comes first (R350). -/
theorem doFault_of_sent (hn : n = s.active.val) (hc : collectorUp s = true) (h : ¬(s.faults.internal.head? = some m ∧ rep = false)) :
    doFault s n m rep = if s.ticks < s.faults.busyUntil ∨ s.faults.internal ≠ [] then dropMark (bump d Obj.faultOverruns) m else handleMsg d m rep := by
  have hown : ¬(s.faults.internal.head? = some m ∧ (!rep) = true) := by rwa [Bool.not_eq_true']
  subst hd
  unfold doFault
  rw [if_neg (not_not.mpr hn), if_neg (by simp [hc]), if_neg hown]
  refine if_congr ?_ rfl rfl
  simp

end Elsewhere

theorem doFault_of_own (hn : n = s.active.val) (hc : collectorUp s = true) (hh : s.faults.internal.head? = some m) (hr : rep = false) :
    doFault s n m rep = if s.ticks < s.faults.busyUntil then s
      else handleMsg (setFaults s (fun f => { f with internal := f.internal.tail })) m false := by
  unfold doFault
  rw [if_neg (not_not.mpr hn), if_neg (by simp [hc]), if_pos ⟨hh, by simp [hr]⟩]

end Arrival

/-! The collector handles a message (R349 to R352). -/

section Handled
variable {s u : State} {m : FaultMsg} (hu : u = setFaults s (fun f => { f with busyUntil := s.ticks + 200 }))
include hu

theorem handleMsg_of_repeat (h : s.faults.kept.any (fun k => k.msg == m) = true) : handleMsg s m true =
    sendAck (setFaults (bump u Obj.faultRepeats) (fun f =>
      { f with kept := f.kept.map (fun k => if k.msg = m then { k with ackAt := s.ticks } else k) })) m := by
  subst hu
  exact if_pos h

/-- A new message is logged, pulses ALERT_N, is kept if it repeats, and is acknowledged after its action (R350, R351). -/
theorem handleMsg_of_new {rep forced alerting : Bool} {v w x : State} (h : rep = false ∨ s.faults.kept.any (fun k => k.msg == m) = false)
    (hf : forced = s.faults.forcedMsgs.contains m) (ha : alerting = decide (dval s Obj.alertLevel ≤ m.severity.toNat))
    (hv : v = dropMark (logMessage u m forced alerting) m)
    (hw : w = if alerting = true then setFaults v (fun f => { f with alert := .pulsing, alertSince := v.ticks }) else v)
    (hx : x = actMessage (if kindRepeats m.kind.toNat = true
      then setFaults w (fun f => { f with kept := f.kept ++ [{ site := m.site.toNat, msg := m, ackAt := w.ticks }] }) else w) m forced) :
    handleMsg s m rep = if kindRepeats m.kind.toNat = true then sendAck x m else x := by
  have hn : ¬(rep && s.faults.kept.any (fun k => k.msg == m)) = true := by
    rw [Bool.and_eq_true]
    rintro ⟨hr, hk⟩
    rcases h with h | h
    · simp [h] at hr
    · simp [h] at hk
  subst hx hw hv ha hf hu
  exact if_neg hn

end Handled

/-- Without an acknowledgement for 2 us a copy leaves for the barista named (R349). -/
theorem doFaultRepeat_eq (s : State) (m : FaultMsg) : doFaultRepeat s m =
    if s.faults.repeaters.any (fun e => e.msg == m && decide (s.ticks ≥ e.sentAt + 2000)) = true then
      emit (setFaults s (fun f => { f with repeaters := f.repeaters.map (fun e => if e.msg = m then { e with sentAt := s.ticks } else e) }))
        (.sig (faultPacket (siteBA s.named.val) m true))
    else s := by
  unfold doFaultRepeat
  rw [← List.isSome_find?]
  cases s.faults.repeaters.find? (fun e => e.msg == m && decide (s.ticks ≥ e.sentAt + 2000)) with
  | none => rfl
  | some e => rfl

/-! Messages made by FAULT_FORCE (R353). -/

section Force
variable {s : State} {site : Nat} {v : Word} {k : DieKind} {n : Nat}

theorem doFaultForce_of_unknown (h : kindRow (fld v.toNat 40 8) = none) : (doFaultForce s site v).2 = s := by
  unfold doFaultForce
  cases siteKind site <;> simp [h]

theorem doFaultForce_of_kind {bs : List Nat} {sev : Nat} {m : FaultMsg} (hk : siteKind site = some (k, n))
    (h : kindRow (fld v.toNat 40 8) = some (bs, sev))
    (hm : m = { site := BitVec.ofNat 7 site, block := BitVec.ofNat 5 (fld v.toNat 48 5), kind := BitVec.ofNat 8 (fld v.toNat 40 8), poison := false
                detail := BitVec.ofNat 40 v.toNat
                severity := BitVec.ofNat 3 (if fld v.toNat 40 8 = 0x1C ∧ bitAt v.toNat 12 = true then 5 else sev) }) :
    (doFaultForce s site v).2 =
      if dval s Obj.lcState = 2 ∨ 2 ^ 53 ≤ v.toNat ∨ fld v.toNat 48 5 ∉ blocksOf k ∨ fld v.toNat 48 5 ∉ bs then s
      else raiseMsg (setFaults s (fun f => { f with forcedMsgs := f.forcedMsgs ++ [m] })) m := by
  subst hm
  simp only [doFaultForce, hk, h, apply_ite Prod.snd, List.contains_eq_mem, Bool.not_eq_true', decide_eq_false_iff_not, ge_iff_le]

end Force

/-! ALERT_N (R354). -/

section Alert
variable {s : State}

theorem doAlertPulseEnd_eq : doAlertPulseEnd s = if s.faults.alert = .pulsing ∧ s.faults.alertSince + 10000 ≤ s.ticks then setFaults s (fun f => { f with
    alert := if s.faults.alertByPower = true ∨ (dval s Obj.alertMode = 1 ∧ s.faults.clearPending = false) then .held else .released
    clearPending := false }) else s := by
  unfold doAlertPulseEnd
  rw [← ite_not]
  refine if_congr ?_ ?_ rfl
  · simp only [not_or, not_not, ne_eq, Nat.not_lt]
  · simp only [Bool.or_eq_true, Bool.and_eq_true, decide_eq_true_eq, Bool.not_eq_true']

theorem doAlertClear_eq (v : Nat) : doAlertClear s v = if v ≠ 1 ∨ s.faults.alert = .released then s
    else if s.faults.alert = .pulsing then setFaults s (fun f => { f with clearPending := true })
    else if s.faults.alertByPower = true then s else setFaults s (fun f => { f with alert := .released }) := by
  unfold doAlertClear
  by_cases hv : v ≠ 1
  · simp [hv]
  · cases h : s.faults.alert <;> simp [hv]

end Alert

/-! Recoveries end (R358, R359). -/

section Recovery
variable {s : State} {r : Recovery}

theorem doRecoveryEnd_of_none (h : s.faults.recovery = none) : doRecoveryEnd s = s := by
  simp only [doRecoveryEnd, h]

variable (h : s.faults.recovery = some r)
include h

theorem doRecoveryEnd_of_early {t : Word} (ht : r.until_ = some t) (hn : s.now.toNat < t.toNat) : doRecoveryEnd s = s := by
  simp only [doRecoveryEnd, h, ht]
  exact if_pos (by simpa using hn)

/-- Tiles of a recovery that have lost their comb again and still have a port in service (R359). -/
def darkAgain (s : State) (r : Recovery) : List FaultUnit :=
  (unitsOf s r.msg).filter (fun u => match u with
    | .comb bt => (tfind s.light.lossAt bt).isSome && !(tilePorts s bt true).isEmpty
    | _ => false)

variable (hp : ∀ t, r.until_ = some t → t.toNat ≤ s.now.toNat)
include hp

/-- A recovery that is over switches in what is dark again, else lets the next waiting one start (R358, R359). -/
theorem doRecoveryEnd_of_past : doRecoveryEnd s =
    if darkAgain s r ≠ [] ∧ r.msg.kind = 0x20 then
      setFaults ((darkAgain s r).foldl (fun y x => match x with | .comb bt => switchIn y bt (boundaryAfter s 700) | _ => y) s)
        (fun f => { f with recovery := some { r with until_ := some (boundaryAfter s 700) } })
    else startWaiting (raiseMax s Obj.recoveryMax (s.ticks - r.from_)) (raiseMax s Obj.recoveryMax (s.ticks - r.from_)).faults.waitingRec := by
  have hpast : (!(match r.until_ with | some t => decide (t.toNat ≤ s.now.toNat) | none => true)) ≠ true := by
    cases ht : r.until_ with
    | none => simp
    | some t => simpa using hp t ht
  unfold doRecoveryEnd
  rw [h]
  refine (if_neg hpast).trans (if_congr ?_ rfl rfl)
  rw [Bool.not_eq_true', ← Bool.not_eq_true, List.isEmpty_iff]
  rfl

end Recovery

/-- Settles O41: a message by where it arrives and what the collector is at, ALERT_N by its state, a recovery by its boundary and the tiles
that are dark again. -/
theorem faultsCollected : Obligations.FaultsCollected := by
  refine ⟨fun n m rep s d hd => ⟨fun h => ?_, fun hn hc => ?_, fun hn hc hh hr => ?_, fun hn hc h => ?_⟩,
    fun m s u hu => ⟨rfl, handleMsg_of_repeat hu, fun rep forced alerting v w x => handleMsg_of_new hu⟩, ?_,
    fun m s => congrArg Host.Outcome.next (doFaultRepeat_eq s m), fun s => rfl,
    fun site v s k n hk => ⟨fun h => ?_, fun bs sev m h hm => ?_⟩, fun s => congrArg Host.Outcome.next doAlertPulseEnd_eq,
    fun v s => ?_, fun s => ⟨fun h => ?_, fun r h => ⟨fun t ht hn => ?_, fun dark u hp hu hd => ⟨fun hl => ?_, fun hl hk => ?_⟩⟩⟩,
    fun s m forced rest => ⟨rfl, ?_⟩⟩
  · exact congrArg Host.Outcome.next (doFault_of_inactive hd h)
  · exact congrArg Host.Outcome.next (doFault_of_down hd hn hc)
  · exact congrArg Host.Outcome.next (doFault_of_own hn hc hh hr)
  · exact congrArg Host.Outcome.next (doFault_of_sent hd hn hc h)
  · rintro src seq m s _ rfl
    rfl
  · exact congrArg Host.Outcome.next (doFaultForce_of_unknown h)
  · exact congrArg Host.Outcome.next (doFaultForce_of_kind hk h hm)
  · refine congrArg Host.Outcome.next ((doAlertClear_eq v.toNat).trans ?_)
    simp only [ne_eq, ← BitVec.toNat_inj]
    rfl
  · exact congrArg Host.Outcome.next (doRecoveryEnd_of_none h)
  · exact congrArg Host.Outcome.next (doRecoveryEnd_of_early h ht hn)
  · subst hd
    subst hu
    exact congrArg Host.Outcome.next ((doRecoveryEnd_of_past h hp).trans (if_neg fun ⟨hd, hk⟩ => hl.elim hd fun hk' => hk' hk))
  · subst hd
    exact congrArg Host.Outcome.next ((doRecoveryEnd_of_past h hp).trans (if_pos ⟨hl, hk⟩))
  · rintro _ rfl
    rfl

end Sys2Proof.Machine
end

section
/-! Commits, compaction and the baristas' slots (R381, R391 to R393, R400). -/
namespace Sys2Proof.Machine

/-! Commits (R392). -/

section Commit
variable {s : State}

theorem tryCommit_eq (s : State) (cause : Nat) : tryCommit s cause =
    if collectorUp s = false then s else if mayCommit s = true then commitNow s cause
    else setJournal s (fun j => { j with due := some (s.journal.due.getD cause) }) := by
  simp only [tryCommit, Bool.not_eq_true']
  rfl

theorem doPeriodic_of_early (h : collectorUp s = false ∨ s.ticks < s.journal.periodicAt + 1000000000) : doPeriodic s = s :=
  if_pos (by simpa only [Bool.not_eq_true'] using h)

/-- The second's batch: the class C records and the wear, unless the journal holds 122,880 records (R391, R400). -/
theorem doPeriodic_of_due {u : State} (hc : collectorUp s = true) (hs : s.journal.periodicAt + 1000000000 ≤ s.ticks)
    (hu : u = wearSeconds s ((s.ticks - s.journal.periodicAt) / 1000000000)) : doPeriodic s =
    if (carafeOf u u.active.val).journalFrom.toNat + 122880 ≤ (carafeOf u u.active.val).lastCommit.toNat + 1 then
      tryCommit (setJournal u (fun j => { j with periodicAt := u.ticks })) 0
    else tryCommit (List.foldl addRecord (setJournal u (fun j => { j with periodicAt := u.ticks, classC := [] })) (u.journal.classC ++ wearRecords u)) 0 := by
  have hno : ¬((!collectorUp s) = true ∨ s.ticks < s.journal.periodicAt + 1000000000) := by simp only [hc, Bool.not_true, Bool.false_eq_true, false_or, not_lt, hs]
  refine (if_neg hno).trans ?_
  rw [← hu]
  split
  · simp only [ge_iff_le, decide_eq_true ‹_›, if_true, List.foldl_nil]
  · simp only [ge_iff_le, decide_eq_false ‹_›, Bool.false_eq_true, if_false]

end Commit

/-! Compaction (R393). -/

section Compaction
variable (c : Carafe)

theorem doCompaction_eq (s : State) (n : Nat) : doCompaction s n =
    if carafeWorks s n = true ∧ (carafeOf s n).compacting = none ∧ 65536 ≤ (carafeOf s n).lastCommit.toNat + 1 - (carafeOf s n).journalFrom.toNat then
      setCarafe s n (startCompact (carafeOf s n))
    else s := by
  simp only [doCompaction, journalFill, Option.isNone_iff_eq_none, ge_iff_le]

theorem doCompactionDone_of_none {s : State} {n : Nat} (h : (carafeOf s n).compacting = none) : doCompactionDone s n = s := by
  simp only [doCompactionDone, h]

theorem doCompactionDone_of_compacting {s : State} {n : Nat} {last : Word} (h : (carafeOf s n).compacting = some last) :
    doCompactionDone s n = setCarafe s n (endCompact (carafeOf s n) last) := by
  simp only [doCompactionDone, h]

/-- Writing a record changes the units of a carafe, and nothing else. -/
theorem putRec_eq (u : Nat) (r : Rec) : ∃ us, putRec c u r = { c with units := us } := ⟨_, rfl⟩

theorem foldl_putRec_eq (at_ : Nat → Nat) (rs : List Rec) (i : Nat) :
    ∃ us, (rs.foldl (fun (p : Nat × Carafe) r => (p.1 + 1, putRec p.2 (at_ p.1) r)) (i, c)).2 = { c with units := us } := by
  induction rs generalizing i c with
  | nil => exact ⟨c.units, rfl⟩
  | cons r rs ih =>
    obtain ⟨us, hus⟩ := putRec_eq c (at_ i) r
    obtain ⟨us', hus'⟩ := ih (putRec c (at_ i) r) (i + 1)
    exact ⟨us', hus'.trans (by rw [hus])⟩

/-- The end of a compaction takes the other area, with GEN one higher, and keeps the last commit (R393). -/
theorem endCompact_eq (last : Word) : ∃ us, endCompact c last =
    { c with units := us, area := 1 - c.area, gen := c.gen + 1, journalFrom := last + 1, compacting := none } := by
  unfold endCompact
  dsimp only
  generalize applyRecs _ _ = rs
  obtain ⟨us, hus⟩ := foldl_putRec_eq c (genUnit (1 - c.area)) rs 1
  rw [hus]
  obtain ⟨us', hus'⟩ := putRec_eq { c with units := us } (genUnit (1 - c.area) 0) (genHeader (c.gen + 1) (last + 1) rs)
  rw [hus']
  exact ⟨us', rfl⟩

theorem endCompact_spec (last : Word) : (endCompact c last).gen = c.gen + 1 ∧ (endCompact c last).area = 1 - c.area ∧
    (endCompact c last).journalFrom = last + 1 ∧ (endCompact c last).compacting = none ∧ (endCompact c last).lastCommit = c.lastCommit := by
  obtain ⟨us, h⟩ := endCompact_eq c last
  rw [h]
  exact ⟨rfl, rfl, rfl, rfl, rfl⟩

end Compaction

/-! A slot at a barista (R381), by what stands first in its queue. -/

section Slot
variable {s : State} {n k : Nat} {rest : List (Nat × List Flit)}

theorem doBaristaSlot_of_none (h : tget (fun _ => []) s.houseIn (houseKey (siteBA n) 3) = []) : doBaristaSlot s n = s := by
  simp only [doBaristaSlot, h]

theorem doBaristaSlot_of_empty (h : tget (fun _ => []) s.houseIn (houseKey (siteBA n) 3) = (k, []) :: rest) :
    doBaristaSlot s n = { s with houseIn := tset (fun _ => []) s.houseIn (houseKey (siteBA n) 3) rest } := by
  simp only [doBaristaSlot, h]

theorem doBaristaSlot_of_flits {d : Flit} {fs : List Flit} {u : State}
    (h : tget (fun _ => []) s.houseIn (houseKey (siteBA n) 3) = (k, d :: fs) :: rest)
    (hu : u = overNats (List.range (min fs.length 25)) (fun i x => takeItem x n (leAt d.data i 1) ((fs.getD i { data := [], poison := false }).data))
      { s with houseIn := tset (fun _ => []) s.houseIn (houseKey (siteBA n) 3) rest }) :
    doBaristaSlot s n = if n ≠ u.active.val ∧ (roleOf u n = .standby ∨ roleOf u n = .remirroring) then slotItem u n 3 (ackBytes u n) else u := by
  subst hu
  simp only [doBaristaSlot, h]

end Slot

/-- Settles O46: a commit by the barista and the standby's acknowledgement, the second's batch by the journal's fill, a compaction by its state,
and a slot by what stands first in the queue. -/
theorem carafeCommits : Obligations.CarafeCommits := by
  refine ⟨tryCommit_eq, fun v s => ⟨rfl, rfl⟩, fun s => ⟨fun h => ?_, fun u hc hs hu => ⟨fun h => ?_, fun h => ?_⟩⟩,
    fun n s => congrArg Host.Outcome.next (doCompaction_eq s n.val), fun n s => ⟨fun h => ?_, fun last h => ?_⟩, fun c last => ⟨rfl, endCompact_spec c last⟩,
    fun n s => ⟨fun h => ?_, fun k rest h => ?_, fun k d fs rest u h hu => ?_⟩⟩
  · exact congrArg Host.Outcome.next (doPeriodic_of_early h)
  · exact congrArg Host.Outcome.next ((doPeriodic_of_due hc hs hu).trans (if_pos h))
  · exact congrArg Host.Outcome.next ((doPeriodic_of_due hc hs hu).trans (if_neg (Nat.not_le.mpr h)))
  · exact congrArg Host.Outcome.next (doCompactionDone_of_none h)
  · exact congrArg Host.Outcome.next (doCompactionDone_of_compacting h)
  · exact congrArg Host.Outcome.next (doBaristaSlot_of_none h)
  · exact congrArg Host.Outcome.next (doBaristaSlot_of_empty h)
  · exact congrArg Host.Outcome.next (doBaristaSlot_of_flits h hu)

end Sys2Proof.Machine
end

section
/-! Updating and confirming firmware (R411, R433 to R437). -/
namespace Sys2Proof.Machine

/-! Segments of an image (R411, R434). -/

section Segment
variable {s u : State} {id : ClientId} {last : Bool} {offset total : Nat} {data : List Byte}

/-- A segment that does not continue the client's own image changes nothing (R434). -/
theorem updateSegment_of_next : (updateSegment s id false last offset total data).state =
    if s.sec.updState ≠ 1 ∨ s.sec.updClient ≠ some id ∨ offset ≠ s.sec.updBuf.length ∨ (last = false ∧ data.length ≠ 1024) ∨
      (last = true ∧ s.sec.updBuf.length + data.length ≠ s.sec.updTotal) ∨ s.sec.updTotal < s.sec.updBuf.length + data.length then s
    else afterSegment (setSec s (fun x => { x with updBuf := x.updBuf ++ data })) last := by
  simp only [updateSegment, Bool.false_eq_true, if_false, apply_ite SegAnswer.state, Bool.not_eq_true', ite_or, gt_iff_lt]

theorem afterSegment_eq (hu : u = if s.sec.pendingFw = [] then setFwImage s s.active.val (inactiveSlot s) s.sec.updBuf else s) :
    afterSegment s last = if last = true then setSec u (fun x => { x with updState := 2 }) else u := by
  subst hu
  simp only [afterSegment, List.isEmpty_iff]

/-- A first segment empties the slot it is for: by a record, or in recovery by the boot ROM (R434, R437). -/
theorem updateSegment_of_first {k : Nat} {p : Nat × Nat} (hk : k = inactiveSlot s)
    (hu : u = setSec s (fun x => { x with updState := 1, updClient := some id, updTotal := total, updBuf := data })) (hp : p = withSlot u k 0) :
    (updateSegment s id true last offset total data).state =
      if (s.sec.updState = 1 ∧ s.sec.updClient ≠ some id) ∨ s.sec.updState = 2 ∨ s.sec.updState = 3 ∨ offset ≠ 0 ∨ total ≠ 512 + leAt data 16 4 ∨
        data.length < 20 ∨ (last = false ∧ data.length ≠ 1024) ∨ (last = true ∧ data.length ≠ total) then s
      else if dval s Obj.lcState = 4 then dset s Obj.updateResult 6
      else afterSegment (if s.sec.recovery = true then romSlots u p.1 p.2 else commitDue (fwSlotRecord u k 0)) last := by
  subst hp hu hk
  simp only [updateSegment, if_true, apply_ite SegAnswer.state, apply_ite (afterSegment · last), Bool.not_eq_true', ite_or]

end Segment

theorem markStaged_eq {s : State} {k : Nat} {p : Nat × Nat} (hk : k = inactiveSlot s) (hp : p = withSlot s k 3) : markStaged s =
    if s.sec.recovery = true then setSec (romSlots s p.1 p.2) (fun x => { x with updState := 5, updBuf := [] }) else commitDue (fwSlotRecord s k 1) := by
  subst hp hk
  rfl

/-! A whole image is checked and copied (R433, R434). -/

section Whole
variable {s : State}

theorem doImageVerified_of_other (h : s.sec.updState ≠ 2 ∨ s.sec.pendingFw ≠ []) : doImageVerified s = s :=
  if_pos (by simpa only [Bool.not_eq_true', ← Bool.not_eq_true, List.isEmpty_iff] using h)

theorem doImageVerified_of_whole {u v : State} (hs : s.sec.updState = 2) (hp : s.sec.pendingFw = [])
    (hu : u = dset s Obj.updateResult (imageCheck s s.sec.updBuf)) (hv : v = setSec u (fun x => { x with updState := 3 })) : doImageVerified s =
    if imageCheck s s.sec.updBuf ≠ 0 then dropUpdate u 7 else if standbyHere u = true ∧ s.sec.recovery = false then v else markStaged v := by
  subst hv hu
  refine (if_neg (by simp [hs, hp])).trans (if_congr Iff.rfl rfl (if_congr ?_ rfl rfl))
  rw [Bool.not_eq_true']
  exact Iff.rfl

theorem doImageCopied_of_other (h : s.sec.updState ≠ 3 ∨ s.sec.pendingFw ≠ []) : doImageCopied s = s :=
  if_pos (by simpa only [Bool.not_eq_true', ← Bool.not_eq_true, List.isEmpty_iff] using h)

theorem doImageCopied_of_copying (hs : s.sec.updState = 3) (hp : s.sec.pendingFw = []) :
    doImageCopied s = markStaged (setFwImage s (1 - s.active.val) (inactiveSlot s) s.sec.updBuf) := if_neg (by simp [hs, hp])

end Whole

/-! Arming and confirming (R435 to R437). -/

section Activate
variable {s : State} {v : Nat}

theorem doUpdateActivate_of_recovery (h : s.sec.recovery = true) : (doUpdateActivate s v).2 =
    if v = 1 ∧ slotSt s (inactiveSlot s) = 3 then enterRom s s.startup.slotId s.ticks s.ticks else s := by
  by_cases hv : v = 1
  · simp only [doUpdateActivate, hv, h, ne_eq, not_true_eq_false, if_false, if_true, true_and, apply_ite Prod.snd]
  · simp only [doUpdateActivate, hv, ne_eq, not_false_eq_true, if_true, false_and, if_false]

theorem doUpdateActivate_of_running (h : s.sec.recovery = false) : (doUpdateActivate s v).2 =
    if v = 1 ∧ slotSt s (inactiveSlot s) = 1 ∧ s.sec.pendingFw = []
    then commitDue (fwSlotRecord (setSec s (fun x => { x with updState := 4 })) (inactiveSlot s) 3) else s := by
  by_cases hv : v = 1
  · simp only [doUpdateActivate, hv, h, ne_eq, not_true_eq_false, if_false, Bool.false_eq_true, true_and, apply_ite Prod.snd, List.isEmpty_iff]
  · simp only [doUpdateActivate, hv, ne_eq, not_false_eq_true, if_true, false_and, if_false]

theorem exec_updateActivate_of_served (w : BitVec 8) (h : collectorUp s = true ∨ s.sec.recovery = true) :
    exec (.updateActivate w) s = .next (doUpdateActivate s w.toNat).2 := congrArg Host.Outcome.next (if_pos h)

theorem exec_updateActivate_of_unserved (w : BitVec 8) (hc : collectorUp s = false) (hr : s.sec.recovery = false) :
    exec (.updateActivate w) s = .next s := congrArg Host.Outcome.next (if_neg (by simp [hc, hr]))

theorem doConfirmTimer_eq (s : State) : doConfirmTimer s =
    if dval s Obj.updateConfirmTime = 0 ∨ dval s Obj.moduleState ≠ 1 ∨ collectorUp s = false ∨
      s.ticks < s.startup.readyTick + dval s Obj.updateConfirmTime * 1000000000 then s else (confirmTrial s).2 := by
  simp only [doConfirmTimer, Bool.not_eq_true']

theorem confirmTrial_of_unbooted (h : bootedOf s s.active.val = none) : (confirmTrial s).2 = s := by
  simp only [confirmTrial, h]

/-- A confirmed trial's slot is confirmed, the other staged, and the rollback counter rises to its version (R436). -/
theorem confirmTrial_of_booted {b : Fin 2} (h : bootedOf s s.active.val = some b) : (confirmTrial s).2 =
    if s.sec.trial = false ∨ s.sec.pendingFw ≠ [] then s
    else commitDue (fwRecord (setSec s (fun x => { x with updState := 6 }))
      (if b = 0 then 2 else 1) (if b = 0 then 1 else 2) (some (max (dval s Obj.rollbackSvn) (leAt (runningImage s) 12 4)))) := by
  simp only [confirmTrial, h, apply_ite Prod.snd, apply_ite Prod.fst, Bool.not_eq_true', ne_eq, ← List.isEmpty_iff, Bool.not_eq_true]

end Activate

/-- Settles O49: a segment by whether it begins an image, an image by its state and its check, and ACTIVATE and CONFIRM by the slot and the
trial they find. -/
theorem firmwareUpdate : Obligations.FirmwareUpdate := by
  refine ⟨fun id first last offset total data s => ⟨fun hc hr => ?_, fun h => ⟨?_, fun k u p hk hu hp => ?_⟩⟩, fun s u last => afterSegment_eq,
    fun s k p => markStaged_eq, fun s => ⟨fun h => ?_, fun h => ?_, fun u v hs hp hu hv => ?_, fun hs hp => ?_⟩,
    fun v s => ⟨exec_updateActivate_of_unserved v, fun hr => ?_, fun hc hr => ?_⟩, fun v s => ⟨rfl, congrArg Host.Outcome.next (doConfirmTimer_eq s)⟩,
    fun s => ⟨confirmTrial_of_unbooted, fun b => confirmTrial_of_booted⟩⟩
  · exact congrArg Host.Outcome.next (if_neg (by simp [hc, hr]))
  · exact congrArg Host.Outcome.next ((if_pos h).trans updateSegment_of_next)
  · exact congrArg Host.Outcome.next ((if_pos h).trans (updateSegment_of_first hk hu hp))
  · exact congrArg Host.Outcome.next (doImageVerified_of_other h)
  · exact congrArg Host.Outcome.next (doImageCopied_of_other h)
  · exact congrArg Host.Outcome.next (doImageVerified_of_whole hs hp hu hv)
  · exact congrArg Host.Outcome.next (doImageCopied_of_copying hs hp)
  · rw [exec_updateActivate_of_served v (.inr hr), doUpdateActivate_of_recovery hr]
    simp only [← BitVec.toNat_inj]
    rfl
  · rw [exec_updateActivate_of_served v (.inl hc), doUpdateActivate_of_running hr]
    simp only [← BitVec.toNat_inj]
    rfl

end Sys2Proof.Machine
end

section
/-! Life cycle, tamper, attestation, the vendor challenge and the debug contacts (R424 to R432, R462). -/
namespace Sys2Proof.Machine

/-! Life-cycle requests (R427). -/

section Request
variable {s : State} {bs : List Byte}

/-- The view of the life cycle does not read LC_RESULT. -/
@[simp] theorem lcView_dset_lcResult (s : State) (c : Nat) : lcView (dset s Obj.lcResult c) = lcView s := by
  have hstate := dval_dset_ne s c (show Obj.lcState ≠ Obj.lcResult by decide)
  have hcounter := dval_dset_ne s c (show Obj.lcCounter ≠ Obj.lcResult by decide)
  have hcount := dval_dset_ne s c (show Obj.tamperCount ≠ Obj.lcResult by decide)
  unfold lcView
  rw [hstate, hcounter, hcount]
  rfl

theorem doLcRequest_of_refused (h : lcCause s bs ≠ 0) : (doLcRequest s bs).2 = dset s Obj.lcResult (lcCause s bs) := by
  simp only [doLcRequest, if_pos h]

theorem doLcRequest_of_passed (h : lcCause s bs = 0) : (doLcRequest s bs).2 =
    commitDue (lcRecord (dset s Obj.lcResult 0) (leAt bs 1 1) (lcKey (lcView s).1 (leAt bs 1 1) (lcView s).2.1 (slice bs 24 57))
      (((lcView s).2.2.1 + 1) % 2 ^ 32) (lcView s).2.2.2 (b2n (leAt bs 1 1 == 0 || leAt bs 1 1 == 4))) := by
  simp only [doLcRequest, h, ne_eq, not_true_eq_false, if_false, lcView_dset_lcResult]

theorem lcCause_of_length (h : bs.length ≠ 202) : lcCause s bs = 1 := if_pos (.inl h)

end Request

/-! Tamper (R428, R429). -/

section Tamper
variable {s : State} {source : Nat}

theorem doTamper_of_broken (h : s.sec.meshBroken = true) : doTamper s 1 = s := (if_pos rfl).trans (if_pos h)

theorem doTamper_of_mesh (h : s.sec.meshBroken = false) : doTamper s 1 =
    if powered s = true then tamperEvent (setSec s (fun x => { x with meshBroken := true })) 1 else setSec s (fun x => { x with meshBroken := true }) :=
  (if_pos rfl).trans (if_neg (by simp [h]))

theorem doTamper_of_other (h : source ≠ 1) : doTamper s source = if powered s = true then tamperEvent s source else s := if_neg h

/-- An event wipes both sealed SRAMs, sets both latches and is owed to the count (R429). -/
theorem tamperEvent_eq (s : State) (source : Nat) : tamperEvent s source = countTamper (dset (setSec s (fun x => { x with
    sealed_ := [], latch := [(0, true), (1, true)], lastSource := source, owed := x.owed + 1
    meshSeen := if source = 1 then true else x.meshSeen })) Obj.tamperLast s.now.toNat) := by
  have hseen (b : Bool) : (b || decide (source = 1)) = if source = 1 then true else b := by
    by_cases h : source = 1 <;> simp [h]
  simp only [tamperEvent, hseen]
  rfl

end Tamper

/-! Attestation and the vendor challenge (R430, R432). -/

section Vendor
variable {s : State}

theorem attestReport_of_latched (nonce : List Byte) (h : tget (fun _ => false) s.sec.latch s.active.val = true) :
    attestReport s nonce = attestBody s nonce ++ List.replicate 114 0 :=
  congrArg (attestBody s nonce ++ ·) (if_pos (.inl h))

theorem exec_vendorResponse_of_unserved {id : ClientId} {sig : List Byte} (h : collectorUp s = false) : exec (.vendorResponse id sig) s = .next s :=
  congrArg Host.Outcome.next (if_neg (by simp [h]))

/-- A response without effect on the state has none, served or not. -/
theorem exec_vendorResponse_of_idle {id : ClientId} {sig : List Byte} (h : (doVendorResponse s id sig).2 = s) :
    exec (.vendorResponse id sig) s = .next s :=
  congrArg Host.Outcome.next ((congrArg (fun t => ite _ t s) h).trans (ite_self s))

theorem doVendorResponse_of_udp (n : Fin 2) (a : BitVec 128) (p : BitVec 16) (sig : List Byte) : (doVendorResponse s (.udp n a p) sig).2 = s := rfl

variable {mac : BitVec 48} {sig : List Byte}

theorem doVendorResponse_of_stranger (h : clientAt s (.field mac) = none) : (doVendorResponse s (.field mac) sig).2 = s := by
  simp only [doVendorResponse, h]

variable {c : Client} (h : clientAt s (.field mac) = some c)
include h

theorem doVendorResponse_of_barred (hb : dval s Obj.lcState ≠ 3 ∨ 3 ≤ c.fails) : (doVendorResponse s (.field mac) sig).2 = s := by
  simp only [doVendorResponse, h, ge_iff_le, if_pos hb]

theorem doVendorResponse_of_allowed (hl : dval s Obj.lcState = 3) (hf : c.fails < 3) : (doVendorResponse s (.field mac) sig).2 =
    if sigOk vendorKey "BZ3VCHAL" (challengeBytes s c) sig = true then updClient s (.field mac) (fun c => { c with vendor := true })
    else updClient s (.field mac) (fun c => { c with fails := c.fails + 1 }) := by
  have hb : ¬(dval s Obj.lcState ≠ 3 ∨ 3 ≤ c.fails) := by simp [hl, hf]
  simp only [doVendorResponse, h, ge_iff_le, if_neg hb, apply_ite Prod.snd]

end Vendor

/-! The debug contacts (R462). -/

/-- A client of the field route. -/
def onFieldRoute : ClientId → Bool
  | .field _ => true
  | .udp _ _ _ => false

theorem onFieldRoute_iff (id : ClientId) : onFieldRoute id = true ↔ ∃ mac, id = .field mac := by
  cases id <;> simp [onFieldRoute]

theorem debugContacts_eq (s : State) : debugContacts s =
    if dval s Obj.lcState = 3 ∧ s.punel.clients.any (fun c => c.vendor && onFieldRoute c.id) = true then .alive else .highImpedance := rfl

theorem debugContacts_alive_iff (s : State) : debugContacts s = .alive ↔
    dval s Obj.lcState = 3 ∧ ∃ c ∈ s.punel.clients, c.vendor = true ∧ ∃ mac, c.id = .field mac := by
  simp only [debugContacts_eq, List.any_eq_true, Bool.and_eq_true, onFieldRoute_iff, ite_eq_left_iff, reduceCtorEq, imp_false, not_not]

/-- Settles O48: a request by its cause, a tamper source by the mesh and the supply, a response by the client it comes from, and the contacts by
who holds vendor privilege. -/
theorem lifeCycleAndTamper : Obligations.LifeCycleAndTamper := by
  refine ⟨fun bs s hc => ?_, fun bs s => ⟨fun hc => ?_, lcCause_of_length⟩, fun s => ⟨fun h => ?_, fun h hp => ?_, fun h hp => ?_⟩,
    fun src s hsrc => ?_, fun id f u s => rfl, fun s nonce => attestReport_of_latched nonce,
    fun mac sig s => ⟨fun h => h.elim exec_vendorResponse_of_unserved fun hn => exec_vendorResponse_of_idle (doVendorResponse_of_stranger hn),
      fun c h => ⟨fun hb => exec_vendorResponse_of_idle (doVendorResponse_of_barred h hb), fun hc hl hf => ?_⟩⟩,
    fun n a p sig s => exec_vendorResponse_of_idle (doVendorResponse_of_udp n a p sig), debugContacts_alive_iff⟩
  · refine congrArg Host.Outcome.next ((if_pos hc).trans ?_)
    split
    · exact doLcRequest_of_passed ‹_›
    · exact doLcRequest_of_refused ‹_›
  · exact congrArg Host.Outcome.next (if_neg (by simp [hc]))
  · exact congrArg Host.Outcome.next (doTamper_of_broken h)
  · exact congrArg Host.Outcome.next ((doTamper_of_mesh h).trans (if_neg (by simp [hp])))
  · exact congrArg Host.Outcome.next ((doTamper_of_mesh h).trans ((if_pos hp).trans (tamperEvent_eq _ 1)))
  · have hne : src.val + 1 ≠ 1 := by
      rw [ne_eq, Nat.add_eq_right, ← Fin.val_zero 3, Fin.val_inj]
      exact hsrc
    refine ⟨fun hp => ?_, fun hp => ?_⟩
    · exact congrArg Host.Outcome.next ((doTamper_of_other hne).trans (if_neg (by simp [hp])))
    · refine congrArg Host.Outcome.next ((doTamper_of_other hne).trans ((if_pos hp).trans ((tamperEvent_eq _ _).trans ?_)))
      simp only [if_neg hne]
  · exact congrArg Host.Outcome.next ((if_pos hc).trans (doVendorResponse_of_allowed h hl hf))

end Sys2Proof.Machine
end

section
/-! The events of start-up, its joints and its limits (R394, R397, R439 to R445, R450). -/
namespace Sys2Proof.Machine

section Events
variable (s : State)

theorem startEvent_input (slotId : BitVec 6) : startEvent s (.input slotId) =
    if s.startup.step = 0 ∧ dval s Obj.moduleState = 0 ∧ s.startup.inReset = false ∧ s.pow.good ≠ none then
      { s with
        startup := { ({} : Startup) with step := 1, began := s.ticks, stepAt := s.ticks, slotId := slotId }
        pow := { s.pow with failed := false } }
    else s := by
  simp only [startEvent, Bool.not_eq_true', Option.isSome_iff_ne_none]

theorem startEvent_rom (b : Fin 2) (pass plate : Bool) : startEvent s (.rom b pass plate) =
    if s.startup.step = 2 ∧ unitDone s b.val = false then romResult s b.val pass plate else s := by
  simp only [startEvent, Bool.not_eq_true']

/-- A barista that passes derives its keys unless the cover mesh is broken; a break that nobody has counted is owed (R424, R428). -/
theorem romResult_of_pass {s u : State} {n : Nat} (hu : u = setSec (finishUnit s n) (fun x => { x with
      latch := tset (fun _ => false) x.latch n s.sec.meshBroken, sealed_ := tset (fun _ => false) x.sealed_ n (!s.sec.meshBroken) })) :
    romResult s n true false = if s.sec.meshBroken = true ∧ s.sec.meshSeen = false then
      dset (setSec u (fun x => { x with meshSeen := true, owed := x.owed + 1, lastSource := 1 })) Obj.tamperLast s.now.toNat else u := by
  subst hu
  unfold romResult
  rw [if_neg Bool.false_ne_true]
  refine (if_neg Bool.false_ne_true).trans (if_congr (and_congr_right fun _ => ?_) rfl rfl)
  rw [Bool.not_eq_true']
  exact Iff.rfl

theorem startEvent_carafe {s u : State} {b : Fin 2} {erased : List (BitVec 24)} {lost : List (Fin 2 × FactoryItem)} {c : Carafe}
    (hc : c = recoverCarafe { eraseUnits (carafeOf s b.val) (erased.map (·.toNat)) with lost := lost }) (hu : u = finishUnit (setCarafe s b.val c) b.val) :
    startEvent s (.carafe b erased lost) = if s.startup.step = 3 ∧ romLive s b.val = true ∧ unitDone s b.val = false
      then (if newestGen c ≠ none then finishUnit u (10 + b.val) else u) else s := by
  subst hu hc
  simp only [startEvent, Bool.not_eq_true', Option.isSome_iff_ne_none]

/-- A stack trains once, and not before the rows it is about to fuse are committed (R194). -/
theorem startEvent_stack (m : Fin 24) (trained : Bool) (bd : Option (Fin 18)) : startEvent s (.stack m trained bd) =
    if s.startup.step = 9 ∧ (trainStacks s).contains m.val = true ∧ unitDone s m.val = false ∧
      s.journal.pending.any (fun r => r.type == 0x0030 && leAt r.data 0 1 == 1) = false then
      finishUnit (if trained = true then stackTrained s m.val bd else updStack s m.val (stackOut 2)) m.val else s := by
  simp only [startEvent, Bool.not_eq_true']

/-- A line with uncorrected words, or too many corrected, is excluded; one with any is noted (R443). -/
theorem startEvent_line {s u : State} {p : Fin 366} {rx : Bool} {line : Fin 36} {bad : Bool} {n : BitVec 32}
    (hu : u = setStartup s (fun x => { x with badLines := addPos x.badLines (ringKey p.val rx line.val) })) : startEvent s (.line p rx line bad n) =
    if s.startup.step = 10 ∧ (bad = true ∨ dval s Obj.laneErrLimit < n.toNat) then applyExclude (if bad = true ∨ 0 < n.toNat then u else s) p.val rx line.val
    else if s.startup.step = 10 ∧ 0 < n.toNat then u else s := by
  subst hu
  rfl

end Events

/-- A joint that fails takes a spare of its group; beyond two spares the group has its outcome, once (R444, R445). -/
theorem jointFails_eq {s : State} {site group joint key : Nat} {carries : JointCarries} {fence : State → State} {g g' : JointGroup}
    (hk : key = jointKey site group) (hg : g = jointAt s key) (hg' : g' = { g with spared := g.spared ++ [joint] }) :
    jointFails s site group joint carries fence = if joint ∈ g.spared ∨ jointFits site carries = false then s
      else if g.spared.length < 2 then
        (if s.startup.step = 7 then setStartup (setJoint s key g') (fun x => { x with jointsNew := addPos x.jointsNew key }) else jointRecord (setJoint s key g') key g')
      else if g.beyond = true then s else jointOutcome (setJoint s key { g with beyond := true }) site carries fence := by
  subst hg' hg hk
  simp only [jointFails, List.contains_eq_mem, decide_eq_true_eq, Bool.not_eq_true']
  rfl

/-- Settles O50: each event by the step it belongs to and the units that have finished, a joint by its group's spares, and a step's end by its
units and its limit. -/
theorem startUpSteps : Obligations.StartUpSteps := by
  refine ⟨fun slotId s => ?_, fun bad s => rfl, fun b pass plate s => ?_, fun b pass s u => ⟨rfl, rfl, romResult_of_pass⟩,
    fun b erased lost s c u hc hu => ?_, fun site k rev level id s => rfl, fun site pass s => rfl, fun site group carries failed s => ⟨rfl, rfl⟩,
    fun site group joint carries fence s key g g' => jointFails_eq, fun c locked s => rfl, fun m trained bd s => ?_,
    fun p rx line bad n s u hu => ?_, fun s => ⟨rfl, rfl⟩⟩
  · exact congrArg Host.Outcome.next (startEvent_input s slotId)
  · exact congrArg Host.Outcome.next (startEvent_rom s b pass plate)
  · exact congrArg Host.Outcome.next (startEvent_carafe hc hu)
  · exact congrArg Host.Outcome.next (startEvent_stack s m trained bd)
  · exact congrArg Host.Outcome.next (startEvent_line hu)

end Sys2Proof.Machine
end
